-- ==== Sys2Proof/Word.lean ====
section
/-!
DEFINITION. Sys2Proof/Word.lean: the widths the spec gives registers, words and bytes (00_scope R16, R18).
-/

namespace Sys2Proof

/-- A 32-bit register or tile word (00_scope, Registers). -/
abbrev Word := BitVec 32

/-- A byte of a memory, a frame or a message. -/
abbrev Byte := BitVec 8

/-- A 64-bit word: an EVW (06 R218) or one protected unit of a memory (21 R810). -/
abbrev DWord := BitVec 64

end Sys2Proof
end

