-- ==== Sys2Proof/Syntax.lean ====
section
/-!
DEFINITION. Sys2Proof/Syntax.lean: the commands of the block, one constructor per row of spec/opcode_table.json. The
operands are what the row's event brings with it; the table gives no row any bits.
-/

namespace Sys2Proof

/-- An agent that accesses registers (00_scope R20). -/
inductive Agent where
  | host | bench | touchmark
  deriving DecidableEq, Repr

/-- The epoch-grid registers of row EPOCH_GRID_WRITE (02 R70). -/
inductive GridReg where
  | len | originLo | originHi
  deriving DecidableEq, Repr

/-- A time source of the servo (02, Sources). -/
inductive TimeSource where
  | pps | ptp | ten
  deriving DecidableEq, Repr

/-- What the CSI-2 header check found (04 R168). -/
inductive HeaderCheck where
  | good | corrected | bad
  deriving DecidableEq, Repr

/-- The guard of a tile instruction (10 R373): GN and GP. -/
structure Guard where
  neg : Bool := false
  p : Nat := 0
  deriving DecidableEq, Repr

/-- The word that a scrubber reads (21 R810, R817). Addresses are byte addresses. -/
inductive ScrubAt where
  /-- Tile instruction memory. -/
  | imem (tile addr : Nat)
  /-- Tile data memory, neuron state or delay rings, by data-space address (09 R320). -/
  | data (tile addr : Nat)
  /-- Word 0 to 63 of dynamics memory, or 64 + word of the decay tables. -/
  | dyn (tile word : Nat)
  | pool (addr bank : Nat)
  /-- LPDDR5X; `images` are the sections of the running plan whose golden image includes the word. -/
  | lp (addr channel : Nat) (images : List Nat)
  /-- A packet-buffer cell, and the stored frame that holds it. -/
  | packet (cell : Nat) (frame : Option Nat)
  | nrt (index : Nat) (shadow : Bool)
  | gateMap (gate entry : Nat)
  | merge (gate index : Nat)
  | mac (index : Nat)
  | vlan (vid : Nat)
  /-- A sync counter: 0 to 0xFFFF global, 0x1_0000 + tile * 512 + index local. -/
  | counter (key : Nat)
  | header (slot : Nat)
  | management (addr : Nat)
  | secure (addr : Nat)
  deriving DecidableEq, Repr

/-- What the ECC decoder finds. -/
inductive ScrubFind where
  | clean | corrected | uncorrectable
  deriving DecidableEq, Repr
/-- The commands (spec/opcode_table.json, in its order). -/
inductive Instr where
  /-- R888: A low pulse on PORST_N puts every pin in its reset state and holds the device in reset. -/
  | porstNAssert
  /-- R854: Release of PORST_N starts the boot sequence from AO through the ROM, Touchmark, NET and Bench. -/
  | porstNRelease (failed : List Nat) (bad : List (Nat × Nat))
  /-- R887: A low WARM_N pulse resets the event plane and MGT, returns STAGE to NET_UP and keeps the network plane running. -/
  | warmN (failed : List Nat) (bad : List (Nat × Nat))
  /-- R751: PCIE_PERST_N resets the HST domain only, while forwarding, the plan and procedures continue. -/
  | pciePerstN
  /-- R751: A failure of the PCIe link affects HST only, and HOST_INT_N reports it when the LINK source is enabled. -/
  | pcieLinkDown
  /-- R18: A write to a register that has no row of its own updates its fields by type, or is discarded and logged. -/
  | registerWrite (agent : Agent) (pf : Bool) (off : Nat) (whole : Bool) (data : Word)
  /-- R67: T reaches or passes the next boundary tick, and EPOCH_NUM increments. -/
  | epochBoundary
  /-- R288: In the first fabric cycle at least 24 ns after an armed boundary, every node switches route-table copies and ACTIVE toggles. -/
  | routeTableFlip
  /-- R61: TSB_STEP_CTL.GO applies an absolute or relative step to site time, or is refused while RUN = 1. -/
  | timeStep (agent : Agent) (relative : Bool)
  /-- R69: Setting TSB_EPOCH_CTL.ARM stages TSB_EPOCH_NEXT for the next boundary. -/
  | epochArm (agent : Agent)
  /-- R70: A write of LEN or ORIGIN while RUN = 0 moves the epoch grid without renumbering, or is refused while RUN = 1. -/
  | epochGridWrite (agent : Agent) (reg : GridReg) (data : Word)
  /-- R60: Setting TSB_EPOCH_CTL.RUN marks a running plan, which enables tap mirroring and gate admission and blocks steps. -/
  | runSet (agent : Agent)
  /-- R268: Clearing RUN closes every open symbol and stops taps and gates from admitting. -/
  | runClear (agent : Agent)
  /-- R76: A read of TSB_SNAP_SEC_LO latches seconds, nanoseconds, fraction and T of one cycle. -/
  | snapshotRead
  /-- R58: Setting HOLD_FORCE puts the servo into HOLDOVER with INCR frozen from the integral term. -/
  | holdForce (agent : Agent)
  /-- R54: A PPS_IN edge is captured in site time and forms a weighted offset sample, or is rejected and counted. -/
  | ppsInEdge (rising : Bool) (quarter : Nat)
  /-- R79: A write to TSB_PTP_PUSH pushes an offset, path delay and weight as one PTP sample. -/
  | ptpSamplePush (agent : Agent) (weight : Nat)
  /-- R57: At the end of each servo period the servo computes the integral and output from the active source's sample and sets INCR. -/
  | servoUpdate
  /-- R78: A source that delivers no valid sample for TIMEOUT periods becomes invalid, and selection or holdover follows. -/
  | sourceTimeout (src : TimeSource)
  /-- R83: Loss of REFCLK25 holds the NET PLL, sets REFLOSS and interrupts Bench. -/
  | refclkLoss
  /-- R162: Every BEACON_MS the device sends a BEACON on the back-channel and stamps t1. -/
  | beaconSend (port : Nat)
  /-- R63: A matching BEACON_RESP completes an exchange, which updates O and R of the port map and its lock state. -/
  | beaconResp (port seq bseq t2 t3 : Nat)
  /-- R162: An exchange with no matching response within 1 ms fails and may take the port map to HOLD. -/
  | beaconTimeout (port : Nat)
  /-- R92: A frame received on a fronthaul port is classified, looked up, learned from and forwarded, cut through or stored. -/
  | frameRx (port : Nat) (frame : List Byte) (fcsOk : Bool) (fine : Nat)
  /-- R99: An egress port's scheduler starts transmission of the next stored frame by queue priority. -/
  | frameTx (port fine : Nat)
  /-- R105: The device sends a one-step Pdelay_Resp for a waiting Pdelay_Req once the transmitter is free. -/
  | pdelayRespSend (port fine : Nat)
  /-- R114: An event message that Bench sends through port 8 receives one-step insertion and returns its egress timestamp. -/
  | benchPtpSend (frame : List Byte) (origin : Bool)
  /-- R120: A result frame waiting at port 9 enters the switch with its header fields and FCS written. -/
  | port9FrameIngress
  /-- R94: A learned entry not refreshed for AGE_S seconds is removed. -/
  | macAgeOut (vid mac : Nat)
  /-- R94: A write of AGE_S = 0 removes every learned entry at once. -/
  | macAgeFlush (agent : Agent)
  /-- R129: NET_MAC_CMD OP 0 looks up the key and returns the entry or sets NOT_FOUND. -/
  | macLookup (agent : Agent)
  /-- R95: NET_MAC_CMD OP 1 inserts a static entry, evicting the oldest learned way or setting BUCKET_FULL. -/
  | macInsertStatic (agent : Agent)
  /-- R129: NET_MAC_CMD OP 2 deletes the entry, or sets NOT_FOUND. -/
  | macDelete (agent : Agent)
  /-- R94: NET_MAC_CMD OP 3 removes the learned entries of one port or of all ports. -/
  | macFlushLearned (agent : Agent) (port : Nat)
  /-- R93: NET_VLAN_CMD.WRITE writes VLAN_DATA to the named VID. -/
  | vlanWrite (agent : Agent) (vid : Nat)
  /-- R93: NET_VLAN_CMD.READ reads the named VID into VLAN_DATA. -/
  | vlanRead (agent : Agent) (vid : Nat)
  /-- R89: A write of a group's mode is accepted only while every port of the group is disabled, and otherwise sets REFUSED. -/
  | groupModeSet (agent : Agent) (group : Nat) (hundred : Bool)
  /-- R125: Setting a fronthaul port's EN starts forwarding after block lock and FEC lock. -/
  | portEnable (agent : Agent) (port : Nat)
  /-- R124: Clearing a fronthaul port's EN silences its transmitter, flushes its queues and removes its learned entries. -/
  | portDisable (agent : Agent) (port : Nat)
  /-- R125: A lane gains block lock, LINK rises and forwarding resumes. -/
  | fhLinkUp (port : Nat)
  /-- R135: Loss of signal or block lock clears LINK and CAL_DONE, flushes queues and squelches SyncE. -/
  | fhLinkDown (port : Nat)
  /-- R112: A port's latency calibration completes after link-up and CAL_DONE sets. -/
  | portCalibrationDone (port latRx latTx : Nat)
  /-- R144: A good EVENTS packet's words advance running port time and are put into the port buffer, or are dropped and counted. -/
  | events (port seq : Nat) (words : List Word)
  /-- R66: An ANCHOR packet sets running port time and SYNCED, or returns the port map to IDLE on a large backward jump. -/
  | anchor (port seq time : Nat)
  /-- R151: A HELLO in TRAIN records the head's identity, and the third consecutive one moves the port to IDENT or to LOST with VERSION. -/
  | hello (port seq version vendor model width1 height1 serial : Nat)
  /-- R157: A head KEEPALIVE updates HEAD_DROP and resets the device's credit count to the head's USED. -/
  | keepalive (port seq headDrop used : Nat)
  /-- R189: A PWR_REQ in CLASS asks the power channel for a class, which is granted or refused with CLASS_DENIED. -/
  | pwrReq (port seq cls : Nat)
  /-- R151: A matching CFG_ACK in IDENT moves the port to CLASS, and the port sends PWR_QUERY. -/
  | cfgAck (port seq value : Nat)
  /-- R164: A REGRESP completes the register request slot whose TAG it carries. -/
  | regresp (port seq tag result : Nat) (data : Word)
  /-- R143: A downstream packet failing CRC, length, type or character checks is discarded and counted in CRC_ERR. -/
  | corruptPacket (port : Nat) (eventsClass : Bool)
  /-- R150: Sixteen failed packets within 1 ms put the port into LOST with cause CRC_BURST. -/
  | crcBurst (port : Nat)
  /-- R150: Loss of signal or character alignment for 100 µs puts the port into LOST with cause LOS. -/
  | jxlLos (port : Nat)
  /-- R150: No good packet for 4 ms in IDENT, CLASS or ACTIVE puts the port into LOST with cause TIMEOUT. -/
  | jxlKeepaliveTimeout (port : Nat)
  /-- R150: 100 ms in TRAIN without IDENT puts the port into LOST with cause TRAIN_TIMEOUT. -/
  | trainTimeout (port : Nat)
  /-- R151: No matching CFG_ACK within 10 ms of the first CONFIG puts the port into LOST with cause TIMEOUT. -/
  | cfgAckTimeout (port : Nat)
  /-- R150: No PWR_REQ for 10 ms in CLASS puts the port into LOST with cause TIMEOUT. -/
  | pwrReqTimeout (port : Nat)
  /-- R151: In IDENT the port resends CONFIG every 2 ms until a CFG_ACK arrives. -/
  | configResend (port : Nat)
  /-- R152: The port sends each of its three RESET_HEAD frames, 100 µs apart. -/
  | resetHeadSend (port : Nat)
  /-- R153: 10 ms after a retryable loss the port returns to TRAIN, or goes to OFF after RETRY_MAX returns. -/
  | lostRetry (port : Nat)
  /-- R149: The device sends a back-channel frame at least every 1 ms in TRAIN or later. -/
  | backchannelKeepaliveSend (port : Nat)
  /-- R149: The device sends a FLOW frame carrying LIMIT and PAUSE at least every 50 µs in ACTIVE. -/
  | flowSend (port : Nat)
  /-- R150: Setting a Jexlink port's EN lets the port leave OFF for TRAIN once its power channel reports stage-one power good. -/
  | jxlEnable (agent : Agent) (port : Nat)
  /-- R177: Clearing a Jexlink port's EN takes effect at once, discards the packet in progress and flushes the buffer. -/
  | jxlDisable (agent : Agent) (port : Nat)
  /-- R164: Setting GO in a register request slot sends REG_WR or REG_RD with the slot's TAG. -/
  | regRequestGo (agent : Agent) (port slot addr : Nat) (write : Bool)
  /-- R164: A register request with no REGRESP within 10 ms completes with status TIMEOUT. -/
  | regRequestTimeout (port slot : Nat)
  /-- R169: A Frame Start short packet latches T_FS and clears v7. -/
  | csiFrameStart (port vc : Nat)
  /-- R171: A Frame End short packet takes effect after the previous long packet's program ends. -/
  | csiFrameEnd (port vc : Nat)
  /-- R171: A Line Start short packet takes effect after the previous long packet's program ends. -/
  | csiLineStart (port vc : Nat)
  /-- R171: A Line End short packet takes effect after the previous long packet's program ends. -/
  | csiLineEnd (port vc : Nat)
  /-- R168: A long packet is header-checked, CRC-checked and queued in the input FIFO, or is discarded and counted. -/
  | csiLongPacket (port vc dt : Nat) (payload : List Byte) (header : HeaderCheck) (crcOk : Bool)
  /-- R170: The parser takes the next long packet from the FIFO, clears v0–v6 and starts at its data type's ENTRY. -/
  | parserProgramStart (port : Nat)
  /-- R170: Parser END ends the packet's program. -/
  | parserEnd (port : Nat)
  /-- R170: Parser LD loads the next w payload bits into vd, or ends the program when too few bits remain. -/
  | parserLd (port : Nat)
  /-- R170: Parser SKIP advances the bit pointer, or ends the program past the payload end. -/
  | parserSkip (port : Nat)
  /-- R170: Parser LDI loads a zero-extended immediate into vd. -/
  | parserLdi (port : Nat)
  /-- R170: Parser ADD sets vd = vd + vs + sign-extended k modulo 2^32. -/
  | parserAdd (port : Nat)
  /-- R170: Parser EXT extracts a w-bit field of vs at pos into vd. -/
  | parserExt (port : Nat)
  /-- R170: Parser BEQ continues at t when vd equals k. -/
  | parserBeq (port : Nat)
  /-- R170: Parser BNE continues at t when vd differs from k. -/
  | parserBne (port : Nat)
  /-- R170: Parser JMP continues at t. -/
  | parserJmp (port : Nat)
  /-- R170: Parser EMIT writes an event from v4–v7 to the port buffer, counts CSI_RANGE when out of range, or stalls when the buffer is full. -/
  | parserEmit (port : Nat)
  /-- R172: A stalled EMIT completes once the port buffer has room. -/
  | parserEmitResume (port : Nat)
  /-- R170: An unused parser opcode stops the parser and sets ILL until EN is cleared. -/
  | parserUnusedOpcode (port : Nat)
  /-- R170: 4,096 instructions without LD or SKIP end the program and count WDOG. -/
  | parserWatchdog (port : Nat)
  /-- R186: Setting a power channel's EN starts detection, or RAMP1 on channel 16, or is refused in CSI-2 mode. -/
  | ppcEnable (agent : Agent) (ch : Nat)
  /-- R196: Clearing a channel's EN takes it through COOLDOWN to OFF. -/
  | ppcDisable (agent : Agent) (ch : Nat)
  /-- R187: The end of each 20 ms detection point is measured, and after the second point R_SIG is classified VALID, LOW or HIGH. -/
  | detectPointEnd (ch mv na : Nat)
  /-- R187: DET_INT after a failed detection, a new detection starts. -/
  | detectRetry (ch : Nat)
  /-- R188: At ramp end the channel enters ON24 and reports stage-one power good, which moves the port to TRAIN. -/
  | ramp1End (ch mv : Nat)
  /-- R189: A granted class request enters STEP when fewer than STEP_MAX channels are stepping. -/
  | stepStart
  /-- R190: At the end of a 48 V step the channel enters ON48, and the port sends PWR_GRANT and enters ACTIVE. -/
  | stepComplete (ch mv : Nat)
  /-- R185: Current above I_LIM lowers the gate command, holds the current and sets LIMITING. -/
  | currentLimit (ch current : Nat)
  /-- R199: Current above twice I_LIM turns every gate of the channel off within 1 µs. -/
  | hardShort (ch : Nat)
  /-- R199: LIMITING held past tSS_FAULT, or at any time in ON24 or ON48, is a soft fault. -/
  | overload (ch : Nat)
  /-- R199: VSNS below 90 % of target at ramp end plus 1 ms is a soft fault. -/
  | rampFail (ch : Nat)
  /-- R199: VSNS below 80 % of target for 100 µs in ON24 or ON48 is a soft fault. -/
  | undervolt (ch : Nat)
  /-- R200: After k seconds of back-off the channel enters DETECT for attempt k. -/
  | backoffEnd (ch : Nat)
  /-- R200: 10 s in ON24 or ON48 without a fault clears ATTEMPT. -/
  | attemptClear (ch : Nat)
  /-- R202: Current below 10 mA for 2 ms in STEP, or link loss, aborts the step and discharges the output. -/
  | stepAbort (ch : Nat)
  /-- R203: Current below 10 mA for 300 ms in ON24 or ON48 with HOLD_EN = 1 removes power as for a step abort. -/
  | disconnect (ch : Nat)
  /-- R202: After 2 s in COOLDOWN the channel moves to DETECT, OFF or DENIED as its cause dictates. -/
  | cooldownEnd (ch : Nat)
  /-- R206: A write of CLR moves a LATCHED or DENIED channel to DETECT. -/
  | ppcClr (agent : Agent) (ch : Nat)
  /-- R210: A TXCMD with KIND I queues an I frame for an address in NRM. -/
  | aldICommand (agent : Agent) (entry len : Nat)
  /-- R210: A TXCMD with KIND RAW queues the frame as given with P = 1. -/
  | aldRawCommand (agent : Agent) (entry len : Nat)
  /-- R207: A queued frame is transmitted once the RS-485 transmitter is free, with ALD_DE framing it. -/
  | aldTxStart
  /-- R209: A received frame is checked, updates the address's link state and is delivered to the receive ring or discarded. -/
  | aldFrameRx (frame : List Byte) (aborted : Bool)
  /-- R210: No acknowledgement within T_RESP retransmits, or after N2 tries moves the address to FAILED. -/
  | aldResponseTimeout (entry : Nat)
  /-- R210: Every POLL_MS while idle the hardware polls each NRM address with RR. -/
  | aldPoll
  /-- R213: A GPIO interrupt condition sets its pending bit and may wake the device. -/
  | gpioInterrupt (pin : Nat) (level : Bool)
  /-- R212: An alarm pin held at a new level for DEB × 32 AO ticks changes its debounced state and sets LATCH. -/
  | alarmChange (input : Nat) (level : Bool)
  /-- R224: A gate takes an event, applies poison, future, late, binning, mapping and policy checks, and emits EVWs. -/
  | gateAdmit (gate : Nat)
  /-- R224: A future-stamped event held at the head is admitted once site time reaches its time of origin. -/
  | futureHoldEnd (gate : Nat)
  /-- R232: When T passes t0 + MERGE_W, a merge entry closes and forms its EVWs. -/
  | mergeEntryClose (gate index : Nat)
  /-- R223: An ingress node injects one EVW per cycle, round robin over its ready gates, when it holds credit. -/
  | ingressInject (node : Nat)
  /-- R249: A PRB engine takes a section from the FIFO, places it in site time and adds its PRB energy to an open symbol. -/
  | sectionProcess
  /-- R254: An open symbol with no section joining for CLOSE_T ticks closes. -/
  | symbolCloseTimeout (flow index : Nat)
  /-- R257: A closed symbol's groups are converted to levels and emit floor or delta events into the flow queue. -/
  | symbolProcess (flow : Nat)
  /-- R269: Clearing a flow's EN discards its open symbols, FIFO sections and queue, and resets its groups to INIT. -/
  | flowDisable (agent : Agent) (flow : Nat)
  /-- R279: A router takes a flit, checks parity and forwards it by XY routing when it holds a credit. -/
  | flitForward (tile out : Nat) (p0 p1 : Bool)
  /-- R433: An EVW reaching a tile interface is routed by class to the engine queue, the inbox, discard or the drop sink. -/
  | evwDelivery (tile : Nat)
  /-- R292: An EB flit reaching a tile records LAST_EB and adds 1 to EB_SYNC, unless filtered by EB_FLOOR. -/
  | ebFlitRxTile (tile : Nat)
  /-- R915: An EB flit reaching an edge node is recorded and then counted, passed to Bench or dropped by node kind. -/
  | ebFlitRxEdge (node : Nat)
  /-- R291: An SP node that has received EB_EXPECT EB flits sends its boundary list's EB flits. -/
  | spEbEmit (port : Nat)
  /-- R285: The tile interface takes a send from its queue and forms one copy per fanout entry, injecting or discarding each. -/
  | fanoutSend (tile : Nat)
  /-- R288: Setting EVF_CTL.ARM schedules the route-table flip at the next boundary. -/
  | routeArm (agent : Agent)
  /-- R296: A received span GROUP is CRC-checked, and its flits are injected, passed on through the bypass or discarded. -/
  | spanGroupRx (port credits : Nat) (flits : List (Nat × List Byte)) (crcOk : Bool)
  /-- R297: A span port with lane lock, alignment and the expected peer becomes UP and takes 512 credits. -/
  | spanPortUp (port peer ring : Nat) (locked aligned : Bool)
  /-- R309: A span port that falls discards its partial pair, and queued flits go to the drop sink. -/
  | spanPortDown (port : Nat)
  /-- R312: An output port holding a flit for STALL_LIM × 64 cycles is recorded in EVF_STALL and Bench is notified. -/
  | fabricStallDetect (node port vc : Nat)
  /-- R690: A fence flit reaching the old tile is counted, and DONE sets when both counts are complete. -/
  | fenceRx (tile : Nat) (ct : Bool)
  /-- R377: ADD sets d = a + b. -/
  | aluAdd (tile : Nat) (gd : Guard) (d a b : Nat)
  /-- R377: SUB sets d = a − b. -/
  | aluSub (tile : Nat) (gd : Guard) (d a b : Nat)
  /-- R377: AND sets d = a & b. -/
  | aluAnd (tile : Nat) (gd : Guard) (d a b : Nat)
  /-- R377: OR sets d = a | b. -/
  | aluOr (tile : Nat) (gd : Guard) (d a b : Nat)
  /-- R377: XOR sets d = a ^ b. -/
  | aluXor (tile : Nat) (gd : Guard) (d a b : Nat)
  /-- R377: ANDN sets d = a & ~b. -/
  | aluAndn (tile : Nat) (gd : Guard) (d a b : Nat)
  /-- R377: SLL shifts a left by b[4:0]. -/
  | aluSll (tile : Nat) (gd : Guard) (d a b : Nat)
  /-- R377: SRL shifts a right with zero fill. -/
  | aluSrl (tile : Nat) (gd : Guard) (d a b : Nat)
  /-- R377: SRA shifts a right with sign fill. -/
  | aluSra (tile : Nat) (gd : Guard) (d a b : Nat)
  /-- R377: SLT sets d to 1 when a < b signed. -/
  | aluSlt (tile : Nat) (gd : Guard) (d a b : Nat)
  /-- R377: SLTU sets d to 1 when a < b unsigned. -/
  | aluSltu (tile : Nat) (gd : Guard) (d a b : Nat)
  /-- R377: MIN sets d to the signed minimum. -/
  | aluMin (tile : Nat) (gd : Guard) (d a b : Nat)
  /-- R377: MAX sets d to the signed maximum. -/
  | aluMax (tile : Nat) (gd : Guard) (d a b : Nat)
  /-- R377: MINU sets d to the unsigned minimum. -/
  | aluMinu (tile : Nat) (gd : Guard) (d a b : Nat)
  /-- R377: MAXU sets d to the unsigned maximum. -/
  | aluMaxu (tile : Nat) (gd : Guard) (d a b : Nat)
  /-- R377: ADDS adds with saturation to int32. -/
  | aluAdds (tile : Nat) (gd : Guard) (d a b : Nat)
  /-- R377: SUBS subtracts with saturation to int32. -/
  | aluSubs (tile : Nat) (gd : Guard) (d a b : Nat)
  /-- R377: CLZ counts the leading zero bits of a. -/
  | aluClz (tile : Nat) (gd : Guard) (d a : Nat)
  /-- R377: POPC counts the one bits of a. -/
  | aluPopc (tile : Nat) (gd : Guard) (d a : Nat)
  /-- R377: SEXTB sign-extends a[7:0]. -/
  | aluSextb (tile : Nat) (gd : Guard) (d a : Nat)
  /-- R377: SEXTH sign-extends a[15:0]. -/
  | aluSexth (tile : Nat) (gd : Guard) (d a : Nat)
  /-- R379: MUL writes the low 32 bits of the product through the scoreboard. -/
  | aluMul (tile : Nat) (gd : Guard) (d a b : Nat)
  /-- R379: MULH writes the high 32 bits of the signed product through the scoreboard. -/
  | aluMulh (tile : Nat) (gd : Guard) (d a b : Nat)
  /-- R379: MULHU writes the high 32 bits of the unsigned product through the scoreboard. -/
  | aluMulhu (tile : Nat) (gd : Guard) (d a b : Nat)
  /-- R378: DIV divides signed with truncation, with defined results for zero and overflow. -/
  | aluDiv (tile : Nat) (gd : Guard) (d a b : Nat)
  /-- R378: DIVU divides unsigned, giving all ones for a zero divisor. -/
  | aluDivu (tile : Nat) (gd : Guard) (d a b : Nat)
  /-- R378: REM gives the signed remainder with the sign of a. -/
  | aluRem (tile : Nat) (gd : Guard) (d a b : Nat)
  /-- R378: REMU gives the unsigned remainder. -/
  | aluRemu (tile : Nat) (gd : Guard) (d a b : Nat)
  /-- R380: ADDI adds a sign-extended immediate. -/
  | addi (tile : Nat) (gd : Guard) (d a : Nat) (imm : BitVec 12)
  /-- R380: ANDI ANDs a zero-extended immediate. -/
  | andi (tile : Nat) (gd : Guard) (d a : Nat) (imm : BitVec 12)
  /-- R380: ORI ORs a zero-extended immediate. -/
  | ori (tile : Nat) (gd : Guard) (d a : Nat) (imm : BitVec 12)
  /-- R380: XORI XORs a zero-extended immediate. -/
  | xori (tile : Nat) (gd : Guard) (d a : Nat) (imm : BitVec 12)
  /-- R380: SHI with shift kind 0 shifts left by an immediate. -/
  | shiSll (tile : Nat) (gd : Guard) (d a : Nat) (sh : BitVec 5)
  /-- R380: SHI with shift kind 1 shifts right logically by an immediate. -/
  | shiSrl (tile : Nat) (gd : Guard) (d a : Nat) (sh : BitVec 5)
  /-- R380: SHI with shift kind 2 shifts right arithmetically by an immediate. -/
  | shiSra (tile : Nat) (gd : Guard) (d a : Nat) (sh : BitVec 5)
  /-- R380: LI loads a sign-extended 17-bit immediate. -/
  | li (tile : Nat) (gd : Guard) (d : Nat) (imm : BitVec 17)
  /-- R380: LIH sets the high half of d and keeps its low half. -/
  | lih (tile : Nat) (gd : Guard) (d : Nat) (imm : BitVec 16)
  /-- R381: CMP compares two registers under cc and writes a predicate. -/
  | cmp (tile : Nat) (gd : Guard) (pd cc a b : Nat)
  /-- R381: CMPI compares a register with an immediate under cc and writes a predicate. -/
  | cmpi (tile : Nat) (gd : Guard) (pd cc a : Nat) (imm : BitVec 10)
  /-- R382: PLOG with FN 0 sets pd to the AND of two optionally negated predicates. -/
  | plogAnd (tile : Nat) (gd : Guard) (pd pa pb : Nat) (na nb : Bool)
  /-- R382: PLOG with FN 1 sets pd to the OR of two optionally negated predicates. -/
  | plogOr (tile : Nat) (gd : Guard) (pd pa pb : Nat) (na nb : Bool)
  /-- R382: PLOG with FN 2 sets pd to the XOR of two optionally negated predicates. -/
  | plogXor (tile : Nat) (gd : Guard) (pd pa pb : Nat) (na nb : Bool)
  /-- R382: PLOG with FN 3 sets pd to the constant V. -/
  | plogSet (tile : Nat) (gd : Guard) (pd : Nat) (v : Bool)
  /-- R383: PMOV with DIR 0 copies the predicates into a register. -/
  | mfp (tile : Nat) (gd : Guard) (r : Nat)
  /-- R383: PMOV with DIR 1 copies masked register bits into predicates p1–p7. -/
  | mtp (tile : Nat) (gd : Guard) (r : Nat) (mask : BitVec 7)
  /-- R385: LB loads a sign-extended byte. -/
  | lb (tile : Nat) (gd : Guard) (d a : Nat) (imm : BitVec 12)
  /-- R385: LBU loads a zero-extended byte. -/
  | lbu (tile : Nat) (gd : Guard) (d a : Nat) (imm : BitVec 12)
  /-- R385: LH loads a sign-extended halfword. -/
  | lh (tile : Nat) (gd : Guard) (d a : Nat) (imm : BitVec 12)
  /-- R385: LHU loads a zero-extended halfword. -/
  | lhu (tile : Nat) (gd : Guard) (d a : Nat) (imm : BitVec 12)
  /-- R385: LW loads a word. -/
  | lw (tile : Nat) (gd : Guard) (d a : Nat) (imm : BitVec 12)
  /-- R386: SB stores a byte, leaving an existing poison mark in place. -/
  | sb (tile : Nat) (gd : Guard) (src a : Nat) (imm : BitVec 12)
  /-- R386: SH stores a halfword. -/
  | sh (tile : Nat) (gd : Guard) (src a : Nat) (imm : BitVec 12)
  /-- R386: SW stores a word. -/
  | sw (tile : Nat) (gd : Guard) (src a : Nat) (imm : BitVec 12)
  /-- R387: RDI reads a word of instruction memory. -/
  | rdi (tile : Nat) (gd : Guard) (d a : Nat) (imm : BitVec 12)
  /-- R328: STI writes instruction memory at W and sets IMOD_HIT when a fetched copy is hit. -/
  | sti (tile : Nat) (gd : Guard) (src a : Nat) (imm : BitVec 12) (held : Bool)
  /-- R388: BEQ branches when a = b, after its delay slot. -/
  | beq (tile : Nat) (gd : Guard) (a b : Nat) (disp : BitVec 12)
  /-- R388: BNE branches when a ≠ b. -/
  | bne (tile : Nat) (gd : Guard) (a b : Nat) (disp : BitVec 12)
  /-- R388: BLT branches when a < b signed. -/
  | blt (tile : Nat) (gd : Guard) (a b : Nat) (disp : BitVec 12)
  /-- R388: BGE branches when a ≥ b signed. -/
  | bge (tile : Nat) (gd : Guard) (a b : Nat) (disp : BitVec 12)
  /-- R388: BLTU branches when a < b unsigned. -/
  | bltu (tile : Nat) (gd : Guard) (a b : Nat) (disp : BitVec 12)
  /-- R388: BGEU branches when a ≥ b unsigned. -/
  | bgeu (tile : Nat) (gd : Guard) (a b : Nat) (disp : BitVec 12)
  /-- R388: BR branches unconditionally, or on its guard. -/
  | br (tile : Nat) (gd : Guard) (disp : BitVec 12)
  /-- R388: J jumps to an absolute target. -/
  | j (tile : Nat) (gd : Guard) (target : BitVec 12)
  /-- R388: CALL jumps to an absolute target and writes the link address. -/
  | call (tile : Nat) (gd : Guard) (d : Nat) (target : BitVec 12)
  /-- R388: JR jumps to the address in a register. -/
  | jr (tile : Nat) (gd : Guard) (a : Nat)
  /-- R388: CALLR jumps to the address in a register and writes the link address. -/
  | callr (tile : Nat) (gd : Guard) (d a : Nat)
  /-- R389: LOOP sets up hardware loop level k with its count, start and end. -/
  | loop (tile : Nat) (gd : Guard) (k a : Nat) (endw : BitVec 12)
  /-- R394: TRAP raises the TRAP exception with its code in EBAD. -/
  | trap (tile : Nat) (gd : Guard) (code : BitVec 16)
  /-- R374: An undefined encoding raises ILLEGAL with the word in EBAD. -/
  | illegalInstruction (tile : Nat) (word : Word)
  /-- R391: MFS reads a special register into d. -/
  | mfs (tile : Nat) (gd : Guard) (d sr : Nat)
  /-- R391: MTS writes a special register, or raises ILLEGAL for a read-only or reserved one. -/
  | mts (tile : Nat) (gd : Guard) (a sr : Nat)
  /-- R392: MODE sets a new MODE value that commits after its two-instruction shadow. -/
  | mode (tile : Nat) (gd : Guard) (a : Nat) (reg : Bool) (v : BitVec 5)
  /-- R330: SYNC.I discards younger fetched copies and refetches. -/
  | syncI (tile : Nat) (gd : Guard)
  /-- R350: ERET restores IEN, clears EXL, arranges shadow completion and continues at EPC. -/
  | eret (tile : Nat) (gd : Guard)
  /-- R371: WFE stops issue until an IPEND bit enabled in IMASK is set. -/
  | wfe (tile : Nat) (gd : Guard)
  /-- R393: HALT halts the tile with HALT_REASON = HALT when it retires. -/
  | halt (tile : Nat) (gd : Guard)
  /-- R393: FENCE waits until sync and mailbox writes are acknowledged and the send queue is empty. -/
  | fence (tile : Nat) (gd : Guard)
  /-- R396: SYN SET posts a set of a sync counter. -/
  | synSet (tile : Nat) (gd : Guard) (a b : Nat)
  /-- R396: SYN ADD adds to a counter, optionally returning the old value. -/
  | synAdd (tile : Nat) (gd : Guard) (c a b : Nat) (ret : Bool)
  /-- R396: SYN SUB subtracts from a counter, optionally returning the old value. -/
  | synSub (tile : Nat) (gd : Guard) (c a b : Nat) (ret : Bool)
  /-- R396: SYN WAITGE waits for a counter to meet a threshold, with a timeout, and writes pd. -/
  | synWaitge (tile : Nat) (gd : Guard) (c a b pd : Nat)
  /-- R396: SYN SIG increments a counter, and for a local counter sets IPEND.SOFT in its tile. -/
  | synSig (tile : Nat) (gd : Guard) (a : Nat)
  /-- R396: SYN READ returns a counter's value. -/
  | synRead (tile : Nat) (gd : Guard) (c a : Nat)
  /-- R421: SIGM with KIND 0 queues ADD b for each handle of a list. -/
  | sigmAdd (tile : Nat) (gd : Guard) (a b : Nat) (count : BitVec 5)
  /-- R421: SIGM with KIND 1 queues SIG for each handle of a list. -/
  | sigmSig (tile : Nat) (gd : Guard) (a : Nat) (count : BitVec 5)
  /-- R400: EVS queues one event send to a fanout list. -/
  | evs (tile : Nat) (gd : Guard) (a b : Nat)
  /-- R401: EVSW queues a wide PSUM EVW send with a 32-bit payload. -/
  | evsw (tile : Nat) (gd : Guard) (c a b : Nat)
  /-- R402: EVM queues the epoch marker to the tile's boundary list. -/
  | evm (tile : Nat) (gd : Guard) (a : Nat)
  /-- R419: EVSND queues one event send per record of a table. -/
  | evsnd (tile : Nat) (gd : Guard) (a b groups : Nat)
  /-- R408: CIMX converts bit-planes of row groups in the compute banks and accumulates the column sums. -/
  | cimx (tile : Nat) (gd : Guard) (a groups : Nat)
  /-- R420: BANKSW switches the named banks to compute when all are VALID, carrying calibration state, and writes pd. -/
  | banksw (tile : Nat) (gd : Guard) (pd : Nat) (bankB : Bool) (amask : BitVec 4)
  /-- R414: TMOV copies NBYTES between tensors, registers and neuron state group by group. -/
  | tmov (tile : Nat) (gd : Guard) (a groups : Nat)
  /-- R415: TMOV with DKIND 3 writes a result payload to a mailbox slot and then its header. -/
  | tmovMailbox (tile : Nat) (gd : Guard) (a groups : Nat)
  /-- R416: TMOV with DKIND 4 fills the frame stage and hands the frame to port 9. -/
  | tmovResultFrame (tile : Nat) (gd : Guard) (a groups : Nat)
  /-- R417: NUPD applies update records to neuron state in batches, running the dynamics program. -/
  | nupd (tile : Nat) (gd : Guard) (a b groups : Nat)
  /-- R457: DLYX DRAIN applies and clears due delay-ring slots up to a limit. -/
  | dlyxDrain (tile : Nat) (gd : Guard) (b groups : Nat)
  /-- R456: DLYX INSERT adds delayed records to the rings. -/
  | dlyxInsert (tile : Nat) (gd : Guard) (a b groups : Nat)
  /-- R418: DLYX CLEAR clears every slot of every ring. -/
  | dlyxClear (tile : Nat) (gd : Guard) (groups : Nat)
  /-- R411: VOP.R MOV copies A to d under the mask. -/
  | voprMov (tile : Nat) (gd : Guard) (d a m t : Nat)
  /-- R559: VOP.R ADD adds elementwise. -/
  | voprAdd (tile : Nat) (gd : Guard) (d a b m t : Nat)
  /-- R559: VOP.R SUB subtracts elementwise. -/
  | voprSub (tile : Nat) (gd : Guard) (d a b m t : Nat)
  /-- R559: VOP.R MUL multiplies elementwise. -/
  | voprMul (tile : Nat) (gd : Guard) (d a b m t : Nat)
  /-- R559: VOP.R MAC adds A × B to d, fused. -/
  | voprMac (tile : Nat) (gd : Guard) (d a b m t : Nat)
  /-- R559: VOP.R MIN takes the elementwise minimum. -/
  | voprMin (tile : Nat) (gd : Guard) (d a b m t : Nat)
  /-- R559: VOP.R MAX takes the elementwise maximum. -/
  | voprMax (tile : Nat) (gd : Guard) (d a b m t : Nat)
  /-- R558: VOP.R ABS takes the absolute value. -/
  | voprAbs (tile : Nat) (gd : Guard) (d a m t : Nat)
  /-- R558: VOP.R NEG negates. -/
  | voprNeg (tile : Nat) (gd : Guard) (d a m t : Nat)
  /-- R411: VOP.R AND is an integer bitwise AND. -/
  | voprAnd (tile : Nat) (gd : Guard) (d a b m t : Nat)
  /-- R411: VOP.R OR is an integer bitwise OR. -/
  | voprOr (tile : Nat) (gd : Guard) (d a b m t : Nat)
  /-- R411: VOP.R XOR is an integer bitwise XOR. -/
  | voprXor (tile : Nat) (gd : Guard) (d a b m t : Nat)
  /-- R558: VOP.R SHL shifts left by B. -/
  | voprShl (tile : Nat) (gd : Guard) (d a b m t : Nat)
  /-- R558: VOP.R SHR shifts right arithmetically by B. -/
  | voprShr (tile : Nat) (gd : Guard) (d a b m t : Nat)
  /-- R557: VOP.R CMPEQ writes equality results to a mask register. -/
  | voprCmpeq (tile : Nat) (gd : Guard) (d a b m t : Nat)
  /-- R557: VOP.R CMPLT writes less-than results to a mask register. -/
  | voprCmplt (tile : Nat) (gd : Guard) (d a b m t : Nat)
  /-- R557: VOP.R CMPLE writes less-or-equal results to a mask register. -/
  | voprCmple (tile : Nat) (gd : Guard) (d a b m t : Nat)
  /-- R411: VOP.R SEL selects A or B by mask. -/
  | voprSel (tile : Nat) (gd : Guard) (d a b m t : Nat)
  /-- R560: VOP.R CVT converts A from its source type to T. -/
  | voprCvt (tile : Nat) (gd : Guard) (d a st m t : Nat)
  /-- R561: VOP.R EXP2 computes 2^A approximately. -/
  | voprExp2 (tile : Nat) (gd : Guard) (d a m t : Nat)
  /-- R561: VOP.R LOG2 computes log2 A approximately. -/
  | voprLog2 (tile : Nat) (gd : Guard) (d a m t : Nat)
  /-- R561: VOP.R RCP computes 1/A approximately. -/
  | voprRcp (tile : Nat) (gd : Guard) (d a m t : Nat)
  /-- R561: VOP.R RSQRT computes 1/√A approximately. -/
  | voprRsqrt (tile : Nat) (gd : Guard) (d a m t : Nat)
  /-- R565: VOP.R VCMPR packs the active elements of A to the start of d. -/
  | voprVcmpr (tile : Nat) (gd : Guard) (d a m t : Nat)
  /-- R565: VOP.R VEXPD places the leading elements of A at the active positions of d. -/
  | voprVexpd (tile : Nat) (gd : Guard) (d a m t : Nat)
  /-- R565: VOP.R RSUM writes each row's sum to its element 0. -/
  | voprRsum (tile : Nat) (gd : Guard) (d a m t : Nat)
  /-- R568: VOP.T MOV copies tensor A to the destination tensor. -/
  | voptMov (tile : Nat) (gd : Guard) (a groups : Nat)
  /-- R568: VOP.T ADD adds tensors elementwise. -/
  | voptAdd (tile : Nat) (gd : Guard) (a groups : Nat)
  /-- R568: VOP.T SUB subtracts tensors elementwise. -/
  | voptSub (tile : Nat) (gd : Guard) (a groups : Nat)
  /-- R568: VOP.T MUL multiplies tensors elementwise. -/
  | voptMul (tile : Nat) (gd : Guard) (a groups : Nat)
  /-- R572: VOP.T MAC accumulates A × B into the destination tensor. -/
  | voptMac (tile : Nat) (gd : Guard) (a groups : Nat)
  /-- R568: VOP.T MIN takes the elementwise minimum of tensors. -/
  | voptMin (tile : Nat) (gd : Guard) (a groups : Nat)
  /-- R568: VOP.T MAX takes the elementwise maximum of tensors. -/
  | voptMax (tile : Nat) (gd : Guard) (a groups : Nat)
  /-- R568: VOP.T ABS takes the absolute value of a tensor. -/
  | voptAbs (tile : Nat) (gd : Guard) (a groups : Nat)
  /-- R568: VOP.T NEG negates a tensor. -/
  | voptNeg (tile : Nat) (gd : Guard) (a groups : Nat)
  /-- R568: VOP.T AND is an integer tensor AND. -/
  | voptAnd (tile : Nat) (gd : Guard) (a groups : Nat)
  /-- R568: VOP.T OR is an integer tensor OR. -/
  | voptOr (tile : Nat) (gd : Guard) (a groups : Nat)
  /-- R568: VOP.T XOR is an integer tensor XOR. -/
  | voptXor (tile : Nat) (gd : Guard) (a groups : Nat)
  /-- R568: VOP.T SHL shifts tensor elements left. -/
  | voptShl (tile : Nat) (gd : Guard) (a groups : Nat)
  /-- R568: VOP.T SHR shifts tensor elements right arithmetically. -/
  | voptShr (tile : Nat) (gd : Guard) (a groups : Nat)
  /-- R571: VOP.T CMPEQ writes 1 or 0 per element for equality. -/
  | voptCmpeq (tile : Nat) (gd : Guard) (a groups : Nat)
  /-- R571: VOP.T CMPLT writes 1 or 0 per element for less-than. -/
  | voptCmplt (tile : Nat) (gd : Guard) (a groups : Nat)
  /-- R571: VOP.T CMPLE writes 1 or 0 per element for less-or-equal. -/
  | voptCmple (tile : Nat) (gd : Guard) (a groups : Nat)
  /-- R568: VOP.T SEL selects A or B per element by mask. -/
  | voptSel (tile : Nat) (gd : Guard) (a groups : Nat)
  /-- R560: VOP.T CVT converts a tensor's type. -/
  | voptCvt (tile : Nat) (gd : Guard) (a groups : Nat)
  /-- R561: VOP.T EXP2 applies 2^x to a tensor. -/
  | voptExp2 (tile : Nat) (gd : Guard) (a groups : Nat)
  /-- R561: VOP.T LOG2 applies log2 to a tensor. -/
  | voptLog2 (tile : Nat) (gd : Guard) (a groups : Nat)
  /-- R561: VOP.T RCP applies the reciprocal to a tensor. -/
  | voptRcp (tile : Nat) (gd : Guard) (a groups : Nat)
  /-- R561: VOP.T RSQRT applies the reciprocal square root to a tensor. -/
  | voptRsqrt (tile : Nat) (gd : Guard) (a groups : Nat)
  /-- R571: VOP.T VCMPR compresses active elements within each group. -/
  | voptVcmpr (tile : Nat) (gd : Guard) (a groups : Nat)
  /-- R571: VOP.T VEXPD expands elements to active positions within each group. -/
  | voptVexpd (tile : Nat) (gd : Guard) (a groups : Nat)
  /-- R571: VOP.T RSUM sums each 16-element row within each group. -/
  | voptRsum (tile : Nat) (gd : Guard) (a groups : Nat)
  /-- R347: An enabled pending interrupt is taken at an instruction or group boundary, saving EPC, ESTAT and MPROG. -/
  | interruptEntry (tile : Nat) (dests : List Nat)
  /-- R326: An outstanding multiply or divide result writes its destination and frees its scoreboard entry. -/
  | scoreboardComplete (tile index : Nat)
  /-- R370: TILE_SEQ_CTL.GO starts a halted tile at BOOT.PC, at once or at the next boundary. -/
  | tileGo (agent : Agent) (tile : Nat) (atBoundary : Bool)
  /-- R371: TILE_SEQ_CTL.STOP halts the tile at the next instruction or group boundary. -/
  | tileStop (agent : Agent) (tile : Nat)
  /-- R369: TILE_SEQ_CTL.RESET resets a halted tile's sequencer, or sets REFUSED. -/
  | tileReset (agent : Agent) (tile : Nat)
  /-- R345: TILE_SEQ_CTL.SOFTIRQ sets IPEND.SOFT. -/
  | softirq (agent : Agent) (tile : Nat)
  /-- R345: TILE_SEQ_CTL.DRAIN drives the DRAIN interrupt pending bit. -/
  | drain (agent : Agent) (tile : Nat) (level : Bool)
  /-- R578: A Bench access to a vector-register window while the tile is not halted is refused and sets REFUSED. -/
  | veWindowAccess (tile off : Nat) (write : Bool) (data : Word)
  /-- R447: The neuron engine takes queued inputs, forms a batch, leaks, applies, runs the dynamics program and tests thresholds. -/
  | neBatch (tile : Nat)
  /-- R453: A sweep pass starts once the previous one has ended and its minimum interval has passed. -/
  | sweepPassStart (tile : Nat)
  /-- R453: The sweeper visits a record in an idle port cycle and leaks it when its elapsed time is large. -/
  | sweepVisit (tile : Nat)
  /-- R454: A pass not ended within 2^(14+K) ticks sets OVERDUE and starts a reset pass over the region. -/
  | sweepOverdue (tile region : Nat)
  /-- R454: A reset pass ends, posts a NOTICE inbox entry and clears OVERDUE. -/
  | resetPassEnd (tile : Nat)
  /-- R473: Setting NE_CTL.EN initialises stamps and ring horizons and starts the first sweep pass. -/
  | neEnable (agent : Agent) (tile : Nat)
  /-- R473: Clearing NE_CTL.EN completes the batch in progress and counts later inputs in OFF_DROP. -/
  | neDisable (agent : Agent) (tile : Nat)
  /-- R494: START moves the twin bank to PROGRAMMING and clears its seal, or is refused on the compute bank. -/
  | cimPgmStart (agent : Agent) (tile array : Nat) (bankB : Bool)
  /-- R495: GO requests programming of a row from a row buffer, which waits for a program slot. -/
  | cimPgmGo (agent : Agent) (tile array : Nat) (buf : Bool) (row : BitVec 9)
  /-- R494: FINISH moves the bank to VALID with its seal and calibration state, or to INVALID. -/
  | cimPgmFinish (agent : Agent) (tile array : Nat)
  /-- R505: ABORT stops the session and moves the bank to INVALID. -/
  | cimPgmAbort (agent : Agent) (tile array : Nat)
  /-- R497: A waiting row takes a free program slot and latches its buffer. -/
  | cimRowSlotGrant
  /-- R496: A row completes its program-and-verify loops, with failed pairs recorded. -/
  | cimRowDone (tile array loops : Nat) (failed : List Nat)
  /-- R515: A window of NWIN conversions closes and updates or discards the gain and offset estimates. -/
  | calWindowClose (tile array : Nat)
  /-- R525: In the calibration slot of an array with INJECT set, a burst of 256 conversions starts. -/
  | calBurstStart (tile array conversions : Nat)
  /-- R524: At the end of each second, CONV_SEC takes the count of conversions in that second. -/
  | convSecUpdate
  /-- R528: At the end of an assay window, histograms and fire counts are compared with the envelopes. -/
  | assayWindowEnd (tile : Nat)
  /-- R534: MSCAN.START begins a margin scan of a bank. -/
  | marginScanStart (agent : Agent) (tile array : Nat) (bankB : Bool) (margin : BitVec 4)
  /-- R534: A margin scan completes with failed pairs in RFAIL and FCNT. -/
  | marginScanDone (tile array : Nat) (failed : List Nat)
  /-- R540: SPGO starts programming a spare pair on the compute bank in chunks. -/
  | spareProgramStart (agent : Agent) (tile array : Nat) (spare : BitVec 3) (pair : BitVec 8)
  /-- R540: A spare program finishes and its entry becomes ACTIVE or FAILED. -/
  | spareProgramDone (tile array : Nat) (verified : Bool)
  /-- R533: A bank reaching REFRESH_AGE starts a copy-and-swap refresh. -/
  | retentionRefreshDue (tile array : Nat) (bankB swap : Bool)
  /-- R533: A bank reaching 90 days of age is reported to the host. -/
  | retentionExpired (tile array : Nat) (bankB : Bool)
  /-- R397: The head sync operation leaves the queue when local, or when the CT port is free and holds credit. -/
  | syncQueueIssue (tile : Nat)
  /-- R622: A counter's home applies an arriving operation atomically, tests waits and watches, and replies. -/
  | syncOpApply (node : Nat) (window : Bool)
  /-- R623: A reply reaching the requester writes its value or MET, or counts an acknowledgement. -/
  | syncReply (node : Nat)
  /-- R625: A registered WAITGE not met by its timeout completes with MET = 0. -/
  | waitTimeout (index : Nat)
  /-- R631: A write to the global SET window sets a global counter, subject to the host range. -/
  | globalSetWindowWrite (agent : Agent) (gidx : Nat) (value : Word)
  /-- R631: A write to the global ADD window adds to a global counter, subject to the host range. -/
  | globalAddWindowWrite (agent : Agent) (gidx : Nat) (value : Word)
  /-- R631: A write to the local SET window sets a local counter of a physical tile. -/
  | localSetWindowWrite (agent : Agent) (tile lidx : Nat) (value : Word)
  /-- R631: A write to the local ADD window adds to a local counter of a physical tile. -/
  | localAddWindowWrite (agent : Agent) (tile lidx : Nat) (value : Word)
  /-- R633: Setting ARM of a host watch tests it at once and after each later operation. -/
  | watchArm (agent : Agent) (watch : Nat)
  /-- R638: A host write of the current SEQ to ACK frees a ready slot, or counts ACK_BAD. -/
  | mailboxAck (slot : Nat) (value : Word)
  /-- R636: Once every payload write is acknowledged, the header is written with LEN, EPOCH, SEQ + 1 and READY. -/
  | mailboxHeaderWrite (slot : Nat)
  /-- R639: A HOLD write still waiting at its timeout completes unwritten, and the result is lost. -/
  | mailboxHoldTimeout (tile : Nat)
  /-- R630: SYNC reports a global counter change to the Ladle, which tests gates and decisions. -/
  | counterChangeReport
  /-- R630: Every 64 fabric cycles the Ladle reads a local WAIT counter until the gate opens. -/
  | ladleWaitPoll (index : Nat)
  /-- R595: Setting LDL_CTL.EN starts the Ladle walking the transfer program. -/
  | ladleEnable (agent : Agent)
  /-- R613: Clearing LDL_CTL.EN stops issue, and transfers in flight run out. -/
  | ladleDisable (agent : Agent)
  /-- R595: An eligible descriptor issues into a slot, running directly, staged or squashed by its decision state. -/
  | ladleIssue
  /-- R593: A transfer whose destination writes are acknowledged signals DONE and frees its slot. -/
  | transferComplete (index : Nat) (lost : Option Nat)
  /-- R738: The NOP command completes with no effect. -/
  | nop (entry : List Byte)
  /-- R670: PLAN_LOAD checks a plan image, writes its sections and starts it at an epoch boundary. -/
  | planLoad (entry : List Byte) (found : Option (Nat × Nat))
  /-- R706: PLAN_REPLACE checks a new plan and cuts over seamlessly or with a gap. -/
  | planReplace (entry : List Byte) (found : Option (Nat × Nat))
  /-- R677: CANCEL ends a plan load in progress as a refusal. -/
  | cancel (entry : List Byte)
  /-- R739: PLAN_STOP halts every tile, clears RUN and returns the plan's clusters to OFF. -/
  | planStop (entry : List Byte)
  /-- R697: TILE_MOVE moves logical tiles to spare physical tiles through fenced route-table flips and a state copy. -/
  | tileMove (entry : List Byte)
  /-- R700: TILE_RELOAD reloads a halted tile's program and restarts it in place. -/
  | tileReload (entry : List Byte)
  /-- R702: CIM_UPDATE programs new weights into twin banks and swaps them at the tile's swap point. -/
  | cimUpdate (entry : List Byte)
  /-- R708: PORT_CYCLE with KIND 0 disables and re-enables a fronthaul port. -/
  | portCycleFronthaul (entry : List Byte)
  /-- R709: PORT_CYCLE with KIND 1 cycles a camera port and its power channel. -/
  | portCycleCamera (entry : List Byte)
  /-- R710: BENCH_ACTIVATE verifies the other Bench slot and hands over to it after a pause. -/
  | benchActivate (entry : List Byte)
  /-- R712: If the new Bench is not ready 2 s after restart, Touchmark restarts the previous slot. -/
  | handoverFallback
  /-- R797: OPP_SET writes a cluster's OPP_REQ and completes with its result. -/
  | oppSet (entry : List Byte)
  /-- R741: A command entry with an unknown OPCODE completes with BAD_OPCODE. -/
  | badOpcode (entry : List Byte)
  /-- R691: Setting HOLD stops the neuron engine and sweeper after the work in progress and sets HELD. -/
  | tileHold (agent : Agent) (tile : Nat)
  /-- R692: Setting QUIESCE runs the engine until fences are done and the queue is empty, and then holds it. -/
  | tileQuiesce (agent : Agent) (tile : Nat)
  /-- R693: Clearing HOLD or QUIESCE, with HLOAD, loads ring horizons and resumes the engine. -/
  | tileResume (agent : Agent) (tile : Nat) (hload : Bool)
  /-- R719: Fences not done 65,536 fabric cycles after flip 1 set FENCE_LATE, and the old tile holds anyway. -/
  | fenceLate (tile : Nat)
  /-- R740: Bench writes a completion entry when a command ends and signals PF0 vector 0. -/
  | completionWrite
  /-- R742: Bench writes a notification entry for an enabled event and signals PF0 vector 1. -/
  | notify
  /-- R736: Setting HST_RING_CTL.EN zeroes heads and tails and sets the expected PHASE to 1. -/
  | ringEnable (agent : Agent)
  /-- R756: Clearing EN stops Bench taking further command entries. -/
  | ringDisable (agent : Agent)
  /-- R744: A failed or poisoned ring DMA sets DMA_ERR and clears EN. -/
  | ringDmaError
  /-- R733: A write of HST_AP_k maps a BAR4 aperture to a Ladle address, or is discarded with BAD_MAP. -/
  | apertureMap (agent : Agent) (k : Nat) (base : BitVec 24) (valid : Bool)
  /-- R734: A host BAR4 access reaches LPDDR5X or the pool through its aperture, or is unbacked. -/
  | bar4Access (off len : Nat) (write : Bool) (data : List Byte)
  /-- R752: A function-level reset of PF0 clears the rings, apertures and PF0 MSI-X table. -/
  | flrPf0
  /-- R752: A function-level reset of PF1 clears the mailbox controls and PF1 MSI-X table. -/
  | flrPf1
  /-- R866: GET_STATUS returns the life-cycle, boot and firmware slot registers. -/
  | getStatus
  /-- R865: GET_NONCE makes and returns a new 32-byte nonce. -/
  | getNonce
  /-- R868: ATTEST returns a signed attestation report. -/
  | attest
  /-- R866: GET_CERT returns the device certificate. -/
  | getCert
  /-- R870: UPDATE_BEGIN opens a non-running flash slot for writing and makes it unverifiable. -/
  | updateBegin (flashOk : Bool)
  /-- R866: UPDATE_DATA writes image bytes at the next offset of the open slot. -/
  | updateData (flashOk : Bool)
  /-- R871: UPDATE_END writes the header last, verifies the slot and reports the pairing result. -/
  | updateEnd (flashOk : Bool)
  /-- R866: UPDATE_ABORT closes the open slot unverifiable. -/
  | updateAbort
  /-- R852: SELECT sets the preferred slot of a KIND in the select record when the slot verifies. -/
  | select (flashOk : Bool)
  /-- R866: SVN_COMMIT raises the SVN floor of a KIND to its running image's SVN. -/
  | svnCommit
  /-- R862: POLICY_SET writes both policy copies when the image verifies, installing the owner key if none is installed. -/
  | policySet (flashOk : Bool)
  /-- R848: DEBUG_UNLOCK opens the debug scopes that a valid token names and the state allows. -/
  | debugUnlock
  /-- R848: DEBUG_LOCK ends the debug session. -/
  | debugLock
  /-- R848: A debug session ends after its DURATION. -/
  | debugSessionExpire
  /-- R843: LC_TRANSITION blows the target life-cycle bit, takes its actions and resets the device. -/
  | lcTransition (failed : List Nat) (bad : List (Nat × Nat))
  /-- R866: The Touchmark RESET message responds and then resets the device as PORST_N does. -/
  | reset (failed : List Nat) (bad : List (Nat × Nat))
  /-- R867: GET_INFO returns Bench's version, slot, service epochs, plan ABIs and UNTESTED. -/
  | getInfo
  /-- R867: GET_LOG returns the next part of Bench's text log. -/
  | getLog (text : List Byte)
  /-- R867: CONSOLE runs one console command line while an MGT_DBG session is open. -/
  | console (reply : List Byte)
  /-- R763: A REQ of ON wakes the device from STANDBY or DORMANT. -/
  | deviceReqOn (agent : Agent)
  /-- R763: A REQ of STANDBY takes clusters off and puts LPDDR5X into self-refresh. -/
  | deviceReqStandby (agent : Agent)
  /-- R763: A REQ of DORMANT cools down the power channels and powers off all domains but AO, SEC and NET. -/
  | deviceReqDormant (agent : Agent)
  /-- R763: A REQ of OFF powers off every domain but AO. -/
  | deviceReqOff (agent : Agent)
  /-- R772: A wake step of a domain ends at an AO tick edge after its table delay or ready signal. -/
  | domainWakeStepEnd (dom : Nat) (failed : List Nat) (bad : List (Nat × Nat))
  /-- R771: An entry step of a domain ends after one AO tick. -/
  | domainEntryStepEnd (dom : Nat) (failed : List Nat) (bad : List (Nat × Nat))
  /-- R773: A handshake wake step not ready in four times its table value fails and the domain returns to off. -/
  | wakeFail (dom : Nat)
  /-- R777: The AO counter reaching PMU_AO_ALARM with ARM set wakes the device. -/
  | aoAlarm
  /-- R769: A cluster REQ of OFF powers the cluster off when all its tiles are halted or in NAP. -/
  | clusterReqOff (agent : Agent) (cluster : Nat)
  /-- R769: A cluster REQ of RETAIN keeps memories on VDD_RET and stops logic. -/
  | clusterReqRetain (agent : Agent) (cluster : Nat)
  /-- R770: A cluster REQ of ACTIVE wakes the cluster and resets its sequencers. -/
  | clusterReqActive (agent : Agent) (cluster : Nat)
  /-- R768: Setting a PMU_NAP_k bit puts a halted, engine-disabled tile into NAP. -/
  | napRequest (agent : Agent) (tile : Nat)
  /-- R770: Clearing a NAP bit wakes the tile and resets its sequencer. -/
  | napExit (agent : Agent) (tile : Nat)
  /-- R781: A write of OPP_REQ starts an ordered change of voltage and frequency, or is kept pending or refused. -/
  | oppReqWrite (agent : Agent) (cluster : Nat) (opp : BitVec 2)
  /-- R780: Once the rail is ready and the idle PLL is locked, the cluster clock switches at a coincident edge. -/
  | oppClockSwitch (cluster readback : Nat)
  /-- R784: A write of PMU_AVS_VSET sets the rail voltage directly, or is refused with ORDER_ERR. -/
  | avsVset (agent : Agent) (mv : BitVec 10)
  /-- R784: PMU_FDIR.GO switches one cluster's clock directly, or is refused with ORDER_ERR. -/
  | fdirGo (agent : Agent) (cluster : BitVec 4) (fsel : BitVec 2)
  /-- R785: An AVSBus transaction failing after two retries sets AVS_ERR and is a regulator fault. -/
  | avsbusFailure
  /-- R785: A rail not within 10 mV 200 µs after an AVSBus write is a regulator fault. -/
  | avsReadbackTimeout
  /-- R786: Every 50 µs the PMU samples the sensors, sets Tj and checks WARN and the Quench threshold. -/
  | thermalSample (readings : List Int)
  /-- R788: PMB_ALERT_N held low for 1 µs starts Quench with cause ALERT. -/
  | pmbAlert
  /-- R788: VDD_TILE more than 60 mV below command for 2 µs starts Quench with cause UV. -/
  | vddTileUv
  /-- R791: A write of PMU_QUENCH.CLR ends Quench when Tj allows, or sets CLR_REFUSED. -/
  | quenchClr (agent : Agent) (condition : Bool)
  /-- R792: The AO comparator above 125 °C for 10 µs resets every domain except AO. -/
  | thermalTrip
  /-- R793: After the die cools below 100 °C and 1 s has passed, the boot runs again. -/
  | tripRecovery (failed : List Nat) (bad : List (Nat × Nat))
  /-- R775: Loss of the AO crystal switches AO time to the internal oscillator and sets RC_MODE. -/
  | aoCrystalLoss
  /-- R813: A scrubber reads a word in an idle cycle, corrects a single-bit error or handles an uncorrectable one. -/
  | scrubRead (at_ : ScrubAt) (found : ScrubFind)
  /-- R815: A scrub pass not ended within MAXPASS is counted in RAS_LATE and continues. -/
  | scrubPassLate (region : Nat)
  /-- R827: CE_THR corrected errors in one second in a region set CE_STORM. -/
  | ceStorm (region : Nat)
  /-- R828: LINK_THR parity errors on one link in an epoch set LINK_DEGRADED. -/
  | linkDegraded (tile port : Nat)
  /-- R818: With AUTO_RELOAD set, Bench runs TILE_RELOAD on a tile halted by an instruction-memory error once no procedure runs. -/
  | autoReloadStart (tile resume : Nat)
  /-- R821: Touchmark rewrites MAC and VLAN static contents from the network boot record after a table error. -/
  | nbrTableRewrite
  /-- R822: An uncorrectable management-memory error stops Bench, and Touchmark restarts it. -/
  | benchRestart (ready : Bool)
  /-- R823: An uncorrectable secure-processor memory error makes the boot ROM restart Touchmark from flash. -/
  | touchmarkRestart
  /-- R18: A register read with side effects clears RC fields, returns zero and is logged for an unserved access, or counts SYNC_POISON on a poisoned counter window. -/
  | registerRead (agent : Agent) (pf : Bool) (off : Nat) (whole : Bool)
  /-- R53: A TIME10M_IN rising edge is captured at 250 ps and its wrapped phase is added to the period's mean, or a missing edge marks the sample weight 0. -/
  | time10mInEdge (missing : Bool) (quarter : Nat)
  /-- R748: The PCIe link finishes training, HST_LINK.UP sets and the LINK source of HOST_INT_N goes inactive. -/
  | pcieLinkUp (width speed : Nat) (tag10 : Bool)
  /-- R829: A correctable or uncorrectable PCIe error that AER reports writes a RAS log entry with REGION 18. -/
  | pcieAerError (correctable : Bool) (status : Word)
  /-- R880: The TRNG fails its health tests, after which GET_NONCE, ATTEST, DEBUG_UNLOCK and LC_TRANSITION fail with ENTROPY. -/
  | trngHealthFailure
  /-- R903: The AO crystal oscillator starts running, XTAL_OK sets, and AO time leaves the internal oscillator of R775. -/
  | aoCrystalStart
  deriving DecidableEq, Repr

end Sys2Proof
end

