-- ==== Sys2Proof/Config.lean ====
section
/-!
DEFINITION. Sys2Proof/Config.lean: the values the spec leaves open. Each is an opaque constant without a body: no proof
can see what it is, so what is proved holds whatever it is. A fresh value is `freeNat` applied to the counter
`freeCtr` of State, which the step that uses it advances; a value that depends on operands alone is a function of them.
-/

namespace Sys2Proof.Config

/-- The free value number `n` of a run: any number (00_scope R15; DEDUCED, log entry 3). The user of it reduces it to the width
the spec gives the value. -/
opaque freeNat : Nat → Nat

/-- The choice an implementation makes within the error bound of an approximate function (14 R561, R562): function code
(0 EXP2, 1 LOG2, 2 RCP, 3 RSQRT), type (3 FP16, 4 BF16), input bits. One result for one input on every device. -/
opaque approx : Nat → Nat → Nat → Nat

/-- The maker pattern of touchstone pair 267 (13 R512): a number from which P_r of row r is taken, by OTP contents that the
spec does not give. -/
opaque makerPattern : Nat → Nat

/-- SHA-384 (22 R846). The spec names the function and does not define it. -/
opaque sha384 : List Byte → List Byte

/-- Whether an ECDSA P-384 signature over SHA-384 verifies (22 R846): public key, message, signature. -/
opaque ecdsaOk : List Byte → List Byte → List Byte → Bool

/-- The public keys of maker keys 0 to 3, in boot-ROM mask (22 R846). -/
opaque makerKey : Nat → List Byte

/-- The signature of a report by the device identity key (22 R868). -/
opaque deviceSign : List Byte → List Byte

/-- The device certificate (22 R866). -/
opaque deviceCert : List Byte

end Sys2Proof.Config
end

