-- ==== Sys2Proof/Machine/Operands.lean ====
section
/-!
DEFINITION. Sys2Proof/Machine/Operands.lean: bit fields, signed values, rounding, byte order and the sparse lists in
which memories and register files are held. Nothing here knows the machine's state.
-/

namespace Sys2Proof.Machine

/-- Bits `[hi:lo]` of a number (00_scope, Numbers, bits and bytes). -/
def bitsOf (n hi lo : Nat) : Nat := n / 2 ^ lo % 2 ^ (hi + 1 - lo)

/-- One bit of a number. -/
def bitOf (n i : Nat) : Bool := n / 2 ^ i % 2 == 1

/-- `n` with bits `[hi:lo]` replaced by `v` (taken modulo the field's width). -/
def putBits (n hi lo v : Nat) : Nat :=
  n / 2 ^ (hi + 1) * 2 ^ (hi + 1) + v % 2 ^ (hi + 1 - lo) * 2 ^ lo + n % 2 ^ lo

/-- 1 for true, 0 for false. -/
def b2n (b : Bool) : Nat := if b then 1 else 0

/-- The signed reading of the low `w` bits of `n`. -/
def sx (w n : Nat) : Int :=
  let m := n % 2 ^ w
  if m < 2 ^ (w - 1) then (m : Int) else (m : Int) - 2 ^ w

/-- The `w`-bit pattern of a signed value, modulo `2^w`. -/
def ux (w : Nat) (i : Int) : Nat := (i % 2 ^ w).toNat

/-- `x` limited to `[lo, hi]`. -/
def clampI (lo hi x : Int) : Int := if x < lo then lo else if hi < x then hi else x

/-- `x` saturated to the signed `w`-bit range. -/
def satS (w : Nat) (x : Int) : Int := clampI (-(2 ^ (w - 1))) (2 ^ (w - 1) - 1) x

/-- `x` saturated to the unsigned `w`-bit range. -/
def satU (w : Nat) (x : Int) : Nat := (clampI 0 (2 ^ w - 1) x).toNat

/-- The quotient to the nearest integer, halves away from zero (the C function round; PRESUMED, log entry 8). -/
def roundDiv (a : Int) (b : Nat) : Int :=
  if 0 ≤ a then (2 * a + b) / (2 * b) else -((2 * (-a) + b) / (2 * b))

/-- The quotient to the nearest integer, halves to even. -/
def roundEven (a : Int) (b : Nat) : Int :=
  let q := a / b
  let r := a - q * b
  if 2 * r < b then q else if (b : Int) < 2 * r then q + 1 else if q % 2 = 0 then q else q + 1

/-- The least integer not below `a / b`. -/
def ceilDiv (a b : Nat) : Nat := (a + b - 1) / b

/-! ### Bytes -/

/-- `n` bytes of `v`, least significant first (R16). -/
def leBytes : Nat → Nat → List Byte
  | 0, _ => []
  | n + 1, v => BitVec.ofNat 8 v :: leBytes n (v / 256)

/-- The number whose bytes, least significant first, are `l` (R16). -/
def leNat : List Byte → Nat
  | [] => 0
  | b :: l => b.toNat + 256 * leNat l

/-- The number whose bytes, most significant first, are `l` (R17). -/
def beNat (l : List Byte) : Nat := l.foldl (fun a b => a * 256 + b.toNat) 0

/-- `n` bytes of `v`, most significant first (R17). -/
def beBytes (n v : Nat) : List Byte := (leBytes n v).reverse

/-- `n` bytes of `l` from position `i` (fewer where `l` ends). -/
def slice (l : List α) (i n : Nat) : List α := (l.drop i).take n

/-- Big-endian field of `n` bytes at position `i` of a frame (R17). -/
def beAt (l : List Byte) (i n : Nat) : Nat := beNat (slice l i n)

/-- Little-endian field of `n` bytes at position `i` of an image or message (R16). -/
def leAt (l : List Byte) (i n : Nat) : Nat := leNat (slice l i n)

/-- `l` with the bytes at `i` replaced by `v` (the length unchanged). -/
def patch (l : List α) (i : Nat) (v : List α) : List α :=
  l.take i ++ (v.take (l.length - i)) ++ l.drop (i + v.length)

/-- The first `n` numbers. -/
def upTo (n : Nat) : List Nat := List.range n

/-! ### Sparse lists: keys strictly rising, no entry equal to what an unlisted key reads as -/

/-- What key `k` reads as; `d` gives the value of an unlisted key. (DESIGN CHOICE, log entry 2) -/
def sparseGet (d : Nat → α) : List (Nat × α) → Nat → α
  | [], k => d k
  | (a, v) :: l, k => if a = k then v else sparseGet d l k

/-- `l` with key `k` removed. -/
def sparseDel : List (Nat × α) → Nat → List (Nat × α)
  | [], _ => []
  | (a, v) :: l, k => if a = k then l else (a, v) :: sparseDel l k

/-- `l` with key `k` holding `v`, kept in rising order. -/
def sparseIns : List (Nat × α) → Nat → α → List (Nat × α)
  | [], k, v => [(k, v)]
  | (a, w) :: l, k, v =>
    if k < a then (k, v) :: (a, w) :: l else if k = a then (k, v) :: l else (a, w) :: sparseIns l k v

/-- Write `v` at key `k`: a value equal to what an unlisted key reads as removes the entry. -/
def sparsePut [DecidableEq α] (d : Nat → α) (l : List (Nat × α)) (k : Nat) (v : α) : List (Nat × α) :=
  if v = d k then sparseDel l k else sparseIns l k v

/-- The canonical form: keys strictly rising, no entry equal to what an unlisted key reads as. -/
def sparseWf [DecidableEq α] (d : Nat → α) : List (Nat × α) → Bool
  | [] => true
  | (k, v) :: l => decide (v ≠ d k) && l.all (fun e => decide (k < e.1)) && sparseWf d l

/-! ### Sets of numbers: strictly rising lists -/

/-- Put `k` into a rising list of numbers. -/
def setIns : List Nat → Nat → List Nat
  | [], k => [k]
  | a :: l, k => if k < a then k :: a :: l else if k = a then a :: l else a :: setIns l k

/-- Take `k` out of a list of numbers. -/
def setDel (l : List Nat) (k : Nat) : List Nat := l.filter (· ≠ k)

/-! ### Byte memories -/

/-- A byte memory: a sparse list whose unlisted bytes read 0 (DESIGN CHOICE, log entry 2). -/
abbrev Mem := List (Nat × Byte)

/-- The byte at `a`. (DESIGN CHOICE, log entry 2) -/
def memByte (m : Mem) (a : Nat) : Byte := sparseGet (fun _ => 0) m a

/-- `n` bytes from `a`. -/
def memBytes (m : Mem) (a n : Nat) : List Byte := (List.range n).map (fun i => memByte m (a + i))

/-- The `n`-byte little-endian number at `a` (R16). -/
def memNat (m : Mem) (a n : Nat) : Nat := leNat (memBytes m a n)

/-- Store one byte. -/
def memPut (m : Mem) (a : Nat) (b : Byte) : Mem := sparsePut (fun _ => 0) m a b

/-- Store bytes from `a` upwards. -/
def memPutBytes (m : Mem) (a : Nat) : List Byte → Mem
  | [] => m
  | b :: l => memPutBytes (memPut m a b) (a + 1) l

/-- Store the `n`-byte little-endian number `v` at `a` (R16). -/
def memPutNat (m : Mem) (a n v : Nat) : Mem := memPutBytes m a (leBytes n v)

/-- The canonical form of a memory, as a check. (DESIGN CHOICE, log entry 2) -/
def Memory.wf (m : Mem) : Bool := sparseWf (fun _ => 0) m

end Sys2Proof.Machine
end

