-- ==== Sys2Proof/Machine/Flags.lean ====
section
/-!
DEFINITION. Sys2Proof/Machine/Flags.lean: the field types of registers (00_scope R18, R19, R22 to R24), what a write
does to a field of each type, and saturating and wrapping counters.
-/

namespace Sys2Proof.Machine

/-- Register field types (R18). -/
inductive FTy where
  | rw | ro | wo | w1c | w1s | rc | sc | rwl
  deriving DecidableEq, Repr

/-- A field of one register: the register's key and the field's bits. -/
structure Fld where
  off : Nat
  hi : Nat
  lo : Nat
  deriving DecidableEq, Repr

/-- A row of the register map: one field. -/
structure FRow where
  hi : Nat
  lo : Nat
  ty : FTy
  reset : Nat
  deriving DecidableEq, Repr

/-- The value a write of `new` leaves in a field of type `ty` that holds `old` (R18); `lock` says whether the owning
block's lock is open. An SC field keeps the 1 until its action has been accepted, a WO field holds what was written and reads zero.
(DEDUCED, log entry 100) -/
def writeFld (ty : FTy) (lock : Bool) (w old new : Nat) : Nat :=
  match ty with
  | .rw => new % 2 ^ w
  | .ro => old
  | .wo => new % 2 ^ w
  | .w1c => (List.range w).foldl (fun a i => if bitOf old i && !bitOf new i then a + 2 ^ i else a) 0
  | .w1s => (List.range w).foldl (fun a i => if bitOf old i || bitOf new i then a + 2 ^ i else a) 0
  | .rc => old
  | .sc => (List.range w).foldl (fun a i => if bitOf old i || bitOf new i then a + 2 ^ i else a) 0
  | .rwl => if lock then new % 2 ^ w else old

/-- The word a write of `new` leaves in a register of the given fields (R18, R19: bits outside the fields stay 0). -/
def writeWord (fs : List FRow) (lock : Bool) (old new : Nat) : Nat :=
  fs.foldl (fun a f => a + writeFld f.ty lock (f.hi + 1 - f.lo) (bitsOf old f.hi f.lo) (bitsOf new f.hi f.lo) * 2 ^ f.lo) 0

/-- The word that reads back: a WO field reads zero (R18). -/
def readWord (fs : List FRow) (v : Nat) : Nat :=
  fs.foldl (fun a f => if f.ty = .wo then a else a + bitsOf v f.hi f.lo * 2 ^ f.lo) 0

/-- What a read leaves: every RC field is cleared (R18). -/
def afterRead (fs : List FRow) (v : Nat) : Nat :=
  fs.foldl (fun a f => if f.ty = .rc then a else a + bitsOf v f.hi f.lo * 2 ^ f.lo) 0

/-- The reset word of a register of the given fields. -/
def resetWord (fs : List FRow) : Nat := fs.foldl (fun a f => a + f.reset % 2 ^ (f.hi + 1 - f.lo) * 2 ^ f.lo) 0

/-- A counter of `w` bits that saturates. -/
def satAdd (w a n : Nat) : Nat := if a + n < 2 ^ w then a + n else 2 ^ w - 1

/-- A counter of `w` bits that wraps. -/
def wrapAdd (w a n : Nat) : Nat := (a + n) % 2 ^ w

end Sys2Proof.Machine
end

