-- ==== Sys2Proof/Machine/Fields.lean ====
section
/-!
DEFINITION. Sys2Proof/Machine/Fields.lean: a name for every field of every register of the spec (the register sections of
files 02 to 22), as (offset, high bit, low bit); array registers take their indices. A register with one field is named by
the register alone. GLB_TILE_ROLE nibbles, PMU domain states and similar packed fields have their own names at the end.
-/

namespace Sys2Proof.Machine.F

/-! GLB_PART -/
def GLB_PART : Fld := ⟨0x0, 31, 0⟩
/-! GLB_STEP -/
def GLB_STEP : Fld := ⟨0x4, 7, 0⟩
/-! GLB_BOOT -/
def GLB_BOOT_STAGE : Fld := ⟨0x8, 2, 0⟩
def GLB_BOOT_UNTESTED : Fld := ⟨0x8, 3, 3⟩
def GLB_BOOT_NET_FAIL : Fld := ⟨0x8, 4, 4⟩
def GLB_BOOT_SAFE_SRC : Fld := ⟨0x8, 6, 5⟩
def GLB_BOOT_SLOT : Fld := ⟨0x8, 7, 7⟩
def GLB_BOOT_FW_REASON : Fld := ⟨0x8, 15, 8⟩
/-! GLB_LC -/
def GLB_LC_LC : Fld := ⟨0xC, 2, 0⟩
def GLB_LC_OWNER_KEY : Fld := ⟨0xC, 3, 3⟩
def GLB_LC_ERASE_PENDING : Fld := ⟨0xC, 4, 4⟩
def GLB_LC_PAIRING : Fld := ⟨0xC, 5, 5⟩
def GLB_LC_SIGNED_PLANS : Fld := ⟨0xC, 6, 6⟩
def GLB_LC_POLICY_DEFAULT : Fld := ⟨0xC, 7, 7⟩
def GLB_LC_DBG_SCOPE : Fld := ⟨0xC, 12, 8⟩
def GLB_LC_DBG_LEFT : Fld := ⟨0xC, 31, 16⟩
/-! GLB_DEVID_LO -/
def GLB_DEVID_LO : Fld := ⟨0x10, 31, 0⟩
/-! GLB_DEVID_HI -/
def GLB_DEVID_HI : Fld := ⟨0x14, 31, 0⟩
/-! GLB_FW_SLOTS -/
def GLB_FW_SLOTS_TM_SLOT : Fld := ⟨0x18, 0, 0⟩
def GLB_FW_SLOTS_NBR_SLOT : Fld := ⟨0x18, 1, 1⟩
def GLB_FW_SLOTS_NBR_VALID : Fld := ⟨0x18, 2, 2⟩
def GLB_FW_SLOTS_PREF : Fld := ⟨0x18, 6, 4⟩
def GLB_FW_SLOTS_UPD_OPEN : Fld := ⟨0x18, 8, 8⟩
def GLB_FW_SLOTS_UPD_KIND : Fld := ⟨0x18, 10, 9⟩
/-! GLB_FW_BENCH -/
def GLB_FW_BENCH_REASON_A : Fld := ⟨0x1C, 7, 0⟩
def GLB_FW_BENCH_REASON_B : Fld := ⟨0x1C, 15, 8⟩
def GLB_FW_BENCH_TRIED_A : Fld := ⟨0x1C, 16, 16⟩
def GLB_FW_BENCH_TRIED_B : Fld := ⟨0x1C, 17, 17⟩
/-! GLB_CIM_PGM -/
def GLB_CIM_PGM : Fld := ⟨0x20, 6, 0⟩
/-! GLB_PLAN_STAT -/
def GLB_PLAN_STAT_STATE : Fld := ⟨0x100, 2, 0⟩
def GLB_PLAN_STAT_TILE_LOCAL : Fld := ⟨0x100, 3, 3⟩
def GLB_PLAN_STAT_ENVELOPE : Fld := ⟨0x100, 4, 4⟩
/-! GLB_PLAN_REASON -/
def GLB_PLAN_REASON_REASON : Fld := ⟨0x104, 7, 0⟩
def GLB_PLAN_REASON_DETAIL : Fld := ⟨0x104, 31, 16⟩
/-! GLB_PLAN_ID_LO -/
def GLB_PLAN_ID_LO : Fld := ⟨0x108, 31, 0⟩
/-! GLB_PLAN_ID_HI -/
def GLB_PLAN_ID_HI : Fld := ⟨0x10C, 31, 0⟩
/-! GLB_PLAN_E0 -/
def GLB_PLAN_E0 : Fld := ⟨0x110, 31, 0⟩
/-! GLB_PLAN_LAT -/
def GLB_PLAN_LAT : Fld := ⟨0x114, 31, 0⟩
/-! GLB_PLAN_ABI -/
def GLB_PLAN_ABI_ABI_MINOR : Fld := ⟨0x118, 15, 0⟩
def GLB_PLAN_ABI_ABI_MAJOR : Fld := ⟨0x118, 31, 16⟩
/-! GLB_CHG_STAT -/
def GLB_CHG_STAT_PROC : Fld := ⟨0x140, 2, 0⟩
def GLB_CHG_STAT_STEP : Fld := ⟨0x140, 7, 4⟩
def GLB_CHG_STAT_RESULT : Fld := ⟨0x140, 15, 8⟩
def GLB_CHG_STAT_BUSY : Fld := ⟨0x140, 16, 16⟩
/-! GLB_CHG_SUSP -/
def GLB_CHG_SUSP : Fld := ⟨0x144, 31, 0⟩
/-! GLB_TILE_ROLE -/
def GLB_TILE_ROLE (i : Nat) : Fld := ⟨0x180 + i * 0x4, 31, 0⟩
/-! PMU_DEV_CTL -/
def PMU_DEV_CTL_REQ : Fld := ⟨0x100000, 1, 0⟩
def PMU_DEV_CTL_STATE : Fld := ⟨0x100000, 5, 4⟩
def PMU_DEV_CTL_BUSY : Fld := ⟨0x100000, 8, 8⟩
def PMU_DEV_CTL_REFUSED : Fld := ⟨0x100000, 9, 9⟩
def PMU_DEV_CTL_WAKE_PEND : Fld := ⟨0x100000, 10, 10⟩
/-! PMU_DEV_CFG -/
def PMU_DEV_CFG_HOST_EN : Fld := ⟨0x100004, 0, 0⟩
def PMU_DEV_CFG_XTAL_OK : Fld := ⟨0x100004, 1, 1⟩
def PMU_DEV_CFG_RC_MODE : Fld := ⟨0x100004, 2, 2⟩
/-! PMU_WAKE_EN -/
def PMU_WAKE_EN_GPIO : Fld := ⟨0x100008, 0, 0⟩
def PMU_WAKE_EN_ALM : Fld := ⟨0x100008, 1, 1⟩
def PMU_WAKE_EN_TIMER : Fld := ⟨0x100008, 2, 2⟩
def PMU_WAKE_EN_HOST : Fld := ⟨0x100008, 3, 3⟩
/-! PMU_WAKE_CAUSE -/
def PMU_WAKE_CAUSE : Fld := ⟨0x10000C, 4, 0⟩
/-! PMU_AO_CNT_LO -/
def PMU_AO_CNT_LO : Fld := ⟨0x100010, 31, 0⟩
/-! PMU_AO_CNT_HI -/
def PMU_AO_CNT_HI : Fld := ⟨0x100014, 15, 0⟩
/-! PMU_AO_ALARM_LO -/
def PMU_AO_ALARM_LO : Fld := ⟨0x100018, 31, 0⟩
/-! PMU_AO_ALARM_HI -/
def PMU_AO_ALARM_HI_ALARM : Fld := ⟨0x10001C, 15, 0⟩
def PMU_AO_ALARM_HI_ARM : Fld := ⟨0x10001C, 31, 31⟩
/-! PMU_DOM_STAT -/
def PMU_DOM_STAT_STATES : Fld := ⟨0x100020, 13, 0⟩
def PMU_DOM_STAT_WAKE_FAIL : Fld := ⟨0x100020, 22, 16⟩
/-! PMU_DOMCTL1 -/
def PMU_DOMCTL1_MODE : Fld := ⟨0x100044, 0, 0⟩
def PMU_DOMCTL1_T_REG : Fld := ⟨0x100044, 15, 8⟩
def PMU_DOMCTL1_T_OSC : Fld := ⟨0x100044, 19, 16⟩
def PMU_DOMCTL1_T_MEM : Fld := ⟨0x100044, 23, 20⟩
def PMU_DOMCTL1_T_MEMR : Fld := ⟨0x100044, 27, 24⟩
def PMU_DOMCTL1_T_LOGIC : Fld := ⟨0x100044, 31, 28⟩
/-! PMU_DOMCTL2 -/
def PMU_DOMCTL2_MODE : Fld := ⟨0x100048, 0, 0⟩
def PMU_DOMCTL2_T_REG : Fld := ⟨0x100048, 15, 8⟩
def PMU_DOMCTL2_T_OSC : Fld := ⟨0x100048, 19, 16⟩
def PMU_DOMCTL2_T_MEM : Fld := ⟨0x100048, 23, 20⟩
def PMU_DOMCTL2_T_MEMR : Fld := ⟨0x100048, 27, 24⟩
def PMU_DOMCTL2_T_LOGIC : Fld := ⟨0x100048, 31, 28⟩
/-! PMU_DOMCTL3 -/
def PMU_DOMCTL3_MODE : Fld := ⟨0x10004C, 0, 0⟩
def PMU_DOMCTL3_T_REG : Fld := ⟨0x10004C, 15, 8⟩
def PMU_DOMCTL3_T_OSC : Fld := ⟨0x10004C, 19, 16⟩
def PMU_DOMCTL3_T_MEM : Fld := ⟨0x10004C, 23, 20⟩
def PMU_DOMCTL3_T_MEMR : Fld := ⟨0x10004C, 27, 24⟩
def PMU_DOMCTL3_T_LOGIC : Fld := ⟨0x10004C, 31, 28⟩
/-! PMU_DOMCTL4 -/
def PMU_DOMCTL4_MODE : Fld := ⟨0x100050, 0, 0⟩
def PMU_DOMCTL4_T_REG : Fld := ⟨0x100050, 15, 8⟩
def PMU_DOMCTL4_T_OSC : Fld := ⟨0x100050, 19, 16⟩
def PMU_DOMCTL4_T_MEM : Fld := ⟨0x100050, 23, 20⟩
def PMU_DOMCTL4_T_MEMR : Fld := ⟨0x100050, 27, 24⟩
def PMU_DOMCTL4_T_LOGIC : Fld := ⟨0x100050, 31, 28⟩
/-! PMU_DOMCTL5 -/
def PMU_DOMCTL5_MODE : Fld := ⟨0x100054, 0, 0⟩
def PMU_DOMCTL5_T_REG : Fld := ⟨0x100054, 15, 8⟩
def PMU_DOMCTL5_T_OSC : Fld := ⟨0x100054, 19, 16⟩
def PMU_DOMCTL5_T_MEM : Fld := ⟨0x100054, 23, 20⟩
def PMU_DOMCTL5_T_MEMR : Fld := ⟨0x100054, 27, 24⟩
def PMU_DOMCTL5_T_LOGIC : Fld := ⟨0x100054, 31, 28⟩
/-! PMU_DOMCTL6 -/
def PMU_DOMCTL6_MODE : Fld := ⟨0x100058, 0, 0⟩
def PMU_DOMCTL6_T_REG : Fld := ⟨0x100058, 15, 8⟩
def PMU_DOMCTL6_T_OSC : Fld := ⟨0x100058, 19, 16⟩
def PMU_DOMCTL6_T_MEM : Fld := ⟨0x100058, 23, 20⟩
def PMU_DOMCTL6_T_MEMR : Fld := ⟨0x100058, 27, 24⟩
def PMU_DOMCTL6_T_LOGIC : Fld := ⟨0x100058, 31, 28⟩
/-! PMU_DOMCTL7 -/
def PMU_DOMCTL7_MODE : Fld := ⟨0x10005C, 0, 0⟩
def PMU_DOMCTL7_T_REG : Fld := ⟨0x10005C, 15, 8⟩
def PMU_DOMCTL7_T_OSC : Fld := ⟨0x10005C, 19, 16⟩
def PMU_DOMCTL7_T_MEM : Fld := ⟨0x10005C, 23, 20⟩
def PMU_DOMCTL7_T_MEMR : Fld := ⟨0x10005C, 27, 24⟩
def PMU_DOMCTL7_T_LOGIC : Fld := ⟨0x10005C, 31, 28⟩
/-! PMU_CLU -/
def PMU_CLU_REQ (i : Nat) : Fld := ⟨0x100100 + i * 0x4, 1, 0⟩
def PMU_CLU_STATE (i : Nat) : Fld := ⟨0x100100 + i * 0x4, 3, 2⟩
def PMU_CLU_OPP_REQ (i : Nat) : Fld := ⟨0x100100 + i * 0x4, 5, 4⟩
def PMU_CLU_OPP (i : Nat) : Fld := ⟨0x100100 + i * 0x4, 7, 6⟩
def PMU_CLU_FLOOR (i : Nat) : Fld := ⟨0x100100 + i * 0x4, 9, 8⟩
def PMU_CLU_BUSY (i : Nat) : Fld := ⟨0x100100 + i * 0x4, 12, 12⟩
def PMU_CLU_REFUSED (i : Nat) : Fld := ⟨0x100100 + i * 0x4, 13, 13⟩
def PMU_CLU_WAKE_FAIL (i : Nat) : Fld := ⟨0x100100 + i * 0x4, 14, 14⟩
def PMU_CLU_PEND (i : Nat) : Fld := ⟨0x100100 + i * 0x4, 15, 15⟩
/-! PMU_NAP -/
def PMU_NAP_REQ (i : Nat) : Fld := ⟨0x100140 + i * 0x4, 15, 0⟩
def PMU_NAP_STATE (i : Nat) : Fld := ⟨0x100140 + i * 0x4, 31, 16⟩
/-! PMU_DVFS_CFG -/
def PMU_DVFS_CFG_AVS_ADDR : Fld := ⟨0x100180, 3, 0⟩
def PMU_DVFS_CFG_AVS_WAIT : Fld := ⟨0x100180, 4, 4⟩
def PMU_DVFS_CFG_SLEW : Fld := ⟨0x100180, 12, 8⟩
def PMU_DVFS_CFG_SETTLE : Fld := ⟨0x100180, 23, 16⟩
/-! PMU_DVFS_STAT -/
def PMU_DVFS_STAT_VRAIL : Fld := ⟨0x100184, 9, 0⟩
def PMU_DVFS_STAT_VREAD : Fld := ⟨0x100184, 25, 16⟩
def PMU_DVFS_STAT_BUSY : Fld := ⟨0x100184, 26, 26⟩
def PMU_DVFS_STAT_ORDER_ERR : Fld := ⟨0x100184, 27, 27⟩
def PMU_DVFS_STAT_AVS_ERR : Fld := ⟨0x100184, 28, 28⟩
/-! PMU_AVS_VSET -/
def PMU_AVS_VSET : Fld := ⟨0x100188, 9, 0⟩
/-! PMU_FDIR -/
def PMU_FDIR_CLUSTER : Fld := ⟨0x10018C, 3, 0⟩
def PMU_FDIR_FSEL : Fld := ⟨0x10018C, 5, 4⟩
def PMU_FDIR_GO : Fld := ⟨0x10018C, 8, 8⟩
/-! PMU_THERM_CFG -/
def PMU_THERM_CFG_WARN : Fld := ⟨0x1001C0, 7, 0⟩
def PMU_THERM_CFG_QREL : Fld := ⟨0x1001C0, 15, 8⟩
def PMU_THERM_CFG_WARN_IE : Fld := ⟨0x1001C0, 16, 16⟩
/-! PMU_THERM_STAT -/
def PMU_THERM_STAT_TJ : Fld := ⟨0x1001C4, 15, 0⟩
def PMU_THERM_STAT_HOT : Fld := ⟨0x1001C4, 19, 16⟩
def PMU_THERM_STAT_WARN : Fld := ⟨0x1001C4, 20, 20⟩
/-! PMU_TS -/
def PMU_TS_T (i : Nat) : Fld := ⟨0x1001E0 + i * 0x4, 15, 0⟩
def PMU_TS_VALID (i : Nat) : Fld := ⟨0x1001E0 + i * 0x4, 31, 31⟩
/-! PMU_QUENCH -/
def PMU_QUENCH_ACTIVE : Fld := ⟨0x100220, 0, 0⟩
def PMU_QUENCH_CAUSE : Fld := ⟨0x100220, 3, 1⟩
def PMU_QUENCH_CLR : Fld := ⟨0x100220, 4, 4⟩
def PMU_QUENCH_CLR_REFUSED : Fld := ⟨0x100220, 5, 5⟩
def PMU_QUENCH_TRIP : Fld := ⟨0x100220, 8, 8⟩
def PMU_QUENCH_TRIP_CNT : Fld := ⟨0x100220, 31, 16⟩
/-! PMU_QCNT -/
def PMU_QCNT : Fld := ⟨0x100224, 31, 0⟩
/-! TSB_CTL -/
def TSB_CTL_SERVO_EN : Fld := ⟨0x200000, 0, 0⟩
def TSB_CTL_REVERTIVE : Fld := ⟨0x200000, 1, 1⟩
def TSB_CTL_HOLD_FORCE : Fld := ⟨0x200000, 2, 2⟩
/-! TSB_STAT -/
def TSB_STAT_STATE : Fld := ⟨0x200004, 1, 0⟩
def TSB_STAT_ACTIVE_SRC : Fld := ⟨0x200004, 3, 2⟩
def TSB_STAT_PPS_VALID : Fld := ⟨0x200004, 4, 4⟩
def TSB_STAT_PTP_VALID : Fld := ⟨0x200004, 5, 5⟩
def TSB_STAT_TEN_VALID : Fld := ⟨0x200004, 6, 6⟩
def TSB_STAT_TOD_SET : Fld := ⟨0x200004, 7, 7⟩
def TSB_STAT_REFLOSS : Fld := ⟨0x200004, 8, 8⟩
def TSB_STAT_STEP_REFUSED : Fld := ⟨0x200004, 9, 9⟩
def TSB_STAT_SLEW_LIMIT : Fld := ⟨0x200004, 10, 10⟩
/-! TSB_SNAP_SEC_LO -/
def TSB_SNAP_SEC_LO : Fld := ⟨0x200010, 31, 0⟩
/-! TSB_SNAP_SEC_HI -/
def TSB_SNAP_SEC_HI : Fld := ⟨0x200014, 15, 0⟩
/-! TSB_SNAP_NS -/
def TSB_SNAP_NS : Fld := ⟨0x200018, 29, 0⟩
/-! TSB_SNAP_FRAC -/
def TSB_SNAP_FRAC : Fld := ⟨0x20001C, 15, 0⟩
/-! TSB_TICK_LO -/
def TSB_TICK_LO : Fld := ⟨0x200020, 31, 0⟩
/-! TSB_TICK_HI -/
def TSB_TICK_HI : Fld := ⟨0x200024, 31, 0⟩
/-! TSB_INCR_INIT_LO -/
def TSB_INCR_INIT_LO : Fld := ⟨0x200030, 31, 0⟩
/-! TSB_INCR_INIT_HI -/
def TSB_INCR_INIT_HI : Fld := ⟨0x200034, 11, 0⟩
/-! TSB_INCR_LO -/
def TSB_INCR_LO : Fld := ⟨0x200038, 31, 0⟩
/-! TSB_INCR_HI -/
def TSB_INCR_HI : Fld := ⟨0x20003C, 11, 0⟩
/-! TSB_STEP_SEC_LO -/
def TSB_STEP_SEC_LO : Fld := ⟨0x200040, 31, 0⟩
/-! TSB_STEP_SEC_HI -/
def TSB_STEP_SEC_HI : Fld := ⟨0x200044, 15, 0⟩
/-! TSB_STEP_NS -/
def TSB_STEP_NS : Fld := ⟨0x200048, 29, 0⟩
/-! TSB_STEP_CTL -/
def TSB_STEP_CTL_GO : Fld := ⟨0x20004C, 0, 0⟩
def TSB_STEP_CTL_MODE : Fld := ⟨0x20004C, 1, 1⟩
/-! TSB_SRC_CTL -/
def TSB_SRC_CTL_PRI0 : Fld := ⟨0x200050, 1, 0⟩
def TSB_SRC_CTL_PRI1 : Fld := ⟨0x200050, 3, 2⟩
def TSB_SRC_CTL_PRI2 : Fld := ⟨0x200050, 5, 4⟩
def TSB_SRC_CTL_TIMEOUT : Fld := ⟨0x200050, 15, 8⟩
def TSB_SRC_CTL_REVERT_CNT : Fld := ⟨0x200050, 23, 16⟩
/-! TSB_SERVO_CFG -/
def TSB_SERVO_CFG_PERIOD_LOG2 : Fld := ⟨0x200054, 3, 0⟩
def TSB_SERVO_CFG_LIMIT : Fld := ⟨0x200054, 27, 8⟩
/-! TSB_SERVO_KP -/
def TSB_SERVO_KP : Fld := ⟨0x200058, 15, 0⟩
/-! TSB_SERVO_KI -/
def TSB_SERVO_KI : Fld := ⟨0x20005C, 15, 0⟩
/-! TSB_SERVO_INT -/
def TSB_SERVO_INT : Fld := ⟨0x200060, 31, 0⟩
/-! TSB_SERVO_ERR -/
def TSB_SERVO_ERR : Fld := ⟨0x200064, 31, 0⟩
/-! TSB_LOCK_CFG -/
def TSB_LOCK_CFG_LOCK_THR : Fld := ⟨0x200068, 11, 0⟩
def TSB_LOCK_CFG_UNLOCK_THR : Fld := ⟨0x200068, 23, 12⟩
def TSB_LOCK_CFG_LOCK_CNT : Fld := ⟨0x200068, 31, 24⟩
/-! TSB_PPS_IN_CFG -/
def TSB_PPS_IN_CFG_EN : Fld := ⟨0x200070, 0, 0⟩
def TSB_PPS_IN_CFG_EDGE : Fld := ⟨0x200070, 1, 1⟩
def TSB_PPS_IN_CFG_CABLE_DLY : Fld := ⟨0x200070, 31, 8⟩
/-! TSB_PPS_CAP -/
def TSB_PPS_CAP : Fld := ⟨0x200074, 29, 0⟩
/-! TSB_PPS_BAD -/
def TSB_PPS_BAD : Fld := ⟨0x200078, 15, 0⟩
/-! TSB_PTP_OFS -/
def TSB_PTP_OFS : Fld := ⟨0x200080, 31, 0⟩
/-! TSB_PTP_DLY -/
def TSB_PTP_DLY : Fld := ⟨0x200084, 31, 0⟩
/-! TSB_PTP_PUSH -/
def TSB_PTP_PUSH : Fld := ⟨0x200088, 7, 0⟩
/-! TSB_PTP_CNT -/
def TSB_PTP_CNT : Fld := ⟨0x20008C, 15, 0⟩
/-! TSB_TEN_CFG -/
def TSB_TEN_CFG_EN : Fld := ⟨0x200090, 0, 0⟩
def TSB_TEN_CFG_DLY : Fld := ⟨0x200090, 18, 8⟩
/-! TSB_TEN_PH -/
def TSB_TEN_PH : Fld := ⟨0x200094, 15, 0⟩
/-! TSB_PPS_OUT_CFG -/
def TSB_PPS_OUT_CFG_EN : Fld := ⟨0x2000A0, 0, 0⟩
def TSB_PPS_OUT_CFG_SQUELCH_FR : Fld := ⟨0x2000A0, 1, 1⟩
def TSB_PPS_OUT_CFG_WIDTH : Fld := ⟨0x2000A0, 17, 8⟩
/-! TSB_PPS_OUT_ADV -/
def TSB_PPS_OUT_ADV : Fld := ⟨0x2000A4, 23, 0⟩
/-! TSB_TEN_OUT_CFG -/
def TSB_TEN_OUT_CFG_EN : Fld := ⟨0x2000A8, 0, 0⟩
def TSB_TEN_OUT_CFG_SQUELCH_FR : Fld := ⟨0x2000A8, 1, 1⟩
/-! TSB_SYNCE_CTL -/
def TSB_SYNCE_CTL_EN (i : Nat) : Fld := ⟨0x2000B0 + i * 0x4, 0, 0⟩
def TSB_SYNCE_CTL_LANE (i : Nat) : Fld := ⟨0x2000B0 + i * 0x4, 3, 1⟩
def TSB_SYNCE_CTL_DIV (i : Nat) : Fld := ⟨0x2000B0 + i * 0x4, 5, 4⟩
def TSB_SYNCE_CTL_SQUELCH_LOS (i : Nat) : Fld := ⟨0x2000B0 + i * 0x4, 6, 6⟩
def TSB_SYNCE_CTL_ACTIVE (i : Nat) : Fld := ⟨0x2000B0 + i * 0x4, 7, 7⟩
/-! TSB_EPOCH_LEN -/
def TSB_EPOCH_LEN : Fld := ⟨0x2000C0, 19, 0⟩
/-! TSB_EPOCH_ORIGIN_LO -/
def TSB_EPOCH_ORIGIN_LO : Fld := ⟨0x2000C4, 31, 0⟩
/-! TSB_EPOCH_ORIGIN_HI -/
def TSB_EPOCH_ORIGIN_HI : Fld := ⟨0x2000C8, 31, 0⟩
/-! TSB_EPOCH_NUM -/
def TSB_EPOCH_NUM : Fld := ⟨0x2000CC, 31, 0⟩
/-! TSB_EPOCH_CTL -/
def TSB_EPOCH_CTL_RUN : Fld := ⟨0x2000D0, 0, 0⟩
def TSB_EPOCH_CTL_ARM : Fld := ⟨0x2000D0, 1, 1⟩
def TSB_EPOCH_CTL_WR_REFUSED : Fld := ⟨0x2000D0, 2, 2⟩
/-! TSB_EPOCH_NEXT -/
def TSB_EPOCH_NEXT : Fld := ⟨0x2000D4, 19, 0⟩
/-! TSB_ORAN_ALPHA -/
def TSB_ORAN_ALPHA : Fld := ⟨0x2000E0, 31, 0⟩
/-! TSB_ORAN_BETA -/
def TSB_ORAN_BETA : Fld := ⟨0x2000E4, 15, 0⟩
/-! TSB_PT_CFG -/
def TSB_PT_CFG_EN (i : Nat) : Fld := ⟨0x200100 + i * 0x40, 0, 0⟩
def TSB_PT_CFG_BEACON_MS (i : Nat) : Fld := ⟨0x200100 + i * 0x40, 7, 1⟩
def TSB_PT_CFG_KO (i : Nat) : Fld := ⟨0x200100 + i * 0x40, 15, 8⟩
def TSB_PT_CFG_KR (i : Nat) : Fld := ⟨0x200100 + i * 0x40, 23, 16⟩
def TSB_PT_CFG_DTOL (i : Nat) : Fld := ⟨0x200100 + i * 0x40, 31, 24⟩
/-! TSB_PT_STAT -/
def TSB_PT_STAT_STATE (i : Nat) : Fld := ⟨0x200104 + i * 0x40, 1, 0⟩
def TSB_PT_STAT_MISS (i : Nat) : Fld := ⟨0x200104 + i * 0x40, 15, 8⟩
/-! TSB_PT_OFS_LO -/
def TSB_PT_OFS_LO (i : Nat) : Fld := ⟨0x200108 + i * 0x40, 31, 0⟩
/-! TSB_PT_OFS_HI -/
def TSB_PT_OFS_HI (i : Nat) : Fld := ⟨0x20010C + i * 0x40, 31, 0⟩
/-! TSB_PT_P0_LO -/
def TSB_PT_P0_LO (i : Nat) : Fld := ⟨0x200110 + i * 0x40, 31, 0⟩
/-! TSB_PT_P0_HI -/
def TSB_PT_P0_HI (i : Nat) : Fld := ⟨0x200114 + i * 0x40, 15, 0⟩
/-! TSB_PT_RATE -/
def TSB_PT_RATE (i : Nat) : Fld := ⟨0x200118 + i * 0x40, 31, 0⟩
/-! TSB_PT_ERR -/
def TSB_PT_ERR (i : Nat) : Fld := ⟨0x20011C + i * 0x40, 31, 0⟩
/-! TSB_PT_DLY -/
def TSB_PT_DLY (i : Nat) : Fld := ⟨0x200120 + i * 0x40, 31, 0⟩
/-! TSB_PT_ASYM -/
def TSB_PT_ASYM (i : Nat) : Fld := ⟨0x200124 + i * 0x40, 31, 0⟩
/-! TSB_PT_UNMAP -/
def TSB_PT_UNMAP (i : Nat) : Fld := ⟨0x200128 + i * 0x40, 31, 0⟩
/-! TSB_PT_DISC -/
def TSB_PT_DISC (i : Nat) : Fld := ⟨0x20012C + i * 0x40, 15, 0⟩
/-! NET_GRP_CFG -/
def NET_GRP_CFG_G0_MODE : Fld := ⟨0x400000, 0, 0⟩
def NET_GRP_CFG_G1_MODE : Fld := ⟨0x400000, 1, 1⟩
def NET_GRP_CFG_REFUSED : Fld := ⟨0x400000, 2, 2⟩
/-! NET_FH_CFG -/
def NET_FH_CFG : Fld := ⟨0x400004, 7, 0⟩
/-! NET_MAC_AGE -/
def NET_MAC_AGE : Fld := ⟨0x400008, 9, 0⟩
/-! NET_MAC_CMD -/
def NET_MAC_CMD_OP : Fld := ⟨0x400010, 1, 0⟩
def NET_MAC_CMD_FLUSH_PORT : Fld := ⟨0x400010, 7, 4⟩
def NET_MAC_CMD_GO : Fld := ⟨0x400010, 8, 8⟩
def NET_MAC_CMD_BUCKET_FULL : Fld := ⟨0x400010, 9, 9⟩
def NET_MAC_CMD_NOT_FOUND : Fld := ⟨0x400010, 10, 10⟩
def NET_MAC_CMD_LEARN_FAIL : Fld := ⟨0x400010, 31, 16⟩
/-! NET_MAC_DATA0 -/
def NET_MAC_DATA0 : Fld := ⟨0x400014, 31, 0⟩
/-! NET_MAC_DATA1 -/
def NET_MAC_DATA1_MAC : Fld := ⟨0x400018, 15, 0⟩
def NET_MAC_DATA1_VID : Fld := ⟨0x400018, 27, 16⟩
/-! NET_MAC_DATA2 -/
def NET_MAC_DATA2_PORTS : Fld := ⟨0x40001C, 8, 0⟩
def NET_MAC_DATA2_STATIC : Fld := ⟨0x40001C, 16, 16⟩
def NET_MAC_DATA2_FH : Fld := ⟨0x40001C, 17, 17⟩
def NET_MAC_DATA2_VALID : Fld := ⟨0x40001C, 31, 31⟩
/-! NET_VLAN_CMD -/
def NET_VLAN_CMD_VID : Fld := ⟨0x400020, 11, 0⟩
def NET_VLAN_CMD_WRITE : Fld := ⟨0x400020, 12, 12⟩
def NET_VLAN_CMD_READ : Fld := ⟨0x400020, 13, 13⟩
/-! NET_VLAN_DATA -/
def NET_VLAN_DATA_MEMBER : Fld := ⟨0x400024, 9, 0⟩
def NET_VLAN_DATA_UNTAG : Fld := ⟨0x400024, 18, 10⟩
def NET_VLAN_DATA_FLOOD : Fld := ⟨0x400024, 24, 24⟩
def NET_VLAN_DATA_VALID : Fld := ⟨0x400024, 31, 31⟩
/-! NET_TC_CFG -/
def NET_TC_CFG_MODE : Fld := ⟨0x400030, 1, 0⟩
def NET_TC_CFG_LL_FWD : Fld := ⟨0x400030, 2, 2⟩
def NET_TC_CFG_PD_RESP_EN : Fld := ⟨0x400030, 3, 3⟩
/-! NET_TC_ID_LO -/
def NET_TC_ID_LO : Fld := ⟨0x400034, 31, 0⟩
/-! NET_TC_ID_HI -/
def NET_TC_ID_HI : Fld := ⟨0x400038, 31, 0⟩
/-! NET_TC_OVF -/
def NET_TC_OVF : Fld := ⟨0x40003C, 31, 0⟩
/-! NET_TC_SKIP -/
def NET_TC_SKIP : Fld := ⟨0x400040, 31, 0⟩
/-! NET_P_CFG -/
def NET_P_CFG_EN (i : Nat) : Fld := ⟨0x400100 + i * 0x80, 0, 0⟩
def NET_P_CFG_FEC (i : Nat) : Fld := ⟨0x400100 + i * 0x80, 1, 1⟩
def NET_P_CFG_LEARN (i : Nat) : Fld := ⟨0x400100 + i * 0x80, 2, 2⟩
def NET_P_CFG_CT_EN (i : Nat) : Fld := ⟨0x400100 + i * 0x80, 3, 3⟩
def NET_P_CFG_PVID (i : Nat) : Fld := ⟨0x400100 + i * 0x80, 15, 4⟩
def NET_P_CFG_PPCP (i : Nat) : Fld := ⟨0x400100 + i * 0x80, 18, 16⟩
/-! NET_P_STAT -/
def NET_P_STAT_LINK (i : Nat) : Fld := ⟨0x400104 + i * 0x80, 0, 0⟩
def NET_P_STAT_BLOCK_LOCK (i : Nat) : Fld := ⟨0x400104 + i * 0x80, 1, 1⟩
def NET_P_STAT_FEC_LOCK (i : Nat) : Fld := ⟨0x400104 + i * 0x80, 2, 2⟩
def NET_P_STAT_CAL_DONE (i : Nat) : Fld := ⟨0x400104 + i * 0x80, 3, 3⟩
def NET_P_STAT_PRESENT (i : Nat) : Fld := ⟨0x400104 + i * 0x80, 4, 4⟩
/-! NET_P_QMAP -/
def NET_P_QMAP (i : Nat) : Fld := ⟨0x400108 + i * 0x80, 23, 0⟩
/-! NET_P_SCHED -/
def NET_P_SCHED (i : Nat) : Fld := ⟨0x40010C + i * 0x80, 6, 0⟩
/-! NET_P_WEIGHT_LO -/
def NET_P_WEIGHT_LO (i : Nat) : Fld := ⟨0x400110 + i * 0x80, 31, 0⟩
/-! NET_P_WEIGHT_HI -/
def NET_P_WEIGHT_HI (i : Nat) : Fld := ⟨0x400114 + i * 0x80, 23, 0⟩
/-! NET_P_BUF -/
def NET_P_BUF_MAX_CELLS (i : Nat) : Fld := ⟨0x400118 + i * 0x80, 14, 0⟩
def NET_P_BUF_RSV7 (i : Nat) : Fld := ⟨0x400118 + i * 0x80, 30, 16⟩
/-! NET_P_RX_OK -/
def NET_P_RX_OK (i : Nat) : Fld := ⟨0x400140 + i * 0x80, 31, 0⟩
/-! NET_P_RX_FCS -/
def NET_P_RX_FCS (i : Nat) : Fld := ⟨0x400144 + i * 0x80, 31, 0⟩
/-! NET_P_TX_OK -/
def NET_P_TX_OK (i : Nat) : Fld := ⟨0x400148 + i * 0x80, 31, 0⟩
/-! NET_P_DROP_BUF -/
def NET_P_DROP_BUF (i : Nat) : Fld := ⟨0x40014C + i * 0x80, 31, 0⟩
/-! NET_P_DROP_VLAN -/
def NET_P_DROP_VLAN (i : Nat) : Fld := ⟨0x400150 + i * 0x80, 31, 0⟩
/-! NET_P_STOMP -/
def NET_P_STOMP (i : Nat) : Fld := ⟨0x400154 + i * 0x80, 31, 0⟩
/-! NET_P_FLUSH -/
def NET_P_FLUSH (i : Nat) : Fld := ⟨0x400158 + i * 0x80, 31, 0⟩
/-! NET_P_RX_ADJ -/
def NET_P_RX_ADJ (i : Nat) : Fld := ⟨0x400160 + i * 0x80, 31, 0⟩
/-! NET_P_TX_ADJ -/
def NET_P_TX_ADJ (i : Nat) : Fld := ⟨0x400164 + i * 0x80, 31, 0⟩
/-! NET_P_ASYM -/
def NET_P_ASYM (i : Nat) : Fld := ⟨0x400168 + i * 0x80, 31, 0⟩
/-! NET_P_LINKDLY -/
def NET_P_LINKDLY (i : Nat) : Fld := ⟨0x40016C + i * 0x80, 31, 0⟩
/-! NET_P_LAT_RX -/
def NET_P_LAT_RX (i : Nat) : Fld := ⟨0x400170 + i * 0x80, 31, 0⟩
/-! NET_P_LAT_TX -/
def NET_P_LAT_TX (i : Nat) : Fld := ⟨0x400174 + i * 0x80, 31, 0⟩
/-! NET_P_UNCAL -/
def NET_P_UNCAL (i : Nat) : Fld := ⟨0x400178 + i * 0x80, 31, 0⟩
/-! NET_P_PD_DROP -/
def NET_P_PD_DROP (i : Nat) : Fld := ⟨0x40017C + i * 0x80, 15, 0⟩
/-! NET_P89_CFG -/
def NET_P89_CFG (i : Nat) : Fld := ⟨0x400500 + i * 0x80, 2, 2⟩
/-! NET_TAP_CTL -/
def NET_TAP_CTL_EN (i : Nat) : Fld := ⟨0x400A00 + i * 0x40, 0, 0⟩
def NET_TAP_CTL_DIR (i : Nat) : Fld := ⟨0x400A00 + i * 0x40, 2, 1⟩
def NET_TAP_CTL_VID_ANY (i : Nat) : Fld := ⟨0x400A00 + i * 0x40, 3, 3⟩
def NET_TAP_CTL_PORTS (i : Nat) : Fld := ⟨0x400A00 + i * 0x40, 11, 4⟩
def NET_TAP_CTL_COMP_SRC (i : Nat) : Fld := ⟨0x400A00 + i * 0x40, 12, 12⟩
def NET_TAP_CTL_STAT_METH (i : Nat) : Fld := ⟨0x400A00 + i * 0x40, 16, 13⟩
def NET_TAP_CTL_STAT_IQW (i : Nat) : Fld := ⟨0x400A00 + i * 0x40, 20, 17⟩
/-! NET_TAP_DMAC_LO -/
def NET_TAP_DMAC_LO (i : Nat) : Fld := ⟨0x400A04 + i * 0x40, 31, 0⟩
/-! NET_TAP_DMAC_HI -/
def NET_TAP_DMAC_HI_MAC (i : Nat) : Fld := ⟨0x400A08 + i * 0x40, 15, 0⟩
def NET_TAP_DMAC_HI_VID (i : Nat) : Fld := ⟨0x400A08 + i * 0x40, 27, 16⟩
/-! NET_TAP_EAXC -/
def NET_TAP_EAXC_ID (i : Nat) : Fld := ⟨0x400A0C + i * 0x40, 15, 0⟩
def NET_TAP_EAXC_MASK (i : Nat) : Fld := ⟨0x400A0C + i * 0x40, 31, 16⟩
/-! NET_TAP_MATCH -/
def NET_TAP_MATCH (i : Nat) : Fld := ⟨0x400A10 + i * 0x40, 31, 0⟩
/-! NET_TAP_SECT -/
def NET_TAP_SECT (i : Nat) : Fld := ⟨0x400A14 + i * 0x40, 31, 0⟩
/-! NET_TAP_BADCOMP -/
def NET_TAP_BADCOMP (i : Nat) : Fld := ⟨0x400A18 + i * 0x40, 31, 0⟩
/-! NET_TAP_SEE_FULL -/
def NET_TAP_SEE_FULL (i : Nat) : Fld := ⟨0x400A1C + i * 0x40, 31, 0⟩
/-! NET_TAP_FCS_DISC -/
def NET_TAP_FCS_DISC (i : Nat) : Fld := ⟨0x400A20 + i * 0x40, 31, 0⟩
/-! NET_RF_CTL -/
def NET_RF_CTL : Fld := ⟨0x400E00, 0, 0⟩
/-! NET_RF_SENT -/
def NET_RF_SENT : Fld := ⟨0x400E04, 31, 0⟩
/-! NET_RF_DROP -/
def NET_RF_DROP : Fld := ⟨0x400E08, 31, 0⟩
/-! NET_RF_BAD -/
def NET_RF_BAD : Fld := ⟨0x400E0C, 31, 0⟩
/-! NET_TMPL -/
def NET_TMPL (i j : Nat) : Fld := ⟨0x401000 + i * 0x80 + j * 0x4, 31, 0⟩
/-! JXL_P_CFG -/
def JXL_P_CFG_EN (i : Nat) : Fld := ⟨0x800000 + i * 0x200, 0, 0⟩
def JXL_P_CFG_MODE (i : Nat) : Fld := ⟨0x800000 + i * 0x200, 1, 1⟩
def JXL_P_CFG_RETRY_MAX (i : Nat) : Fld := ⟨0x800000 + i * 0x200, 3, 2⟩
def JXL_P_CFG_MAX_CLASS (i : Nat) : Fld := ⟨0x800000 + i * 0x200, 5, 4⟩
/-! JXL_P_STAT -/
def JXL_P_STAT_STATE (i : Nat) : Fld := ⟨0x800004 + i * 0x200, 2, 0⟩
def JXL_P_STAT_CAUSE (i : Nat) : Fld := ⟨0x800004 + i * 0x200, 6, 3⟩
def JXL_P_STAT_CLASS (i : Nat) : Fld := ⟨0x800004 + i * 0x200, 8, 7⟩
def JXL_P_STAT_SYNCED (i : Nat) : Fld := ⟨0x800004 + i * 0x200, 9, 9⟩
/-! JXL_P_ID0 -/
def JXL_P_ID0_VERSION (i : Nat) : Fld := ⟨0x800008 + i * 0x200, 7, 0⟩
def JXL_P_ID0_VENDOR (i : Nat) : Fld := ⟨0x800008 + i * 0x200, 31, 16⟩
/-! JXL_P_ID1 -/
def JXL_P_ID1 (i : Nat) : Fld := ⟨0x80000C + i * 0x200, 15, 0⟩
/-! JXL_P_GEOM -/
def JXL_P_GEOM_WIDTH1 (i : Nat) : Fld := ⟨0x800010 + i * 0x200, 10, 0⟩
def JXL_P_GEOM_HEIGHT1 (i : Nat) : Fld := ⟨0x800010 + i * 0x200, 25, 16⟩
/-! JXL_P_SERIAL_LO -/
def JXL_P_SERIAL_LO (i : Nat) : Fld := ⟨0x800014 + i * 0x200, 31, 0⟩
/-! JXL_P_SERIAL_HI -/
def JXL_P_SERIAL_HI (i : Nat) : Fld := ⟨0x800018 + i * 0x200, 31, 0⟩
/-! JXL_P_FLOW -/
def JXL_P_FLOW_PAUSE_HI (i : Nat) : Fld := ⟨0x80001C + i * 0x200, 9, 0⟩
def JXL_P_FLOW_PAUSE_LO (i : Nat) : Fld := ⟨0x80001C + i * 0x200, 25, 16⟩
def JXL_P_FLOW_PAUSED (i : Nat) : Fld := ⟨0x80001C + i * 0x200, 31, 31⟩
/-! JXL_P_BUF -/
def JXL_P_BUF (i : Nat) : Fld := ⟨0x800020 + i * 0x200, 15, 0⟩
/-! JXL_P_PKT_OK -/
def JXL_P_PKT_OK (i : Nat) : Fld := ⟨0x800040 + i * 0x200, 31, 0⟩
/-! JXL_P_CRC_ERR -/
def JXL_P_CRC_ERR (i : Nat) : Fld := ⟨0x800044 + i * 0x200, 31, 0⟩
/-! JXL_P_SEQ_GAP -/
def JXL_P_SEQ_GAP (i : Nat) : Fld := ⟨0x800048 + i * 0x200, 31, 0⟩
/-! JXL_P_RESYNC_DROP -/
def JXL_P_RESYNC_DROP (i : Nat) : Fld := ⟨0x80004C + i * 0x200, 31, 0⟩
/-! JXL_P_CREDIT_VIOL -/
def JXL_P_CREDIT_VIOL (i : Nat) : Fld := ⟨0x800050 + i * 0x200, 31, 0⟩
/-! JXL_P_RANGE -/
def JXL_P_RANGE (i : Nat) : Fld := ⟨0x800054 + i * 0x200, 31, 0⟩
/-! JXL_P_ANCHOR_BACK -/
def JXL_P_ANCHOR_BACK (i : Nat) : Fld := ⟨0x800058 + i * 0x200, 31, 0⟩
/-! JXL_P_HEAD_DROP -/
def JXL_P_HEAD_DROP (i : Nat) : Fld := ⟨0x80005C + i * 0x200, 31, 0⟩
/-! JXL_P_EV_IN -/
def JXL_P_EV_IN (i : Nat) : Fld := ⟨0x800060 + i * 0x200, 31, 0⟩
/-! JXL_P_LOST_CNT -/
def JXL_P_LOST_CNT (i : Nat) : Fld := ⟨0x800064 + i * 0x200, 31, 0⟩
/-! JXL_P_BUF_OVF -/
def JXL_P_BUF_OVF (i : Nat) : Fld := ⟨0x800068 + i * 0x200, 31, 0⟩
/-! JXL_P_REQ -/
def JXL_P_REQ_ADDR (i j : Nat) : Fld := ⟨0x800080 + i * 0x200 + j * 0x10, 15, 0⟩
def JXL_P_REQ_WR (i j : Nat) : Fld := ⟨0x800080 + i * 0x200 + j * 0x10, 16, 16⟩
def JXL_P_REQ_GO (i j : Nat) : Fld := ⟨0x800080 + i * 0x200 + j * 0x10, 17, 17⟩
def JXL_P_REQ_BUSY (i j : Nat) : Fld := ⟨0x800080 + i * 0x200 + j * 0x10, 18, 18⟩
def JXL_P_REQ_STATUS (i j : Nat) : Fld := ⟨0x800080 + i * 0x200 + j * 0x10, 21, 20⟩
/-! JXL_P_REQ_WDATA -/
def JXL_P_REQ_WDATA (i j : Nat) : Fld := ⟨0x800084 + i * 0x200 + j * 0x10, 31, 0⟩
/-! JXL_P_REQ_RDATA -/
def JXL_P_REQ_RDATA (i j : Nat) : Fld := ⟨0x800088 + i * 0x200 + j * 0x10, 31, 0⟩
/-! JXL_P_CSI_CFG -/
def JXL_P_CSI_CFG_LANES (i : Nat) : Fld := ⟨0x8000C0 + i * 0x200, 1, 0⟩
def JXL_P_CSI_CFG_VC (i : Nat) : Fld := ⟨0x8000C0 + i * 0x200, 7, 4⟩
def JXL_P_CSI_CFG_DT_EN (i : Nat) : Fld := ⟨0x8000C0 + i * 0x200, 15, 8⟩
def JXL_P_CSI_CFG_PORT_DLY (i : Nat) : Fld := ⟨0x8000C0 + i * 0x200, 31, 16⟩
/-! JXL_P_CSI_ENTRY0 -/
def JXL_P_CSI_ENTRY0_E0 (i : Nat) : Fld := ⟨0x8000C4 + i * 0x200, 6, 0⟩
def JXL_P_CSI_ENTRY0_E1 (i : Nat) : Fld := ⟨0x8000C4 + i * 0x200, 14, 8⟩
def JXL_P_CSI_ENTRY0_E2 (i : Nat) : Fld := ⟨0x8000C4 + i * 0x200, 22, 16⟩
def JXL_P_CSI_ENTRY0_E3 (i : Nat) : Fld := ⟨0x8000C4 + i * 0x200, 30, 24⟩
/-! JXL_P_CSI_ENTRY1 -/
def JXL_P_CSI_ENTRY1_E0 (i : Nat) : Fld := ⟨0x8000C8 + i * 0x200, 6, 0⟩
def JXL_P_CSI_ENTRY1_E1 (i : Nat) : Fld := ⟨0x8000C8 + i * 0x200, 14, 8⟩
def JXL_P_CSI_ENTRY1_E2 (i : Nat) : Fld := ⟨0x8000C8 + i * 0x200, 22, 16⟩
def JXL_P_CSI_ENTRY1_E3 (i : Nat) : Fld := ⟨0x8000C8 + i * 0x200, 30, 24⟩
/-! JXL_P_CSI_STAT -/
def JXL_P_CSI_STAT (i : Nat) : Fld := ⟨0x8000CC + i * 0x200, 0, 0⟩
/-! JXL_P_CSI_ECC_CORR -/
def JXL_P_CSI_ECC_CORR (i : Nat) : Fld := ⟨0x8000D0 + i * 0x200, 31, 0⟩
/-! JXL_P_CSI_HDR_BAD -/
def JXL_P_CSI_HDR_BAD (i : Nat) : Fld := ⟨0x8000D4 + i * 0x200, 31, 0⟩
/-! JXL_P_CSI_CRC_ERR -/
def JXL_P_CSI_CRC_ERR (i : Nat) : Fld := ⟨0x8000D8 + i * 0x200, 31, 0⟩
/-! JXL_P_CSI_DT_DISC -/
def JXL_P_CSI_DT_DISC (i : Nat) : Fld := ⟨0x8000DC + i * 0x200, 31, 0⟩
/-! JXL_P_CSI_LONG -/
def JXL_P_CSI_LONG (i : Nat) : Fld := ⟨0x8000E0 + i * 0x200, 31, 0⟩
/-! JXL_P_CSI_PARSE_OVF -/
def JXL_P_CSI_PARSE_OVF (i : Nat) : Fld := ⟨0x8000E4 + i * 0x200, 31, 0⟩
/-! JXL_P_CSI_WDOG -/
def JXL_P_CSI_WDOG (i : Nat) : Fld := ⟨0x8000E8 + i * 0x200, 31, 0⟩
/-! JXL_P_CSI_RANGE -/
def JXL_P_CSI_RANGE (i : Nat) : Fld := ⟨0x8000EC + i * 0x200, 31, 0⟩
/-! JXL_UCODE -/
def JXL_UCODE (i j : Nat) : Fld := ⟨0x808000 + i * 0x200 + j * 0x4, 31, 0⟩
/-! PPC_GLB_CFG -/
def PPC_GLB_CFG_BUDGET_W : Fld := ⟨0xA00000, 9, 0⟩
def PPC_GLB_CFG_STEP_MAX : Fld := ⟨0xA00000, 19, 16⟩
/-! PPC_GLB_STAT -/
def PPC_GLB_STAT : Fld := ⟨0xA00004, 9, 0⟩
/-! PPC_CH_CTL -/
def PPC_CH_CTL_EN (i : Nat) : Fld := ⟨0xA00100 + i * 0x40, 0, 0⟩
def PPC_CH_CTL_CLR (i : Nat) : Fld := ⟨0xA00100 + i * 0x40, 1, 1⟩
def PPC_CH_CTL_REFUSED (i : Nat) : Fld := ⟨0xA00100 + i * 0x40, 2, 2⟩
/-! PPC_CH_CFG -/
def PPC_CH_CFG_TSS1 (i : Nat) : Fld := ⟨0xA00104 + i * 0x40, 4, 0⟩
def PPC_CH_CFG_TSS2 (i : Nat) : Fld := ⟨0xA00104 + i * 0x40, 12, 8⟩
def PPC_CH_CFG_TSS_FAULT (i : Nat) : Fld := ⟨0xA00104 + i * 0x40, 19, 16⟩
def PPC_CH_CFG_RETRY (i : Nat) : Fld := ⟨0xA00104 + i * 0x40, 23, 20⟩
def PPC_CH_CFG_HOLD_EN (i : Nat) : Fld := ⟨0xA00104 + i * 0x40, 24, 24⟩
def PPC_CH_CFG_DET_INT (i : Nat) : Fld := ⟨0xA00104 + i * 0x40, 31, 25⟩
/-! PPC_CH_LIM -/
def PPC_CH_LIM_ILIM (i : Nat) : Fld := ⟨0xA00108 + i * 0x40, 11, 0⟩
def PPC_CH_LIM_RSNS (i : Nat) : Fld := ⟨0xA00108 + i * 0x40, 27, 16⟩
/-! PPC_CH_STAT -/
def PPC_CH_STAT_STATE (i : Nat) : Fld := ⟨0xA0010C + i * 0x40, 3, 0⟩
def PPC_CH_STAT_CAUSE (i : Nat) : Fld := ⟨0xA0010C + i * 0x40, 7, 4⟩
def PPC_CH_STAT_CLASS (i : Nat) : Fld := ⟨0xA0010C + i * 0x40, 9, 8⟩
def PPC_CH_STAT_ATTEMPT (i : Nat) : Fld := ⟨0xA0010C + i * 0x40, 15, 12⟩
def PPC_CH_STAT_SIG (i : Nat) : Fld := ⟨0xA0010C + i * 0x40, 17, 16⟩
def PPC_CH_STAT_LIMITING (i : Nat) : Fld := ⟨0xA0010C + i * 0x40, 20, 20⟩
def PPC_CH_STAT_PG (i : Nat) : Fld := ⟨0xA0010C + i * 0x40, 21, 21⟩
/-! PPC_CH_VOUT -/
def PPC_CH_VOUT (i : Nat) : Fld := ⟨0xA00110 + i * 0x40, 15, 0⟩
/-! PPC_CH_IOUT -/
def PPC_CH_IOUT (i : Nat) : Fld := ⟨0xA00114 + i * 0x40, 15, 0⟩
/-! PPC_CH_SIGR -/
def PPC_CH_SIGR (i : Nat) : Fld := ⟨0xA00118 + i * 0x40, 15, 0⟩
/-! PPC_CH_IRQ -/
def PPC_CH_IRQ_FAULT (i : Nat) : Fld := ⟨0xA0011C + i * 0x40, 0, 0⟩
def PPC_CH_IRQ_ABORT (i : Nat) : Fld := ⟨0xA0011C + i * 0x40, 1, 1⟩
def PPC_CH_IRQ_LATCH (i : Nat) : Fld := ⟨0xA0011C + i * 0x40, 2, 2⟩
def PPC_CH_IRQ_HOST_EN (i : Nat) : Fld := ⟨0xA0011C + i * 0x40, 8, 8⟩
/-! PPC_CH_FAULTS -/
def PPC_CH_FAULTS (i : Nat) : Fld := ⟨0xA00120 + i * 0x40, 31, 0⟩
/-! PPC_CH_ABORTS -/
def PPC_CH_ABORTS (i : Nat) : Fld := ⟨0xA00124 + i * 0x40, 31, 0⟩
/-! PPC_CH16_CFG -/
def PPC_CH16_CFG_TSS1 : Fld := ⟨0xA00504, 4, 0⟩
def PPC_CH16_CFG_TSS2 : Fld := ⟨0xA00504, 12, 8⟩
def PPC_CH16_CFG_TSS_FAULT : Fld := ⟨0xA00504, 19, 16⟩
def PPC_CH16_CFG_RETRY : Fld := ⟨0xA00504, 23, 20⟩
def PPC_CH16_CFG_HOLD_EN : Fld := ⟨0xA00504, 24, 24⟩
def PPC_CH16_CFG_DET_INT : Fld := ⟨0xA00504, 31, 25⟩
/-! PPC_CH16_LIM -/
def PPC_CH16_LIM_ILIM : Fld := ⟨0xA00508, 11, 0⟩
def PPC_CH16_LIM_RSNS : Fld := ⟨0xA00508, 27, 16⟩
/-! SITE_ALD_CFG -/
def SITE_ALD_CFG_EN : Fld := ⟨0xB00000, 0, 0⟩
def SITE_ALD_CFG_RATE : Fld := ⟨0xB00000, 2, 1⟩
def SITE_ALD_CFG_FRAMING : Fld := ⟨0xB00000, 3, 3⟩
def SITE_ALD_CFG_PROMISC : Fld := ⟨0xB00000, 4, 4⟩
def SITE_ALD_CFG_WINDOW : Fld := ⟨0xB00000, 7, 5⟩
def SITE_ALD_CFG_N2 : Fld := ⟨0xB00000, 11, 8⟩
def SITE_ALD_CFG_T_RESP : Fld := ⟨0xB00000, 31, 16⟩
/-! SITE_ALD_POLL -/
def SITE_ALD_POLL : Fld := ⟨0xB00004, 15, 0⟩
/-! SITE_ALD_AVALID -/
def SITE_ALD_AVALID : Fld := ⟨0xB00008, 31, 0⟩
/-! SITE_ALD_ADDR -/
def SITE_ALD_ADDR (i : Nat) : Fld := ⟨0xB00010 + i * 0x4, 31, 0⟩
/-! SITE_ALD_LSTATE -/
def SITE_ALD_LSTATE (i : Nat) : Fld := ⟨0xB00030 + i * 0x4, 31, 0⟩
/-! SITE_ALD_TXCMD -/
def SITE_ALD_TXCMD_ENTRY : Fld := ⟨0xB00040, 7, 0⟩
def SITE_ALD_TXCMD_KIND : Fld := ⟨0xB00040, 8, 8⟩
def SITE_ALD_TXCMD_LEN : Fld := ⟨0xB00040, 26, 16⟩
def SITE_ALD_TXCMD_GO : Fld := ⟨0xB00040, 31, 31⟩
/-! SITE_ALD_RXPTR -/
def SITE_ALD_RXPTR_RD : Fld := ⟨0xB00044, 11, 0⟩
def SITE_ALD_RXPTR_WR : Fld := ⟨0xB00044, 27, 16⟩
/-! SITE_ALD_STAT -/
def SITE_ALD_STAT_TX_BUSY : Fld := ⟨0xB00048, 0, 0⟩
def SITE_ALD_STAT_TX_OVF : Fld := ⟨0xB00048, 1, 1⟩
def SITE_ALD_STAT_FAILED_IRQ : Fld := ⟨0xB00048, 2, 2⟩
/-! SITE_ALD_CRC_ERR -/
def SITE_ALD_CRC_ERR : Fld := ⟨0xB00050, 31, 0⟩
/-! SITE_ALD_ABORT -/
def SITE_ALD_ABORT : Fld := ⟨0xB00054, 31, 0⟩
/-! SITE_ALD_SHORT -/
def SITE_ALD_SHORT : Fld := ⟨0xB00058, 31, 0⟩
/-! SITE_ALD_LONG -/
def SITE_ALD_LONG : Fld := ⟨0xB0005C, 31, 0⟩
/-! SITE_ALD_ADDR_DROP -/
def SITE_ALD_ADDR_DROP : Fld := ⟨0xB00060, 31, 0⟩
/-! SITE_ALD_SEQ_ERR -/
def SITE_ALD_SEQ_ERR : Fld := ⟨0xB00064, 31, 0⟩
/-! SITE_ALD_RX_OVF -/
def SITE_ALD_RX_OVF : Fld := ⟨0xB00068, 31, 0⟩
/-! SITE_GPIO_DIR -/
def SITE_GPIO_DIR : Fld := ⟨0xB00400, 23, 0⟩
/-! SITE_GPIO_OUT -/
def SITE_GPIO_OUT : Fld := ⟨0xB00404, 23, 0⟩
/-! SITE_GPIO_IN -/
def SITE_GPIO_IN : Fld := ⟨0xB00408, 23, 0⟩
/-! SITE_GPIO_IMODE -/
def SITE_GPIO_IMODE (i : Nat) : Fld := ⟨0xB0040C + i * 0x4, 31, 0⟩
/-! SITE_GPIO_ISTAT -/
def SITE_GPIO_ISTAT : Fld := ⟨0xB00414, 23, 0⟩
/-! SITE_GPIO_WAKE -/
def SITE_GPIO_WAKE : Fld := ⟨0xB00418, 23, 0⟩
/-! SITE_ALM_DEB -/
def SITE_ALM_DEB (i : Nat) : Fld := ⟨0xB00420 + i * 0x4, 31, 0⟩
/-! SITE_ALM_CFG -/
def SITE_ALM_CFG_POL : Fld := ⟨0xB00428, 7, 0⟩
def SITE_ALM_CFG_IE : Fld := ⟨0xB00428, 15, 8⟩
def SITE_ALM_CFG_WAKE : Fld := ⟨0xB00428, 23, 16⟩
/-! SITE_ALM_STATE -/
def SITE_ALM_STATE : Fld := ⟨0xB0042C, 7, 0⟩
/-! SITE_ALM_LATCH -/
def SITE_ALM_LATCH : Fld := ⟨0xB00430, 7, 0⟩
/-! SITE_ALD_TXBUF -/
def SITE_ALD_TXBUF (i : Nat) : Fld := ⟨0xB01000 + i * 0x4, 31, 0⟩
/-! SITE_ALD_RXRING -/
def SITE_ALD_RXRING (i : Nat) : Fld := ⟨0xB02000 + i * 0x4, 31, 0⟩
/-! ADM_GATE_CFG -/
def ADM_GATE_CFG_EN (i : Nat) : Fld := ⟨0xC01000 + i * 0x100, 0, 0⟩
def ADM_GATE_CFG_POLICY (i : Nat) : Fld := ⟨0xC01000 + i * 0x100, 2, 1⟩
def ADM_GATE_CFG_BIN (i : Nat) : Fld := ⟨0xC01000 + i * 0x100, 4, 3⟩
def ADM_GATE_CFG_LATE_POL (i : Nat) : Fld := ⟨0xC01000 + i * 0x100, 5, 5⟩
def ADM_GATE_CFG_MAP_ARM (i : Nat) : Fld := ⟨0xC01000 + i * 0x100, 6, 6⟩
def ADM_GATE_CFG_REFUSED (i : Nat) : Fld := ⟨0xC01000 + i * 0x100, 7, 7⟩
def ADM_GATE_CFG_LAG (i : Nat) : Fld := ⟨0xC01000 + i * 0x100, 15, 8⟩
def ADM_GATE_CFG_THIN_K (i : Nat) : Fld := ⟨0xC01000 + i * 0x100, 23, 16⟩
/-! ADM_GATE_BUDGET -/
def ADM_GATE_BUDGET (i : Nat) : Fld := ⟨0xC01004 + i * 0x100, 19, 0⟩
/-! ADM_GATE_MARK -/
def ADM_GATE_MARK (i : Nat) : Fld := ⟨0xC01008 + i * 0x100, 19, 0⟩
/-! ADM_GATE_MERGE -/
def ADM_GATE_MERGE (i : Nat) : Fld := ⟨0xC0100C + i * 0x100, 15, 0⟩
/-! ADM_GATE_VAL -/
def ADM_GATE_VAL_POS_VAL (i : Nat) : Fld := ⟨0xC01010 + i * 0x100, 7, 0⟩
def ADM_GATE_VAL_NEG_VAL (i : Nat) : Fld := ⟨0xC01010 + i * 0x100, 15, 8⟩
/-! ADM_GATE_FUT -/
def ADM_GATE_FUT (i : Nat) : Fld := ⟨0xC01014 + i * 0x100, 15, 0⟩
/-! ADM_GATE_SINK -/
def ADM_GATE_SINK_POISON_NODE (i : Nat) : Fld := ⟨0xC01018 + i * 0x100, 11, 0⟩
def ADM_GATE_SINK_POISON_IDX (i : Nat) : Fld := ⟨0xC01018 + i * 0x100, 31, 16⟩
/-! ADM_GATE_STAT -/
def ADM_GATE_STAT_TOKENS (i : Nat) : Fld := ⟨0xC0101C + i * 0x100, 19, 0⟩
def ADM_GATE_STAT_HOLDING (i : Nat) : Fld := ⟨0xC0101C + i * 0x100, 24, 24⟩
def ADM_GATE_STAT_MERGING (i : Nat) : Fld := ⟨0xC0101C + i * 0x100, 25, 25⟩
def ADM_GATE_STAT_THINNING (i : Nat) : Fld := ⟨0xC0101C + i * 0x100, 26, 26⟩
def ADM_GATE_STAT_LAG_USED (i : Nat) : Fld := ⟨0xC0101C + i * 0x100, 31, 27⟩
/-! ADM_GATE_CNT -/
def ADM_GATE_CNT (i j : Nat) : Fld := ⟨0xC01040 + i * 0x100 + j * 0x4, 31, 0⟩
/-! ADM_GATE_SNAP -/
def ADM_GATE_SNAP (i j : Nat) : Fld := ⟨0xC01080 + i * 0x100 + j * 0x4, 31, 0⟩
/-! ADM_MAP_SHADOW -/
def ADM_MAP_SHADOW (i j : Nat) : Fld := ⟨0xC08000 + i * 0x400 + j * 0x4, 31, 0⟩
/-! ADM_MAP_ACTIVE -/
def ADM_MAP_ACTIVE (i j : Nat) : Fld := ⟨0xC08200 + i * 0x400 + j * 0x4, 31, 0⟩
/-! SEE_LOAD -/
def SEE_LOAD : Fld := ⟨0xD00000, 31, 0⟩
/-! SEE_FIFO -/
def SEE_FIFO_OCC : Fld := ⟨0xD00004, 15, 0⟩
def SEE_FIFO_PEAK : Fld := ⟨0xD00004, 31, 16⟩
/-! SEE_F_CFG -/
def SEE_F_CFG_EN (i : Nat) : Fld := ⟨0xD00100 + i * 0x80, 0, 0⟩
def SEE_F_CFG_MU (i : Nat) : Fld := ⟨0xD00100 + i * 0x80, 2, 1⟩
def SEE_F_CFG_GS (i : Nat) : Fld := ⟨0xD00100 + i * 0x80, 5, 3⟩
def SEE_F_CFG_NGRP (i : Nat) : Fld := ⟨0xD00100 + i * 0x80, 24, 16⟩
/-! SEE_F_GEOM -/
def SEE_F_GEOM_PRB_BASE (i : Nat) : Fld := ⟨0xD00104 + i * 0x80, 9, 0⟩
def SEE_F_GEOM_NPRB_ALL (i : Nat) : Fld := ⟨0xD00104 + i * 0x80, 25, 16⟩
/-! SEE_F_THR -/
def SEE_F_THR_THR (i : Nat) : Fld := ⟨0xD00108 + i * 0x80, 11, 0⟩
def SEE_F_THR_FLOOR_N (i : Nat) : Fld := ⟨0xD00108 + i * 0x80, 27, 16⟩
/-! SEE_F_FBASE -/
def SEE_F_FBASE (i : Nat) : Fld := ⟨0xD0010C + i * 0x80, 15, 0⟩
/-! SEE_F_TIMING -/
def SEE_F_TIMING (i : Nat) : Fld := ⟨0xD00110 + i * 0x80, 13, 0⟩
/-! SEE_F_CLOSE -/
def SEE_F_CLOSE (i : Nat) : Fld := ⟨0xD00114 + i * 0x80, 16, 0⟩
/-! SEE_F_FIFO -/
def SEE_F_FIFO (i : Nat) : Fld := ⟨0xD00118 + i * 0x80, 10, 0⟩
/-! SEE_F_STAT -/
def SEE_F_STAT_OPEN (i : Nat) : Fld := ⟨0xD0011C + i * 0x80, 1, 0⟩
def SEE_F_STAT_EVQ (i : Nat) : Fld := ⟨0xD0011C + i * 0x80, 26, 16⟩
/-! SEE_F_CNT -/
def SEE_F_CNT (i : Nat) : Fld := ⟨0xD00120 + i * 0x80, 31, 0⟩
/-! SEE_F_SECT_IN -/
def SEE_F_SECT_IN (i : Nat) : Fld := ⟨0xD00140 + i * 0x80, 31, 0⟩
/-! SEE_F_SYM_CLOSED -/
def SEE_F_SYM_CLOSED (i : Nat) : Fld := ⟨0xD00144 + i * 0x80, 31, 0⟩
/-! SEE_F_BADPLACE -/
def SEE_F_BADPLACE (i : Nat) : Fld := ⟨0xD00148 + i * 0x80, 31, 0⟩
/-! SEE_F_MALFORMED -/
def SEE_F_MALFORMED (i : Nat) : Fld := ⟨0xD0014C + i * 0x80, 31, 0⟩
/-! SEE_F_STALE -/
def SEE_F_STALE (i : Nat) : Fld := ⟨0xD00150 + i * 0x80, 31, 0⟩
/-! SEE_F_PRB_OUT -/
def SEE_F_PRB_OUT (i : Nat) : Fld := ⟨0xD00154 + i * 0x80, 31, 0⟩
/-! SEE_F_PARTIAL -/
def SEE_F_PARTIAL (i : Nat) : Fld := ⟨0xD00158 + i * 0x80, 31, 0⟩
/-! SEE_F_DELTA_EV -/
def SEE_F_DELTA_EV (i : Nat) : Fld := ⟨0xD0015C + i * 0x80, 31, 0⟩
/-! SEE_F_FLOOR_EV -/
def SEE_F_FLOOR_EV (i : Nat) : Fld := ⟨0xD00160 + i * 0x80, 31, 0⟩
/-! SEE_F_DELTA_SAT -/
def SEE_F_DELTA_SAT (i : Nat) : Fld := ⟨0xD00164 + i * 0x80, 31, 0⟩
/-! SEE_F_FLOOR_CLAMP -/
def SEE_F_FLOOR_CLAMP (i : Nat) : Fld := ⟨0xD00168 + i * 0x80, 31, 0⟩
/-! SEE_F_POISON -/
def SEE_F_POISON (i : Nat) : Fld := ⟨0xD0016C + i * 0x80, 31, 0⟩
/-! EVF_CTL -/
def EVF_CTL_ARM : Fld := ⟨0xE00000, 0, 0⟩
def EVF_CTL_ACTIVE : Fld := ⟨0xE00000, 1, 1⟩
def EVF_CTL_REFUSED : Fld := ⟨0xE00000, 2, 2⟩
def EVF_CTL_CT_SHARE : Fld := ⟨0xE00000, 15, 8⟩
def EVF_CTL_STALL_LIM : Fld := ⟨0xE00000, 31, 16⟩
/-! EVF_DROP_TOTAL -/
def EVF_DROP_TOTAL : Fld := ⟨0xE00004, 31, 0⟩
/-! EVF_PERR -/
def EVF_PERR : Fld := ⟨0xE00008, 31, 0⟩
/-! EVF_STALL -/
def EVF_STALL_NODE : Fld := ⟨0xE0000C, 11, 0⟩
def EVF_STALL_PORT : Fld := ⟨0xE0000C, 14, 12⟩
def EVF_STALL_VC : Fld := ⟨0xE0000C, 15, 15⟩
def EVF_STALL_VALID : Fld := ⟨0xE0000C, 31, 31⟩
/-! EVF_LMON -/
def EVF_LMON_NODE (i : Nat) : Fld := ⟨0xE00100 + i * 0x10, 11, 0⟩
def EVF_LMON_PORT (i : Nat) : Fld := ⟨0xE00100 + i * 0x10, 14, 12⟩
def EVF_LMON_VC (i : Nat) : Fld := ⟨0xE00100 + i * 0x10, 15, 15⟩
/-! EVF_LMON_FLITS -/
def EVF_LMON_FLITS (i : Nat) : Fld := ⟨0xE00104 + i * 0x10, 31, 0⟩
/-! EVF_LMON_STALL -/
def EVF_LMON_STALL (i : Nat) : Fld := ⟨0xE00108 + i * 0x10, 31, 0⟩
/-! EVF_NRT_SHADOW -/
def EVF_NRT_SHADOW (i : Nat) : Fld := ⟨0xE01000 + i * 0x4, 31, 0⟩
/-! EVF_NRT_ACTIVE -/
def EVF_NRT_ACTIVE (i : Nat) : Fld := ⟨0xE01400 + i * 0x4, 31, 0⟩
/-! EVF_E_BLIST -/
def EVF_E_BLIST (i j : Nat) : Fld := ⟨0xE02000 + i * 0x40 + j * 0x4, 31, 0⟩
/-! EVF_E_EB_CFG -/
def EVF_E_EB_CFG (i : Nat) : Fld := ⟨0xE0201C + i * 0x40, 7, 0⟩
/-! EVF_E_LAST_EB -/
def EVF_E_LAST_EB (i : Nat) : Fld := ⟨0xE02020 + i * 0x40, 31, 0⟩
/-! EVF_E_EB_RX -/
def EVF_E_EB_RX (i : Nat) : Fld := ⟨0xE02024 + i * 0x40, 31, 0⟩
/-! EVF_E_DROP -/
def EVF_E_DROP (i : Nat) : Fld := ⟨0xE02028 + i * 0x40, 31, 0⟩
/-! EVF_E_EV_IN -/
def EVF_E_EV_IN (i : Nat) : Fld := ⟨0xE0202C + i * 0x40, 31, 0⟩
/-! EVF_SPAN_CFG -/
def EVF_SPAN_CFG_EN0 : Fld := ⟨0xE03000, 0, 0⟩
def EVF_SPAN_CFG_EN1 : Fld := ⟨0xE03000, 1, 1⟩
def EVF_SPAN_CFG_DEV_ID : Fld := ⟨0xE03000, 3, 2⟩
def EVF_SPAN_CFG_RING : Fld := ⟨0xE03000, 5, 4⟩
/-! EVF_SPAN_STAT -/
def EVF_SPAN_STAT_LANE_LOCK (i : Nat) : Fld := ⟨0xE03004 + i * 0x4, 3, 0⟩
def EVF_SPAN_STAT_ALIGNED (i : Nat) : Fld := ⟨0xE03004 + i * 0x4, 4, 4⟩
def EVF_SPAN_STAT_UP (i : Nat) : Fld := ⟨0xE03004 + i * 0x4, 5, 5⟩
def EVF_SPAN_STAT_ID_MISMATCH (i : Nat) : Fld := ⟨0xE03004 + i * 0x4, 6, 6⟩
/-! EVF_SPAN_CRC_ERR -/
def EVF_SPAN_CRC_ERR (i : Nat) : Fld := ⟨0xE03010 + i * 0x4, 31, 0⟩
/-! EVF_SPAN_DROP -/
def EVF_SPAN_DROP (i : Nat) : Fld := ⟨0xE03018 + i * 0x4, 31, 0⟩
/-! EVF_SPAN_TX_FLITS -/
def EVF_SPAN_TX_FLITS (i : Nat) : Fld := ⟨0xE03020 + i * 0x4, 31, 0⟩
/-! EVF_SPAN_RX_FLITS -/
def EVF_SPAN_RX_FLITS (i : Nat) : Fld := ⟨0xE03028 + i * 0x4, 31, 0⟩
/-! EVF_FENCE -/
def EVF_FENCE_IDX (i : Nat) : Fld := ⟨0xE04000 + i * 0x4, 7, 0⟩
def EVF_FENCE_VALID (i : Nat) : Fld := ⟨0xE04000 + i * 0x4, 31, 31⟩
/-! EVF_FENCE_RX -/
def EVF_FENCE_RX_EV_CNT (i : Nat) : Fld := ⟨0xE04100 + i * 0x4, 7, 0⟩
def EVF_FENCE_RX_CT_CNT (i : Nat) : Fld := ⟨0xE04100 + i * 0x4, 15, 8⟩
def EVF_FENCE_RX_DONE (i : Nat) : Fld := ⟨0xE04100 + i * 0x4, 16, 16⟩
/-! EVF_T_FAN_BASE0 -/
def EVF_T_FAN_BASE0 (i : Nat) : Fld := ⟨0xE10000 + i * 0x40, 15, 0⟩
/-! EVF_T_FAN_CFG0 -/
def EVF_T_FAN_CFG0_NLIST (i : Nat) : Fld := ⟨0xE10004 + i * 0x40, 10, 0⟩
def EVF_T_FAN_CFG0_SIZE (i : Nat) : Fld := ⟨0xE10004 + i * 0x40, 27, 16⟩
/-! EVF_T_FAN_BASE1 -/
def EVF_T_FAN_BASE1 (i : Nat) : Fld := ⟨0xE10008 + i * 0x40, 15, 0⟩
/-! EVF_T_FAN_CFG1 -/
def EVF_T_FAN_CFG1_NLIST (i : Nat) : Fld := ⟨0xE1000C + i * 0x40, 10, 0⟩
def EVF_T_FAN_CFG1_SIZE (i : Nat) : Fld := ⟨0xE1000C + i * 0x40, 27, 16⟩
/-! EVF_T_BLIST -/
def EVF_T_BLIST (i j : Nat) : Fld := ⟨0xE10010 + i * 0x40 + j * 0x4, 31, 0⟩
/-! EVF_T_EB_CFG -/
def EVF_T_EB_CFG (i : Nat) : Fld := ⟨0xE1002C + i * 0x40, 8, 0⟩
/-! EVF_T_LAST_EB -/
def EVF_T_LAST_EB (i : Nat) : Fld := ⟨0xE10030 + i * 0x40, 31, 0⟩
/-! EVF_T_DROP -/
def EVF_T_DROP (i : Nat) : Fld := ⟨0xE10034 + i * 0x40, 31, 0⟩
/-! EVF_T_FAN_ERR -/
def EVF_T_FAN_ERR (i : Nat) : Fld := ⟨0xE10038 + i * 0x40, 31, 0⟩
/-! SYNC_CTL -/
def SYNC_CTL : Fld := ⟨0x1000000, 0, 0⟩
/-! SYNC_HOSTWR -/
def SYNC_HOSTWR_LO : Fld := ⟨0x1000004, 14, 0⟩
def SYNC_HOSTWR_HI : Fld := ⟨0x1000004, 30, 16⟩
def SYNC_HOSTWR_LOCAL_EN : Fld := ⟨0x1000004, 31, 31⟩
/-! SYNC_MB_BASE -/
def SYNC_MB_BASE : Fld := ⟨0x1000008, 11, 0⟩
/-! SYNC_MB_TO -/
def SYNC_MB_TO (i : Nat) : Fld := ⟨0x1000010 + i * 0x4, 23, 0⟩
/-! SYNC_BADH -/
def SYNC_BADH : Fld := ⟨0x1000040, 31, 0⟩
/-! SYNC_WAIT_TO -/
def SYNC_WAIT_TO : Fld := ⟨0x1000044, 31, 0⟩
/-! SYNC_POISON -/
def SYNC_POISON : Fld := ⟨0x1000048, 31, 0⟩
/-! SYNC_HOST_DENY -/
def SYNC_HOST_DENY : Fld := ⟨0x100004C, 31, 0⟩
/-! SYNC_ACK_BAD -/
def SYNC_ACK_BAD : Fld := ⟨0x1000050, 31, 0⟩
/-! SYNC_MB_LOST_SUM -/
def SYNC_MB_LOST_SUM : Fld := ⟨0x1000054, 31, 0⟩
/-! SYNC_BADH_LAST -/
def SYNC_BADH_LAST : Fld := ⟨0x1000060, 31, 0⟩
/-! SYNC_BADH_SRC -/
def SYNC_BADH_SRC_NODE : Fld := ⟨0x1000064, 11, 0⟩
def SYNC_BADH_SRC_VALID : Fld := ⟨0x1000064, 31, 31⟩
/-! SYNC_WATCH_HANDLE -/
def SYNC_WATCH_HANDLE_IDX (i : Nat) : Fld := ⟨0x1000100 + i * 0x10, 14, 0⟩
def SYNC_WATCH_HANDLE_TILE_HI (i : Nat) : Fld := ⟨0x1000100 + i * 0x10, 19, 15⟩
def SYNC_WATCH_HANDLE_GLOBAL (i : Nat) : Fld := ⟨0x1000100 + i * 0x10, 31, 31⟩
/-! SYNC_WATCH_THR -/
def SYNC_WATCH_THR (i : Nat) : Fld := ⟨0x1000104 + i * 0x10, 31, 0⟩
/-! SYNC_WATCH_CTL -/
def SYNC_WATCH_CTL_VEC (i : Nat) : Fld := ⟨0x1000108 + i * 0x10, 9, 0⟩
def SYNC_WATCH_CTL_ARM (i : Nat) : Fld := ⟨0x1000108 + i * 0x10, 16, 16⟩
def SYNC_WATCH_CTL_HIT (i : Nat) : Fld := ⟨0x1000108 + i * 0x10, 17, 17⟩
/-! SYNC_MB_CFG -/
def SYNC_MB_CFG_POLICY (i : Nat) : Fld := ⟨0x1004000 + i * 0x4, 0, 0⟩
def SYNC_MB_CFG_IRQ_EN (i : Nat) : Fld := ⟨0x1004000 + i * 0x4, 1, 1⟩
def SYNC_MB_CFG_VEC (i : Nat) : Fld := ⟨0x1004000 + i * 0x4, 11, 2⟩
def SYNC_MB_CFG_TOSEL (i : Nat) : Fld := ⟨0x1004000 + i * 0x4, 13, 12⟩
def SYNC_MB_CFG_OWNER (i : Nat) : Fld := ⟨0x1004000 + i * 0x4, 21, 14⟩
def SYNC_MB_CFG_VALID (i : Nat) : Fld := ⟨0x1004000 + i * 0x4, 31, 31⟩
/-! SYNC_MB_LOST -/
def SYNC_MB_LOST (i : Nat) : Fld := ⟨0x1008000 + i * 0x4, 31, 0⟩
/-! SYNC_MB_RDY -/
def SYNC_MB_RDY (i : Nat) : Fld := ⟨0x100C000 + i * 0x4, 31, 0⟩
/-! LDL_CTL -/
def LDL_CTL_EN : Fld := ⟨0x1400000, 0, 0⟩
def LDL_CTL_RUNAHEAD : Fld := ⟨0x1400000, 3, 1⟩
def LDL_CTL_REFUSED : Fld := ⟨0x1400000, 4, 4⟩
def LDL_CTL_PERIOD : Fld := ⟨0x1400000, 15, 8⟩
/-! LDL_E0 -/
def LDL_E0 : Fld := ⟨0x1400004, 31, 0⟩
/-! LDL_PROG -/
def LDL_PROG : Fld := ⟨0x1400008, 23, 6⟩
/-! LDL_STAGE -/
def LDL_STAGE : Fld := ⟨0x140000C, 23, 16⟩
/-! LDL_STAGE_SZ -/
def LDL_STAGE_SZ : Fld := ⟨0x1400010, 6, 0⟩
/-! LDL_STAT -/
def LDL_STAT_INFLIGHT : Fld := ⟨0x1400014, 9, 0⟩
def LDL_STAT_STG_USED : Fld := ⟨0x1400014, 26, 16⟩
/-! LDL_CNT -/
def LDL_CNT (i : Nat) : Fld := ⟨0x1400040 + i * 0x4, 31, 0⟩
/-! LDL_BYTES -/
def LDL_BYTES (i : Nat) : Fld := ⟨0x1400080 + i * 0x4, 31, 0⟩
/-! LDL_FAILLOG0 -/
def LDL_FAILLOG0_INDEX : Fld := ⟨0x14000C0, 15, 0⟩
def LDL_FAILLOG0_CAUSE : Fld := ⟨0x14000C0, 19, 16⟩
/-! LDL_FAILLOG1 -/
def LDL_FAILLOG1 : Fld := ⟨0x14000C4, 31, 0⟩
/-! LDL_FAILLOG2 -/
def LDL_FAILLOG2 : Fld := ⟨0x14000C8, 0, 0⟩
/-! LDL_VP -/
def LDL_VP_GIDX (i : Nat) : Fld := ⟨0x1400100 + i * 0x4, 14, 0⟩
def LDL_VP_DEFV (i : Nat) : Fld := ⟨0x1400100 + i * 0x4, 17, 16⟩
def LDL_VP_VALID (i : Nat) : Fld := ⟨0x1400100 + i * 0x4, 31, 31⟩
/-! MEM_CFG -/
def MEM_CFG_DENS : Fld := ⟨0x1500000, 1, 0⟩
def MEM_CFG_RATE : Fld := ⟨0x1500000, 17, 4⟩
/-! MEM_STAT -/
def MEM_STAT_READY : Fld := ⟨0x1500004, 0, 0⟩
def MEM_STAT_TRAINED : Fld := ⟨0x1500004, 1, 1⟩
def MEM_STAT_SR : Fld := ⟨0x1500004, 2, 2⟩
/-! MEM_CAP -/
def MEM_CAP : Fld := ⟨0x1500008, 15, 0⟩
/-! MEM_CE -/
def MEM_CE : Fld := ⟨0x150000C, 31, 0⟩
/-! MEM_UE -/
def MEM_UE : Fld := ⟨0x1500010, 31, 0⟩
/-! MEM_POOL_CE -/
def MEM_POOL_CE : Fld := ⟨0x1500014, 31, 0⟩
/-! MEM_POOL_UE -/
def MEM_POOL_UE : Fld := ⟨0x1500018, 31, 0⟩
/-! RAS_CTL -/
def RAS_CTL_SCRUB_EN : Fld := ⟨0x1600000, 0, 0⟩
def RAS_CTL_LOG_CE : Fld := ⟨0x1600000, 1, 1⟩
def RAS_CTL_AUTO_RELOAD : Fld := ⟨0x1600000, 2, 2⟩
/-! RAS_STAT -/
def RAS_STAT_LOG_PEND : Fld := ⟨0x1600004, 0, 0⟩
def RAS_STAT_CE_STORM : Fld := ⟨0x1600004, 1, 1⟩
def RAS_STAT_GOLDEN_BAD : Fld := ⟨0x1600004, 2, 2⟩
def RAS_STAT_LINK_DEGRADED : Fld := ⟨0x1600004, 3, 3⟩
def RAS_STAT_CE_REGION : Fld := ⟨0x1600004, 12, 8⟩
/-! RAS_HOST_MASK -/
def RAS_HOST_MASK : Fld := ⟨0x1600008, 18, 0⟩
/-! RAS_LOG_WR -/
def RAS_LOG_WR : Fld := ⟨0x1600010, 5, 0⟩
/-! RAS_LOG_RD -/
def RAS_LOG_RD : Fld := ⟨0x1600014, 5, 0⟩
/-! RAS_LOG_LOST -/
def RAS_LOG_LOST : Fld := ⟨0x1600018, 31, 0⟩
/-! RAS_CE_THR -/
def RAS_CE_THR : Fld := ⟨0x160001C, 15, 0⟩
/-! RAS_LINK -/
def RAS_LINK_LINK_THR : Fld := ⟨0x1600020, 15, 0⟩
def RAS_LINK_NODE : Fld := ⟨0x1600020, 27, 16⟩
def RAS_LINK_PORT : Fld := ⟨0x1600020, 30, 28⟩
/-! RAS_SCRUB0_INT -/
def RAS_SCRUB0_INT : Fld := ⟨0x1600040, 19, 0⟩
/-! RAS_SCRUB0_MAXPASS -/
def RAS_SCRUB0_MAXPASS : Fld := ⟨0x1600044, 31, 0⟩
/-! RAS_SCRUB1_INT -/
def RAS_SCRUB1_INT : Fld := ⟨0x1600048, 19, 0⟩
/-! RAS_SCRUB1_MAXPASS -/
def RAS_SCRUB1_MAXPASS : Fld := ⟨0x160004C, 31, 0⟩
/-! RAS_SCRUB3_INT -/
def RAS_SCRUB3_INT : Fld := ⟨0x1600058, 19, 0⟩
/-! RAS_SCRUB3_MAXPASS -/
def RAS_SCRUB3_MAXPASS : Fld := ⟨0x160005C, 31, 0⟩
/-! RAS_SCRUB4_INT -/
def RAS_SCRUB4_INT : Fld := ⟨0x1600060, 19, 0⟩
/-! RAS_SCRUB4_MAXPASS -/
def RAS_SCRUB4_MAXPASS : Fld := ⟨0x1600064, 31, 0⟩
/-! RAS_SCRUB7_INT -/
def RAS_SCRUB7_INT : Fld := ⟨0x1600078, 19, 0⟩
/-! RAS_SCRUB7_MAXPASS -/
def RAS_SCRUB7_MAXPASS : Fld := ⟨0x160007C, 31, 0⟩
/-! RAS_SCRUB8_INT -/
def RAS_SCRUB8_INT : Fld := ⟨0x1600080, 19, 0⟩
/-! RAS_SCRUB8_MAXPASS -/
def RAS_SCRUB8_MAXPASS : Fld := ⟨0x1600084, 31, 0⟩
/-! RAS_SCRUB9_INT -/
def RAS_SCRUB9_INT : Fld := ⟨0x1600088, 19, 0⟩
/-! RAS_SCRUB9_MAXPASS -/
def RAS_SCRUB9_MAXPASS : Fld := ⟨0x160008C, 31, 0⟩
/-! RAS_SCRUB12_INT -/
def RAS_SCRUB12_INT : Fld := ⟨0x16000A0, 19, 0⟩
/-! RAS_SCRUB12_MAXPASS -/
def RAS_SCRUB12_MAXPASS : Fld := ⟨0x16000A4, 31, 0⟩
/-! RAS_SCRUB13_INT -/
def RAS_SCRUB13_INT : Fld := ⟨0x16000A8, 19, 0⟩
/-! RAS_SCRUB13_MAXPASS -/
def RAS_SCRUB13_MAXPASS : Fld := ⟨0x16000AC, 31, 0⟩
/-! RAS_SCRUB14_INT -/
def RAS_SCRUB14_INT : Fld := ⟨0x16000B0, 19, 0⟩
/-! RAS_SCRUB14_MAXPASS -/
def RAS_SCRUB14_MAXPASS : Fld := ⟨0x16000B4, 31, 0⟩
/-! RAS_SCRUB15_INT -/
def RAS_SCRUB15_INT : Fld := ⟨0x16000B8, 19, 0⟩
/-! RAS_SCRUB15_MAXPASS -/
def RAS_SCRUB15_MAXPASS : Fld := ⟨0x16000BC, 31, 0⟩
/-! RAS_CE -/
def RAS_CE (i : Nat) : Fld := ⟨0x1600100 + i * 0x8, 31, 0⟩
/-! RAS_UE -/
def RAS_UE (i : Nat) : Fld := ⟨0x1600104 + i * 0x8, 31, 0⟩
/-! RAS_LATE -/
def RAS_LATE (i : Nat) : Fld := ⟨0x1600200 + i * 0x4, 31, 0⟩
/-! RAS_LOG -/
def RAS_LOG (i j : Nat) : Fld := ⟨0x1601000 + i * 0x10 + j * 0x4, 31, 0⟩
/-! HST_LINK -/
def HST_LINK_WIDTH : Fld := ⟨0x1700000, 3, 0⟩
def HST_LINK_SPEED : Fld := ⟨0x1700000, 7, 4⟩
def HST_LINK_UP : Fld := ⟨0x1700000, 8, 8⟩
def HST_LINK_TAG10 : Fld := ⟨0x1700000, 9, 9⟩
/-! HST_SIDE -/
def HST_SIDE_EN : Fld := ⟨0x1700004, 3, 0⟩
def HST_SIDE_ACTIVE : Fld := ⟨0x1700004, 11, 8⟩
/-! HST_RING_CTL -/
def HST_RING_CTL_EN : Fld := ⟨0x1700010, 0, 0⟩
def HST_RING_CTL_NTF_EN : Fld := ⟨0x1700010, 1, 1⟩
def HST_RING_CTL_DMA_ERR : Fld := ⟨0x1700010, 2, 2⟩
/-! HST_CMDQ_BASE_LO -/
def HST_CMDQ_BASE_LO : Fld := ⟨0x1700020, 31, 0⟩
/-! HST_CMDQ_BASE_HI -/
def HST_CMDQ_BASE_HI : Fld := ⟨0x1700024, 31, 0⟩
/-! HST_CMDQ_SIZE -/
def HST_CMDQ_SIZE : Fld := ⟨0x1700028, 3, 0⟩
/-! HST_CMDQ_TAIL -/
def HST_CMDQ_TAIL : Fld := ⟨0x170002C, 11, 0⟩
/-! HST_CMDQ_HEAD -/
def HST_CMDQ_HEAD : Fld := ⟨0x1700030, 11, 0⟩
/-! HST_CPLQ_BASE_LO -/
def HST_CPLQ_BASE_LO : Fld := ⟨0x1700040, 31, 0⟩
/-! HST_CPLQ_BASE_HI -/
def HST_CPLQ_BASE_HI : Fld := ⟨0x1700044, 31, 0⟩
/-! HST_CPLQ_SIZE -/
def HST_CPLQ_SIZE : Fld := ⟨0x1700048, 3, 0⟩
/-! HST_CPLQ_HEAD -/
def HST_CPLQ_HEAD : Fld := ⟨0x170004C, 11, 0⟩
/-! HST_CPLQ_TAIL -/
def HST_CPLQ_TAIL : Fld := ⟨0x1700050, 11, 0⟩
/-! HST_NTFQ_BASE_LO -/
def HST_NTFQ_BASE_LO : Fld := ⟨0x1700060, 31, 0⟩
/-! HST_NTFQ_BASE_HI -/
def HST_NTFQ_BASE_HI : Fld := ⟨0x1700064, 31, 0⟩
/-! HST_NTFQ_SIZE -/
def HST_NTFQ_SIZE : Fld := ⟨0x1700068, 3, 0⟩
/-! HST_NTFQ_HEAD -/
def HST_NTFQ_HEAD : Fld := ⟨0x170006C, 11, 0⟩
/-! HST_NTFQ_TAIL -/
def HST_NTFQ_TAIL : Fld := ⟨0x1700070, 11, 0⟩
/-! HST_NTF_MASK -/
def HST_NTF_MASK : Fld := ⟨0x1700078, 8, 0⟩
/-! HST_NTF_LOST -/
def HST_NTF_LOST : Fld := ⟨0x170007C, 31, 0⟩
/-! HST_ERR_CNT -/
def HST_ERR_CNT : Fld := ⟨0x17000A0, 31, 0⟩
/-! HST_ERR_ADDR -/
def HST_ERR_ADDR : Fld := ⟨0x17000A4, 27, 0⟩
/-! HST_ERR_INFO -/
def HST_ERR_INFO_CAUSE : Fld := ⟨0x17000A8, 3, 0⟩
def HST_ERR_INFO_BAR : Fld := ⟨0x17000A8, 6, 4⟩
def HST_ERR_INFO_FUNC : Fld := ⟨0x17000A8, 8, 8⟩
def HST_ERR_INFO_AGENT : Fld := ⟨0x17000A8, 10, 9⟩
def HST_ERR_INFO_WRITE : Fld := ⟨0x17000A8, 11, 11⟩
def HST_ERR_INFO_VALID : Fld := ⟨0x17000A8, 31, 31⟩
/-! HST_AP -/
def HST_AP_BASE (i : Nat) : Fld := ⟨0x1700100 + i * 0x4, 23, 0⟩
def HST_AP_VALID (i : Nat) : Fld := ⟨0x1700100 + i * 0x4, 31, 31⟩
/-! HST_MSIX_ADDR_LO -/
def HST_MSIX_ADDR_LO (i : Nat) : Fld := ⟨0x1780000 + i * 0x10, 31, 0⟩
/-! HST_MSIX_ADDR_HI -/
def HST_MSIX_ADDR_HI (i : Nat) : Fld := ⟨0x1780004 + i * 0x10, 31, 0⟩
/-! HST_MSIX_DATA -/
def HST_MSIX_DATA (i : Nat) : Fld := ⟨0x1780008 + i * 0x10, 31, 0⟩
/-! HST_MSIX_CTL -/
def HST_MSIX_CTL (i : Nat) : Fld := ⟨0x178000C + i * 0x10, 0, 0⟩
/-! HST_PBA -/
def HST_PBA (i : Nat) : Fld := ⟨0x1784000 + i * 0x4, 31, 0⟩
/-! TILE_SEQ_CTL -/
def TILE_SEQ_CTL_GO (i : Nat) : Fld := ⟨0x2000000 + i * 0x10000, 0, 0⟩
def TILE_SEQ_CTL_START (i : Nat) : Fld := ⟨0x2000000 + i * 0x10000, 1, 1⟩
def TILE_SEQ_CTL_STOP (i : Nat) : Fld := ⟨0x2000000 + i * 0x10000, 2, 2⟩
def TILE_SEQ_CTL_RESET (i : Nat) : Fld := ⟨0x2000000 + i * 0x10000, 3, 3⟩
def TILE_SEQ_CTL_SOFTIRQ (i : Nat) : Fld := ⟨0x2000000 + i * 0x10000, 4, 4⟩
def TILE_SEQ_CTL_DRAIN (i : Nat) : Fld := ⟨0x2000000 + i * 0x10000, 5, 5⟩
def TILE_SEQ_CTL_REFUSED (i : Nat) : Fld := ⟨0x2000000 + i * 0x10000, 6, 6⟩
/-! TILE_SEQ_BOOT -/
def TILE_SEQ_BOOT (i : Nat) : Fld := ⟨0x2000004 + i * 0x10000, 13, 2⟩
/-! TILE_SEQ_STAT -/
def TILE_SEQ_STAT_STATE (i : Nat) : Fld := ⟨0x2000008 + i * 0x10000, 1, 0⟩
def TILE_SEQ_STAT_HALT_REASON (i : Nat) : Fld := ⟨0x2000008 + i * 0x10000, 7, 4⟩
def TILE_SEQ_STAT_EXL (i : Nat) : Fld := ⟨0x2000008 + i * 0x10000, 8, 8⟩
/-! TILE_SEQ_PC -/
def TILE_SEQ_PC (i : Nat) : Fld := ⟨0x200000C + i * 0x10000, 13, 2⟩
/-! TILE_SEQ_EPC -/
def TILE_SEQ_EPC (i : Nat) : Fld := ⟨0x2000010 + i * 0x10000, 31, 0⟩
/-! TILE_SEQ_ESTAT -/
def TILE_SEQ_ESTAT (i : Nat) : Fld := ⟨0x2000014 + i * 0x10000, 31, 0⟩
/-! TILE_SEQ_EBAD -/
def TILE_SEQ_EBAD (i : Nat) : Fld := ⟨0x2000018 + i * 0x10000, 31, 0⟩
/-! TILE_SEQ_MPROG -/
def TILE_SEQ_MPROG (i : Nat) : Fld := ⟨0x200001C + i * 0x10000, 31, 0⟩
/-! TILE_SEQ_SSTAT -/
def TILE_SEQ_SSTAT (i : Nat) : Fld := ⟨0x2000020 + i * 0x10000, 31, 0⟩
/-! TILE_SEQ_RETIRED -/
def TILE_SEQ_RETIRED (i : Nat) : Fld := ⟨0x2000024 + i * 0x10000, 31, 0⟩
/-! TILE_SEQ_EXC -/
def TILE_SEQ_EXC (i : Nat) : Fld := ⟨0x2000028 + i * 0x10000, 31, 0⟩
/-! NE_CTL -/
def NE_CTL_EN (i : Nat) : Fld := ⟨0x2000100 + i * 0x10000, 0, 0⟩
def NE_CTL_STAMP_INIT (i : Nat) : Fld := ⟨0x2000100 + i * 0x10000, 1, 1⟩
/-! NE_STAT -/
def NE_STAT_BUSY (i : Nat) : Fld := ⟨0x2000104 + i * 0x10000, 0, 0⟩
def NE_STAT_OVERDUE (i : Nat) : Fld := ⟨0x2000104 + i * 0x10000, 15, 8⟩
def NE_STAT_DYN_ERR (i : Nat) : Fld := ⟨0x2000104 + i * 0x10000, 16, 16⟩
/-! NE_ROUTE -/
def NE_ROUTE (i : Nat) : Fld := ⟨0x2000108 + i * 0x10000, 31, 0⟩
/-! NE_LBACK -/
def NE_LBACK (i j : Nat) : Fld := ⟨0x2000110 + i * 0x10000 + j * 0x4, 31, 0⟩
/-! NE_INBOX -/
def NE_INBOX (i : Nat) : Fld := ⟨0x2000120 + i * 0x10000, 15, 0⟩
/-! NE_INBOX_LIM -/
def NE_INBOX_LIM_SIZE (i : Nat) : Fld := ⟨0x2000124 + i * 0x10000, 10, 0⟩
def NE_INBOX_LIM_THR (i : Nat) : Fld := ⟨0x2000124 + i * 0x10000, 26, 16⟩
/-! NE_NOTICE -/
def NE_NOTICE_LIST (i : Nat) : Fld := ⟨0x2000128 + i * 0x10000, 9, 0⟩
def NE_NOTICE_EN (i : Nat) : Fld := ⟨0x2000128 + i * 0x10000, 31, 31⟩
/-! NE_REG0 -/
def NE_REG0_TBASE (i j : Nat) : Fld := ⟨0x2000140 + i * 0x10000 + j * 0x8, 15, 0⟩
def NE_REG0_CNT (i j : Nat) : Fld := ⟨0x2000140 + i * 0x10000 + j * 0x8, 31, 16⟩
/-! NE_REG4 -/
def NE_REG4_MBASE (i j : Nat) : Fld := ⟨0x2000144 + i * 0x10000 + j * 0x8, 17, 0⟩
def NE_REG4_FMT (i j : Nat) : Fld := ⟨0x2000144 + i * 0x10000 + j * 0x8, 19, 18⟩
def NE_REG4_K (i j : Nat) : Fld := ⟨0x2000144 + i * 0x10000 + j * 0x8, 23, 20⟩
def NE_REG4_CLASS (i j : Nat) : Fld := ⟨0x2000144 + i * 0x10000 + j * 0x8, 26, 24⟩
def NE_REG4_VTYPE (i j : Nat) : Fld := ⟨0x2000144 + i * 0x10000 + j * 0x8, 28, 27⟩
def NE_REG4_VALID (i j : Nat) : Fld := ⟨0x2000144 + i * 0x10000 + j * 0x8, 31, 31⟩
/-! NE_CLS_00 -/
def NE_CLS_00_INMODE (i j : Nat) : Fld := ⟨0x2000200 + i * 0x10000 + j * 0x40, 1, 0⟩
def NE_CLS_00_IVAR (i j : Nat) : Fld := ⟨0x2000200 + i * 0x10000 + j * 0x40, 3, 2⟩
def NE_CLS_00_INSHIFT (i j : Nat) : Fld := ⟨0x2000200 + i * 0x10000 + j * 0x40, 6, 4⟩
def NE_CLS_00_STENCIL (i j : Nat) : Fld := ⟨0x2000200 + i * 0x10000 + j * 0x40, 7, 7⟩
def NE_CLS_00_PITCH (i j : Nat) : Fld := ⟨0x2000200 + i * 0x10000 + j * 0x40, 31, 16⟩
/-! NE_CLS_04 -/
def NE_CLS_04 (i j : Nat) : Fld := ⟨0x2000204 + i * 0x10000 + j * 0x40, 31, 0⟩
/-! NE_CLS_08 -/
def NE_CLS_08 (i j : Nat) : Fld := ⟨0x2000208 + i * 0x10000 + j * 0x40, 31, 0⟩
/-! NE_CLS_0C -/
def NE_CLS_0C (i j : Nat) : Fld := ⟨0x200020C + i * 0x10000 + j * 0x40, 7, 0⟩
/-! NE_CLS_10 -/
def NE_CLS_10_TBL0 (i j : Nat) : Fld := ⟨0x2000210 + i * 0x10000 + j * 0x40, 4, 0⟩
def NE_CLS_10_TBL1 (i j : Nat) : Fld := ⟨0x2000210 + i * 0x10000 + j * 0x40, 9, 5⟩
def NE_CLS_10_TBL2 (i j : Nat) : Fld := ⟨0x2000210 + i * 0x10000 + j * 0x40, 14, 10⟩
def NE_CLS_10_TBL3 (i j : Nat) : Fld := ⟨0x2000210 + i * 0x10000 + j * 0x40, 19, 15⟩
def NE_CLS_10_TS (i j : Nat) : Fld := ⟨0x2000210 + i * 0x10000 + j * 0x40, 23, 20⟩
/-! NE_CLS_14 -/
def NE_CLS_14_REST0 (i j : Nat) : Fld := ⟨0x2000214 + i * 0x10000 + j * 0x40, 15, 0⟩
def NE_CLS_14_REST1 (i j : Nat) : Fld := ⟨0x2000214 + i * 0x10000 + j * 0x40, 31, 16⟩
/-! NE_CLS_18 -/
def NE_CLS_18_REST2 (i j : Nat) : Fld := ⟨0x2000218 + i * 0x10000 + j * 0x40, 15, 0⟩
def NE_CLS_18_REST3 (i j : Nat) : Fld := ⟨0x2000218 + i * 0x10000 + j * 0x40, 31, 16⟩
/-! NE_CLS_1C -/
def NE_CLS_1C_ENTRY (i j : Nat) : Fld := ⟨0x200021C + i * 0x10000 + j * 0x40, 5, 0⟩
def NE_CLS_1C_LEN (i j : Nat) : Fld := ⟨0x200021C + i * 0x10000 + j * 0x40, 11, 6⟩
def NE_CLS_1C_SAT (i j : Nat) : Fld := ⟨0x200021C + i * 0x10000 + j * 0x40, 12, 12⟩
def NE_CLS_1C_RND (i j : Nat) : Fld := ⟨0x200021C + i * 0x10000 + j * 0x40, 14, 13⟩
/-! NE_CLS_K -/
def NE_CLS_K_KA (i j k : Nat) : Fld := ⟨0x2000220 + i * 0x10000 + j * 0x40 + k * 0x4, 15, 0⟩
def NE_CLS_K_KB (i j k : Nat) : Fld := ⟨0x2000220 + i * 0x10000 + j * 0x40 + k * 0x4, 31, 16⟩
/-! NE_CLS_30 -/
def NE_CLS_30_FIRE_SRC (i j : Nat) : Fld := ⟨0x2000230 + i * 0x10000 + j * 0x40, 0, 0⟩
def NE_CLS_30_TVAR (i j : Nat) : Fld := ⟨0x2000230 + i * 0x10000 + j * 0x40, 2, 1⟩
def NE_CLS_30_RESET (i j : Nat) : Fld := ⟨0x2000230 + i * 0x10000 + j * 0x40, 4, 3⟩
def NE_CLS_30_GRADE (i j : Nat) : Fld := ⟨0x2000230 + i * 0x10000 + j * 0x40, 5, 5⟩
def NE_CLS_30_OSHIFT (i j : Nat) : Fld := ⟨0x2000230 + i * 0x10000 + j * 0x40, 9, 6⟩
def NE_CLS_30_OVAL (i j : Nat) : Fld := ⟨0x2000230 + i * 0x10000 + j * 0x40, 17, 10⟩
def NE_CLS_30_REFP (i j : Nat) : Fld := ⟨0x2000230 + i * 0x10000 + j * 0x40, 25, 18⟩
/-! NE_CLS_34 -/
def NE_CLS_34_THR (i j : Nat) : Fld := ⟨0x2000234 + i * 0x10000 + j * 0x40, 15, 0⟩
def NE_CLS_34_VRESET (i j : Nat) : Fld := ⟨0x2000234 + i * 0x10000 + j * 0x40, 31, 16⟩
/-! NE_CLS_38 -/
def NE_CLS_38_LIST (i j : Nat) : Fld := ⟨0x2000238 + i * 0x10000 + j * 0x40, 9, 0⟩
def NE_CLS_38_DELAY_EN (i j : Nat) : Fld := ⟨0x2000238 + i * 0x10000 + j * 0x40, 10, 10⟩
def NE_CLS_38_RSET (i j : Nat) : Fld := ⟨0x2000238 + i * 0x10000 + j * 0x40, 12, 11⟩
def NE_CLS_38_OUT_BACK (i j : Nat) : Fld := ⟨0x2000238 + i * 0x10000 + j * 0x40, 23, 16⟩
/-! NE_CLS_3C -/
def NE_CLS_3C_DELAY (i j : Nat) : Fld := ⟨0x200023C + i * 0x10000 + j * 0x40, 19, 0⟩
def NE_CLS_3C_DTGT (i j : Nat) : Fld := ⟨0x200023C + i * 0x10000 + j * 0x40, 31, 20⟩
/-! NE_RING0 -/
def NE_RING0_TBASE (i j : Nat) : Fld := ⟨0x2000400 + i * 0x10000 + j * 0x10, 15, 0⟩
def NE_RING0_CNT (i j : Nat) : Fld := ⟨0x2000400 + i * 0x10000 + j * 0x10, 31, 16⟩
/-! NE_RING4 -/
def NE_RING4_RBASE (i j : Nat) : Fld := ⟨0x2000404 + i * 0x10000 + j * 0x10, 15, 0⟩
def NE_RING4_SLOTS (i j : Nat) : Fld := ⟨0x2000404 + i * 0x10000 + j * 0x10, 17, 16⟩
def NE_RING4_W (i j : Nat) : Fld := ⟨0x2000404 + i * 0x10000 + j * 0x10, 22, 18⟩
def NE_RING4_VALID (i j : Nat) : Fld := ⟨0x2000404 + i * 0x10000 + j * 0x10, 31, 31⟩
/-! NE_RING8 -/
def NE_RING8 (i j : Nat) : Fld := ⟨0x2000408 + i * 0x10000 + j * 0x10, 31, 0⟩
/-! NE_CNT -/
def NE_CNT (i j : Nat) : Fld := ⟨0x2000500 + i * 0x10000 + j * 0x4, 31, 0⟩
/-! NE_DYN -/
def NE_DYN (i j : Nat) : Fld := ⟨0x2000800 + i * 0x10000 + j * 0x4, 31, 0⟩
/-! NE_TAB -/
def NE_TAB (i j k : Nat) : Fld := ⟨0x2001000 + i * 0x10000 + j * 0x80 + k * 0x4, 31, 0⟩
/-! CIM_CFG -/
def CIM_CFG_RES (i : Nat) : Fld := ⟨0x2002000 + i * 0x10000, 17, 0⟩
def CIM_CFG_ACCMAP (i : Nat) : Fld := ⟨0x2002000 + i * 0x10000, 31, 24⟩
/-! CIM_STAT -/
def CIM_STAT_AVIEW (i : Nat) : Fld := ⟨0x2002004 + i * 0x10000, 3, 0⟩
def CIM_STAT_ACC_SAT (i : Nat) : Fld := ⟨0x2002004 + i * 0x10000, 4, 4⟩
def CIM_STAT_REFUSED (i : Nat) : Fld := ⟨0x2002004 + i * 0x10000, 5, 5⟩
/-! CIM_A_BANK -/
def CIM_A_BANK_CB (i j : Nat) : Fld := ⟨0x2002100 + i * 0x10000 + j * 0x40, 0, 0⟩
def CIM_A_BANK_ST_A (i j : Nat) : Fld := ⟨0x2002100 + i * 0x10000 + j * 0x40, 2, 1⟩
def CIM_A_BANK_ST_B (i j : Nat) : Fld := ⟨0x2002100 + i * 0x10000 + j * 0x40, 4, 3⟩
/-! CIM_A_PGM -/
def CIM_A_PGM_START (i j : Nat) : Fld := ⟨0x2002104 + i * 0x10000 + j * 0x40, 0, 0⟩
def CIM_A_PGM_FINISH (i j : Nat) : Fld := ⟨0x2002104 + i * 0x10000 + j * 0x40, 1, 1⟩
def CIM_A_PGM_ABORT (i j : Nat) : Fld := ⟨0x2002104 + i * 0x10000 + j * 0x40, 2, 2⟩
def CIM_A_PGM_GO (i j : Nat) : Fld := ⟨0x2002104 + i * 0x10000 + j * 0x40, 3, 3⟩
def CIM_A_PGM_BANK (i j : Nat) : Fld := ⟨0x2002104 + i * 0x10000 + j * 0x40, 4, 4⟩
def CIM_A_PGM_BUF (i j : Nat) : Fld := ⟨0x2002104 + i * 0x10000 + j * 0x40, 5, 5⟩
def CIM_A_PGM_ROW (i j : Nat) : Fld := ⟨0x2002104 + i * 0x10000 + j * 0x40, 14, 6⟩
def CIM_A_PGM_BUSY (i j : Nat) : Fld := ⟨0x2002104 + i * 0x10000 + j * 0x40, 16, 16⟩
def CIM_A_PGM_QUEUED (i j : Nat) : Fld := ⟨0x2002104 + i * 0x10000 + j * 0x40, 17, 17⟩
def CIM_A_PGM_REFUSED (i j : Nat) : Fld := ⟨0x2002104 + i * 0x10000 + j * 0x40, 18, 18⟩
def CIM_A_PGM_FAILROW (i j : Nat) : Fld := ⟨0x2002104 + i * 0x10000 + j * 0x40, 19, 19⟩
def CIM_A_PGM_LOOPS (i j : Nat) : Fld := ⟨0x2002104 + i * 0x10000 + j * 0x40, 25, 20⟩
/-! CIM_A_SEAL_IN -/
def CIM_A_SEAL_IN (i j : Nat) : Fld := ⟨0x2002108 + i * 0x10000 + j * 0x40, 31, 0⟩
/-! CIM_A_SEAL_A -/
def CIM_A_SEAL_A (i j : Nat) : Fld := ⟨0x200210C + i * 0x10000 + j * 0x40, 31, 0⟩
/-! CIM_A_SEAL_B -/
def CIM_A_SEAL_B (i j : Nat) : Fld := ⟨0x2002110 + i * 0x10000 + j * 0x40, 31, 0⟩
/-! CIM_A_PCNT -/
def CIM_A_PCNT_A (i j : Nat) : Fld := ⟨0x2002114 + i * 0x10000 + j * 0x40, 15, 0⟩
def CIM_A_PCNT_B (i j : Nat) : Fld := ⟨0x2002114 + i * 0x10000 + j * 0x40, 31, 16⟩
/-! CIM_A_FAILED -/
def CIM_A_FAILED_A (i j : Nat) : Fld := ⟨0x2002118 + i * 0x10000 + j * 0x40, 7, 0⟩
def CIM_A_FAILED_B (i j : Nat) : Fld := ⟨0x2002118 + i * 0x10000 + j * 0x40, 15, 8⟩
/-! CIM_A_CONV -/
def CIM_A_CONV (i j : Nat) : Fld := ⟨0x200211C + i * 0x10000 + j * 0x40, 31, 0⟩
/-! CIM_A_CLIP -/
def CIM_A_CLIP (i j : Nat) : Fld := ⟨0x2002120 + i * 0x10000 + j * 0x40, 31, 0⟩
/-! CIM_CAL -/
def CIM_CAL_CAL_PHASE (i : Nat) : Fld := ⟨0x2002300 + i * 0x10000, 5, 0⟩
def CIM_CAL_CAL_OFS (i : Nat) : Fld := ⟨0x2002300 + i * 0x10000, 25, 6⟩
/-! CIM_CAL_PAR -/
def CIM_CAL_PAR_NWIN_LOG2 (i : Nat) : Fld := ⟨0x2002304 + i * 0x10000, 4, 0⟩
def CIM_CAL_PAR_KS (i : Nat) : Fld := ⟨0x2002304 + i * 0x10000, 7, 5⟩
def CIM_CAL_PAR_CONV_N (i : Nat) : Fld := ⟨0x2002304 + i * 0x10000, 11, 8⟩
def CIM_CAL_PAR_CAL_AGE (i : Nat) : Fld := ⟨0x2002304 + i * 0x10000, 31, 16⟩
/-! CIM_CAL_LIM -/
def CIM_CAL_LIM_GMAX (i : Nat) : Fld := ⟨0x2002308 + i * 0x10000, 15, 0⟩
def CIM_CAL_LIM_BMAX (i : Nat) : Fld := ⟨0x2002308 + i * 0x10000, 23, 16⟩
def CIM_CAL_LIM_LMAX (i : Nat) : Fld := ⟨0x2002308 + i * 0x10000, 31, 24⟩
/-! CIM_CAL_TOL -/
def CIM_CAL_TOL_GTOL (i : Nat) : Fld := ⟨0x200230C + i * 0x10000, 15, 0⟩
def CIM_CAL_TOL_BTOL (i : Nat) : Fld := ⟨0x200230C + i * 0x10000, 31, 16⟩
/-! CIM_TS_CTL -/
def CIM_TS_CTL_INJECT (i j : Nat) : Fld := ⟨0x2002400 + i * 0x10000 + j * 0x80, 0, 0⟩
def CIM_TS_CTL_CONVERGED (i j : Nat) : Fld := ⟨0x2002400 + i * 0x10000 + j * 0x80, 1, 1⟩
def CIM_TS_CTL_TS_FAULT (i j : Nat) : Fld := ⟨0x2002400 + i * 0x10000 + j * 0x80, 2, 2⟩
def CIM_TS_CTL_BURST (i j : Nat) : Fld := ⟨0x2002400 + i * 0x10000 + j * 0x80, 3, 3⟩
/-! CIM_TS_GAIN_EST -/
def CIM_TS_GAIN_EST (i j : Nat) : Fld := ⟨0x2002404 + i * 0x10000 + j * 0x80, 31, 0⟩
/-! CIM_TS_OFFS_EST -/
def CIM_TS_OFFS_EST (i j : Nat) : Fld := ⟨0x2002408 + i * 0x10000 + j * 0x80, 31, 0⟩
/-! CIM_TS_LIN_EST -/
def CIM_TS_LIN_EST (i j : Nat) : Fld := ⟨0x200240C + i * 0x10000 + j * 0x80, 15, 0⟩
/-! CIM_TS_CONV_SEC -/
def CIM_TS_CONV_SEC (i j : Nat) : Fld := ⟨0x2002410 + i * 0x10000 + j * 0x80, 31, 0⟩
/-! CIM_TS_WIN -/
def CIM_TS_WIN (i j : Nat) : Fld := ⟨0x2002414 + i * 0x10000 + j * 0x80, 31, 0⟩
/-! CIM_TS_WIN_DISC -/
def CIM_TS_WIN_DISC (i j : Nat) : Fld := ⟨0x2002418 + i * 0x10000 + j * 0x80, 31, 0⟩
/-! CIM_TS_CAL_COLL -/
def CIM_TS_CAL_COLL (i j : Nat) : Fld := ⟨0x200241C + i * 0x10000 + j * 0x80, 31, 0⟩
/-! CIM_TS_CAL_MISS -/
def CIM_TS_CAL_MISS (i j : Nat) : Fld := ⟨0x2002420 + i * 0x10000 + j * 0x80, 31, 0⟩
/-! CIM_TS_MSCAN -/
def CIM_TS_MSCAN_START (i j : Nat) : Fld := ⟨0x2002424 + i * 0x10000 + j * 0x80, 0, 0⟩
def CIM_TS_MSCAN_BANK (i j : Nat) : Fld := ⟨0x2002424 + i * 0x10000 + j * 0x80, 1, 1⟩
def CIM_TS_MSCAN_MARGIN (i j : Nat) : Fld := ⟨0x2002424 + i * 0x10000 + j * 0x80, 7, 4⟩
def CIM_TS_MSCAN_BUSY (i j : Nat) : Fld := ⟨0x2002424 + i * 0x10000 + j * 0x80, 8, 8⟩
def CIM_TS_MSCAN_DONE (i j : Nat) : Fld := ⟨0x2002424 + i * 0x10000 + j * 0x80, 9, 9⟩
def CIM_TS_MSCAN_FCNT (i j : Nat) : Fld := ⟨0x2002424 + i * 0x10000 + j * 0x80, 24, 16⟩
/-! CIM_TS_RFAIL -/
def CIM_TS_RFAIL (i j k : Nat) : Fld := ⟨0x2002428 + i * 0x10000 + j * 0x80 + k * 0x4, 31, 0⟩
/-! CIM_TS_SUBST_A -/
def CIM_TS_SUBST_A_PAIR0 (i j k : Nat) : Fld := ⟨0x2002450 + i * 0x10000 + j * 0x80 + k * 0x4, 7, 0⟩
def CIM_TS_SUBST_A_STATE0 (i j k : Nat) : Fld := ⟨0x2002450 + i * 0x10000 + j * 0x80 + k * 0x4, 9, 8⟩
def CIM_TS_SUBST_A_PAIR1 (i j k : Nat) : Fld := ⟨0x2002450 + i * 0x10000 + j * 0x80 + k * 0x4, 23, 16⟩
def CIM_TS_SUBST_A_STATE1 (i j k : Nat) : Fld := ⟨0x2002450 + i * 0x10000 + j * 0x80 + k * 0x4, 25, 24⟩
/-! CIM_TS_SUBST_B -/
def CIM_TS_SUBST_B_PAIR0 (i j k : Nat) : Fld := ⟨0x2002460 + i * 0x10000 + j * 0x80 + k * 0x4, 7, 0⟩
def CIM_TS_SUBST_B_STATE0 (i j k : Nat) : Fld := ⟨0x2002460 + i * 0x10000 + j * 0x80 + k * 0x4, 9, 8⟩
def CIM_TS_SUBST_B_PAIR1 (i j k : Nat) : Fld := ⟨0x2002460 + i * 0x10000 + j * 0x80 + k * 0x4, 23, 16⟩
def CIM_TS_SUBST_B_STATE1 (i j k : Nat) : Fld := ⟨0x2002460 + i * 0x10000 + j * 0x80 + k * 0x4, 25, 24⟩
/-! CIM_TS_SP_CTL -/
def CIM_TS_SP_CTL_SPGO (i j : Nat) : Fld := ⟨0x2002470 + i * 0x10000 + j * 0x80, 0, 0⟩
def CIM_TS_SP_CTL_SPARE (i j : Nat) : Fld := ⟨0x2002470 + i * 0x10000 + j * 0x80, 3, 1⟩
def CIM_TS_SP_CTL_PAIR (i j : Nat) : Fld := ⟨0x2002470 + i * 0x10000 + j * 0x80, 11, 4⟩
def CIM_TS_SP_CTL_BUSY (i j : Nat) : Fld := ⟨0x2002470 + i * 0x10000 + j * 0x80, 12, 12⟩
/-! CIM_TS_STAMP -/
def CIM_TS_STAMP_A (i j : Nat) : Fld := ⟨0x2002474 + i * 0x10000 + j * 0x80, 15, 0⟩
def CIM_TS_STAMP_B (i j : Nat) : Fld := ⟨0x2002474 + i * 0x10000 + j * 0x80, 31, 16⟩
/-! ASSAY_CFG -/
def ASSAY_CFG_EN (i : Nat) : Fld := ⟨0x2002600 + i * 0x10000, 0, 0⟩
def ASSAY_CFG_ASSAY_EP (i : Nat) : Fld := ⟨0x2002600 + i * 0x10000, 11, 1⟩
def ASSAY_CFG_ALARM_N (i : Nat) : Fld := ⟨0x2002600 + i * 0x10000, 15, 12⟩
def ASSAY_CFG_STUCK_N (i : Nat) : Fld := ⟨0x2002600 + i * 0x10000, 31, 16⟩
/-! ASSAY_STAT -/
def ASSAY_STAT_VIOL (i : Nat) : Fld := ⟨0x2002604 + i * 0x10000, 3, 0⟩
def ASSAY_STAT_FIRE_VIOL (i : Nat) : Fld := ⟨0x2002604 + i * 0x10000, 4, 4⟩
def ASSAY_STAT_ALARM (i : Nat) : Fld := ⟨0x2002604 + i * 0x10000, 8, 8⟩
/-! ASSAY_CLIP_HI -/
def ASSAY_CLIP_HI (i j : Nat) : Fld := ⟨0x2002640 + i * 0x10000 + j * 0x4, 15, 0⟩
/-! ASSAY_FIRE_LO -/
def ASSAY_FIRE_LO (i : Nat) : Fld := ⟨0x2002650 + i * 0x10000, 31, 0⟩
/-! ASSAY_FIRE_HI -/
def ASSAY_FIRE_HI (i : Nat) : Fld := ⟨0x2002654 + i * 0x10000, 31, 0⟩
/-! ASSAY_ENV -/
def ASSAY_ENV_LO (i j k : Nat) : Fld := ⟨0x2002700 + i * 0x10000 + j * 0x40 + k * 0x4, 15, 0⟩
def ASSAY_ENV_HI (i j k : Nat) : Fld := ⟨0x2002700 + i * 0x10000 + j * 0x40 + k * 0x4, 31, 16⟩
/-! ASSAY_HIST -/
def ASSAY_HIST (i j k : Nat) : Fld := ⟨0x2002800 + i * 0x10000 + j * 0x40 + k * 0x4, 31, 0⟩
/-! ASSAY_STUCK -/
def ASSAY_STUCK (i j k : Nat) : Fld := ⟨0x2002900 + i * 0x10000 + j * 0x40 + k * 0x4, 31, 0⟩
/-! ASSAY_STUCK_EXEMPT -/
def ASSAY_STUCK_EXEMPT (i j k : Nat) : Fld := ⟨0x2002A00 + i * 0x10000 + j * 0x20 + k * 0x4, 31, 0⟩
/-! CIM_ROWBUF -/
def CIM_ROWBUF (i j k l : Nat) : Fld := ⟨0x2003000 + i * 0x10000 + j * 0x400 + k * 0x200 + l * 0x4, 31, 0⟩
/-! CIM_SPBUF -/
def CIM_SPBUF (i j k : Nat) : Fld := ⟨0x2004000 + i * 0x10000 + j * 0x200 + k * 0x4, 31, 0⟩
/-! CIM_COEF -/
def CIM_COEF (i j k : Nat) : Fld := ⟨0x2005000 + i * 0x10000 + j * 0x1000 + k * 0x4, 31, 0⟩
/-! VE_STAT -/
def VE_STAT_ISAT (i : Nat) : Fld := ⟨0x2009000 + i * 0x10000, 0, 0⟩
def VE_STAT_IWRAP (i : Nat) : Fld := ⟨0x2009000 + i * 0x10000, 1, 1⟩
def VE_STAT_NV (i : Nat) : Fld := ⟨0x2009000 + i * 0x10000, 2, 2⟩
def VE_STAT_OF (i : Nat) : Fld := ⟨0x2009000 + i * 0x10000, 3, 3⟩
def VE_STAT_UF (i : Nat) : Fld := ⟨0x2009000 + i * 0x10000, 4, 4⟩
def VE_STAT_DZ (i : Nat) : Fld := ⟨0x2009000 + i * 0x10000, 5, 5⟩
def VE_STAT_REFUSED (i : Nat) : Fld := ⟨0x2009000 + i * 0x10000, 6, 6⟩
/-! VE_OPS -/
def VE_OPS (i : Nat) : Fld := ⟨0x2009004 + i * 0x10000, 31, 0⟩
/-! VE_CYC -/
def VE_CYC (i : Nat) : Fld := ⟨0x2009008 + i * 0x10000, 31, 0⟩
/-! VE_TREG -/
def VE_TREG (i j k : Nat) : Fld := ⟨0x200A000 + i * 0x10000 + j * 0x200 + k * 0x4, 31, 0⟩
/-! VE_MREG -/
def VE_MREG (i j k : Nat) : Fld := ⟨0x200B000 + i * 0x10000 + j * 0x20 + k * 0x4, 31, 0⟩
/-! VE_ACC -/
def VE_ACC (i j k : Nat) : Fld := ⟨0x200B400 + i * 0x10000 + j * 0x400 + k * 0x4, 31, 0⟩
/-! TILE_CHG_CTL -/
def TILE_CHG_CTL_HOLD (i : Nat) : Fld := ⟨0x200E000 + i * 0x10000, 0, 0⟩
def TILE_CHG_CTL_QUIESCE (i : Nat) : Fld := ⟨0x200E000 + i * 0x10000, 1, 1⟩
def TILE_CHG_CTL_EBF_EN (i : Nat) : Fld := ⟨0x200E000 + i * 0x10000, 2, 2⟩
def TILE_CHG_CTL_HLOAD (i : Nat) : Fld := ⟨0x200E000 + i * 0x10000, 3, 3⟩
/-! TILE_CHG_EBF -/
def TILE_CHG_EBF (i : Nat) : Fld := ⟨0x200E004 + i * 0x10000, 31, 0⟩
/-! TILE_CHG_STAT -/
def TILE_CHG_STAT_HELD (i : Nat) : Fld := ⟨0x200E008 + i * 0x10000, 0, 0⟩
def TILE_CHG_STAT_FENCE_LATE (i : Nat) : Fld := ⟨0x200E008 + i * 0x10000, 1, 1⟩
def TILE_CHG_STAT_EB_DISC (i : Nat) : Fld := ⟨0x200E008 + i * 0x10000, 31, 16⟩
/-! TILE_CHG_H -/
def TILE_CHG_H (i j : Nat) : Fld := ⟨0x200E010 + i * 0x10000 + j * 0x4, 31, 0⟩
/-! PF1_BENCH_CTL -/
def PF1_BENCH_CTL_DOORBELL : Fld := ⟨0x10010000, 0, 0⟩
def PF1_BENCH_CTL_BUSY : Fld := ⟨0x10010000, 1, 1⟩
def PF1_BENCH_CTL_RESP_READY : Fld := ⟨0x10010000, 2, 2⟩
def PF1_BENCH_CTL_ABSENT : Fld := ⟨0x10010000, 3, 3⟩
/-! PF1_BENCH_REQ_LEN -/
def PF1_BENCH_REQ_LEN : Fld := ⟨0x10010004, 12, 0⟩
/-! PF1_BENCH_RESP_LEN -/
def PF1_BENCH_RESP_LEN : Fld := ⟨0x10010008, 12, 0⟩
/-! PF1_BENCH_REQ -/
def PF1_BENCH_REQ (i : Nat) : Fld := ⟨0x10011000 + i * 0x4, 31, 0⟩
/-! PF1_BENCH_RESP -/
def PF1_BENCH_RESP (i : Nat) : Fld := ⟨0x10012000 + i * 0x4, 31, 0⟩
/-! PF1_TM_CTL -/
def PF1_TM_CTL_DOORBELL : Fld := ⟨0x10020000, 0, 0⟩
def PF1_TM_CTL_BUSY : Fld := ⟨0x10020000, 1, 1⟩
def PF1_TM_CTL_RESP_READY : Fld := ⟨0x10020000, 2, 2⟩
def PF1_TM_CTL_ABSENT : Fld := ⟨0x10020000, 3, 3⟩
/-! PF1_TM_REQ_LEN -/
def PF1_TM_REQ_LEN : Fld := ⟨0x10020004, 12, 0⟩
/-! PF1_TM_RESP_LEN -/
def PF1_TM_RESP_LEN : Fld := ⟨0x10020008, 12, 0⟩
/-! PF1_TM_REQ -/
def PF1_TM_REQ (i : Nat) : Fld := ⟨0x10021000 + i * 0x4, 31, 0⟩
/-! PF1_TM_RESP -/
def PF1_TM_RESP (i : Nat) : Fld := ⟨0x10022000 + i * 0x4, 31, 0⟩
/-! PF1_MSIX_ADDR_LO -/
def PF1_MSIX_ADDR_LO (i : Nat) : Fld := ⟨0x100F0000 + i * 0x10, 31, 0⟩
/-! PF1_MSIX_ADDR_HI -/
def PF1_MSIX_ADDR_HI (i : Nat) : Fld := ⟨0x100F0004 + i * 0x10, 31, 0⟩
/-! PF1_MSIX_DATA -/
def PF1_MSIX_DATA (i : Nat) : Fld := ⟨0x100F0008 + i * 0x10, 31, 0⟩
/-! PF1_MSIX_CTL -/
def PF1_MSIX_CTL (i : Nat) : Fld := ⟨0x100F000C + i * 0x10, 0, 0⟩
/-! PF1_PBA -/
def PF1_PBA : Fld := ⟨0x100F8000, 31, 0⟩
/-! Packed fields -/
/-- PMU_DOM_STAT STATE of domain d: 0 SEC, 1 NET, 2 ING, 3 FAB, 4 MEM, 5 HST, 6 MGT. -/
def domState (d : Nat) : Fld := ⟨0x100020, 2 * d + 1, 2 * d⟩
/-- PMU_DOM_STAT WAKE_FAIL of domain d. -/
def domWakeFail (d : Nat) : Fld := ⟨0x100020, 16 + d, 16 + d⟩
/-- ROLE of tile j (18 R723): 0 UNUSED, 1 LIVE, 2 DRAINING, 3 READY_SPARE, 4 FAILED. -/
def tileRole (j : Nat) : Fld := ⟨0x180 + j / 8 * 4, j % 8 * 4 + 3, j % 8 * 4⟩
/-- One bit i of a bit-map register at offset a. -/
def bit (a i : Nat) : Fld := ⟨a + i / 32 * 4, i % 32, i % 32⟩

end Sys2Proof.Machine.F
end

