-- ==== Sys2Proof/Machine/State.lean ====
section
/-!
DEFINITION. Sys2Proof/Machine/State.lean: everything the spec gives the block, as plain data. Registers lie in one sparse
register file keyed by their BAR0 offset (an unlisted register holds its reset value, Machine/RegMap.lean); what the
chapters describe beside registers has a structure per block; the commands that wait stand in `pending`.
-/

namespace Sys2Proof.Machine

/-- Power domains (19 R729, 20). `clu` is the cluster domain CLUk of the tile or cluster the register belongs to. -/
inductive Dom where
  | ao | sec | net | ing | fab | mem | hst | mgt | clu
  deriving DecidableEq, Repr

/-- The agents that may write a register (00_scope R20 and each register's header line). -/
inductive Writers where
  | none | bench | benchTouchmark | touchmark | host | hostBench | hostBenchTouchmark
  deriving DecidableEq, Repr

/-- One row of the register map: an array of registers of one layout. -/
structure RegRow where
  name : String
  base : Nat
  dims : List (Nat × Nat)
  dom : Dom
  writers : Writers
  fields : List FRow
  deriving DecidableEq, Repr

/-- What the firmware Bench or Touchmark is told by an interrupt or report (each chapter names the event). -/
inductive Notice where
  | refclkLoss | portLost | ppcFault | ppcAbort | aldFailed | gpio | alarm | stall | fenceDone | fenceLate | tileHalt
  | dynIll | overdue | tsFault | assayAlarm | stuckPair | retention | watch | dvfsRefused | dvfsError | quench | warn
  | wakeFail | rasLog | ceStorm | linkDegraded | goldenBad | reload | shadowRefused | ladleFail | plan | spanDown
  | servoState | syncPoison | slotError | aerError | rowFailed | marginDone | pcieDown
  deriving DecidableEq, Repr

/-- Something that has left the block: on a pin, a link, the host's memory, or to the firmware. -/
inductive Out where
  /-- A frame has left fronthaul transmitter `port` (03). -/
  | frame (port : Nat) (bytes : List Byte)
  /-- A back-channel frame of Jexlink port `port` (04): type, sequence or tag, payload. -/
  | back (port kind : Nat) (payload : List Byte)
  /-- A frame on the RS-485 bus (05 R207). -/
  | rs485 (bytes : List Byte)
  /-- An MSI-X message of function `pf`, vector `vec` (19 R735). -/
  | msix (pf vec : Nat)
  /-- A DMA write into host memory (19 R740, R742). -/
  | dma (addr : Nat) (bytes : List Byte)
  /-- An interrupt or report to Bench. -/
  | bench (what : Notice) (index : Nat)
  /-- An interrupt or report to Touchmark. -/
  | touchmark (what : Notice) (index : Nat)
  /-- The word that a register read of `agent` returned: function 1 at 0x1000_0000 upwards; marked poisoned or not (16 R652). -/
  | read (agent : Agent) (off : Nat) (w : Word) (poisoned : Bool := false)
  /-- The completion of a host read of BAR4: offset, bytes, whether it is marked poisoned (19 R726). -/
  | bar4 (off : Nat) (bytes : List Byte) (poisoned : Bool)
  /-- A flit sent on span port `port` (08 R294). -/
  | span (port : Nat) (flit : List Byte)
  deriving DecidableEq, Repr

/-- The part (R9, R10): 192 tiles on a PHD6192, 128 on a PHD6128; production stepping B0. -/
structure Part where
  tiles : Nat := 192
  /-- Fitted LPDDR5X, coded as MEM_CFG.DENS (R585). -/
  dens : Nat := 2
  deriving DecidableEq, Repr

/-- Pins and the two conditions that hold the device in reset (00_scope R2, 23 R888). -/
structure Pins where
  /-- PORST_N is low. -/
  porst : Bool := true
  /-- The reset after a hardware thermal trip is in force (20 R792). -/
  trip : Bool := false
  /-- The PCIe link has trained. -/
  pcieUp : Bool := false
  /-- Levels on the 24 GPIO pins (05 R212). -/
  gpio : Nat := 0
  /-- Debounced levels of the 8 alarm pins (05 R212); the pull-ups hold open contacts high. -/
  alarm : Nat := 255
  deriving DecidableEq, Repr

/-! ### Time bases (02) -/

/-- A time source's sample of the running servo period and its history (02 R53 to R56, R78). -/
structure Source where
  /-- A θ was measured in this period. -/
  present : Bool := false
  /-- θ in Q24.8 ns, reference time minus site time. -/
  theta : Int := 0
  /-- The sample's weight, 0 to 255 (R54). -/
  weight : Nat := 0
  /-- Periods since a valid sample; 255 also means none yet. -/
  idle : Nat := 255
  /-- Consecutive periods with a valid sample (R56). -/
  run : Nat := 0
  deriving DecidableEq, Repr

/-- The map of one camera port from port time to site ticks (02 R62 to R66). -/
structure PortMap where
  /-- The first exchange has completed since the map started. -/
  started : Bool := false
  /-- P0, whole µs of port time. -/
  p0 : Nat := 0
  /-- O, Q48.16 ticks. -/
  o : Int := 0
  /-- R, Q8.24 ticks per µs. -/
  r : Nat := 0x7D000000
  /-- One-way delays of the last 64 exchanges, Q24.8 ticks, newest first. -/
  delays : List Int := []
  /-- Consecutive exchanges with |eps| at most 25 ticks. -/
  goodRun : Nat := 0
  /-- Consecutive exchanges with |eps| above 125 ticks. -/
  badRun : Nat := 0
  /-- The exchange in progress: sequence number and t1 (04 R162). -/
  outstanding : Option (Nat × Nat) := none
  /-- Sequence number of the next beacon. -/
  bseq : Nat := 0
  /-- TSB_PT_CFG as it stood at the last beacon (R82). -/
  cfg : Nat := 0x19044014
  deriving DecidableEq, Repr

/-- Site time, the servo and the epoch grid (02 R51 to R70). -/
structure TimeBase where
  /-- Seconds of site time, 48 bits. -/
  sec : Nat := 0
  /-- Nanoseconds of site time, below 10^9. -/
  ns : Nat := 0
  /-- The 40-bit fraction of a nanosecond. -/
  frac : Nat := 0
  /-- The residence timeline of 03 R102, which steps do not touch: 2^-40 ns units. -/
  resid : Nat := 0
  /-- The next boundary tick (R67, R70, R85). -/
  next : Nat := 31250
  /-- Start tick of the epoch in force. -/
  start : Nat := 0
  /-- (epoch number, start tick) of earlier epochs, newest first: what 06 R219 refers lagged events to. -/
  starts : List (Nat × Nat) := [(0, 0)]
  pps : Source := {}
  ptp : Source := {}
  ten : Source := {}
  /-- Path delay of the PTP sample kept this period (Q24.8 ns). -/
  ptpDelay : Int := 0
  /-- Consecutive ACQUIRE updates within LOCK_THR. -/
  lockRun : Nat := 0
  /-- Consecutive LOCKED updates beyond UNLOCK_THR. -/
  unlockRun : Nat := 0
  /-- The whole second that the last accepted PPS edge marked (R84). -/
  ppsSecond : Option Nat := none
  /-- Sum of the 10 MHz phases of this period, 250 ps units, their number, and whether an edge was missing. -/
  tenSum : Int := 0
  tenCount : Nat := 0
  tenMissing : Bool := false
  /-- The timing-output registers in force (a write takes effect at the next whole second). -/
  ppsOut : Nat := 0x6402
  ppsAdv : Nat := 0
  tenOut : Nat := 2
  /-- REFCLK25 is present (R83). -/
  refclk : Bool := true
  /-- Port maps 0 to 15. -/
  maps : List PortMap := List.replicate 16 {}
  deriving DecidableEq, Repr

/-! ### Fronthaul switch (03) -/

/-- An entry of the MAC table (03, Forwarding). -/
structure MacEntry where
  vid : Nat
  mac : Nat
  /-- Egress ports, one bit each. -/
  ports : Nat
  static : Bool
  fh : Bool
  /-- Time of the last refresh on the residence timeline: the entry's AGE. -/
  stamp : Nat
  deriving DecidableEq, Repr

/-- An entry of the VLAN table (NET_VLAN_DATA). -/
structure VlanEntry where
  member : Nat := 0
  untag : Nat := 0
  flood : Bool := false
  valid : Bool := false
  deriving DecidableEq, Repr

/-- A frame stored for an egress port (R101). -/
structure QFrame where
  port : Nat
  queue : Nat
  inPort : Nat
  /-- The frame from destination MAC to the byte before the FCS, as it leaves. -/
  data : List Byte
  /-- Ball-referred ingress stamp on the residence timeline, 2^-16 ns (R102). -/
  tIn : Int
  /-- NET_TC_CFG.MODE when the frame started ingress (03, NET_TC_CFG). -/
  tc : Nat
  /-- Bench sent it through port 8, and marked it ORIGIN (R114). -/
  origin : Bool := false
  fromBench : Bool := false
  /-- A cell of it holds an uncorrectable error (R134). -/
  poison : Bool := false
  deriving DecidableEq, Repr

/-- The switch beside its registers. -/
structure Switch where
  mac : List MacEntry := []
  vlan : List (Nat × VlanEntry) := []
  /-- Stored frames of every port and queue, oldest first. -/
  queue : List QFrame := []
  /-- Residence time (2^-16 ns) until which each port's transmitter is sending, and whether that frame cuts through. -/
  busyUntil : List Nat := List.replicate 10 0
  /-- Deficit counters of queues 0 to 6 of each port, and the round-robin pointer of each port. -/
  deficit : List (List Nat) := List.replicate 10 (List.replicate 7 0)
  pointer : List Nat := List.replicate 10 0
  /-- Pdelay_Req frames that wait for an answer: port, frame, ingress stamp (R105). -/
  pdelay : List (Nat × List Byte × Int) := []
  /-- Frames delivered to Bench through port 8 with their ingress site time in ns (R113), oldest first. -/
  toBench : List (List Byte × Nat) := []
  /-- Egress site times (ns) returned to Bench for event messages it sent (R113), oldest first. -/
  benchStamps : List Nat := []
  /-- Result frames that wait at port 9, oldest first (R122). -/
  results : List (List Byte) := []
  /-- Identification counter of each result template (R120). -/
  ident : List (Nat × Nat) := []
  deriving DecidableEq, Repr
/-! ### Events -/

/-- An event offered to a sprue gate: coordinates, polarity or graded value, time of origin in site ticks (06 R222). -/
structure Ev where
  x : Nat
  y : Nat
  /-- Polarity of a camera event. -/
  pol : Bool := false
  /-- Graded value of a radio event. -/
  value : Int := 0
  /-- Time of origin. -/
  t : Int
  poisoned : Bool := false
  deriving DecidableEq, Repr


/-! ### Jexlink and CSI-2 ports (04), port power (05) -/

/-- One Jexlink or CSI-2 port beside its registers. -/
structure JPort where
  /-- Running port time p, µs (04, Wire events). -/
  p : Nat := 0
  /-- SEQ expected next. -/
  seq : Nat := 0
  /-- Credits spent since ACTIVE, modulo 2^16 (R157). -/
  spent : Nat := 0
  /-- LIMIT as last sent. -/
  limit : Nat := 0
  /-- Consecutive good HELLO packets in TRAIN. -/
  hellos : Nat := 0
  /-- Returns to TRAIN since ACTIVE (R153). -/
  retries : Nat := 0
  /-- HEAD_DROP of the last KEEPALIVE. -/
  headDrop : Nat := 0
  /-- RESET_HEAD frames still to send (R152). -/
  resets : Nat := 0
  /-- A PWR_REQ has been granted and its step is not complete. -/
  granted : Bool := false
  /-- The port buffer, oldest entry first. -/
  buf : List Ev := []
  deriving DecidableEq, Repr

/-- What waits in a CSI-2 port's input FIFO, in order of arrival (R168, R171). -/
inductive CsiItem where
  | long (dt : Nat) (payload : List Byte)
  | frameStart (tfs : Int)
  | other
  deriving DecidableEq, Repr

/-- The CSI-2 side of ports 0 to 3: FIFO and format parser (04 R167 to R172). -/
structure CsiPort where
  tfs : Int := 0
  fifo : List CsiItem := []
  v : List Nat := List.replicate 8 0
  pc : Nat := 0
  /-- Bit pointer into the payload. -/
  ptr : Nat := 0
  payload : List Byte := []
  running : Bool := false
  /-- An EMIT waits for room in the port buffer (R172). -/
  stalled : Bool := false
  /-- Instructions since the last LD or SKIP. -/
  idle : Nat := 0
  deriving DecidableEq, Repr

/-- A power channel beside its registers (05). -/
structure Chan where
  /-- Detection points measured: voltage in mV, current in nA. -/
  points : List (Nat × Nat) := []
  /-- Where COOLDOWN leads: 0 OFF, 1 DETECT, 9 DENIED. -/
  exit : Nat := 0
  /-- A granted class request waits for STEP (R189). -/
  waiting : Bool := false
  /-- RETRY, HOLD_EN and channel 16's ILIM in force: taken at entry to DETECT, RAMP1 or STEP (R194). -/
  retry : Nat := 3
  holdEn : Bool := true
  lim16 : Nat := 500
  deriving DecidableEq, Repr

/-- One secondary address of the antenna line (05, Layer 2). -/
structure AldAddr where
  vs : Nat := 0
  vr : Nat := 0
  /-- I frames sent and not acknowledged: N(S), payload. -/
  unacked : List (Nat × List Byte) := []
  /-- Transmissions made of the oldest unacknowledged frame or poll. -/
  tries : Nat := 0
  /-- The unnumbered command that waits for its answer: 0 none, 1 SNRM, 2 DISC. -/
  asked : Nat := 0
  deriving DecidableEq, Repr

/-- A frame in the antenna line's transmit buffer. -/
structure AldFrame where
  entry : Nat
  /-- An I frame gets its N(S) and N(R) when it is sent. -/
  isI : Bool
  control : Nat
  payload : List Byte
  deriving DecidableEq, Repr

/-- The antenna-line port. -/
structure Ald where
  queue : List AldFrame := []
  addrs : List AldAddr := List.replicate 32 {}
  deriving DecidableEq, Repr
/-! ### Event words, sprue gates (06) -/

/-- An event word (R218, R221). -/
structure Evw where
  node : Nat
  target : Nat
  /-- Signed 8-bit VALUE. -/
  value : Int
  offset : Nat
  cls : Nat
  late : Bool := false
  merged : Bool := false
  poisoned : Bool := false
  /-- Payload of the second flit of a wide EVW. -/
  wide : Option Nat := none
  deriving DecidableEq, Repr

/-- What a gate hands to its ingress node: an EVW, or the mark that the gate's last EVW of an epoch is out (R235). -/
inductive GateItem where
  | evw (e : Evw)
  | mark (epoch : Nat)
  deriving DecidableEq, Repr

/-- An open merge entry (R232). -/
structure MergeEntry where
  x : Nat
  y : Nat
  /-- The mapped entries: the four words of each. -/
  maps : List (List Nat)
  sum : Int
  t0 : Int
  late : Bool
  joined : Bool := false
  /-- It holds an uncorrectable error (R245). -/
  poisoned : Bool := false
  deriving DecidableEq, Repr

/-- A sprue gate beside its registers. -/
structure Gate where
  merge : List MergeEntry := []
  /-- Run count of THIN. -/
  thin : Nat := 0
  ready : List GateItem := []
  /-- Entries of the active map with an uncorrectable error: they match nothing (R245). -/
  badMap : List Nat := []
  deriving DecidableEq, Repr

/-! ### Event fabric (08), fences (18) -/

/-- A counter operation or its reply, as it crosses CT (16 R623). -/
structure SyncFlit where
  op : Nat
  index : Nat
  tag : Nat := 0
  ret : Bool := false
  value : Nat := 0
  timeout : Nat := 0
  met : Bool := false
  ack : Bool := false
  deriving DecidableEq, Repr

/-- What an item on the mesh carries. -/
inductive Body where
  | evw (e : Evw)
  /-- An epoch-boundary flit (R290). -/
  | eb (epoch : Nat)
  /-- A fence on EV or CT (18 R689). -/
  | fence (epoch : Nat) (ct : Bool)
  /-- A span header and its EVW (R300): destination device. -/
  | remote (dev : Nat) (e : Evw)
  | sync (f : SyncFlit)
  deriving DecidableEq, Repr

/-- A flit, or a pair or group that the fabric never separates (R275), on its way. -/
structure Item where
  /-- Physical destination node. -/
  dst : Nat
  /-- Source node. -/
  src : Nat
  body : Body
  deriving DecidableEq, Repr

/-- Arbitration state of one output port (R276, R277). -/
structure OutPort where
  ptrEv : Nat := 0
  ptrCt : Nat := 0
  /-- Consecutive EV flits sent while a CT flit waited. -/
  evRun : Nat := 0
  deriving DecidableEq, Repr

/-- One span port (R294 to R301). -/
structure SpanPort where
  credits : Nat := 0
  /-- Items that wait for the transmitter, transit and EB flits included. -/
  tx : List Item := []
  deriving DecidableEq, Repr

/-- One link monitor: counts of the epoch in progress, and the setting in force. -/
structure LinkMon where
  node : Nat := 0
  port : Nat := 0
  vc : Nat := 0
  flits : Nat := 0
  stalls : Nat := 0
  deriving DecidableEq, Repr

/-- The event fabric beside its registers. -/
structure Fabric where
  /-- Receive buffers: key (router * 6 + input port) * 2 + channel; ports 0 N, 1 E, 2 S, 3 W, 4 local, 5 edge. -/
  bufs : List (Nat × List Item) := []
  /-- Output ports: key router * 6 + port. -/
  outs : List (Nat × OutPort) := []
  /-- What has reached a node's interface and is not yet taken: key is the node. -/
  rx : List (Nat × List Item) := []
  /-- Active copies of the boundary lists and EB_CFG: the register's offset. -/
  rt : List (Nat × Word) := []
  /-- A flip is due (R288). -/
  flipDue : Bool := false
  span : List SpanPort := List.replicate 2 {}
  /-- EB flits the SP nodes have received since their last emission, and the EPOCH of the last. -/
  spEb : List (Nat × Nat) := [(0, 0), (0, 0)]
  /-- Round robin of each ingress node over its gates, and the marks each has taken (R223, R235). -/
  inPtr : List Nat := List.replicate 8 0
  lmon : List LinkMon := List.replicate 8 {}
  /-- EVWs and EB flits in Bench's management sink. -/
  sink : List Item := []
  /-- NRT entries with an uncorrectable error (R311): index, or 208 + index for the inactive copy. -/
  badNrt : List Nat := []
  deriving DecidableEq, Repr


/-! ### Events, the spectral encoder (07) -/

/-- A mirrored U-plane section in the section FIFO (07 R248, R249). -/
structure Section where
  flow : Nat
  eaxc : Nat
  /-- Ingress site time, ns. -/
  arrival : Nat
  frame : Nat
  subframe : Nat
  slot : Nat
  symbol : Nat
  meth : Nat
  iqw : Nat
  rb : Bool
  startPrb : Nat
  count : Nat
  /-- Bytes it occupies in the FIFO. -/
  bytes : Nat
  data : List Byte
  /-- R251 discards it. -/
  bad : Bool
  /-- An uncorrectable error lies in it (R270). -/
  poison : Bool := false
  deriving DecidableEq, Repr

/-- The configuration of a flow under which a symbol is gathered (R267). -/
structure FlowCfg where
  mu : Nat
  gs : Nat
  ngrp : Nat
  base : Nat
  thr : Nat
  floorN : Nat
  floorBase : Nat
  deriving DecidableEq, Repr

/-- An open or closed symbol (R253 to R257). -/
structure Sym where
  t : Int
  cfg : FlowCfg
  /-- Count of the configuration changes that reset the groups (R267). -/
  gen : Nat
  /-- Energy per group. -/
  energy : List (Nat × Nat) := []
  /-- Per group, which of its PRBs have arrived, one bit each. -/
  got : List (Nat × Nat) := []
  /-- Tick at which the last section joined. -/
  lastJoin : Int
  poisoned : List Nat := []
  deriving DecidableEq, Repr

/-- One flow of the encoder. -/
structure Flow where
  /-- Open symbols, older first. -/
  opens : List Sym := []
  /-- Closed symbols that wait to be processed, oldest first. -/
  closed : List Sym := []
  /-- Time of origin of the most recently closed symbol. -/
  lastClosed : Option Int := none
  /-- Reference level R_g of each group that has one; a group not listed is in INIT. -/
  refs : List (Nat × Int) := []
  /-- The configuration change count of the flow, and the one the references belong to. -/
  gen : Nat := 0
  refGen : Nat := 0
  /-- Event queue. -/
  evq : List Ev := []
  /-- Groups whose state holds an uncorrectable error (R270). -/
  badGroups : List Nat := []
  deriving DecidableEq, Repr

/-- The encoder beside its registers. -/
structure Encoder where
  fifo : List Section := []
  /-- Flow at which the engines' round robin stands. -/
  next : Nat := 0
  /-- PRB-symbols processed in this epoch. -/
  prbs : Nat := 0
  flows : List Flow := List.replicate 16 {}
  deriving DecidableEq, Repr
/-! ### The tile: sequencer (09, 10), vector registers (14) -/

/-- An outstanding result (R326). -/
structure SbEntry where
  tag : Nat
  /-- Destination register code. -/
  dst : Nat
  /-- The result of a multiply or divide; a sync result arrives by reply. -/
  value : Option Word := none
  isDiv : Bool := false
  isWait : Bool := false
  deriving DecidableEq, Repr

/-- An operation in the tile's sync queue (R397). -/
structure SyncReq where
  handle : Nat
  op : Nat
  value : Nat
  timeout : Nat := 0
  ret : Bool := false
  tag : Nat := 0
  deriving DecidableEq, Repr

/-- A send that waits for the tile's interface (R403). -/
inductive Send where
  | list (l idx : Nat) (value : Int) (offset cls : Nat) (late merged : Bool) (wide : Option Nat)
  | marker (epoch : Nat)
  /-- A firing output: its OFFSET and late flag are set when the interface forms it (R450). -/
  | fire (l idx : Nat) (value : Int) (t : Int) (back : Nat)
  deriving DecidableEq, Repr

/-- A branch whose delay slot is next (R331). -/
structure Delay where
  /-- Where execution continues if it is taken. -/
  target : Option Nat
  /-- The branch's own address. -/
  branch : Nat
  /-- Codes of the registers it reads. -/
  reads : List Nat
  deriving DecidableEq, Repr

/-- The architectural state of a sequencer (R315), its scoreboard and queues. -/
structure Seq where
  g : List Word := List.replicate 32 0
  /-- p0 to p7; p0 reads 1 whatever stands here. -/
  p : List Bool := List.replicate 8 false
  lc : List Nat := [0, 0, 0]
  la : List Nat := [0, 0, 0]
  le : List Nat := [0, 0, 0]
  pc : Nat := 0
  mode : Nat := 0
  mprog : Word := 0
  epc : Word := 0
  estat : Word := 0
  ebad : Word := 0
  imask : Nat := 0
  imodHit : Bool := false
  loopbr : Bool := false
  haltPend : Bool := false
  ipEpoch : Bool := false
  ipWait : Bool := false
  ipSoft : Bool := false
  /-- The tile's EPOCH register (R319). -/
  epoch : Nat := 0
  /-- The half latched by a read of TICK.L (R318). -/
  tickHigh : Option Nat := none
  /-- A MODE value that waits for its shadow, and the shadow instructions still to retire (R339). -/
  pending : Option (Nat × Nat) := none
  delay : Option Delay := none
  sb : List SbEntry := []
  /-- Tag of the next scoreboard entry. -/
  tag : Nat := 0
  syncq : List SyncReq := []
  sendq : List Send := []
  /-- Sync operations and mailbox writes issued and not yet acknowledged (R393). -/
  unacked : Nat := 0
  /-- t0 to t7, 512 bytes each. -/
  t : List (List Byte) := List.replicate 8 (List.replicate 512 0)
  /-- m0 to m3, 256 bits each. -/
  m : List Nat := [0, 0, 0, 0]
  /-- Tile-register words with a parity error: EBAD addresses (R579). -/
  badReg : List Nat := []
  /-- Instruction breakpoints set through the debug access (22). -/
  breaks : List Nat := []
  /-- The frame stage (R416). -/
  stage : List Byte := []
  /-- The turn of the interface: a neuron-engine send is taken next (R403). -/
  neTurn : Bool := false
  /-- The HOLD wait of a TMOV to a mailbox: tick at which it began, slot, address of the TMOV (R639, R917). -/
  hold : Option (Nat × Nat × Nat) := none
  deriving DecidableEq, Repr

/-! ### Neuron engine (11) -/

/-- An input in the engine's queue: the EVW and its time of origin (R438). -/
structure NeIn where
  evw : Evw
  t : Int
  deriving DecidableEq, Repr

/-- A reset pass over a region (R454, R469). -/
structure ResetPass where
  region : Nat
  /-- VALUE of its notice: 1 overdue, 2 too many poisoned lines. -/
  kind : Nat
  deriving DecidableEq, Repr

/-- The neuron engine beside its registers. -/
structure Neuron where
  queue : List NeIn := []
  /-- Outputs and notices that wait for the interface (R916). -/
  outq : List Send := []
  /-- Sweep pass: running, region and record it stands at, the tick at which it started. -/
  sweeping : Bool := false
  region : Nat := 0
  pos : Nat := 0
  passStart : Nat := 0
  resets : List ResetPass := []
  /-- Horizon of each ring set: lowest slot number not drained. -/
  horizon : List Nat := [0, 0, 0, 0]
  /-- Where the DLYX DRAIN in progress began in each ring set: slots from here to the horizon are being drained (R466). -/
  drainFrom : List Nat := [0, 0, 0, 0]
  /-- Lines of neuron state found poisoned in this epoch (offset / 8), oldest first. -/
  badLines : List Nat := []
  /-- Words of dynamics memory (0-63) and decay tables (64 + word) with an uncorrectable error (R470). -/
  badWords : List Nat := []
  /-- Firings in the assay window in progress (13 R528). -/
  firedWin : Nat := 0
  deriving DecidableEq, Repr

/-! ### CIM arrays (12), calibration and assay (13) -/

/-- The state of a bank (R490). -/
inductive BankState where
  | invalid | programming | valid
  deriving DecidableEq, Repr

/-- A bank (R475, R494): cells, seal, substitution table, stored calibration. -/
structure Bank where
  /-- Signed slice of each pair: key row * 268 + pair; an unlisted pair holds 0. -/
  cells : List (Nat × Int) := []
  /-- Rows and spare pairs whose levels are unspecified (R505, R550): row or pair, and first index of their free values. -/
  unspec : List (Nat × Nat) := []
  unspecPairs : List (Nat × Nat) := []
  state : BankState := .invalid
  /-- The seal's tag while it is intact. -/
  tag : Option Nat := none
  count : Nat := 0
  /-- Failed pairs (R496). -/
  failed : List Nat := []
  /-- Substitution table: PAIR and STATE (0 FREE, 1 PROGRAMMING, 2 ACTIVE, 3 FAILED) of spares 0 to 7 (R538). -/
  subst : List (Nat × Nat) := List.replicate 8 (0, 0)
  /-- Stored calibration: gain (2^-48), offset (2^-36), CONVERGED, second of the last accepted window (R521). -/
  gamma : Int := 0
  beta : Int := 0
  conv : Bool := false
  stamp : Nat := 0
  /-- The bank reached REFRESH_AGE or 90 days and has not been programmed since (R533). -/
  due : Bool := false
  expired : Bool := false
  deriving DecidableEq, Repr

/-- A calibration window in progress (R515). -/
structure Window where
  /-- CIM_CAL_PAR, _LIM and _TOL in force for the window (R549). -/
  par : Nat := 0
  lim : Nat := 0
  tol : Nat := 0
  n : Nat := 0
  sumN : Nat := 0
  /-- Sums of r264 - r265, r266 and |r267| in units of 2^-2. -/
  gain : Int := 0
  offs : Int := 0
  lin : Int := 0
  deriving DecidableEq, Repr

/-- A row in program: its number and the image latched from its buffer (R495). -/
structure RowJob where
  row : Nat
  image : List Byte
  deriving DecidableEq, Repr

/-- One array. -/
structure CimArray where
  /-- Compute bank: false A, true B. -/
  cb : Bool := false
  a : Bank := {}
  b : Bank := {}
  /-- The program session's rows: written, and the row in program. -/
  session : Bool := false
  busy : Option RowJob := none
  /-- The row that waits for a slot, and its buffer. -/
  queued : Option (Nat × Nat) := none
  /-- Clipped codes and data codes of the assay window, and its histogram (R527, R528). -/
  hist : List Nat := List.replicate 16 0
  clips : Nat := 0
  codes : Nat := 0
  win : Window := {}
  /-- The estimates in use: gain in 2^-48, offset in 2^-36 weight units (R515); the registers show them rounded. -/
  gamma : Int := 0
  beta : Int := 0
  goodRun : Nat := 0
  badRun : Nat := 0
  /-- Conversions in the second in progress (R524). -/
  convSec : Nat := 0
  /-- Burst conversions still to do (R525), its LFSR, and whether the slot of this epoch has had its burst. -/
  burst : Nat := 0
  lfsr : Nat := 0
  burstDone : Bool := false
  /-- Per data pair: last code, its run length, and whether the run has a conversion in band 3 or above (R531). -/
  stuck : List (Nat × Int × Nat × Bool) := []
  /-- A spare program in progress: bank B?, spare, pair (R540). -/
  spare : Option (Bool × Nat × Nat) := none
  /-- A margin scan in progress: bank B? (R534). -/
  scan : Option Bool := none
  /-- Consecutive assay windows in which the array's comparisons failed (R529). -/
  viols : Nat := 0
  deriving DecidableEq, Repr

/-- The four arrays and accumulator sets of a tile. -/
structure Cim where
  arrays : List CimArray := List.replicate 4 {}
  /-- Accumulators: key set * 256 + entry. -/
  acc : List (Nat × Word) := []
  /-- Accumulator entries with a parity error (R508). -/
  badAcc : List Nat := []
  fireViols : Nat := 0
  /-- The assay registers in force (R549): offset in the tile window and word. -/
  assay : List (Nat × Word) := []
  deriving DecidableEq, Repr

/-- A tile. -/
structure Tile where
  /-- The data space of R320: tile data memory, neuron state, delay rings. -/
  mem : Mem := []
  /-- 64-bit lines of it with an uncorrectable error (address / 8). -/
  poison : List Nat := []
  /-- Instruction memory. -/
  imem : Mem := []
  /-- Lines of it with an uncorrectable error. -/
  ipoison : List Nat := []
  seq : Seq := {}
  ne : Neuron := {}
  cim : Cim := {}
  deriving DecidableEq, Repr

/-! ### Memories and the Ladle (15) -/

/-- The memories outside the tiles. -/
structure Memories where
  /-- LPDDR5X data, and its 64-bit words with an uncorrectable error (address / 8). -/
  lp : Mem := []
  lpBad : List Nat := []
  /-- The shared pool, and its poisoned words. -/
  pool : Mem := []
  poolBad : List Nat := []
  deriving DecidableEq, Repr

/-- Where a transfer stands (R596, R599, R600). -/
inductive XPhase where
  /-- It runs to its destination. -/
  | direct
  /-- It runs into staging; its decision has not arrived. -/
  | staging
  /-- Its bytes stand in staging, undecided. -/
  | staged
  /-- It was decided for while it ran into staging. -/
  | chosen
  /-- Its staged bytes are being committed. -/
  | commit
  /-- It was decided against while it ran into staging: squashed when it arrives. -/
  | doomed
  deriving DecidableEq, Repr

/-- A transfer in a slot. -/
structure Xfer where
  /-- Descriptor index and target epoch. -/
  idx : Nat
  target : Nat
  /-- The eight words of the descriptor (R591). -/
  desc : List Nat
  phase : XPhase := .direct
  /-- The 4 KiB units of staging space that it holds, in order. -/
  stg : List Nat := []
  /-- The WAIT gate is open. -/
  gate : Bool := false
  /-- It has been counted in LATE. -/
  late : Bool := false
  deriving DecidableEq, Repr

/-- The Ladle beside its registers. -/
structure Ladle where
  /-- Issue pointer: target epoch and place in its segment. -/
  target : Nat := 0
  pos : Nat := 0
  /-- The descriptor at the pointer has been counted in SLOT_FULL or STG_FULL (R595). -/
  stopped : Bool := false
  xfers : List Xfer := []
  /-- Decisions: point, target epoch, variant. -/
  decided : List (Nat × Nat × Nat) := []
  deriving DecidableEq, Repr

/-! ### Sync counters and mailboxes (16) -/

/-- A registered wait (R625). -/
structure Wait where
  /-- Key of the counter. -/
  key : Nat
  /-- Waiting node and its tag. -/
  src : Nat
  tag : Nat
  thr : Nat
  deadline : Nat
  deriving DecidableEq, Repr

/-- The on-chip header of a mailbox slot (R634). -/
structure Slot where
  seq : Nat := 0
  ready : Bool := false
  overrun : Bool := false
  len : Nat := 0
  epoch : Nat := 0
  ack : Nat := 0
  /-- SYNC_MB_CFG of the result in progress (R651). -/
  cfg : Nat := 0
  /-- A result was lost since the last READY result (R639). -/
  lost : Bool := false
  /-- A result is being written: the tile and its length (R636). -/
  writer : Option (Nat × Nat) := none
  /-- The writer's payload is complete; its header write is due. -/
  tail : Bool := false
  /-- A later result of the slot that the home holds (R917): tile, length, payload so far. -/
  held : Option (Nat × Nat × List Byte) := none
  /-- The held result's payload is complete. -/
  heldTail : Bool := false
  deriving DecidableEq, Repr

/-- The counters' homes. Keys: global counter k is k; local counter l of tile n is 0x1_0000 + n * 512 + l. -/
structure Sync where
  ctr : List (Nat × Nat) := []
  poison : List Nat := []
  waits : List Wait := []
  /-- Slot headers that differ from a free slot's. -/
  slots : List (Nat × Slot) := []
  /-- Window writes of host and Bench on their way to the home: key, operation (0 SET, 1 ADD), value. -/
  window : List (Nat × Nat × Nat) := []
  /-- Changes of global counters that decide or gate transfers, with the new value, not yet reported to the Ladle (R630). -/
  changed : List (Nat × Nat) := []
  deriving DecidableEq, Repr


/-! ### Bench: plans and procedures (17, 18) -/

/-- A section of a plan image (R658). -/
structure Sect where
  /-- Its index in the section table. -/
  ix : Nat
  ty : Nat
  target : Nat
  data : List Byte
  deriving DecidableEq, Repr

/-- A plan: the header fields Bench uses, and its sections (R657, R659). Of the plan that runs, the sections are what the
golden region holds (R675, R687). -/
structure Plan where
  abiMajor : Nat := 0
  abiMinor : Nat := 0
  tileLocal : Bool := false
  id : Nat := 0
  epochLen : Nat := 31250
  declLat : Nat := 0
  /-- Lowest operating point of clusters 0 to 11. -/
  oppMin : List Nat := []
  ctShare : Nat := 16
  originSec : Bool := false
  /-- Golden region, MiB. -/
  golden : Nat := 0
  /-- Digest of the trailer (R868). -/
  digest : List Byte := []
  sects : List Sect := []
  deriving DecidableEq, Repr

/-- What a bank is programmed for. -/
inductive PgmWhy where
  | load | move | update | refresh
  deriving DecidableEq, Repr

/-- A bank that Bench is programming from a weight image (R494, R660). -/
structure PgmTask where
  tile : Nat
  array : Nat
  /-- The next row to ask for. -/
  next : Nat := 0
  tag : Nat
  /-- 512 rows of 256 slices. -/
  image : List Byte
  why : PgmWhy
  deriving DecidableEq, Repr

/-- A logical tile of a TILE_MOVE or TILE_RELOAD. -/
structure Move where
  logical : Nat
  /-- The physical tile it leaves, and the one it goes to. -/
  old : Nat
  spare : Nat
  resume : Nat
  deriving DecidableEq, Repr

/-- The long command or procedure in progress (R685, R739). -/
structure Job where
  /-- OPCODE and CID of the command. -/
  op : Nat
  cid : Nat
  step : Nat := 1
  /-- Epoch number of the boundary that the step waits for: S, B or C. -/
  due : Nat := 0
  moves : List Move := []
  recover : Nat := 4
  /-- PORT_CYCLE: KIND and port. -/
  kind : Nat := 0
  port : Nat := 0
  /-- CIM_UPDATE: sections of the update area. -/
  sects : List Sect := []
  /-- A replacement without a gap (R705). -/
  seamless : Bool := false
  /-- What step 1 waits for: 0 clusters, 1 weights, 2 the chosen boundary. -/
  phase : Nat := 0
  /-- Physical tiles of the plan that a replacement ends. -/
  tiles : List Nat := []
  /-- The host sent the command, and is owed a completion. -/
  host : Bool := true
  deriving DecidableEq, Repr

/-- What the firmware Bench holds. -/
structure Bench where
  /-- The plan that runs or is loaded, and the one being loaded. -/
  plan : Option Plan := none
  next : Option Plan := none
  job : Option Job := none
  tasks : List PgmTask := []
  /-- Plan-ABI entries of the running Bench image: major, highest minor (22 R850). -/
  abi : List (Nat × Nat) := []
  /-- The first declared link record that the monitors stand at (R681). -/
  lmon : Nat := 0
  /-- An uncorrectable error in management memory has stopped Bench (21 R822). -/
  stopped : Bool := false
  /-- Bench-mailbox requests in progress, oldest first, and whether the response is still wanted (19 R745, R752). -/
  reqs : List (List Byte × Bool) := []
  deriving DecidableEq, Repr

/-- A notification that Bench owes the host (19 R742). -/
structure Note where
  source : Nat
  index : Nat
  data : Nat
  epoch : Nat
  deriving DecidableEq, Repr

/-- A completion that Bench owes the host (19 R740). -/
structure Done where
  cid : Nat
  op : Nat
  result : Nat
  detail : Nat := 0
  deriving DecidableEq, Repr

/-- Host-interface state beside the registers (19): what Bench owes, and the rings' phases. -/
structure HostIf where
  /-- Notifications recorded by Bench and not yet written, oldest first. -/
  notes : List Note := []
  /-- Completions of ended commands, not yet written, oldest first. -/
  done : List Done := []
  /-- The expected PHASE of the completion and notification rings. -/
  cplPhase : Bool := true
  ntfPhase : Bool := true
  /-- Notifications lost since the ring last had room (R743). -/
  lost : Nat := 0
  deriving DecidableEq, Repr
/-! ### Power (20) -/

/-- A wake or entry sequence of a domain or cluster in progress (20 R771). -/
structure DSeq where
  /-- It wakes; otherwise it enters. -/
  wake : Bool
  /-- An entry to RETAIN, or a wake from it. -/
  retain : Bool := false
  /-- The steps still to end, in their order: 0 REG, 1 OSC, 2 MEM, 3 LOGIC. -/
  steps : List Nat
  /-- The wake runs in HANDSHAKE mode (R773, R775). -/
  hs : Bool := false
  /-- The request that starts when the sequence ends (R776). -/
  pend : Option Nat := none
  deriving DecidableEq, Repr

/-- The clock of a cluster (20 R780 to R784). -/
structure CluClock where
  /-- The operating point it changes to. -/
  next : Option Nat := none
  /-- The write of OPP_REQ that starts when the change ends (R782). -/
  kept : Option Nat := none
  /-- Which of the two PLLs drives the cluster. -/
  pll : Bool := false
  deriving DecidableEq, Repr

/-- The PMU beside its registers. -/
structure Pmu where
  /-- Sequences in progress: domain 0 to 6 as in PMU_DOM_STAT, 7 + k cluster k. -/
  seqs : List (Nat × DSeq) := []
  /-- Target of the device transition in progress, coded as REQ (R763). -/
  dev : Option Nat := none
  /-- A device-wide entry has begun to power its domains off. -/
  devOff : Bool := false
  clocks : List CluClock := List.replicate 12 {}
  /-- Consecutive samples with Tj above 115 °C (R788). -/
  hot : Nat := 0
  /-- Phase of the AO tick, in 10^-9 ticks. -/
  aoPhase : Nat := 0
  deriving DecidableEq, Repr

/-! ### Errors (21) -/

/-- What the RAS block and Bench keep beside the RAS registers. -/
structure Ras where
  /-- Entries in the log ring that Bench has not read (R825). -/
  unread : Nat := 0
  /-- Parity errors of the epoch per link: router * 6 + input port (R828). -/
  links : List (Nat × Nat) := []
  /-- Corrected errors of the second in progress per region (R827). -/
  ceSec : List Nat := List.replicate 19 0
  /-- Entries that errors took from the MAC and VLAN tables, until they are rewritten (R821). -/
  lostMac : List MacEntry := []
  lostVlan : List (Nat × VlanEntry) := []
  /-- Sections of the running plan whose golden image is unusable (R820): indices in the section table. -/
  badGolden : List Nat := []
  deriving DecidableEq, Repr


/-! ### Life cycle, flash and Touchmark (22) -/

/-- OTP fields that the chapters use (R841, R844, R845, R851, R862). -/
structure Otp where
  /-- LC: bits MAKER, OWNER, RETURN, SCRAP. -/
  lc : Nat := 3
  /-- SHA-384 of the owner's public key; `none` while the field is empty. -/
  ownerHash : Option (List Byte) := none
  /-- Revoke bits of maker keys 0 to 3. -/
  revoked : Nat := 0
  /-- SVN floors of KIND 1 to 4. -/
  floors : List Nat := [0, 0, 0, 0]
  eraseDone : Bool := false
  /-- The device identity key is destroyed (R845). -/
  idGone : Bool := false
  deriving DecidableEq, Repr

/-- An image in use: its slot or copy and its 256-byte header. -/
structure Image where
  slot : Nat
  hdr : List Byte
  deriving DecidableEq, Repr

/-- An open update (R866, R869). -/
structure Update where
  kind : Nat
  slot : Nat
  len : Nat
  /-- Bytes written so far. -/
  got : Nat := 0
  /-- The first 4 KiB, which SEC memory holds. -/
  held : List Byte := []
  deriving DecidableEq, Repr

/-- What the boot ROM and Touchmark hold beside the registers of SEC. -/
structure Touch where
  otp : Otp := {}
  /-- The xSPI NOR: unlisted bytes read 0xFF, as erased. -/
  flash : List (Nat × Byte) := []
  tm : Option Image := none
  nbr : Option Image := none
  bench : Option Image := none
  policy : Option Image := none
  /-- Body of the policy in use. -/
  policyBody : List Byte := []
  /-- Entries of the network boot record in use, kept for rewrites (R857). -/
  entries : List (Nat × Nat) := []
  /-- The running Touchmark's tested-pair list. -/
  tested : List Nat := []
  nonce : Option (List Byte) := none
  update : Option Update := none
  /-- Touchmark-mailbox requests in progress, oldest first, and whether the response is still wanted (19 R745, R752). -/
  reqs : List (List Byte × Bool) := []
  /-- The TRNG has failed its health tests (R880). -/
  trngBad : Bool := false
  deriving DecidableEq, Repr

/-! ### The machine -/

/-- The state of the block. -/
structure State where
  /-- The part: how many tiles it has (R9, R10). -/
  cfg : Part := {}
  /-- Pins and reset conditions (23, 00_scope R2 to R6). -/
  pins : Pins := {}
  /-- The register file: (BAR0 offset, word), unlisted registers at their reset value. -/
  regs : List (Nat × Word) := []
  /-- Site time, servo, epoch grid, port maps (02). -/
  tb : TimeBase := {}
  /-- Host interface (19). -/
  hst : HostIf := {}
  /-- Registers whose writes are staged, as they are in force (taps, gates, encoder flows): copied at the boundary (R130, R247, R267). -/
  act : List (Nat × Word) := []
  /-- Register fields whose writes wait for the next epoch boundary, oldest first (00_scope R21). -/
  late : List (Fld × Nat) := []
  /-- Fronthaul switch (03). -/
  sw : Switch := {}
  /-- Spectral encoder (07). -/
  see : Encoder := {}
  /-- Jexlink ports 0 to 15 (04). -/
  jxl : List JPort := List.replicate 16 {}
  /-- CSI-2 ports 0 to 3 (04). -/
  csi : List CsiPort := List.replicate 4 {}
  /-- Power channels 0 to 16 (05). -/
  ppc : List Chan := List.replicate 17 {}
  /-- Antenna-line port (05). -/
  ald : Ald := {}
  /-- Sprue gates 0 to 31 (06). -/
  gates : List Gate := List.replicate 32 {}
  /-- Event fabric (08). -/
  fab : Fabric := {}
  /-- Tiles 0 to 191 (09 to 14). -/
  tiles : List Tile := List.replicate 192 {}
  /-- Arrays with a row that waits for a program slot, in the order of their GO: tile, array (R497). -/
  cimq : List (Nat × Nat) := []
  /-- Sync counters and mailboxes (16). -/
  sync : Sync := {}
  /-- Bench's plans and procedures (17, 18). -/
  fw : Bench := {}
  /-- Power states, voltage and frequency (20). -/
  pmu : Pmu := {}
  /-- Life cycle, flash and Touchmark (22). -/
  touch : Touch := {}
  /-- Error detection (21). -/
  ras : Ras := {}
  /-- LPDDR5X and the shared pool (15). -/
  mem : Memories := {}
  /-- The Ladle (15). -/
  ladle : Ladle := {}
  /-- The model's own counter for the free values of Config (DEDUCED, log entry 3): not state of the spec. -/
  freeCtr : Nat := 0
  /-- What has left the block, newest first (DESIGN CHOICE, log entry 4): not state of the spec. -/
  out : List Out := []
  /-- The commands that wait, first in first out. -/
  pending : List Instr := []
  deriving DecidableEq, Repr

/-- Reasons for which a command can stop the machine. -/
inductive Fault where
  /-- Raised by no command of this model: every command the spec describes goes on. Safe. -/
  | neverRaised
  deriving DecidableEq, Repr

/-- Reasons for which a command has no meaning in this model. -/
inductive Refusal where
  /-- Raised by an arm of Dispatch whose command is not modelled yet. Safe: nothing can be proved of it. -/
  | notModelled (mnemonic : String)
  deriving DecidableEq, Repr

/-- The machine right after reset: PORST_N still low, every register and field at its reset value, no command waiting.
The boot begins with the command PORST_N_RELEASE (22 R854). (DESIGN CHOICE, log entries 1 and 15) -/
def State.reset : State := {}

end Sys2Proof.Machine
end

