-- ==== Sys2Proof/Machine/RegMap.lean ====
section
/-!
DEFINITION. Sys2Proof/Machine/RegMap.lean: the register map, one row per register of the spec: name, offset in PF0 BAR0
(PF1 BAR0 at key 0x1000_0000), array dimensions as (count, stride), power domain, agents that may write it (R20), and its
fields with type (R18) and reset value. Sources: the Registers sections of files 02 to 22 (R87, R138, R181, R217, R247,
R272, R314, R372, R474, R511, R554, R582, R619, R656, R684, R723, R760, R809, R840, R883).
-/

namespace Sys2Proof.Machine

/-- Registers of the Glb group. -/
def mapGlb0 : List RegRow :=
  [⟨"GLB_PART", 0x0, [], .sec, .none, [⟨31, 0, .ro, 0x6192⟩]⟩,
   ⟨"GLB_STEP", 0x4, [], .sec, .none, [⟨7, 0, .ro, 0xb0⟩]⟩,
   ⟨"GLB_BOOT", 0x8, [], .sec, .benchTouchmark, [⟨2, 0, .ro, 0⟩, ⟨3, 3, .ro, 0⟩, ⟨4, 4, .ro, 0⟩, ⟨6, 5, .ro, 0⟩, ⟨7, 7, .ro, 0⟩, ⟨15, 8, .ro, 0⟩]⟩,
   ⟨"GLB_LC", 0xC, [], .sec, .touchmark, [⟨2, 0, .ro, 0⟩, ⟨3, 3, .ro, 0⟩, ⟨4, 4, .ro, 0⟩, ⟨5, 5, .ro, 0⟩, ⟨6, 6, .ro, 0⟩, ⟨7, 7, .ro, 0⟩, ⟨12, 8, .ro, 0⟩, ⟨31, 16, .ro, 0⟩]⟩,
   ⟨"GLB_DEVID_LO", 0x10, [], .sec, .none, [⟨31, 0, .ro, 0⟩]⟩,
   ⟨"GLB_DEVID_HI", 0x14, [], .sec, .none, [⟨31, 0, .ro, 0⟩]⟩,
   ⟨"GLB_FW_SLOTS", 0x18, [], .sec, .touchmark, [⟨0, 0, .ro, 0⟩, ⟨1, 1, .ro, 0⟩, ⟨2, 2, .ro, 0⟩, ⟨6, 4, .ro, 0⟩, ⟨8, 8, .ro, 0⟩, ⟨10, 9, .ro, 0⟩]⟩,
   ⟨"GLB_FW_BENCH", 0x1C, [], .sec, .touchmark, [⟨7, 0, .ro, 0⟩, ⟨15, 8, .ro, 0⟩, ⟨16, 16, .ro, 0⟩, ⟨17, 17, .ro, 0⟩]⟩,
   ⟨"GLB_CIM_PGM", 0x20, [], .mgt, .bench, [⟨6, 0, .rw, 0x20⟩]⟩,
   ⟨"GLB_PLAN_STAT", 0x100, [], .mgt, .hostBench, [⟨2, 0, .ro, 0⟩, ⟨3, 3, .ro, 0⟩, ⟨4, 4, .w1c, 0⟩]⟩,
   ⟨"GLB_PLAN_REASON", 0x104, [], .mgt, .bench, [⟨7, 0, .ro, 0⟩, ⟨31, 16, .ro, 0⟩]⟩,
   ⟨"GLB_PLAN_ID_LO", 0x108, [], .mgt, .bench, [⟨31, 0, .ro, 0⟩]⟩,
   ⟨"GLB_PLAN_ID_HI", 0x10C, [], .mgt, .bench, [⟨31, 0, .ro, 0⟩]⟩,
   ⟨"GLB_PLAN_E0", 0x110, [], .mgt, .bench, [⟨31, 0, .ro, 0⟩]⟩,
   ⟨"GLB_PLAN_LAT", 0x114, [], .mgt, .bench, [⟨31, 0, .ro, 0⟩]⟩,
   ⟨"GLB_PLAN_ABI", 0x118, [], .mgt, .bench, [⟨15, 0, .ro, 0⟩, ⟨31, 16, .ro, 0⟩]⟩,
   ⟨"GLB_CHG_STAT", 0x140, [], .mgt, .bench, [⟨2, 0, .ro, 0⟩, ⟨7, 4, .ro, 0⟩, ⟨15, 8, .ro, 0⟩, ⟨16, 16, .ro, 0⟩]⟩,
   ⟨"GLB_CHG_SUSP", 0x144, [], .mgt, .bench, [⟨31, 0, .ro, 0⟩]⟩]

/-- Registers of the Glb group. -/
def mapGlb1 : List RegRow :=
  [⟨"GLB_TILE_ROLE", 0x180, [(24, 0x4)], .mgt, .bench, [⟨31, 0, .ro, 0⟩]⟩]

/-- Registers of the Glb group. -/
def mapGlb : List RegRow := mapGlb0 ++ mapGlb1

/-- Registers of the Pmu group. -/
def mapPmu0 : List RegRow :=
  [⟨"PMU_DEV_CTL", 0x100000, [], .ao, .hostBenchTouchmark, [⟨1, 0, .rw, 0⟩, ⟨5, 4, .ro, 0⟩, ⟨8, 8, .ro, 0⟩, ⟨9, 9, .w1c, 0⟩, ⟨10, 10, .ro, 0⟩]⟩,
   ⟨"PMU_DEV_CFG", 0x100004, [], .ao, .touchmark, [⟨0, 0, .rw, 0⟩, ⟨1, 1, .ro, 0⟩, ⟨2, 2, .ro, 0⟩]⟩,
   ⟨"PMU_WAKE_EN", 0x100008, [], .ao, .benchTouchmark, [⟨0, 0, .rw, 0⟩, ⟨1, 1, .rw, 0⟩, ⟨2, 2, .rw, 0⟩, ⟨3, 3, .rw, 0⟩]⟩,
   ⟨"PMU_WAKE_CAUSE", 0x10000C, [], .ao, .benchTouchmark, [⟨4, 0, .w1c, 0⟩]⟩,
   ⟨"PMU_AO_CNT_LO", 0x100010, [], .ao, .benchTouchmark, [⟨31, 0, .ro, 0⟩]⟩,
   ⟨"PMU_AO_CNT_HI", 0x100014, [], .ao, .benchTouchmark, [⟨15, 0, .ro, 0⟩]⟩,
   ⟨"PMU_AO_ALARM_LO", 0x100018, [], .ao, .benchTouchmark, [⟨31, 0, .rw, 0⟩]⟩,
   ⟨"PMU_AO_ALARM_HI", 0x10001C, [], .ao, .benchTouchmark, [⟨15, 0, .rw, 0⟩, ⟨31, 31, .rw, 0⟩]⟩,
   ⟨"PMU_DOM_STAT", 0x100020, [], .ao, .benchTouchmark, [⟨13, 0, .ro, 0⟩, ⟨22, 16, .w1c, 0⟩]⟩,
   ⟨"PMU_DOMCTL1", 0x100044, [], .ao, .benchTouchmark, [⟨0, 0, .rw, 0⟩, ⟨15, 8, .rw, 0x21⟩, ⟨19, 16, .rw, 0xa⟩, ⟨23, 20, .rw, 3⟩, ⟨27, 24, .rw, 0⟩, ⟨31, 28, .rw, 1⟩]⟩,
   ⟨"PMU_DOMCTL2", 0x100048, [], .ao, .benchTouchmark, [⟨0, 0, .rw, 0⟩, ⟨15, 8, .rw, 4⟩, ⟨19, 16, .rw, 0⟩, ⟨23, 20, .rw, 3⟩, ⟨27, 24, .rw, 0⟩, ⟨31, 28, .rw, 1⟩]⟩,
   ⟨"PMU_DOMCTL3", 0x10004C, [], .ao, .benchTouchmark, [⟨0, 0, .rw, 0⟩, ⟨15, 8, .rw, 4⟩, ⟨19, 16, .rw, 5⟩, ⟨23, 20, .rw, 6⟩, ⟨27, 24, .rw, 0⟩, ⟨31, 28, .rw, 1⟩]⟩,
   ⟨"PMU_DOMCTL4", 0x100050, [], .ao, .benchTouchmark, [⟨0, 0, .rw, 0⟩, ⟨15, 8, .rw, 4⟩, ⟨19, 16, .rw, 5⟩, ⟨23, 20, .rw, 2⟩, ⟨27, 24, .rw, 0⟩, ⟨31, 28, .rw, 1⟩]⟩,
   ⟨"PMU_DOMCTL5", 0x100054, [], .ao, .benchTouchmark, [⟨0, 0, .rw, 0⟩, ⟨15, 8, .rw, 4⟩, ⟨19, 16, .rw, 5⟩, ⟨23, 20, .rw, 2⟩, ⟨27, 24, .rw, 0⟩, ⟨31, 28, .rw, 1⟩]⟩,
   ⟨"PMU_DOMCTL6", 0x100058, [], .ao, .benchTouchmark, [⟨0, 0, .rw, 0⟩, ⟨15, 8, .rw, 4⟩, ⟨19, 16, .rw, 5⟩, ⟨23, 20, .rw, 4⟩, ⟨27, 24, .rw, 0⟩, ⟨31, 28, .rw, 1⟩]⟩,
   ⟨"PMU_DOMCTL7", 0x10005C, [], .ao, .benchTouchmark, [⟨0, 0, .rw, 0⟩, ⟨15, 8, .rw, 4⟩, ⟨19, 16, .rw, 5⟩, ⟨23, 20, .rw, 4⟩, ⟨27, 24, .rw, 1⟩, ⟨31, 28, .rw, 1⟩]⟩,
   ⟨"PMU_CLU", 0x100100, [(12, 0x4)], .ao, .benchTouchmark, [⟨1, 0, .rw, 0⟩, ⟨3, 2, .ro, 0⟩, ⟨5, 4, .rw, 0⟩, ⟨7, 6, .ro, 0⟩, ⟨9, 8, .rw, 0⟩, ⟨12, 12, .ro, 0⟩, ⟨13, 13, .w1c, 0⟩, ⟨14, 14, .w1c, 0⟩, ⟨15, 15, .ro, 0⟩]⟩,
   ⟨"PMU_NAP", 0x100140, [(12, 0x4)], .ao, .benchTouchmark, [⟨15, 0, .rw, 0⟩, ⟨31, 16, .ro, 0⟩]⟩]

/-- Registers of the Pmu group. -/
def mapPmu1 : List RegRow :=
  [⟨"PMU_DVFS_CFG", 0x100180, [], .ao, .benchTouchmark, [⟨3, 0, .rw, 0⟩, ⟨4, 4, .rw, 0⟩, ⟨12, 8, .rw, 5⟩, ⟨23, 16, .rw, 5⟩]⟩,
   ⟨"PMU_DVFS_STAT", 0x100184, [], .ao, .benchTouchmark, [⟨9, 0, .ro, 0x226⟩, ⟨25, 16, .ro, 0⟩, ⟨26, 26, .ro, 0⟩, ⟨27, 27, .w1c, 0⟩, ⟨28, 28, .w1c, 0⟩]⟩,
   ⟨"PMU_AVS_VSET", 0x100188, [], .ao, .benchTouchmark, [⟨9, 0, .rw, 0x226⟩]⟩,
   ⟨"PMU_FDIR", 0x10018C, [], .ao, .benchTouchmark, [⟨3, 0, .rw, 0⟩, ⟨5, 4, .rw, 0⟩, ⟨8, 8, .sc, 0⟩]⟩,
   ⟨"PMU_THERM_CFG", 0x1001C0, [], .ao, .benchTouchmark, [⟨7, 0, .rw, 0x69⟩, ⟨15, 8, .rw, 0x64⟩, ⟨16, 16, .rw, 0⟩]⟩,
   ⟨"PMU_THERM_STAT", 0x1001C4, [], .ao, .benchTouchmark, [⟨15, 0, .ro, 0⟩, ⟨19, 16, .ro, 0⟩, ⟨20, 20, .w1c, 0⟩]⟩,
   ⟨"PMU_TS", 0x1001E0, [(16, 0x4)], .ao, .benchTouchmark, [⟨15, 0, .ro, 0⟩, ⟨31, 31, .ro, 0⟩]⟩,
   ⟨"PMU_QUENCH", 0x100220, [], .ao, .benchTouchmark, [⟨0, 0, .ro, 0⟩, ⟨3, 1, .ro, 0⟩, ⟨4, 4, .sc, 0⟩, ⟨5, 5, .w1c, 0⟩, ⟨8, 8, .w1c, 0⟩, ⟨31, 16, .ro, 0⟩]⟩,
   ⟨"PMU_QCNT", 0x100224, [], .ao, .benchTouchmark, [⟨31, 0, .ro, 0⟩]⟩]

/-- Registers of the Pmu group. -/
def mapPmu : List RegRow := mapPmu0 ++ mapPmu1

/-- Registers of the Tsb group. -/
def mapTsb0 : List RegRow :=
  [⟨"TSB_CTL", 0x200000, [], .net, .benchTouchmark, [⟨0, 0, .rw, 0⟩, ⟨1, 1, .rw, 1⟩, ⟨2, 2, .rw, 0⟩]⟩,
   ⟨"TSB_STAT", 0x200004, [], .net, .bench, [⟨1, 0, .ro, 0⟩, ⟨3, 2, .ro, 0⟩, ⟨4, 4, .ro, 0⟩, ⟨5, 5, .ro, 0⟩, ⟨6, 6, .ro, 0⟩, ⟨7, 7, .ro, 0⟩, ⟨8, 8, .w1c, 0⟩, ⟨9, 9, .w1c, 0⟩, ⟨10, 10, .w1c, 0⟩]⟩,
   ⟨"TSB_SNAP_SEC_LO", 0x200010, [], .net, .none, [⟨31, 0, .ro, 0⟩]⟩,
   ⟨"TSB_SNAP_SEC_HI", 0x200014, [], .net, .none, [⟨15, 0, .ro, 0⟩]⟩,
   ⟨"TSB_SNAP_NS", 0x200018, [], .net, .none, [⟨29, 0, .ro, 0⟩]⟩,
   ⟨"TSB_SNAP_FRAC", 0x20001C, [], .net, .none, [⟨15, 0, .ro, 0⟩]⟩,
   ⟨"TSB_TICK_LO", 0x200020, [], .net, .none, [⟨31, 0, .ro, 0⟩]⟩,
   ⟨"TSB_TICK_HI", 0x200024, [], .net, .none, [⟨31, 0, .ro, 0⟩]⟩,
   ⟨"TSB_INCR_INIT_LO", 0x200030, [], .net, .benchTouchmark, [⟨31, 0, .rw, 0⟩]⟩,
   ⟨"TSB_INCR_INIT_HI", 0x200034, [], .net, .benchTouchmark, [⟨11, 0, .rw, 0x800⟩]⟩,
   ⟨"TSB_INCR_LO", 0x200038, [], .net, .none, [⟨31, 0, .ro, 0⟩]⟩,
   ⟨"TSB_INCR_HI", 0x20003C, [], .net, .none, [⟨11, 0, .ro, 0x800⟩]⟩,
   ⟨"TSB_STEP_SEC_LO", 0x200040, [], .net, .benchTouchmark, [⟨31, 0, .rw, 0⟩]⟩,
   ⟨"TSB_STEP_SEC_HI", 0x200044, [], .net, .benchTouchmark, [⟨15, 0, .rw, 0⟩]⟩,
   ⟨"TSB_STEP_NS", 0x200048, [], .net, .benchTouchmark, [⟨29, 0, .rw, 0⟩]⟩,
   ⟨"TSB_STEP_CTL", 0x20004C, [], .net, .benchTouchmark, [⟨0, 0, .sc, 0⟩, ⟨1, 1, .rw, 0⟩]⟩,
   ⟨"TSB_SRC_CTL", 0x200050, [], .net, .benchTouchmark, [⟨1, 0, .rw, 0⟩, ⟨3, 2, .rw, 0⟩, ⟨5, 4, .rw, 0⟩, ⟨15, 8, .rw, 3⟩, ⟨23, 16, .rw, 0x10⟩]⟩,
   ⟨"TSB_SERVO_CFG", 0x200054, [], .net, .benchTouchmark, [⟨3, 0, .rw, 4⟩, ⟨27, 8, .rw, 0x186a0⟩]⟩]

/-- Registers of the Tsb group. -/
def mapTsb1 : List RegRow :=
  [⟨"TSB_SERVO_KP", 0x200058, [], .net, .benchTouchmark, [⟨15, 0, .rw, 0x3000⟩]⟩,
   ⟨"TSB_SERVO_KI", 0x20005C, [], .net, .benchTouchmark, [⟨15, 0, .rw, 0x800⟩]⟩,
   ⟨"TSB_SERVO_INT", 0x200060, [], .net, .benchTouchmark, [⟨31, 0, .rw, 0⟩]⟩,
   ⟨"TSB_SERVO_ERR", 0x200064, [], .net, .benchTouchmark, [⟨31, 0, .ro, 0⟩]⟩,
   ⟨"TSB_LOCK_CFG", 0x200068, [], .net, .benchTouchmark, [⟨11, 0, .rw, 0x64⟩, ⟨23, 12, .rw, 0x1f4⟩, ⟨31, 24, .rw, 0x10⟩]⟩,
   ⟨"TSB_PPS_IN_CFG", 0x200070, [], .net, .benchTouchmark, [⟨0, 0, .rw, 0⟩, ⟨1, 1, .rw, 0⟩, ⟨31, 8, .rw, 0⟩]⟩,
   ⟨"TSB_PPS_CAP", 0x200074, [], .net, .none, [⟨29, 0, .ro, 0⟩]⟩,
   ⟨"TSB_PPS_BAD", 0x200078, [], .net, .none, [⟨15, 0, .ro, 0⟩]⟩,
   ⟨"TSB_PTP_OFS", 0x200080, [], .net, .bench, [⟨31, 0, .rw, 0⟩]⟩,
   ⟨"TSB_PTP_DLY", 0x200084, [], .net, .bench, [⟨31, 0, .rw, 0⟩]⟩,
   ⟨"TSB_PTP_PUSH", 0x200088, [], .net, .bench, [⟨7, 0, .wo, 0⟩]⟩,
   ⟨"TSB_PTP_CNT", 0x20008C, [], .net, .bench, [⟨15, 0, .ro, 0⟩]⟩,
   ⟨"TSB_TEN_CFG", 0x200090, [], .net, .benchTouchmark, [⟨0, 0, .rw, 0⟩, ⟨18, 8, .rw, 0⟩]⟩,
   ⟨"TSB_TEN_PH", 0x200094, [], .net, .none, [⟨15, 0, .ro, 0⟩]⟩,
   ⟨"TSB_PPS_OUT_CFG", 0x2000A0, [], .net, .benchTouchmark, [⟨0, 0, .rw, 0⟩, ⟨1, 1, .rw, 1⟩, ⟨17, 8, .rw, 0x64⟩]⟩,
   ⟨"TSB_PPS_OUT_ADV", 0x2000A4, [], .net, .benchTouchmark, [⟨23, 0, .rw, 0⟩]⟩,
   ⟨"TSB_TEN_OUT_CFG", 0x2000A8, [], .net, .benchTouchmark, [⟨0, 0, .rw, 0⟩, ⟨1, 1, .rw, 1⟩]⟩,
   ⟨"TSB_SYNCE_CTL", 0x2000B0, [(2, 0x4)], .net, .benchTouchmark, [⟨0, 0, .rw, 0⟩, ⟨3, 1, .rw, 0⟩, ⟨5, 4, .rw, 0⟩, ⟨6, 6, .rw, 1⟩, ⟨7, 7, .ro, 0⟩]⟩]

/-- Registers of the Tsb group. -/
def mapTsb2 : List RegRow :=
  [⟨"TSB_EPOCH_LEN", 0x2000C0, [], .net, .bench, [⟨19, 0, .rw, 0x7a12⟩]⟩,
   ⟨"TSB_EPOCH_ORIGIN_LO", 0x2000C4, [], .net, .bench, [⟨31, 0, .rw, 0⟩]⟩,
   ⟨"TSB_EPOCH_ORIGIN_HI", 0x2000C8, [], .net, .bench, [⟨31, 0, .rw, 0⟩]⟩,
   ⟨"TSB_EPOCH_NUM", 0x2000CC, [], .net, .bench, [⟨31, 0, .rw, 0⟩]⟩,
   ⟨"TSB_EPOCH_CTL", 0x2000D0, [], .net, .bench, [⟨0, 0, .rw, 0⟩, ⟨1, 1, .sc, 0⟩, ⟨2, 2, .w1c, 0⟩]⟩,
   ⟨"TSB_EPOCH_NEXT", 0x2000D4, [], .net, .bench, [⟨19, 0, .rw, 0x7a12⟩]⟩,
   ⟨"TSB_ORAN_ALPHA", 0x2000E0, [], .net, .bench, [⟨31, 0, .rw, 0⟩]⟩,
   ⟨"TSB_ORAN_BETA", 0x2000E4, [], .net, .bench, [⟨15, 0, .rw, 0⟩]⟩,
   ⟨"TSB_PT_CFG", 0x200100, [(16, 0x40)], .ing, .bench, [⟨0, 0, .rw, 0⟩, ⟨7, 1, .rw, 0xa⟩, ⟨15, 8, .rw, 0x40⟩, ⟨23, 16, .rw, 4⟩, ⟨31, 24, .rw, 0x19⟩]⟩,
   ⟨"TSB_PT_STAT", 0x200104, [(16, 0x40)], .ing, .none, [⟨1, 0, .ro, 0⟩, ⟨15, 8, .ro, 0⟩]⟩,
   ⟨"TSB_PT_OFS_LO", 0x200108, [(16, 0x40)], .ing, .none, [⟨31, 0, .ro, 0⟩]⟩,
   ⟨"TSB_PT_OFS_HI", 0x20010C, [(16, 0x40)], .ing, .none, [⟨31, 0, .ro, 0⟩]⟩,
   ⟨"TSB_PT_P0_LO", 0x200110, [(16, 0x40)], .ing, .none, [⟨31, 0, .ro, 0⟩]⟩,
   ⟨"TSB_PT_P0_HI", 0x200114, [(16, 0x40)], .ing, .none, [⟨15, 0, .ro, 0⟩]⟩,
   ⟨"TSB_PT_RATE", 0x200118, [(16, 0x40)], .ing, .none, [⟨31, 0, .ro, 0x7d000000⟩]⟩,
   ⟨"TSB_PT_ERR", 0x20011C, [(16, 0x40)], .ing, .none, [⟨31, 0, .ro, 0⟩]⟩,
   ⟨"TSB_PT_DLY", 0x200120, [(16, 0x40)], .ing, .none, [⟨31, 0, .ro, 0⟩]⟩,
   ⟨"TSB_PT_ASYM", 0x200124, [(16, 0x40)], .ing, .bench, [⟨31, 0, .rw, 0⟩]⟩]

/-- Registers of the Tsb group. -/
def mapTsb3 : List RegRow :=
  [⟨"TSB_PT_UNMAP", 0x200128, [(16, 0x40)], .ing, .none, [⟨31, 0, .ro, 0⟩]⟩,
   ⟨"TSB_PT_DISC", 0x20012C, [(16, 0x40)], .ing, .none, [⟨15, 0, .ro, 0⟩]⟩]

/-- Registers of the Tsb group. -/
def mapTsb : List RegRow := mapTsb0 ++ mapTsb1 ++ mapTsb2 ++ mapTsb3

/-- Registers of the Net group. -/
def mapNet0 : List RegRow :=
  [⟨"NET_GRP_CFG", 0x400000, [], .net, .benchTouchmark, [⟨0, 0, .rw, 0⟩, ⟨1, 1, .rw, 0⟩, ⟨2, 2, .w1c, 0⟩]⟩,
   ⟨"NET_FH_CFG", 0x400004, [], .net, .benchTouchmark, [⟨7, 0, .rw, 0xc0⟩]⟩,
   ⟨"NET_MAC_AGE", 0x400008, [], .net, .benchTouchmark, [⟨9, 0, .rw, 0x12c⟩]⟩,
   ⟨"NET_MAC_CMD", 0x400010, [], .net, .benchTouchmark, [⟨1, 0, .rw, 0⟩, ⟨7, 4, .rw, 0⟩, ⟨8, 8, .sc, 0⟩, ⟨9, 9, .w1c, 0⟩, ⟨10, 10, .w1c, 0⟩, ⟨31, 16, .rc, 0⟩]⟩,
   ⟨"NET_MAC_DATA0", 0x400014, [], .net, .benchTouchmark, [⟨31, 0, .rw, 0⟩]⟩,
   ⟨"NET_MAC_DATA1", 0x400018, [], .net, .benchTouchmark, [⟨15, 0, .rw, 0⟩, ⟨27, 16, .rw, 0⟩]⟩,
   ⟨"NET_MAC_DATA2", 0x40001C, [], .net, .benchTouchmark, [⟨8, 0, .rw, 0⟩, ⟨16, 16, .ro, 0⟩, ⟨17, 17, .rw, 0⟩, ⟨31, 31, .ro, 0⟩]⟩,
   ⟨"NET_VLAN_CMD", 0x400020, [], .net, .benchTouchmark, [⟨11, 0, .rw, 0⟩, ⟨12, 12, .sc, 0⟩, ⟨13, 13, .sc, 0⟩]⟩,
   ⟨"NET_VLAN_DATA", 0x400024, [], .net, .benchTouchmark, [⟨9, 0, .rw, 0⟩, ⟨18, 10, .rw, 0⟩, ⟨24, 24, .rw, 0⟩, ⟨31, 31, .rw, 0⟩]⟩,
   ⟨"NET_TC_CFG", 0x400030, [], .net, .benchTouchmark, [⟨1, 0, .rw, 0⟩, ⟨2, 2, .rw, 1⟩, ⟨3, 3, .rw, 1⟩]⟩,
   ⟨"NET_TC_ID_LO", 0x400034, [], .net, .benchTouchmark, [⟨31, 0, .rw, 0⟩]⟩,
   ⟨"NET_TC_ID_HI", 0x400038, [], .net, .benchTouchmark, [⟨31, 0, .rw, 0⟩]⟩,
   ⟨"NET_TC_OVF", 0x40003C, [], .net, .benchTouchmark, [⟨31, 0, .rc, 0⟩]⟩,
   ⟨"NET_TC_SKIP", 0x400040, [], .net, .benchTouchmark, [⟨31, 0, .rc, 0⟩]⟩,
   ⟨"NET_P_CFG", 0x400100, [(8, 0x80)], .net, .benchTouchmark, [⟨0, 0, .rw, 0⟩, ⟨1, 1, .rw, 0⟩, ⟨2, 2, .rw, 0⟩, ⟨3, 3, .rw, 1⟩, ⟨15, 4, .rw, 1⟩, ⟨18, 16, .rw, 0⟩]⟩,
   ⟨"NET_P_STAT", 0x400104, [(8, 0x80)], .net, .benchTouchmark, [⟨0, 0, .ro, 0⟩, ⟨1, 1, .ro, 0⟩, ⟨2, 2, .ro, 0⟩, ⟨3, 3, .ro, 0⟩, ⟨4, 4, .ro, 1⟩]⟩,
   ⟨"NET_P_QMAP", 0x400108, [(10, 0x80)], .net, .benchTouchmark, [⟨23, 0, .rw, 0xdac688⟩]⟩,
   ⟨"NET_P_SCHED", 0x40010C, [(8, 0x80)], .net, .benchTouchmark, [⟨6, 0, .rw, 0⟩]⟩]

/-- Registers of the Net group. -/
def mapNet1 : List RegRow :=
  [⟨"NET_P_WEIGHT_LO", 0x400110, [(8, 0x80)], .net, .benchTouchmark, [⟨31, 0, .rw, 0x1010101⟩]⟩,
   ⟨"NET_P_WEIGHT_HI", 0x400114, [(8, 0x80)], .net, .benchTouchmark, [⟨23, 0, .rw, 0x10101⟩]⟩,
   ⟨"NET_P_BUF", 0x400118, [(8, 0x80)], .net, .benchTouchmark, [⟨14, 0, .rw, 0xc00⟩, ⟨30, 16, .rw, 0x40⟩]⟩,
   ⟨"NET_P_RX_OK", 0x400140, [(10, 0x80)], .net, .benchTouchmark, [⟨31, 0, .rc, 0⟩]⟩,
   ⟨"NET_P_RX_FCS", 0x400144, [(10, 0x80)], .net, .benchTouchmark, [⟨31, 0, .rc, 0⟩]⟩,
   ⟨"NET_P_TX_OK", 0x400148, [(10, 0x80)], .net, .benchTouchmark, [⟨31, 0, .rc, 0⟩]⟩,
   ⟨"NET_P_DROP_BUF", 0x40014C, [(10, 0x80)], .net, .benchTouchmark, [⟨31, 0, .rc, 0⟩]⟩,
   ⟨"NET_P_DROP_VLAN", 0x400150, [(10, 0x80)], .net, .benchTouchmark, [⟨31, 0, .rc, 0⟩]⟩,
   ⟨"NET_P_STOMP", 0x400154, [(10, 0x80)], .net, .benchTouchmark, [⟨31, 0, .rc, 0⟩]⟩,
   ⟨"NET_P_FLUSH", 0x400158, [(10, 0x80)], .net, .benchTouchmark, [⟨31, 0, .rc, 0⟩]⟩,
   ⟨"NET_P_RX_ADJ", 0x400160, [(8, 0x80)], .net, .benchTouchmark, [⟨31, 0, .rw, 0⟩]⟩,
   ⟨"NET_P_TX_ADJ", 0x400164, [(8, 0x80)], .net, .benchTouchmark, [⟨31, 0, .rw, 0⟩]⟩,
   ⟨"NET_P_ASYM", 0x400168, [(8, 0x80)], .net, .benchTouchmark, [⟨31, 0, .rw, 0⟩]⟩,
   ⟨"NET_P_LINKDLY", 0x40016C, [(8, 0x80)], .net, .benchTouchmark, [⟨31, 0, .rw, 0⟩]⟩,
   ⟨"NET_P_LAT_RX", 0x400170, [(8, 0x80)], .net, .benchTouchmark, [⟨31, 0, .ro, 0x3c80⟩]⟩,
   ⟨"NET_P_LAT_TX", 0x400174, [(8, 0x80)], .net, .benchTouchmark, [⟨31, 0, .ro, 0x2a80⟩]⟩,
   ⟨"NET_P_UNCAL", 0x400178, [(8, 0x80)], .net, .benchTouchmark, [⟨31, 0, .rc, 0⟩]⟩,
   ⟨"NET_P_PD_DROP", 0x40017C, [(8, 0x80)], .net, .benchTouchmark, [⟨15, 0, .rc, 0⟩]⟩]

/-- Registers of the Net group. -/
def mapNet2 : List RegRow :=
  [⟨"NET_P89_CFG", 0x400500, [(2, 0x80)], .net, .benchTouchmark, [⟨2, 2, .rw, 0⟩]⟩,
   ⟨"NET_TAP_CTL", 0x400A00, [(16, 0x40)], .net, .benchTouchmark, [⟨0, 0, .rw, 0⟩, ⟨2, 1, .rw, 0⟩, ⟨3, 3, .rw, 0⟩, ⟨11, 4, .rw, 0⟩, ⟨12, 12, .rw, 0⟩, ⟨16, 13, .rw, 0⟩, ⟨20, 17, .rw, 0⟩]⟩,
   ⟨"NET_TAP_DMAC_LO", 0x400A04, [(16, 0x40)], .net, .benchTouchmark, [⟨31, 0, .rw, 0⟩]⟩,
   ⟨"NET_TAP_DMAC_HI", 0x400A08, [(16, 0x40)], .net, .benchTouchmark, [⟨15, 0, .rw, 0⟩, ⟨27, 16, .rw, 0⟩]⟩,
   ⟨"NET_TAP_EAXC", 0x400A0C, [(16, 0x40)], .net, .benchTouchmark, [⟨15, 0, .rw, 0⟩, ⟨31, 16, .rw, 0⟩]⟩,
   ⟨"NET_TAP_MATCH", 0x400A10, [(16, 0x40)], .net, .benchTouchmark, [⟨31, 0, .rc, 0⟩]⟩,
   ⟨"NET_TAP_SECT", 0x400A14, [(16, 0x40)], .net, .benchTouchmark, [⟨31, 0, .rc, 0⟩]⟩,
   ⟨"NET_TAP_BADCOMP", 0x400A18, [(16, 0x40)], .net, .benchTouchmark, [⟨31, 0, .rc, 0⟩]⟩,
   ⟨"NET_TAP_SEE_FULL", 0x400A1C, [(16, 0x40)], .net, .benchTouchmark, [⟨31, 0, .rc, 0⟩]⟩,
   ⟨"NET_TAP_FCS_DISC", 0x400A20, [(16, 0x40)], .net, .benchTouchmark, [⟨31, 0, .rc, 0⟩]⟩,
   ⟨"NET_RF_CTL", 0x400E00, [], .net, .benchTouchmark, [⟨0, 0, .rw, 0⟩]⟩,
   ⟨"NET_RF_SENT", 0x400E04, [], .net, .benchTouchmark, [⟨31, 0, .rc, 0⟩]⟩,
   ⟨"NET_RF_DROP", 0x400E08, [], .net, .benchTouchmark, [⟨31, 0, .rc, 0⟩]⟩,
   ⟨"NET_RF_BAD", 0x400E0C, [], .net, .benchTouchmark, [⟨31, 0, .rc, 0⟩]⟩,
   ⟨"NET_TMPL", 0x401000, [(64, 0x80), (32, 0x4)], .net, .benchTouchmark, [⟨31, 0, .rw, 0⟩]⟩]

/-- Registers of the Net group. -/
def mapNet : List RegRow := mapNet0 ++ mapNet1 ++ mapNet2

/-- Registers of the Jxl group. -/
def mapJxl0 : List RegRow :=
  [⟨"JXL_P_CFG", 0x800000, [(16, 0x200)], .ing, .bench, [⟨0, 0, .rw, 0⟩, ⟨1, 1, .rwl, 0⟩, ⟨3, 2, .rw, 3⟩, ⟨5, 4, .rw, 3⟩]⟩,
   ⟨"JXL_P_STAT", 0x800004, [(16, 0x200)], .ing, .bench, [⟨2, 0, .ro, 0⟩, ⟨6, 3, .ro, 0⟩, ⟨8, 7, .ro, 0⟩, ⟨9, 9, .ro, 0⟩]⟩,
   ⟨"JXL_P_ID0", 0x800008, [(16, 0x200)], .ing, .bench, [⟨7, 0, .ro, 0⟩, ⟨31, 16, .ro, 0⟩]⟩,
   ⟨"JXL_P_ID1", 0x80000C, [(16, 0x200)], .ing, .bench, [⟨15, 0, .ro, 0⟩]⟩,
   ⟨"JXL_P_GEOM", 0x800010, [(16, 0x200)], .ing, .bench, [⟨10, 0, .ro, 0⟩, ⟨25, 16, .ro, 0⟩]⟩,
   ⟨"JXL_P_SERIAL_LO", 0x800014, [(16, 0x200)], .ing, .bench, [⟨31, 0, .ro, 0⟩]⟩,
   ⟨"JXL_P_SERIAL_HI", 0x800018, [(16, 0x200)], .ing, .bench, [⟨31, 0, .ro, 0⟩]⟩,
   ⟨"JXL_P_FLOW", 0x80001C, [(16, 0x200)], .ing, .bench, [⟨9, 0, .rw, 0x180⟩, ⟨25, 16, .rw, 0x100⟩, ⟨31, 31, .ro, 0⟩]⟩,
   ⟨"JXL_P_BUF", 0x800020, [(16, 0x200)], .ing, .bench, [⟨15, 0, .ro, 0⟩]⟩,
   ⟨"JXL_P_PKT_OK", 0x800040, [(16, 0x200)], .ing, .bench, [⟨31, 0, .rc, 0⟩]⟩,
   ⟨"JXL_P_CRC_ERR", 0x800044, [(16, 0x200)], .ing, .bench, [⟨31, 0, .rc, 0⟩]⟩,
   ⟨"JXL_P_SEQ_GAP", 0x800048, [(16, 0x200)], .ing, .bench, [⟨31, 0, .rc, 0⟩]⟩,
   ⟨"JXL_P_RESYNC_DROP", 0x80004C, [(16, 0x200)], .ing, .bench, [⟨31, 0, .rc, 0⟩]⟩,
   ⟨"JXL_P_CREDIT_VIOL", 0x800050, [(16, 0x200)], .ing, .bench, [⟨31, 0, .rc, 0⟩]⟩,
   ⟨"JXL_P_RANGE", 0x800054, [(16, 0x200)], .ing, .bench, [⟨31, 0, .rc, 0⟩]⟩,
   ⟨"JXL_P_ANCHOR_BACK", 0x800058, [(16, 0x200)], .ing, .bench, [⟨31, 0, .rc, 0⟩]⟩,
   ⟨"JXL_P_HEAD_DROP", 0x80005C, [(16, 0x200)], .ing, .bench, [⟨31, 0, .rc, 0⟩]⟩,
   ⟨"JXL_P_EV_IN", 0x800060, [(16, 0x200)], .ing, .bench, [⟨31, 0, .rc, 0⟩]⟩]

/-- Registers of the Jxl group. -/
def mapJxl1 : List RegRow :=
  [⟨"JXL_P_LOST_CNT", 0x800064, [(16, 0x200)], .ing, .bench, [⟨31, 0, .rc, 0⟩]⟩,
   ⟨"JXL_P_BUF_OVF", 0x800068, [(16, 0x200)], .ing, .bench, [⟨31, 0, .rc, 0⟩]⟩,
   ⟨"JXL_P_REQ", 0x800080, [(16, 0x200), (4, 0x10)], .ing, .bench, [⟨15, 0, .rw, 0⟩, ⟨16, 16, .rw, 0⟩, ⟨17, 17, .sc, 0⟩, ⟨18, 18, .ro, 0⟩, ⟨21, 20, .ro, 0⟩]⟩,
   ⟨"JXL_P_REQ_WDATA", 0x800084, [(16, 0x200), (4, 0x10)], .ing, .bench, [⟨31, 0, .rw, 0⟩]⟩,
   ⟨"JXL_P_REQ_RDATA", 0x800088, [(16, 0x200), (4, 0x10)], .ing, .bench, [⟨31, 0, .ro, 0⟩]⟩,
   ⟨"JXL_P_CSI_CFG", 0x8000C0, [(4, 0x200)], .ing, .bench, [⟨1, 0, .rwl, 0⟩, ⟨7, 4, .rwl, 0⟩, ⟨15, 8, .rwl, 0⟩, ⟨31, 16, .rwl, 0⟩]⟩,
   ⟨"JXL_P_CSI_ENTRY0", 0x8000C4, [(4, 0x200)], .ing, .bench, [⟨6, 0, .rwl, 0⟩, ⟨14, 8, .rwl, 0⟩, ⟨22, 16, .rwl, 0⟩, ⟨30, 24, .rwl, 0⟩]⟩,
   ⟨"JXL_P_CSI_ENTRY1", 0x8000C8, [(4, 0x200)], .ing, .bench, [⟨6, 0, .rwl, 0⟩, ⟨14, 8, .rwl, 0⟩, ⟨22, 16, .rwl, 0⟩, ⟨30, 24, .rwl, 0⟩]⟩,
   ⟨"JXL_P_CSI_STAT", 0x8000CC, [(4, 0x200)], .ing, .bench, [⟨0, 0, .ro, 0⟩]⟩,
   ⟨"JXL_P_CSI_ECC_CORR", 0x8000D0, [(4, 0x200)], .ing, .bench, [⟨31, 0, .rc, 0⟩]⟩,
   ⟨"JXL_P_CSI_HDR_BAD", 0x8000D4, [(4, 0x200)], .ing, .bench, [⟨31, 0, .rc, 0⟩]⟩,
   ⟨"JXL_P_CSI_CRC_ERR", 0x8000D8, [(4, 0x200)], .ing, .bench, [⟨31, 0, .rc, 0⟩]⟩,
   ⟨"JXL_P_CSI_DT_DISC", 0x8000DC, [(4, 0x200)], .ing, .bench, [⟨31, 0, .rc, 0⟩]⟩,
   ⟨"JXL_P_CSI_LONG", 0x8000E0, [(4, 0x200)], .ing, .bench, [⟨31, 0, .rc, 0⟩]⟩,
   ⟨"JXL_P_CSI_PARSE_OVF", 0x8000E4, [(4, 0x200)], .ing, .bench, [⟨31, 0, .rc, 0⟩]⟩,
   ⟨"JXL_P_CSI_WDOG", 0x8000E8, [(4, 0x200)], .ing, .bench, [⟨31, 0, .rc, 0⟩]⟩,
   ⟨"JXL_P_CSI_RANGE", 0x8000EC, [(4, 0x200)], .ing, .bench, [⟨31, 0, .rc, 0⟩]⟩,
   ⟨"JXL_UCODE", 0x808000, [(4, 0x200), (128, 0x4)], .ing, .bench, [⟨31, 0, .rwl, 0⟩]⟩]

/-- Registers of the Jxl group. -/
def mapJxl : List RegRow := mapJxl0 ++ mapJxl1

/-- Registers of the Ppc group. -/
def mapPpc : List RegRow :=
  [⟨"PPC_GLB_CFG", 0xA00000, [], .ing, .bench, [⟨9, 0, .rw, 0x140⟩, ⟨19, 16, .rw, 4⟩]⟩,
   ⟨"PPC_GLB_STAT", 0xA00004, [], .ing, .bench, [⟨9, 0, .ro, 0⟩]⟩,
   ⟨"PPC_CH_CTL", 0xA00100, [(17, 0x40)], .ing, .bench, [⟨0, 0, .rw, 0⟩, ⟨1, 1, .sc, 0⟩, ⟨2, 2, .w1c, 0⟩]⟩,
   ⟨"PPC_CH_CFG", 0xA00104, [(16, 0x40)], .ing, .bench, [⟨4, 0, .rw, 5⟩, ⟨12, 8, .rw, 5⟩, ⟨19, 16, .rw, 2⟩, ⟨23, 20, .rw, 3⟩, ⟨24, 24, .rw, 1⟩, ⟨31, 25, .rw, 5⟩]⟩,
   ⟨"PPC_CH_LIM", 0xA00108, [(16, 0x40)], .ing, .bench, [⟨11, 0, .ro, 0x1f4⟩, ⟨27, 16, .rw, 0x1f4⟩]⟩,
   ⟨"PPC_CH_STAT", 0xA0010C, [(17, 0x40)], .ing, .bench, [⟨3, 0, .ro, 0⟩, ⟨7, 4, .ro, 0⟩, ⟨9, 8, .ro, 0⟩, ⟨15, 12, .ro, 0⟩, ⟨17, 16, .ro, 0⟩, ⟨20, 20, .ro, 0⟩, ⟨21, 21, .ro, 0⟩]⟩,
   ⟨"PPC_CH_VOUT", 0xA00110, [(17, 0x40)], .ing, .bench, [⟨15, 0, .ro, 0⟩]⟩,
   ⟨"PPC_CH_IOUT", 0xA00114, [(17, 0x40)], .ing, .bench, [⟨15, 0, .ro, 0⟩]⟩,
   ⟨"PPC_CH_SIGR", 0xA00118, [(17, 0x40)], .ing, .bench, [⟨15, 0, .ro, 0⟩]⟩,
   ⟨"PPC_CH_IRQ", 0xA0011C, [(17, 0x40)], .ing, .bench, [⟨0, 0, .w1c, 0⟩, ⟨1, 1, .w1c, 0⟩, ⟨2, 2, .w1c, 0⟩, ⟨8, 8, .rw, 0⟩]⟩,
   ⟨"PPC_CH_FAULTS", 0xA00120, [(17, 0x40)], .ing, .bench, [⟨31, 0, .rc, 0⟩]⟩,
   ⟨"PPC_CH_ABORTS", 0xA00124, [(17, 0x40)], .ing, .bench, [⟨31, 0, .rc, 0⟩]⟩,
   ⟨"PPC_CH16_CFG", 0xA00504, [], .ing, .bench, [⟨4, 0, .rw, 5⟩, ⟨12, 8, .rw, 5⟩, ⟨19, 16, .rw, 2⟩, ⟨23, 20, .rw, 3⟩, ⟨24, 24, .rw, 0⟩, ⟨31, 25, .rw, 5⟩]⟩,
   ⟨"PPC_CH16_LIM", 0xA00508, [], .ing, .bench, [⟨11, 0, .rw, 0x1f4⟩, ⟨27, 16, .rw, 0xfa⟩]⟩]

/-- Registers of the Site group. -/
def mapSite0 : List RegRow :=
  [⟨"SITE_ALD_CFG", 0xB00000, [], .ing, .bench, [⟨0, 0, .rw, 0⟩, ⟨2, 1, .rw, 0⟩, ⟨3, 3, .rw, 0⟩, ⟨4, 4, .rw, 0⟩, ⟨7, 5, .rw, 1⟩, ⟨11, 8, .rw, 3⟩, ⟨31, 16, .rw, 0x64⟩]⟩,
   ⟨"SITE_ALD_POLL", 0xB00004, [], .ing, .bench, [⟨15, 0, .rw, 0xc8⟩]⟩,
   ⟨"SITE_ALD_AVALID", 0xB00008, [], .ing, .bench, [⟨31, 0, .rw, 0⟩]⟩,
   ⟨"SITE_ALD_ADDR", 0xB00010, [(8, 0x4)], .ing, .bench, [⟨31, 0, .rw, 0⟩]⟩,
   ⟨"SITE_ALD_LSTATE", 0xB00030, [(2, 0x4)], .ing, .bench, [⟨31, 0, .ro, 0⟩]⟩,
   ⟨"SITE_ALD_TXCMD", 0xB00040, [], .ing, .bench, [⟨7, 0, .rw, 0⟩, ⟨8, 8, .rw, 0⟩, ⟨26, 16, .rw, 0⟩, ⟨31, 31, .sc, 0⟩]⟩,
   ⟨"SITE_ALD_RXPTR", 0xB00044, [], .ing, .bench, [⟨11, 0, .rw, 0⟩, ⟨27, 16, .ro, 0⟩]⟩,
   ⟨"SITE_ALD_STAT", 0xB00048, [], .ing, .bench, [⟨0, 0, .ro, 0⟩, ⟨1, 1, .w1c, 0⟩, ⟨2, 2, .w1c, 0⟩]⟩,
   ⟨"SITE_ALD_CRC_ERR", 0xB00050, [], .ing, .bench, [⟨31, 0, .rc, 0⟩]⟩,
   ⟨"SITE_ALD_ABORT", 0xB00054, [], .ing, .bench, [⟨31, 0, .rc, 0⟩]⟩,
   ⟨"SITE_ALD_SHORT", 0xB00058, [], .ing, .bench, [⟨31, 0, .rc, 0⟩]⟩,
   ⟨"SITE_ALD_LONG", 0xB0005C, [], .ing, .bench, [⟨31, 0, .rc, 0⟩]⟩,
   ⟨"SITE_ALD_ADDR_DROP", 0xB00060, [], .ing, .bench, [⟨31, 0, .rc, 0⟩]⟩,
   ⟨"SITE_ALD_SEQ_ERR", 0xB00064, [], .ing, .bench, [⟨31, 0, .rc, 0⟩]⟩,
   ⟨"SITE_ALD_RX_OVF", 0xB00068, [], .ing, .bench, [⟨31, 0, .rc, 0⟩]⟩,
   ⟨"SITE_GPIO_DIR", 0xB00400, [], .ao, .bench, [⟨23, 0, .rw, 0⟩]⟩,
   ⟨"SITE_GPIO_OUT", 0xB00404, [], .ao, .bench, [⟨23, 0, .rw, 0⟩]⟩,
   ⟨"SITE_GPIO_IN", 0xB00408, [], .ao, .bench, [⟨23, 0, .ro, 0⟩]⟩]

/-- Registers of the Site group. -/
def mapSite1 : List RegRow :=
  [⟨"SITE_GPIO_IMODE", 0xB0040C, [(2, 0x4)], .ao, .bench, [⟨31, 0, .rw, 0⟩]⟩,
   ⟨"SITE_GPIO_ISTAT", 0xB00414, [], .ao, .bench, [⟨23, 0, .w1c, 0⟩]⟩,
   ⟨"SITE_GPIO_WAKE", 0xB00418, [], .ao, .bench, [⟨23, 0, .rw, 0⟩]⟩,
   ⟨"SITE_ALM_DEB", 0xB00420, [(2, 0x4)], .ao, .bench, [⟨31, 0, .rw, 0xa0a0a0a⟩]⟩,
   ⟨"SITE_ALM_CFG", 0xB00428, [], .ao, .bench, [⟨7, 0, .rw, 0⟩, ⟨15, 8, .rw, 0⟩, ⟨23, 16, .rw, 0⟩]⟩,
   ⟨"SITE_ALM_STATE", 0xB0042C, [], .ao, .bench, [⟨7, 0, .ro, 0⟩]⟩,
   ⟨"SITE_ALM_LATCH", 0xB00430, [], .ao, .bench, [⟨7, 0, .w1c, 0⟩]⟩,
   ⟨"SITE_ALD_TXBUF", 0xB01000, [(512, 0x4)], .ing, .bench, [⟨31, 0, .wo, 0⟩]⟩,
   ⟨"SITE_ALD_RXRING", 0xB02000, [(1024, 0x4)], .ing, .bench, [⟨31, 0, .ro, 0⟩]⟩]

/-- Registers of the Site group. -/
def mapSite : List RegRow := mapSite0 ++ mapSite1

/-- Registers of the Adm group. -/
def mapAdm : List RegRow :=
  [⟨"ADM_GATE_CFG", 0xC01000, [(32, 0x100)], .ing, .bench, [⟨0, 0, .rw, 0⟩, ⟨2, 1, .rw, 3⟩, ⟨4, 3, .rw, 0⟩, ⟨5, 5, .rw, 0⟩, ⟨6, 6, .sc, 0⟩, ⟨7, 7, .w1c, 0⟩, ⟨15, 8, .rw, 0⟩, ⟨23, 16, .rw, 2⟩]⟩,
   ⟨"ADM_GATE_BUDGET", 0xC01004, [(32, 0x100)], .ing, .bench, [⟨19, 0, .rw, 0⟩]⟩,
   ⟨"ADM_GATE_MARK", 0xC01008, [(32, 0x100)], .ing, .bench, [⟨19, 0, .rw, 0⟩]⟩,
   ⟨"ADM_GATE_MERGE", 0xC0100C, [(32, 0x100)], .ing, .bench, [⟨15, 0, .rw, 0x7d⟩]⟩,
   ⟨"ADM_GATE_VAL", 0xC01010, [(32, 0x100)], .ing, .bench, [⟨7, 0, .rw, 1⟩, ⟨15, 8, .rw, 0xff⟩]⟩,
   ⟨"ADM_GATE_FUT", 0xC01014, [(32, 0x100)], .ing, .bench, [⟨15, 0, .rw, 0x7d⟩]⟩,
   ⟨"ADM_GATE_SINK", 0xC01018, [(32, 0x100)], .ing, .bench, [⟨11, 0, .rw, 0⟩, ⟨31, 16, .rw, 0⟩]⟩,
   ⟨"ADM_GATE_STAT", 0xC0101C, [(32, 0x100)], .ing, .bench, [⟨19, 0, .ro, 0⟩, ⟨24, 24, .ro, 0⟩, ⟨25, 25, .ro, 0⟩, ⟨26, 26, .ro, 0⟩, ⟨31, 27, .ro, 0⟩]⟩,
   ⟨"ADM_GATE_CNT", 0xC01040, [(32, 0x100), (16, 0x4)], .ing, .bench, [⟨31, 0, .ro, 0⟩]⟩,
   ⟨"ADM_GATE_SNAP", 0xC01080, [(32, 0x100), (16, 0x4)], .ing, .bench, [⟨31, 0, .ro, 0⟩]⟩,
   ⟨"ADM_MAP_SHADOW", 0xC08000, [(32, 0x400), (128, 0x4)], .ing, .bench, [⟨31, 0, .rw, 0⟩]⟩,
   ⟨"ADM_MAP_ACTIVE", 0xC08200, [(32, 0x400), (128, 0x4)], .ing, .bench, [⟨31, 0, .ro, 0⟩]⟩]

/-- Registers of the See group. -/
def mapSee0 : List RegRow :=
  [⟨"SEE_LOAD", 0xD00000, [], .ing, .bench, [⟨31, 0, .ro, 0⟩]⟩,
   ⟨"SEE_FIFO", 0xD00004, [], .ing, .bench, [⟨15, 0, .ro, 0⟩, ⟨31, 16, .rc, 0⟩]⟩,
   ⟨"SEE_F_CFG", 0xD00100, [(16, 0x80)], .ing, .bench, [⟨0, 0, .rw, 0⟩, ⟨2, 1, .rw, 1⟩, ⟨5, 3, .rw, 0⟩, ⟨24, 16, .rw, 1⟩]⟩,
   ⟨"SEE_F_GEOM", 0xD00104, [(16, 0x80)], .ing, .bench, [⟨9, 0, .rw, 0⟩, ⟨25, 16, .rw, 0x111⟩]⟩,
   ⟨"SEE_F_THR", 0xD00108, [(16, 0x80)], .ing, .bench, [⟨11, 0, .rw, 0x80⟩, ⟨27, 16, .rw, 0x1c⟩]⟩,
   ⟨"SEE_F_FBASE", 0xD0010C, [(16, 0x80)], .ing, .bench, [⟨15, 0, .rw, 0x1000⟩]⟩,
   ⟨"SEE_F_TIMING", 0xD00110, [(16, 0x80)], .ing, .bench, [⟨13, 0, .rw, 0⟩]⟩,
   ⟨"SEE_F_CLOSE", 0xD00114, [(16, 0x80)], .ing, .bench, [⟨16, 0, .rw, 0x30d4⟩]⟩,
   ⟨"SEE_F_FIFO", 0xD00118, [(16, 0x80)], .ing, .bench, [⟨10, 0, .rw, 0x40⟩]⟩,
   ⟨"SEE_F_STAT", 0xD0011C, [(16, 0x80)], .ing, .bench, [⟨1, 0, .ro, 0⟩, ⟨26, 16, .ro, 0⟩]⟩,
   ⟨"SEE_F_CNT", 0xD00120, [(16, 0x80)], .ing, .bench, [⟨31, 0, .ro, 0⟩]⟩,
   ⟨"SEE_F_SECT_IN", 0xD00140, [(16, 0x80)], .ing, .bench, [⟨31, 0, .rc, 0⟩]⟩,
   ⟨"SEE_F_SYM_CLOSED", 0xD00144, [(16, 0x80)], .ing, .bench, [⟨31, 0, .rc, 0⟩]⟩,
   ⟨"SEE_F_BADPLACE", 0xD00148, [(16, 0x80)], .ing, .bench, [⟨31, 0, .rc, 0⟩]⟩,
   ⟨"SEE_F_MALFORMED", 0xD0014C, [(16, 0x80)], .ing, .bench, [⟨31, 0, .rc, 0⟩]⟩,
   ⟨"SEE_F_STALE", 0xD00150, [(16, 0x80)], .ing, .bench, [⟨31, 0, .rc, 0⟩]⟩,
   ⟨"SEE_F_PRB_OUT", 0xD00154, [(16, 0x80)], .ing, .bench, [⟨31, 0, .rc, 0⟩]⟩,
   ⟨"SEE_F_PARTIAL", 0xD00158, [(16, 0x80)], .ing, .bench, [⟨31, 0, .rc, 0⟩]⟩]

/-- Registers of the See group. -/
def mapSee1 : List RegRow :=
  [⟨"SEE_F_DELTA_EV", 0xD0015C, [(16, 0x80)], .ing, .bench, [⟨31, 0, .rc, 0⟩]⟩,
   ⟨"SEE_F_FLOOR_EV", 0xD00160, [(16, 0x80)], .ing, .bench, [⟨31, 0, .rc, 0⟩]⟩,
   ⟨"SEE_F_DELTA_SAT", 0xD00164, [(16, 0x80)], .ing, .bench, [⟨31, 0, .rc, 0⟩]⟩,
   ⟨"SEE_F_FLOOR_CLAMP", 0xD00168, [(16, 0x80)], .ing, .bench, [⟨31, 0, .rc, 0⟩]⟩,
   ⟨"SEE_F_POISON", 0xD0016C, [(16, 0x80)], .ing, .bench, [⟨31, 0, .rc, 0⟩]⟩]

/-- Registers of the See group. -/
def mapSee : List RegRow := mapSee0 ++ mapSee1

/-- Registers of the Evf group. -/
def mapEvf0 : List RegRow :=
  [⟨"EVF_CTL", 0xE00000, [], .fab, .bench, [⟨0, 0, .sc, 0⟩, ⟨1, 1, .ro, 0⟩, ⟨2, 2, .w1c, 0⟩, ⟨15, 8, .rw, 0x10⟩, ⟨31, 16, .rw, 0x400⟩]⟩,
   ⟨"EVF_DROP_TOTAL", 0xE00004, [], .fab, .bench, [⟨31, 0, .rc, 0⟩]⟩,
   ⟨"EVF_PERR", 0xE00008, [], .fab, .bench, [⟨31, 0, .rc, 0⟩]⟩,
   ⟨"EVF_STALL", 0xE0000C, [], .fab, .bench, [⟨11, 0, .ro, 0⟩, ⟨14, 12, .ro, 0⟩, ⟨15, 15, .ro, 0⟩, ⟨31, 31, .w1c, 0⟩]⟩,
   ⟨"EVF_LMON", 0xE00100, [(8, 0x10)], .fab, .bench, [⟨11, 0, .rw, 0⟩, ⟨14, 12, .rw, 0⟩, ⟨15, 15, .rw, 0⟩]⟩,
   ⟨"EVF_LMON_FLITS", 0xE00104, [(8, 0x10)], .fab, .bench, [⟨31, 0, .ro, 0⟩]⟩,
   ⟨"EVF_LMON_STALL", 0xE00108, [(8, 0x10)], .fab, .bench, [⟨31, 0, .ro, 0⟩]⟩,
   ⟨"EVF_NRT_SHADOW", 0xE01000, [(208, 0x4)], .fab, .bench, [⟨31, 0, .rw, 0⟩]⟩,
   ⟨"EVF_NRT_ACTIVE", 0xE01400, [(208, 0x4)], .fab, .bench, [⟨31, 0, .ro, 0⟩]⟩,
   ⟨"EVF_E_BLIST", 0xE02000, [(16, 0x40), (7, 0x4)], .fab, .bench, [⟨31, 0, .rw, 0⟩]⟩,
   ⟨"EVF_E_EB_CFG", 0xE0201C, [(16, 0x40)], .fab, .bench, [⟨7, 0, .rw, 0⟩]⟩,
   ⟨"EVF_E_LAST_EB", 0xE02020, [(16, 0x40)], .fab, .bench, [⟨31, 0, .ro, 0⟩]⟩,
   ⟨"EVF_E_EB_RX", 0xE02024, [(16, 0x40)], .fab, .bench, [⟨31, 0, .rc, 0⟩]⟩,
   ⟨"EVF_E_DROP", 0xE02028, [(16, 0x40)], .fab, .bench, [⟨31, 0, .rc, 0⟩]⟩,
   ⟨"EVF_E_EV_IN", 0xE0202C, [(16, 0x40)], .fab, .bench, [⟨31, 0, .rc, 0⟩]⟩,
   ⟨"EVF_SPAN_CFG", 0xE03000, [], .fab, .bench, [⟨0, 0, .rw, 0⟩, ⟨1, 1, .rw, 0⟩, ⟨3, 2, .rw, 0⟩, ⟨5, 4, .rw, 0⟩]⟩,
   ⟨"EVF_SPAN_STAT", 0xE03004, [(2, 0x4)], .fab, .bench, [⟨3, 0, .ro, 0⟩, ⟨4, 4, .ro, 0⟩, ⟨5, 5, .ro, 0⟩, ⟨6, 6, .w1c, 0⟩]⟩,
   ⟨"EVF_SPAN_CRC_ERR", 0xE03010, [(2, 0x4)], .fab, .bench, [⟨31, 0, .rc, 0⟩]⟩]

/-- Registers of the Evf group. -/
def mapEvf1 : List RegRow :=
  [⟨"EVF_SPAN_DROP", 0xE03018, [(2, 0x4)], .fab, .bench, [⟨31, 0, .rc, 0⟩]⟩,
   ⟨"EVF_SPAN_TX_FLITS", 0xE03020, [(2, 0x4)], .fab, .bench, [⟨31, 0, .rc, 0⟩]⟩,
   ⟨"EVF_SPAN_RX_FLITS", 0xE03028, [(2, 0x4)], .fab, .bench, [⟨31, 0, .rc, 0⟩]⟩,
   ⟨"EVF_FENCE", 0xE04000, [(4, 0x4)], .fab, .bench, [⟨7, 0, .rw, 0⟩, ⟨31, 31, .rw, 0⟩]⟩,
   ⟨"EVF_FENCE_RX", 0xE04100, [(192, 0x4)], .fab, .bench, [⟨7, 0, .ro, 0⟩, ⟨15, 8, .ro, 0⟩, ⟨16, 16, .ro, 0⟩]⟩,
   ⟨"EVF_T_FAN_BASE0", 0xE10000, [(192, 0x40)], .fab, .bench, [⟨15, 0, .rwl, 0⟩]⟩,
   ⟨"EVF_T_FAN_CFG0", 0xE10004, [(192, 0x40)], .fab, .bench, [⟨10, 0, .rwl, 0⟩, ⟨27, 16, .rwl, 0⟩]⟩,
   ⟨"EVF_T_FAN_BASE1", 0xE10008, [(192, 0x40)], .fab, .bench, [⟨15, 0, .rwl, 0⟩]⟩,
   ⟨"EVF_T_FAN_CFG1", 0xE1000C, [(192, 0x40)], .fab, .bench, [⟨10, 0, .rwl, 0⟩, ⟨27, 16, .rwl, 0⟩]⟩,
   ⟨"EVF_T_BLIST", 0xE10010, [(192, 0x40), (7, 0x4)], .fab, .bench, [⟨31, 0, .rw, 0⟩]⟩,
   ⟨"EVF_T_EB_CFG", 0xE1002C, [(192, 0x40)], .fab, .bench, [⟨8, 0, .rw, 0⟩]⟩,
   ⟨"EVF_T_LAST_EB", 0xE10030, [(192, 0x40)], .fab, .bench, [⟨31, 0, .ro, 0⟩]⟩,
   ⟨"EVF_T_DROP", 0xE10034, [(192, 0x40)], .fab, .bench, [⟨31, 0, .rc, 0⟩]⟩,
   ⟨"EVF_T_FAN_ERR", 0xE10038, [(192, 0x40)], .fab, .bench, [⟨31, 0, .rc, 0⟩]⟩]

/-- Registers of the Evf group. -/
def mapEvf : List RegRow := mapEvf0 ++ mapEvf1

/-- Registers of the Sync group. -/
def mapSync : List RegRow :=
  [⟨"SYNC_CTL", 0x1000000, [], .fab, .bench, [⟨0, 0, .w1c, 0⟩]⟩,
   ⟨"SYNC_HOSTWR", 0x1000004, [], .fab, .bench, [⟨14, 0, .rw, 1⟩, ⟨30, 16, .rw, 0⟩, ⟨31, 31, .rw, 0⟩]⟩,
   ⟨"SYNC_MB_BASE", 0x1000008, [], .fab, .bench, [⟨11, 0, .rwl, 0⟩]⟩,
   ⟨"SYNC_MB_TO", 0x1000010, [(4, 0x4)], .fab, .bench, [⟨23, 0, .rw, 0x7a12⟩]⟩,
   ⟨"SYNC_BADH", 0x1000040, [], .fab, .bench, [⟨31, 0, .rc, 0⟩]⟩,
   ⟨"SYNC_WAIT_TO", 0x1000044, [], .fab, .bench, [⟨31, 0, .rc, 0⟩]⟩,
   ⟨"SYNC_POISON", 0x1000048, [], .fab, .bench, [⟨31, 0, .rc, 0⟩]⟩,
   ⟨"SYNC_HOST_DENY", 0x100004C, [], .fab, .bench, [⟨31, 0, .rc, 0⟩]⟩,
   ⟨"SYNC_ACK_BAD", 0x1000050, [], .fab, .bench, [⟨31, 0, .rc, 0⟩]⟩,
   ⟨"SYNC_MB_LOST_SUM", 0x1000054, [], .fab, .bench, [⟨31, 0, .rc, 0⟩]⟩,
   ⟨"SYNC_BADH_LAST", 0x1000060, [], .fab, .bench, [⟨31, 0, .ro, 0⟩]⟩,
   ⟨"SYNC_BADH_SRC", 0x1000064, [], .fab, .bench, [⟨11, 0, .ro, 0⟩, ⟨31, 31, .w1c, 0⟩]⟩,
   ⟨"SYNC_WATCH_HANDLE", 0x1000100, [(64, 0x10)], .fab, .hostBench, [⟨14, 0, .rw, 0⟩, ⟨19, 15, .rw, 0⟩, ⟨31, 31, .rw, 0⟩]⟩,
   ⟨"SYNC_WATCH_THR", 0x1000104, [(64, 0x10)], .fab, .hostBench, [⟨31, 0, .rw, 0⟩]⟩,
   ⟨"SYNC_WATCH_CTL", 0x1000108, [(64, 0x10)], .fab, .hostBench, [⟨9, 0, .rw, 0x40⟩, ⟨16, 16, .rw, 0⟩, ⟨17, 17, .w1c, 0⟩]⟩,
   ⟨"SYNC_MB_CFG", 0x1004000, [(4096, 0x4)], .fab, .bench, [⟨0, 0, .rw, 0⟩, ⟨1, 1, .rw, 0⟩, ⟨11, 2, .rw, 0x40⟩, ⟨13, 12, .rw, 0⟩, ⟨21, 14, .rw, 0⟩, ⟨31, 31, .rw, 0⟩]⟩,
   ⟨"SYNC_MB_LOST", 0x1008000, [(4096, 0x4)], .fab, .bench, [⟨31, 0, .rc, 0⟩]⟩,
   ⟨"SYNC_MB_RDY", 0x100C000, [(128, 0x4)], .fab, .none, [⟨31, 0, .ro, 0⟩]⟩]

/-- Registers of the Ldl group. -/
def mapLdl : List RegRow :=
  [⟨"LDL_CTL", 0x1400000, [], .fab, .bench, [⟨0, 0, .rw, 0⟩, ⟨3, 1, .rwl, 4⟩, ⟨4, 4, .w1c, 0⟩, ⟨15, 8, .rwl, 0⟩]⟩,
   ⟨"LDL_E0", 0x1400004, [], .fab, .bench, [⟨31, 0, .rwl, 0⟩]⟩,
   ⟨"LDL_PROG", 0x1400008, [], .fab, .bench, [⟨23, 6, .rwl, 0⟩]⟩,
   ⟨"LDL_STAGE", 0x140000C, [], .fab, .bench, [⟨23, 16, .rwl, 0⟩]⟩,
   ⟨"LDL_STAGE_SZ", 0x1400010, [], .fab, .bench, [⟨6, 0, .rwl, 0⟩]⟩,
   ⟨"LDL_STAT", 0x1400014, [], .fab, .bench, [⟨9, 0, .ro, 0⟩, ⟨26, 16, .ro, 0⟩]⟩,
   ⟨"LDL_CNT", 0x1400040, [(16, 0x4)], .fab, .bench, [⟨31, 0, .rc, 0⟩]⟩,
   ⟨"LDL_BYTES", 0x1400080, [(4, 0x4)], .fab, .bench, [⟨31, 0, .rc, 0⟩]⟩,
   ⟨"LDL_FAILLOG0", 0x14000C0, [], .fab, .bench, [⟨15, 0, .ro, 0⟩, ⟨19, 16, .ro, 0⟩]⟩,
   ⟨"LDL_FAILLOG1", 0x14000C4, [], .fab, .bench, [⟨31, 0, .ro, 0⟩]⟩,
   ⟨"LDL_FAILLOG2", 0x14000C8, [], .fab, .bench, [⟨0, 0, .w1c, 0⟩]⟩,
   ⟨"LDL_VP", 0x1400100, [(64, 0x4)], .fab, .bench, [⟨14, 0, .rwl, 0⟩, ⟨17, 16, .rwl, 0⟩, ⟨31, 31, .rwl, 0⟩]⟩]

/-- Registers of the Mem group. -/
def mapMem : List RegRow :=
  [⟨"MEM_CFG", 0x1500000, [], .mem, .bench, [⟨1, 0, .rwl, 0⟩, ⟨17, 4, .rwl, 0x2155⟩]⟩,
   ⟨"MEM_STAT", 0x1500004, [], .mem, .bench, [⟨0, 0, .ro, 0⟩, ⟨1, 1, .ro, 0⟩, ⟨2, 2, .ro, 0⟩]⟩,
   ⟨"MEM_CAP", 0x1500008, [], .mem, .bench, [⟨15, 0, .ro, 0⟩]⟩,
   ⟨"MEM_CE", 0x150000C, [], .mem, .bench, [⟨31, 0, .rc, 0⟩]⟩,
   ⟨"MEM_UE", 0x1500010, [], .mem, .bench, [⟨31, 0, .rc, 0⟩]⟩,
   ⟨"MEM_POOL_CE", 0x1500014, [], .mem, .bench, [⟨31, 0, .rc, 0⟩]⟩,
   ⟨"MEM_POOL_UE", 0x1500018, [], .mem, .bench, [⟨31, 0, .rc, 0⟩]⟩]

/-- Registers of the Ras group. -/
def mapRas0 : List RegRow :=
  [⟨"RAS_CTL", 0x1600000, [], .mgt, .bench, [⟨0, 0, .rw, 1⟩, ⟨1, 1, .rw, 0⟩, ⟨2, 2, .rw, 0⟩]⟩,
   ⟨"RAS_STAT", 0x1600004, [], .mgt, .bench, [⟨0, 0, .ro, 0⟩, ⟨1, 1, .w1c, 0⟩, ⟨2, 2, .w1c, 0⟩, ⟨3, 3, .w1c, 0⟩, ⟨12, 8, .ro, 0⟩]⟩,
   ⟨"RAS_HOST_MASK", 0x1600008, [], .mgt, .bench, [⟨18, 0, .rw, 0x7ffff⟩]⟩,
   ⟨"RAS_LOG_WR", 0x1600010, [], .mgt, .bench, [⟨5, 0, .ro, 0⟩]⟩,
   ⟨"RAS_LOG_RD", 0x1600014, [], .mgt, .bench, [⟨5, 0, .rw, 0⟩]⟩,
   ⟨"RAS_LOG_LOST", 0x1600018, [], .mgt, .bench, [⟨31, 0, .rc, 0⟩]⟩,
   ⟨"RAS_CE_THR", 0x160001C, [], .mgt, .bench, [⟨15, 0, .rw, 0x3e8⟩]⟩,
   ⟨"RAS_LINK", 0x1600020, [], .mgt, .bench, [⟨15, 0, .rw, 0x10⟩, ⟨27, 16, .ro, 0⟩, ⟨30, 28, .ro, 0⟩]⟩,
   ⟨"RAS_SCRUB0_INT", 0x1600040, [], .mgt, .bench, [⟨19, 0, .rw, 0x40⟩]⟩,
   ⟨"RAS_SCRUB0_MAXPASS", 0x1600044, [], .mgt, .bench, [⟨31, 0, .rw, 0x64⟩]⟩,
   ⟨"RAS_SCRUB1_INT", 0x1600048, [], .mgt, .bench, [⟨19, 0, .rw, 0x40⟩]⟩,
   ⟨"RAS_SCRUB1_MAXPASS", 0x160004C, [], .mgt, .bench, [⟨31, 0, .rw, 0x64⟩]⟩,
   ⟨"RAS_SCRUB3_INT", 0x1600058, [], .mgt, .bench, [⟨19, 0, .rw, 0x40⟩]⟩,
   ⟨"RAS_SCRUB3_MAXPASS", 0x160005C, [], .mgt, .bench, [⟨31, 0, .rw, 0x64⟩]⟩,
   ⟨"RAS_SCRUB4_INT", 0x1600060, [], .mgt, .bench, [⟨19, 0, .rw, 0x40⟩]⟩,
   ⟨"RAS_SCRUB4_MAXPASS", 0x1600064, [], .mgt, .bench, [⟨31, 0, .rw, 0x64⟩]⟩,
   ⟨"RAS_SCRUB7_INT", 0x1600078, [], .mgt, .bench, [⟨19, 0, .rw, 0x100⟩]⟩,
   ⟨"RAS_SCRUB7_MAXPASS", 0x160007C, [], .mgt, .bench, [⟨31, 0, .rw, 0x3e8⟩]⟩]

/-- Registers of the Ras group. -/
def mapRas1 : List RegRow :=
  [⟨"RAS_SCRUB8_INT", 0x1600080, [], .mgt, .bench, [⟨19, 0, .rw, 0⟩]⟩,
   ⟨"RAS_SCRUB8_MAXPASS", 0x1600084, [], .mgt, .bench, [⟨31, 0, .rw, 0xa4cb800⟩]⟩,
   ⟨"RAS_SCRUB9_INT", 0x1600088, [], .mgt, .bench, [⟨19, 0, .rw, 1⟩]⟩,
   ⟨"RAS_SCRUB9_MAXPASS", 0x160008C, [], .mgt, .bench, [⟨31, 0, .rw, 0x3e8⟩]⟩,
   ⟨"RAS_SCRUB12_INT", 0x16000A0, [], .mgt, .bench, [⟨19, 0, .rw, 0x3e8⟩]⟩,
   ⟨"RAS_SCRUB12_MAXPASS", 0x16000A4, [], .mgt, .bench, [⟨31, 0, .rw, 0xa⟩]⟩,
   ⟨"RAS_SCRUB13_INT", 0x16000A8, [], .mgt, .bench, [⟨19, 0, .rw, 0x3e8⟩]⟩,
   ⟨"RAS_SCRUB13_MAXPASS", 0x16000AC, [], .mgt, .bench, [⟨31, 0, .rw, 0xa⟩]⟩,
   ⟨"RAS_SCRUB14_INT", 0x16000B0, [], .mgt, .bench, [⟨19, 0, .rw, 0x100⟩]⟩,
   ⟨"RAS_SCRUB14_MAXPASS", 0x16000B4, [], .mgt, .bench, [⟨31, 0, .rw, 0x3e8⟩]⟩,
   ⟨"RAS_SCRUB15_INT", 0x16000B8, [], .mgt, .bench, [⟨19, 0, .rw, 0x100⟩]⟩,
   ⟨"RAS_SCRUB15_MAXPASS", 0x16000BC, [], .mgt, .bench, [⟨31, 0, .rw, 0x3e8⟩]⟩,
   ⟨"RAS_CE", 0x1600100, [(19, 0x8)], .mgt, .bench, [⟨31, 0, .rc, 0⟩]⟩,
   ⟨"RAS_UE", 0x1600104, [(19, 0x8)], .mgt, .bench, [⟨31, 0, .rc, 0⟩]⟩,
   ⟨"RAS_LATE", 0x1600200, [(19, 0x4)], .mgt, .none, [⟨31, 0, .rc, 0⟩]⟩,
   ⟨"RAS_LOG", 0x1601000, [(64, 0x10), (4, 0x4)], .mgt, .bench, [⟨31, 0, .ro, 0⟩]⟩]

/-- Registers of the Ras group. -/
def mapRas : List RegRow := mapRas0 ++ mapRas1

/-- Registers of the Hst group. -/
def mapHst0 : List RegRow :=
  [⟨"HST_LINK", 0x1700000, [], .hst, .none, [⟨3, 0, .ro, 0⟩, ⟨7, 4, .ro, 0⟩, ⟨8, 8, .ro, 0⟩, ⟨9, 9, .ro, 0⟩]⟩,
   ⟨"HST_SIDE", 0x1700004, [], .hst, .hostBench, [⟨3, 0, .rw, 5⟩, ⟨11, 8, .ro, 0⟩]⟩,
   ⟨"HST_RING_CTL", 0x1700010, [], .hst, .host, [⟨0, 0, .rw, 0⟩, ⟨1, 1, .rw, 0⟩, ⟨2, 2, .w1c, 0⟩]⟩,
   ⟨"HST_CMDQ_BASE_LO", 0x1700020, [], .hst, .host, [⟨31, 0, .rwl, 0⟩]⟩,
   ⟨"HST_CMDQ_BASE_HI", 0x1700024, [], .hst, .host, [⟨31, 0, .rwl, 0⟩]⟩,
   ⟨"HST_CMDQ_SIZE", 0x1700028, [], .hst, .host, [⟨3, 0, .rwl, 4⟩]⟩,
   ⟨"HST_CMDQ_TAIL", 0x170002C, [], .hst, .host, [⟨11, 0, .rw, 0⟩]⟩,
   ⟨"HST_CMDQ_HEAD", 0x1700030, [], .hst, .host, [⟨11, 0, .ro, 0⟩]⟩,
   ⟨"HST_CPLQ_BASE_LO", 0x1700040, [], .hst, .host, [⟨31, 0, .rwl, 0⟩]⟩,
   ⟨"HST_CPLQ_BASE_HI", 0x1700044, [], .hst, .host, [⟨31, 0, .rwl, 0⟩]⟩,
   ⟨"HST_CPLQ_SIZE", 0x1700048, [], .hst, .host, [⟨3, 0, .rwl, 4⟩]⟩,
   ⟨"HST_CPLQ_HEAD", 0x170004C, [], .hst, .host, [⟨11, 0, .rw, 0⟩]⟩,
   ⟨"HST_CPLQ_TAIL", 0x1700050, [], .hst, .host, [⟨11, 0, .ro, 0⟩]⟩,
   ⟨"HST_NTFQ_BASE_LO", 0x1700060, [], .hst, .host, [⟨31, 0, .rwl, 0⟩]⟩,
   ⟨"HST_NTFQ_BASE_HI", 0x1700064, [], .hst, .host, [⟨31, 0, .rwl, 0⟩]⟩,
   ⟨"HST_NTFQ_SIZE", 0x1700068, [], .hst, .host, [⟨3, 0, .rwl, 4⟩]⟩,
   ⟨"HST_NTFQ_HEAD", 0x170006C, [], .hst, .host, [⟨11, 0, .rw, 0⟩]⟩,
   ⟨"HST_NTFQ_TAIL", 0x1700070, [], .hst, .host, [⟨11, 0, .ro, 0⟩]⟩]

/-- Registers of the Hst group. -/
def mapHst1 : List RegRow :=
  [⟨"HST_NTF_MASK", 0x1700078, [], .hst, .host, [⟨8, 0, .rw, 0x1ff⟩]⟩,
   ⟨"HST_NTF_LOST", 0x170007C, [], .hst, .host, [⟨31, 0, .rc, 0⟩]⟩,
   ⟨"HST_ERR_CNT", 0x17000A0, [], .hst, .bench, [⟨31, 0, .rc, 0⟩]⟩,
   ⟨"HST_ERR_ADDR", 0x17000A4, [], .hst, .bench, [⟨27, 0, .ro, 0⟩]⟩,
   ⟨"HST_ERR_INFO", 0x17000A8, [], .hst, .bench, [⟨3, 0, .ro, 0⟩, ⟨6, 4, .ro, 0⟩, ⟨8, 8, .ro, 0⟩, ⟨10, 9, .ro, 0⟩, ⟨11, 11, .ro, 0⟩, ⟨31, 31, .w1c, 0⟩]⟩,
   ⟨"HST_AP", 0x1700100, [(16, 0x4)], .hst, .host, [⟨23, 0, .rw, 0⟩, ⟨31, 31, .rw, 0⟩]⟩,
   ⟨"HST_MSIX_ADDR_LO", 0x1780000, [(1024, 0x10)], .hst, .host, [⟨31, 0, .rw, 0⟩]⟩,
   ⟨"HST_MSIX_ADDR_HI", 0x1780004, [(1024, 0x10)], .hst, .host, [⟨31, 0, .rw, 0⟩]⟩,
   ⟨"HST_MSIX_DATA", 0x1780008, [(1024, 0x10)], .hst, .host, [⟨31, 0, .rw, 0⟩]⟩,
   ⟨"HST_MSIX_CTL", 0x178000C, [(1024, 0x10)], .hst, .host, [⟨0, 0, .rw, 1⟩]⟩,
   ⟨"HST_PBA", 0x1784000, [(32, 0x4)], .hst, .none, [⟨31, 0, .ro, 0⟩]⟩]

/-- Registers of the Hst group. -/
def mapHst : List RegRow := mapHst0 ++ mapHst1

/-- Registers of the TileSeq group. -/
def mapTileSeq : List RegRow :=
  [⟨"TILE_SEQ_CTL", 0x2000000, [(192, 0x10000)], .clu, .bench, [⟨0, 0, .sc, 0⟩, ⟨1, 1, .rw, 1⟩, ⟨2, 2, .sc, 0⟩, ⟨3, 3, .sc, 0⟩, ⟨4, 4, .w1s, 0⟩, ⟨5, 5, .rw, 0⟩, ⟨6, 6, .w1c, 0⟩]⟩,
   ⟨"TILE_SEQ_BOOT", 0x2000004, [(192, 0x10000)], .clu, .bench, [⟨13, 2, .rw, 0⟩]⟩,
   ⟨"TILE_SEQ_STAT", 0x2000008, [(192, 0x10000)], .clu, .none, [⟨1, 0, .ro, 0⟩, ⟨7, 4, .ro, 0⟩, ⟨8, 8, .ro, 0⟩]⟩,
   ⟨"TILE_SEQ_PC", 0x200000C, [(192, 0x10000)], .clu, .none, [⟨13, 2, .ro, 0⟩]⟩,
   ⟨"TILE_SEQ_EPC", 0x2000010, [(192, 0x10000)], .clu, .none, [⟨31, 0, .ro, 0⟩]⟩,
   ⟨"TILE_SEQ_ESTAT", 0x2000014, [(192, 0x10000)], .clu, .none, [⟨31, 0, .ro, 0⟩]⟩,
   ⟨"TILE_SEQ_EBAD", 0x2000018, [(192, 0x10000)], .clu, .none, [⟨31, 0, .ro, 0⟩]⟩,
   ⟨"TILE_SEQ_MPROG", 0x200001C, [(192, 0x10000)], .clu, .none, [⟨31, 0, .ro, 0⟩]⟩,
   ⟨"TILE_SEQ_SSTAT", 0x2000020, [(192, 0x10000)], .clu, .none, [⟨31, 0, .ro, 0⟩]⟩,
   ⟨"TILE_SEQ_RETIRED", 0x2000024, [(192, 0x10000)], .clu, .none, [⟨31, 0, .ro, 0⟩]⟩,
   ⟨"TILE_SEQ_EXC", 0x2000028, [(192, 0x10000)], .clu, .none, [⟨31, 0, .ro, 0⟩]⟩]

/-- Registers of the TileNe group. -/
def mapTileNe0 : List RegRow :=
  [⟨"NE_CTL", 0x2000100, [(192, 0x10000)], .clu, .bench, [⟨0, 0, .rw, 0⟩, ⟨1, 1, .rwl, 1⟩]⟩,
   ⟨"NE_STAT", 0x2000104, [(192, 0x10000)], .clu, .bench, [⟨0, 0, .ro, 0⟩, ⟨15, 8, .ro, 0⟩, ⟨16, 16, .w1c, 0⟩]⟩,
   ⟨"NE_ROUTE", 0x2000108, [(192, 0x10000)], .clu, .bench, [⟨31, 0, .rwl, 0x55555500⟩]⟩,
   ⟨"NE_LBACK", 0x2000110, [(192, 0x10000), (4, 0x4)], .clu, .bench, [⟨31, 0, .rwl, 0⟩]⟩,
   ⟨"NE_INBOX", 0x2000120, [(192, 0x10000)], .clu, .bench, [⟨15, 0, .rwl, 0⟩]⟩,
   ⟨"NE_INBOX_LIM", 0x2000124, [(192, 0x10000)], .clu, .bench, [⟨10, 0, .rwl, 0⟩, ⟨26, 16, .rwl, 0⟩]⟩,
   ⟨"NE_NOTICE", 0x2000128, [(192, 0x10000)], .clu, .bench, [⟨9, 0, .rwl, 0⟩, ⟨31, 31, .rwl, 0⟩]⟩,
   ⟨"NE_REG0", 0x2000140, [(192, 0x10000), (8, 0x8)], .clu, .bench, [⟨15, 0, .rwl, 0⟩, ⟨31, 16, .rwl, 0⟩]⟩,
   ⟨"NE_REG4", 0x2000144, [(192, 0x10000), (8, 0x8)], .clu, .bench, [⟨17, 0, .rwl, 0⟩, ⟨19, 18, .rwl, 0⟩, ⟨23, 20, .rwl, 0⟩, ⟨26, 24, .rwl, 0⟩, ⟨28, 27, .rwl, 0⟩, ⟨31, 31, .rwl, 0⟩]⟩,
   ⟨"NE_CLS_00", 0x2000200, [(192, 0x10000), (8, 0x40)], .clu, .bench, [⟨1, 0, .rwl, 0⟩, ⟨3, 2, .rwl, 0⟩, ⟨6, 4, .rwl, 0⟩, ⟨7, 7, .rwl, 0⟩, ⟨31, 16, .rwl, 0⟩]⟩,
   ⟨"NE_CLS_04", 0x2000204, [(192, 0x10000), (8, 0x40)], .clu, .bench, [⟨31, 0, .rwl, 0⟩]⟩,
   ⟨"NE_CLS_08", 0x2000208, [(192, 0x10000), (8, 0x40)], .clu, .bench, [⟨31, 0, .rwl, 0⟩]⟩,
   ⟨"NE_CLS_0C", 0x200020C, [(192, 0x10000), (8, 0x40)], .clu, .bench, [⟨7, 0, .rwl, 0⟩]⟩,
   ⟨"NE_CLS_10", 0x2000210, [(192, 0x10000), (8, 0x40)], .clu, .bench, [⟨4, 0, .rwl, 0x1f⟩, ⟨9, 5, .rwl, 0x1f⟩, ⟨14, 10, .rwl, 0x1f⟩, ⟨19, 15, .rwl, 0x1f⟩, ⟨23, 20, .rwl, 0⟩]⟩,
   ⟨"NE_CLS_14", 0x2000214, [(192, 0x10000), (8, 0x40)], .clu, .bench, [⟨15, 0, .rwl, 0⟩, ⟨31, 16, .rwl, 0⟩]⟩,
   ⟨"NE_CLS_18", 0x2000218, [(192, 0x10000), (8, 0x40)], .clu, .bench, [⟨15, 0, .rwl, 0⟩, ⟨31, 16, .rwl, 0⟩]⟩,
   ⟨"NE_CLS_1C", 0x200021C, [(192, 0x10000), (8, 0x40)], .clu, .bench, [⟨5, 0, .rwl, 0⟩, ⟨11, 6, .rwl, 0⟩, ⟨12, 12, .rwl, 0⟩, ⟨14, 13, .rwl, 0⟩]⟩,
   ⟨"NE_CLS_K", 0x2000220, [(192, 0x10000), (8, 0x40), (4, 0x4)], .clu, .bench, [⟨15, 0, .rwl, 0⟩, ⟨31, 16, .rwl, 0⟩]⟩]

/-- Registers of the TileNe group. -/
def mapTileNe1 : List RegRow :=
  [⟨"NE_CLS_30", 0x2000230, [(192, 0x10000), (8, 0x40)], .clu, .bench, [⟨0, 0, .rwl, 0⟩, ⟨2, 1, .rwl, 0⟩, ⟨4, 3, .rwl, 0⟩, ⟨5, 5, .rwl, 0⟩, ⟨9, 6, .rwl, 0⟩, ⟨17, 10, .rwl, 0⟩, ⟨25, 18, .rwl, 0⟩]⟩,
   ⟨"NE_CLS_34", 0x2000234, [(192, 0x10000), (8, 0x40)], .clu, .bench, [⟨15, 0, .rwl, 0⟩, ⟨31, 16, .rwl, 0⟩]⟩,
   ⟨"NE_CLS_38", 0x2000238, [(192, 0x10000), (8, 0x40)], .clu, .bench, [⟨9, 0, .rwl, 0⟩, ⟨10, 10, .rwl, 0⟩, ⟨12, 11, .rwl, 0⟩, ⟨23, 16, .rwl, 0⟩]⟩,
   ⟨"NE_CLS_3C", 0x200023C, [(192, 0x10000), (8, 0x40)], .clu, .bench, [⟨19, 0, .rwl, 0⟩, ⟨31, 20, .rwl, 0⟩]⟩,
   ⟨"NE_RING0", 0x2000400, [(192, 0x10000), (4, 0x10)], .clu, .bench, [⟨15, 0, .rwl, 0⟩, ⟨31, 16, .rwl, 0⟩]⟩,
   ⟨"NE_RING4", 0x2000404, [(192, 0x10000), (4, 0x10)], .clu, .bench, [⟨15, 0, .rwl, 0⟩, ⟨17, 16, .rwl, 0⟩, ⟨22, 18, .rwl, 0⟩, ⟨31, 31, .rwl, 0⟩]⟩,
   ⟨"NE_RING8", 0x2000408, [(192, 0x10000), (4, 0x10)], .clu, .bench, [⟨31, 0, .ro, 0⟩]⟩,
   ⟨"NE_CNT", 0x2000500, [(192, 0x10000), (18, 0x4)], .clu, .bench, [⟨31, 0, .rc, 0⟩]⟩,
   ⟨"NE_DYN", 0x2000800, [(192, 0x10000), (64, 0x4)], .clu, .bench, [⟨31, 0, .rwl, 0⟩]⟩,
   ⟨"NE_TAB", 0x2001000, [(192, 0x10000), (16, 0x80), (32, 0x4)], .clu, .bench, [⟨31, 0, .rwl, 0⟩]⟩]

/-- Registers of the TileNe group. -/
def mapTileNe : List RegRow := mapTileNe0 ++ mapTileNe1

/-- Registers of the TileCim group. -/
def mapTileCim : List RegRow :=
  [⟨"CIM_CFG", 0x2002000, [(192, 0x10000)], .clu, .bench, [⟨17, 0, .rw, 0x36db6⟩, ⟨31, 24, .rw, 0xe4⟩]⟩,
   ⟨"CIM_STAT", 0x2002004, [(192, 0x10000)], .clu, .bench, [⟨3, 0, .ro, 0⟩, ⟨4, 4, .w1c, 0⟩, ⟨5, 5, .w1c, 0⟩]⟩,
   ⟨"CIM_A_BANK", 0x2002100, [(192, 0x10000), (4, 0x40)], .clu, .bench, [⟨0, 0, .ro, 0⟩, ⟨2, 1, .ro, 0⟩, ⟨4, 3, .ro, 0⟩]⟩,
   ⟨"CIM_A_PGM", 0x2002104, [(192, 0x10000), (4, 0x40)], .clu, .bench, [⟨0, 0, .sc, 0⟩, ⟨1, 1, .sc, 0⟩, ⟨2, 2, .sc, 0⟩, ⟨3, 3, .sc, 0⟩, ⟨4, 4, .rw, 0⟩, ⟨5, 5, .rw, 0⟩, ⟨14, 6, .rw, 0⟩, ⟨16, 16, .ro, 0⟩, ⟨17, 17, .ro, 0⟩, ⟨18, 18, .w1c, 0⟩, ⟨19, 19, .w1c, 0⟩, ⟨25, 20, .ro, 0⟩]⟩,
   ⟨"CIM_A_SEAL_IN", 0x2002108, [(192, 0x10000), (4, 0x40)], .clu, .bench, [⟨31, 0, .rw, 0⟩]⟩,
   ⟨"CIM_A_SEAL_A", 0x200210C, [(192, 0x10000), (4, 0x40)], .clu, .bench, [⟨31, 0, .ro, 0⟩]⟩,
   ⟨"CIM_A_SEAL_B", 0x2002110, [(192, 0x10000), (4, 0x40)], .clu, .bench, [⟨31, 0, .ro, 0⟩]⟩,
   ⟨"CIM_A_PCNT", 0x2002114, [(192, 0x10000), (4, 0x40)], .clu, .bench, [⟨15, 0, .ro, 0⟩, ⟨31, 16, .ro, 0⟩]⟩,
   ⟨"CIM_A_FAILED", 0x2002118, [(192, 0x10000), (4, 0x40)], .clu, .bench, [⟨7, 0, .ro, 0⟩, ⟨15, 8, .ro, 0⟩]⟩,
   ⟨"CIM_A_CONV", 0x200211C, [(192, 0x10000), (4, 0x40)], .clu, .bench, [⟨31, 0, .rc, 0⟩]⟩,
   ⟨"CIM_A_CLIP", 0x2002120, [(192, 0x10000), (4, 0x40)], .clu, .bench, [⟨31, 0, .rc, 0⟩]⟩]

/-- Registers of the TileTouchstone group. -/
def mapTileTouchstone0 : List RegRow :=
  [⟨"CIM_CAL", 0x2002300, [(192, 0x10000)], .clu, .bench, [⟨5, 0, .rw, 0⟩, ⟨25, 6, .rw, 0⟩]⟩,
   ⟨"CIM_CAL_PAR", 0x2002304, [(192, 0x10000)], .clu, .bench, [⟨4, 0, .rw, 0xc⟩, ⟨7, 5, .rw, 2⟩, ⟨11, 8, .rw, 4⟩, ⟨31, 16, .rw, 0x3c⟩]⟩,
   ⟨"CIM_CAL_LIM", 0x2002308, [(192, 0x10000)], .clu, .bench, [⟨15, 0, .rw, 0xccd⟩, ⟨23, 16, .rw, 0x20⟩, ⟨31, 24, .rw, 0x10⟩]⟩,
   ⟨"CIM_CAL_TOL", 0x200230C, [(192, 0x10000)], .clu, .bench, [⟨15, 0, .rw, 0x83⟩, ⟨31, 16, .rw, 0x19a⟩]⟩,
   ⟨"CIM_TS_CTL", 0x2002400, [(192, 0x10000), (4, 0x80)], .clu, .bench, [⟨0, 0, .rw, 0⟩, ⟨1, 1, .ro, 0⟩, ⟨2, 2, .w1c, 0⟩, ⟨3, 3, .ro, 0⟩]⟩,
   ⟨"CIM_TS_GAIN_EST", 0x2002404, [(192, 0x10000), (4, 0x80)], .clu, .bench, [⟨31, 0, .ro, 0⟩]⟩,
   ⟨"CIM_TS_OFFS_EST", 0x2002408, [(192, 0x10000), (4, 0x80)], .clu, .bench, [⟨31, 0, .ro, 0⟩]⟩,
   ⟨"CIM_TS_LIN_EST", 0x200240C, [(192, 0x10000), (4, 0x80)], .clu, .bench, [⟨15, 0, .ro, 0⟩]⟩,
   ⟨"CIM_TS_CONV_SEC", 0x2002410, [(192, 0x10000), (4, 0x80)], .clu, .bench, [⟨31, 0, .ro, 0⟩]⟩,
   ⟨"CIM_TS_WIN", 0x2002414, [(192, 0x10000), (4, 0x80)], .clu, .bench, [⟨31, 0, .rc, 0⟩]⟩,
   ⟨"CIM_TS_WIN_DISC", 0x2002418, [(192, 0x10000), (4, 0x80)], .clu, .bench, [⟨31, 0, .rc, 0⟩]⟩,
   ⟨"CIM_TS_CAL_COLL", 0x200241C, [(192, 0x10000), (4, 0x80)], .clu, .bench, [⟨31, 0, .rc, 0⟩]⟩,
   ⟨"CIM_TS_CAL_MISS", 0x2002420, [(192, 0x10000), (4, 0x80)], .clu, .bench, [⟨31, 0, .rc, 0⟩]⟩,
   ⟨"CIM_TS_MSCAN", 0x2002424, [(192, 0x10000), (4, 0x80)], .clu, .bench, [⟨0, 0, .sc, 0⟩, ⟨1, 1, .rw, 0⟩, ⟨7, 4, .rw, 8⟩, ⟨8, 8, .ro, 0⟩, ⟨9, 9, .w1c, 0⟩, ⟨24, 16, .ro, 0⟩]⟩,
   ⟨"CIM_TS_RFAIL", 0x2002428, [(192, 0x10000), (4, 0x80), (9, 0x4)], .clu, .bench, [⟨31, 0, .ro, 0⟩]⟩,
   ⟨"CIM_TS_SUBST_A", 0x2002450, [(192, 0x10000), (4, 0x80), (4, 0x4)], .clu, .bench, [⟨7, 0, .rw, 0⟩, ⟨9, 8, .rw, 0⟩, ⟨23, 16, .rw, 0⟩, ⟨25, 24, .rw, 0⟩]⟩,
   ⟨"CIM_TS_SUBST_B", 0x2002460, [(192, 0x10000), (4, 0x80), (4, 0x4)], .clu, .bench, [⟨7, 0, .rw, 0⟩, ⟨9, 8, .rw, 0⟩, ⟨23, 16, .rw, 0⟩, ⟨25, 24, .rw, 0⟩]⟩,
   ⟨"CIM_TS_SP_CTL", 0x2002470, [(192, 0x10000), (4, 0x80)], .clu, .bench, [⟨0, 0, .sc, 0⟩, ⟨3, 1, .rw, 0⟩, ⟨11, 4, .rw, 0⟩, ⟨12, 12, .ro, 0⟩]⟩]

/-- Registers of the TileTouchstone group. -/
def mapTileTouchstone1 : List RegRow :=
  [⟨"CIM_TS_STAMP", 0x2002474, [(192, 0x10000), (4, 0x80)], .clu, .bench, [⟨15, 0, .ro, 0⟩, ⟨31, 16, .ro, 0⟩]⟩,
   ⟨"ASSAY_CFG", 0x2002600, [(192, 0x10000)], .clu, .bench, [⟨0, 0, .rw, 0⟩, ⟨11, 1, .rw, 0x40⟩, ⟨15, 12, .rw, 3⟩, ⟨31, 16, .rw, 0x400⟩]⟩,
   ⟨"ASSAY_STAT", 0x2002604, [(192, 0x10000)], .clu, .bench, [⟨3, 0, .ro, 0⟩, ⟨4, 4, .ro, 0⟩, ⟨8, 8, .w1c, 0⟩]⟩,
   ⟨"ASSAY_CLIP_HI", 0x2002640, [(192, 0x10000), (4, 0x4)], .clu, .bench, [⟨15, 0, .rw, 0xffff⟩]⟩,
   ⟨"ASSAY_FIRE_LO", 0x2002650, [(192, 0x10000)], .clu, .bench, [⟨31, 0, .rw, 0⟩]⟩,
   ⟨"ASSAY_FIRE_HI", 0x2002654, [(192, 0x10000)], .clu, .bench, [⟨31, 0, .rw, 0xffffffff⟩]⟩,
   ⟨"ASSAY_ENV", 0x2002700, [(192, 0x10000), (4, 0x40), (16, 0x4)], .clu, .bench, [⟨15, 0, .rw, 0⟩, ⟨31, 16, .rw, 0xffff⟩]⟩,
   ⟨"ASSAY_HIST", 0x2002800, [(192, 0x10000), (4, 0x40), (16, 0x4)], .clu, .bench, [⟨31, 0, .ro, 0⟩]⟩,
   ⟨"ASSAY_STUCK", 0x2002900, [(192, 0x10000), (4, 0x40), (9, 0x4)], .clu, .bench, [⟨31, 0, .w1c, 0⟩]⟩,
   ⟨"ASSAY_STUCK_EXEMPT", 0x2002A00, [(192, 0x10000), (4, 0x20), (8, 0x4)], .clu, .bench, [⟨31, 0, .rw, 0⟩]⟩]

/-- Registers of the TileTouchstone group. -/
def mapTileTouchstone : List RegRow := mapTileTouchstone0 ++ mapTileTouchstone1

/-- Registers of the TileRowBuf group. -/
def mapTileRowBuf : List RegRow :=
  [⟨"CIM_ROWBUF", 0x2003000, [(192, 0x10000), (4, 0x400), (2, 0x200), (68, 0x4)], .clu, .bench, [⟨31, 0, .rw, 0⟩]⟩]

/-- Registers of the TileSpare group. -/
def mapTileSpare : List RegRow :=
  [⟨"CIM_SPBUF", 0x2004000, [(192, 0x10000), (4, 0x200), (128, 0x4)], .clu, .bench, [⟨31, 0, .rw, 0⟩]⟩,
   ⟨"CIM_COEF", 0x2005000, [(192, 0x10000), (4, 0x1000), (528, 0x4)], .clu, .touchmark, [⟨31, 0, .ro, 0⟩]⟩]

/-- Registers of the TileVe group. -/
def mapTileVe : List RegRow :=
  [⟨"VE_STAT", 0x2009000, [(192, 0x10000)], .clu, .bench, [⟨0, 0, .w1c, 0⟩, ⟨1, 1, .w1c, 0⟩, ⟨2, 2, .w1c, 0⟩, ⟨3, 3, .w1c, 0⟩, ⟨4, 4, .w1c, 0⟩, ⟨5, 5, .w1c, 0⟩, ⟨6, 6, .w1c, 0⟩]⟩,
   ⟨"VE_OPS", 0x2009004, [(192, 0x10000)], .clu, .bench, [⟨31, 0, .ro, 0⟩]⟩,
   ⟨"VE_CYC", 0x2009008, [(192, 0x10000)], .clu, .bench, [⟨31, 0, .ro, 0⟩]⟩,
   ⟨"VE_TREG", 0x200A000, [(192, 0x10000), (8, 0x200), (128, 0x4)], .clu, .bench, [⟨31, 0, .rw, 0⟩]⟩,
   ⟨"VE_MREG", 0x200B000, [(192, 0x10000), (4, 0x20), (8, 0x4)], .clu, .bench, [⟨31, 0, .rw, 0⟩]⟩,
   ⟨"VE_ACC", 0x200B400, [(192, 0x10000), (4, 0x400), (256, 0x4)], .clu, .bench, [⟨31, 0, .rw, 0⟩]⟩]

/-- Registers of the TileChg group. -/
def mapTileChg : List RegRow :=
  [⟨"TILE_CHG_CTL", 0x200E000, [(192, 0x10000)], .clu, .bench, [⟨0, 0, .rw, 0⟩, ⟨1, 1, .rw, 0⟩, ⟨2, 2, .rw, 0⟩, ⟨3, 3, .rw, 0⟩]⟩,
   ⟨"TILE_CHG_EBF", 0x200E004, [(192, 0x10000)], .clu, .bench, [⟨31, 0, .rw, 0⟩]⟩,
   ⟨"TILE_CHG_STAT", 0x200E008, [(192, 0x10000)], .clu, .bench, [⟨0, 0, .ro, 0⟩, ⟨1, 1, .w1c, 0⟩, ⟨31, 16, .rc, 0⟩]⟩,
   ⟨"TILE_CHG_H", 0x200E010, [(192, 0x10000), (4, 0x4)], .clu, .bench, [⟨31, 0, .rw, 0⟩]⟩]

/-- Registers of the Pf1 group. -/
def mapPf1 : List RegRow :=
  [⟨"PF1_BENCH_CTL", 0x10010000, [], .hst, .host, [⟨0, 0, .w1s, 0⟩, ⟨1, 1, .ro, 0⟩, ⟨2, 2, .w1c, 0⟩, ⟨3, 3, .ro, 1⟩]⟩,
   ⟨"PF1_BENCH_REQ_LEN", 0x10010004, [], .hst, .host, [⟨12, 0, .rw, 0⟩]⟩,
   ⟨"PF1_BENCH_RESP_LEN", 0x10010008, [], .hst, .host, [⟨12, 0, .ro, 0⟩]⟩,
   ⟨"PF1_BENCH_REQ", 0x10011000, [(1024, 0x4)], .hst, .host, [⟨31, 0, .rw, 0⟩]⟩,
   ⟨"PF1_BENCH_RESP", 0x10012000, [(1024, 0x4)], .hst, .host, [⟨31, 0, .ro, 0⟩]⟩,
   ⟨"PF1_TM_CTL", 0x10020000, [], .hst, .host, [⟨0, 0, .w1s, 0⟩, ⟨1, 1, .ro, 0⟩, ⟨2, 2, .w1c, 0⟩, ⟨3, 3, .ro, 1⟩]⟩,
   ⟨"PF1_TM_REQ_LEN", 0x10020004, [], .hst, .host, [⟨12, 0, .rw, 0⟩]⟩,
   ⟨"PF1_TM_RESP_LEN", 0x10020008, [], .hst, .host, [⟨12, 0, .ro, 0⟩]⟩,
   ⟨"PF1_TM_REQ", 0x10021000, [(1024, 0x4)], .hst, .host, [⟨31, 0, .rw, 0⟩]⟩,
   ⟨"PF1_TM_RESP", 0x10022000, [(1024, 0x4)], .hst, .host, [⟨31, 0, .ro, 0⟩]⟩,
   ⟨"PF1_MSIX_ADDR_LO", 0x100F0000, [(32, 0x10)], .hst, .host, [⟨31, 0, .rw, 0⟩]⟩,
   ⟨"PF1_MSIX_ADDR_HI", 0x100F0004, [(32, 0x10)], .hst, .host, [⟨31, 0, .rw, 0⟩]⟩,
   ⟨"PF1_MSIX_DATA", 0x100F0008, [(32, 0x10)], .hst, .host, [⟨31, 0, .rw, 0⟩]⟩,
   ⟨"PF1_MSIX_CTL", 0x100F000C, [(32, 0x10)], .hst, .host, [⟨0, 0, .rw, 1⟩]⟩,
   ⟨"PF1_PBA", 0x100F8000, [], .hst, .none, [⟨31, 0, .ro, 0⟩]⟩]

/-- The registers of the tile windows (R730). -/
def mapTile : List RegRow :=
  mapTileSeq ++ mapTileNe ++ mapTileCim ++ mapTileTouchstone ++ mapTileRowBuf ++ mapTileSpare ++ mapTileVe ++ mapTileChg

/-- The rows of the block in which offset `a` lies (R729). -/
def mapAt (a : Nat) : List RegRow :=
  if a < 0x100000 then mapGlb else if a < 0x200000 then mapPmu else if a < 0x400000 then mapTsb
  else if a < 0x800000 then mapNet else if a < 0xA00000 then mapJxl else if a < 0xB00000 then mapPpc
  else if a < 0xC00000 then mapSite else if a < 0xD00000 then mapAdm else if a < 0xE00000 then mapSee
  else if a < 0x1000000 then mapEvf else if a < 0x1400000 then mapSync else if a < 0x1500000 then mapLdl
  else if a < 0x1600000 then mapMem else if a < 0x1700000 then mapRas else if a < 0x2000000 then mapHst
  else if a < 0x10000000 then mapTile else mapPf1

/-- The array indices at which offset `a` lies inside dimensions `ds`, if it is the start of an element. -/
def dimIndex : List (Nat × Nat) → Nat → Option (List Nat)
  | [], r => if r = 0 then some [] else none
  | (c, st) :: ds, r => if r / st < c then (dimIndex ds (r % st)).map (r / st :: ·) else none

/-- The array indices of offset `a` in row `r`, if the row has a register there. -/
def RegRow.index (r : RegRow) (a : Nat) : Option (List Nat) :=
  if r.base ≤ a then dimIndex r.dims (a - r.base) else none

/-- The row that has a register at offset `a`. -/
def regRow (a : Nat) : Option RegRow := (mapAt a).find? (fun r => (r.index a).isSome)

/-- The node that NRT entry `i` stands for (08, The node remap table). -/
def nrtIdentity (i : Nat) : Nat := if i < 192 then i else 0xF00 + (i - 192)

/-- The reset value of the register at offset `a` (0 where the map has none); both copies of the NRT map every node to
itself (R313). -/
def regReset (a : Nat) : Word :=
  if 0xE01000 ≤ a ∧ a < 0xE01340 then BitVec.ofNat 32 (nrtIdentity ((a - 0xE01000) / 4))
  else if 0xE01400 ≤ a ∧ a < 0xE01740 then BitVec.ofNat 32 (nrtIdentity ((a - 0xE01400) / 4))
  else match regRow a with
  | some r => BitVec.ofNat 32 (resetWord r.fields)
  | none => 0

end Sys2Proof.Machine
end

