-- ==== Sys2Proof/Machine/Ops.lean ====
section
/-!
DEFINITION. Sys2Proof/Machine/Ops.lean: the named operations over the register file, the domains, the output list, the
access log and the free values. Every chapter's meanings go through these.
-/

namespace Sys2Proof.Machine

/-- The result of a command. -/
abbrev Res := Host.Outcome State Fault Refusal

/-! ### Named updates, one per part of State -/

/-- Replace `cfg`. -/
def State.setCfg (s : State) (x : Part) : State := { s with cfg := x }
/-- Replace `pins`. -/
def State.setPins (s : State) (x : Pins) : State := { s with pins := x }
/-- Replace `regs`. -/
def State.setRegs (s : State) (x : List (Nat × Word)) : State := { s with regs := x }
/-- Replace `tb`. -/
def State.setTb (s : State) (x : TimeBase) : State := { s with tb := x }
/-- Replace `hst`. -/
def State.setHst (s : State) (x : HostIf) : State := { s with hst := x }
/-- Replace `act`. -/
def State.setAct (s : State) (x : List (Nat × Word)) : State := { s with act := x }
/-- Replace `late`. -/
def State.setLate (s : State) (x : List (Fld × Nat)) : State := { s with late := x }
/-- Replace `sw`. -/
def State.setSw (s : State) (x : Switch) : State := { s with sw := x }
/-- Replace `see`. -/
def State.setSee (s : State) (x : Encoder) : State := { s with see := x }
/-- Replace `jxl`. -/
def State.setJxl (s : State) (x : List JPort) : State := { s with jxl := x }
/-- Replace `csi`. -/
def State.setCsi (s : State) (x : List CsiPort) : State := { s with csi := x }
/-- Replace `ppc`. -/
def State.setPpc (s : State) (x : List Chan) : State := { s with ppc := x }
/-- Replace `ald`. -/
def State.setAld (s : State) (x : Ald) : State := { s with ald := x }
/-- Replace `gates`. -/
def State.setGates (s : State) (x : List Gate) : State := { s with gates := x }
/-- Replace `fab`. -/
def State.setFab (s : State) (x : Fabric) : State := { s with fab := x }
/-- Replace `tiles`. -/
def State.setTiles (s : State) (x : List Tile) : State := { s with tiles := x }
/-- Replace `cimq`. -/
def State.setCimq (s : State) (x : List (Nat × Nat)) : State := { s with cimq := x }
/-- Replace `sync`. -/
def State.setSync (s : State) (x : Sync) : State := { s with sync := x }
/-- Replace `fw`. -/
def State.setFw (s : State) (x : Bench) : State := { s with fw := x }
/-- Replace `pmu`. -/
def State.setPmu (s : State) (x : Pmu) : State := { s with pmu := x }
/-- Replace `touch`. -/
def State.setTouch (s : State) (x : Touch) : State := { s with touch := x }
/-- Replace `ras`. -/
def State.setRas (s : State) (x : Ras) : State := { s with ras := x }
/-- Replace `mem`. -/
def State.setMem (s : State) (x : Memories) : State := { s with mem := x }
/-- Replace `ladle`. -/
def State.setLadle (s : State) (x : Ladle) : State := { s with ladle := x }
/-- Replace `freeCtr`. -/
def State.setFreeCtr (s : State) (x : Nat) : State := { s with freeCtr := x }
/-- Replace `out`. -/
def State.setOut (s : State) (x : List Out) : State := { s with out := x }

/-! ### The register file -/

/-- The word of register `a` as the hardware holds it. -/
def State.reg (s : State) (a : Nat) : Word := sparseGet regReset s.regs a

/-- The hardware puts `v` into register `a`. -/
def State.setReg (s : State) (a : Nat) (v : Word) : State := s.setRegs (sparsePut regReset s.regs a v)

/-- The value of a field. -/
def State.get (s : State) (f : Fld) : Nat := bitsOf (s.reg f.off).toNat f.hi f.lo

/-- The signed value of a field. -/
def State.geti (s : State) (f : Fld) : Int := sx (f.hi + 1 - f.lo) (s.get f)

/-- A one-bit field is set. -/
def State.flag (s : State) (f : Fld) : Bool := s.get f == 1

/-- The hardware sets a field (modulo its width). -/
def State.set (s : State) (f : Fld) (v : Nat) : State :=
  s.setReg f.off (BitVec.ofNat 32 (putBits (s.reg f.off).toNat f.hi f.lo v))

/-- The hardware sets a one-bit field. -/
def State.raise (s : State) (f : Fld) : State := s.set f 1

/-- The hardware clears a field. -/
def State.clear (s : State) (f : Fld) : State := s.set f 0

/-- The hardware sets a field to a signed value, modulo its width. -/
def State.seti (s : State) (f : Fld) (v : Int) : State := s.set f (ux (f.hi + 1 - f.lo) v)

/-- A saturating counter takes `n` (R18 RC counters). -/
def State.incBy (s : State) (f : Fld) (n : Nat) : State := s.set f (satAdd (f.hi + 1 - f.lo) (s.get f) n)

/-- A saturating counter takes 1. -/
def State.inc (s : State) (f : Fld) : State := s.incBy f 1

/-- A counter that counts modulo `2^w` takes `n`. -/
def State.incWrap (s : State) (f : Fld) (n : Nat) : State := s.set f (wrapAdd (f.hi + 1 - f.lo) (s.get f) n)

/-- A 64-bit value over a pair of registers, low word first. -/
def State.get64 (s : State) (lo hi : Fld) : Nat := s.get lo + s.get hi * 2 ^ 32

/-- Set a value over a pair of registers, low word first. -/
def State.set64 (s : State) (lo hi : Fld) (v : Nat) : State := (s.set lo v).set hi (v / 2 ^ 32)

/-- Every register for which `p` holds of its key goes back to its reset value. -/
def State.dropRegs (s : State) (p : Nat → Bool) : State := s.setRegs (s.regs.filter (fun e => !p e.1))

/-- An accepted write of `v` to the register at `a`, field by field by type (R18, R19), with its lock open. -/
def State.typed (s : State) (a v : Nat) : State :=
  match regRow a with
  | some r => s.setReg a (BitVec.ofNat 32 (writeWord r.fields true (s.reg a).toNat v))
  | none => s

/-- Words written to consecutive registers from `a`. -/
def State.typedAll (s : State) (a : Nat) (ws : List Nat) : State :=
  ws.zipIdx.foldl (fun s w => s.typed (a + 4 * w.2) w.1) s

/-! ### Registers in force, where writes are staged to the boundary (R130, R247, R267) -/

/-- The value in force of a field whose register is staged. -/
def State.aget (s : State) (f : Fld) : Nat := bitsOf (sparseGet regReset s.act f.off).toNat f.hi f.lo

/-- A one-bit field in force. -/
def State.aflag (s : State) (f : Fld) : Bool := s.aget f == 1

/-- The hardware changes a field in force. -/
def State.aset (s : State) (f : Fld) (v : Nat) : State :=
  let w := BitVec.ofNat 32 (putBits (sparseGet regReset s.act f.off).toNat f.hi f.lo v)
  s.setAct (sparsePut regReset s.act f.off w)

/-- Registers whose writes are staged: tap registers (not their counters), gate configuration +0x00 to +0x18, encoder
flow configuration +0x00 to +0x18. -/
def stagedReg (a : Nat) : Bool :=
  (decide (0x400A00 ≤ a ∧ a < 0x400E00) && decide (a % 0x40 < 0x10))
  || (decide (0xC01000 ≤ a ∧ a < 0xC03000) && decide (a % 0x100 ≤ 0x18))
  || (decide (0xD00100 ≤ a ∧ a < 0xD00900) && decide (a % 0x80 ≤ 0x18))

/-- Staged registers come into force. -/
def State.activate (s : State) : State := s.setAct (s.regs.filter (fun e => stagedReg e.1))

/-! ### Domains (19 R729, 20 R769) -/

/-- PMU_DOM_STAT.STATE of domain `d` is ON. -/
def State.domOn (s : State) (d : Nat) : Bool := s.get (F.domState d) == 2

/-- SEC is on. -/
def State.secOn (s : State) : Bool := s.domOn 0
/-- NET is on. -/
def State.netOn (s : State) : Bool := s.domOn 1
/-- ING is on. -/
def State.ingOn (s : State) : Bool := s.domOn 2
/-- FAB is on. -/
def State.fabOn (s : State) : Bool := s.domOn 3
/-- MEM is on. -/
def State.memOn (s : State) : Bool := s.domOn 4
/-- HST is on. -/
def State.hstOn (s : State) : Bool := s.domOn 5
/-- MGT is on. -/
def State.mgtOn (s : State) : Bool := s.domOn 6
/-- Cluster `k` is ACTIVE and does not enter another state. -/
def State.cluOn (s : State) (k : Nat) : Bool := s.get (F.PMU_CLU_STATE k) == 2 && !s.pmu.seqs.any (fun e => e.1 == 7 + k)
/-- Tile `n` is in NAP (R768). -/
def State.inNap (s : State) (n : Nat) : Bool := bitOf (s.get (F.PMU_NAP_STATE (n / 16))) (n % 16)
/-- Tile `n` exists on the part (R10), its cluster is ACTIVE (R372) and it is not in NAP (R768). -/
def State.tileOn (s : State) (n : Nat) : Bool := decide (n < s.cfg.tiles) && s.cluOn (n / 16) && !s.inNap n

/-- The domain of a register at the given array indices is on. -/
def State.regOn (s : State) (d : Dom) (idx : List Nat) : Bool :=
  match d with
  | .ao => !s.pins.porst
  | .sec => s.secOn
  | .net => s.netOn
  | .ing => s.ingOn
  | .fab => s.fabOn
  | .mem => s.memOn
  | .hst => s.hstOn
  | .mgt => s.mgtOn
  | .clu => s.tileOn (idx.headD 0)

/-- Agent `a` is among the writers (R20). (DEDUCED, log entry 18) -/
def Writers.allows : Writers → Agent → Bool
  | .none, _ => false
  | .bench, a => a == .bench
  | .benchTouchmark, a => a == .bench || a == .touchmark
  | .touchmark, a => a == .touchmark
  | .host, a => a == .host
  | .hostBench, a => a == .host || a == .bench
  | .hostBenchTouchmark, a => a == .host || a == .bench || a == .touchmark

/-- Causes of HST_ERR_INFO (19 R732). -/
inductive ErrCause where
  | notWriter | unmapped | width | domainOff | badMap | notReady | param
  deriving DecidableEq, Repr

/-- The code of a cause (19, HST_ERR_INFO). (DEDUCED, log entry 16) -/
def ErrCause.code : ErrCause → Nat
  | .notWriter => 1 | .unmapped => 2 | .width => 3 | .domainOff => 4 | .badMap => 5 | .notReady => 6 | .param => 7

/-- The code of an agent (19, HST_ERR_INFO.AGENT). -/
def agentCode : Agent → Nat
  | .host => 0 | .bench => 2 | .touchmark => 3

/-- R732: a discarded write or a zero-filled read is counted, and its offset, function, agent and cause recorded. The log
is in HST: with HST off nothing is recorded. -/
def State.logErr (s : State) (a : Agent) (pf bar off : Nat) (write : Bool) (c : ErrCause) : State :=
  if s.hstOn then
    let s := s.inc F.HST_ERR_CNT
    let s := s.set F.HST_ERR_ADDR off
    s.setReg F.HST_ERR_INFO_CAUSE.off
      (BitVec.ofNat 32 (c.code + bar * 2 ^ 4 + pf * 2 ^ 8 + agentCode a * 2 ^ 9 + b2n write * 2 ^ 11 + 2 ^ 31))
  else s

/-- GLB_BOOT.STAGE (19 R749). -/
def State.stage (s : State) : Nat := s.get F.GLB_BOOT_STAGE

/-- The host reaches every block (R750). (DEDUCED, log entry 17) -/
def reachAll (s : State) : Bool := s.stage == 4 || (s.stage == 5 && s.get F.GLB_BOOT_SAFE_SRC != 1)

/-- The host reaches the block of `key` in the present stage (R750). (DEDUCED, log entry 17) -/
def hostReaches (s : State) (key : Nat) : Bool :=
  reachAll s || decide (key < 0x100000) || decide (0x200000 ≤ key ∧ key < 0x800000) || decide (0x1700000 ≤ key ∧ key < 0x2000000)
  || decide (0x10000000 ≤ key)

/-- A write by agent `a` reaches the register at `off`: its domain is on and, for the host, the link is up and the block is reached in
this stage (R731, R750). (DEDUCED, log entry 17; DEDUCED, log entry 18) -/
def State.takesWrite (s : State) (on : Bool) (a : Agent) (off : Nat) : Bool :=
  on && (a != .host || (s.hstOn && hostReaches s off))

/-- A register write with a row of its own in the table: it takes effect when it reaches the register and the agent may write it, and
is otherwise discarded and logged (R20, R731, R732). (DEDUCED, log entry 16; DEDUCED, log entry 17; DEDUCED, log entry 18) -/
def State.guardWrite (s : State) (on : Bool) (w : Writers) (a : Agent) (off : Nat) (f : State → State) : State :=
  if !s.takesWrite on a off then s.logErr a 0 0 off true .domainOff
  else if w.allows a then f s else s.logErr a 0 0 off true .notWriter

/-- A write by Bench of a register in the window of tile `n`: a tile that the part lacks has no registers (R10, R731). -/
def State.guardTile (s : State) (n : Nat) (a : Agent) (off : Nat) (f : State → State) : State :=
  if s.cfg.tiles ≤ n then s.logErr a 0 0 off true .unmapped else s.guardWrite (s.tileOn n) .bench a off f

/-! ### Outputs, reports and free values -/

/-- Something leaves the block. (DESIGN CHOICE, log entry 4) -/
def State.emit (s : State) (o : Out) : State := s.setOut (o :: s.out)

/-- Bench is interrupted or told. -/
def State.bench (s : State) (n : Notice) (i : Nat) : State := s.emit (.bench n i)

/-- Vector `vec` of function `pf` is signalled (R735): while the vector is masked its pending bit waits (PCIe MSI-X).
(DESIGN CHOICE, log entry 86) -/
def State.msix (s : State) (pf vec : Nat) : State :=
  if !s.hstOn then s
  else if pf = 0 then
    if s.flag (F.HST_MSIX_CTL vec) then s.set (F.HST_PBA (vec / 32)) (s.get (F.HST_PBA (vec / 32)) ||| 2 ^ (vec % 32))
    else s.emit (.msix 0 vec)
  else if s.flag (F.PF1_MSIX_CTL vec) then s.set F.PF1_PBA (s.get F.PF1_PBA ||| 2 ^ vec)
  else s.emit (.msix 1 vec)

/-- The next index of the free values (Config): used once, then advanced. (DEDUCED, log entry 3) -/
def State.tick (s : State) : State := s.setFreeCtr (s.freeCtr + 1)

end Sys2Proof.Machine
end

