-- ==== Sys2Proof/Machine/Limits.lean ====
section
/-!
DEFINITION. Sys2Proof/Machine/Limits.lean: which values a register field takes (the limits of each chapter: R77, R91, R193, R238,
R265, R289, R304, R461, R501, R543, R607, R645, R753, R798, R833) and which locks are open (RWL, R18).
-/

namespace Sys2Proof.Machine

/-- A limit: the first register that has the field, the width of its equal parts, and their least and greatest value. -/
structure Limit where
  fld : Fld
  part : Nat
  lo : Nat
  hi : Nat
  deriving DecidableEq, Repr

/-- Limits of whole fields. -/
def limit (f : Fld) (lo hi : Nat) : Limit := ⟨f, f.hi + 1 - f.lo, lo, hi⟩

/-- Limits of the network plane and the time bases. -/
def limitsNet : List Limit :=
  [limit F.TSB_SERVO_CFG_PERIOD_LOG2 0 8, limit F.TSB_SERVO_CFG_LIMIT 0 200000, limit F.TSB_STEP_NS 0 999999999,
   limit F.TSB_EPOCH_LEN 4000 1000000, limit F.TSB_EPOCH_NEXT 4000 1000000, limit (F.TSB_PT_CFG_BEACON_MS 0) 1 100,
   limit F.NET_TC_CFG_MODE 0 2, ⟨F.NET_P_WEIGHT_LO 0, 8, 1, 255⟩, ⟨F.NET_P_WEIGHT_HI 0, 8, 1, 255⟩,
   ⟨F.NET_P_QMAP 0, 3, 0, 6⟩]

/-- Limits of the ports, the site and the ingress. -/
def limitsIng : List Limit :=
  [limit (F.JXL_P_CSI_CFG_LANES 0) 0 2, limit (F.PPC_CH_CFG_TSS1 0) 1 20, limit (F.PPC_CH_CFG_TSS2 0) 1 20,
   limit (F.PPC_CH_CFG_TSS_FAULT 0) 1 15, limit (F.PPC_CH_CFG_DET_INT 0) 1 20, limit F.PPC_CH16_CFG_TSS1 1 20,
   limit F.PPC_CH16_CFG_TSS2 1 20, limit F.PPC_CH16_CFG_TSS_FAULT 1 15, limit F.PPC_CH16_CFG_DET_INT 1 20,
   limit F.PPC_CH16_LIM_ILIM 100 2000, limit F.SITE_ALD_CFG_RATE 0 2, ⟨F.SITE_ALM_DEB 0, 8, 1, 255⟩,
   limit (F.ADM_GATE_CFG_BIN 0) 0 2, limit (F.ADM_GATE_CFG_THIN_K 0) 2 255, limit (F.ADM_GATE_MERGE 0) 1 65535,
   limit (F.SEE_F_CFG_GS 0) 0 4, limit (F.SEE_F_CFG_NGRP 0) 1 288, limit (F.SEE_F_THR_THR 0) 1 4095,
   limit (F.SEE_F_CLOSE 0) 125 125000, limit (F.SEE_F_TIMING 0) 0 10000, limit (F.SEE_F_FIFO 0) 1 1024]

/-- Limits of the fabric, the Ladle, the sync block and the tiles. -/
def limitsFab : List Limit :=
  [limit F.EVF_CTL_CT_SHARE 2 64, limit (F.EVF_T_FAN_CFG0_NLIST 0) 0 1024, limit (F.EVF_T_FAN_CFG0_SIZE 0) 0 2048,
   limit (F.EVF_T_FAN_CFG1_NLIST 0) 0 1024, limit (F.EVF_T_FAN_CFG1_SIZE 0) 0 2048, limit F.LDL_CTL_RUNAHEAD 0 4,
   limit F.LDL_STAGE_SZ 1 64, limit (F.SYNC_WATCH_CTL_VEC 0) 64 1023, limit (F.SYNC_MB_CFG_VEC 0) 64 1023,
   ⟨F.NE_ROUTE 0, 2, 0, 2⟩, limit (F.NE_REG4_K 0 0) 0 12, limit (F.NE_CLS_1C_LEN 0 0) 0 32,
   ⟨F.CIM_CFG_RES 0, 3, 3, 7⟩, limit (F.CIM_CAL_PAR_NWIN_LOG2 0) 10 16, limit (F.CIM_CAL_PAR_KS 0) 0 6,
   limit (F.CIM_CAL_PAR_CONV_N 0) 1 15, limit (F.CIM_CAL_PAR_CAL_AGE 0) 1 65535, limit (F.ASSAY_CFG_ASSAY_EP 0) 1 1024,
   limit (F.ASSAY_CFG_ALARM_N 0) 1 15, limit (F.ASSAY_CFG_STUCK_N 0) 64 65535, limit (F.CIM_TS_MSCAN_MARGIN 0 0) 6 9]

/-- Regions with a scrubber that paces itself in cycles (21 R815). -/
def scrubRegs : List Nat := [0, 1, 2, 3, 4, 7, 9, 12, 13, 14, 15]

/-- Limits of the power, error and host blocks. -/
def limitsOwn : List Limit :=
  [limit F.GLB_CIM_PGM 1 64, limit F.PMU_DVFS_CFG_SLEW 1 20, limit F.PMU_DVFS_CFG_SETTLE 0 100, limit F.PMU_AVS_VSET 550 850,
   limit F.PMU_THERM_CFG_WARN 60 114, limit F.PMU_THERM_CFG_QREL 80 110, limit F.RAS_CE_THR 1 65535, limit F.RAS_LINK_LINK_THR 1 65535,
   ⟨⟨0x1600080, 19, 0⟩, 20, 1, 1048575⟩, ⟨⟨0x1600084, 31, 0⟩, 32, 1, 65535000⟩,
   limit F.HST_CMDQ_SIZE 4 12, limit F.HST_CPLQ_SIZE 4 12, limit F.HST_NTFQ_SIZE 4 12,
   limit F.PF1_BENCH_REQ_LEN 0 4096, limit F.PF1_TM_REQ_LEN 0 4096]
  ++ scrubRegs.flatMap (fun r => [⟨⟨0x1600040 + 8 * r, 19, 0⟩, 20, 16, 4096⟩, ⟨⟨0x1600044 + 8 * r, 31, 0⟩, 32, 1, 65535000⟩])

/-- The limits of the register whose row starts at `base`. -/
def limitsOf (base : Nat) : List Limit :=
  (if base < 0x200000 then limitsOwn else if base < 0x800000 then limitsNet else if base < 0xE00000 then limitsIng
    else if base < 0x1600000 then limitsFab else if base < 0x2000000 then limitsOwn else if base < 0x10000000 then limitsFab
    else limitsOwn).filter (fun l => l.fld.off == base)

/-- `v` with every part of a field that is outside its limit replaced by the part of `old`, and whether one was. -/
def keepParts (l : Limit) (old : Nat) (v : Nat × Bool) : Nat × Bool :=
  (List.range ((l.fld.hi + 1 - l.fld.lo) / l.part)).foldl (fun v i =>
    let lo := l.fld.lo + i * l.part
    let hi := lo + l.part - 1
    let x := bitsOf v.1 hi lo
    if l.lo ≤ x ∧ x ≤ l.hi then v else (putBits v.1 hi lo (bitsOf old hi lo), true)) v

/-- Fields keep `old` over bits `[hi:lo]` when `bad` holds. -/
def keepIf (bad : Bool) (hi lo old : Nat) (v : Nat × Bool) : Nat × Bool :=
  if bad then (putBits v.1 hi lo (bitsOf old hi lo), true) else v

/-! ### Limits that join fields -/

/-- The gate's bounds of R238: MARK and BUDGET, and LAG times the epoch length. -/
def gateLimit (s : State) (base g old : Nat) (v : Nat × Bool) : Nat × Bool :=
  if base = (F.ADM_GATE_BUDGET 0).off then keepIf (decide (bitsOf v.1 19 0 < s.get (F.ADM_GATE_MARK g))) 19 0 old v
  else if base = (F.ADM_GATE_MARK 0).off then keepIf (decide (s.get (F.ADM_GATE_BUDGET g) < bitsOf v.1 19 0)) 19 0 old v
  else if base = (F.ADM_GATE_CFG_EN 0).off then
    keepIf (decide (1048576 < bitsOf v.1 15 8 * s.get F.TSB_EPOCH_LEN)) 15 8 old v
  else v

/-- The flow's bound of R265: PRB_BASE + NGRP * 2^GS. -/
def flowLimit (s : State) (base n old : Nat) (v : Nat × Bool) : Nat × Bool :=
  if base = (F.SEE_F_CFG_EN 0).off then
    let bad := decide (1024 < s.get (F.SEE_F_GEOM_PRB_BASE n) + bitsOf v.1 24 16 * 2 ^ bitsOf v.1 5 3)
    keepIf bad 24 16 old (keepIf bad 5 3 old v)
  else if base = (F.SEE_F_GEOM_PRB_BASE 0).off then
    keepIf (decide (1024 < bitsOf v.1 9 0 + s.get (F.SEE_F_CFG_NGRP n) * 2 ^ s.get (F.SEE_F_CFG_GS n))) 9 0 old v
  else v

/-- The neuron engine's bounds of R461: a whole write, or a field. -/
def neLimit (base old : Nat) (v : Nat × Bool) : Nat × Bool :=
  if base = (F.NE_INBOX 0).off then keepIf (decide (bitsOf v.1 15 0 % 8 ≠ 0)) 31 0 old v
  else if base = (F.NE_INBOX_LIM_SIZE 0).off then
    let z := bitsOf v.1 10 0
    keepIf (decide (z ≠ 0 ∧ (z < 8 ∨ 1024 < z))) 10 0 old v
  else if base = (F.NE_REG4_MBASE 0 0).off then
    let f := bitsOf v.1 19 18
    keepIf (f == 3 || decide (bitsOf v.1 17 0 % (4 * 2 ^ f) ≠ 0)) 31 0 old v
  else if base = (F.NE_CLS_00_INMODE 0 0).off then keepIf (bitsOf v.1 1 0 == 3) 31 0 old v
  else if base = (F.NE_CLS_30_RESET 0 0).off then keepIf (bitsOf v.1 4 3 == 3) 31 0 old v
  else if base = (F.NE_CLS_10_TBL0 0 0).off then
    (List.range 4).foldl (fun v i =>
      let x := bitsOf v.1 (5 * i + 4) (5 * i)
      keepIf (decide (15 < x ∧ x < 31)) (5 * i + 4) (5 * i) old v) v
  else if base = (F.NE_RING4_RBASE 0 0).off then
    keepIf (decide (18 < bitsOf v.1 17 16 + bitsOf v.1 22 18)) 22 16 old v
  else v

/-- The word that a write of `v` offers to the fields of a register, with what is outside the limits taken from `old`, and
whether anything was. -/
def offered (s : State) (base : Nat) (idx : List Nat) (old v : Nat) : Nat × Bool :=
  let w := (limitsOf base).foldl (fun w l => keepParts l old w) (v % 2 ^ 32, false)
  let w := gateLimit s base (idx.headD 0) old w
  let w := flowLimit s base (idx.headD 0) old w
  let w := neLimit base old w
  let w := if base = F.TSB_ORAN_ALPHA.off then
      keepIf (decide (sx 32 w.1 < -10000000 ∨ 9999999 < sx 32 w.1)) 31 0 old w
    else w
  let w := if base = (F.EVF_T_FAN_BASE0 0).off ∨ base = (F.EVF_T_FAN_BASE1 0).off then keepIf (decide (w.1 % 4 ≠ 0)) 15 0 old w
    else w
  -- R77: a value outside the limits of a TSB register leaves the whole register as it was.
  if w.2 && decide (0x200000 ≤ base ∧ base < 0x400000) then (old, true) else w

/-! ### Locks -/

/-- The lock of the RWL fields of a register is open. -/
def lockOpen (s : State) (base : Nat) (idx : List Nat) : Bool :=
  let n := idx.headD 0
  if base < 0xA00000 then !s.flag (F.JXL_P_CFG_EN n)
  else if base = (F.EVF_T_FAN_BASE0 0).off ∨ base = (F.EVF_T_FAN_CFG0_NLIST 0).off then s.flag F.EVF_CTL_ACTIVE
  else if base = (F.EVF_T_FAN_BASE1 0).off ∨ base = (F.EVF_T_FAN_CFG1_NLIST 0).off then !s.flag F.EVF_CTL_ACTIVE
  else if base = F.SYNC_MB_BASE.off then
    !(s.regs.any (fun e => decide (0x1004000 ≤ e.1 ∧ e.1 < 0x1008000) && bitOf e.2.toNat 31))
  else if base < 0x1500000 then !s.flag F.LDL_CTL_EN
  else if base < 0x1600000 then !s.flag F.MEM_STAT_READY
  else if base < F.HST_NTFQ_BASE_LO.off then !s.flag F.HST_RING_CTL_EN
  else if base < 0x2000000 then !s.flag F.HST_RING_CTL_NTF_EN
  else !s.flag (F.NE_CTL_EN n)

/-- REFUSED of the block that holds the register, where its chapter has one. -/
def refuseIn (base : Nat) (idx : List Nat) (s : State) : State :=
  let n := idx.headD 0
  if 0xC01000 ≤ base ∧ base < 0xC03000 then s.raise (F.ADM_GATE_CFG_REFUSED n)
  else if 0x100000 ≤ base ∧ base < 0x200000 then s.raise F.PMU_DEV_CTL_REFUSED
  else if 0x1400000 ≤ base ∧ base < 0x1500000 then s.raise F.LDL_CTL_REFUSED
  else if 0x1000000 ≤ base ∧ base < 0x1400000 then s.raise F.SYNC_CTL
  else if 0x2002000 ≤ base ∧ base < 0x2009000 then s.raise (F.CIM_STAT_REFUSED n)
  else s

/-- An accepted write of `v` to register `off` (R18, R19) within the limits of its chapter; R753 logs a value outside those of the
host interface. (DEDUCED, log entry 100) -/
def limited (agent : Agent) (off v : Nat) (s : State) : State :=
  match regRow off with
  | none => s
  | some r =>
    let idx := (r.index off).getD []
    let old := (s.reg off).toNat
    let w := offered s r.base idx old v
    let s1 := s.setReg off (BitVec.ofNat 32 (writeWord r.fields (lockOpen s r.base idx) old w.1))
    if !w.2 then s1
    else if 0x10000000 ≤ r.base then s1.logErr agent 1 0 (off - 0x10000000) true .param
    else if 0x1700000 ≤ r.base ∧ r.base < 0x2000000 then s1.logErr agent 0 0 off true .param
    else refuseIn r.base idx s1

end Sys2Proof.Machine
end

