-- ==== Sys2Proof/Machine/TimeBase.lean ====
section
/-!
DEFINITION. Sys2Proof/Machine/TimeBase.lean: site time, the epoch grid, the servo and the port maps (02_time_bases).
-/

namespace Sys2Proof.Machine

/-! ### Site time -/

/-- Site time in 2^-40 ns (R51). -/
def TimeBase.q40 (t : TimeBase) : Nat := (t.sec * 1000000000 + t.ns) * 2 ^ 40 + t.frac

/-- The site tick count (R52). -/
def TimeBase.ticks (t : TimeBase) : Nat := (t.sec * 1000000000 + t.ns) / 8 % 2 ^ 64

/-- The site tick count of the state (R52). -/
def State.T (s : State) : Nat := s.tb.ticks

/-- Site time from 2^-40 ns; the seconds wrap modulo 2^48. -/
def TimeBase.ofQ40 (t : TimeBase) (q : Nat) : TimeBase :=
  let n := q / 2 ^ 40
  { t with sec := n / 1000000000 % 2 ^ 48, ns := n % 1000000000, frac := q % 2 ^ 40 }

/-- INCR, Q4.40 ns. -/
def State.incr (s : State) : Nat := s.get64 F.TSB_INCR_LO F.TSB_INCR_HI

/-- Set INCR. -/
def State.setIncr (s : State) (v : Nat) : State := s.set64 F.TSB_INCR_LO F.TSB_INCR_HI v

/-- A debug session counts its seconds down; it ends by row DEBUG_SESSION_EXPIRE (22 R848). (DESIGN CHOICE, log entry 35) -/
def debugSecond (s : State) : State :=
  if s.get F.GLB_LC_DBG_LEFT ≤ 1 then s else s.set F.GLB_LC_DBG_LEFT (s.get F.GLB_LC_DBG_LEFT - 1)

/-- The whole second changes: the timing-output registers come into force (02, PPS_OUT_CFG), and the corrected errors of the
second are counted afresh (21 R827). (DESIGN CHOICE, log entry 35) -/
def secondChange (old : Nat) (s : State) : State :=
  if s.tb.sec = old then s
  else
    let t := { s.tb with ppsOut := (s.reg F.TSB_PPS_OUT_CFG_EN.off).toNat, ppsAdv := s.get F.TSB_PPS_OUT_ADV,
                         tenOut := (s.reg F.TSB_TEN_OUT_CFG_EN.off).toNat }
    debugSecond ((s.setRas { s.ras with ceSec := List.replicate 19 0 }).setTb t)

/-- AO time over `n` cycles of 8 ns: 32,768 ticks a second (20, PMU_AO_CNT). (DESIGN CHOICE, log entry 35) -/
def aoTime (n : Nat) (s : State) : State :=
  let x := s.pmu.aoPhase + 262144 * n
  let s := (s.setPmu { s.pmu with aoPhase := x % 1000000000 })
  if x < 1000000000 then s
  else s.set64 F.PMU_AO_CNT_LO F.PMU_AO_CNT_HI (s.get64 F.PMU_AO_CNT_LO F.PMU_AO_CNT_HI + x / 1000000000)

/-- `n` cycles of the site counter: site time and the residence timeline advance by INCR each (R51, 03), and AO time with them.
(DEDUCED, log entry 36) -/
def advance (n : Nat) (s : State) : State :=
  let d := n * s.incr
  let old := s.tb.sec
  aoTime n (secondChange old (s.setTb { s.tb.ofQ40 (s.tb.q40 + d) with resid := s.tb.resid + d }))

/-- How many cycles until T reaches or passes tick `b`, at least one (R67). -/
def cyclesTo (s : State) (b : Nat) : Nat :=
  max 1 (ceilDiv (b * 8 * 2 ^ 40 - s.tb.q40) s.incr)

/-- Site time moves to the first cycle on which T reaches or passes `b`. -/
def advanceTo (b : Nat) (s : State) : State := advance (cyclesTo s b) s

/-! ### The epoch grid -/

/-- EPOCH_NUM. -/
def State.epochNum (s : State) : Nat := s.get F.TSB_EPOCH_NUM

/-- RUN: a plan is running. -/
def State.running (s : State) : Bool := s.flag F.TSB_EPOCH_CTL_RUN

/-- ORIGIN. -/
def State.origin (s : State) : Nat := s.get64 F.TSB_EPOCH_ORIGIN_LO F.TSB_EPOCH_ORIGIN_HI

/-- Record the start of the epoch in force; the history keeps 256 epochs (06 R219). -/
def setStart (s : State) (t : Nat) : State :=
  (s.setTb { s.tb with start := t, starts := (s.epochNum, t) :: (s.tb.starts.filter (fun e => e.1 ≠ s.epochNum)).take 255 })

/-- R70: the grid after a step or a write of LEN or ORIGIN. -/
def regrid (s : State) : State :=
  let len := s.get F.TSB_EPOCH_LEN
  let o := s.origin
  let t := s.T
  if t < o then setStart (s.setTb { s.tb with next := o }) t
  else
    let k := (t - o) / len
    setStart (s.setTb { s.tb with next := o + (k + 1) * len }) (o + k * len)

/-- The time-base part of an epoch boundary (R67, R69): EPOCH_NUM counts, an armed length is taken, the next boundary is
placed. `armed` is the ARM bit as it stood before the boundary's cycle. -/
def boundaryGrid (s : State) : State :=
  let b := s.tb.next
  let s := s.set F.TSB_EPOCH_NUM (s.epochNum + 1)
  let s := if s.flag F.TSB_EPOCH_CTL_ARM then
      let s := s.set64 F.TSB_EPOCH_ORIGIN_LO F.TSB_EPOCH_ORIGIN_HI b
      let s := s.set F.TSB_EPOCH_LEN (s.get F.TSB_EPOCH_NEXT)
      s.clear F.TSB_EPOCH_CTL_ARM
    else s
  setStart (s.setTb { s.tb with next := b + s.get F.TSB_EPOCH_LEN }) b

/-- R61, R60, R70: a step requested by TSB_STEP_CTL.GO, `relative` being MODE. -/
def timeStep (relative : Bool) (s : State) : State :=
  let s := s.set F.TSB_STEP_CTL_MODE (b2n relative)
  if s.running then s.raise F.TSB_STAT_STEP_REFUSED
  else
    let sec := s.get64 F.TSB_STEP_SEC_LO F.TSB_STEP_SEC_HI
    let ns := s.get F.TSB_STEP_NS
    if relative then
      let s := advance 1 s
      let n : Int := (s.tb.sec * 1000000000 + s.tb.ns : Nat) + sx 48 sec * 1000000000 + ns
      let old := s.tb.sec
      regrid (secondChange old (s.setTb { s.tb with sec := (n / 1000000000 % 2 ^ 48).toNat, ns := (n % 1000000000).toNat }))
    else
      let old := s.tb.sec
      let s := (s.setTb { s.tb with sec := sec % 2 ^ 48, ns := ns, frac := 0, resid := s.tb.resid + s.incr })
      regrid ((secondChange old s).raise F.TSB_STAT_TOD_SET)

/-- Row TIME_STEP: a write of TSB_STEP_CTL with GO = 1 (R60, R61). -/
def execTimeStep (agent : Agent) (relative : Bool) (s : State) : Res :=
  .next (s.guardWrite s.netOn .benchTouchmark agent F.TSB_STEP_CTL_GO.off (timeStep relative))

/-- Row EPOCH_ARM: a write of TSB_EPOCH_CTL with ARM = 1 (R69). -/
def execEpochArm (agent : Agent) (s : State) : Res :=
  .next (s.guardWrite s.netOn .bench agent F.TSB_EPOCH_CTL_ARM.off (·.raise F.TSB_EPOCH_CTL_ARM))

/-- The register of row EPOCH_GRID_WRITE. -/
def gridFld : GridReg → Fld
  | .len => F.TSB_EPOCH_LEN
  | .originLo => F.TSB_EPOCH_ORIGIN_LO
  | .originHi => F.TSB_EPOCH_ORIGIN_HI

/-- R68, R70, R77: a write of LEN or ORIGIN. -/
def gridWrite (r : GridReg) (v : Nat) (s : State) : State :=
  if s.running then s.raise F.TSB_EPOCH_CTL_WR_REFUSED
  else if r = .len ∧ (v % 2 ^ 20 < 4000 ∨ 1000000 < v % 2 ^ 20) then s
  else regrid (s.set (gridFld r) v)

/-- Row EPOCH_GRID_WRITE (R68, R70). -/
def execEpochGridWrite (agent : Agent) (reg : GridReg) (data : Word) (s : State) : Res :=
  .next (s.guardWrite s.netOn .bench agent (gridFld reg).off (gridWrite reg data.toNat))

/-- R76: reading TSB_SNAP_SEC_LO latches seconds, nanoseconds, fraction and T of one cycle. -/
def snapshot (s : State) : State :=
  let s := s.set64 F.TSB_SNAP_SEC_LO F.TSB_SNAP_SEC_HI s.tb.sec
  let s := s.set F.TSB_SNAP_NS s.tb.ns
  let s := s.set F.TSB_SNAP_FRAC (s.tb.frac / 2 ^ 24)
  s.set64 F.TSB_TICK_LO F.TSB_TICK_HI s.T

/-- Row SNAPSHOT_READ (R76); with NET off the read returns zero (19 R731). -/
def execSnapshotRead (s : State) : Res :=
  .next (if s.netOn then snapshot s else s.logErr .host 0 0 F.TSB_SNAP_SEC_LO.off false .domainOff)

/-! ### The servo -/

/-- Servo states (02, Lock and holdover). -/
inductive Servo where
  | freerun | acquire | locked | holdover
  deriving DecidableEq, Repr

/-- The code of a servo state in TSB_STAT.STATE. -/
def Servo.code : Servo → Nat
  | .freerun => 0 | .acquire => 1 | .locked => 2 | .holdover => 3

/-- The state a code of TSB_STAT.STATE names. -/
def servoOf (n : Nat) : Servo :=
  if n = 1 then .acquire else if n = 2 then .locked else if n = 3 then .holdover else .freerun

/-- The servo's state. -/
def State.servo (s : State) : Servo := servoOf (s.get F.TSB_STAT_STATE)

/-- A notification that Bench owes the host (19 R742). -/
def State.owe (s : State) (source index data : Nat) : State :=
  (s.setHst { s.hst with notes := s.hst.notes ++ [⟨source, index, data, s.epochNum⟩] })

/-- The servo enters state `v`; a change is an event for the host (19 R742, SOURCE 0x09). -/
def setServo (v : Servo) (s : State) : State :=
  if s.servo = v then s
  else
    let s := s.set F.TSB_STAT_STATE v.code
    s.owe 0x09 0 (s.reg F.TSB_STAT_STATE.off).toNat

/-- INCR of a frequency correction of `num / 2^sh` ppb: the nominal word plus the rounded correction (02, Equations).
(DEDUCED, log entry 37) -/
def incrOf (num : Int) (sh : Nat) : Nat :=
  (0x80000000000 + roundDiv (num * (8 * 2 ^ 40)) (2 ^ sh * 1000000000)).toNat

/-- R58: entry to HOLDOVER freezes INCR from the integral term. -/
def holdover (s : State) : State :=
  (setServo .holdover s).setIncr (incrOf (s.geti F.TSB_SERVO_INT) 8)

/-- FREERUN: INCR takes TSB_INCR_INIT. -/
def freerun (s : State) : State :=
  ((setServo .freerun s).setIncr (s.get64 F.TSB_INCR_INIT_LO F.TSB_INCR_INIT_HI)).clear F.TSB_STAT_ACTIVE_SRC

/-- HOLD_FORCE set: HOLDOVER at once, while the servo is enabled (R58, TSB_CTL). -/
def holdForce (s : State) : State :=
  let s := s.raise F.TSB_CTL_HOLD_FORCE
  if s.flag F.TSB_CTL_SERVO_EN then holdover s else s

/-- Row HOLD_FORCE: a write of TSB_CTL that sets HOLD_FORCE. -/
def execHoldForce (agent : Agent) (s : State) : Res :=
  .next (s.guardWrite s.netOn .benchTouchmark agent F.TSB_CTL_HOLD_FORCE.off holdForce)

/-- A write of TSB_CTL: SERVO_EN, REVERTIVE and HOLD_FORCE act at once. (DEDUCED, log entry 36) -/
def ctlWrite (v : Nat) (s : State) : State :=
  let s := ((s.set F.TSB_CTL_SERVO_EN v).set F.TSB_CTL_REVERTIVE (v / 2)).set F.TSB_CTL_HOLD_FORCE (v / 4)
  if !s.flag F.TSB_CTL_SERVO_EN then freerun s
  else if s.flag F.TSB_CTL_HOLD_FORCE then holdover s else s

/-- Site time in 250 ps units, `q` units after the counter's cycle. -/
def State.quarters (s : State) (q : Nat) : Nat := s.tb.q40 / 2 ^ 38 + q

/-- |θ| (Q24.8 ns) exceeds `thr` ns. -/
def beyond (theta : Int) (thr : Nat) : Bool := decide ((thr : Int) * 256 < theta.natAbs)

/-- R54, R84: a PPS edge captured `q` quarter nanoseconds after the counter's cycle. -/
def ppsEdge (q : Nat) (s : State) : State :=
  let cap : Int := s.quarters q
  let dly : Int := s.get F.TSB_PPS_IN_CFG_CABLE_DLY
  let n := (cap - dly + 2000000000) / 4000000000
  let s := s.set F.TSB_PPS_CAP ((cap / 4) % 1000000000).toNat
  if s.tb.ppsSecond = some n.toNat then s.inc F.TSB_PPS_BAD
  else
    let theta := (n * 4000000000 + dly - cap) * 64
    let bad := s.servo = .locked && beyond theta (s.get F.TSB_LOCK_CFG_UNLOCK_THR)
    let s := if bad then s.inc F.TSB_PPS_BAD else s
    (s.setTb { s.tb with ppsSecond := some n.toNat, pps := { s.tb.pps with present := true, theta := theta, weight := if bad then 0 else 255 } })

/-- Row PPS_IN_EDGE: captured when EN and the edge is the one EDGE names (R54). -/
def execPpsInEdge (rising : Bool) (quarter : Nat) (s : State) : Res :=
  .next (if s.netOn && s.flag F.TSB_PPS_IN_CFG_EN && (rising == !s.flag F.TSB_PPS_IN_CFG_EDGE) then ppsEdge quarter s else s)

/-- R79 and the Sources table: the pushed sample with the least path delay of the period is kept. -/
def ptpPush (w : Nat) (s : State) : State :=
  let d := s.geti F.TSB_PTP_DLY
  let s := s.inc F.TSB_PTP_CNT
  if s.tb.ptp.present && decide (s.tb.ptpDelay ≤ d) then s
  else (s.setTb { s.tb with ptpDelay := d, ptp := { s.tb.ptp with present := true, theta := s.geti F.TSB_PTP_OFS, weight := w % 256 } })

/-- Row PTP_SAMPLE_PUSH: a write of TSB_PTP_PUSH. -/
def execPtpSamplePush (agent : Agent) (weight : Nat) (s : State) : Res :=
  .next (s.guardWrite s.netOn .bench agent F.TSB_PTP_PUSH.off (ptpPush weight))

/-- The 10M phase of an edge: the nearest multiple of 100 ns minus the captured time less the input delay, wrapped into
[-50, +50) ns, in 250 ps units. -/
def tenPhase (cap dly : Int) : Int := (200 - (cap - dly)) % 400 - 200

/-- Row TIME10M_IN_EDGE (R53): a captured edge, or a missing one. -/
def execTime10mInEdge (missing : Bool) (quarter : Nat) (s : State) : Res :=
  .next (if s.netOn && s.flag F.TSB_TEN_CFG_EN then
    if missing then (s.setTb { s.tb with tenMissing := true })
    else
      (s.setTb { s.tb with tenSum := s.tb.tenSum + tenPhase (s.quarters quarter) (s.get F.TSB_TEN_CFG_DLY), tenCount := s.tb.tenCount + 1 })
  else s)

/-- The mean 10M phase becomes the period's sample (02, Sources). -/
def closeTen (s : State) : State :=
  if s.tb.tenCount = 0 then (s.setTb { s.tb with tenMissing := false })
  else
    let th := roundDiv (s.tb.tenSum * 64) s.tb.tenCount
    let s := s.seti F.TSB_TEN_PH th
    (s.setTb { s.tb with tenSum := 0, tenCount := 0, tenMissing := false, ten := { s.tb.ten with present := true, theta := th, weight := if s.tb.tenMissing then 0 else 255 } })

/-- A source at the end of a period: a sample of non-zero weight is an arrival (R54, R56). -/
def Source.close (x : Source) : Source :=
  if x.present && x.weight ≠ 0 then { x with idle := 0, run := x.run + 1 } else { x with idle := satAdd 8 x.idle 1, run := 0 }

/-- The source of a priority code: 1 PPS, 2 PTP, 3 10M. -/
def TimeBase.source (t : TimeBase) (c : Nat) : Source := if c = 1 then t.pps else if c = 2 then t.ptp else t.ten

/-- A source delivered a valid sample within the last TIMEOUT periods. -/
def srcValid (s : State) (c : Nat) : Bool :=
  decide (c ≠ 0) && decide ((s.tb.source c).idle < s.get F.TSB_SRC_CTL_TIMEOUT)

/-- The priority list (TSB_SRC_CTL). -/
def priorities (s : State) : List Nat :=
  [s.get F.TSB_SRC_CTL_PRI0, s.get F.TSB_SRC_CTL_PRI1, s.get F.TSB_SRC_CTL_PRI2].filter (· ≠ 0)

/-- R55, R56: the active source of this period (0: none). -/
def selectSource (s : State) : Nat :=
  let ps := priorities s
  let a := s.get F.TSB_STAT_ACTIVE_SRC
  let best := (ps.find? (srcValid s)).getD 0
  if ps.contains a && srcValid s a then
    if s.flag F.TSB_CTL_REVERTIVE then
      ((ps.takeWhile (· ≠ a)).find? (fun c => srcValid s c && decide (s.get F.TSB_SRC_CTL_REVERT_CNT ≤ (s.tb.source c).run))).getD a
    else a
  else best

/-- TSB_STAT validity bits. -/
def showValid (s : State) : State :=
  ((s.set F.TSB_STAT_PPS_VALID (b2n (srcValid s 1))).set F.TSB_STAT_PTP_VALID (b2n (srcValid s 2))).set
    F.TSB_STAT_TEN_VALID (b2n (srcValid s 3))

/-- The loop: integral, output and INCR for a weighted error `e16` in 2^-16 ns (02, Equations; R57). Ki and Kp are Q2.14,
so `k * e16` is in 2^-30; with P = 2^(PERIOD_LOG2 - 4) s it is divided by 2^(26 + PERIOD_LOG2). I is kept in Q24.8.
(DEDUCED, log entry 37) -/
def servoLoop (e16 : Int) (s : State) : State :=
  let pl := s.get F.TSB_SERVO_CFG_PERIOD_LOG2
  let lim : Int := s.get F.TSB_SERVO_CFG_LIMIT
  let i0 := s.geti F.TSB_SERVO_INT + roundDiv (s.get F.TSB_SERVO_KI * e16 * 256) (2 ^ (26 + pl))
  let i := clampI (-lim * 256) (lim * 256) i0
  let sh := 26 + pl
  let y0 := s.get F.TSB_SERVO_KP * e16 + i * 2 ^ (sh - 8)
  let y := clampI (-lim * 2 ^ sh) (lim * 2 ^ sh) y0
  let s := s.seti F.TSB_SERVO_INT i
  let s := s.seti F.TSB_SERVO_ERR (roundDiv e16 256)
  let s := s.setIncr (incrOf y sh)
  if i = i0 ∧ y = y0 then s else s.raise F.TSB_STAT_SLEW_LIMIT

/-- Lock detection on the θ the active source measured (R54, Lock and holdover). -/
def lockDetect (x : Source) (s : State) : State :=
  if !x.present then s
  else match s.servo with
  | .acquire =>
    if beyond x.theta (s.get F.TSB_LOCK_CFG_LOCK_THR) then (s.setTb { s.tb with lockRun := 0 })
    else if s.get F.TSB_LOCK_CFG_LOCK_CNT ≤ s.tb.lockRun + 1 then
      setServo .locked (s.setTb { s.tb with lockRun := 0, unlockRun := 0 })
    else (s.setTb { s.tb with lockRun := s.tb.lockRun + 1 })
  | .locked =>
    if beyond x.theta (s.get F.TSB_LOCK_CFG_UNLOCK_THR) then
      if s.tb.unlockRun = 0 then (s.setTb { s.tb with unlockRun := 1 })
      else setServo .acquire (s.setTb { s.tb with unlockRun := 0, lockRun := 0 })
    else (s.setTb { s.tb with unlockRun := 0 })
  | _ => s

/-- The samples of a period that has ended are dropped. -/
def clearSamples (s : State) : State :=
  ((s.clear F.TSB_PTP_CNT).setTb { s.tb with pps := { s.tb.pps with present := false }, ptp := { s.tb.ptp with present := false }, ten := { s.tb.ten with present := false } })

/-- The end of a servo period (R54 to R59, R78, R82). (DEDUCED, log entry 37) -/
def servoUpdate (s : State) : State :=
  let s := closeTen s
  let s := (s.setTb { s.tb with pps := s.tb.pps.close, ptp := s.tb.ptp.close, ten := s.tb.ten.close })
  let s := showValid s
  if !s.flag F.TSB_CTL_SERVO_EN then clearSamples (freerun s)
  else
    let a := selectSource s
    let s := s.set F.TSB_STAT_ACTIVE_SRC a
    let x := s.tb.source a
    let moves := decide (a ≠ 0) && x.present && decide (x.weight ≠ 0)
    if s.flag F.TSB_CTL_HOLD_FORCE then clearSamples (if s.servo = .holdover then s else holdover s)
    else match s.servo with
    | .acquire | .locked =>
      if a = 0 then clearSamples (holdover s)
      else
        let s := if moves then servoLoop (x.theta * x.weight) s else s
        clearSamples (lockDetect x s)
    | _ =>
      if moves then
        clearSamples (servoLoop (x.theta * x.weight) (setServo .acquire (s.setTb { s.tb with lockRun := 0, unlockRun := 0 })))
      else clearSamples s

/-- Row SERVO_UPDATE (R57). -/
def execServoUpdate (s : State) : Res := .next (if s.netOn then servoUpdate s else s)

/-- The source's timeout expires: it becomes invalid, selection or holdover follows (R78, Lock and holdover). A valid
sample already measured in this period wins (R78). -/
def sourceTimeout (c : Nat) (s : State) : State :=
  let x := s.tb.source c
  if x.present && decide (x.weight ≠ 0) then s
  else
    let y := { x with idle := 255, run := 0 }
    let s := (s.setTb (if c = 1 then { s.tb with pps := y } else if c = 2 then { s.tb with ptp := y } else { s.tb with ten := y }))
    let s := showValid s
    let a := selectSource s
    let s := if s.flag F.TSB_CTL_SERVO_EN then s.set F.TSB_STAT_ACTIVE_SRC a else s
    if s.flag F.TSB_CTL_SERVO_EN && decide (a = 0) && (s.servo = .acquire || s.servo = .locked) then holdover s else s

/-- The code of a source. -/
def srcCode : TimeSource → Nat
  | .pps => 1 | .ptp => 2 | .ten => 3

/-- Row SOURCE_TIMEOUT (R78). -/
def execSourceTimeout (src : TimeSource) (s : State) : Res :=
  .next (if s.netOn then sourceTimeout (srcCode src) s else s)

/-- Row REFCLK_LOSS (R83): REFLOSS is set and Bench is interrupted. -/
def execRefclkLoss (s : State) : Res :=
  .next (if s.netOn then
    ((s.setTb { s.tb with refclk := false }).raise F.TSB_STAT_REFLOSS).bench .refclkLoss 0
  else (s.setTb { s.tb with refclk := false }))

/-- PPS_OUT runs (R73). (DESIGN CHOICE, log entry 38) -/
def ppsOutRuns (s : State) : Bool :=
  s.netOn && bitOf s.tb.ppsOut 0 && (!bitOf s.tb.ppsOut 1 || s.servo ≠ .freerun)

/-- TIME10M_OUT runs (R73). (DESIGN CHOICE, log entry 38) -/
def tenOutRuns (s : State) : Bool :=
  s.netOn && bitOf s.tb.tenOut 0 && (!bitOf s.tb.tenOut 1 || s.servo ≠ .freerun)

/-! ### Port maps -/

/-- The map of port `n`. -/
def State.pmap (s : State) (n : Nat) : PortMap := s.tb.maps.getD n {}

/-- Replace the map of port `n`, and show it in its registers (02, TSB_PT_*). -/
def State.setMap (s : State) (n : Nat) (m : PortMap) : State :=
  let s := (s.setTb { s.tb with maps := s.tb.maps.set n m })
  let s := s.set64 (F.TSB_PT_OFS_LO n) (F.TSB_PT_OFS_HI n) (ux 64 m.o)
  let s := s.set64 (F.TSB_PT_P0_LO n) (F.TSB_PT_P0_HI n) m.p0
  s.set (F.TSB_PT_RATE n) m.r

/-- M(p) in 2^-33 ticks, for a port time of `p9` in 2^-9 µs (02, Port time and its mapping). -/
def PortMap.at9 (m : PortMap) (p9 : Int) : Int := m.o * 2 ^ 17 + m.r * (p9 - m.p0 * 2 ^ 9)

/-- R65: the stamp of port time `p` (whole µs): floor(M(p)) site ticks. -/
def PortMap.stamp (m : PortMap) (p : Nat) : Int := m.at9 (p * 2 ^ 9) / 2 ^ 33

/-- Port-map states: 0 IDLE, 1 ACQUIRE, 2 LOCKED, 3 HOLD. -/
def mapIdle (n : Nat) (s : State) : State :=
  let s := (s.clear (F.TSB_PT_STAT_STATE n)).clear (F.TSB_PT_STAT_MISS n)
  (s.setTb { s.tb with maps := s.tb.maps.set n { s.pmap n with started := false, outstanding := none, delays := [], goodRun := 0, badRun := 0 } })

/-- An exchange fails or is discarded (R64, R78): the eighth in a row takes a started map to HOLD. -/
def mapMiss (n : Nat) (s : State) : State :=
  let s := s.inc (F.TSB_PT_STAT_MISS n)
  let s := (s.setTb { s.tb with maps := s.tb.maps.set n { s.pmap n with outstanding := none, goodRun := 0, badRun := 0 } })
  if 8 ≤ s.get (F.TSB_PT_STAT_MISS n) && decide (s.get (F.TSB_PT_STAT_STATE n) = 1 ∨ s.get (F.TSB_PT_STAT_STATE n) = 2)
  then s.set (F.TSB_PT_STAT_STATE n) 3 else s

/-- R = 125.0 * (1 - 500 ppm) and 125.0 * (1 + 500 ppm), Q8.24. -/
def rateLo : Int := 2096103424
def rateHi : Int := 2098200576

/-- A completed exchange (R62 to R64): t1, t4 in ticks, t2, t3 in Q48.8 µs. -/
def mapExchange (n t1 t2 t3 t4 : Nat) (s : State) : State :=
  let m := s.pmap n
  let mcam9 : Int := (t2 : Int) + t3
  let asym : Int := s.geti (F.TSB_PT_ASYM n)
  let mdev8 : Int := ((t1 : Int) + t4) * 128 + asym
  let d32 : Int := ((t4 : Int) - t1) * 2 ^ 32 - (if m.started then m.r else 0x7D000000) * ((t3 : Int) - t2)
  let d8 := roundDiv d32 (2 ^ 25)
  let dmin := m.delays.foldl (fun a d => match a with | none => some d | some x => some (min x d)) none
  let m := { m with delays := (d8 :: m.delays).take 64, outstanding := none }
  let s := s.seti (F.TSB_PT_DLY n) d8
  let tol : Int := (bitsOf m.cfg 31 24 : Int) * 256
  let s := (s.setTb { s.tb with maps := s.tb.maps.set n m })
  if (match dmin with | none => false | some x => decide (x + tol < d8)) then
    mapMiss n (s.inc (F.TSB_PT_DISC n))
  else if !m.started then
    let m := { m with started := true, p0 := (mcam9 / 2 ^ 9).toNat, o := mdev8 * 256, r := 0x7D000000, goodRun := 0, badRun := 0 }
    ((s.setMap n m).set (F.TSB_PT_STAT_STATE n) 1).clear (F.TSB_PT_STAT_MISS n)
  else
    let eps33 := mdev8 * 2 ^ 25 - m.at9 mcam9
    let o := m.o + roundDiv (bitsOf m.cfg 15 8 * eps33) (2 ^ 25)
    let r := clampI rateLo rateHi ((m.r : Int) + roundDiv (bitsOf m.cfg 23 16 * eps33) (2 ^ 17 * (bitsOf m.cfg 7 1 * 1000)))
    let good := decide (eps33.natAbs ≤ 25 * 2 ^ 33)
    let bad := decide (125 * 2 ^ 33 < eps33.natAbs)
    let m := { m with o := o, r := r.toNat, goodRun := if good then m.goodRun + 1 else 0, badRun := if bad then m.badRun + 1 else 0 }
    let s := ((s.setMap n m).seti (F.TSB_PT_ERR n) (roundDiv eps33 (2 ^ 25))).clear (F.TSB_PT_STAT_MISS n)
    let st := s.get (F.TSB_PT_STAT_STATE n)
    let st' := if st = 3 then 1 else if st = 1 ∧ 8 ≤ m.goodRun then 2 else if st = 2 ∧ 2 ≤ m.badRun then 1 else st
    s.set (F.TSB_PT_STAT_STATE n) st'

/-! ### O-RAN placement (R71) -/

/-- Start of frame F in ns on the PTP timescale (02, O-RAN numbering). -/
def frameNs (alpha : Int) (f : Int) : Int := 315964819 * 1000000000 + alpha + f * 10000000

/-- The largest F with frameId `id` whose start is not later than `t` ns (R71). -/
def frameCount (alpha beta : Int) (id : Nat) (t : Int) : Int :=
  let fmax := (t - (315964819 * 1000000000 + alpha)) / 10000000
  fmax - (fmax + beta - id) % 256

/-- t_sym_ticks: the symbol's start in site ticks (02, O-RAN numbering). -/
def symbolTick (mu : Nat) (tF : Int) (subframe slot symbol : Nat) : Int :=
  let k := slot * 14 + symbol
  let h := k / (7 * 2 ^ mu)
  let j := k % (7 * 2 ^ mu)
  let off := if j = 0 then 0 else 16 + j * (2192 / 2 ^ mu)
  (96 * tF + 768 * ((subframe * 125000 + h * 62500 : Nat) : Int) + 3125 * (off : Int)) / 768

end Sys2Proof.Machine
end

