-- ==== Sys2Proof/Machine/Encoder.lean ====
section
/-!
DEFINITION. Sys2Proof/Machine/Encoder.lean: radio taps (03 R115 to R119) and the spectral event encoder (07).
-/

namespace Sys2Proof.Machine

/-! ### Taps -/

/-- Offset of the byte after the Ethernet header: 18 with a 0x8100 tag, else 14. -/
def l3off (fr : List Byte) : Nat := if beAt fr 12 2 = 0x8100 then 18 else 14

/-- The Ethertype after an optional tag. -/
def etherType (fr : List Byte) : Nat := beAt fr (l3off fr - 2) 2

/-- VID and PCP of a frame received on port `p`: an untagged frame and VID 0 take the port's PVID and PPCP (03, Frame
classification). -/
def vidPcp (s : State) (p : Nat) (fr : List Byte) : Nat × Nat :=
  let tci := beAt fr 14 2
  if beAt fr 12 2 = 0x8100 ∧ tci % 4096 ≠ 0 then (tci % 4096, tci / 8192)
  else if p < 8 then (s.get (F.NET_P_CFG_PVID p), s.get (F.NET_P_CFG_PPCP p)) else (0, 0)

/-- Bytes of one PRB: 24 values of `w` bits, and the udCompParam byte of method 1 (R250). -/
def prbBytes (meth w : Nat) : Nat := 3 * w + (if meth = 1 then 1 else 0)

/-- iqWidth 0 means 16 (R250). -/
def iqWidth (w : Nat) : Nat := if w = 0 then 16 else w

/-- PRBs of a section: numPrbu, or NPRB_ALL when it is 0 (R249). -/
def sectionPrbs (s : State) (flow num : Nat) : Nat := if num = 0 then s.aget (F.SEE_F_GEOM_NPRB_ALL flow) else num

/-- Bytes the flow holds in the section FIFO. -/
def flowBytes (s : State) (flow : Nat) : Nat := ((s.see.fifo.filter (·.flow = flow)).map (·.bytes)).sum

/-- Bytes the section FIFO holds. -/
def fifoBytes (s : State) : Nat := (s.see.fifo.map (·.bytes)).sum

/-- R248: a mirrored section enters the FIFO, or is discarded whole and counted in SEE_FULL. A disabled flow takes none
(R269; DEDUCED, log entry 20). -/
def mirrorSection (sec : Section) (s : State) : State :=
  let n := sec.flow
  if !s.aflag (F.SEE_F_CFG_EN n) then s
  else if flowBytes s n + sec.bytes ≤ s.aget (F.SEE_F_FIFO n) * 64 ∧ fifoBytes s + sec.bytes ≤ 65536 then
    let s := s.inc (F.NET_TAP_SECT n)
    let s := (s.setSee { s.see with fifo := s.see.fifo ++ [sec] })
    let u := ceilDiv (fifoBytes s) 64
    if s.get F.SEE_FIFO_PEAK < u then s.set F.SEE_FIFO_PEAK u else s
  else s.inc (F.NET_TAP_SEE_FULL n)

/-- The sections of one message, from `b` (the bytes after the application header), for at most `fuel` sections. `bad`
says that an earlier section of the message was discarded under R251. A section of a method other than 0 and 1 is
counted in BADCOMP; the spec gives no length for it, so no later section of the message is found (DEDUCED, log entry 20). -/
def mirrorSections : Nat → Nat → Nat → Nat → List Nat → Bool → List Byte → State → State
  | 0, _, _, _, _, _, _, s => s
  | fuel + 1, tap, eaxc, arr, hdr, bad, b, s =>
    if b.length < 4 then s
    else
      let h := beAt b 0 4
      let src := s.aflag (F.NET_TAP_CTL_COMP_SRC tap)
      let cb := beAt b 4 1
      let meth := if src then s.aget (F.NET_TAP_CTL_STAT_METH tap) else cb % 16
      let w := iqWidth (if src then s.aget (F.NET_TAP_CTL_STAT_IQW tap) else cb / 16)
      let ho := if src then 4 else 6
      let num := sectionPrbs s tap (h % 256)
      let rb := bitOf h 19
      let st := h / 256 % 1024
      if meth ≠ 0 ∧ meth ≠ 1 then s.inc (F.NET_TAP_BADCOMP tap)
      else
        let len := num * prbBytes meth w
        let past := decide (b.length < ho + len)
        let last := st + (num - 1) * (if rb then 2 else 1)
        let bad := bad || past || decide (1023 < last)
        let sec : Section :=
          { flow := tap, eaxc := eaxc, arrival := arr, frame := hdr.getD 0 0, subframe := hdr.getD 1 0, slot := hdr.getD 2 0,
            symbol := hdr.getD 3 0, meth := meth, iqw := w, rb := rb, startPrb := st, count := num,
            bytes := ho + len, data := slice b ho len, bad := bad }
        let s := mirrorSection sec s
        if past then s else mirrorSections fuel tap eaxc arr hdr bad (b.drop (ho + len)) s

/-- The tap matches an eCPRI message (03, Radio taps): `m` from its common header on. (DEDUCED, log entry 20) -/
def tapMatches (s : State) (n port vid : Nat) (fr m : List Byte) : Bool :=
  s.aflag (F.NET_TAP_CTL_EN n)
  && bitOf (s.aget (F.NET_TAP_CTL_PORTS n)) port
  && (beAt fr 0 6 == s.aget (F.NET_TAP_DMAC_LO n) + s.aget (F.NET_TAP_DMAC_HI_MAC n) * 2 ^ 32)
  && (s.aflag (F.NET_TAP_CTL_VID_ANY n) || vid == s.aget (F.NET_TAP_DMAC_HI_VID n))
  && (beAt m 0 1 / 16 == 1) && (beAt m 1 1 == 0)
  && ((Nat.xor (beAt m 4 2) (s.aget (F.NET_TAP_EAXC_ID n))) &&& s.aget (F.NET_TAP_EAXC_MASK n)) == 0
  && (let d := beAt m 8 1 / 128
      match s.aget (F.NET_TAP_CTL_DIR n) with
      | 0 => true
      | 1 => d == 0
      | 2 => d == 1
      | _ => false)

/-- One eCPRI message: the first enabled tap that matches mirrors its sections (R115, R117). (DEDUCED, log entry 20) -/
def mirrorMessage (port vid : Nat) (fr m : List Byte) (fcsOk : Bool) (s : State) : State :=
  match (List.range 16).find? (fun n => tapMatches s n port vid fr m) with
  | none => s
  | some n =>
    let s := s.inc (F.NET_TAP_MATCH n)
    if !fcsOk then s.inc (F.NET_TAP_FCS_DISC n)
    else
      let w := beAt m 10 2
      mirrorSections 64 n (beAt m 4 2) (s.tb.sec * 1000000000 + s.tb.ns)
        [beAt m 9 1, w / 4096, w / 64 % 64, w % 64] false (m.drop 12) s

/-- The eCPRI messages of a frame, one after another while the C bit says so (R116); a message that runs past the end of
the frame ends there. -/
def mirrorMessages : Nat → Nat → Nat → List Byte → List Byte → Bool → State → State
  | 0, _, _, _, _, _, s => s
  | fuel + 1, port, vid, fr, b, ok, s =>
    if b.length < 4 then s
    else
      let len := 4 + beAt b 2 2
      let s := mirrorMessage port vid fr (b.take len) ok s
      if bitOf (beAt b 0 1) 0 then mirrorMessages fuel port vid fr (b.drop ((len + 3) / 4 * 4)) ok s else s

/-- R115 to R119: the taps see a frame received on an external port. (DEDUCED, log entry 20) -/
def tapFrame (port : Nat) (fr : List Byte) (fcsOk : Bool) (s : State) : State :=
  if s.running && etherType fr == 0xAEFE then
    mirrorMessages 64 port (vidPcp s port fr).1 fr (fr.drop (l3off fr)) fcsOk s
  else s

/-! ### Flows -/

/-- Flow `n`. -/
def State.flow (s : State) (n : Nat) : Flow := s.see.flows.getD n {}

/-- Replace flow `n`. -/
def State.setFlow (s : State) (n : Nat) (f : Flow) : State := (s.setSee { s.see with flows := s.see.flows.set n f })

/-- The configuration in force of flow `n` (R267). -/
def flowCfg (s : State) (n : Nat) : FlowCfg :=
  { mu := s.aget (F.SEE_F_CFG_MU n), gs := 2 ^ s.aget (F.SEE_F_CFG_GS n), ngrp := s.aget (F.SEE_F_CFG_NGRP n),
    base := s.aget (F.SEE_F_GEOM_PRB_BASE n), thr := s.aget (F.SEE_F_THR_THR n), floorN := s.aget (F.SEE_F_THR_FLOOR_N n),
    floorBase := s.aget (F.SEE_F_FBASE n) }

/-- The section's fields are in range for the numerology (R72). -/
def placeable (mu : Nat) (x : Section) : Bool :=
  decide (x.subframe < 10) && decide (x.slot < 2 ^ mu) && decide (x.symbol < 14)

/-- R71: the time of origin of a section. (DEDUCED, log entry 36) -/
def sectionTime (s : State) (n mu : Nat) (x : Section) : Int :=
  let alpha := s.geti F.TSB_ORAN_ALPHA
  let f := frameCount alpha (s.geti F.TSB_ORAN_BETA) x.frame ((x.arrival : Int) + s.aget (F.SEE_F_TIMING n) * 1000)
  symbolTick mu (frameNs alpha f) x.subframe x.slot x.symbol

/-- The 24 values of a PRB, most significant bit first, as signed numbers of `w` bits. -/
def prbValues (w : Nat) (b : List Byte) : List Int :=
  let n := beNat b
  (List.range 24).map (fun i => sx w (n / 2 ^ (w * (23 - i))))

/-- The exact sum of I² + Q² of one PRB (R250): the exponent of method 1 scales every value. -/
def prbEnergy (meth w : Nat) (b : List Byte) : Nat :=
  if meth = 1 then
    let e := beAt b 0 1 % 16
    ((prbValues w (b.drop 1)).map (fun v => ((v * 2 ^ e) * (v * 2 ^ e)).toNat)).sum
  else ((prbValues w b).map (fun v => (v * v).toNat)).sum

/-- Add to a keyed sum. -/
def bump (l : List (Nat × Nat)) (k v : Nat) : List (Nat × Nat) := sparseIns l k (sparseGet (fun _ => 0) l k + v)

/-- One PRB joins a symbol: its energy adds to its group, or the PRB lies outside the groups (R256). The second part
counts PRBs outside. -/
def joinPrb (c : FlowCfg) (poison : Bool) (prb e : Nat) (y : Sym × Nat) : Sym × Nat :=
  if prb < c.base ∨ c.base + c.ngrp * c.gs ≤ prb then (y.1, y.2 + 1)
  else
    let g := (prb - c.base) / c.gs
    let i := (prb - c.base) % c.gs
    let old := sparseGet (fun _ => 0) y.1.got g
    let y1 := { y.1 with energy := bump y.1.energy g e,
                         got := sparseIns y.1.got g (if bitOf old i then old else old + 2 ^ i) }
    ({ y1 with poisoned := if poison then setIns y1.poisoned g else y1.poisoned }, y.2)

/-- The PRBs of a section join a symbol. (DEDUCED, log entry 50) -/
def joinSection (x : Section) (y : Sym) : Sym × Nat :=
  let pb := prbBytes x.meth x.iqw
  (List.range x.count).foldl
    (fun a i => joinPrb y.cfg x.poison (x.startPrb + i * (if x.rb then 2 else 1)) (prbEnergy x.meth x.iqw (slice x.data (i * pb) pb)) a)
    (y, 0)

/-- An open symbol closes (R253, R254). -/
def closeSym (n : Nat) (y : Sym) (s : State) : State :=
  let f := s.flow n
  (s.setFlow n { f with opens := f.opens.filter (· ≠ y), closed := f.closed ++ [y], lastClosed := some y.t }).inc (F.SEE_F_SYM_CLOSED n)

/-- A section joins or opens a symbol (R253). -/
def joinFlow (n : Nat) (x : Section) (t : Int) (s : State) : State :=
  let f := s.flow n
  match f.opens.find? (·.t = t) with
  | some y =>
    let r := joinSection x y
    let y' := { r.1 with lastJoin := s.T }
    (s.setFlow n { f with opens := f.opens.map (fun z => if z.t = t then y' else z) }).incBy (F.SEE_F_PRB_OUT n) r.2
  | none =>
    if (match f.lastClosed with | some c => decide (t ≤ c) | none => false) then s.inc (F.SEE_F_STALE n)
    else
      let s := match f.opens with
        | y :: _ :: _ => closeSym n y s
        | _ => s
      let f := s.flow n
      let y : Sym := { t := t, cfg := flowCfg s n, gen := f.gen, lastJoin := s.T }
      let r := joinSection x y
      (s.setFlow n { f with opens := f.opens ++ [r.1] }).incBy (F.SEE_F_PRB_OUT n) r.2

/-- A section leaves the FIFO and is processed (R249 to R253). -/
def processSection (x : Section) (s : State) : State :=
  let n := x.flow
  let s := s.inc (F.SEE_F_SECT_IN n)
  let mu := s.aget (F.SEE_F_CFG_MU n)
  if x.bad then s.inc (F.SEE_F_MALFORMED n)
  else if !placeable mu x then s.inc (F.SEE_F_BADPLACE n)
  else joinFlow n x (sectionTime s n mu x) (s.setSee { s.see with prbs := s.see.prbs + x.count })

/-- A flow may be served: it has a section waiting and its queue has room for NGRP events (R260). -/
def flowReady (s : State) (n : Nat) : Bool :=
  s.see.fifo.any (·.flow = n) && decide ((s.flow n).evq.length + s.aget (F.SEE_F_CFG_NGRP n) ≤ 1024)

/-- Row SECTION_PROCESS (R249): the next flow in round-robin order that has a section and room. (DEDUCED, log entry 50) -/
def sectionProcess (s : State) : State :=
  match ((List.range 16).map (fun i => (s.see.next + i) % 16)).find? (flowReady s) with
  | none => s
  | some n =>
    match s.see.fifo.find? (·.flow = n) with
    | none => s
    | some x => processSection x (s.setSee { s.see with fifo := s.see.fifo.erase x, next := (n + 1) % 16 })

/-- Row SECTION_PROCESS. -/
def execSectionProcess (s : State) : Res := .next (if s.ingOn then sectionProcess s else s)

/-- Row SYMBOL_CLOSE_TIMEOUT (R254): open symbol `index` (0 the older) closes. (DESIGN CHOICE, log entry 34) -/
def execSymbolCloseTimeout (flow index : Nat) (s : State) : Res :=
  .next (if s.ingOn then
    match (s.flow flow).opens[index]? with
    | some y => closeSym flow y s
    | none => s
  else s)

/-- The levels R255 allows for energy `e`: within 1 LSB of 256 × log2(e). -/
def levelLo (e : Nat) : Nat :=
  let f := Nat.log2 (e ^ 256)
  if e ^ 256 = 2 ^ f then f - 1 else f

/-- The greatest level R255 allows. -/
def levelHi (e : Nat) : Nat := Nat.log2 (e ^ 256) + 1

/-- R255: the level of energy `e`; where the spec allows more than one level, free value number `i` picks. -/
def level (i e : Nat) : Nat :=
  if e = 0 then 0 else levelLo e + Config.freeNat i % (levelHi e - levelLo e + 1)

/-- The group's PRBs have all arrived (R256). -/
def groupValid (y : Sym) (g : Nat) : Bool := sparseGet (fun _ => 0) y.got g == 2 ^ y.cfg.gs - 1

/-- An event enters the flow's queue. -/
def emitEv (n : Nat) (e : Ev) (s : State) : State :=
  let f := s.flow n
  s.setFlow n { f with evq := f.evq ++ [e] }

/-- A group's reference becomes `r`. -/
def setRef (n g : Nat) (r : Int) (s : State) : State :=
  let f := s.flow n
  s.setFlow n { f with refs := sparseIns f.refs g r }

/-- One group at the close of a symbol (R256, R257, R270). (DEDUCED, log entry 50) -/
def processGroup (n : Nat) (y : Sym) (s : State) (g : Nat) : State :=
  let f := s.flow n
  let c := y.cfg
  if y.poisoned.contains g || f.badGroups.contains g then
    let s := s.setFlow n { f with refs := sparseDel f.refs g, badGroups := setDel f.badGroups g }
    (emitEv n { x := g, y := 0, t := y.t, poisoned := true } s).inc (F.SEE_F_POISON n)
  else if !groupValid y g then
    if sparseGet (fun _ => 0) y.got g = 0 then s else s.inc (F.SEE_F_PARTIAL n)
  else
    let l : Int := level s.freeCtr (sparseGet (fun _ => 0) y.energy g)
    let s := s.tick
    let due := !(f.refs.any (·.1 = g)) || (decide (c.floorN ≠ 0) && decide ((s.get (F.SEE_F_CNT n) + g) % 2 ^ 32 % c.floorN = 0))
    let r := sparseGet (fun _ => 0) f.refs g
    if due then
      let q := (2 * (l - c.floorBase) + c.thr) / (2 * c.thr)
      let v := clampI (-128) 127 q
      let s := if v = q then s else s.inc (F.SEE_F_FLOOR_CLAMP n)
      let s := setRef n g (c.floorBase + v * c.thr) s
      (emitEv n { x := g, y := 1, value := v, t := y.t } s).inc (F.SEE_F_FLOOR_EV n)
    else if c.thr ≤ (l - r).natAbs then
      let q := (l - r).tdiv c.thr
      let v := clampI (-127) 127 q
      let s := if v = q then s else s.inc (F.SEE_F_DELTA_SAT n)
      let s := setRef n g (r + v * c.thr) s
      (emitEv n { x := g, y := 0, value := v, t := y.t } s).inc (F.SEE_F_DELTA_EV n)
    else s

/-- A closed symbol is processed: its groups in ascending order, then c advances (R257). References that belong to
another configuration are dropped first (R267). -/
def processSym (n : Nat) (y : Sym) (s : State) : State :=
  let f := s.flow n
  let s := if f.refGen = y.gen then s else s.setFlow n { f with refs := [], refGen := y.gen }
  let s := (List.range y.cfg.ngrp).foldl (processGroup n y) s
  s.incWrap (F.SEE_F_CNT n) 1

/-- The oldest closed symbol of flow `n` is processed. -/
def symbolProcess (n : Nat) (s : State) : State :=
  let f := s.flow n
  match f.closed with
  | [] => s
  | y :: l => processSym n y (s.setFlow n { f with closed := l })

/-- Row SYMBOL_PROCESS (R257). -/
def execSymbolProcess (flow : Nat) (s : State) : Res := .next (if s.ingOn then symbolProcess flow s else s)

/-- R269: a flow's EN clears. (DEDUCED, log entry 50) -/
def flowDisable (n : Nat) (s : State) : State :=
  let f := s.flow n
  let s := (s.clear (F.SEE_F_CFG_EN n)).aset (F.SEE_F_CFG_EN n) 0
  let s := (s.setSee { s.see with fifo := s.see.fifo.filter (·.flow ≠ n) })
  s.setFlow n { f with opens := [], closed := [], evq := [], refs := [], badGroups := [] }

/-- Row FLOW_DISABLE: a write of SEE_F_CFG with EN = 0 (R269). -/
def execFlowDisable (agent : Agent) (flow : Nat) (s : State) : Res :=
  .next (s.guardWrite s.ingOn .bench agent (F.SEE_F_CFG_EN flow).off (flowDisable flow))

/-- R268: when RUN clears, every open symbol closes and is processed. -/
def closeFlow (n : Nat) (s : State) : State :=
  let s := (s.flow n).opens.foldl (fun s y => closeSym n y s) s
  let k := (s.flow n).closed.length
  (List.range k).foldl (fun s _ => symbolProcess n s) s

/-- R268 over all flows. -/
def closeAllFlows (s : State) : State := (List.range 16).foldl (fun s n => closeFlow n s) s

/-- Encoder part of the boundary (R267, SEE_LOAD): called with the registers in force before and after. -/
def encoderBoundary (old : State) (s : State) : State :=
  let s := (List.range 16).foldl (fun s n =>
    let a := flowCfg old n
    let b := flowCfg s n
    if a.gs = b.gs ∧ a.base = b.base ∧ a.ngrp = b.ngrp ∧ a.thr = b.thr ∧ a.floorBase = b.floorBase then s
    else s.setFlow n { s.flow n with gen := (s.flow n).gen + 1 }) s
  let s := s.set F.SEE_LOAD s.see.prbs
  (s.setSee { s.see with prbs := 0 })

end Sys2Proof.Machine
end

