-- ==== Sys2Proof/Machine/RasLog.lean ====
section
/-!
DEFINITION. Sys2Proof/Machine/RasLog.lean: the error log and counters of 21_errors_scrubbing, which every block reports to.
-/

namespace Sys2Proof.Machine

/-- Source codes of a log entry (R824). -/
inductive RasSrc where
  | read | scrub | link | firmware
  deriving DecidableEq, Repr

/-- The code of a source. -/
def RasSrc.code : RasSrc → Nat
  | .read => 0 | .scrub => 1 | .link => 2 | .firmware => 3

/-- Word 0 of a log entry (R824). -/
def rasWord0 (region : Nat) (src : RasSrc) (ue : Bool) (node unit : Nat) : Nat :=
  region + src.code * 32 + b2n ue * 128 + node * 256 + unit * 2 ^ 20 + 2 ^ 31

/-- R824 to R826: one log entry, the interrupt to Bench, and the notification of the host; a full ring loses it.
(DEDUCED, log entry 95) -/
def rasLog (region : Nat) (src : RasSrc) (ue : Bool) (node unit addr : Nat) (s : State) : State :=
  if !s.mgtOn then s
  else if 64 ≤ s.ras.unread then s.inc F.RAS_LOG_LOST
  else
    let w := s.get F.RAS_LOG_WR
    let w0 := rasWord0 region src ue node unit
    let s := ((s.set (F.RAS_LOG w 0) w0).set (F.RAS_LOG w 1) addr).set (F.RAS_LOG w 2) (addr / 2 ^ 32 % 2 ^ 16)
    let s := (s.set (F.RAS_LOG w 3) s.epochNum).set F.RAS_LOG_WR (w + 1)
    let s := (s.setRas { s.ras with unread := s.ras.unread + 1 })
    let s := (s.raise F.RAS_STAT_LOG_PEND).bench .rasLog region
    if bitOf (s.get F.RAS_HOST_MASK) region && (ue || src = .firmware) then
      s.owe 0x08 (w0 % 256) (node + unit * 2 ^ 12 + w * 2 ^ 16)
    else s

/-- An uncorrectable error: counted and logged (R824). -/
def rasUe (region : Nat) (src : RasSrc) (node unit addr : Nat) (s : State) : State :=
  rasLog region src true node unit addr (if s.mgtOn then s.inc (F.RAS_UE region) else s)

/-- A corrected error: counted, logged while LOG_CE = 1 (R813, R824). -/
def rasCe (region : Nat) (src : RasSrc) (node unit addr : Nat) (s : State) : State :=
  if !s.mgtOn then s
  else
    let s := s.inc (F.RAS_CE region)
    let s := (s.setRas { s.ras with ceSec := s.ras.ceSec.set region (s.ras.ceSec.getD region 0 + 1) })
    if s.flag F.RAS_CTL_LOG_CE ∨ region = 18 then rasLog region src false node unit addr s else s

/-- R828: a parity error on the link into input port `unit` (0 N, 1 E, 2 S, 3 W, 4 edge, 5 local) of router `tile`. -/
def rasLink (tile unit : Nat) (s : State) : State :=
  let s := rasUe 16 .link tile unit 0 s
  let k := tile * 6 + unit
  let n := sparseGet (fun _ => 0) s.ras.links k + 1
  (s.setRas { s.ras with links := sparsePut (fun _ => 0) s.ras.links k n })

end Sys2Proof.Machine
end

