-- ==== Sys2Proof/Machine/Fabric.lean ====
section
/-!
DEFINITION. Sys2Proof/Machine/Fabric.lean: nodes, the node remap table, injection, the drop sink, routers and the span (08).
-/

namespace Sys2Proof.Machine

/-! ### Nodes -/

/-- The node exists on the part (R11, R273). -/
def nodeOk (s : State) (n : Nat) : Bool := decide (n < s.cfg.tiles) || (decide (0xF00 ≤ n) && decide (n ≤ 0xF0F))

/-- Index of a logical node in the NRT, if the number names a node. -/
def nodeIndex (n : Nat) : Option Nat :=
  if n < 192 then some n else if 0xF00 ≤ n ∧ n ≤ 0xF0F then some (n - 0xF00 + 192) else none

/-- The node of an NRT or boundary-list index. -/
def indexNode (i : Nat) : Nat := if i < 192 then i else 0xF00 + (i - 192)

/-- Attachment tile of a node (R273). -/
def attach (n : Nat) : Nat :=
  if n < 0xF00 then n
  else
    let e := n - 0xF00
    if e < 8 then e * 16
    else 15 + 16 * ([1, 6, 2, 5, 3, 4, 0, 7].getD (e - 8) 0)

/-- Physical node of a logical node under the active NRT; `none` where the copy goes to the drop sink (R283). -/
def remap (s : State) (n : Nat) : Option Nat :=
  match nodeIndex n with
  | none => none
  | some i =>
    let w := s.get (F.EVF_NRT_ACTIVE i)
    let p := w % 4096
    if s.fab.badNrt.contains i || bitOf w 15 || !nodeOk s p then none else some p

/-! ### The drop sink (R293) -/

/-- A flit or pair is discarded at node `n`. (DEDUCED, log entry 51) -/
def dropAt (n : Nat) (s : State) : State :=
  let s := if n < 0xF00 then s.inc (F.EVF_T_DROP n) else s.inc (F.EVF_E_DROP (n - 0xF00))
  s.inc F.EVF_DROP_TOTAL

/-! ### Items and buffers -/

/-- Flits of a body (R221, R300, R623). -/
def Body.size : Body → Nat
  | .evw e => if e.wide.isSome then 2 else 1
  | .eb _ => 1
  | .fence _ _ => 1
  | .remote _ e => if e.wide.isSome then 3 else 2
  | .sync _ => 2

/-- The virtual channel: false EV, true CT. -/
def Body.ct : Body → Bool
  | .sync _ => true
  | .fence _ ct => ct
  | _ => false

/-- Items in the buffer of key `k`. -/
def State.buf (s : State) (k : Nat) : List Item := sparseGet (fun _ => []) s.fab.bufs k

/-- Replace them. -/
def State.setBuf (s : State) (k : Nat) (l : List Item) : State :=
  (s.setFab { s.fab with bufs := sparsePut (fun _ => []) s.fab.bufs k l })

/-- Items at the interface of node `n`, oldest first. -/
def State.rx (s : State) (n : Nat) : List Item := sparseGet (fun _ => []) s.fab.rx n

/-- Replace them. -/
def State.setRx (s : State) (n : Nat) (l : List Item) : State :=
  (s.setFab { s.fab with rx := sparsePut (fun _ => []) s.fab.rx n l })

/-- Flits a list of items holds. -/
def flitsOf (l : List Item) : Nat := (l.map (fun i => i.body.size)).sum

/-- Buffer of input port `p` of router `r` on channel `ct`. -/
def bufKey (r p : Nat) (ct : Bool) : Nat := (r * 6 + p) * 2 + b2n ct

/-- Input port through which node `n` enters its router: 4 local, 5 edge. -/
def entryPort (n : Nat) : Nat := if n < 0xF00 then 4 else 5

/-- Node `n` holds credit on its link into the mesh: fewer than 8 flits wait there (R223, R276). -/
def hasCredit (s : State) (n : Nat) (ct : Bool) : Bool :=
  decide (flitsOf (s.buf (bufKey (attach n) (entryPort n) ct)) < 8)

/-- A link monitor in force counts `f` sent flits of node, port and channel. -/
def monitor (node port vc f : Nat) (s : State) : State :=
  (s.setFab { s.fab with lmon := s.fab.lmon.map (fun m => if m.node = node ∧ m.port = port ∧ m.vc = vc then { m with flits := m.flits + f } else m) })

/-- A link monitor counts a cycle in which a flit was ready and no credit was held. -/
def monitorStall (node port vc : Nat) (s : State) : State :=
  (s.setFab { s.fab with lmon := s.fab.lmon.map (fun m => if m.node = node ∧ m.port = port ∧ m.vc = vc then { m with stalls := m.stalls + 1 } else m) })

/-- An item enters the mesh at its source node. -/
def inject (i : Item) (s : State) : State :=
  let k := bufKey (attach i.src) (entryPort i.src) i.body.ct
  let s := s.setBuf k (s.buf k ++ [i])
  if i.src < 0xF00 then s
  else
    let s := monitor i.src 4 (b2n i.body.ct) i.body.size s
    if i.body.ct then s else s.incBy (F.EVF_E_EV_IN (i.src - 0xF00)) i.body.size

/-- An EVW is injected at node `src` under the active NRT, or discarded at the drop sink (R283). -/
def injectEvw (src : Nat) (e : Evw) (s : State) : State :=
  match remap s e.node with
  | none => dropAt src s
  | some p => inject ⟨p, src, .evw { e with node := p }⟩ s

/-! ### Route tables and EB flits -/

/-- A word of an active boundary list. -/
def activeWord (s : State) (f : Fld) : Nat := (sparseGet regReset s.fab.rt f.off).toNat

/-- The nodes of an active boundary list, in ascending index order (R291). -/
def boundaryList (s : State) (n : Nat) : List Nat :=
  ((List.range 208).filter (fun i =>
    bitOf (activeWord s (if n < 0xF00 then F.EVF_T_BLIST n (i / 32) else F.EVF_E_BLIST (n - 0xF00) (i / 32))) (i % 32))).map indexNode

/-- Node `n` sends its boundary list's EB flits (R291). -/
def sendEb (n epoch : Nat) (s : State) : State :=
  (boundaryList s n).foldl (fun s d => if nodeOk s d then inject ⟨d, n, .eb epoch⟩ s else dropAt n s) s

/-- The register lies in a doubly buffered route table other than the NRT: boundary lists and EB_EXPECT. -/
def routeReg (a : Nat) : Bool :=
  (decide (0xE02000 ≤ a ∧ a < 0xE02400) && decide (a % 0x40 ≤ 0x1C))
  || (decide (0xE10000 ≤ a ∧ a < 0xE13000) && decide (0x10 ≤ a % 0x40 ∧ a % 0x40 ≤ 0x28))

/-- The two copies of the NRT change places, with their uncorrectable errors (R311). -/
def swapNrt (s : State) : State :=
  let bad := (s.fab.badNrt.map (fun i => if i < 208 then i + 208 else i - 208)).foldl setIns []
  let s := (s.setFab { s.fab with badNrt := bad })
  (List.range 208).foldl (fun s i =>
    let a := s.get (F.EVF_NRT_ACTIVE i)
    let b := s.get (F.EVF_NRT_SHADOW i)
    (s.set (F.EVF_NRT_ACTIVE i) b).set (F.EVF_NRT_SHADOW i) a) s

/-- Entry `i` of the inactive NRT has been written: an error in it is gone. -/
def nrtWritten (i : Nat) (s : State) : State := (s.setFab { s.fab with badNrt := s.fab.badNrt.filter (· ≠ i + 208) })

/-- The inactive NRT has been written whole. -/
def nrtClean (s : State) : State := (s.setFab { s.fab with badNrt := s.fab.badNrt.filter (· < 208) })

/-- The two copies of boundary lists and EB_EXPECT change places. -/
def swapLists (s : State) : State :=
  let active := s.fab.rt
  let s' := (s.setFab { s.fab with rt := s.regs.filter (fun e => routeReg e.1) })
  let s' := s'.dropRegs routeReg
  active.foldl (fun s e => s.setReg e.1 e.2) s'

/-! ### The span -/

/-- The device's number and the ring size (EVF_SPAN_CFG). -/
def devId (s : State) : Nat := s.get F.EVF_SPAN_CFG_DEV_ID
/-- D. -/
def ringSize (s : State) : Nat := s.get F.EVF_SPAN_CFG_RING + 1

/-- The bits of an EVW (R218). -/
def Evw.bits (e : Evw) : Nat :=
  e.node % 4096 * 2 ^ 52 + e.target % 65536 * 2 ^ 36 + ux 8 e.value * 2 ^ 28 + e.offset % 2 ^ 20 * 2 ^ 8 + e.cls % 16 * 16
  + b2n e.wide.isSome + b2n e.merged * 2 + b2n e.late * 4 + b2n e.poisoned * 8

/-- An EVW from its bits (R218). -/
def evwOf (n : Nat) : Evw :=
  { node := bitsOf n 63 52, target := bitsOf n 51 36, value := sx 8 (bitsOf n 35 28), offset := bitsOf n 27 8,
    cls := bitsOf n 7 4, merged := bitOf n 1, late := bitOf n 2, poisoned := bitOf n 3, wide := if bitOf n 0 then some 0 else none }

/-- The flits of an EVW: bits and whether the flit is SECOND. -/
def Evw.flits (e : Evw) : List Nat := e.bits :: e.wide.toList

/-- The flits of an item as the span carries them, with the span sideband (R296): SECOND, CTRL, DEV. -/
def spanFlits (i : Item) : List (Nat × Nat) :=
  match i.body with
  | .eb ep => [(i.dst * 2 ^ 52 + i.src * 2 ^ 40 + ep % 2 ^ 32 * 16, 2)]
  | .remote dev e =>
    (i.dst * 2 ^ 52 + i.src * 2 ^ 40 + 2 * 2 ^ 36 + dev * 2 ^ 34, 2 + dev * 4)
      :: (e.bits, 1 + dev * 4) :: e.wide.toList.map (fun w => (w, 1 + dev * 4))
  | _ => []

/-- Span port `p` is UP. -/
def spanUp (s : State) (p : Nat) : Bool := s.flag (F.EVF_SPAN_STAT_UP p)

/-- Span port `p`. -/
def State.sp (s : State) (p : Nat) : SpanPort := s.fab.span.getD p {}

/-- Replace it. -/
def State.setSp (s : State) (p : Nat) (x : SpanPort) : State := (s.setFab { s.fab with span := s.fab.span.set p x })

/-- Items the transmitter sends while it holds a credit for each of their flits (R299). -/
def spanSend (p : Nat) : Nat → State → State
  | 0, s => s
  | fuel + 1, s =>
    let x := s.sp p
    match x.tx with
    | [] => s
    | i :: rest =>
      let n := i.body.size
      if x.credits < n then s
      else
        let s := s.setSp p { credits := x.credits - n, tx := rest }
        let s := s.incBy (F.EVF_SPAN_TX_FLITS p) n
        let s := (spanFlits i).foldl (fun s f => s.emit (.span p (BitVec.ofNat 8 f.2 :: leBytes 8 f.1))) s
        spanSend p fuel s

/-- An EV item for span port `p`: queued, or discarded when the port is not UP (R293, R309). -/
def spanQueue (p : Nat) (i : Item) (s : State) : State :=
  if spanUp s p then
    let s := s.setSp p { s.sp p with tx := (s.sp p).tx ++ [i] }
    spanSend p (s.sp p).tx.length s
  else (dropAt (0xF0E + p) s).inc (F.EVF_SPAN_DROP p)

/-- The span port by which an item for device `dev` leaves (R300): 0 for SP0. -/
def spanTo (s : State) (dev : Nat) : Nat := if (dev + 4 * ringSize s - devId s) % ringSize s ≤ ringSize s / 2 then 0 else 1

/-! ### Arrival at an edge node -/

/-- An item leaves the mesh at edge node `n` (R273, R293, R298). EB flits and CT flits wait to be taken. -/
def edgeArrive (n : Nat) (i : Item) (s : State) : State :=
  let e := n - 0xF00
  match i.body with
  | .evw _ =>
    if e = 12 ∨ e = 13 then (s.setFab { s.fab with sink := s.fab.sink ++ [i] }) else dropAt n s
  | .remote _ _ => if 14 ≤ e then spanQueue (e - 14) i s else dropAt n s
  | .eb _ => s.setRx n (s.rx n ++ [i])
  | .fence _ _ => s
  | .sync _ => if 14 ≤ e then dropAt n s else s.setRx n (s.rx n ++ [i])

/-! ### Routers -/

/-- The output port of router `r` toward node `dst` (R279): 0 N, 1 E, 2 S, 3 W, 4 edge, 5 local. -/
def routeOut (r dst : Nat) : Nat :=
  let a := attach dst
  if r % 16 < a % 16 then 1 else if a % 16 < r % 16 then 3
  else if r / 16 < a / 16 then 2 else if a / 16 < r / 16 then 0
  else if dst < 0xF00 then 5 else 4

/-- The router on the other side of output port `o`, and the input port there. -/
def neighbour (r o : Nat) : Nat × Nat :=
  if o = 0 then (r - 16, 2) else if o = 1 then (r + 1, 3) else if o = 2 then (r + 16, 0) else (r - 1, 1)

/-- The input ports of router `r` whose head flit on channel `ct` leaves through `o`. -/
def contenders (s : State) (r o : Nat) (ct : Bool) : List Nat :=
  (List.range 6).filter (fun p =>
    match s.buf (bufKey r p ct) with
    | [] => false
    | i :: _ => routeOut r i.dst == o)

/-- Round robin: the first contender at or after the position `ptr` (R277). (DEDUCED, log entry 51) -/
def roundRobin (l : List Nat) (ptr n : Nat) : Option Nat :=
  ((List.range n).map (fun k => (ptr + k) % n)).find? l.contains

/-- The flit's next buffer has room for the whole item. -/
def roomFor (s : State) (r o : Nat) (i : Item) : Bool :=
  if o < 4 then
    let d := neighbour r o
    decide (flitsOf (s.buf (bufKey d.1 d.2 i.body.ct)) + i.body.size ≤ 8)
  else if o = 5 then
    decide (flitsOf ((s.rx r).filter (fun j => j.body.ct == i.body.ct)) + i.body.size ≤ 8)
  else true

/-- The item goes on through output `o` of router `r`. -/
def passOn (r o : Nat) (i : Item) (s : State) : State :=
  if o < 4 then
    let d := neighbour r o
    let k := bufKey d.1 d.2 i.body.ct
    s.setBuf k (s.buf k ++ [i])
  else if o = 5 then s.setRx r (s.rx r ++ [i])
  else edgeArrive i.dst i s

/-- R828's UNIT of an input port: 4 edge, 5 local. -/
def linkUnit (p : Nat) : Nat := if p = 4 then 5 else if p = 5 then 4 else p

/-- R310: what a parity error leaves of an item: nothing, or a poisoned EVW. -/
def parity (p0 p1 : Bool) (i : Item) : Option Item :=
  if p1 then none
  else if !p0 then some i
  else match i.body with
    | .evw e => some { i with body := .evw { e with poisoned := true } }
    | .remote d e => some { i with body := .remote d { e with poisoned := true } }
    | _ => none

/-- Output port `o` of router `r` takes the item at input `p` of channel `ct`; `p0` and `p1` say which parity check of it
failed at this router (R276 to R279, R310). -/
def takeFlit (r o p : Nat) (ct p0 p1 : Bool) (s : State) : State :=
  match s.buf (bufKey r p ct) with
  | [] => s
  | i :: rest =>
    if !roomFor s r o i then monitorStall r o (b2n ct) s
    else
      let s := s.setBuf (bufKey r p ct) rest
      let x := sparseGet (fun _ => ({} : OutPort)) s.fab.outs (r * 6 + o)
      let waits := !(contenders s r o true).isEmpty
      let x := if ct then { x with ptrCt := (p + 1) % 6, evRun := 0 }
        else { x with ptrEv := (p + 1) % 6, evRun := if waits then x.evRun + 1 else 0 }
      let s := (s.setFab { s.fab with outs := sparsePut (fun _ => ({} : OutPort)) s.fab.outs (r * 6 + o) x })
      let s := if p0 || p1 then rasLink r (linkUnit p) (s.inc F.EVF_PERR) else s
      match parity p0 p1 i with
      | none => s
      | some i => passOn r o i (monitor r o (b2n ct) i.body.size s)

/-- Row FLIT_FORWARD (R275 to R279): one grant at an output port. (DEDUCED, log entry 51) -/
def forwardFlit (r o : Nat) (p0 p1 : Bool) (s : State) : State :=
  let ev := contenders s r o false
  let ct := contenders s r o true
  let x := sparseGet (fun _ => ({} : OutPort)) s.fab.outs (r * 6 + o)
  let ctTurn := !ct.isEmpty && (ev.isEmpty || decide (s.get F.EVF_CTL_CT_SHARE - 1 ≤ x.evRun))
  if ctTurn then
    match roundRobin ct x.ptrCt 6 with
    | none => s
    | some p => takeFlit r o p true p0 p1 s
  else match roundRobin ev x.ptrEv 6 with
    | none => s
    | some p => takeFlit r o p false p0 p1 s

/-- Row FLIT_FORWARD. -/
def execFlitForward (tile out : Nat) (p0 p1 : Bool) (s : State) : Res :=
  .next (if s.fabOn && decide (tile < s.cfg.tiles) && decide (out < 6) then forwardFlit tile out p0 p1 s else s)

/-! ### EB flits at edge nodes, SP nodes -/

/-- The oldest item at a node's interface that `p` accepts is taken; EV items keep their order among themselves, and so do
CT items, so only the head of a channel is offered. -/
def takeRx (n : Nat) (ct : Bool) (p : Body → Bool) (s : State) : Option (Item × State) :=
  match (s.rx n).find? (fun i => i.body.ct == ct) with
  | none => none
  | some i =>
    if p i.body then
      let l := s.rx n
      some (i, s.setRx n (l.takeWhile (fun j => j.body.ct != ct) ++ (l.dropWhile (fun j => j.body.ct != ct)).drop 1))
    else none

/-- The body is an EB flit. -/
def Body.isEb : Body → Bool
  | .eb _ => true
  | _ => false

/-- The EPOCH of an EB flit. -/
def Body.epoch : Body → Nat
  | .eb e => e
  | .fence e _ => e
  | _ => 0

/-- An SP node counts an EB flit toward EB_EXPECT. (DEDUCED, log entry 22) -/
def spCount (p epoch : Nat) (s : State) : State :=
  let c := s.fab.spEb.getD p (0, 0)
  (s.setFab { s.fab with spEb := s.fab.spEb.set p (c.1 + 1, epoch) })

/-- R915: an EB flit that reaches edge node `n` from the mesh. At an SP node it crosses the span, and the receiving SP node
counts it (R301; DEDUCED, log entry 22), or it is discarded when the port is not UP (R293). -/
def edgeEb (n : Nat) (i : Item) (s : State) : State :=
  let e := n - 0xF00
  let s := (s.set (F.EVF_E_LAST_EB e) i.body.epoch).inc (F.EVF_E_EB_RX e)
  if 14 ≤ e then spanQueue (e - 14) i s
  else if e = 12 ∨ e = 13 then (s.setFab { s.fab with sink := s.fab.sink ++ [i] })
  else dropAt n s

/-- Row EB_FLIT_RX_EDGE (R915, R301). -/
def execEbFlitRxEdge (node : Nat) (s : State) : Res :=
  .next (if s.fabOn && decide (0xF00 ≤ node ∧ node ≤ 0xF0F) then
    match takeRx node false Body.isEb s with
    | none => s
    | some (i, s) => edgeEb node i s
  else s)

/-- EB_EXPECT in force of SP port `p`. -/
def ebExpect (s : State) (p : Nat) : Nat := activeWord s (F.EVF_E_EB_CFG (14 + p)) % 256

/-- Row SP_EB_EMIT (R291): EB_EXPECT flits have arrived since the last emission. (DEDUCED, log entry 22) -/
def execSpEbEmit (port : Nat) (s : State) : Res :=
  .next (if s.fabOn && decide (port < 2) then
    let c := s.fab.spEb.getD port (0, 0)
    if ebExpect s port ≠ 0 ∧ ebExpect s port ≤ c.1 then
      sendEb (0xF0E + port) c.2 (s.setFab { s.fab with spEb := s.fab.spEb.set port (c.1 - ebExpect s port, c.2) })
    else s
  else s)

/-- Row ROUTE_ARM: a write of EVF_CTL with ARM = 1 (R288). -/
def execRouteArm (agent : Agent) (s : State) : Res :=
  .next (s.guardWrite s.fabOn .bench agent F.EVF_CTL_ARM.off (·.raise F.EVF_CTL_ARM))

/-- The items that a GROUP's flits form; flits come as (span sideband, bytes). A pair split by a discarded group is
discarded whole (R296): a SECOND flit with no first is dropped. -/
def spanItems : Nat → List (Nat × Nat) → List Item
  | 0, _ => []
  | _ + 1, [] => []
  | fuel + 1, (sb, v) :: rest =>
    if sb % 2 = 1 then spanItems fuel rest
    else
      let dst := bitsOf v 63 52
      let src := bitsOf v 51 40
      if bitsOf v 39 36 = 2 then
        let tail := rest.takeWhile (fun f => f.1 % 2 == 1)
        match tail with
        | [] => spanItems fuel rest
        | (_, e) :: more =>
          let e := { evwOf e with wide := if bitOf e 0 then some ((more.headD (0, 0)).2 % 2 ^ 32) else none }
          ⟨dst, src, .remote (bitsOf v 35 34) e⟩ :: spanItems fuel rest
      else ⟨dst, src, .eb (bitsOf v 35 4)⟩ :: spanItems fuel rest

/-- An item received on span port `p` (R300, R301). -/
def spanReceive (p : Nat) (s : State) (i : Item) : State :=
  match i.body with
  | .remote dev e => if dev = devId s then injectEvw (0xF0E + p) e s else spanQueue (1 - p) i s
  | .eb ep =>
    let s := (s.set (F.EVF_E_LAST_EB (14 + p)) ep).inc (F.EVF_E_EB_RX (14 + p))
    spCount p ep s
  | _ => s

/-- Row SPAN_GROUP_RX (R296, R299 to R301): a GROUP with the EV credits it returns. (DEDUCED, log entry 22) -/
def execSpanGroupRx (port credits : Nat) (flits : List (Nat × List Byte)) (crcOk : Bool) (s : State) : Res :=
  .next (if s.fabOn && decide (port < 2) && spanUp s port then
    if !crcOk then rasUe 17 .link 0xFFF port 0 (s.inc (F.EVF_SPAN_CRC_ERR port))
    else
      let fs := flits.map (fun f => (f.1, leNat f.2))
      let s := s.incBy (F.EVF_SPAN_RX_FLITS port) fs.length
      let s := s.setSp port { s.sp port with credits := (s.sp port).credits + credits }
      let s := (spanItems fs.length fs).foldl (spanReceive port) s
      spanSend port (s.sp port).tx.length s
  else s)

/-- Device expected at the far end (R297). -/
def spanPeer (s : State) (p : Nat) : Nat :=
  if p = 0 then (devId s + 1) % ringSize s else (devId s + ringSize s - 1) % ringSize s

/-- Row SPAN_PORT_UP (R297, R299): the lanes show lock and alignment, and the peer's DEV_ID and ring size. -/
def execSpanPortUp (port peer ring : Nat) (locked aligned : Bool) (s : State) : Res :=
  .next (if s.fabOn && decide (port < 2) && s.flag (if port = 0 then F.EVF_SPAN_CFG_EN0 else F.EVF_SPAN_CFG_EN1) then
    let s := (s.set (F.EVF_SPAN_STAT_LANE_LOCK port) (if locked then 15 else 0)).set (F.EVF_SPAN_STAT_ALIGNED port) (b2n aligned)
    if !(locked && aligned) then s
    else if peer ≠ spanPeer s port ∨ ring ≠ ringSize s then s.raise (F.EVF_SPAN_STAT_ID_MISMATCH port)
    else if spanUp s port then s
    else (s.raise (F.EVF_SPAN_STAT_UP port)).setSp port { credits := 512, tx := [] }
  else s)

/-- A span port falls (R309): queued items go to the drop sink. -/
def spanFall (p : Nat) (s : State) : State :=
  let n := (s.sp p).tx.length
  let s := ((s.clear (F.EVF_SPAN_STAT_UP p)).clear (F.EVF_SPAN_STAT_LANE_LOCK p)).clear (F.EVF_SPAN_STAT_ALIGNED p)
  let s := (List.range n).foldl (fun s _ => (dropAt (0xF0E + p) s).inc (F.EVF_SPAN_DROP p)) s
  s.setSp p {}

/-- Row SPAN_PORT_DOWN (R309). -/
def execSpanPortDown (port : Nat) (s : State) : Res :=
  .next (if s.fabOn && decide (port < 2) && spanUp s port then
    (spanFall port s).bench .spanDown port
  else s)

/-- Row FABRIC_STALL_DETECT (R312): the first such port is recorded. -/
def execFabricStallDetect (node port vc : Nat) (s : State) : Res :=
  .next (if s.fabOn && s.get F.EVF_CTL_STALL_LIM ≠ 0 then
    let s := if s.flag F.EVF_STALL_VALID then s
      else (((s.set F.EVF_STALL_NODE node).set F.EVF_STALL_PORT port).set F.EVF_STALL_VC vc).raise F.EVF_STALL_VALID
    s.bench .stall node
  else s)

/-- The fabric's part of an epoch boundary: link monitors (EVF_LMON) and link error counts (R828). -/
def fabricBoundary (s : State) : State :=
  let s := (List.range 8).foldl (fun s k =>
    let m := s.fab.lmon.getD k {}
    let s := (s.set (F.EVF_LMON_FLITS k) m.flits).set (F.EVF_LMON_STALL k) m.stalls
    let m' : LinkMon := { node := s.get (F.EVF_LMON_NODE k), port := s.get (F.EVF_LMON_PORT k), vc := s.get (F.EVF_LMON_VC k) }
    (s.setFab { s.fab with lmon := s.fab.lmon.set k m' })) s
  (s.setRas { s.ras with links := [] })

end Sys2Proof.Machine
end

