-- ==== Sys2Proof/Machine/PortLink.lean ====
section
/-!
DEFINITION. Sys2Proof/Machine/PortLink.lean: what a Jexlink port and its power channel do to each other (04 R150 to R153,
05 R186 to R206): state changes, losses, faults, cooldown.
-/

namespace Sys2Proof.Machine

/-! ### Access -/

/-- Jexlink port `n`. -/
def State.jp (s : State) (n : Nat) : JPort := s.jxl.getD n {}

/-- Replace port `n`. -/
def State.setJp (s : State) (n : Nat) (j : JPort) : State := (s.setJxl (s.jxl.set n j))

/-- Link state: 0 OFF, 1 TRAIN, 2 IDENT, 3 CLASS, 4 ACTIVE, 5 LOST (JXL_P_STAT). -/
def State.link (s : State) (n : Nat) : Nat := s.get (F.JXL_P_STAT_STATE n)

/-- Power channel `n`. -/
def State.ch (s : State) (n : Nat) : Chan := s.ppc.getD n {}

/-- Replace channel `n`. -/
def State.setCh (s : State) (n : Nat) (c : Chan) : State := (s.setPpc (s.ppc.set n c))

/-- Channel state code (05, Channel states). -/
def State.chState (s : State) (n : Nat) : Nat := s.get (F.PPC_CH_STAT_STATE n)

/-- Field of CFG of channel `n`, whose registers of channel 16 have their own row. -/
def chCfg (f : Nat → Fld) (g : Fld) (n : Nat) : Fld := if n = 16 then g else f n

/-- I_LIM of the stage, mA (R184); channel 16 has its own register. -/
def setIlim (n ma : Nat) (s : State) : State := if n < 16 then s.set (F.PPC_CH_LIM_ILIM n) ma else s

/-- I_LIM in force, mA. -/
def ilim (s : State) (n : Nat) : Nat := if n = 16 then (s.ch 16).lim16 else s.get (F.PPC_CH_LIM_ILIM n)

/-- R194: CFG and LIM come into force. (DEDUCED, log entry 46) -/
def chLoad (n : Nat) (s : State) : State :=
  s.setCh n { s.ch n with retry := s.get (chCfg F.PPC_CH_CFG_RETRY F.PPC_CH16_CFG_RETRY n),
                          holdEn := s.flag (chCfg F.PPC_CH_CFG_HOLD_EN F.PPC_CH16_CFG_HOLD_EN n),
                          lim16 := s.get F.PPC_CH16_LIM_ILIM }

/-- Watts of a class (04, The power-class exchange). -/
def classWatts (c : Nat) : Nat := if c = 1 then 6 else if c = 2 then 12 else if c = 3 then 20 else 0

/-- Current limit of a class, mA (R184). -/
def classLimit (c : Nat) : Nat := if c = 1 then 160 else if c = 2 then 300 else 500

/-- A back-channel frame leaves (04, Back-channel frames). -/
def back (n cmd : Nat) (payload : List Byte) (s : State) : State := s.emit (.back n cmd payload)

/-! ### The channel -/

/-- The watts of a granted class are given back (R190). -/
def ungrant (n : Nat) (s : State) : State :=
  let c := s.ch n
  let j := s.jp n
  if n < 16 && (c.waiting || j.granted || s.chState n == 5) then
    let w := classWatts (s.get (F.PPC_CH_STAT_CLASS n))
    let s := s.set F.PPC_GLB_STAT (s.get F.PPC_GLB_STAT - w)
    let s := s.clear (F.PPC_CH_STAT_CLASS n)
    (s.setCh n { c with waiting := false }).setJp n { j with granted := false }
  else s

/-- The channel's gates go off and discharge starts: it enters state `st` with CAUSE `cause`. -/
def chanOff (n st cause : Nat) (s : State) : State :=
  let s := ungrant n s
  let s := (s.set (F.PPC_CH_STAT_STATE n) st).set (F.PPC_CH_STAT_CAUSE n) cause
  (s.clear (F.PPC_CH_STAT_LIMITING n)).clear (F.PPC_CH_STAT_PG n)

/-- COOLDOWN with an exit: 0 OFF, 1 DETECT, 9 DENIED (R202 to R205). -/
def cooldown (n exit cause : Nat) (s : State) : State :=
  let s := chanOff n 6 cause s
  s.setCh n { s.ch n with exit := exit }

/-- R186: the channel may power. -/
def mayPower (s : State) (n : Nat) : Bool :=
  s.flag (F.PPC_CH_CTL_EN n) && (n == 16 || (s.flag (F.JXL_P_CFG_EN n) && !s.flag (F.JXL_P_CFG_MODE n)))

/-- The channel starts: DETECT, or RAMP1 on channel 16 (R186, 05 Channel 16). -/
def chanStart (n : Nat) (s : State) : State :=
  if !mayPower s n then s.set (F.PPC_CH_STAT_STATE n) 0
  else if n = 16 then (chLoad n s).set (F.PPC_CH_STAT_STATE n) 2
  else
    let s := chLoad n s
    let s := s.setCh n { s.ch n with points := [] }
    setIlim n 5 ((s.set (F.PPC_CH_STAT_STATE n) 1).clear (F.PPC_CH_STAT_SIG n))

/-! ### The port -/

/-- Register requests outstanding on port `n` complete with LINK_LOST (R175). (DEDUCED, log entry 44) -/
def dropRequests (n : Nat) (s : State) : State :=
  (List.range 4).foldl (fun s t =>
    if s.flag (F.JXL_P_REQ_BUSY n t) then (s.clear (F.JXL_P_REQ_BUSY n t)).set (F.JXL_P_REQ_STATUS n t) 3 else s) s

/-- The port goes to OFF. -/
def portOff (n : Nat) (s : State) : State :=
  let s := dropRequests n (mapIdle n s)
  (s.clear (F.JXL_P_STAT_STATE n)).clear (F.JXL_P_STAT_SYNCED n)

/-- Step abort or disconnect at the channel (R202, R203): gates off, counted, COOLDOWN, then DETECT. (DEDUCED, log entry 46) -/
def chanAbort (n cause : Nat) (s : State) : State :=
  let s := (s.inc (F.PPC_CH_ABORTS n)).raise (F.PPC_CH_IRQ_ABORT n)
  (cooldown n 1 cause s).bench .ppcAbort n

/-- R152: the port enters LOST with a cause; in STEP the loss also aborts the step and its cause is POWER_ABORT (R202). Causes
POWER_ABORT and DISABLED send no RESET_HEAD and take the port to OFF (R153). (DEDUCED, log entry 44) -/
def portLost (n cause : Nat) (s : State) : State :=
  let step := s.chState n == 4
  let cause := if step && cause ≠ 8 then 7 else cause
  let s := if step && cause = 7 then chanAbort n 5 s else s
  let s := s.set (F.JXL_P_STAT_CAUSE n) cause
  let s := ((s.inc (F.JXL_P_LOST_CNT n)).bench .portLost n).owe 0x06 n cause
  let s := dropRequests n (mapIdle n s)
  let s := s.clear (F.JXL_P_STAT_SYNCED n)
  if cause = 7 ∨ cause = 8 then portOff n s
  else (s.set (F.JXL_P_STAT_STATE n) 5).setJp n { s.jp n with resets := 3 }

/-- The power channel takes the power away: a port beyond OFF is lost with POWER_ABORT (R150, R200). (DEDUCED, log entry 46) -/
def portPowerAbort (n : Nat) (s : State) : State :=
  if n < 16 ∧ s.link n ≠ 0 then portLost n 7 s else s

/-- Entry to TRAIN: SEQ starts at 0, no HELLO counted. -/
def portTrain (n : Nat) (s : State) : State :=
  (s.set (F.JXL_P_STAT_STATE n) 1).setJp n { s.jp n with seq := 0, hellos := 0, resets := 0 }

/-- Stage-one power good moves an enabled port from OFF to TRAIN (R188). -/
def portPowerGood (n : Nat) (s : State) : State :=
  if n < 16 && s.link n == 0 && s.flag (F.JXL_P_CFG_EN n) && !s.flag (F.JXL_P_CFG_MODE n) then portTrain n s else s

/-- Free credits of the port buffer: 64 entries each (04, Flow control). -/
def freeCredits (s : State) (n : Nat) : Nat := (32768 - (s.jp n).buf.length) / 64

/-- A FLOW frame with the LIMIT of R157 and the PAUSE in force. -/
def sendFlow (n : Nat) (s : State) : State :=
  let j := s.jp n
  let l := (j.spent + freeCredits s n) % 65536
  back n 0x02 (leBytes 2 l ++ [BitVec.ofNat 8 (s.get (F.JXL_P_FLOW_PAUSED n))]) (s.setJp n { j with limit := l })

/-- R158: PAUSE follows the gate's hold and the buffer's occupancy; a change sends FLOW. -/
def flowPause (n : Nat) (s : State) : State :=
  if s.link n ≠ 4 then s
  else
    let occ := (s.jp n).buf.length
    let was := s.flag (F.JXL_P_FLOW_PAUSED n)
    let now := if was then decide (s.get (F.JXL_P_FLOW_PAUSE_LO n) * 64 ≤ occ)
      else s.flag (F.ADM_GATE_STAT_HOLDING n) && decide (s.get (F.JXL_P_FLOW_PAUSE_HI n) * 64 ≤ occ)
    if now = was then s else sendFlow n (s.set (F.JXL_P_FLOW_PAUSED n) (b2n now))

/-- The class step is complete: PWR_GRANT, then FLOW, and ACTIVE (04, step 6; R157). -/
def portActive (n : Nat) (s : State) : State :=
  let s := back n 0x07 [BitVec.ofNat 8 (s.get (F.PPC_CH_STAT_CLASS n))] s
  let s := ((s.set (F.JXL_P_STAT_STATE n) 4).clear (F.JXL_P_STAT_SYNCED n)).set (F.JXL_P_STAT_CLASS n) (s.get (F.PPC_CH_STAT_CLASS n))
  let s := s.clear (F.JXL_P_FLOW_PAUSED n)
  let j := { s.jp n with seq := 0, spent := 0, retries := 0, granted := false, limit := 512 }
  back n 0x02 (leBytes 2 512 ++ [0]) (s.setJp n j)

end Sys2Proof.Machine
end

