-- ==== Sys2Proof/Machine/Gates.lean ====
section
/-!
DEFINITION. Sys2Proof/Machine/Gates.lean: the sprue gates and ingress nodes (06).
-/

namespace Sys2Proof.Machine

/-- Counters of ADM_GATE_CNT, in the order of their registers. -/
inductive GateCnt where
  | evIn | admitted | evwOut | merged | thinDrop | drop | late | lateDrop | lateClamp | nomap | maperr | futDrop | poison
  | mergeSat | offDrop | heldEp
  deriving DecidableEq, Repr

/-- The index of a counter. -/
def GateCnt.idx : GateCnt → Nat
  | .evIn => 0 | .admitted => 1 | .evwOut => 2 | .merged => 3 | .thinDrop => 4 | .drop => 5 | .late => 6 | .lateDrop => 7
  | .lateClamp => 8 | .nomap => 9 | .maperr => 10 | .futDrop => 11 | .poison => 12 | .mergeSat => 13 | .offDrop => 14
  | .heldEp => 15

/-- A counter of gate `g` counts modulo 2^32 (R247). -/
def gcount (g : Nat) (c : GateCnt) (s : State) : State := s.incWrap (F.ADM_GATE_CNT g c.idx) 1

/-- Gate `g`. -/
def State.gate (s : State) (g : Nat) : Gate := s.gates.getD g {}

/-- Replace it. -/
def State.setGate (s : State) (g : Nat) (x : Gate) : State := (s.setGates (s.gates.set g x))

/-- The ingress node a gate feeds (R222). -/
def gateNode (g : Nat) : Nat := g % 16 / 2

/-- LAG in force (R238). -/
def gateLag (s : State) (g : Nat) : Nat := min (s.aget (F.ADM_GATE_CFG_LAG g)) (1048576 / s.get F.TSB_EPOCH_LEN)

/-- start(k) of the epoch `back` before the epoch in force (R219): from the history, else by the epoch length. -/
def startBack (s : State) (back : Nat) : Int :=
  let k := (s.epochNum + 2 ^ 32 - back) % 2 ^ 32
  match s.tb.starts.find? (fun e => e.1 == k) with
  | some e => e.2
  | none => (s.tb.start : Int) - back * s.get F.TSB_EPOCH_LEN

/-- The four words of active mapping entry `e` of gate `g`. -/
def mapEntry (s : State) (g e : Nat) : List Nat := (List.range 4).map (fun w => s.get (F.ADM_MAP_ACTIVE g (4 * e + w)))

/-- R227: a mapping entry matches a binned coordinate. -/
def mapMatches (m : List Nat) (x y : Nat) : Bool :=
  let w0 := m.getD 0 0
  let w1 := m.getD 1 0
  bitOf w0 31 && decide (bitsOf w0 10 0 ≤ x) && decide (x ≤ bitsOf w0 26 16)
  && decide (bitsOf w1 9 0 ≤ y) && decide (y ≤ bitsOf w1 25 16)

/-- The matching entries in index order; one with an uncorrectable error matches nothing (R245). -/
def mapMatch (s : State) (g x y : Nat) : List (List Nat) :=
  ((List.range 32).filter (fun e => !(s.gate g).badMap.contains e)).map (mapEntry s g) |>.filter (fun m => mapMatches m x y)

/-- The EVW of one mapped entry (R228): `none` when TARGET exceeds 0xFFFF or NODE names no node. -/
def mapEvw (s : State) (g : Nat) (m : List Nat) (x y : Nat) (value : Int) (t : Int) (late merged : Bool) : Option Evw :=
  let w3 := m.getD 3 0
  let target := bitsOf w3 15 0 + (y - bitsOf (m.getD 1 0) 9 0) * bitsOf w3 31 16 + (x - bitsOf (m.getD 0 0) 10 0)
  let node := bitsOf (m.getD 2 0) 11 0
  let base := if late then startBack s (gateLag s g) else startBack s 0
  if 65535 < target ∨ !nodeOk s node then none
  else some { node := node, target := target, value := value, offset := (t - base).toNat % 2 ^ 20,
              cls := if g < 16 then 0 else if y = 0 then 1 else 2, late := late, merged := merged }

/-- A gate hands an item to its ingress node. -/
def gateEmit (g : Nat) (i : GateItem) (s : State) : State :=
  let x := s.gate g
  s.setGate g { x with ready := x.ready ++ [i] }

/-- The EVWs of an admitted event or a closed merge entry (R228): the first four entries, the others counted in MAPERR. -/
def formEvws (g : Nat) (ms : List (List Nat)) (x y : Nat) (value : Int) (t : Int) (late merged : Bool) (s : State) : State :=
  let s := (ms.take 4).foldl (fun s m =>
    match mapEvw s g m x y value t late merged with
    | none => gcount g .maperr s
    | some e => gateEmit g (.evw e) (gcount g .evwOut s)) s
  s.incWrap (F.ADM_GATE_CNT g GateCnt.maperr.idx) (ms.length - 4)

/-- R244: one EVW to the gate's poison sink. -/
def poisonSink (g : Nat) (s : State) : State :=
  gateEmit g (.evw { node := s.aget (F.ADM_GATE_SINK_POISON_NODE g), target := s.aget (F.ADM_GATE_SINK_POISON_IDX g),
                     value := 0, offset := 0, cls := 6, poisoned := true }) (gcount g .evwOut s)

/-- A merge entry closes and forms its EVWs (R232), or goes to the poison sink (R245). -/
def closeMerge (g : Nat) (m : MergeEntry) (s : State) : State :=
  if m.poisoned then poisonSink g s else formEvws g m.maps m.x m.y m.sum m.t0 m.late m.joined s

/-- The index of the entry with the least t0. -/
def leastMerge (l : List MergeEntry) : Nat :=
  let lo := l.foldl (fun a m => min a m.t0) ((l.head?.map (·.t0)).getD 0)
  l.findIdx (fun m => m.t0 == lo)

/-- What the policy step does with an event (R230, R232). -/
inductive Verdict where
  | hold | letIn | thinDrop | drop | join (i : Nat) | openEntry
  deriving DecidableEq, Repr

/-- The policy step on the tokens before the charge (R230). -/
def policyStep (s : State) (g x y : Nat) (t : Int) : Verdict :=
  let tokens := s.get (F.ADM_GATE_STAT_TOKENS g)
  let mark := s.aget (F.ADM_GATE_MARK g)
  match s.aget (F.ADM_GATE_CFG_POLICY g) with
  | 0 => if tokens = 0 then .hold else .letIn
  | 1 =>
    if tokens = 0 then .drop
    else if mark < tokens then .letIn
    else if (s.gate g).thin % s.aget (F.ADM_GATE_CFG_THIN_K g) = 0 then .letIn else .thinDrop
  | 2 =>
    if mark < tokens then .letIn
    else
      let w : Int := s.aget (F.ADM_GATE_MERGE g)
      let i := (s.gate g).merge.findIdx (fun m => m.x == x && m.y == y && decide (t ≤ m.t0 + w))
      if i < (s.gate g).merge.length then .join i
      else if tokens = 0 then .drop else .openEntry
  | _ => if tokens = 0 then .drop else .letIn

/-- One token is charged and the event counted in ADMIT, and in LATE when it is late. -/
def charge (g : Nat) (late : Bool) (s : State) : State :=
  let s := s.set (F.ADM_GATE_STAT_TOKENS g) (s.get (F.ADM_GATE_STAT_TOKENS g) - 1)
  let s := gcount g .admitted s
  if late then gcount g .late s else s

/-- The THIN run count advances with an event that met tokens ≤ MARK (R230). -/
def thinStep (g : Nat) (s : State) : State :=
  if s.aget (F.ADM_GATE_CFG_POLICY g) = 1 ∧ s.get (F.ADM_GATE_STAT_TOKENS g) ≤ s.aget (F.ADM_GATE_MARK g) then
    (s.raise (F.ADM_GATE_STAT_THINNING g)).setGate g { s.gate g with thin := (s.gate g).thin + 1 }
  else s

/-- The merge cache comes into use. -/
def mergeStep (g : Nat) (s : State) : State :=
  if s.aget (F.ADM_GATE_CFG_POLICY g) = 2 ∧ s.get (F.ADM_GATE_STAT_TOKENS g) ≤ s.aget (F.ADM_GATE_MARK g) then
    s.raise (F.ADM_GATE_STAT_MERGING g) else s

/-- An event opens a merge entry; with 64 open, the one with the least t0 closes first (R232). (DEDUCED, log entry 47) -/
def openMerge (g : Nat) (m : MergeEntry) (s : State) : State :=
  let l := (s.gate g).merge
  let i := leastMerge l
  let s := if 64 ≤ l.length then
      let s := s.setGate g { s.gate g with merge := l.eraseIdx i }
      match l[i]? with
      | none => s
      | some old => closeMerge g old s
    else s
  s.setGate g { s.gate g with merge := (s.gate g).merge ++ [m] }

/-- An event joins entry `i` (R232). (DEDUCED, log entry 47) -/
def joinMerge (g i : Nat) (value : Int) (s : State) : State :=
  let s := gcount g .merged s
  match (s.gate g).merge[i]? with
  | none => s
  | some m =>
    let v := m.sum + value
    let s := s.setGate g { s.gate g with merge := (s.gate g).merge.set i { m with sum := satS 8 v, joined := true } }
    if satS 8 v = v then s else gcount g .mergeSat s

/-- The head of the gate's stream (R222). -/
def gateHead (s : State) (g : Nat) : Option Ev :=
  if g < 16 then (s.jp g).buf.head? else (s.flow (g - 16)).evq.head?

/-- The head leaves the stream; a camera port's PAUSE may change (R158). -/
def gateTake (g : Nat) (s : State) : State :=
  if g < 16 then flowPause g (s.setJp g { s.jp g with buf := (s.jp g).buf.drop 1 })
  else s.setFlow (g - 16) { s.flow (g - 16) with evq := (s.flow (g - 16)).evq.drop 1 }

/-- The value an event carries (R228). -/
def gateValue (s : State) (g : Nat) (e : Ev) : Int :=
  if g < 16 then sx 8 (s.aget (if e.pol then F.ADM_GATE_VAL_POS_VAL g else F.ADM_GATE_VAL_NEG_VAL g)) else e.value

/-- The gate leaves its BACKPRESS hold pending: the event waits (R230); HELD_EP counts the epoch. -/
def gateHold (g : Nat) (s : State) : State :=
  if s.flag (F.ADM_GATE_STAT_HOLDING g) then s
  else flowPause g (gcount g .heldEp (s.raise (F.ADM_GATE_STAT_HOLDING g)))

/-- The path of R224 from the policy step on, for an event with matches `ms` at binned (x, y) and time `t`.
(DEDUCED, log entry 21) -/
def gatePolicy (g : Nat) (e : Ev) (x y : Nat) (ms : List (List Nat)) (t : Int) (late clamped : Bool) (s : State) : State :=
  let v := policyStep s g x y t
  if v = .hold then gateHold g s
  else
    let s := gcount g .evIn (gateTake g s)
    let s := if clamped then gcount g .lateClamp s else s
    let value := gateValue s g e
    let s := mergeStep g s
    match v with
    | .letIn => formEvws g ms x y value t late false (charge g late (thinStep g s))
    | .thinDrop => gcount g .thinDrop (thinStep g s)
    | .join i => joinMerge g i value s
    | .openEntry =>
      openMerge g { x := x, y := y, maps := ms, sum := value, t0 := t, late := late } (charge g late s)
    | _ => gcount g .drop (thinStep g s)

/-- R224: the gate handles the event at the head of its stream. IN is counted when the event is taken (DEDUCED, log entry 21).
(DEDUCED, log entry 48) -/
def gateAdmit (g : Nat) (e : Ev) (s : State) : State :=
  let now : Int := s.T
  if !(s.running && s.aflag (F.ADM_GATE_CFG_EN g)) then gcount g .offDrop (gateTake g s)
  else if s.flag (F.ADM_GATE_STAT_HOLDING g) then s
  else if e.poisoned then gcount g .poison (poisonSink g (gcount g .evIn (gateTake g s)))
  else if now + s.aget (F.ADM_GATE_FUT g) < e.t then gcount g .futDrop (gcount g .evIn (gateTake g s))
  else if now < e.t then s
  else
    let r := startBack s (gateLag s g)
    if e.t < r ∧ s.aget (F.ADM_GATE_CFG_LATE_POL g) = 0 then gcount g .lateDrop (gcount g .evIn (gateTake g s))
    else
      let clamped := decide (e.t < r)
      let t := if clamped then r else e.t
      let late := clamped || decide (e.t < startBack s 0)
      let bin := s.aget (F.ADM_GATE_CFG_BIN g)
      let x := e.x / 2 ^ bin
      let y := e.y / 2 ^ bin
      let ms := mapMatch s g x y
      if ms.isEmpty then
        let s := gcount g .evIn (gateTake g s)
        gcount g .nomap (if clamped then gcount g .lateClamp s else s)
      else gatePolicy g e x y ms t late clamped s

/-- A gate works only with ING on, for a gate number, and while none of its EVWs waits for the ingress node (R223).
(DEDUCED, log entry 49) -/
def onGate (g : Nat) (f : Ev → State → State) (s : State) : State :=
  if s.ingOn && decide (g < 32) && (s.gate g).ready.isEmpty then
    match gateHead s g with
    | none => s
    | some e => f e s
  else s

/-- Row GATE_ADMIT (R224). -/
def execGateAdmit (gate : Nat) (s : State) : Res := .next (onGate gate (gateAdmit gate) s)

/-- Row FUTURE_HOLD_END: site time reaches the held event's time of origin within the epoch, and the event is admitted. -/
def execFutureHoldEnd (gate : Nat) (s : State) : Res :=
  .next (onGate gate (fun e s =>
    if s.T < e.t ∧ e.t < s.tb.next ∧ e.t ≤ s.T + s.aget (F.ADM_GATE_FUT gate) then gateAdmit gate e (advanceTo e.t.toNat s)
    else gateAdmit gate e s) s)

/-- Row MERGE_ENTRY_CLOSE (R232): T passes t0 + MERGE_W of an open entry, which closes.
(DESIGN CHOICE, log entry 34; DEDUCED, log entry 47) -/
def execMergeEntryClose (gate index : Nat) (s : State) : Res :=
  .next (if s.ingOn && decide (gate < 32) then
    match (s.gate gate).merge[index]? with
    | none => s
    | some m =>
      let due := m.t0 + s.aget (F.ADM_GATE_MERGE gate)
      let s := if (s.T : Int) ≤ due ∧ due + 1 < s.tb.next then advanceTo (due + 1).toNat s else s
      if due < s.T then closeMerge gate m (s.setGate gate { s.gate gate with merge := (s.gate gate).merge.eraseIdx index }) else s
  else s)

/-- The gates of ingress node `k`, in index order. -/
def nodeGates (k : Nat) : List Nat := [2 * k, 2 * k + 1, 16 + 2 * k, 17 + 2 * k]

/-- The gate's next item is a mark, and its epoch. -/
def gateMark (s : State) (g : Nat) : Option Nat :=
  match (s.gate g).ready with
  | .mark e :: _ => some e
  | _ => none

/-- R235 step 3: once the marks of all four gates are first, the ingress node sends its EB flits. -/
def boundaryFlit (k : Nat) (s : State) : State :=
  match (nodeGates k).mapM (gateMark s) with
  | some (e :: _) =>
    let s := (nodeGates k).foldl (fun s g => s.setGate g { s.gate g with ready := (s.gate g).ready.drop 1 }) s
    if s.fabOn then sendEb (0xF00 + k) e s else s
  | _ => s

/-- The gate has an EVW ready. (DEDUCED, log entry 49) -/
def gateReady (s : State) (g : Nat) : Bool :=
  match (s.gate g).ready with
  | .evw _ :: _ => true
  | _ => false

/-- One EVW of ingress node `k`, round robin over its ready gates (R223). (DEDUCED, log entry 49) -/
def ingressInject (k : Nat) (s : State) : State :=
  let gs := nodeGates k
  let ready := (List.range 4).filter (fun i => gateReady s (gs.getD i 0))
  match roundRobin ready (s.fab.inPtr.getD k 0) 4 with
  | none => s
  | some i =>
    if !hasCredit s (0xF00 + k) false then monitorStall (0xF00 + k) 4 0 s
    else
      let g := gs.getD i 0
      let s := (s.setFab { s.fab with inPtr := s.fab.inPtr.set k ((i + 1) % 4) })
      match (s.gate g).ready with
      | .evw e :: rest => boundaryFlit k (injectEvw (0xF00 + k) e (s.setGate g { s.gate g with ready := rest }))
      | _ => s

/-- Row INGRESS_INJECT (R223). -/
def execIngressInject (node : Nat) (s : State) : Res :=
  .next (if s.ingOn && s.fabOn && decide (0xF00 ≤ node ∧ node < 0xF08) then ingressInject (node - 0xF00) s else s)

/-- Steps 1 to 3 of R235 for gate `g`, under the old epoch: every merge entry closes, then the mark. -/
def gateClose (g : Nat) (s : State) : State :=
  let l := (s.gate g).merge
  let s := s.setGate g { s.gate g with merge := [] }
  gateEmit g (.mark s.epochNum) (l.foldl (fun s m => closeMerge g m s) s)

/-- An armed mapping table is copied from shadow to active (R235 step 4); entries with errors are whole again. -/
def mapCopy (g : Nat) (s : State) : State :=
  let s := (List.range 128).foldl (fun s w => s.set (F.ADM_MAP_ACTIVE g w) (s.get (F.ADM_MAP_SHADOW g w))) s
  (s.setGate g { s.gate g with badMap := [] }).clear (F.ADM_GATE_CFG_MAP_ARM g)

/-- Step 4 of R235 for gate `g`, after the staged registers have come into force. -/
def gateOpen (g : Nat) (s : State) : State :=
  let s := if s.flag (F.ADM_GATE_CFG_MAP_ARM g) then mapCopy g s else s
  let s := s.set (F.ADM_GATE_STAT_TOKENS g) (s.aget (F.ADM_GATE_BUDGET g))
  let s := ((s.clear (F.ADM_GATE_STAT_HOLDING g)).clear (F.ADM_GATE_STAT_MERGING g)).clear (F.ADM_GATE_STAT_THINNING g)
  let s := s.setGate g { s.gate g with thin := 0 }
  let s := s.set (F.ADM_GATE_STAT_LAG_USED g) (gateLag s g)
  let s := if gateLag s g < s.aget (F.ADM_GATE_CFG_LAG g) then s.raise (F.ADM_GATE_CFG_REFUSED g) else s
  let s := (List.range 16).foldl (fun s k => s.set (F.ADM_GATE_SNAP g k) (s.get (F.ADM_GATE_CNT g k))) s
  if g < 16 then flowPause g s else s

/-- Steps 1 to 3 of R235 for every gate and ingress node. -/
def gatesClose (s : State) : State :=
  (List.range 8).foldl (fun s k => boundaryFlit k s) ((List.range 32).foldl (fun s g => gateClose g s) s)

/-- Step 4 of R235 for every gate. -/
def gatesOpen (s : State) : State := (List.range 32).foldl (fun s g => gateOpen g s) s

end Sys2Proof.Machine
end

