-- ==== Sys2Proof/Machine/Float.lean ====
section
/-!
DEFINITION. Sys2Proof/Machine/Float.lean: FP16 and BF16 (14 R559 to R563): decoding, rounding, and the approximate
functions. A finite number is an integer multiple of the least subnormal, so sums and products are exact integers.
-/

namespace Sys2Proof.Machine

/-- A floating-point format: exponent bits and fraction bits. -/
structure FFmt where
  eb : Nat
  mb : Nat
  deriving DecidableEq, Repr

/-- FP16: IEEE 754 binary16. -/
def fp16 : FFmt := ⟨5, 10⟩
/-- BF16: the exponent of binary32 and 7 fraction bits. -/
def bf16 : FFmt := ⟨8, 7⟩

/-- The least subnormal is `2^-unit`. -/
def FFmt.unit (f : FFmt) : Nat := 2 ^ (f.eb - 1) - 2 + f.mb
/-- Magnitude bits of infinity. -/
def FFmt.infB (f : FFmt) : Nat := (2 ^ f.eb - 1) * 2 ^ f.mb
/-- The canonical NaN (R559). -/
def FFmt.nanB (f : FFmt) : Nat := f.infB + 2 ^ (f.mb - 1)
/-- The sign bit. -/
def FFmt.signB (f : FFmt) : Nat := 2 ^ (f.eb + f.mb)
/-- 1.0. -/
def FFmt.oneB (f : FFmt) : Nat := (2 ^ (f.eb - 1) - 1) * 2 ^ f.mb

/-- A value: the magnitude of a finite one counts units of a scale its user knows. -/
inductive Num where
  | nan
  | inf (neg : Bool)
  | fin (neg : Bool) (m : Nat)
  deriving DecidableEq, Repr

/-- VE_STAT bits that an operation raises, as a number: 1 ISAT, 2 IWRAP, 4 NV, 8 OF, 16 UF, 32 DZ. -/
abbrev VFlags := Nat

/-- The value of a pattern in units of `2^-unit`; with FTZ a subnormal reads as zero of its sign (R559). -/
def FFmt.dec (f : FFmt) (ftz : Bool) (bits : Nat) : Num :=
  let neg := bitOf bits (f.eb + f.mb)
  let mag := bits % f.signB
  let e := mag / 2 ^ f.mb
  let m := mag % 2 ^ f.mb
  if f.infB < mag then .nan
  else if mag = f.infB then .inf neg
  else if e = 0 then .fin neg (if ftz then 0 else m)
  else .fin neg ((m + 2 ^ f.mb) * 2 ^ (e - 1))

/-- A pattern from its sign and magnitude bits. -/
def FFmt.mk' (f : FFmt) (neg : Bool) (mag : Nat) : Nat := mag + (if neg then f.signB else 0)

/-- Rounding a quotient `n` with remainder `r` of divisor `d`: whether it goes up in magnitude (R338 RND). -/
def roundUp (rnd : Nat) (neg : Bool) (n r d : Nat) : Bool :=
  match rnd with
  | 0 => decide (d < 2 * r) || (decide (d = 2 * r) && n % 2 == 1)
  | 1 => false
  | 2 => neg && r ≠ 0
  | _ => !neg && r ≠ 0

/-- Magnitude bits of `N / D` under a rounding, before overflow and flushing. -/
def FFmt.magOf (f : FFmt) (rnd : Nat) (neg : Bool) (N D : Nat) : Nat :=
  let v := N * 2 ^ f.unit
  let q := Nat.log2 (v / D) - f.mb
  let d := D * 2 ^ q
  let n := v / d
  q * 2 ^ f.mb + n + b2n (roundUp rnd neg n (v % d) d)

/-- `N / D` rounded into the format (R559): overflow by the rounding direction, FTZ on a subnormal result. -/
def FFmt.enc (f : FFmt) (rnd : Nat) (ftz neg : Bool) (N D : Nat) : Nat × VFlags :=
  let mag := f.magOf rnd neg N D
  if f.infB ≤ mag then
    let toInf := rnd = 0 ∨ (rnd = 2 ∧ neg) ∨ (rnd = 3 ∧ !neg)
    (f.mk' neg (if toInf then f.infB else f.infB - 1), 8)
  else if ftz && decide (mag < 2 ^ f.mb) then (f.mk' neg 0, if mag = 0 then 0 else 16)
  else (f.mk' neg mag, 0)

/-- A value over the scale `D`, rounded once. -/
def FFmt.out (f : FFmt) (rnd : Nat) (ftz : Bool) (D : Nat) : Num → Nat × VFlags
  | .nan => (f.nanB, 0)
  | .inf neg => (f.mk' neg f.infB, 0)
  | .fin neg m => f.enc rnd ftz neg m D

/-- The signed integer of a finite value. -/
def Num.int : Num → Int
  | .fin neg m => if neg then -(m : Int) else m
  | _ => 0

/-- A finite value from a signed integer; `zs` is the sign of zero. -/
def Num.ofInt (zs : Bool) (x : Int) : Num := if x = 0 then .fin zs 0 else .fin (decide (x < 0)) x.natAbs

/-- A sum over one scale: `∞ − ∞` is NaN; an exact zero of unlike signs is +0, or −0 toward −∞ (IEEE 754). -/
def Num.add (rnd : Nat) : Num → Num → Num × VFlags
  | .nan, _ => (.nan, 0)
  | _, .nan => (.nan, 0)
  | .inf a, .inf b => if a = b then (.inf a, 0) else (.nan, 4)
  | .inf a, _ => (.inf a, 0)
  | _, .inf b => (.inf b, 0)
  | .fin a m, .fin b n =>
    (Num.ofInt (if a = b then a else rnd == 2) ((Num.fin a m).int + (Num.fin b n).int), 0)

/-- A product, over the product of the scales: `0 × ∞` is NaN. -/
def Num.mul : Num → Num → Num × VFlags
  | .nan, _ => (.nan, 0)
  | _, .nan => (.nan, 0)
  | .inf a, .inf b => (.inf (a ^^ b), 0)
  | .inf a, .fin b n => if n = 0 then (.nan, 4) else (.inf (a ^^ b), 0)
  | .fin a m, .inf b => if m = 0 then (.nan, 4) else (.inf (a ^^ b), 0)
  | .fin a m, .fin b n => (.fin (a ^^ b) (m * n), 0)

/-- The opposite. -/
def Num.neg : Num → Num
  | .nan => .nan
  | .inf a => .inf (!a)
  | .fin a m => .fin (!a) m

/-- The same value over a scale `k` times finer. -/
def Num.scale (k : Nat) : Num → Num
  | .fin a m => .fin a (m * k)
  | x => x

/-- Order of numbers that are not NaN; the zeros are equal. -/
def Num.ord : Num → Int
  | .nan => 0
  | .inf neg => if neg then -(2 ^ 400) else 2 ^ 400
  | .fin neg m => 2 * (Num.fin neg m).int

/-- The same with −0 below +0 (R559, MIN and MAX). -/
def Num.key (x : Num) : Int := if x = .fin true 0 then -1 else x.ord

/-- `x < y`; false for a NaN. -/
def Num.lt (x y : Num) : Bool := decide (x ≠ .nan) && decide (y ≠ .nan) && decide (x.ord < y.ord)

/-- `x = y`; false for a NaN. -/
def Num.eq (x y : Num) : Bool := decide (x ≠ .nan) && decide (y ≠ .nan) && decide (x.ord = y.ord)

/-- A value rounded to an integer (R560): magnitude over `D`. -/
def roundInt (rnd : Nat) (neg : Bool) (m D : Nat) : Int :=
  let n := m / D + b2n (roundUp rnd neg (m / D) (m % D) D)
  if neg then -(n : Int) else n

/-! ### Approximate functions (R561 to R563) -/

/-- Integer square root by bits: `k` bits still to try. -/
def isqrt (x : Nat) : Nat → Nat → Nat
  | 0, r => r
  | k + 1, r => if (r + 2 ^ k) * (r + 2 ^ k) ≤ x then isqrt x k (r + 2 ^ k) else isqrt x k r

/-- Fraction bits of the intermediate arithmetic that finds where an exact result lies. -/
def prec : Nat := 160

/-- `2^f` scaled by `2^prec`, rounded down; `f = m / 2^k` in [0, 1), bit by bit from `2^(1/2)` on. -/
def exp2Frac (m : Nat) : Nat → Nat → Nat → Nat
  | 0, _, acc => acc
  | k + 1, root, acc =>
    let root := isqrt (root * 2 ^ prec) (prec + 2) 0
    let acc := if bitOf m k then acc * root / 2 ^ prec else acc
    exp2Frac m k root acc

/-- The first `k` bits of `log2 y`, `y` in [1, 2) scaled by `2^prec`. -/
def log2Frac : Nat → Nat → Nat → Nat
  | 0, _, acc => acc
  | k + 1, y, acc =>
    let y2 := y * y / 2 ^ prec
    if 2 ^ (prec + 1) ≤ y2 then log2Frac k (y2 / 2) (acc * 2 + 1) else log2Frac k y2 (acc * 2)

/-- One of the results within `ulp` units in the last place of an exact result whose magnitude rounds down to `base`; a
result in the subnormal range is within one unit, and is flushed under FTZ (R561, R562); an overflow gives ∞ or the largest
finite number (R559; RND is ignored). (DEDUCED, log entry 66) -/
def approxMag (f : FFmt) (ftz neg : Bool) (ulp base choice : Nat) : Nat × VFlags :=
  if f.infB ≤ base then (f.mk' neg (f.infB - choice % 2), 8)
  else
    let ulp := if base < 2 ^ f.mb then 1 else ulp
    let cand := base + choice % (2 * ulp) - (ulp - 1)
    let cand := min cand ((base / 2 ^ f.mb + 1) * 2 ^ f.mb)
    if ftz && decide (cand < 2 ^ f.mb) then (f.mk' neg 0, if cand = 0 then 0 else 16)
    else (f.mk' neg cand, if cand = f.infB then 8 else 0)

/-- The magnitude of an exact result `N / D`, rounded down. -/
def FFmt.floorMag (f : FFmt) (N D : Nat) : Nat := f.magOf 1 false N D

/-- An exact result. -/
def exactly (f : FFmt) (ftz neg : Bool) (N D : Nat) : Nat × VFlags := f.enc 0 ftz neg N D

/-- The power of two that a finite value is, if it is one: exponent over `2^-unit`. -/
def powOf (m : Nat) : Option Nat := if m ≠ 0 ∧ 2 ^ Nat.log2 m = m then some (Nat.log2 m) else none

/-- EXP2 (R561 to R563). -/
def vexp2 (f : FFmt) (ty : Nat) (ftz : Bool) (bits : Nat) : Nat × VFlags :=
  match f.dec ftz bits with
  | .nan => (f.nanB, 0)
  | .inf neg => (if neg then 0 else f.infB, 0)
  | .fin neg m =>
    if m = 0 then (f.oneB, 0)
    else
      let x := (Num.fin neg m).int
      let ip := x / 2 ^ f.unit
      let fp := (x % 2 ^ f.unit).toNat
      let ip' := clampI (-400) 400 ip
      let (N, D) := if 0 ≤ ip' then (2 ^ ip'.toNat, 1) else (1, 2 ^ (-ip').toNat)
      let normal := f.magOf 1 false N D
      if fp = 0 ∧ 2 ^ f.mb ≤ normal ∧ normal < f.infB then exactly f ftz false N D
      else
        let frac := exp2Frac fp f.unit (2 ^ (prec + 1)) (2 ^ prec)
        approxMag f ftz false (if ty = 3 then 2 else 1) (f.floorMag (N * frac) (D * 2 ^ prec)) (Config.approx 0 ty bits)

/-- LOG2. -/
def vlog2 (f : FFmt) (ty : Nat) (ftz : Bool) (bits : Nat) : Nat × VFlags :=
  match f.dec ftz bits with
  | .nan => (f.nanB, 0)
  | .inf true => (f.nanB, 4)
  | .inf false => (f.infB, 0)
  | .fin neg m =>
    if m = 0 then (f.mk' true f.infB, 32)
    else if neg then (f.nanB, 4)
    else
      let e : Int := (Nat.log2 m : Int) - f.unit
      match powOf m with
      | some _ => exactly f ftz (decide (e < 0)) e.natAbs 1
      | none =>
        let l := log2Frac 64 (m * 2 ^ prec / 2 ^ Nat.log2 m) 0
        let v : Int := e * 2 ^ 64 + l
        let mag := if v < 0 then v.natAbs - 1 else v.natAbs
        approxMag f ftz (decide (v < 0)) (if ty = 3 then 2 else 1) (f.floorMag mag (2 ^ 64)) (Config.approx 1 ty bits)

/-- RCP; its one published value beside the exact ones is that of 8,000 (14, worked example). -/
def vrcp (f : FFmt) (ty : Nat) (ftz : Bool) (bits : Nat) : Nat × VFlags :=
  match f.dec ftz bits with
  | .nan => (f.nanB, 0)
  | .inf neg => (f.mk' neg 0, 0)
  | .fin neg m =>
    if m = 0 then (f.mk' neg f.infB, 32)
    else
      let base := f.floorMag (2 ^ f.unit) m
      if (powOf m).isSome ∧ 2 ^ f.mb ≤ base ∧ f.magOf 1 false (2 ^ f.unit) m < f.infB then exactly f ftz neg (2 ^ f.unit) m
      else if ty = 3 ∧ bits = 0x6FD0 then (0x0819, 0)
      else approxMag f ftz neg 1 base (Config.approx 2 ty bits)

/-- RSQRT. -/
def vrsqrt (f : FFmt) (ty : Nat) (ftz : Bool) (bits : Nat) : Nat × VFlags :=
  match f.dec ftz bits with
  | .nan => (f.nanB, 0)
  | .inf true => (f.nanB, 4)
  | .inf false => (0, 0)
  | .fin neg m =>
    if m = 0 then (f.mk' neg f.infB, 32)
    else if neg then (f.nanB, 4)
    else
      let r := isqrt (2 ^ (f.unit + 2 * prec) / m) (prec + f.unit) 0
      match powOf m with
      | some k =>
        if (k + f.unit) % 2 = 0 then
          let e : Int := ((f.unit : Int) - k) / 2
          if 0 ≤ e then exactly f ftz false (2 ^ e.toNat) 1 else exactly f ftz false 1 (2 ^ (-e).toNat)
        else approxMag f ftz false (if ty = 3 then 2 else 1) (f.floorMag r (2 ^ prec)) (Config.approx 3 ty bits)
      | none => approxMag f ftz false (if ty = 3 then 2 else 1) (f.floorMag r (2 ^ prec)) (Config.approx 3 ty bits)

end Sys2Proof.Machine
end

