-- ==== Sys2Proof/Machine/Tile.lean ====
section
/-!
DEFINITION. Sys2Proof/Machine/Tile.lean: the tile sequencer: registers, memory access, guard, retirement, loop end, MODE
shadow, exception and interrupt entry, return (09, 10).
-/

namespace Sys2Proof.Machine

/-! ### Access -/

/-- Tile `n`. -/
def State.tile (s : State) (n : Nat) : Tile := s.tiles.getD n {}

/-- Replace it. -/
def State.setTile (s : State) (n : Nat) (t : Tile) : State := (s.setTiles (s.tiles.set n t))

/-- Its sequencer. -/
def State.seq (s : State) (n : Nat) : Seq := (s.tile n).seq

/-- Replace it. -/
def State.setSeq (s : State) (n : Nat) (q : Seq) : State := s.setTile n { s.tile n with seq := q }

/-- g[i]; g0 reads zero (R315). -/
def Seq.rd (q : Seq) (i : Nat) : Word := if i = 0 then 0 else q.g.getD i 0

/-- Write g[i]; a write of g0 is discarded (R315). -/
def Seq.wr (q : Seq) (i : Nat) (v : Word) : Seq := if i = 0 then q else { q with g := q.g.set i v }

/-- p[i]; p0 reads 1 (R315). -/
def Seq.rdP (q : Seq) (i : Nat) : Bool := i == 0 || q.p.getD i false

/-- Write p[i]; a write of p0 is discarded (R315). -/
def Seq.wrP (q : Seq) (i : Nat) (v : Bool) : Seq := if i = 0 then q else { q with p := q.p.set i v }

/-! Register codes: g[i] is i, p[i] is 32 + i, t[i] is 40 + i, m[i] is 48 + i, a[i] is 56 + i. -/

/-- The code of a predicate. -/
def pCode (i : Nat) : Nat := 32 + i
/-- The code of a tile register or accumulator view, as VOP.R names its sources (R410). -/
def tCode (i : Nat) : Nat := if i < 8 then 40 + i else 56 + (i - 8)
/-- The code of a mask register. -/
def mCode (i : Nat) : Nat := 48 + i

/-- The code names a register that exists as storage: g0 and p0 do not. -/
def isStored (c : Nat) : Bool := c ≠ 0 && c ≠ 32

/-- A result arrives at the register of a code (R326). -/
def Seq.land (q : Seq) (c : Nat) (v : Word) : Seq := if c < 32 then q.wr c v else q.wrP (c - 32) (v ≠ 0)

/-- MODE fields (R338). -/
def Seq.ien (q : Seq) : Bool := bitOf q.mode 4
/-- ESTAT.EXL. -/
def Seq.exl (q : Seq) : Bool := bitOf q.estat.toNat 7

/-- The register named by code `c` waits for a scoreboard entry. -/
def Seq.owed (q : Seq) (c : Nat) : Bool := isStored c && q.sb.any (fun e => e.dst == c)

/-- R326: the instruction stalls in D. -/
def Seq.stalls (q : Seq) (regs : List Nat) : Bool := regs.any q.owed

/-- The guard (R373). -/
def Seq.holds (q : Seq) (gd : Guard) : Bool := q.rdP gd.p ^^ gd.neg

/-! ### Sequencer states (TILE_SEQ_STAT) -/

/-- The sequencer is RUNNING on a tile whose cluster is ACTIVE. -/
def tileRuns (s : State) (n : Nat) : Bool := s.tileOn n && s.get (F.TILE_SEQ_STAT_STATE n) == 1

/-- It is WAITING in WFE. -/
def tileWaits (s : State) (n : Nat) : Bool := s.tileOn n && s.get (F.TILE_SEQ_STAT_STATE n) == 2

/-- R371: STATE reads HALTED only once every outstanding result has arrived. -/
def tileHalted (s : State) (n : Nat) : Bool := s.get (F.TILE_SEQ_STAT_STATE n) == 0 && (s.seq n).sb.isEmpty

/-- GLB_PLAN_STAT.STATE changes, and the host is told (19 R742). (DEDUCED, log entry 75) -/
def setPlanState (v : Nat) (s : State) : State :=
  if s.get F.GLB_PLAN_STAT_STATE = v then s
  else (s.set F.GLB_PLAN_STAT_STATE v).owe 0x01 0 (v + s.get F.GLB_PLAN_REASON_REASON * 256)

/-- The sequencer halts (R371): 1 HALT, 2 DOUBLE, 3 STOP, 4 IPOISON, 5 QUENCH. A halt other than Bench's own STOP while a
plan runs makes the plan HALTED (17 R680). (DEDUCED, log entry 75) -/
def tileHalt (n reason : Nat) (s : State) : State :=
  let s := (s.clear (F.TILE_SEQ_STAT_STATE n)).set (F.TILE_SEQ_STAT_HALT_REASON n) reason
  if s.get F.GLB_PLAN_STAT_STATE = 3 ∧ reason ≠ 3 then setPlanState 5 s else s

/-- A halt of which Bench is notified. -/
def tileHaltNotify (n reason : Nat) (s : State) : State := (tileHalt n reason s).bench .tileHalt n

/-! ### Tile memory (R320 to R323, R386) -/

/-- The address lies in tile data memory, neuron state or the delay rings (R320). -/
def dataAddr (a : Nat) : Bool := decide (a < 0xC000) || (decide (0x10000 ≤ a) && decide (a < 0x60000))

/-- Some line of the `n` bytes from `a` is poisoned. -/
def Tile.bad (t : Tile) (a n : Nat) : Bool := t.poison.any (fun l => decide (a / 8 ≤ l) && decide (l ≤ (a + n - 1) / 8))

/-- Store bytes; a line written whole is clean, a line written in part keeps its poison (R386, R812). (DEDUCED, log entry 25) -/
def Tile.store (t : Tile) (a : Nat) (b : List Byte) : Tile :=
  { t with mem := memPutBytes t.mem a b,
           poison := t.poison.filter (fun l => !(decide (a ≤ l * 8) && decide (l * 8 + 8 ≤ a + b.length))) }

/-- Little-endian number of `n` bytes at `a` of the data space. -/
def Tile.nat (t : Tile) (a n : Nat) : Nat := memNat t.mem a n

/-- What an access at `a` of `size` bytes raises (R321): 4 ALIGN, 5 ADDR. -/
def accessFault (a : Nat) (size : Nat) : Option Nat :=
  if a % size ≠ 0 then some 4 else if !dataAddr a then some 5 else none

/-! ### Exceptions (R345 to R356) -/

/-- The address is the end of an active loop level. -/
def Seq.atLoopEnd (q : Seq) (pc : Nat) : Bool :=
  (List.range 3).any (fun k => q.lc.getD k 0 ≠ 0 && q.le.getD k 0 == pc)

/-- ESTAT as entry writes it (R349, R352 to R354). (DEDUCED, log entry 56) -/
def entryStatus (q : Seq) (cause : Nat) (dests : List Nat) : Nat :=
  let bd := q.delay.isSome
  let haz := match q.delay with
    | some d => dests.any (fun c => isStored c && d.reads.contains c)
    | none => false
  let (mp, pos, pend) := match q.pending with
    | some (v, k) => (true, if bd then k + 1 else k, v)
    | none => (false, 0, 0)
  cause + b2n bd * 2 ^ 5 + b2n haz * 2 ^ 6 + 2 ^ 7 + b2n q.ien * 2 ^ 8 + b2n mp * 2 ^ 9 + pos % 4 * 2 ^ 10
  + b2n (decide (cause < 0x10) && q.atLoopEnd q.pc) * 2 ^ 12 + pend % 2 ^ 12 * 2 ^ 20

/-- R349: entry to the handler: EPC, ESTAT, MODE.IEN, the pc at 0x0040; one entry is counted.
(DEDUCED, log entry 52; DEDUCED, log entry 56) -/
def enter (n cause : Nat) (dests : List Nat) (s : State) : State :=
  let q := s.seq n
  let epc := match q.delay with
    | some d => d.branch
    | none => q.pc
  let q' := { q with epc := BitVec.ofNat 32 epc, estat := BitVec.ofNat 32 (entryStatus q cause dests),
                     mode := q.mode % 16, pc := 0x40, delay := none, pending := none }
  (s.setSeq n q').incWrap (F.TILE_SEQ_EXC n) 1

/-- A synchronous exception (R346, R349, R356): EBAD and entry, or a halt on a double fault. IPOISON also sets HALT_PEND
(R366). -/
def raiseExc (n cause : Nat) (ebad : Word) (dests : List Nat) (s : State) : State :=
  let s := if cause = 1 then s.setSeq n { s.seq n with haltPend := true } else s
  if (s.seq n).exl then tileHaltNotify n 2 s
  else enter n cause dests (s.setSeq n { s.seq n with ebad := ebad })

/-! ### Retirement -/

/-- The loop-end logic from level `k` up (R334): the levels' counts and the next address. (DEDUCED, log entry 52) -/
def loopEnd (q : Seq) : Nat → Nat → Seq × Nat
  | 0, _ => (q, (q.pc + 4) % 0x4000)
  | fuel + 1, k =>
    if q.lc.getD k 0 ≠ 0 ∧ q.le.getD k 0 = q.pc then
      if 1 < q.lc.getD k 0 then ({ q with lc := q.lc.set k (q.lc.getD k 0 - 1) }, q.la.getD k 0)
      else loopEnd { q with lc := q.lc.set k 0 } fuel (k + 1)
    else loopEnd q fuel (k + 1)

/-- Where execution continues after the instruction at `pc` that does not branch (R331, R334 to R337). (DEDUCED, log entry 52) -/
def Seq.advance (q : Seq) : Seq :=
  match q.delay with
  | some { target := some t, .. } =>
    { q with pc := t, delay := none, loopbr := q.loopbr || (!q.exl && q.atLoopEnd q.pc) }
  | _ =>
    if q.exl then { q with pc := (q.pc + 4) % 0x4000, delay := none }
    else
      let (q, next) := loopEnd q 3 0
      { q with pc := next, delay := none }

/-- An instruction retires in the shadow of MODE (R339). -/
def Seq.shadow (q : Seq) : Seq :=
  match q.pending with
  | some (v, k) => if k ≤ 1 then { q with mode := v, pending := none } else { q with pending := some (v, k - 1) }
  | none => q

/-- One retirement is counted. -/
def countRetired (n : Nat) (s : State) : State := s.incWrap (F.TILE_SEQ_RETIRED n) 1

/-- The instruction retires and execution goes on in order. (DEDUCED, log entry 52) -/
def retire (n : Nat) (s : State) : State := countRetired n (s.setSeq n (s.seq n).advance.shadow)

/-- A branch retires; its delay slot follows (R331). -/
def retireBranch (n : Nat) (target : Option Nat) (reads : List Nat) (s : State) : State :=
  let q := s.seq n
  let q := { q with delay := some ⟨target, q.pc, reads⟩, pc := (q.pc + 4) % 0x4000 }
  countRetired n (s.setSeq n q.shadow)

/-! ### One instruction -/

/-- What an instruction's body does. -/
inductive Act where
  /-- It has its effect and execution goes on in order. -/
  | done (s : State)
  /-- It raises an exception; `s` holds what stands committed (R341, R431). -/
  | exc (s : State) (cause : Nat) (ebad : Word)
  /-- It stalls in D: it has not started (R425). -/
  | stall
  /-- It has placed the pc and the status itself: a branch, ERET, an unfinished micro-routine, a halt. -/
  | placed (s : State)

/-- A breakpoint stands at the pc, and a debug session with scope TILE_DBG is open (22 R848). (DESIGN CHOICE, log entry 23) -/
def breakAt (s : State) (n : Nat) : Bool := bitOf (s.get F.GLB_LC_DBG_SCOPE) 3 && (s.seq n).breaks.contains (s.seq n).pc

/-- An instruction at tile `n` (R316, R326, R345): nothing happens unless the sequencer runs; IPOISON, BREAK and ILLEGAL
come before the guard; a source or destination that is owed a result stalls it; a false guard retires it without effect
(`unguarded` is what a routine does then). `reads` and `dests` are register codes. (DEDUCED, log entry 52) -/
def instr (n : Nat) (gd : Guard) (reads dests : List Nat) (illegal : Option Word) (unguarded : Seq → Seq) (body : State → Act)
    (s : State) : State :=
  if !tileRuns s n then s
  else
    let q := s.seq n
    if (s.tile n).ipoison.contains (q.pc / 8) then raiseExc n 1 (BitVec.ofNat 32 q.pc) dests s
    else if breakAt s n then raiseExc n 2 (BitVec.ofNat 32 q.pc) dests s
    else match illegal with
    | some w => raiseExc n 3 w dests s
    | none =>
      if q.stalls (pCode gd.p :: reads ++ dests) then s
      else if !q.holds gd then retire n (s.setSeq n (unguarded q))
      else match body s with
      | .done s => retire n s
      | .exc s c e => raiseExc n c e dests s
      | .stall => s
      | .placed s => s

/-- An instruction that only changes the sequencer's registers. (DEDUCED, log entry 52) -/
def seqInstr (n : Nat) (gd : Guard) (reads dests : List Nat) (f : Seq → Seq) (s : State) : Res :=
  .next (instr n gd reads dests none id (fun s => .done (s.setSeq n (f (s.seq n)))) s)

/-- The bits of an instruction word above its low 22 (R373). -/
def wordOf (gd : Guard) (op low : Nat) : Word :=
  BitVec.ofNat 32 (b2n gd.neg * 2 ^ 31 + gd.p % 8 * 2 ^ 28 + op * 2 ^ 22 + low)

/-! ### Interrupts (R347, R348) -/

/-- Words WR and RD of the inbox, and whether the inbox is on (R435). -/
def inboxOn (s : State) (n : Nat) : Bool :=
  let size := s.get (F.NE_INBOX_LIM_SIZE n)
  size ≠ 0 && decide (s.get (F.NE_INBOX n) + 8 + 8 * size ≤ 0xC000)

/-- Entries in the inbox. -/
def inboxLevel (s : State) (n : Nat) : Nat :=
  let b := s.get (F.NE_INBOX n)
  let size := s.get (F.NE_INBOX_LIM_SIZE n)
  let t := s.tile n
  (t.nat b 4 % size + size - t.nat (b + 4) 4 % size) % size

/-- IPEND.EVQ (R435). -/
def evqPending (s : State) (n : Nat) : Bool :=
  let thr := s.get (F.NE_INBOX_LIM_THR n)
  inboxOn s n && thr ≠ 0 && decide (thr ≤ inboxLevel s n)

/-- IPEND (R348). -/
def ipend (s : State) (n : Nat) : Nat :=
  let q := s.seq n
  b2n (s.flag (F.TILE_SEQ_CTL_DRAIN n)) + b2n q.ipEpoch * 2 + b2n q.ipWait * 4 + b2n (evqPending s n) * 8 + b2n q.ipSoft * 16

/-- The lowest pending interrupt that IMASK enables. -/
def enabledIrq (s : State) (n : Nat) : Option Nat :=
  (List.range 5).find? (fun i => bitOf (ipend s n) i && bitOf (s.seq n).imask i)

/-- A waiting sequencer whose wake condition holds retires its WFE and runs (R371). -/
def wakeWfe (n : Nat) (s : State) : State :=
  if tileWaits s n && (enabledIrq s n).isSome then retire n (s.set (F.TILE_SEQ_STAT_STATE n) 1) else s

/-- Row INTERRUPT_ENTRY (R347): `dests` are the register codes that the instruction at the boundary names as destinations,
which R352 needs when it is a delay slot. (DEDUCED, log entry 56) -/
def interruptEntry (n : Nat) (dests : List Nat) (s : State) : State :=
  let s := wakeWfe n s
  if !tileRuns s n then s
  else match enabledIrq s n with
  | some i => if (s.seq n).ien && !(s.seq n).exl then enter n (0x10 + i) dests s else s
  | none => s

/-- Row INTERRUPT_ENTRY. -/
def execInterruptEntry (tile : Nat) (dests : List Nat) (s : State) : Res := .next (interruptEntry tile dests s)

/-! ### Free architectural state after Quench (R368, R580) -/

/-- Free words from index `k`. (DEDUCED, log entry 3) -/
def freeWords (k n : Nat) : List Word := (List.range n).map (fun i => BitVec.ofNat 32 (Config.freeNat (k + i)))

/-- The sequencer's state after Quench: every register and queue of it unspecified (DEDUCED, log entry 3). -/
def quenchSeq (n : Nat) (s : State) : State :=
  let k := s.freeCtr
  let q := s.seq n
  let f := fun i => Config.freeNat (k + i)
  let q' := { q with
    g := freeWords k 32, p := (List.range 8).map (fun i => bitOf (f 32) i),
    lc := [f 33 % 2 ^ 32, f 34 % 2 ^ 32, f 35 % 2 ^ 32], la := [f 36 % 4096 * 4, f 37 % 4096 * 4, f 38 % 4096 * 4],
    le := [f 39 % 4096 * 4, f 40 % 4096 * 4, f 41 % 4096 * 4], pc := f 42 % 4096 * 4, mode := f 43 % 32,
    mprog := BitVec.ofNat 32 (f 44), epc := BitVec.ofNat 32 (f 45), estat := BitVec.ofNat 32 (f 46),
    ebad := BitVec.ofNat 32 (f 47), imask := f 48 % 32, imodHit := bitOf (f 49) 0, loopbr := bitOf (f 49) 1,
    haltPend := bitOf (f 49) 2, ipEpoch := bitOf (f 49) 3, ipWait := bitOf (f 49) 4, ipSoft := bitOf (f 49) 5,
    pending := none, delay := none, syncq := [], sendq := [],
    t := (List.range 8).map (fun i => leBytes 512 (f (50 + i))), m := (List.range 4).map (fun i => f (58 + i) % 2 ^ 256) }
  ((s.setSeq n q').setFreeCtr (k + 62))

end Sys2Proof.Machine
end

