-- ==== Sys2Proof/Machine/Micro.lean ====
section
/-!
DEFINITION. Sys2Proof/Machine/Micro.lean: the common rules of micro-routines: start, resume, groups, progress in MPROG
(09 R341 to R344, 10 R404 to R406, R431, R432).
-/

namespace Sys2Proof.Machine

/-- What one element group does. -/
inductive Grp where
  /-- The group is committed. -/
  | ok (s : State)
  /-- It raises an exception and nothing of it is committed. -/
  | exc (cause : Nat) (ebad : Word)
  /-- It waits at the group boundary. -/
  | wait (s : State)
  /-- The routine completes here. -/
  | finish (s : State)

/-- MPROG of a routine that stands before group `g` in phase `ph` (R342). (DEDUCED, log entry 24) -/
def mprogWord (opc g ph : Nat) : Word := BitVec.ofNat 32 (g % 2 ^ 16 + opc % 2 ^ 8 * 2 ^ 16 + ph % 2 ^ 7 * 2 ^ 24 + 2 ^ 31)

/-- Hold progress in MPROG, outside a handler (R344). (DEDUCED, log entry 24) -/
def holdProgress (n opc g ph : Nat) (s : State) : State :=
  let q := s.seq n
  if q.exl then s else s.setSeq n { q with mprog := mprogWord opc g ph }

/-- VALID clears, outside a handler. -/
def Seq.clearProgress (q : Seq) : Seq := if q.exl then q else { q with mprog := BitVec.ofNat 32 (q.mprog.toNat % 2 ^ 31) }

/-- The group and phase at which a routine starts (R342, R344), and whether it resumes. -/
def startPoint (q : Seq) (opc : Nat) : Nat × Nat × Bool :=
  let m := q.mprog.toNat
  if q.exl || !bitOf m 31 || bitsOf m 23 16 ≠ opc then (0, 0, false) else (bitsOf m 15 0, bitsOf m 30 24, true)

/-- A routine with groups `0 .. count - 1` and, where `tail` is given, a tail step after them. -/
structure Routine where
  opc : Nat
  /-- The operand address, which EBAD holds for a bad resume (R342). -/
  operand : Word
  count : Nat
  group : Nat → State → Grp
  tail : Option (State → Grp) := none

/-- The routine runs from group `g` for at most `fuel` groups, then its tail; where it stops, MPROG holds the place (R341).
A tail that has not run is held as the last group in phase 1 (DEDUCED, log entry 24). -/
def runGroups (n : Nat) (r : Routine) : Nat → Nat → State → Act
  | fuel, g, s =>
    if r.count ≤ g then
      match r.tail with
      | none => .done (s.setSeq n (s.seq n).clearProgress)
      | some t =>
        match fuel with
        | 0 => .placed (holdProgress n r.opc (r.count - 1) 1 s)
        | _ + 1 =>
          match t s with
          | .ok s => .done (s.setSeq n (s.seq n).clearProgress)
          | .finish s => .done (s.setSeq n (s.seq n).clearProgress)
          | .exc c e => .exc (holdProgress n r.opc (r.count - 1) 1 s) c e
          | .wait s => .placed (holdProgress n r.opc (r.count - 1) 1 s)
    else
      match fuel with
      | 0 => .placed (holdProgress n r.opc g 0 s)
      | fuel + 1 =>
        match r.group g s with
        | .ok s => runGroups n r fuel (g + 1) s
        | .finish s => .done (s.setSeq n (s.seq n).clearProgress)
        | .exc c e => .exc (holdProgress n r.opc g 0 s) c e
        | .wait s => .placed (holdProgress n r.opc g 0 s)
  termination_by structural fuel => fuel

/-- An element-interruptible routine: it starts or resumes, and runs `groups` element groups before the sequencer reaches
the boundary at which something else happens; inside a handler it runs to its end (R344). `make` checks the operands and
gives the routine, or the exception of R404. -/
def routine (n : Nat) (gd : Guard) (reads dests : List Nat) (opc : Nat) (illegal : Option Word)
    (make : State → Except (Nat × Word) Routine) (groups : Nat) (s : State) : Res :=
  .next (instr n gd reads dests illegal Seq.clearProgress (fun s =>
    match make s with
    | .error (c, e) => .exc s c e
    | .ok r =>
      let (g, ph, resumed) := startPoint (s.seq n) opc
      let tailPoint := r.tail.isSome && ph == 1 && g + 1 == r.count
      if resumed ∧ !tailPoint ∧ (r.count ≤ g ∨ ph ≠ 0) then .exc s 7 r.operand
      else
        let g := if tailPoint then r.count else g
        let fuel := if (s.seq n).exl then r.count + 1 - g else groups
        runGroups n r fuel g s) s)

/-- R404: a block or descriptor address lies in tile data memory and is a multiple of 16. -/
def descAddr (a : Word) (size : Nat) : Option (Nat × Word) :=
  if a.toNat % 16 ≠ 0 ∨ 0xC000 < a.toNat + size then some (7, a) else none

end Sys2Proof.Machine
end

