-- ==== Sys2Proof/Machine/Vector.lean ====
section
/-!
DEFINITION. Sys2Proof/Machine/Vector.lean: VOP.R and VOP.T (14; 10 R410 to R412): element operations under MODE, masks, tensor
descriptors, the groups of a tensor operation.
-/

namespace Sys2Proof.Machine

/-- The vector operations (R411). -/
inductive VOp where
  | mov | add | sub | mul | mac | min | max | abs | neg | and | or | xor | shl | shr | cmpeq | cmplt | cmple | sel | cvt
  | exp2 | log2 | rcp | rsqrt | vcmpr | vexpd | rsum
  deriving DecidableEq, Repr

/-- Their codes. -/
def VOp.code : VOp → Nat
  | .mov => 0 | .add => 1 | .sub => 2 | .mul => 3 | .mac => 4 | .min => 5 | .max => 6 | .abs => 7 | .neg => 8 | .and => 9
  | .or => 10 | .xor => 11 | .shl => 12 | .shr => 13 | .cmpeq => 14 | .cmplt => 15 | .cmple => 16 | .sel => 17 | .cvt => 18
  | .exp2 => 19 | .log2 => 20 | .rcp => 21 | .rsqrt => 22 | .vcmpr => 23 | .vexpd => 24 | .rsum => 25

/-- The operation uses source B. -/
def VOp.usesB : VOp → Bool
  | .add | .sub | .mul | .mac | .min | .max | .and | .or | .xor | .shl | .shr | .cmpeq | .cmplt | .cmple | .sel => true
  | .mov | .abs | .neg | .cvt | .exp2 | .log2 | .rcp | .rsqrt | .vcmpr | .vexpd | .rsum => false

/-- A compare. -/
def VOp.isCmp (o : VOp) : Bool := o = .cmpeq || o = .cmplt || o = .cmple
/-- An approximate function. -/
def VOp.isApprox (o : VOp) : Bool := o = .exp2 || o = .log2 || o = .rcp || o = .rsqrt
/-- Integer only. -/
def VOp.intOnly (o : VOp) : Bool := o = .and || o = .or || o = .xor || o = .shl || o = .shr

/-- The operation is undefined under a type (R410, R411). -/
def VOp.badType (o : VOp) (ty : Nat) : Bool := decide (4 < ty) || (o.intOnly && decide (3 ≤ ty)) || (o.isApprox && decide (ty < 3))

/-- Bytes of a type (R555). -/
def tyBytes (ty : Nat) : Nat := match ty with | 0 => 1 | 2 => 4 | _ => 2
/-- Bits of a type. -/
def tyBits (ty : Nat) : Nat := 8 * tyBytes ty
/-- The floating format of types 3 and 4. -/
def tyFmt (ty : Nat) : FFmt := if ty = 4 then bf16 else fp16

/-- MODE as vector operations read it (R338). -/
structure VMode where
  rnd : Nat
  sat : Bool
  ftz : Bool
  deriving DecidableEq, Repr

/-- The MODE in force. -/
def Seq.vmode (q : Seq) : VMode := ⟨q.mode % 4, bitOf q.mode 2, bitOf q.mode 3⟩

/-! ### Elements (R558 to R560) -/

/-- An exact integer result fitted to `w` bits (R558). (DEDUCED, log entry 66) -/
def fitInt (m : VMode) (w : Nat) (x : Int) : Nat × VFlags :=
  if satS w x = x then (ux w x, 0) else if m.sat then (ux w (satS w x), 1) else (ux w x, 2)

/-- An integer operation on one element: `d`, `a`, `b` are patterns. -/
def intOp (o : VOp) (m : VMode) (w d a b : Nat) : Nat × VFlags :=
  let x := sx w a
  let y := sx w b
  match o with
  | .add => fitInt m w (x + y)
  | .sub => fitInt m w (x - y)
  | .mul => fitInt m w (x * y)
  | .mac => fitInt m w (sx w d + x * y)
  | .min => (if y < x then b else a, 0)
  | .max => (if x < y then b else a, 0)
  | .abs => fitInt m w x.natAbs
  | .neg => fitInt m w (-x)
  | .and => (a &&& b, 0)
  | .or => (a ||| b, 0)
  | .xor => (a ^^^ b, 0)
  | .shl => fitInt m w (x * 2 ^ (Nat.min b w))
  | .shr => (ux w (x / 2 ^ (Nat.min b w)), 0)
  | _ => (a, 0)

/-- A floating-point operation on one element (R559). -/
def fltOp (o : VOp) (m : VMode) (ty d a b : Nat) : Nat × VFlags :=
  let f := tyFmt ty
  let x := f.dec m.ftz a
  let y := f.dec m.ftz b
  let u := 2 ^ f.unit
  match o with
  | .add => let (r, g) := Num.add m.rnd x y; let (v, h) := f.out m.rnd m.ftz u r; (v, g ||| h)
  | .sub => let (r, g) := Num.add m.rnd x y.neg; let (v, h) := f.out m.rnd m.ftz u r; (v, g ||| h)
  | .mul => let (r, g) := Num.mul x y; let (v, h) := f.out m.rnd m.ftz (u * u) r; (v, g ||| h)
  | .mac =>
    let z := f.dec m.ftz d
    let (p, g) := Num.mul x y
    let (r, k) := Num.add m.rnd (z.scale u) p
    let (v, h) := f.out m.rnd m.ftz (u * u) r
    (v, (if z = .nan then 0 else g ||| k) ||| h)
  | .min => (if x = .nan then (f.out 0 false u y).1 else if y = .nan ∨ x.key ≤ y.key then (f.out 0 false u x).1 else (f.out 0 false u y).1, 0)
  | .max => (if x = .nan then (f.out 0 false u y).1 else if y = .nan ∨ y.key ≤ x.key then (f.out 0 false u x).1 else (f.out 0 false u y).1, 0)
  | .abs => (a % f.signB, 0)
  | .neg => (a ^^^ f.signB, 0)
  | .exp2 => vexp2 f ty m.ftz a
  | .log2 => vlog2 f ty m.ftz a
  | .rcp => vrcp f ty m.ftz a
  | .rsqrt => vrsqrt f ty m.ftz a
  | _ => (a, 0)

/-- An operation that gives one element from the elements of the same index. -/
def elemOp (o : VOp) (m : VMode) (ty d a b : Nat) : Nat × VFlags :=
  if 3 ≤ ty then fltOp o m ty d a b else intOp o m (tyBits ty) d a b

/-- A comparison (R559, R411). -/
def elemCmp (o : VOp) (m : VMode) (ty a b : Nat) : Bool :=
  if 3 ≤ ty then
    let x := (tyFmt ty).dec m.ftz a
    let y := (tyFmt ty).dec m.ftz b
    match o with
    | .cmpeq => Num.eq x y
    | .cmplt => Num.lt x y
    | _ => Num.lt x y || Num.eq x y
  else
    let x := sx (tyBits ty) a
    let y := sx (tyBits ty) b
    match o with
    | .cmpeq => decide (x = y)
    | .cmplt => decide (x < y)
    | _ => decide (x ≤ y)

/-- A conversion of one element (R560). (DEDUCED, log entry 66) -/
def elemCvt (m : VMode) (src dst a : Nat) : Nat × VFlags :=
  let fs := tyFmt src
  let fd := tyFmt dst
  let w := tyBits dst
  if src < 3 then
    let x := sx (tyBits src) a
    if dst < 3 then fitInt m w x
    else fd.enc m.rnd m.ftz (decide (x < 0)) x.natAbs 1
  else
    match fs.dec m.ftz a with
    | .nan => (if dst < 3 then 0 else fd.nanB, 0)
    | .inf neg =>
      if dst < 3 then (ux w (if neg then -(2 ^ (w - 1)) else 2 ^ (w - 1) - 1), b2n m.sat) else (fd.mk' neg fd.infB, 0)
    | .fin neg k =>
      if dst < 3 then
        let x := roundInt m.rnd neg k (2 ^ fs.unit)
        (ux w (satS w x), if satS w x = x then 0 else b2n m.sat)
      else if src = dst then ((fs.out 0 false (2 ^ fs.unit) (.fin neg k)).1, 0)
      else fd.enc m.rnd m.ftz neg k (2 ^ fs.unit)

/-- The sum of a row (R558, R559). -/
def rowSum (m : VMode) (ty : Nat) (l : List Nat) : Nat × VFlags :=
  if 3 ≤ ty then
    let f := tyFmt ty
    let xs := l.map (f.dec m.ftz)
    if xs.contains .nan then (f.nanB, 0)
    else
      let (r, g) := (xs.drop 1).foldl (fun (a : Num × VFlags) x => let (r, g) := Num.add m.rnd a.1 x; (r, a.2 ||| g)) (xs.headD (.fin false 0), 0)
      let (v, h) := f.out m.rnd m.ftz (2 ^ f.unit) r
      (v, g ||| h)
  else fitInt m (tyBits ty) (l.foldl (fun a x => a + sx (tyBits ty) x) 0)

/-! ### Lists of elements -/

/-- Elements, the flags raised. -/
abbrev VRes := List Nat × VFlags

/-- Element by element where the mask is active; other elements keep the destination's value. -/
def mapActive (act : Nat → Bool) (d : List Nat) (f : Nat → Nat → Nat × VFlags) : VRes :=
  let r := d.mapIdx (fun e v => if act e then f e v else (v, 0))
  (r.map (·.1), r.foldl (fun g p => g ||| p.2) 0)

/-- Active elements packed to the start, zeros after them (R565). -/
def compress (act : Nat → Bool) (a : List Nat) : List Nat :=
  let l := (a.mapIdx (fun e v => (act e, v))).filterMap (fun p => if p.1 then some p.2 else none)
  l ++ List.replicate (a.length - l.length) 0

/-- The leading elements placed at the active positions, zeros elsewhere (R565). -/
def expand (act : Nat → Bool) : Nat → Nat → List Nat → List Nat
  | 0, _, _ => []
  | n + 1, e, a => if act e then a.headD 0 :: expand act n (e + 1) (a.drop 1) else 0 :: expand act n (e + 1) a

/-- Every operation but the compares: the destination's new elements. `row` elements make a row. -/
def vecOp (o : VOp) (m : VMode) (ty src row : Nat) (act : Nat → Bool) (d a b : List Nat) : VRes :=
  match o with
  | .sel => (d.mapIdx (fun e _ => if act e then a.getD e 0 else b.getD e 0), 0)
  | .cvt => mapActive (fun e => act e && decide (e < a.length)) d (fun e _ => elemCvt m src ty (a.getD e 0))
  | .vcmpr => (compress act a, 0)
  | .vexpd => (expand act d.length 0 a, 0)
  | .rsum => mapActive (fun e => act e && e % row == 0) d (fun e _ => rowSum m ty (slice a e row))
  | _ => mapActive act d (fun e v => elemOp o m ty v (a.getD e 0) (b.getD e 0))

/-- The results of a compare: false for inactive elements (R557). -/
def vecCmp (o : VOp) (m : VMode) (ty : Nat) (act : Nat → Bool) (a b : List Nat) : List Bool :=
  a.mapIdx (fun e v => act e && elemCmp o m ty v (b.getD e 0))

/-! ### Registers -/

/-- The elements of `w` bytes in a list of bytes (R555). -/
def elemsOf (w : Nat) (l : List Byte) : List Nat := (List.range (l.length / w)).map (fun e => leAt l (w * e) w)

/-- The bytes of elements. -/
def bytesOf (w : Nat) (l : List Nat) : List Byte := l.flatMap (leBytes w)

/-- Entry of view a_s (R485, R556). -/
def accKey (s : State) (n set j : Nat) : Nat := set * 256 + bitsOf (s.get (F.CIM_STAT_AVIEW n)) set set * 128 + j

/-- An accumulator entry. -/
def Cim.accOf (c : Cim) (k : Nat) : Word := sparseGet (fun _ => 0) c.acc k

/-- The elements of source `c`: 0 to 7 a tile register, 8 to 11 an accumulator view. -/
def srcElems (s : State) (n c w : Nat) : List Nat :=
  if c < 8 then elemsOf w ((s.seq n).t.getD c [])
  else (List.range 128).map (fun j => ((s.tile n).cim.accOf (accKey s n (c - 8) j)).toNat)

/-- The first parity error in source `c`, as EBAD gives it (R579, R508). -/
def srcBad (s : State) (n c : Nat) : Option Word :=
  if c < 8 then
    ((s.seq n).badReg.find? (fun a => a / 0x200 == 0x400 + c)).map (BitVec.ofNat 32)
  else
    ((List.range 128).find? (fun j => (s.tile n).cim.badAcc.contains (accKey s n (c - 8) j))).map
      (fun j => BitVec.ofNat 32 (0x80000 + c * 0x200 + 4 * j))

/-- The first parity error in mask `k`. -/
def maskBad (s : State) (n k : Nat) : Option Word :=
  if k < 4 then ((s.seq n).badReg.find? (fun a => a / 0x200 == 0x400 + 12 + k)).map (BitVec.ofNat 32) else none

/-- Element `e` of `len` is active under mask `k` (R557); 4 is all elements. -/
def active (q : Seq) (k len e : Nat) : Bool := k == 4 || bitOf (q.m.getD k 0) (e * 256 / len)

/-- Sticky bits of VE_STAT. -/
def veFlags (n : Nat) (g : VFlags) (s : State) : State :=
  let f := fun (b : Nat) (fld : Fld) (s : State) => if bitOf g b then s.raise fld else s
  f 0 (F.VE_STAT_ISAT n) (f 1 (F.VE_STAT_IWRAP n) (f 2 (F.VE_STAT_NV n) (f 3 (F.VE_STAT_OF n)
    (f 4 (F.VE_STAT_UF n) (f 5 (F.VE_STAT_DZ n) s)))))

/-- Tile register `d` takes bytes; its parity is good again (R579). -/
def Seq.putT (q : Seq) (d : Nat) (b : List Byte) : Seq :=
  { q with t := q.t.set d b, badReg := q.badReg.filter (fun a => a / 0x200 ≠ 0x400 + d) }

/-- The mask bits that a compare writes (R557). -/
def maskOf (ty : Nat) (r : List Bool) : Nat :=
  (List.range 256).foldl (fun acc i =>
    let b := match ty with
      | 0 => r.getD (2 * i) false && r.getD (2 * i + 1) false
      | 2 => r.getD (i / 2) false
      | _ => r.getD i false
    acc + b2n b * 2 ^ i) 0

/-- X2 cycles of a group (R564). -/
def vopCycles (o : VOp) (ty src : Nat) (acc : Bool) : Nat :=
  if ty = 2 ∨ acc ∨ o.isApprox ∨ (o = .cvt ∧ src = 2) then 8 else 4

/-- A group's cycles are counted. -/
def veCount (n cyc : Nat) (last : Bool) (s : State) : State :=
  let s := s.incWrap (F.VE_CYC n) cyc
  if last then s.incWrap (F.VE_OPS n) 1 else s

/-- The operand codes are undefined (R410, R411, R556). -/
def vopIllegal (o : VOp) (d a b m t : Nat) : Bool :=
  let src := if o = .cvt then b else t
  o.badType t || decide (4 < m) || (o == .sel && m == 4) || (o.isCmp && decide (3 < d)) || decide (7 < d) || decide (11 < a)
  || (o.usesB && decide (11 < b)) || (o == .cvt && decide (4 < b)) || (!o.usesB && o ≠ .cvt && b ≠ 0)
  || (decide (8 ≤ a) && src ≠ 2) || (o.usesB && decide (8 ≤ b) && t ≠ 2)

/-- VOP.R: one group (R406, R410, R564). For CVT, `b` is the source type. -/
def vopR (n : Nat) (gd : Guard) (o : VOp) (d a b m t : Nat) (s : State) : Res :=
  let w := wordOf gd 0x3B (d * 2 ^ 19 + a * 2 ^ 15 + b * 2 ^ 11 + m * 2 ^ 8 + t * 2 ^ 5 + o.code)
  let dst := if o.isCmp then mCode d else tCode d
  routine n gd [tCode a] [dst] 0x3B (if vopIllegal o d a b m t then some w else none) (fun _ => .ok
    { opc := 0x3B, operand := w, count := 1,
      group := fun _ s =>
        let q := s.seq n
        let src := if o = .cvt then b else t
        let wd := tyBytes t
        let bad := (srcBad s n a).or ((if o.usesB then srcBad s n b else none).or
          ((if o = .mac then srcBad s n d else none).or (maskBad s n m)))
        match bad with
        | some e => .exc 6 e
        | none =>
          let ea := srcElems s n a (tyBytes src)
          let eb := if o.usesB then srcElems s n b wd else []
          let len := 512 / wd
          let act := active q m len
          let s := veCount n (vopCycles o t src (decide (8 ≤ a) || (o.usesB && decide (8 ≤ b)))) true s
          if o.isCmp then
            let bits := maskOf t (vecCmp o q.vmode t act ea eb)
            .ok (s.setSeq n { s.seq n with m := q.m.set d bits,
                                           badReg := q.badReg.filter (fun x => x / 0x200 ≠ 0x400 + 12 + d) })
          else
            let (r, g) := vecOp o q.vmode t src (32 / wd) act (srcElems s n d wd) ea eb
            .ok (veFlags n g (s.setSeq n ((s.seq n).putT d (bytesOf wd r)))) }) 1 s

/-! ### Tensors (R566 to R571) -/

/-- A tensor descriptor. -/
structure Tensor where
  base : Nat
  ty : Nat
  /-- Number of dimensions − 1. -/
  ndim : Nat
  /-- Sizes of dimensions 0 to 3. -/
  sz : List Nat
  /-- Strides of dimensions 0 to 3, in elements. -/
  st : List Int
  deriving DecidableEq, Repr

/-- The 16 bytes of a descriptor as a number (R566). -/
def tensorOf (v : Nat) : Tensor :=
  let p := v / 2 ^ 32
  { base := v % 2 ^ 16, ty := bitsOf v 18 16, ndim := bitsOf v 20 19,
    sz := (List.range 4).map (fun k => bitsOf p (10 * k + 9) (10 * k) + 1),
    st := (List.range 4).map (fun k => sx 14 (bitsOf p (14 * k + 53) (14 * k + 40))) }

/-- Elements of a tensor (R567). -/
def Tensor.count (t : Tensor) : Nat := t.sz.foldl (· * ·) 1

/-- Address of element `i` of the walk, dimension 0 fastest (R567). -/
def Tensor.addr (t : Tensor) (i : Nat) : Int :=
  let rec go : List Nat → List Int → Nat → Int
    | z :: zs, k :: ks, i => (i % z : Nat) * k + go zs ks (i / z)
    | _, _, _ => 0
  t.base + tyBytes t.ty * go t.sz t.st i

/-- Lowest and highest element addresses. -/
def Tensor.span (t : Tensor) : Int × Int :=
  let p := (t.sz.zip t.st).map (fun (z, k) => ((z : Int) - 1) * k)
  let w : Int := tyBytes t.ty
  (t.base + w * (p.map (min 0)).sum, t.base + w * (p.map (max 0)).sum)

/-- A descriptor raises DESC by itself (R569): a zero field, an unused dimension, its TYPE, its base, its range.
(DEDUCED, log entry 67) -/
def tensorBad (v : Nat) : Bool :=
  let t := tensorOf v
  let (lo, hi) := t.span
  bitsOf v 31 21 ≠ 0 || decide (4 < t.ty)
  || (List.range 4).any (fun k => decide (t.ndim < k) && (t.sz.getD k 1 ≠ 1 || t.st.getD k 0 ≠ 0))
  || t.base % tyBytes t.ty ≠ 0 || decide (lo < 0) || decide (0xC000 < hi + tyBytes t.ty)

/-- The destination has stride 0 in a dimension of size greater than 1. -/
def Tensor.folded (t : Tensor) : Bool := (t.sz.zip t.st).any (fun (z, k) => decide (1 < z) && k == 0)

/-- Store bytes at scattered addresses in order; a line that the writes cover whole is clean (R386; DEDUCED, log entry 25). -/
def Tile.scatter (t : Tile) (w : List (Nat × Byte)) : Tile :=
  let as := w.map (·.1)
  { t with mem := w.foldl (fun m p => memPut m p.1 p.2) t.mem,
           poison := t.poison.filter (fun l => !(List.range 8).all (fun i => as.contains (l * 8 + i))) }

/-- The bytes of an element at an address. -/
def spread (a : Nat) (b : List Byte) : List (Nat × Byte) := b.mapIdx (fun i x => (a + i, x))

/-- A VOP.T block, its 64 bytes as a number. -/
structure VBlock where
  head : Nat
  d : Tensor
  a : Tensor
  b : Tensor
  deriving DecidableEq, Repr

/-- The block of a VOP.T at `ad` (R412). (DEDUCED, log entry 26) -/
def vblock (t : Tile) (ad : Nat) : VBlock :=
  ⟨t.nat ad 4, tensorOf (t.nat (ad + 16) 16), tensorOf (t.nat (ad + 32) 16), tensorOf (t.nat (ad + 48) 16)⟩

/-- The block raises DESC (R412, R569). -/
def vblockBad (t : Tile) (ad : Nat) (o : VOp) : Bool :=
  let k := vblock t ad
  let ty := bitsOf k.head 7 5
  let src := bitsOf k.head 14 11
  let m := bitsOf k.head 10 8
  decide (2 ^ 15 ≤ k.head) || t.nat (ad + 4) 12 ≠ 0 || o.badType ty || decide (4 < m) || (o == .sel && m == 4)
  || (o == .cvt && decide (4 < src))
  || tensorBad (t.nat (ad + 16) 16) || tensorBad (t.nat (ad + 32) 16)
  || (if o.usesB then tensorBad (t.nat (ad + 48) 16) || k.b.ty ≠ ty || k.b.ndim ≠ k.d.ndim || k.b.sz ≠ k.d.sz
      else t.nat (ad + 48) 16 ≠ 0)
  || k.d.ty ≠ ty || k.a.ty ≠ (if o = .cvt then src else ty) || k.a.ndim ≠ k.d.ndim || k.a.sz ≠ k.d.sz || k.d.folded

/-- The block's 64 bytes hold an uncorrectable error: its address. -/
def blockBad (t : Tile) (ad len : Nat) : Option Word :=
  ((List.range (len / 8)).find? (fun i => t.bad (ad + 8 * i) 8)).map (fun i => BitVec.ofNat 32 (ad + 8 * i))

/-- Addresses of the elements of group `g` (R568). -/
def groupAddrs (t : Tensor) (g : Nat) : List Nat :=
  (List.range (min 256 (t.count - 256 * g))).map (fun i => (t.addr (256 * g + i)).toNat)

/-- Values of elements at addresses. -/
def readElems (t : Tile) (w : Nat) (as : List Nat) : List Nat := as.map (fun a => t.nat a w)

/-- The first element at these addresses that lies in a poisoned line. -/
def elemsBad (t : Tile) (w : Nat) (as : List Nat) : Option Word := (as.find? (fun a => t.bad a w)).map (BitVec.ofNat 32)

/-- One group of a VOP.T (R568, R570, R571): every source is read before the destination is written. -/
def vopTGroup (n : Nat) (o : VOp) (k : VBlock) (total g : Nat) (s : State) : Grp :=
  let t := s.tile n
  let ty := bitsOf k.head 7 5
  let src := k.a.ty
  let m := bitsOf k.head 10 8
  let w := tyBytes ty
  let da := groupAddrs k.d g
  let aa := groupAddrs k.a g
  let ba := if o.usesB then groupAddrs k.b g else []
  let bad := (elemsBad t (tyBytes src) aa).or ((elemsBad t w ba).or
    ((if o = .mac then elemsBad t w da else none).or (maskBad s n m)))
  match bad with
  | some e => .exc 6 e
  | none =>
    let q := s.seq n
    let act := fun e => m == 4 || bitOf (q.m.getD m 0) e
    let ea := readElems t (tyBytes src) aa
    let eb := readElems t w ba
    let one := if 3 ≤ ty then (tyFmt ty).oneB else 1
    let (r, f) := if o.isCmp then ((vecCmp o q.vmode ty act ea eb).map (fun b => if b then one else 0), 0)
      else vecOp o q.vmode ty src 16 act (readElems t w da) ea eb
    let wr := (da.zip r).flatMap (fun (a, v) => spread a (leBytes w v))
    let s := s.setTile n (t.scatter wr)
    .ok (veFlags n f (veCount n (vopCycles o ty src false) (decide (g + 1 = total)) s))

/-- VOP.T with operation `o` (R412). A command acts where the block at `a` holds its operation (DEDUCED, log entry 26). -/
def vopT (n : Nat) (gd : Guard) (o : VOp) (a groups : Nat) (s : State) : Res :=
  let vop := (s.tile n).nat ((s.seq n).rd a).toNat 4 % 32
  if vop ≤ 25 ∧ vop ≠ o.code ∧ (s.seq n).holds gd then .next s
  else routine n gd [a] [] 0x3C none (fun s =>
    let q := s.seq n
    let ad := (q.rd a).toNat
    let t := s.tile n
    match descAddr (q.rd a) 64 with
    | some e => .error e
    | none =>
      match blockBad t ad 64 with
      | some e => .error (6, e)
      | none =>
        if 25 < t.nat ad 4 % 32 ∨ vblockBad t ad o then .error (7, q.rd a)
        else
          let k := vblock t ad
          let total := ceilDiv k.d.count 256
          .ok { opc := 0x3C, operand := q.rd a, count := total, group := vopTGroup n o k total }) groups s

/-! ### Rows -/

/-- Row VOPR_MOV. -/
def execVoprMov (tile : Nat) (gd : Guard) (d a m t : Nat) (s : State) : Res := vopR tile gd .mov d a 0 m t s
/-- Row VOPR_ADD. -/
def execVoprAdd (tile : Nat) (gd : Guard) (d a b m t : Nat) (s : State) : Res := vopR tile gd .add d a b m t s
/-- Row VOPR_SUB. -/
def execVoprSub (tile : Nat) (gd : Guard) (d a b m t : Nat) (s : State) : Res := vopR tile gd .sub d a b m t s
/-- Row VOPR_MUL. -/
def execVoprMul (tile : Nat) (gd : Guard) (d a b m t : Nat) (s : State) : Res := vopR tile gd .mul d a b m t s
/-- Row VOPR_MAC. -/
def execVoprMac (tile : Nat) (gd : Guard) (d a b m t : Nat) (s : State) : Res := vopR tile gd .mac d a b m t s
/-- Row VOPR_MIN. -/
def execVoprMin (tile : Nat) (gd : Guard) (d a b m t : Nat) (s : State) : Res := vopR tile gd .min d a b m t s
/-- Row VOPR_MAX. -/
def execVoprMax (tile : Nat) (gd : Guard) (d a b m t : Nat) (s : State) : Res := vopR tile gd .max d a b m t s
/-- Row VOPR_ABS. -/
def execVoprAbs (tile : Nat) (gd : Guard) (d a m t : Nat) (s : State) : Res := vopR tile gd .abs d a 0 m t s
/-- Row VOPR_NEG. -/
def execVoprNeg (tile : Nat) (gd : Guard) (d a m t : Nat) (s : State) : Res := vopR tile gd .neg d a 0 m t s
/-- Row VOPR_AND. -/
def execVoprAnd (tile : Nat) (gd : Guard) (d a b m t : Nat) (s : State) : Res := vopR tile gd .and d a b m t s
/-- Row VOPR_OR. -/
def execVoprOr (tile : Nat) (gd : Guard) (d a b m t : Nat) (s : State) : Res := vopR tile gd .or d a b m t s
/-- Row VOPR_XOR. -/
def execVoprXor (tile : Nat) (gd : Guard) (d a b m t : Nat) (s : State) : Res := vopR tile gd .xor d a b m t s
/-- Row VOPR_SHL. -/
def execVoprShl (tile : Nat) (gd : Guard) (d a b m t : Nat) (s : State) : Res := vopR tile gd .shl d a b m t s
/-- Row VOPR_SHR. -/
def execVoprShr (tile : Nat) (gd : Guard) (d a b m t : Nat) (s : State) : Res := vopR tile gd .shr d a b m t s
/-- Row VOPR_CMPEQ. -/
def execVoprCmpeq (tile : Nat) (gd : Guard) (d a b m t : Nat) (s : State) : Res := vopR tile gd .cmpeq d a b m t s
/-- Row VOPR_CMPLT. -/
def execVoprCmplt (tile : Nat) (gd : Guard) (d a b m t : Nat) (s : State) : Res := vopR tile gd .cmplt d a b m t s
/-- Row VOPR_CMPLE. -/
def execVoprCmple (tile : Nat) (gd : Guard) (d a b m t : Nat) (s : State) : Res := vopR tile gd .cmple d a b m t s
/-- Row VOPR_SEL. -/
def execVoprSel (tile : Nat) (gd : Guard) (d a b m t : Nat) (s : State) : Res := vopR tile gd .sel d a b m t s
/-- Row VOPR_CVT: `st` is the source type. -/
def execVoprCvt (tile : Nat) (gd : Guard) (d a st m t : Nat) (s : State) : Res := vopR tile gd .cvt d a st m t s
/-- Row VOPR_EXP2. -/
def execVoprExp2 (tile : Nat) (gd : Guard) (d a m t : Nat) (s : State) : Res := vopR tile gd .exp2 d a 0 m t s
/-- Row VOPR_LOG2. -/
def execVoprLog2 (tile : Nat) (gd : Guard) (d a m t : Nat) (s : State) : Res := vopR tile gd .log2 d a 0 m t s
/-- Row VOPR_RCP. -/
def execVoprRcp (tile : Nat) (gd : Guard) (d a m t : Nat) (s : State) : Res := vopR tile gd .rcp d a 0 m t s
/-- Row VOPR_RSQRT. -/
def execVoprRsqrt (tile : Nat) (gd : Guard) (d a m t : Nat) (s : State) : Res := vopR tile gd .rsqrt d a 0 m t s
/-- Row VOPR_VCMPR. -/
def execVoprVcmpr (tile : Nat) (gd : Guard) (d a m t : Nat) (s : State) : Res := vopR tile gd .vcmpr d a 0 m t s
/-- Row VOPR_VEXPD. -/
def execVoprVexpd (tile : Nat) (gd : Guard) (d a m t : Nat) (s : State) : Res := vopR tile gd .vexpd d a 0 m t s
/-- Row VOPR_RSUM. -/
def execVoprRsum (tile : Nat) (gd : Guard) (d a m t : Nat) (s : State) : Res := vopR tile gd .rsum d a 0 m t s
/-- Row VOPT_MOV. -/
def execVoptMov (tile : Nat) (gd : Guard) (a groups : Nat) (s : State) : Res := vopT tile gd .mov a groups s
/-- Row VOPT_ADD. -/
def execVoptAdd (tile : Nat) (gd : Guard) (a groups : Nat) (s : State) : Res := vopT tile gd .add a groups s
/-- Row VOPT_SUB. -/
def execVoptSub (tile : Nat) (gd : Guard) (a groups : Nat) (s : State) : Res := vopT tile gd .sub a groups s
/-- Row VOPT_MUL. -/
def execVoptMul (tile : Nat) (gd : Guard) (a groups : Nat) (s : State) : Res := vopT tile gd .mul a groups s
/-- Row VOPT_MAC. -/
def execVoptMac (tile : Nat) (gd : Guard) (a groups : Nat) (s : State) : Res := vopT tile gd .mac a groups s
/-- Row VOPT_MIN. -/
def execVoptMin (tile : Nat) (gd : Guard) (a groups : Nat) (s : State) : Res := vopT tile gd .min a groups s
/-- Row VOPT_MAX. -/
def execVoptMax (tile : Nat) (gd : Guard) (a groups : Nat) (s : State) : Res := vopT tile gd .max a groups s
/-- Row VOPT_ABS. -/
def execVoptAbs (tile : Nat) (gd : Guard) (a groups : Nat) (s : State) : Res := vopT tile gd .abs a groups s
/-- Row VOPT_NEG. -/
def execVoptNeg (tile : Nat) (gd : Guard) (a groups : Nat) (s : State) : Res := vopT tile gd .neg a groups s
/-- Row VOPT_AND. -/
def execVoptAnd (tile : Nat) (gd : Guard) (a groups : Nat) (s : State) : Res := vopT tile gd .and a groups s
/-- Row VOPT_OR. -/
def execVoptOr (tile : Nat) (gd : Guard) (a groups : Nat) (s : State) : Res := vopT tile gd .or a groups s
/-- Row VOPT_XOR. -/
def execVoptXor (tile : Nat) (gd : Guard) (a groups : Nat) (s : State) : Res := vopT tile gd .xor a groups s
/-- Row VOPT_SHL. -/
def execVoptShl (tile : Nat) (gd : Guard) (a groups : Nat) (s : State) : Res := vopT tile gd .shl a groups s
/-- Row VOPT_SHR. -/
def execVoptShr (tile : Nat) (gd : Guard) (a groups : Nat) (s : State) : Res := vopT tile gd .shr a groups s
/-- Row VOPT_CMPEQ. -/
def execVoptCmpeq (tile : Nat) (gd : Guard) (a groups : Nat) (s : State) : Res := vopT tile gd .cmpeq a groups s
/-- Row VOPT_CMPLT. -/
def execVoptCmplt (tile : Nat) (gd : Guard) (a groups : Nat) (s : State) : Res := vopT tile gd .cmplt a groups s
/-- Row VOPT_CMPLE. -/
def execVoptCmple (tile : Nat) (gd : Guard) (a groups : Nat) (s : State) : Res := vopT tile gd .cmple a groups s
/-- Row VOPT_SEL. -/
def execVoptSel (tile : Nat) (gd : Guard) (a groups : Nat) (s : State) : Res := vopT tile gd .sel a groups s
/-- Row VOPT_CVT. -/
def execVoptCvt (tile : Nat) (gd : Guard) (a groups : Nat) (s : State) : Res := vopT tile gd .cvt a groups s
/-- Row VOPT_EXP2. -/
def execVoptExp2 (tile : Nat) (gd : Guard) (a groups : Nat) (s : State) : Res := vopT tile gd .exp2 a groups s
/-- Row VOPT_LOG2. -/
def execVoptLog2 (tile : Nat) (gd : Guard) (a groups : Nat) (s : State) : Res := vopT tile gd .log2 a groups s
/-- Row VOPT_RCP. -/
def execVoptRcp (tile : Nat) (gd : Guard) (a groups : Nat) (s : State) : Res := vopT tile gd .rcp a groups s
/-- Row VOPT_RSQRT. -/
def execVoptRsqrt (tile : Nat) (gd : Guard) (a groups : Nat) (s : State) : Res := vopT tile gd .rsqrt a groups s
/-- Row VOPT_VCMPR. -/
def execVoptVcmpr (tile : Nat) (gd : Guard) (a groups : Nat) (s : State) : Res := vopT tile gd .vcmpr a groups s
/-- Row VOPT_VEXPD. -/
def execVoptVexpd (tile : Nat) (gd : Guard) (a groups : Nat) (s : State) : Res := vopT tile gd .vexpd a groups s
/-- Row VOPT_RSUM. -/
def execVoptRsum (tile : Nat) (gd : Guard) (a groups : Nat) (s : State) : Res := vopT tile gd .rsum a groups s

end Sys2Proof.Machine
end

