-- ==== Sys2Proof/Machine/NeRecord.lean ====
section
/-!
DEFINITION. Sys2Proof/Machine/NeRecord.lean: neuron regions, records, the leak, an input, the dynamics program, thresholds
(11 R436 to R451).
-/

namespace Sys2Proof.Machine

/-! ### Counters and configuration -/

/-- The neuron-engine counters (11, NE counters). -/
inductive NeCnt where
  | inEv | updates | fired | early | overdue | evPoison | recPoison | noRegion | offDrop | inboxOvf | clsDrop | inSat | outClamp
  | drLate | drClamp | drSat | dynIll | passes
  deriving DecidableEq, Repr

/-- Place of a counter. -/
def NeCnt.ix : NeCnt → Nat
  | .inEv => 0 | .updates => 1 | .fired => 2 | .early => 3 | .overdue => 4 | .evPoison => 5 | .recPoison => 6 | .noRegion => 7
  | .offDrop => 8 | .inboxOvf => 9 | .clsDrop => 10 | .inSat => 11 | .outClamp => 12 | .drLate => 13 | .drClamp => 14
  | .drSat => 15 | .dynIll => 16 | .passes => 17

/-- A counter of tile `n` takes `k`. -/
def neCount (n : Nat) (c : NeCnt) (k : Nat) (s : State) : State := if k = 0 then s else s.incBy (F.NE_CNT n c.ix) k

/-- The neuron engine of tile `n`. -/
def State.ne (s : State) (n : Nat) : Neuron := (s.tile n).ne

/-- Replace it. -/
def State.setNe (s : State) (n : Nat) (x : Neuron) : State := s.setTile n { s.tile n with ne := x }

/-- A region (NE_REGr). -/
structure Region where
  ix : Nat
  tbase : Nat
  count : Nat
  mbase : Nat
  fmt : Nat
  k : Nat
  cls : Nat
  vtype : Nat
  deriving DecidableEq, Repr

/-- Region `r` of tile `n`, when it is valid. -/
def regionOf (s : State) (n r : Nat) : Option Region :=
  if s.flag (F.NE_REG4_VALID n r) then
    some { ix := r, tbase := s.get (F.NE_REG0_TBASE n r), count := s.get (F.NE_REG0_CNT n r) + 1, mbase := s.get (F.NE_REG4_MBASE n r),
           fmt := s.get (F.NE_REG4_FMT n r), k := s.get (F.NE_REG4_K n r), cls := s.get (F.NE_REG4_CLASS n r),
           vtype := s.get (F.NE_REG4_VTYPE n r) }
  else none

/-- The valid regions in order. -/
def regionsOf (s : State) (n : Nat) : List Region := (List.range 8).filterMap (regionOf s n)

/-- Bytes of a record (R437). -/
def Region.size (r : Region) : Nat := if r.fmt = 0 then 4 else if r.fmt = 1 then 8 else 16
/-- Variables of a record. -/
def Region.vars (r : Region) : Nat := if r.fmt = 0 then 1 else if r.fmt = 1 then 2 else 4
/-- Data-space address of record `j` (R320, R436). -/
def Region.addr (r : Region) (j : Nat) : Nat := 0x10000 + r.mbase + j * r.size
/-- Record `j` lies in neuron-state memory. -/
def Region.inMem (r : Region) (j : Nat) : Bool := decide (r.mbase + (j + 1) * r.size ≤ 0x40000)
/-- The element type T of the region's variables: 1 INT16, 3 FP16, 4 BF16. -/
def Region.ty (r : Region) : Nat := if r.vtype = 0 then 1 else if r.vtype = 1 then 3 else 4
/-- Target `t` names a record of the region that lies in memory. -/
def Region.has (r : Region) (t : Int) : Bool :=
  decide ((r.tbase : Int) ≤ t) && decide (t < r.tbase + r.count) && r.inMem (t - r.tbase).toNat

/-- The region of TARGET `t` (R436). -/
def targetRegion (s : State) (n : Nat) (t : Nat) : Option Region := (regionsOf s n).find? (fun r => r.has t)

/-- A record. -/
structure Rec where
  v : List Nat
  stamp : Nat
  refr : Nat := 0
  user : Nat := 0
  deriving DecidableEq, Repr

/-- The record in memory (R437). -/
def loadRec (t : Tile) (r : Region) (j : Nat) : Rec :=
  let a := r.addr j
  if r.fmt = 0 then { v := [t.nat a 2, 0, 0, 0], stamp := t.nat (a + 2) 2 }
  else if r.fmt = 1 then { v := [t.nat a 2, t.nat (a + 2) 2, 0, 0], stamp := t.nat (a + 4) 2 }
  else { v := (List.range 4).map (fun i => t.nat (a + 2 * i) 2), stamp := t.nat (a + 8) 2, refr := t.nat (a + 10) 1,
         user := t.nat (a + 11) 1 }

/-- Its bytes; reserved bits are zero. -/
def Rec.bytes (x : Rec) (r : Region) : List Byte :=
  let v := fun i => leBytes 2 (x.v.getD i 0)
  if r.fmt = 0 then v 0 ++ leBytes 2 x.stamp
  else if r.fmt = 1 then v 0 ++ v 1 ++ leBytes 2 x.stamp ++ leBytes 2 0
  else v 0 ++ v 1 ++ v 2 ++ v 3 ++ leBytes 2 x.stamp ++ leBytes 1 x.refr ++ leBytes 1 x.user ++ leBytes 4 0

/-- Put a record into memory. -/
def storeRec (n : Nat) (r : Region) (j : Nat) (x : Rec) (s : State) : State :=
  s.setTile n ((s.tile n).store (r.addr j) (x.bytes r))

/-- The stamp of tick `t` (R437). -/
def stampOf (k : Nat) (t : Int) : Nat := ux 16 (t / 2 ^ k)

/-! ### The leak (R441, R442) -/

/-- Entry `i` of decay table `t`: an entry above 0x8000 is used as 0x8000. -/
def tabEntry (s : State) (n t i : Nat) : Nat :=
  let w := s.get (F.NE_TAB n t (i / 2))
  min 0x8000 (if i % 2 = 0 then w % 65536 else w / 65536)

/-- The decay factor. -/
def decay (s : State) (n t ts e : Nat) : Nat :=
  let u := e / 2 ^ ts
  if 63 ≤ u then tabEntry s n t 63
  else
    let a : Int := tabEntry s n t u
    let b : Int := tabEntry s n t (u + 1)
    (a + (b - a) * (e % 2 ^ ts : Nat) / 2 ^ ts).toNat

/-- TBL of variable `i` of a class. -/
def tblOf (s : State) (n c i : Nat) : Nat :=
  s.get (match i with
    | 0 => F.NE_CLS_10_TBL0 n c
    | 1 => F.NE_CLS_10_TBL1 n c
    | 2 => F.NE_CLS_10_TBL2 n c
    | _ => F.NE_CLS_10_TBL3 n c)

/-- REST of variable `i` of a class. -/
def restOf (s : State) (n c i : Nat) : Nat :=
  s.get (match i with
    | 0 => F.NE_CLS_14_REST0 n c
    | 1 => F.NE_CLS_14_REST1 n c
    | 2 => F.NE_CLS_18_REST2 n c
    | _ => F.NE_CLS_18_REST3 n c)

/-- A leaked variable. -/
def leakVar (ty rest f v : Nat) : Nat :=
  if ty = 1 then ux 16 (sx 16 rest + ((sx 16 v - sx 16 rest) * f + 0x4000) / 2 ^ 15)
  else
    let m := tyFmt ty
    let x := (Num.add 0 (m.dec false v) (m.dec false rest).neg).1
    let y := (Num.mul x (.fin false f)).1
    let z := (Num.add 0 y ((m.dec false rest).scale (2 ^ 15))).1
    (m.out 0 false (2 ^ m.unit * 2 ^ 15) z).1

/-- A record leaks over `e` stamp units. -/
def leakRec (s : State) (n : Nat) (r : Region) (e : Nat) (x : Rec) : Rec :=
  let ts := s.get (F.NE_CLS_10_TS n r.cls)
  { x with
    v := x.v.mapIdx (fun i v =>
      let t := tblOf s n r.cls i
      if i < r.vars ∧ t ≠ 31 then leakVar r.ty (restOf s n r.cls i) (decay s n (t % 16) ts e) v else v),
    refr := x.refr - e }

/-! ### Applying an input (R440, R443, R445) -/

/-- A saturated INT16 value as a pattern of the region's type. -/
def ofInt16 (ty : Nat) (x : Int) : Nat := if ty = 1 then ux 16 x else (elemCvt ⟨0, false, false⟩ 1 ty (ux 16 x)).1

/-- A saturating addition, and whether it saturated. -/
def satSum (ty a b : Nat) : Nat × Bool :=
  if ty = 1 then
    let x := sx 16 a + sx 16 b
    (ux 16 (satS 16 x), satS 16 x ≠ x)
  else
    let m := tyFmt ty
    let x := (Num.add 0 (m.dec false a) (m.dec false b)).1
    match x with
    | .fin neg k =>
      let top := (m.dec false (m.infB - 1)).int
      if top < k then (m.mk' neg (m.infB - 1), true) else ((m.out 0 false (2 ^ m.unit) x).1, false)
    | x => ((m.out 0 false (2 ^ m.unit) x).1, false)

/-- max(v, c) (R445, R559). -/
def maxOf (ty a b : Nat) : Nat := (elemOp .max ⟨0, true, false⟩ ty 0 a b).1

/-- What one input did to a record. -/
structure Applied where
  x : Rec
  early : Bool
  sat : Bool

/-- An input with contribution `c` at tick `t` under INMODE `mode`. -/
def applyInput (s : State) (n : Nat) (r : Region) (t : Int) (c mode : Nat) (x : Rec) : Applied :=
  let st := stampOf r.k t
  let e := sx 16 ((st + 65536 - x.stamp) % 65536)
  let y := if e < 0 then x else { leakRec s n r e.toNat x with stamp := st }
  let i := s.get (F.NE_CLS_00_IVAR n r.cls)
  if r.vars ≤ i then ⟨y, decide (e < 0), false⟩
  else
    let v := y.v.getD i 0
    let (w, sat) := if mode = 0 then satSum r.ty v c else if mode = 1 then (c, false) else (maxOf r.ty v c, false)
    ⟨{ y with v := y.v.set i w }, decide (e < 0), sat⟩

/-! ### The dynamics program (R447, R448) -/

/-- The lane of a record. -/
structure Lane where
  v : List Nat
  inp : Nat
  dt : Nat
  s0 : Nat := 0
  s1 : Nat := 0
  q0 : Bool := false
  q1 : Bool := false
  deriving DecidableEq, Repr

/-- Class constant K_i. -/
def constOf (s : State) (n c i : Nat) : Nat := s.get (if i % 2 = 0 then F.NE_CLS_K_KA n c (i / 2) else F.NE_CLS_K_KB n c (i / 2))

/-- A source of a dynamics word; variables that the format lacks read as zero. -/
def laneSrc (s : State) (n : Nat) (r : Region) (l : Lane) (a : Nat) : Nat :=
  if a < 4 then (if a < r.vars then l.v.getD a 0 else 0)
  else match a with
  | 4 => l.inp
  | 5 => l.dt
  | 6 => l.s0
  | 7 => l.s1
  | _ => constOf s n r.cls (a - 8)

/-- The operation of a code, where R448 allows it. -/
def dynOp (code : Nat) : Option VOp :=
  [VOp.mov, .add, .sub, .mul, .mac, .min, .max, .abs, .neg, .and, .or, .xor, .shl, .shr, .cmpeq, .cmplt, .cmple, .sel].getD code .cvt
    |> fun o => if o = .cvt then ([VOp.exp2, .log2, .rcp, .rsqrt][code - 19]?).filter (fun _ => 19 ≤ code) else some o

/-- A word that executes as no operation (R448). -/
def dynIllegal (ty w : Nat) : Bool :=
  let d := bitsOf w 21 19
  let b := bitsOf w 14 11
  let m := bitsOf w 10 8
  match dynOp (w % 32) with
  | none => true
  | some o =>
    bitsOf w 31 22 ≠ 0x3B || bitsOf w 7 5 ≠ ty || o.badType ty || (m ≠ 0 && m ≠ 1 && m ≠ 4) || (o == .sel && m == 4)
    || (if o.isCmp then decide (1 < d) else d == 4 || d == 5) || (!o.usesB && b ≠ 0)

/-- One dynamics word on one lane. -/
def dynStep (s : State) (n : Nat) (r : Region) (vm : VMode) (w : Nat) (l : Lane) : Lane :=
  if dynIllegal r.ty w then l
  else match dynOp (w % 32) with
  | none => l
  | some o =>
    let d := bitsOf w 21 19
    let a := laneSrc s n r l (bitsOf w 18 15)
    let b := laneSrc s n r l (bitsOf w 14 11)
    let m := bitsOf w 10 8
    let act := m == 4 || (if m = 0 then l.q0 else l.q1)
    if o.isCmp then
      let q := act && elemCmp o vm r.ty a b
      if d = 0 then { l with q0 := q } else { l with q1 := q }
    else
      let old := laneSrc s n r l d
      let x := if o = .sel then (if act then a else b) else if act then (elemOp o vm r.ty old a b).1 else old
      if d < 4 then (if d < r.vars then { l with v := l.v.set d x } else l)
      else if d = 6 then { l with s0 := x } else { l with s1 := x }

/-- The words of a class's program; the memory's 64 words wrap (DEDUCED, log entry 27). -/
def dynWords (s : State) (n c : Nat) : List Nat :=
  (List.range (s.get (F.NE_CLS_1C_LEN n c))).map (fun i => s.get (F.NE_DYN n ((s.get (F.NE_CLS_1C_ENTRY n c) + i) % 64)))

/-- The class's program on a lane. -/
def dynRun (s : State) (n : Nat) (r : Region) (l : Lane) : Lane :=
  let vm : VMode := ⟨s.get (F.NE_CLS_1C_RND n r.cls), s.flag (F.NE_CLS_1C_SAT n r.cls), false⟩
  (dynWords s n r.cls).foldl (fun l w => dynStep s n r vm w l) l

/-- A word that the class of region `r` uses holds an uncorrectable error (R470). (DEDUCED, log entry 27) -/
def classBad (s : State) (n : Nat) (r : Region) : Bool :=
  let bad := (s.ne n).badWords
  let e := s.get (F.NE_CLS_1C_ENTRY n r.cls)
  bad.any (fun w =>
    if w < 64 then decide ((w + 64 - e) % 64 < s.get (F.NE_CLS_1C_LEN n r.cls))
    else (List.range r.vars).any (fun i => tblOf s n r.cls i == (w - 64) / 32))

/-! ### Thresholds (R449) -/

/-- The record fires. -/
def fires (s : State) (n : Nat) (r : Region) (l : Lane) (refr : Nat) : Bool :=
  let v := laneSrc s n r l (s.get (F.NE_CLS_30_TVAR n r.cls))
  let thr := s.get (F.NE_CLS_34_THR n r.cls)
  (r.fmt ≠ 2 || refr == 0)
  && (if s.flag (F.NE_CLS_30_FIRE_SRC n r.cls) then l.q0 else elemCmp .cmple ⟨0, true, false⟩ r.ty thr v)

/-- V − THR: for floating types truncated toward zero; NaN gives 0, as in R560. -/
def excess (ty v thr : Nat) : Int :=
  if ty = 1 then sx 16 v - sx 16 thr
  else
    let m := tyFmt ty
    match (Num.add 0 (m.dec false v) (m.dec false thr).neg).1 with
    | .nan => 0
    | .inf neg => if neg then -(2 ^ 40) else 2 ^ 40
    | .fin neg k => roundInt 1 neg k (2 ^ m.unit)

/-- VALUE of a firing. -/
def fireValue (s : State) (n : Nat) (r : Region) (v : Nat) : Int :=
  if s.flag (F.NE_CLS_30_GRADE n r.cls) then
    clampI 1 127 (excess r.ty v (s.get (F.NE_CLS_34_THR n r.cls)) / 2 ^ s.get (F.NE_CLS_30_OSHIFT n r.cls) + 1)
  else sx 8 (s.get (F.NE_CLS_30_OVAL n r.cls))

/-- V − THR as RESET 1 leaves it: saturated to the type. -/
def subSat (ty v thr : Nat) : Nat :=
  if ty = 1 then ux 16 (satS 16 (sx 16 v - sx 16 thr)) else (satSum ty v (thr ^^^ 0x8000)).1

/-- The record after a firing. -/
def fireReset (s : State) (n : Nat) (r : Region) (x : Rec) : Rec :=
  let i := s.get (F.NE_CLS_30_TVAR n r.cls)
  let v := x.v.getD i 0
  let v' := match s.get (F.NE_CLS_30_RESET n r.cls) with
    | 0 => s.get (F.NE_CLS_34_VRESET n r.cls)
    | 1 => subSat r.ty v (s.get (F.NE_CLS_34_THR n r.cls))
    | _ => v
  { x with v := if i < r.vars then x.v.set i v' else x.v, refr := if r.fmt = 2 then s.get (F.NE_CLS_30_REFP n r.cls) else x.refr }

/-! ### Delay rings (R456) -/

/-- A ring set (NE_RINGs). -/
structure RingSet where
  ix : Nat
  tbase : Nat
  count : Nat
  rbase : Nat
  slots : Nat
  w : Nat
  deriving DecidableEq, Repr

/-- Ring set `i` of tile `n`, when it is valid. -/
def ringOf (s : State) (n i : Nat) : Option RingSet :=
  if s.flag (F.NE_RING4_VALID n i) then
    some { ix := i, tbase := s.get (F.NE_RING0_TBASE n i), count := s.get (F.NE_RING0_CNT n i) + 1, rbase := s.get (F.NE_RING4_RBASE n i),
           slots := 4 * 2 ^ s.get (F.NE_RING4_SLOTS n i), w := s.get (F.NE_RING4_W n i) }
  else none

/-- The valid ring sets. -/
def ringsOf (s : State) (n : Nat) : List RingSet := (List.range 4).filterMap (ringOf s n)

/-- Data-space address of the accumulator of entry `j`, slot number `k`. -/
def RingSet.addr (g : RingSet) (j k : Nat) : Nat := 0x50000 + g.rbase + j * (2 * g.slots) + k % g.slots * 2

/-- The accumulator lies in ring memory. -/
def RingSet.inMem (g : RingSet) (j : Nat) : Bool := decide (g.rbase + (j + 1) * (2 * g.slots) ≤ 0x10000)

/-- An insertion of `v`, due at tick `d`, for target `t` of set `g`. -/
def ringInsert (n : Nat) (g : RingSet) (t : Int) (v : Int) (d : Int) (s : State) : State :=
  let j := (t - g.tbase).toNat
  if t < g.tbase ∨ (g.tbase : Int) + g.count ≤ t ∨ !g.inMem j then neCount n .noRegion 1 s
  else
    let h : Int := (s.ne n).horizon.getD g.ix 0
    let k := d / 2 ^ g.w
    let top := h + g.slots - 1
    let s := if k < h then neCount n .drLate 1 s else if top < k then neCount n .drClamp 1 s else s
    let a := g.addr j (clampI h top k).toNat
    let x := sx 16 ((s.tile n).nat a 2) + v
    let s := if satS 16 x = x then s else neCount n .drSat 1 s
    s.setTile n ((s.tile n).store a (leBytes 2 (ux 16 (satS 16 x))))

/-! ### Batches (R447 to R451, R468, R469) -/

/-- One record update of a batch. -/
structure Upd where
  r : Region
  /-- Record number in the region. -/
  j : Nat
  t : Int
  /-- Contribution, as a saturated INT16 value. -/
  c : Int
  mode : Nat
  deriving DecidableEq, Repr

/-- What a record of the batch carries along. -/
structure Touched where
  r : Region
  j : Nat
  stamp0 : Nat
  inp : Nat
  last : Int
  deriving DecidableEq, Repr

/-- The first poisoned line of a record, if any. -/
def recBad (t : Tile) (r : Region) (j : Nat) : Option Nat :=
  let a := r.addr j
  (t.poison.filter (fun l => decide (a / 8 ≤ l) && decide (l ≤ (a + r.size - 1) / 8))).head?

/-- A record line is found poisoned in this epoch (R469): past sixteen, its regions are reset whole. -/
def lineFound (n : Nat) (l : Nat) (s : State) : State :=
  let x := s.ne n
  if x.badLines.contains l then s
  else
    let x := { x with badLines := x.badLines ++ [l] }
    let whole := if 16 < x.badLines.length then
        (regionsOf s n).filter (fun r => decide (r.addr 0 / 8 ≤ l) && decide (l * 8 < r.addr r.count))
      else []
    let new := (whole.filter (fun r => !x.resets.any (fun p => p.region == r.ix))).map (fun r => ResetPass.mk r.ix 2)
    s.setNe n { x with resets := x.resets ++ new }

/-- One update: the record, the counters, and what the batch remembers of the record. -/
def batchUpd (n : Nat) (a : State × List Touched) (u : Upd) : State × List Touched :=
  let (s, ts) := a
  match recBad (s.tile n) u.r u.j with
  | some l => (lineFound n l (neCount n .recPoison 1 s), ts)
  | none =>
    let x := loadRec (s.tile n) u.r u.j
    let c := ofInt16 u.r.ty u.c
    let y := applyInput s n u.r u.t c u.mode x
    let s := neCount n .updates 1 s
    let s := if y.early then neCount n .early 1 s else s
    let s := if y.sat then neCount n .inSat 1 s else s
    let s := storeRec n u.r u.j y.x s
    match ts.find? (fun t => t.r.ix == u.r.ix && t.j == u.j) with
    | some _ => (s, ts.map (fun t => if t.r.ix == u.r.ix && t.j == u.j then { t with inp := (satSum u.r.ty t.inp c).1, last := u.t } else t))
    | none => (s, ts ++ [⟨u.r, u.j, x.stamp, c, u.t⟩])

/-- A firing's output: into a ring set, or into the output queue (R450, R451). -/
def fireOut (n : Nat) (r : Region) (target : Nat) (value : Int) (t : Int) (s : State) : State :=
  if s.flag (F.NE_CLS_38_DELAY_EN n r.cls) then
    match ringOf s n (s.get (F.NE_CLS_38_RSET n r.cls)) with
    | none => neCount n .noRegion 1 s
    | some g => ringInsert n g (target + sx 12 (s.get (F.NE_CLS_3C_DTGT n r.cls))) value (t + s.get (F.NE_CLS_3C_DELAY n r.cls)) s
  else
    let x := s.ne n
    s.setNe n { x with outq := x.outq ++ [.fire (s.get (F.NE_CLS_38_LIST n r.cls)) target value t (s.get (F.NE_CLS_38_OUT_BACK n r.cls))] }

/-- The end of a batch for one record: its dynamics program, its threshold. -/
def batchEnd (n : Nat) (s : State) (t : Touched) : State :=
  let r := t.r
  let x := loadRec (s.tile n) r t.j
  let dt := min 32767 ((x.stamp + 65536 - t.stamp0) % 65536)
  let l := dynRun s n r { v := x.v, inp := t.inp, dt := ofInt16 r.ty dt }
  let ill := ((dynWords s n r.cls).filter (dynIllegal r.ty)).length
  let s := if ill = 0 then s else (neCount n .dynIll ill s).bench .dynIll n
  let y := { x with v := l.v }
  if fires s n r l x.refr then
    let value := fireValue s n r (laneSrc s n r l (s.get (F.NE_CLS_30_TVAR n r.cls)))
    let s := storeRec n r t.j (fireReset s n r y) s
    let s := neCount n .fired 1 s
    let s := s.setNe n { s.ne n with firedWin := (s.ne n).firedWin + 1 }
    fireOut n r (r.tbase + t.j) value t.last s
  else storeRec n r t.j y s

/-- A batch of updates (R447). -/
def batch (n : Nat) (us : List Upd) (s : State) : State :=
  let (s, ts) := us.foldl (batchUpd n) (s, [])
  ts.foldl (batchEnd n) s

end Sys2Proof.Machine
end

