-- ==== Sys2Proof/Machine/Sync.lean ====
section
/-!
DEFINITION. Sys2Proof/Machine/Sync.lean: sync counters, waits, windows, watches and mailbox slots (16).
-/

namespace Sys2Proof.Machine

/-! ### Handles and homes (R395, R620, R621) -/

/-- Key of local counter `l` of physical tile `n`. -/
def localKey (n l : Nat) : Nat := 0x10000 + n * 512 + l

/-- The home node of a counter. -/
def homeNode (key : Nat) : Nat := if key < 0x10000 then 0xF08 + key % 2 else (key - 0x10000) / 512

/-- The counter that handle `h` names for an issuer: `self` is the tile that SELF names; TILE goes through the node remap
table when `logical` (R621, R629). `none` is an absent handle. -/
def handleKey (s : State) (h : Nat) (self : Option Nat) (logical : Bool) : Option Nat :=
  if bitOf h 31 then some (h % 32768)
  else
    let t := bitsOf h 19 12
    let p := match self, bitOf h 20 with
      | some n, true => some n
      | _, _ => if logical then (if t < 192 then remap s t else none) else some t
    match p with
    | some n => if n < s.cfg.tiles then some (localKey n (h % 512)) else none
    | none => none

/-- The value of a counter. -/
def ctrOf (s : State) (key : Nat) : Nat := sparseGet (fun _ => 0) s.sync.ctr key

/-- Put it. -/
def setCtr (key v : Nat) (s : State) : State :=
  (s.setSync { s.sync with ctr := sparsePut (fun _ => 0) s.sync.ctr key (v % 2 ^ 32) })

/-- A counter with value `c` meets threshold `h` (R624). -/
def meets (c h : Nat) : Bool := decide (0 ≤ sx 32 ((c + 2 ^ 32 - h % 2 ^ 32) % 2 ^ 32))

/-- An operation counted in SYNC_BADH (R629). (DEDUCED, log entry 59) -/
def badHandle (h src : Nat) (s : State) : State :=
  let s := s.inc F.SYNC_BADH
  let s := s.set F.SYNC_BADH_LAST h
  (s.set F.SYNC_BADH_SRC_NODE src).raise F.SYNC_BADH_SRC_VALID

/-- An operation on a poisoned counter (R652). -/
def poisonedOp (key : Nat) (s : State) : State := (s.inc F.SYNC_POISON).bench .syncPoison key

/-! ### Completion at the requester (R326, R393, R398) -/

/-- The result of the operation with tag `tag` reaches tile `n`. -/
def deliver (n tag : Nat) (ret wait : Bool) (v : Word) (s : State) : State :=
  let q := s.seq n
  let q := { q with unacked := q.unacked - 1 }
  if !ret then s.setSeq n q
  else match q.sb.find? (fun e => e.tag == tag && e.value.isNone) with
  | none => s.setSeq n q
  | some e =>
    let q := { q with sb := q.sb.filter (fun x => !(x.tag == tag && x.value.isNone)), ipWait := q.ipWait || wait }
    s.setSeq n (q.land e.dst v)

/-- The home answers: directly to its own tile, with a reply pair to another node (R623). -/
def answer (home src tag op : Nat) (ret : Bool) (v : Nat) (s : State) : State :=
  if home = src then deliver src tag ret (op == 3) (BitVec.ofNat 32 v) s
  else
    inject ⟨src, home, .sync { op := 6, index := 0, tag := tag, ret := ret, value := if ret && op ≠ 3 then v else 0,
                               met := op == 3 && v ≠ 0, ack := !ret, timeout := b2n (op == 3) }⟩ s

/-! ### Waits, watches, reports -/

/-- Registered waits on `key` that its value meets complete with MET = 1 (R625). (DEDUCED, log entry 59) -/
def settleWaits (key : Nat) (s : State) : State :=
  let met := fun (w : Wait) => w.key == key && meets (ctrOf s key) w.thr
  let done := s.sync.waits.filter met
  let s := (s.setSync { s.sync with waits := s.sync.waits.filter (fun w => !met w) })
  done.foldl (fun s w => answer (homeNode key) w.src w.tag 3 true 1 s) s

/-- Watch `k` is tested (R633). -/
def watchTest (k : Nat) (s : State) : State :=
  if !s.flag (F.SYNC_WATCH_CTL_ARM k) then s
  else match handleKey s (s.reg (F.SYNC_WATCH_HANDLE_IDX k).off).toNat none false with
  | none => s
  | some key =>
    if s.sync.poison.contains key || !meets (ctrOf s key) (s.get (F.SYNC_WATCH_THR k)) then s
    else
      let s := (s.raise (F.SYNC_WATCH_CTL_HIT k)).clear (F.SYNC_WATCH_CTL_ARM k)
      s.msix 0 (s.get (F.SYNC_WATCH_CTL_VEC k))

/-- Every armed watch on `key` is tested. -/
def watchAll (key : Nat) (s : State) : State :=
  (List.range 64).foldl (fun s k =>
    if handleKey s (s.reg (F.SYNC_WATCH_HANDLE_IDX k).off).toNat none false = some key then watchTest k s else s) s

/-- The Ladle waits for changes of global counter `key`: a decision counter, or the gate of a transfer (R598, R630). -/
def ladleWatches (s : State) (key : Nat) : Bool :=
  (List.range 64).any (fun k => s.flag (F.LDL_VP_VALID k) && s.get (F.LDL_VP_GIDX k) == key)
  || s.ladle.xfers.any (fun x => bitOf (x.desc.getD 0 0) 24 && x.desc.getD 6 0 / 2 ^ 31 == 1 && x.desc.getD 6 0 % 32768 == key)

/-- A change of a global counter is put on report. -/
def reportChange (key : Nat) (s : State) : State :=
  if key < 0x10000 && ladleWatches s key then
    (s.setSync { s.sync with changed := s.sync.changed ++ [(key, ctrOf s key)] })
  else s

/-- The counter after an operation (R396, R620). -/
def ctrAfter (op c v : Nat) : Nat :=
  match op with
  | 0 => v
  | 1 => c + v
  | 2 => c + 2 ^ 32 - v % 2 ^ 32
  | 4 => c + 1
  | _ => c

/-- The home applies an operation of SET, ADD, SUB, SIG or READ to a good counter: the counter, IPEND.SOFT of a local SIG,
the waits, the watches, the report. -/
def applyCtr (key op v : Nat) (s : State) : State :=
  let s := if op = 5 ∨ op = 3 then s else reportChange key (setCtr key (ctrAfter op (ctrOf s key) v) s)
  let n := (key - 0x10000) / 512
  let s := if op = 4 ∧ 0x10000 ≤ key ∧ s.tileOn n then s.setSeq n { s.seq n with ipSoft := true } else s
  watchAll key (settleWaits key s)

/-- SET clears poison (R652). -/
def unpoison (key : Nat) (s : State) : State := (s.setSync { s.sync with poison := setDel s.sync.poison key })

/-- The home of `key` takes an operation from node `src` (R622 to R626, R652). (DEDUCED, log entry 59) -/
def takeOp (key src tag op v timeout : Nat) (ret : Bool) (s : State) : State :=
  let home := homeNode key
  if s.sync.poison.contains key && op ≠ 0 then answer home src tag op ret 0 (poisonedOp key s)
  else if op = 3 then
    let s := applyCtr key 3 0 s
    if meets (ctrOf s key) v then answer home src tag 3 true 1 s
    else if timeout = 0 then answer home src tag 3 true 0 (s.inc F.SYNC_WAIT_TO)
    else (s.setSync { s.sync with waits := s.sync.waits ++ [⟨key, src, tag, v, s.T + timeout⟩] })
  else
    let old := ctrOf s key
    answer home src tag op ret old (applyCtr key op v (unpoison key s))

/-! ### Rows of the counters -/

/-- The head of tile `n`'s sync queue leaves it (R397, R398, R621, R626). (DEDUCED, log entry 59) -/
def syncIssue (n : Nat) (s : State) : State :=
  let q := s.seq n
  match q.syncq with
  | [] => s
  | r :: rest =>
    let pop := fun (s : State) => s.setSeq n { s.seq n with syncq := rest }
    match handleKey s r.handle (some n) true with
    | none => deliver n r.tag r.ret (r.op == 3) 0 (badHandle r.handle n (pop s))
    | some key =>
      let home := homeNode key
      if home = n then takeOp key n r.tag r.op r.value r.timeout r.ret (pop s)
      else if r.op = 3 ∧ 0x10000 ≤ key then deliver n r.tag r.ret true 0 (badHandle r.handle n (pop s))
      else if !hasCredit s n true then s
      else
        let ix := if key < 0x10000 then key else (key - 0x10000) % 512
        inject ⟨home, n, .sync { op := r.op, index := ix, tag := r.tag, ret := r.ret, value := r.value, timeout := r.timeout }⟩ (pop s)

/-- Row SYNC_QUEUE_ISSUE: the interface is in FAB. -/
def execSyncQueueIssue (tile : Nat) (s : State) : Res :=
  .next (if s.fabOn && decide (tile < s.cfg.tiles) then syncIssue tile s else s)

/-- The body is a counter operation, not a reply. -/
def Body.isOp : Body → Bool
  | .sync f => f.op ≠ 6
  | _ => false

/-- The body is a reply. -/
def Body.isReply : Body → Bool
  | .sync f => f.op == 6
  | _ => false

/-- The counter that an operation names at node `node`. -/
def keyAt (node ix : Nat) : Nat := if node < 0xF00 then localKey node ix else ix

/-- A window write is applied at its home (R632, R652). -/
def windowApply (key op v : Nat) (s : State) : State :=
  if op = 0 then applyCtr key 0 v (unpoison key s)
  else if s.sync.poison.contains key then poisonedOp key s
  else applyCtr key op v s

/-- Row SYNC_OP_APPLY: node `node` takes the next operation that has arrived, or the oldest window write for it. -/
def execSyncOpApply (node : Nat) (window : Bool) (s : State) : Res :=
  .next (
    if !s.fabOn then s
    else if window then
      match s.sync.window.find? (fun w => homeNode w.1 == node) with
      | none => s
      | some w => windowApply w.1 w.2.1 w.2.2 (s.setSync { s.sync with window := s.sync.window.erase w })
    else match takeRx node true Body.isOp s with
    | some (i, s') =>
      match i.body with
      | .sync f => takeOp (keyAt node f.index) i.src f.tag f.op f.value f.timeout f.ret s'
      | _ => s
    | none => s)

/-- Row SYNC_REPLY (R623): every requester consumes its replies. -/
def execSyncReply (node : Nat) (s : State) : Res :=
  .next (
    if !s.fabOn then s
    else match takeRx node true Body.isReply s with
    | some (i, s') =>
      match i.body with
      | .sync f =>
        if node < 0xF00 then
          let wait := f.timeout == 1
          deliver node f.tag f.ret wait (if wait then BitVec.ofNat 32 (b2n f.met) else BitVec.ofNat 32 f.value) s'
        else s'
      | _ => s
    | none => s)

/-- Row WAIT_TIMEOUT: the wait at place `index` completes with MET = 0 once T has reached its deadline (R625, R628).
(DESIGN CHOICE, log entry 34; DEDUCED, log entry 59) -/
def execWaitTimeout (index : Nat) (s : State) : Res :=
  .next (match s.sync.waits[index]? with
  | none => s
  | some w =>
    if s.T < w.deadline then s
    else
      let s := (s.setSync { s.sync with waits := s.sync.waits.eraseIdx index })
      answer (homeNode w.key) w.src w.tag 3 true 0 (s.inc F.SYNC_WAIT_TO))

/-! ### Windows and watches (R631 to R633) -/

/-- The host may write global counter `g`. -/
def hostMayGlobal (s : State) (g : Nat) : Bool := decide (s.get F.SYNC_HOSTWR_LO ≤ g) && decide (g ≤ s.get F.SYNC_HOSTWR_HI)

/-- A window write by an agent: on its way to the home, or discarded. (DEDUCED, log entry 59) -/
def windowWrite (a : Agent) (off : Nat) (okHost : Bool) (key op : Nat) (v : Word) (s : State) : State :=
  s.guardWrite s.fabOn .hostBench a off (fun s =>
    if a = .host ∧ !okHost then s.inc F.SYNC_HOST_DENY
    else (s.setSync { s.sync with window := s.sync.window ++ [(key, op, v.toNat)] }))

/-- Row GLOBAL_SET_WINDOW_WRITE. -/
def execGlobalSetWindowWrite (agent : Agent) (gidx : Nat) (value : Word) (s : State) : Res :=
  .next (if gidx < 32768 then windowWrite agent (0x1020000 + 4 * gidx) (hostMayGlobal s gidx) gidx 0 value s else s)

/-- Row GLOBAL_ADD_WINDOW_WRITE. -/
def execGlobalAddWindowWrite (agent : Agent) (gidx : Nat) (value : Word) (s : State) : Res :=
  .next (if gidx < 32768 then windowWrite agent (0x1040000 + 4 * gidx) (hostMayGlobal s gidx) gidx 1 value s else s)

/-- A write to a local window; the windows of absent tiles hold nothing (R10). -/
def localWindow (a : Agent) (base n l op : Nat) (v : Word) (s : State) : State :=
  let off := base + n * 0x800 + 4 * l
  if 192 ≤ n ∨ 512 ≤ l then s
  else if s.cfg.tiles ≤ n then s.logErr a 0 0 off true .unmapped
  else windowWrite a off (s.flag F.SYNC_HOSTWR_LOCAL_EN) (localKey n l) op v s

/-- Row LOCAL_SET_WINDOW_WRITE. -/
def execLocalSetWindowWrite (agent : Agent) (tile lidx : Nat) (value : Word) (s : State) : Res :=
  .next (localWindow agent 0x1060000 tile lidx 0 value s)

/-- Row LOCAL_ADD_WINDOW_WRITE. -/
def execLocalAddWindowWrite (agent : Agent) (tile lidx : Nat) (value : Word) (s : State) : Res :=
  .next (localWindow agent 0x10C0000 tile lidx 1 value s)

/-- ARM of watch `k` is set: it is tested at once (R633, R650). -/
def watchArm (k : Nat) (s : State) : State := watchTest k (s.raise (F.SYNC_WATCH_CTL_ARM k))

/-- Row WATCH_ARM. -/
def execWatchArm (agent : Agent) (watch : Nat) (s : State) : Res :=
  .next (if watch < 64 then s.guardWrite s.fabOn .hostBench agent (F.SYNC_WATCH_CTL_ARM watch).off (watchArm watch) else s)

/-! ### Mailbox slots (R634 to R641, R917) -/

/-- The header of slot `k`. -/
def State.slot (s : State) (k : Nat) : Slot := sparseGet (fun _ => {}) s.sync.slots k

/-- Replace it. -/
def State.setSlot (s : State) (k : Nat) (x : Slot) : State :=
  (s.setSync { s.sync with slots := sparsePut (fun _ => {}) s.sync.slots k x })

/-- LPDDR5X address of slot `k`'s byte 16: its payload. (DESIGN CHOICE, log entry 71) -/
def slotBase (s : State) (k : Nat) : Nat := s.get F.SYNC_MB_BASE * 2 ^ 24 + k * 0x1000 + 16

/-- Store bytes in LPDDR5X; a word written whole is clean. (DESIGN CHOICE, log entry 71) -/
def lpStore (a : Nat) (b : List Byte) (s : State) : State :=
  let bad := s.mem.lpBad.filter (fun l => !(decide (a ≤ l * 8) && decide (l * 8 + 8 ≤ a + b.length)))
  (s.setMem { s.mem with lp := memPutBytes s.mem.lp a b, lpBad := bad })

/-- A result of slot `k` is lost (R639). -/
def slotLost (k : Nat) (s : State) : State :=
  ((s.setSlot k { s.slot k with lost := true }).inc (F.SYNC_MB_LOST k)).inc F.SYNC_MB_LOST_SUM

/-- Step 1 of R636: the result of tile `n` with `len` bytes begins; an unacknowledged READY result is lost.
(DEDUCED, log entry 70) -/
def slotBegin (k n len : Nat) (s : State) : State :=
  let s := if (s.slot k).ready then slotLost k s else s
  s.setSlot k { s.slot k with ready := false, writer := some (n, len), tail := false,
                              cfg := (s.reg (F.SYNC_MB_CFG_POLICY k).off).toNat }

/-- Step 3 of R636 and, where the home holds a later result (R917), its step 1 and the payload so far. (DEDUCED, log entry 70) -/
def slotHeader (k : Nat) (s : State) : State :=
  let x := s.slot k
  match x.writer with
  | some (n, len) =>
    if !x.tail then s
    else
      let s := s.setSlot k { x with seq := (x.seq + 1) % 2 ^ 24, ready := true, overrun := x.lost, lost := false, len := len,
                                    epoch := s.get F.TSB_EPOCH_NUM, writer := none, tail := false }
      let s := s.setSeq n { s.seq n with unacked := (s.seq n).unacked - 1 }
      let s := if bitOf x.cfg 1 then s.msix 0 (bitsOf x.cfg 11 2) else s
      match x.held with
      | none => s
      | some (m, l, pay) =>
        let s := lpStore (slotBase s k) pay (slotBegin k m l s)
        s.setSlot k { s.slot k with tail := x.heldTail, held := none, heldTail := false }
  | none => s

/-- Row MAILBOX_HEADER_WRITE: the payload writes of slot `slot` are acknowledged. -/
def execMailboxHeaderWrite (slot : Nat) (s : State) : Res := .next (if s.fabOn ∧ slot < 4096 then slotHeader slot s else s)

/-- Word +0x00 of a slot's header (R634). (DESIGN CHOICE, log entry 23) -/
def Slot.word (x : Slot) : Nat := x.seq + b2n x.ready * 2 ^ 24 + b2n x.overrun * 2 ^ 25

/-- The 16 header bytes of a slot as BAR2 shows them (R634). (DESIGN CHOICE, log entry 23) -/
def Slot.bytes (x : Slot) : List Byte := leBytes 4 x.word ++ leBytes 4 x.len ++ leBytes 4 x.epoch ++ leBytes 4 x.ack

/-- What BAR2 shows at offset `o`, and whether it is poisoned (R634, R637, R653, R655, R750). A read changes nothing, and the table has
no row for it. (DESIGN CHOICE, log entry 23; DESIGN CHOICE, log entry 71) -/
def bar2Byte (s : State) (o : Nat) : Byte × Bool :=
  let k := o / 4096
  let a := slotBase s k + o % 4096 - 16
  if !reachAll s || !s.fabOn || decide (4096 ≤ k) then (0, false)
  else if o % 4096 < 16 then ((s.slot k).bytes.getD (o % 4096) 0, false)
  else if s.flag F.MEM_STAT_READY && !s.flag F.MEM_STAT_SR then (memByte s.mem.lp a, s.mem.lpBad.contains (a / 8))
  else (0, false)

/-- A host write of `v` to ACK of slot `k` (R638). -/
def slotAck (k : Nat) (v : Word) (s : State) : State :=
  let x := s.slot k
  if x.ready ∧ v.toNat = x.seq then s.setSlot k { x with ready := false, ack := x.seq } else s.inc F.SYNC_ACK_BAD

/-- Row MAILBOX_ACK. (DEDUCED, log entry 17; DEDUCED, log entry 70) -/
def execMailboxAck (slot : Nat) (value : Word) (s : State) : Res :=
  .next (if 4096 ≤ slot ∨ !s.hstOn then s
    else if reachAll s && s.fabOn then slotAck slot value s else s.logErr .host 0 2 (slot * 0x1000 + 12) true .domainOff)

end Sys2Proof.Machine
end

