-- ==== Sys2Proof/Machine/Neuron.lean ====
section
/-!
DEFINITION. Sys2Proof/Machine/Neuron.lean: the tile interface and the neuron engine: intake, sends, batches, sweeps, NUPD, DLYX,
hold and fences (08 R285 to R293; 10 R417, R418; 11; 18 R690 to R694).
-/

namespace Sys2Proof.Machine

/-! ### The interface: what arrives (R292, R293, R433 to R435, R690, R692) -/

/-- ROLE of a tile (18, GLB_TILE_ROLE). (DEDUCED, log entry 55) -/
def roleOf (s : State) (n : Nat) : Nat := s.get (F.tileRole n)

/-- A plan runs and does not use the tile. -/
def planUnused (s : State) (n : Nat) : Bool := s.get F.GLB_PLAN_STAT_STATE == 3 && roleOf s n == 0

/-- The tile is in NAP (20 R768). -/
def inNap (s : State) (n : Nat) : Bool := bitOf (s.get (F.PMU_NAP_STATE (n / 16))) (n % 16)

/-- EVWs that reach the tile go to the drop sink (R293, R692). A spare that waits for its work holds them (R697).
(DEDUCED, log entry 55) -/
def tileDrops (s : State) (n : Nat) : Bool :=
  !s.tileOn n || inNap s n || (s.get (F.TILE_SEQ_STAT_STATE n) == 0 && roleOf s n ≠ 3) || planUnused s n
  || (s.flag (F.TILE_CHG_STAT_HELD n) && s.flag (F.TILE_CHG_CTL_QUIESCE n))

/-- Inbox entries are written and WR advances, or the EVW is counted in INBOX_OVF (R435). -/
def inboxWrite (n : Nat) (words : List Nat) (s : State) : State :=
  let size := s.get (F.NE_INBOX_LIM_SIZE n)
  if !inboxOn s n ∨ size ≤ inboxLevel s n + words.length then neCount n .inboxOvf 1 s
  else
    let b := s.get (F.NE_INBOX n)
    words.foldl (fun s w =>
      let t := s.tile n
      let wr := t.nat b 4 % size
      s.setTile n ((t.store (b + 8 + 8 * wr) (leBytes 8 w)).store b (leBytes 4 ((wr + 1) % size)))) s

/-- LATE_BACK of a class (NE_LBACK). -/
def lateBack (s : State) (n c : Nat) : Nat := bitsOf (s.get (F.NE_LBACK n (c / 4))) (8 * (c % 4) + 7) (8 * (c % 4))

/-- The time of origin of an EVW that the interface takes now (R438, R467). -/
def evwTime (s : State) (n : Nat) (e : Evw) : Int :=
  if e.late then startBack s (lateBack s n e.cls) + e.offset
  else if startBack s 0 + e.offset ≤ s.T then startBack s 0 + e.offset else startBack s 1 + e.offset

/-- ROUTE of a class: 0 engine, 1 inbox, 2 discard, and 3 is discarded. -/
def routeOf (s : State) (n c : Nat) : Nat := bitsOf (s.get (F.NE_ROUTE n)) (2 * c + 1) (2 * c)

/-- The engine has a place for the EVW, or discards it: otherwise it waits in the fabric (R434, R472). -/
def engineTakes (s : State) (n : Nat) : Bool := !s.flag (F.NE_CTL_EN n) || decide ((s.ne n).queue.length < 64)

/-- An EVW reaches the tile's interface (R433). -/
def evwArrive (n : Nat) (e : Evw) (s : State) : State :=
  if tileDrops s n then dropAt n s
  else match e.wide with
  | some p => inboxWrite n [e.bits, p] s
  | none =>
    match routeOf s n e.cls with
    | 0 =>
      if !s.flag (F.NE_CTL_EN n) then neCount n .offDrop 1 s
      else
        let x := s.ne n
        s.setNe n { x with queue := x.queue ++ [⟨e, evwTime s n e⟩] }
    | 1 => inboxWrite n [e.bits] s
    | _ => neCount n .clsDrop 1 s

/-- The body is an EVW that the interface can take now. (DEDUCED, log entry 55) -/
def takesEvw (s : State) (n : Nat) : Body → Bool
  | .evw e => tileDrops s n || e.wide.isSome || routeOf s n e.cls ≠ 0 || engineTakes s n
  | _ => false

/-- A tile's interface is in FAB. -/
def ifaceOn (s : State) (n : Nat) : Bool := s.fabOn && decide (n < s.cfg.tiles)

/-- Row EVW_DELIVERY. -/
def execEvwDelivery (tile : Nat) (s : State) : Res :=
  .next (if ifaceOn s tile then
    match takeRx tile false (takesEvw s tile) s with
    | some (i, s') =>
      match i.body with
      | .evw e => evwArrive tile e s'
      | _ => s
    | none => s
  else s)

/-- An EB flit reaches the tile (R292, R694). -/
def tileEb (n epoch : Nat) (s : State) : State :=
  if s.flag (F.TILE_CHG_CTL_EBF_EN n) ∧ sx 32 ((epoch + 2 ^ 32 - s.get (F.TILE_CHG_EBF n)) % 2 ^ 32) < 0 then
    s.inc (F.TILE_CHG_STAT_EB_DISC n)
  else windowApply (localKey n (s.get (F.EVF_T_EB_CFG n))) 1 1 (s.set (F.EVF_T_LAST_EB n) epoch)

/-- Row EB_FLIT_RX_TILE. -/
def execEbFlitRxTile (tile : Nat) (s : State) : Res :=
  .next (if ifaceOn s tile then
    match takeRx tile false Body.isEb s with
    | some (i, s') => tileEb tile i.body.epoch s'
    | none => s
  else s)

/-! ### Hold and fences (R688 to R693, R719) -/

/-- The engine holds once the condition of HOLD or QUIESCE is met (R691, R692). -/
def settleHold (n : Nat) (s : State) : State :=
  if s.flag (F.TILE_CHG_CTL_HOLD n)
      || (s.flag (F.TILE_CHG_CTL_QUIESCE n) && (s.ne n).queue.isEmpty
          && (s.flag (F.EVF_FENCE_RX_DONE n) || s.flag (F.TILE_CHG_STAT_FENCE_LATE n))) then
    s.raise (F.TILE_CHG_STAT_HELD n)
  else s

/-- The body is a fence. -/
def Body.isFence : Body → Bool
  | .fence _ _ => true
  | _ => false

/-- A fence is counted; DONE sets when both counts are complete (R690). -/
def fenceCount (n : Nat) (ct : Bool) (s : State) : State :=
  let s := s.incWrap (if ct then F.EVF_FENCE_RX_CT_CNT n else F.EVF_FENCE_RX_EV_CNT n) 1
  if s.get (F.EVF_FENCE_RX_EV_CNT n) = s.cfg.tiles + 12 ∧ s.get (F.EVF_FENCE_RX_CT_CNT n) = s.cfg.tiles + 6
      ∧ !s.flag (F.EVF_FENCE_RX_DONE n) then
    settleHold n ((s.raise (F.EVF_FENCE_RX_DONE n)).bench .fenceDone n)
  else s

/-- Row FENCE_RX. -/
def execFenceRx (tile : Nat) (ct : Bool) (s : State) : Res :=
  .next (if ifaceOn s tile then
    match takeRx tile ct Body.isFence s with
    | some (_, s') => fenceCount tile ct s'
    | none => s
  else s)

/-- Row FENCE_LATE: fences are not done 65,536 fabric cycles after flip 1, and the old tile holds anyway (R719). -/
def execFenceLate (tile : Nat) (s : State) : Res :=
  .next (if s.tileOn tile && s.flag (F.TILE_CHG_CTL_QUIESCE tile) && !s.flag (F.EVF_FENCE_RX_DONE tile) then
    ((s.raise (F.TILE_CHG_STAT_FENCE_LATE tile)).raise (F.TILE_CHG_STAT_HELD tile)).bench .fenceLate tile
  else s)

/-- Row TILE_HOLD. -/
def execTileHold (agent : Agent) (tile : Nat) (s : State) : Res :=
  .next (s.guardTile tile agent (F.TILE_CHG_CTL_HOLD tile).off (fun s =>
    settleHold tile (s.raise (F.TILE_CHG_CTL_HOLD tile))))

/-- Row TILE_QUIESCE. -/
def execTileQuiesce (agent : Agent) (tile : Nat) (s : State) : Res :=
  .next (s.guardTile tile agent (F.TILE_CHG_CTL_QUIESCE tile).off (fun s =>
    settleHold tile (s.raise (F.TILE_CHG_CTL_QUIESCE tile))))

/-- The least K of the valid regions. -/
def kMin (s : State) (n : Nat) : Nat := ((regionsOf s n).map (·.k)).foldl min 12

/-- A sweep pass starts (R453). -/
def sweepStart (n : Nat) (s : State) : State :=
  match regionsOf s n with
  | [] => s
  | r :: _ => s.setNe n { s.ne n with sweeping := true, region := r.ix, pos := 0, passStart := s.T }

/-- HOLD or QUIESCE is cleared (R693): horizons are loaded under HLOAD, and the engine resumes. -/
def resumeEngine (n : Nat) (hload : Bool) (s : State) : State :=
  let s := ((s.clear (F.TILE_CHG_CTL_HOLD n)).clear (F.TILE_CHG_CTL_QUIESCE n)).clear (F.TILE_CHG_STAT_HELD n)
  let s := if hload then (ringsOf s n).foldl (fun s g =>
      s.setNe n { s.ne n with horizon := (s.ne n).horizon.set g.ix (s.get (F.TILE_CHG_H n g.ix)) }) s
    else s
  if s.flag (F.NE_CTL_EN n) then sweepStart n s else s

/-- Row TILE_RESUME: a write that clears HOLD and QUIESCE, with HLOAD as given. -/
def execTileResume (agent : Agent) (tile : Nat) (hload : Bool) (s : State) : Res :=
  .next (s.guardTile tile agent (F.TILE_CHG_CTL_HOLD tile).off (fun s =>
    let s := s.set (F.TILE_CHG_CTL_HLOAD tile) (b2n hload)
    if s.flag (F.TILE_CHG_CTL_HOLD tile) || s.flag (F.TILE_CHG_CTL_QUIESCE tile) then resumeEngine tile hload s else s))

/-! ### Sends (R285 to R287, R291, R403, R450) -/

/-- FAN_BASE of the active copy. -/
def fanBase (s : State) (n : Nat) : Nat := s.get (if s.flag F.EVF_CTL_ACTIVE then F.EVF_T_FAN_BASE1 n else F.EVF_T_FAN_BASE0 n)

/-- A fanout word, `none` where it cannot be read (R286, R311). -/
def fanWord (s : State) (n i : Nat) : Option Nat :=
  let a := fanBase s n + 4 * i
  if 0xC000 < a + 4 ∨ (s.tile n).bad a 4 then none else some ((s.tile n).nat a 4)

/-- FAN_ERR is counted. -/
def fanErr (n : Nat) (s : State) : State := s.inc (F.EVF_T_FAN_ERR n)

/-- One copy (R285, R286, R300). -/
def fanCopy (n w idx : Nat) (e : Evw) (s : State) : State :=
  let target := if bitOf w 12 then bitsOf w 31 16 else idx + bitsOf w 31 16
  let dev := bitsOf w 15 14
  if 65535 < target ∨ (bitOf w 13 ∧ (dev = devId s ∨ ringSize s ≤ dev)) then fanErr n s
  else
    let e := { e with node := bitsOf w 11 0, target := target }
    if bitOf w 13 then inject ⟨0xF0E + spanTo s dev, n, .remote dev e⟩ s else injectEvw n e s

/-- The copies of a list from entry `j`; an unreadable word ends the send. -/
def fanCopies (n start idx : Nat) (e : Evw) : Nat → Nat → State → State
  | 0, _, s => s
  | k + 1, j, s =>
    match fanWord s n (start + j) with
    | none => fanErr n s
    | some w => fanCopies n start idx e k (j + 1) (fanCopy n w idx e s)

/-- A send to fanout list `l` (R285, R286). -/
def fanSend (n l idx : Nat) (e : Evw) (s : State) : State :=
  let act := s.flag F.EVF_CTL_ACTIVE
  let nlist := s.get (if act then F.EVF_T_FAN_CFG1_NLIST n else F.EVF_T_FAN_CFG0_NLIST n)
  let size := s.get (if act then F.EVF_T_FAN_CFG1_SIZE n else F.EVF_T_FAN_CFG0_SIZE n)
  if nlist ≤ l then fanErr n s
  else match fanWord s n l with
  | none => fanErr n s
  | some d =>
    let count := bitsOf d 16 11
    let start := bitsOf d 10 0
    if 32 < count ∨ size < start + count then fanErr n s else fanCopies n start idx e count 0 s

/-- The interface forms a send. -/
def formSend (n : Nat) (x : Send) (s : State) : State :=
  match x with
  | .list l idx value offset cls late merged wide =>
    fanSend n l idx { node := 0, target := 0, value := value, offset := offset, cls := cls, late := late, merged := merged, wide := wide } s
  | .marker epoch => sendEb n epoch s
  | .fire l idx value t back =>
    let late := t < startBack s 0
    let off := t - (if late then startBack s back else startBack s 0)
    let o := clampI 0 1048575 off
    let s := if o = off then s else neCount n .outClamp 1 s
    fanSend n l idx { node := 0, target := 0, value := value, offset := o.toNat, cls := 3, late := late } s

/-- The interface takes a send: program and engine take turns (R403). -/
def takeSend (n : Nat) (s : State) : State :=
  let q := s.seq n
  let x := s.ne n
  match q.sendq, x.outq with
  | [], [] => s
  | p :: ps, [] => formSend n p (s.setSeq n { q with sendq := ps, neTurn := true })
  | [], p :: ps => formSend n p ((s.setNe n { x with outq := ps }).setSeq n { q with neTurn := false })
  | p :: ps, o :: os =>
    if q.neTurn then formSend n o ((s.setNe n { x with outq := os }).setSeq n { q with neTurn := false })
    else formSend n p (s.setSeq n { q with sendq := ps, neTurn := true })

/-- Row FANOUT_SEND: the interface holds credit to inject (R276). -/
def execFanoutSend (tile : Nat) (s : State) : Res :=
  .next (if ifaceOn s tile && s.tileOn tile && hasCredit s tile false then takeSend tile s else s)

/-! ### Batches from the queue -/

/-- The updates of an EVW in its region (R445, R446). -/
def evwUpdates (s : State) (n : Nat) (r : Region) (i : NeIn) : List Upd :=
  let w := fun p => sx 8 (bitsOf (s.get (if p < 4 then F.NE_CLS_04 n r.cls else if p < 8 then F.NE_CLS_08 n r.cls else F.NE_CLS_0C n r.cls)) (8 * (p % 4) + 7) (8 * (p % 4)))
  let pitch : Int := s.get (F.NE_CLS_00_PITCH n r.cls)
  let mode := s.get (F.NE_CLS_00_INMODE n r.cls)
  let c := fun p => satS 16 (i.evw.value * w p * 2 ^ s.get (F.NE_CLS_00_INSHIFT n r.cls))
  let ps := if s.flag (F.NE_CLS_00_STENCIL n r.cls) then List.range 9 else [4]
  ps.filterMap (fun p =>
    let t : Int := i.evw.target + (if ps.length = 1 then 0 else ((p / 3 : Nat) - 1) * pitch + ((p % 3 : Nat) - 1))
    if w p = 0 ∨ !r.has t then none else some ⟨r, (t - r.tbase).toNat, i.t, c p, mode⟩)

/-- A reset pass runs over the region (R454). -/
def inReset (s : State) (n : Nat) (r : Region) : Bool := (s.ne n).resets.any (fun p => p.region == r.ix)

/-- Inputs are taken in queue order until the next would not fit or waits for a reset pass (R447, R454). -/
def takeInputs (n : Nat) : Nat → List Upd → State → State × List Upd
  | 0, us, s => (s, us)
  | fuel + 1, us, s =>
    match (s.ne n).queue with
    | [] => (s, us)
    | i :: rest =>
      let pop := fun (s : State) => neCount n .inEv 1 (s.setNe n { s.ne n with queue := rest })
      if i.evw.poisoned then takeInputs n fuel us (neCount n .evPoison 1 (pop s))
      else match targetRegion s n i.evw.target with
      | none => takeInputs n fuel us (neCount n .noRegion 1 (pop s))
      | some r =>
        if inReset s n r then (s, us)
        else if classBad s n r then takeInputs n fuel us (neCount n .clsDrop 1 (pop s))
        else
          let new := evwUpdates s n r i
          if 16 < us.length + new.length then (s, us) else takeInputs n fuel (us ++ new) (pop s)

/-- The engine may start a batch: enabled, not held, room for 16 outputs (R691, R916). -/
def engineReady (s : State) (n : Nat) : Bool :=
  s.tileOn n && s.flag (F.NE_CTL_EN n) && !s.flag (F.TILE_CHG_STAT_HELD n) && (s.ne n).outq.isEmpty

/-- Row NE_BATCH. (DESIGN CHOICE, log entry 61) -/
def execNeBatch (tile : Nat) (s : State) : Res :=
  .next (if engineReady s tile then
    let (s, us) := takeInputs tile (s.ne tile).queue.length [] s
    settleHold tile (batch tile us s)
  else s)

/-! ### Sweeps and reset passes (R453, R454, R469) -/

/-- A record is set as a reset pass sets it. -/
def resetRec (n : Nat) (r : Region) (j : Nat) (s : State) : State :=
  let x : Rec := { v := (List.range 4).map (fun i => restOf s n r.cls i), stamp := stampOf r.k s.T }
  storeRec n r j x s

/-- The records of the region that lie in memory. -/
def Region.inMemCount (r : Region) : Nat := min r.count ((0x40000 - r.mbase) / r.size)

/-- The record after `pos` of region `r` that the sweep visits. -/
def sweepNext (n : Nat) (s : State) : State :=
  let x := s.ne n
  match regionOf s n x.region with
  | some r =>
    if x.pos + 1 < r.inMemCount then s.setNe n { x with pos := x.pos + 1 }
    else match (regionsOf s n).find? (fun q => x.region < q.ix) with
      | some q => s.setNe n { x with region := q.ix, pos := 0 }
      | none => neCount n .passes 1 (s.setNe n { x with sweeping := false })
  | none => s.setNe n { x with sweeping := false }

/-- A visit (R453): only a record with e ≥ 2^14 is written; a poisoned line is found (R469, R817). -/
def sweepVisit (n : Nat) (s : State) : State :=
  let x := s.ne n
  match regionOf s n x.region with
  | none => sweepNext n s
  | some r =>
    if r.inMemCount ≤ x.pos then sweepNext n s
    else match recBad (s.tile n) r x.pos with
    | some l => sweepNext n (lineFound n l s)
    | none =>
      let y := loadRec (s.tile n) r x.pos
      let e := sx 16 ((stampOf r.k s.T + 65536 - y.stamp) % 65536)
      if 2 ^ 14 ≤ e then sweepNext n (storeRec n r x.pos { leakRec s n r e.toNat y with stamp := stampOf r.k s.T } s)
      else sweepNext n s

/-- The engine's own work goes on. -/
def engineRuns (s : State) (n : Nat) : Bool := s.tileOn n && s.flag (F.NE_CTL_EN n) && !s.flag (F.TILE_CHG_STAT_HELD n)

/-- Row SWEEP_PASS_START: the last pass has ended and its minimum interval has passed. (DESIGN CHOICE, log entry 61) -/
def execSweepPassStart (tile : Nat) (s : State) : Res :=
  .next (if engineRuns s tile && !(s.ne tile).sweeping && decide ((s.ne tile).passStart + 2 ^ (13 + kMin s tile) ≤ s.T) then
    sweepStart tile s
  else s)

/-- Row SWEEP_VISIT: a reset pass takes the sweeper's cycles. (DESIGN CHOICE, log entry 61) -/
def execSweepVisit (tile : Nat) (s : State) : Res :=
  .next (if engineRuns s tile && (s.ne tile).sweeping && (s.ne tile).resets.isEmpty then sweepVisit tile s else s)

/-- Row SWEEP_OVERDUE: the pass has not ended within 2^(14+K) ticks for region `region`. -/
def execSweepOverdue (tile region : Nat) (s : State) : Res :=
  .next (match regionOf s tile region with
  | none => s
  | some r =>
    let x := s.ne tile
    if s.tileOn tile && s.flag (F.NE_CTL_EN tile) && x.sweeping && decide (x.passStart + 2 ^ (14 + r.k) ≤ s.T) && !inReset s tile r
        && decide (region < 8) then
      let s := s.set (F.NE_STAT_OVERDUE tile) (s.get (F.NE_STAT_OVERDUE tile) ||| 2 ^ region)
      (s.setNe tile { x with resets := x.resets ++ [⟨region, 1⟩] }).bench .overdue tile
    else s)

/-- The reset pass at the head ends (R454, R469). -/
def resetPassEnd (n : Nat) (s : State) : State :=
  let x := s.ne n
  match x.resets with
  | [] => s
  | p :: rest =>
    let s := s.setNe n { x with resets := rest }
    match regionOf s n p.region with
    | none => s
    | some r =>
      let s := (List.range r.inMemCount).foldl (fun s j => resetRec n r j s) s
      let s := if p.kind = 1 then neCount n .overdue r.inMemCount s else s
      let e : Evw := { node := n, target := p.region, value := p.kind, offset := 0, cls := 6 }
      let s := inboxWrite n [e.bits] s
      s.set (F.NE_STAT_OVERDUE n) (s.get (F.NE_STAT_OVERDUE n) &&& (255 - 2 ^ p.region))

/-- Row RESET_PASS_END. -/
def execResetPassEnd (tile : Nat) (s : State) : Res := .next (if engineRuns s tile then resetPassEnd tile s else s)

/-- The records that lie in a 64-bit line (region, number). (DEDUCED, log entry 60) -/
def lineRecs (s : State) (n l : Nat) : List (Region × Nat) :=
  (regionsOf s n).flatMap (fun r =>
    let first := (max (l * 8) (r.addr 0) - r.addr 0) / r.size
    let last := (l * 8 + 7 + 1 - min (l * 8 + 8) (r.addr 0) + r.size - 1) / r.size
    (((List.range (last - first + 1)).map (· + first)).filter
      (fun j => decide (j < r.inMemCount) && decide (r.addr j / 8 ≤ l) && decide (l ≤ (r.addr j + r.size - 1) / 8))).map (fun j => (r, j)))

/-- R469, R465: at an epoch boundary the records of poisoned lines are reset, with a notice for each where NOTICE.EN is set. -/
def neBoundary (n : Nat) (s : State) : State :=
  let lines := (s.ne n).badLines
  let s := s.setNe n { s.ne n with badLines := [] }
  lines.foldl (fun s l =>
    (lineRecs s n l).foldl (fun s (r, j) =>
      let s := resetRec n r j s
      let t := s.tile n
      let s := s.setTile n { t with poison := t.poison.filter (· ≠ l) }
      if s.flag (F.NE_NOTICE_EN n) then
        let x := s.ne n
        s.setNe n { x with outq := x.outq ++ [.list (s.get (F.NE_NOTICE_LIST n)) (r.tbase + j) 0 0 6 false false none] }
      else s) s) s

/-! ### Enable and disable (R473) -/

/-- EN is set. (DEDUCED, log entry 60) -/
def neEnable (n : Nat) (s : State) : State :=
  if s.flag (F.NE_CTL_EN n) then s
  else
    let s := s.raise (F.NE_CTL_EN n)
    let s := if s.flag (F.NE_CTL_STAMP_INIT n) then
        (regionsOf s n).foldl (fun s r => (List.range r.inMemCount).foldl (fun s j =>
          storeRec n r j { loadRec (s.tile n) r j with stamp := stampOf r.k s.T } s) s) s
      else s
    let s := (ringsOf s n).foldl (fun s g => s.setNe n { s.ne n with horizon := (s.ne n).horizon.set g.ix (s.T / 2 ^ g.w) }) s
    sweepStart n s

/-- Row NE_ENABLE. -/
def execNeEnable (agent : Agent) (tile : Nat) (s : State) : Res :=
  .next (s.guardTile tile agent (F.NE_CTL_EN tile).off (neEnable tile))

/-- EN is cleared: queued inputs are counted in OFF_DROP. -/
def neDisable (n : Nat) (s : State) : State :=
  if !s.flag (F.NE_CTL_EN n) then s
  else
    let x := s.ne n
    let s := neCount n .offDrop x.queue.length (s.clear (F.NE_CTL_EN n))
    s.setNe n { x with queue := [], sweeping := false }

/-- Row NE_DISABLE. -/
def execNeDisable (agent : Agent) (tile : Nat) (s : State) : Res :=
  .next (s.guardTile tile agent (F.NE_CTL_EN tile).off (neDisable tile))

/-! ### NUPD and DLYX (10 R417, R418; 11 R439, R456 to R458) -/

/-- Number of records of group `g`. (DEDUCED, log entry 58) -/
def groupLen (count g : Nat) : Nat := min 16 (count - 16 * g)

/-- Inputs given with their region become a batch: no region, a class with a bad word, or a region in reset are handled as for
an EVW. -/
def inputsOf (s : State) (n : Nat) (l : List (Nat × Upd)) : State × List Upd :=
  l.foldl (fun (a : State × List Upd) (target, u) =>
    match targetRegion a.1 n target with
    | none => (neCount n .noRegion 1 a.1, a.2)
    | some r =>
      if classBad a.1 n r then (neCount n .clsDrop 1 a.1, a.2)
      else (a.1, a.2 ++ [{ u with r := r, j := target - r.tbase }])) (s, [])

/-- A placeholder region that `inputsOf` replaces. -/
def noRegionYet : Region := ⟨0, 0, 0, 0, 0, 0, 0, 0⟩

/-- Some of these targets lie in a region under a reset pass. -/
def anyReset (s : State) (n : Nat) (l : List Nat) : Bool :=
  l.any (fun t => match targetRegion s n t with
    | some r => inReset s n r
    | none => false)

/-- The contribution of a NUPD record: VALUE × W4 << INSHIFT (R445, R446); with W4 = 0 the record updates nothing.
(DEDUCED, log entry 60) -/
def nupdUpd (s : State) (n : Nat) (t : Tile) (a : Nat) : Option (Nat × Upd) :=
  let w0 := t.nat a 4
  let w1 := t.nat (a + 4) 4
  let target := bitsOf w0 15 0
  let back := (s.epochNum + 2 ^ 32 - (s.seq n).epoch) % 2 ^ 32 + bitsOf w1 27 20
  let tm := startBack s back + bitsOf w1 19 0
  match targetRegion s n target with
  | none => some (target, ⟨noRegionYet, 0, tm, 0, 0⟩)
  | some r =>
    let w := sx 8 (s.get (F.NE_CLS_08 n r.cls))
    if w = 0 then none
    else some (target, ⟨r, 0, tm, satS 16 (sx 8 (bitsOf w0 23 16) * w * 2 ^ s.get (F.NE_CLS_00_INSHIFT n r.cls)),
      s.get (F.NE_CLS_00_INMODE n r.cls)⟩)

/-- The first poisoned record address of a list. -/
def listBad (t : Tile) (a k : Nat) : Option Word :=
  ((List.range k).find? (fun i => t.bad (a + 8 * i) 8)).map (fun i => BitVec.ofNat 32 (a + 8 * i))

/-- Group `g` of a NUPD. -/
def nupdGroup (n a count g : Nat) (s : State) : Grp :=
  if !s.flag (F.NE_CTL_EN n) then .finish (neCount n .offDrop (count - 16 * g) s)
  else
    let t := s.tile n
    let ad := a + 128 * g
    let k := groupLen count g
    let targets := (List.range k).map (fun i => t.nat (ad + 8 * i) 2)
    match listBad t ad k with
    | some e => .exc 6 e
    | none =>
      if !(s.ne n).outq.isEmpty ∨ anyReset s n targets then .wait s
      else
        let us := (List.range k).filterMap (fun i => nupdUpd s n t (ad + 8 * i))
        let (s, us) := inputsOf s n us
        .ok (batch n us s)

/-- Alignment and range of a list of 8-byte records (R417). (DEDUCED, log entry 53) -/
def listCheck (a : Word) (count : Nat) : Option (Nat × Word) :=
  if a.toNat % 8 ≠ 0 then some (4, a) else if 0xC000 < a.toNat + 8 * count then some (5, a) else none

/-- Row NUPD. -/
def execNupd (tile : Nat) (gd : Guard) (a b groups : Nat) (s : State) : Res :=
  routine tile gd [a, b] [] 0x3D none (fun s =>
    let q := s.seq tile
    let count := (q.rd b).toNat % 65536
    match listCheck (q.rd a) count with
    | some e => .error e
    | none => .ok { opc := 0x3D, operand := q.rd a, count := ceilDiv count 16, group := nupdGroup tile (q.rd a).toNat count }) groups s

/-- The 16-target chunks of the valid ring sets: set and first entry. -/
def ringChunks (s : State) (n : Nat) : List (RingSet × Nat) :=
  (ringsOf s n).flatMap (fun g => (List.range (ceilDiv g.count 16)).map (fun i => (g, 16 * i)))

/-- The horizon that draining up to limit `l` leaves (R457). -/
def drainTo (g : RingSet) (h : Nat) (l : Int) : Nat := if l < 0 then h else max h (l.toNat / 2 ^ g.w + 1)

/-- The drain begins: the horizon moves past every slot that it will drain (R466). -/
def drainBegin (n : Nat) (l : Int) (s : State) : State :=
  let x := s.ne n
  let h := fun i => x.horizon.getD i 0
  let new := (List.range 4).map (fun i => match ringOf s n i with
    | some g => drainTo g (h i) l
    | none => h i)
  s.setNe n { x with drainFrom := x.horizon, horizon := new }

/-- One due slot of up to 16 targets: its inputs form a batch, and the slots are cleared. A poisoned line gives no input
(R817). -/
def drainSlot (n : Nat) (g : RingSet) (j0 : Nat) (s : State) (k : Nat) : State :=
  let js := ((List.range 16).map (· + j0)).filter (fun j => decide (j < g.count) && g.inMem j)
  let live := js.filter (fun j => !(s.tile n).bad (g.addr j k) 2 && (s.tile n).nat (g.addr j k) 2 ≠ 0)
  let us := live.map (fun j => (g.tbase + j, (⟨noRegionYet, 0, (k * 2 ^ g.w : Nat), sx 16 ((s.tile n).nat (g.addr j k) 2), 0⟩ : Upd)))
  let s := live.foldl (fun s j => s.setTile n ((s.tile n).store (g.addr j k) (leBytes 2 0))) s
  if !s.flag (F.NE_CTL_EN n) then neCount n .offDrop us.length s
  else
    let (s, us) := inputsOf s n us
    batch n us s

/-- Group `i` of a drain: its targets' due slots in order. -/
def drainGroup (n : Nat) (l : Int) (chunks : List (RingSet × Nat)) (i : Nat) (s : State) : Grp :=
  match chunks[i]? with
  | none => .ok s
  | some (g, j0) =>
    let s' := if i = 0 then drainBegin n l s else s
    let h := (s'.ne n).drainFrom.getD g.ix 0
    let top := (s'.ne n).horizon.getD g.ix 0
    let targets := (List.range 16).map (fun j => g.tbase + j0 + j)
    if !(s.ne n).outq.isEmpty ∨ (h < top ∧ anyReset s n targets) then .wait s
    else .ok (((List.range (min g.slots (top - h))).map (· + h)).foldl (drainSlot n g j0) s')

/-- Row DLYX_DRAIN: due at or before OFFSET b of the tile's current epoch. -/
def execDlyxDrain (tile : Nat) (gd : Guard) (b groups : Nat) (s : State) : Res :=
  routine tile gd [b] [] 0x3E none (fun s =>
    let q := s.seq tile
    let l := startBack s ((s.epochNum + 2 ^ 32 - q.epoch) % 2 ^ 32) + (q.rd b).toNat % 2 ^ 20
    let chunks := ringChunks s tile
    .ok { opc := 0x3E, operand := q.rd b, count := chunks.length, group := drainGroup tile l chunks }) groups s

/-- The ring set that holds target `t`. -/
def ringFor (s : State) (n t : Nat) : Option RingSet :=
  (ringsOf s n).find? (fun g => decide (g.tbase ≤ t) && decide (t < g.tbase + g.count))

/-- Group `g` of an insertion: a DELAY beyond the ring's span raises DESC and nothing of the group is committed. -/
def insertGroup (n a count g : Nat) (s : State) : Grp :=
  let t := s.tile n
  let ad := a + 128 * g
  let k := groupLen count g
  match listBad t ad k with
  | some e => .exc 6 e
  | none =>
    let recs := (List.range k).map (fun i => (ad + 8 * i, t.nat (ad + 8 * i) 4, t.nat (ad + 8 * i + 4) 4 % 2 ^ 20))
    let far := recs.find? (fun r => match ringFor s n (r.2.1 % 65536) with
      | some x => decide ((x.slots - 1) * 2 ^ x.w < r.2.2)
      | none => false)
    match far with
    | some r => .exc 7 (BitVec.ofNat 32 r.1)
    | none =>
      .ok (recs.foldl (fun s r =>
        let tg := r.2.1 % 65536
        match ringFor s n tg with
        | some x => ringInsert n x tg (sx 16 (r.2.1 / 65536)) ((s.T : Int) + r.2.2) s
        | none => neCount n .noRegion 1 s) s)

/-- Row DLYX_INSERT. -/
def execDlyxInsert (tile : Nat) (gd : Guard) (a b groups : Nat) (s : State) : Res :=
  routine tile gd [a, b] [] 0x3E none (fun s =>
    let q := s.seq tile
    let count := (q.rd b).toNat % 65536
    match listCheck (q.rd a) count with
    | some e => .error e
    | none => .ok { opc := 0x3E, operand := q.rd a, count := ceilDiv count 16, group := insertGroup tile (q.rd a).toNat count }) groups s

/-- Group `i` of a clear. -/
def clearGroup (n : Nat) (chunks : List (RingSet × Nat)) (i : Nat) (s : State) : Grp :=
  match chunks[i]? with
  | none => .ok s
  | some (g, j0) =>
    let js := ((List.range 16).map (· + j0)).filter (fun j => decide (j < g.count) && g.inMem j)
    .ok (js.foldl (fun s j => s.setTile n ((s.tile n).store (g.addr j 0) (leBytes (2 * g.slots) 0))) s)

/-- Row DLYX_CLEAR. -/
def execDlyxClear (tile : Nat) (gd : Guard) (groups : Nat) (s : State) : Res :=
  routine tile gd [] [] 0x3E none (fun s =>
    let chunks := ringChunks s tile
    .ok { opc := 0x3E, operand := 0, count := chunks.length, group := clearGroup tile chunks }) groups s

end Sys2Proof.Machine
end

