-- ==== Sys2Proof/Machine/Ladle.lean ====
section
/-!
DEFINITION. Sys2Proof/Machine/Ladle.lean: Ladle addresses, transfers, the transfer program, variants and staging, the spill
formats (15).
-/

namespace Sys2Proof.Machine

/-! ### Ladle addresses and 64-bit words (R583, R587, R590) -/

/-- A 64-bit word and whether it is poisoned. -/
structure LWord where
  val : Nat
  bad : Bool
  deriving DecidableEq, Repr

/-- Where a Ladle address lies. -/
inductive Loc where
  | lp (a : Nat)
  | pool (a : Nat)
  /-- Logical tile `i`: address of its data space. -/
  | data (i a : Nat)
  /-- Instruction memory of logical tile `i`. -/
  | imem (i a : Nat)
  deriving DecidableEq, Repr

/-- Usable LPDDR5X bytes (R585). -/
def lpBytes (s : State) : Nat := s.get F.MEM_CAP * 2 ^ 20

/-- The location of `n` bytes at `la` (R587). While LPDDR5X is not ready its capacity is unknown: any offset is taken. -/
def locOf (s : State) (la n : Nat) : Option Loc :=
  let a := la % 2 ^ 44
  let t := a % 2 ^ 20
  let i := a / 2 ^ 20
  match la / 2 ^ 44 with
  | 0 => if a + n ≤ lpBytes s ∨ !s.flag F.MEM_STAT_READY then some (.lp a) else none
  | 1 => if a + n ≤ 2 ^ 24 then some (.pool a) else none
  | 2 =>
    if 192 ≤ i then none
    else if t + n ≤ 0xC000 then some (.data i t)
    else if 0x10000 ≤ t ∧ t + n ≤ 0x50000 then some (.data i t)
    else if 0x50000 ≤ t ∧ t + n ≤ 0x60000 then some (.data i t)
    else if 0xC0000 ≤ t ∧ t + n ≤ 0xC4000 then some (.imem i (t - 0xC0000))
    else none
  | _ => none

/-- The logical tile of a location. -/
def Loc.tile? : Loc → Option Nat
  | .data i _ => some i
  | .imem i _ => some i
  | _ => none

/-- The location `o` bytes further. -/
def Loc.plus (o : Nat) : Loc → Loc
  | .lp a => .lp (a + o)
  | .pool a => .pool (a + o)
  | .data i a => .data i (a + o)
  | .imem i a => .imem i (a + o)

/-- The 64-bit word at a location. -/
def readLoc (s : State) : Loc → LWord
  | .lp a => ⟨memNat s.mem.lp a 8, s.mem.lpBad.contains (a / 8)⟩
  | .pool a => ⟨memNat s.mem.pool a 8, s.mem.poolBad.contains (a / 8)⟩
  | .data i a =>
    match remap s i with
    | some n => ⟨(s.tile n).nat a 8, (s.tile n).poison.contains (a / 8)⟩
    | none => ⟨0, false⟩
  | .imem i a =>
    match remap s i with
    | some n => ⟨memNat (s.tile n).imem a 8, (s.tile n).ipoison.contains (a / 8)⟩
    | none => ⟨0, false⟩

/-- A line's mark of poison after a whole word is written. -/
def markLine (l : List Nat) (line : Nat) (bad : Bool) : List Nat := if bad then setIns l line else setDel l line

/-- Write a 64-bit word at a location (R590, R614). -/
def writeLoc (l : Loc) (w : LWord) (s : State) : State :=
  let b := leBytes 8 w.val
  match l with
  | .lp a => (s.setMem { s.mem with lp := memPutBytes s.mem.lp a b, lpBad := markLine s.mem.lpBad (a / 8) w.bad })
  | .pool a => (s.setMem { s.mem with pool := memPutBytes s.mem.pool a b, poolBad := markLine s.mem.poolBad (a / 8) w.bad })
  | .data i a =>
    match remap s i with
    | some n =>
      let t := s.tile n
      s.setTile n { t with mem := memPutBytes t.mem a b, poison := markLine t.poison (a / 8) w.bad }
    | none => s
  | .imem i a =>
    match remap s i with
    | some n =>
      let t := s.tile n
      s.setTile n { t with imem := memPutBytes t.imem a b, ipoison := markLine t.ipoison (a / 8) w.bad }
    | none => s

/-! ### Descriptors (R591, R592) -/

/-- A field of word `w` of a descriptor. -/
def dfield (d : List Nat) (w hi lo : Nat) : Nat := bitsOf (d.getD w 0) hi lo
/-- OP: 0 COPY, 1 ZSPILL, 2 ZFILL, 3 SPACK, 4 SUNPACK. -/
def dOp (d : List Nat) : Nat := dfield d 0 3 0
/-- The element type code of tile vectors: INT16 1, FP16 3, BF16 4. -/
def dTy (d : List Nat) : Nat := [1, 3, 4, 1].getD (dfield d 0 5 4) 1
def dBias (d : List Nat) : Nat := dfield d 0 10 6
def dLead (d : List Nat) : Nat := dfield d 0 13 11
def dPoint (d : List Nat) : Nat := dfield d 0 19 14
def dVen (d : List Nat) : Bool := dfield d 0 20 20 == 1
def dVar (d : List Nat) : Nat := dfield d 0 22 21
def dDoneEn (d : List Nat) : Bool := dfield d 0 23 23 == 1
def dWaitEn (d : List Nat) : Bool := dfield d 0 24 24 == 1
def dSrc (d : List Nat) : Nat := d.getD 1 0 + dfield d 2 15 0 * 2 ^ 32
def dDst (d : List Nat) : Nat := d.getD 3 0 + dfield d 2 31 16 * 2 ^ 32
def dLen (d : List Nat) : Nat := dfield d 4 23 0

/-- Bytes at the source. -/
def srcSize (d : List Nat) : Nat :=
  match dOp d with
  | 2 => dLen d + dLen d / 32
  | 4 => dLen d / 2 + dLen d / 32
  | _ => dLen d

/-- Bytes at the destination. -/
def dstSize (d : List Nat) : Nat :=
  match dOp d with
  | 1 => dLen d + dLen d / 32
  | 3 => dLen d / 2 + dLen d / 32
  | _ => dLen d

/-- The location is LPDDR5X or the pool. -/
def Loc.packable : Loc → Bool
  | .lp _ => true
  | .pool _ => true
  | _ => false

/-- R591, R592: what is wrong with a descriptor, whatever the machine is doing: 3 BADOP, 2 BADALIGN, 1 BADADDR. -/
def descCause (s : State) (d : List Nat) : Option Nat :=
  if 4 < dOp d then some 3
  else if dSrc d % 64 ≠ 0 ∨ dDst d % 64 ≠ 0 ∨ dLen d % (if dOp d = 0 then 64 else 2048) ≠ 0 then some 2
  else match locOf s (dSrc d) (srcSize d), locOf s (dDst d) (dstSize d) with
  | some a, some b =>
    if ((dOp d = 1 ∨ dOp d = 3) ∧ !b.packable) ∨ ((dOp d = 2 ∨ dOp d = 4) ∧ !a.packable) then some 2 else none
  | _, _ => some 1

/-- The tile of a location cannot be reached (R588, R616). -/
def noTile (s : State) (l : Loc) : Bool :=
  match l.tile? with
  | none => false
  | some i => match remap s i with
    | none => true
    | some n => !s.tileOn n || planUnused s n
        || (s.get (F.TILE_SEQ_STAT_STATE n) == 0 && s.get (F.TILE_SEQ_STAT_HALT_REASON n) == 5)

/-- A write there meets a tile that is not HALTED (R588). -/
def imemBusy (s : State) : Loc → Bool
  | .imem i _ => match remap s i with
    | some n => !tileHalted s n
    | none => false
  | _ => false

/-- The location touches LPDDR5X, and it is not ready (R618). -/
def memDown (s : State) : Loc → Bool
  | .lp _ => !(s.memOn && s.flag F.MEM_STAT_READY)
  | _ => false

/-- Why lines between two locations cannot be issued now: 5 NOTILE, 6 IMEM_BUSY, 8 MEM_DOWN. (DEDUCED, log entry 68) -/
def pathCause (s : State) (src dst : Loc) : Option Nat :=
  if memDown s src || memDown s dst then some 8
  else if noTile s src || noTile s dst then some 5
  else if imemBusy s dst then some 6
  else none

/-! ### What a transfer writes (R602, R603, R614) -/

/-- A destination word: byte offset and word. -/
structure DWrite where
  off : Nat
  w : LWord
  deriving DecidableEq, Repr

/-- What an operation found on the way. -/
structure SbfCnt where
  sat : Nat := 0
  nan : Nat := 0
  deriving DecidableEq, Repr

/-- COPY. -/
def copyOut (src : Nat → LWord) (len : Nat) : List DWrite := (List.range (len / 8)).map (fun i => ⟨8 * i, src (8 * i)⟩)

/-- The 32 words of block `b`. -/
def blockWords (src : Nat → LWord) (b : Nat) : List LWord := (List.range 32).map (fun i => src (256 * b + 8 * i))

/-- A block of ZSPILL: the words of its slot and its map; a poisoned block's map bits below [63:62] are free values.
(DEDUCED, log entry 69) -/
def zspillBlock (free : Nat) (ws : List LWord) : List LWord × LWord :=
  if ws.any (·.bad) then (ws.map (fun w => { w with bad := true }), ⟨free % 2 ^ 40 + 3 * 2 ^ 62, false⟩)
  else
    let nz := ws.filter (fun w => w.val ≠ 0)
    let mask := ((List.range 32).map (fun i => if (ws.getD i ⟨0, false⟩).val ≠ 0 then 2 ^ i else 0)).sum
    (nz, ⟨mask + nz.length * 2 ^ 32, false⟩)

/-- ZSPILL. -/
def zspillOut (k : Nat) (src : Nat → LWord) (len : Nat) : List DWrite :=
  let bs := (List.range (len / 256)).map (fun b => zspillBlock (Config.freeNat (k + b)) (blockWords src b))
  (bs.mapIdx (fun b p => p.1.mapIdx (fun i w => DWrite.mk (256 * b + 8 * i) w))).flatten
  ++ bs.mapIdx (fun b p => ⟨len + 8 * b, p.2⟩)

/-- Words that a map says stand in the slot; all 32 of a poisoned block. -/
def mapBad (m : LWord) : Bool := m.bad || bitsOf m.val 63 62 == 3

/-- Place in the slot of word `i` of a block: the number of set map bits below it. -/
def mapPos (m i : Nat) : Nat := ((List.range i).filter (fun j => bitOf m j)).length

/-- ZFILL: a poisoned map, or the mark of a poisoned block, poisons the whole block. -/
def zfillOut (src : Nat → LWord) (len : Nat) : List DWrite :=
  ((List.range (len / 256)).map (fun b =>
    let m := src (len + 8 * b)
    (List.range 32).map (fun i =>
      let w := if mapBad m then { src (256 * b + 8 * i) with bad := true }
        else if bitOf m.val i then src (256 * b + 8 * mapPos m.val i) else ⟨0, false⟩
      DWrite.mk (256 * b + 8 * i) w))).flatten

/-- The four 16-bit values of a word. -/
def word4 (w : Nat) : List Nat := (List.range 4).map (fun i => w / 2 ^ (16 * i) % 2 ^ 16)

/-- A value as a sign-magnitude number over `2^-unit`: INT16 has unit 0. -/
def sbfNum (ty v : Nat) : Num := if ty = 1 then Num.ofInt false (sx 16 v) else (tyFmt ty).dec false v

/-- The unit of a type. -/
def sbfUnit (ty : Nat) : Nat := if ty = 1 then 0 else (tyFmt ty).unit

/-- |x| · 2^(EBIAS − e) < 127.5. -/
def sbfFits (ty bias e : Nat) : Num → Bool
  | .nan => true
  | .inf _ => false
  | .fin _ m => decide (2 * m * 2 ^ bias < 255 * 2 ^ (e + sbfUnit ty))

/-- A mantissa. -/
def sbfMant (ty bias e : Nat) : Num → Int
  | .nan => 0
  | .inf neg => if neg then -127 else 127
  | .fin neg m => clampI (-127) 127 (roundEven ((Num.fin neg (m * 2 ^ bias)).int) (2 ^ (e + sbfUnit ty)))

/-- A block of 16 values: exponent, mantissas, and whether it clamps (R603). -/
def sbfBlock (ty bias : Nat) (xs : List Num) : Nat × List Int × Bool :=
  match (List.range 32).find? (fun e => xs.all (sbfFits ty bias e)) with
  | some e => (e, xs.map (sbfMant ty bias e), false)
  | none => (31, xs.map (sbfMant ty bias 31), true)

/-- A little-endian word of bytes. -/
def wordOfBytes (l : List Int) : Nat := leNat (l.map (fun x => BitVec.ofInt 8 x))

/-- Block `b` of SPACK: exponent, two mantissa words, counts; a poisoned value poisons the block's mantissas (R614). -/
def spackBlock (ty bias : Nat) (src : Nat → LWord) (b : Nat) : Nat × List LWord × SbfCnt :=
  let ws := (List.range 4).map (fun i => src (32 * b + 8 * i))
  if ws.any (·.bad) then (0, [⟨0, true⟩, ⟨0, true⟩], {})
  else
    let xs := (ws.map (fun w => word4 w.val)).flatten.map (sbfNum ty)
    let (e, ms, sat) := sbfBlock ty bias xs
    (e, [⟨wordOfBytes (ms.take 8), false⟩, ⟨wordOfBytes (ms.drop 8), false⟩], ⟨b2n sat, (xs.filter (· == .nan)).length⟩)

/-- SPACK: mantissas, then 16 bytes of exponents for every 16 blocks. -/
def spackOut (ty bias : Nat) (src : Nat → LWord) (len : Nat) : List DWrite × SbfCnt :=
  let bs := (List.range (len / 32)).map (spackBlock ty bias src)
  let mant := (bs.map (fun b => b.2.1)).flatten.mapIdx (fun i w => DWrite.mk (8 * i) w)
  let exps := (List.range (len / 512)).flatMap (fun g =>
    let x := ((List.range 16).map (fun j => (bs.getD (16 * g + j) (0, [], {})).1 * 2 ^ (5 * j))).sum
    [DWrite.mk (len / 2 + 16 * g) ⟨x % 2 ^ 64, false⟩, ⟨len / 2 + 16 * g + 8, ⟨x / 2 ^ 64, false⟩⟩])
  (mant ++ exps, ⟨(bs.map (fun b => b.2.2.sat)).sum, (bs.map (fun b => b.2.2.nan)).sum⟩)

/-- x̂ = m · 2^(E − EBIAS) in the type, rounded to nearest even; INT16 saturates. -/
def sbfValue (ty bias e : Nat) (m : Int) : Nat :=
  if ty = 1 then ux 16 (satS 16 (roundEven (m * 2 ^ e) (2 ^ bias)))
  else ((tyFmt ty).enc 0 false (decide (m < 0)) (m.natAbs * 2 ^ e) (2 ^ bias)).1

/-- SUNPACK: a poisoned mantissa or exponent word poisons all 16 values of its blocks. -/
def sunpackOut (ty bias : Nat) (src : Nat → LWord) (len : Nat) : List DWrite :=
  ((List.range (len / 32)).map (fun b =>
    let j := b % 16
    let x0 := src (len / 2 + 16 * (b / 16))
    let x1 := src (len / 2 + 16 * (b / 16) + 8)
    let e := (x0.val + x1.val * 2 ^ 64) / 2 ^ (5 * j) % 32
    let ms := [src (16 * b), src (16 * b + 8)]
    let bad := ms.any (·.bad) || (x0.bad && decide (j ≤ 12)) || (x1.bad && decide (12 ≤ j))
    let vs := (ms.map (fun w => (leBytes 8 w.val).map (fun x => sbfValue ty bias e x.toInt))).flatten
    (List.range 4).map (fun i =>
      DWrite.mk (32 * b + 8 * i) ⟨((slice vs (4 * i) 4).mapIdx (fun q v => v * 2 ^ (16 * q))).sum, bad⟩))).flatten

/-- The destination words of a transfer in address order; `k` is the first index of its free values. -/
def outWords (k : Nat) (d : List Nat) (src : Nat → LWord) : List DWrite × SbfCnt :=
  match dOp d with
  | 1 => (zspillOut k src (dLen d), {})
  | 2 => (zfillOut src (dLen d), {})
  | 3 => spackOut (dTy d) (dBias d) src (dLen d)
  | 4 => (sunpackOut (dTy d) (dBias d) src (dLen d), {})
  | _ => (copyOut src (dLen d), {})

/-- The words that a commit copies out of staging: all of them, and of ZSPILL those it wrote. -/
def stagedOut (d : List Nat) (stg : Nat → LWord) : List DWrite :=
  if dOp d = 1 then
    let len := dLen d
    let maps := (List.range (len / 256)).map (fun b => stg (len + 8 * b))
    (maps.mapIdx (fun b m => (List.range (if bitsOf m.val 63 62 = 3 then 32 else bitsOf m.val 39 32)).map
      (fun i => DWrite.mk (256 * b + 8 * i) (stg (256 * b + 8 * i))))).flatten
    ++ maps.mapIdx (fun b m => ⟨len + 8 * b, m⟩)
  else copyOut stg (dstSize d)

/-! ### Counters and the failure log -/

/-- The Ladle's counters, in the order of their registers. -/
inductive LdlCnt where
  | issued | done | late | staged | commit | squash | sqBytes | decMiss | decDup | decBad | fail | poisoned | stgFull | slotFull
  | sbfSat | sbfNan
  deriving DecidableEq, Repr

/-- Place of a counter. -/
def LdlCnt.ix : LdlCnt → Nat
  | .issued => 0 | .done => 1 | .late => 2 | .staged => 3 | .commit => 4 | .squash => 5 | .sqBytes => 6 | .decMiss => 7
  | .decDup => 8 | .decBad => 9 | .fail => 10 | .poisoned => 11 | .stgFull => 12 | .slotFull => 13 | .sbfSat => 14 | .sbfNan => 15

/-- A counter takes `k`. -/
def ldlCount (c : LdlCnt) (k : Nat) (s : State) : State := if k = 0 then s else s.incBy (F.LDL_CNT c.ix) k

/-- Replace transfer `i`. -/
def setXfer (i : Nat) (x : Xfer) (s : State) : State := s.setLadle { s.ladle with xfers := s.ladle.xfers.set i x }

/-- Transfer `i` leaves its slot and its staging space. -/
def dropXfer (i : Nat) (s : State) : State := s.setLadle { s.ladle with xfers := s.ladle.xfers.eraseIdx i }

/-- R594: counted, recorded, Bench notified. -/
def ldlFail (idx target cause : Nat) (s : State) : State :=
  let s := ldlCount .fail 1 s
  let s := (s.set F.LDL_FAILLOG0_INDEX idx).set F.LDL_FAILLOG0_CAUSE cause
  ((s.set F.LDL_FAILLOG1 target).raise F.LDL_FAILLOG2).bench .ladleFail idx

/-- Lines that cross the mesh between a tile and the other end are counted at their port (R589, R605). -/
def countEnd (s : State) (tileEnd other : Loc) (lines : Nat) : State :=
  match tileEnd.tile? with
  | none => s
  | some i => match remap s i with
    | none => s
    | some n =>
      let half := if n / 16 < 6 then 0 else 1
      s.incBy (F.LDL_BYTES ((match other with | .pool _ => 2 | _ => 0) + half)) lines

/-- The lines of a run of `n` bytes between two locations; a tile-to-tile line crosses the mesh twice. (DEDUCED, log entry 68) -/
def countLines (a b : Loc) (n : Nat) (s : State) : State :=
  let s := if a.tile?.isSome then countEnd s a b (n / 64) else s
  if b.tile?.isSome then countEnd s b a (n / 64) else s

/-! ### Gates and DONE (R591, R593, R596, R630) -/

/-- The WAIT gate of a descriptor is tested: a handle that names no counter, or a poisoned counter, leaves it closed.
(DEDUCED, log entry 68) -/
def gateTest (d : List Nat) (s : State) : Bool × State :=
  if !dWaitEn d then (true, s)
  else
    let h := d.getD 6 0
    match handleKey s h none true with
    | none => (false, badHandle h 0xF0A s)
    | some key =>
      if s.sync.poison.contains key then (false, poisonedOp key s) else (meets (ctrOf s key) (d.getD 7 0), s)

/-- DONE is signalled: ADD 1 (R591). (DEDUCED, log entry 68) -/
def signalDone (d : List Nat) (s : State) : State :=
  if !dDoneEn d then s
  else match handleKey s (d.getD 5 0) none true with
  | none => badHandle (d.getD 5 0) 0xF0A s
  | some key => windowApply key 1 1 s

/-! ### Staging (R599) -/

/-- 4 KiB units that a descriptor's output takes. (DEDUCED, log entry 68) -/
def stgUnits (d : List Nat) : Nat := ceilDiv (dstSize d) 4096

/-- Free units of the staging region, lowest first. -/
def stgFree (s : State) : List Nat :=
  (List.range (s.get F.LDL_STAGE_SZ * 16)).filter (fun u => !s.ladle.xfers.any (fun x => x.stg.contains u))

/-- Pool address of byte `o` of a transfer's staged output. -/
def stgAddr (s : State) (x : Xfer) (o : Nat) : Nat :=
  s.get F.LDL_STAGE * 65536 + x.stg.getD (o / 4096) 0 * 4096 + o % 4096

/-! ### Decisions (R598 to R601) -/

/-- The decision for a point and target epoch. -/
def decisionOf (s : State) (k d : Nat) : Option Nat := (s.ladle.decided.find? (fun x => x.1 == k && x.2.1 == d)).map (·.2.2)

/-- A staged transfer is squashed: counted with its staged bytes. -/
def countSquash (d : List Nat) (s : State) : State := ldlCount .sqBytes (dstSize d / 64) (ldlCount .squash 1 s)

/-- A transfer after the decision `v` for its point and epoch. -/
def decideXfer (k d v : Nat) (x : Xfer) : Xfer :=
  if dVen x.desc && dPoint x.desc == k && x.target == d then
    match x.phase with
    | .staging => { x with phase := if dVar x.desc = v then .chosen else .doomed }
    | .staged => { x with phase := if dVar x.desc = v then .commit else .doomed }
    | _ => x
  else x

/-- The transfer is staged in full and decided against. -/
def squashable (k d v : Nat) (x : Xfer) : Bool :=
  dVen x.desc && dPoint x.desc == k && x.target == d && decide (x.phase = .staged) && decide (dVar x.desc ≠ v)

/-- The decision `v` for point `k` and target epoch `d` arrives (R600). -/
def takeDecision (k d v : Nat) (s : State) : State :=
  let gone := s.ladle.xfers.filter (squashable k d v)
  let keep := (s.ladle.xfers.filter (fun x => !squashable k d v x)).map (decideXfer k d v)
  let s := s.setLadle { s.ladle with decided := s.ladle.decided ++ [(k, d, v)], xfers := keep }
  gone.foldl (fun s x => countSquash x.desc s) s

/-- The target epoch in E to E + 4 that agrees with `d` modulo 2^30. -/
def targetOf (s : State) (d : Nat) : Option Nat :=
  ((List.range 5).map (fun i => (s.epochNum + i) % 2 ^ 32)).find? (fun x => x % 2 ^ 30 == d)

/-- Decision counter of point `k` has taken the value `v` (R598). -/
def decision (k v : Nat) (s : State) : State :=
  match targetOf s (v / 4) with
  | none => ldlCount .decBad 1 s
  | some d => if (decisionOf s k d).isSome then ldlCount .decDup 1 s else takeDecision k d (v % 4) s

/-- The gates on a global counter are tested (R630). -/
def testGates (key : Nat) (s : State) : State :=
  (List.range s.ladle.xfers.length).foldl (fun s i =>
    match s.ladle.xfers[i]? with
    | none => s
    | some x =>
      if x.gate ∨ handleKey s (x.desc.getD 6 0) none true ≠ some key then s
      else
        let (g, s) := gateTest x.desc s
        setXfer i { x with gate := g } s) s

/-- Row COUNTER_CHANGE_REPORT: the oldest reported change reaches the Ladle: decisions, then gates (R611). -/
def execCounterChangeReport (s : State) : Res :=
  .next (match s.sync.changed with
  | [] => s
  | (key, v) :: rest =>
    let s := (s.setSync { s.sync with changed := rest })
    let s := (List.range 64).foldl (fun s k =>
      if s.flag (F.LDL_VP_VALID k) ∧ s.get (F.LDL_VP_GIDX k) = key then decision k v s else s) s
    testGates key s)

/-- Row LADLE_WAIT_POLL: the transfer at place `index` reads its local WAIT counter (R630). -/
def execLadleWaitPoll (index : Nat) (s : State) : Res :=
  .next (if !s.fabOn then s
  else match s.ladle.xfers[index]? with
  | none => s
  | some x =>
    if x.gate ∨ bitOf (x.desc.getD 6 0) 31 then s
    else
      let (g, s) := gateTest x.desc s
      setXfer index { x with gate := g } s)

/-! ### Issue (R595 to R599) -/

/-- Epochs in the period. -/
def ldlPeriod (s : State) : Nat := s.get F.LDL_CTL_PERIOD + 1

/-- Pool offset of the segment table. -/
def segBase (s : State) : Nat := s.get F.LDL_PROG * 64

/-- FIRST and COUNT of the segment of target epoch `d`. -/
def segmentOf (s : State) (d : Nat) : Nat × Nat :=
  let j := (d + 2 ^ 32 - s.get F.LDL_E0) % 2 ^ 32 % ldlPeriod s
  let w := memNat s.mem.pool (segBase s + 8 * j) 4
  (w % 65536, w / 65536)

/-- Descriptor `i`. -/
def descOf (s : State) (i : Nat) : List Nat :=
  let base := ceilDiv (segBase s + 8 * ldlPeriod s) 32 * 32 + 32 * i
  (List.range 8).map (fun w => memNat s.mem.pool (base + 4 * w) 4)

/-- Epochs from the current one to `d`, signed. -/
def ahead (s : State) (d : Nat) : Int := sx 32 ((d + 2 ^ 32 - s.epochNum) % 2 ^ 32)

/-- The pointer moves past the ends of segments, to a descriptor or to the limit of RUNAHEAD. -/
def skipSegments : Nat → State → State
  | 0, s => s
  | fuel + 1, s =>
    let d := s.ladle.target
    if (s.get F.LDL_CTL_RUNAHEAD : Int) < ahead s d then s
    else if s.ladle.pos < (segmentOf s d).2 then s
    else skipSegments fuel (s.setLadle { s.ladle with target := (d + 1) % 2 ^ 32, pos := 0, stopped := false })

/-- The pointer moves past its descriptor, which is counted in ISSUED. -/
def issued (s : State) : State :=
  ldlCount .issued 1 (s.setLadle { s.ladle with pos := s.ladle.pos + 1, stopped := false })

/-- The pointer stops for want of a slot or of staging space; each stop is counted once. (DEDUCED, log entry 68) -/
def stopAt (c : LdlCnt) (s : State) : State :=
  if s.ladle.stopped then s else ldlCount c 1 (s.setLadle { s.ladle with stopped := true })

/-- The transfer's deadline has passed (R597). -/
def pastDue (s : State) (d : List Nat) (target : Nat) : Bool :=
  decide (if dLead d = 0 then ahead s target < 0 else ahead s target ≤ 0)

/-- A descriptor takes a slot. -/
def takeSlot (x : Xfer) (s : State) : State :=
  let (g, s) := gateTest x.desc s
  let late := pastDue s x.desc x.target
  let s := if late then ldlCount .late 1 s else s
  s.setLadle { s.ladle with xfers := s.ladle.xfers ++ [{ x with gate := g, late := late }] }

/-- The descriptor at the pointer issues, or stops the pointer. (DEDUCED, log entry 68) -/
def issueOne (s : State) : State :=
  let tgt := s.ladle.target
  let idx := ((segmentOf s tgt).1 + s.ladle.pos) % 65536
  let d := descOf s idx
  if (s.get F.LDL_CTL_RUNAHEAD : Int) < ahead s tgt ∨ (dLead d : Int) < ahead s tgt then s
  else if 512 ≤ s.ladle.xfers.length then stopAt .slotFull s
  else match descCause s d with
  | some c => ldlFail idx tgt c (issued s)
  | none =>
    match locOf s (dSrc d) (srcSize d), locOf s (dDst d) (dstSize d) with
    | some src, some dst =>
      let direct := fun (s : State) => match pathCause s src dst with
        | some c => ldlFail idx tgt c (issued s)
        | none => takeSlot { idx := idx, target := tgt, desc := d } (issued s)
      if !dVen d then direct s
      else match decisionOf s (dPoint d) tgt with
      | some v => if v = dVar d then direct s else ldlCount .squash 1 (issued s)
      | none =>
        let free := stgFree s
        if free.length < stgUnits d then stopAt .stgFull s
        else match pathCause s src (.pool 0) with
        | some c => ldlFail idx tgt c (issued s)
        | none =>
          ldlCount .staged 1 (takeSlot { idx := idx, target := tgt, desc := d, phase := .staging, stg := free.take (stgUnits d) } (issued s))
    | _, _ => s

/-- Row LADLE_ISSUE: the descriptor at the pointer. -/
def execLadleIssue (s : State) : Res :=
  .next (if !(s.fabOn && s.flag F.LDL_CTL_EN) then s
  else
    let s := skipSegments 6 s
    if s.ladle.pos < (segmentOf s s.ladle.target).2 then issueOne s else s)

/-! ### Completion (R593, R594, R600, R614, R615) -/

/-- The words are written at their places. -/
def writeWords (place : Nat → Loc) (ws : List DWrite) (s : State) : State := ws.foldl (fun s w => writeLoc (place w.off) w.w s) s

/-- Poisoned words that a transfer reads. -/
def countPoison (src : Nat → LWord) (n : Nat) (s : State) : State :=
  ldlCount .poisoned ((List.range (n / 8)).filter (fun i => (src (8 * i)).bad)).length s

/-- The data of a run from `src`: its words go to `place`. -/
def runData (x : Xfer) (src dst : Loc) (place : Nat → Loc) (s : State) : State :=
  let rd := fun o => readLoc s (src.plus o)
  let (ws, c) := outWords s.freeCtr x.desc rd
  let s' := (s.setFreeCtr (s.freeCtr + dLen x.desc / 256))
  let s' := countPoison rd (srcSize x.desc) s'
  let s' := ldlCount .sbfNan c.nan (ldlCount .sbfSat c.sat s')
  countLines src dst (dLen x.desc) (writeWords place ws s')

/-- The words that a lost transfer had written before it failed. -/
def partData (x : Xfer) (src : Loc) (place : Nat → Loc) (k : Nat) (s : State) : State :=
  let (ws, _) := outWords s.freeCtr x.desc (fun o => readLoc s (src.plus o))
  writeWords place (ws.take k) (s.setFreeCtr (s.freeCtr + dLen x.desc / 256))

/-- Transfer `i` has failed. -/
def failAt (i : Nat) (x : Xfer) (cause : Nat) (s : State) : State := ldlFail x.idx x.target cause (dropXfer i s)

/-- The destination writes of a direct or committed transfer are acknowledged. -/
def finish (i : Nat) (x : Xfer) (s : State) : State := signalDone x.desc (ldlCount .done 1 (dropXfer i s))

/-- The transfer at place `i` ends its run; with `lost = some k` a line of it was lost twice after `k` words had been written.
(DEDUCED, log entry 68) -/
def complete (i : Nat) (x : Xfer) (lost : Option Nat) (s : State) : State :=
  match locOf s (dSrc x.desc) (srcSize x.desc), locOf s (dDst x.desc) (dstSize x.desc) with
  | some src, some dst =>
    let stgPlace := fun o => Loc.pool (stgAddr s x o)
    let mesh := src.tile?.isSome || dst.tile?.isSome
    match x.phase with
    | .direct =>
      if !x.gate then s
      else match pathCause s src dst, (if mesh then lost else none) with
      | some c, _ => failAt i x c s
      | none, some k => failAt i x 7 (partData x src (fun o => dst.plus o) k s)
      | none, none => finish i x (runData x src dst (fun o => dst.plus o) s)
    | .commit =>
      if !x.gate then s
      else
        let ws := stagedOut x.desc (fun o => readLoc s (stgPlace o))
        match pathCause s (.pool 0) dst, (if dst.tile?.isSome then lost else none) with
        | some c, _ => failAt i x c s
        | none, some k => failAt i x 7 (writeWords (fun o => dst.plus o) (ws.take k) s)
        | none, none =>
          finish i x (ldlCount .commit 1 (countLines (.pool 0) dst (dstSize x.desc) (writeWords (fun o => dst.plus o) ws s)))
    | .staged => s
    | ph =>
      match pathCause s src (.pool 0), (if src.tile?.isSome then lost else none) with
      | some c, _ => failAt i x c s
      | none, some k => failAt i x 7 (partData x src stgPlace k s)
      | none, none =>
        let s := runData x src (.pool 0) stgPlace s
        match ph with
        | .chosen => setXfer i { x with phase := .commit } s
        | .doomed => countSquash x.desc (dropXfer i s)
        | _ => setXfer i { x with phase := .staged } s
  | _, _ => failAt i x 1 s

/-- Row TRANSFER_COMPLETE. -/
def execTransferComplete (index : Nat) (lost : Option Nat) (s : State) : Res :=
  .next (if !s.fabOn then s
  else match s.ladle.xfers[index]? with
  | none => s
  | some x => complete index x lost s)

/-! ### Enable, disable, epoch boundary -/

/-- EN is set: the pointer starts at PLAN_E0, or at the current epoch where that is later. -/
def ladleEnable (s : State) : State :=
  if s.flag F.LDL_CTL_EN then s
  else
    let e0 := s.get F.LDL_E0
    (s.raise F.LDL_CTL_EN).setLadle { s.ladle with target := if 0 ≤ ahead s e0 then e0 else s.epochNum, pos := 0, stopped := false }

/-- Row LADLE_ENABLE. -/
def execLadleEnable (agent : Agent) (s : State) : Res :=
  .next (s.guardWrite s.fabOn .bench agent F.LDL_CTL_EN.off ladleEnable)

/-- EN is cleared: issue stops (R613). -/
def ladleDisable (s : State) : State := s.clear F.LDL_CTL_EN

/-- Row LADLE_DISABLE. -/
def execLadleDisable (agent : Agent) (s : State) : Res :=
  .next (s.guardWrite s.fabOn .bench agent F.LDL_CTL_EN.off ladleDisable)

/-- R601: at the start of an epoch every valid point without a decision for it takes DEFV. (DEDUCED, log entry 69) -/
def decMiss (s : State) : State :=
  if !s.flag F.LDL_CTL_EN then s
  else (List.range 64).foldl (fun s k =>
    if s.flag (F.LDL_VP_VALID k) && (decisionOf s k s.epochNum).isNone then
      takeDecision k s.epochNum (s.get (F.LDL_VP_DEFV k)) (ldlCount .decMiss 1 s)
    else s) s

/-- R597: transfers past their deadline are counted once. -/
def countLate (s : State) : State :=
  let due := fun (x : Xfer) => !x.late && pastDue s x.desc x.target
  let n := (s.ladle.xfers.filter due).length
  ldlCount .late n (s.setLadle { s.ladle with xfers := s.ladle.xfers.map (fun x => if due x then { x with late := true } else x) })

/-- Decisions that no descriptor can still ask for are forgotten. -/
def forgetDecisions (s : State) : State :=
  s.setLadle { s.ladle with decided := s.ladle.decided.filter (fun x =>
    decide (0 ≤ ahead s x.2.1) || (s.flag F.LDL_CTL_EN && decide (ahead s s.ladle.target ≤ ahead s x.2.1))) }

/-- The Ladle at an epoch boundary. -/
def ladleBoundary (s : State) : State := if s.fabOn then forgetDecisions (countLate (decMiss s)) else s

end Sys2Proof.Machine
end

