-- ==== Sys2Proof/Machine/Fronthaul.lean ====
section
/-!
DEFINITION. Sys2Proof/Machine/Fronthaul.lean: the fronthaul switch, its one-step transparent clock and result frames (03).
A frame is its bytes from the destination MAC to the byte before the FCS; whether the FCS is good comes beside it.
-/

namespace Sys2Proof.Machine

/-! ### Ports -/

/-- The port runs at 100 Gb/s: it is the port of a group in 1 × 100G mode. -/
def is100 (s : State) (p : Nat) : Bool :=
  (p == 0 && s.flag F.NET_GRP_CFG_G0_MODE) || (p == 4 && s.flag F.NET_GRP_CFG_G1_MODE)

/-- The port exists in its group's mode (R88). -/
def present (s : State) (p : Nat) : Bool :=
  if p < 8 then s.flag (F.NET_P_STAT_PRESENT p) else decide (p < 10)

/-- RS-FEC is on: set per port at 25G, always at 100G (R90). -/
def fecOn (s : State) (p : Nat) : Bool := is100 s p || s.flag (F.NET_P_CFG_FEC p)

/-- The default latencies of a port (R112), Q24.8 ns: receive, transmit. (DESIGN CHOICE, log entry 42) -/
def latDefault (s : State) (p : Nat) : Nat × Nat :=
  if is100 s p then (31744, 13312) else if s.flag (F.NET_P_CFG_FEC p) then (76288, 16896) else (15488, 10880)

/-- LAT_RX and LAT_TX of a port that is not calibrated show the default table (R112). (DESIGN CHOICE, log entry 42) -/
def showLat (p : Nat) (s : State) : State :=
  if s.flag (F.NET_P_STAT_CAL_DONE p) then s
  else (s.set (F.NET_P_LAT_RX p) (latDefault s p).1).set (F.NET_P_LAT_TX p) (latDefault s p).2

/-- The port forwards: enabled, present and linked (R124, R125, R135). Internal ports 8 and 9 always do. -/
def portUp (s : State) (p : Nat) : Bool :=
  if p < 8 then present s p && s.flag (F.NET_P_CFG_EN p) && s.flag (F.NET_P_STAT_LINK p) else decide (p < 10)

/-- SYNCE_CLKn outputs: enabled, and not squelched by a lane without block lock (R74). In 100G mode lane 0 of the group
stands for the group. -/
def showSynce (s : State) : State :=
  (List.range 2).foldl (fun s i =>
    let lane := s.get (F.TSB_SYNCE_CTL_LANE i)
    let on := s.flag (F.TSB_SYNCE_CTL_EN i) && (s.flag (F.NET_P_STAT_BLOCK_LOCK lane) || !s.flag (F.TSB_SYNCE_CTL_SQUELCH_LOS i))
    s.set (F.TSB_SYNCE_CTL_ACTIVE i) (b2n on)) s

/-- Frames queued for the port are flushed and counted in FLUSH (R124, R135). -/
def flushQueue (p : Nat) (s : State) : State :=
  let n := (s.sw.queue.filter (·.port = p)).length
  (s.setSw { s.sw with queue := s.sw.queue.filter (·.port ≠ p) }).incBy (F.NET_P_FLUSH p) n

/-- Learned entries on the port are removed (R124). -/
def unlearnPort (p : Nat) (s : State) : State :=
  (s.setSw { s.sw with mac := s.sw.mac.filter (fun e => e.static || e.ports ≠ 2 ^ p) })

/-- The residence timeline in 2^-16 ns (03, Timestamps). -/
def State.resid (s : State) : Nat := s.tb.resid / 2 ^ 24

/-- A frame in transmission when the link falls is truncated and counted in STOMP (R132). -/
def cutTx (p : Nat) (s : State) : State :=
  if s.resid < s.sw.busyUntil.getD p 0 then
    (s.setSw { s.sw with busyUntil := s.sw.busyUntil.set p s.resid }).inc (F.NET_P_STOMP p)
  else s

/-- R124: the port has EN = 0. -/
def portDisable (p : Nat) (s : State) : State :=
  unlearnPort p (flushQueue p (cutTx p (s.clear (F.NET_P_CFG_EN p))))

/-- R125, R88: EN is set; forwarding starts with block lock and FEC lock. -/
def portEnable (p : Nat) (s : State) : State := if present s p then s.raise (F.NET_P_CFG_EN p) else s

/-- Row PORT_ENABLE: a write of NET_P_CFG that sets EN. -/
def execPortEnable (agent : Agent) (port : Nat) (s : State) : Res :=
  .next (s.guardWrite s.netOn .benchTouchmark agent (F.NET_P_CFG_EN port).off (portEnable port))

/-- Row PORT_DISABLE: a write of NET_P_CFG that clears EN. -/
def execPortDisable (agent : Agent) (port : Nat) (s : State) : Res :=
  .next (s.guardWrite s.netOn .benchTouchmark agent (F.NET_P_CFG_EN port).off
    (fun s => if present s port then portDisable port s else s))

/-- A lane gains block lock (and FEC lock where FEC is on): LINK rises (R125). -/
def linkUp (p : Nat) (s : State) : State :=
  if present s p && decide (p < 8) then
    showSynce (showLat p ((((s.raise (F.NET_P_STAT_LINK p)).raise (F.NET_P_STAT_BLOCK_LOCK p)).set (F.NET_P_STAT_FEC_LOCK p)
      (b2n (fecOn s p))).clear (F.NET_P_STAT_CAL_DONE p)))
  else s

/-- Row FH_LINK_UP. -/
def execFhLinkUp (port : Nat) (s : State) : Res := .next (if s.netOn then linkUp port s else s)

/-- Loss of signal or of block lock (R135, R132, R74). -/
def linkDown (p : Nat) (s : State) : State :=
  if p < 8 then
    let s := flushQueue p (cutTx p s)
    let s := ((s.clear (F.NET_P_STAT_LINK p)).clear (F.NET_P_STAT_BLOCK_LOCK p)).clear (F.NET_P_STAT_FEC_LOCK p)
    showSynce (showLat p (s.clear (F.NET_P_STAT_CAL_DONE p)))
  else s

/-- Row FH_LINK_DOWN. -/
def execFhLinkDown (port : Nat) (s : State) : Res := .next (if s.netOn then linkDown port s else s)

/-- Row PORT_CALIBRATION_DONE (R112): the latencies measured at this link-up, Q24.8 ns. (DESIGN CHOICE, log entry 42) -/
def execPortCalibrationDone (port latRx latTx : Nat) (s : State) : Res :=
  .next (if s.netOn && decide (port < 8) && s.flag (F.NET_P_STAT_LINK port) && !s.flag (F.NET_P_STAT_CAL_DONE port) then
    ((s.raise (F.NET_P_STAT_CAL_DONE port)).set (F.NET_P_LAT_RX port) latRx).set (F.NET_P_LAT_TX port) latTx
  else s)

/-- R88, R89: a group's mode changes while every port of the group is disabled. -/
def groupMode (g : Nat) (hundred : Bool) (s : State) : State :=
  let f := if g = 0 then F.NET_GRP_CFG_G0_MODE else F.NET_GRP_CFG_G1_MODE
  if s.flag f = hundred then s
  else if (List.range 4).any (fun i => s.flag (F.NET_P_CFG_EN (4 * g + i))) then s.raise F.NET_GRP_CFG_REFUSED
  else
    let s := s.set f (b2n hundred)
    let s := (List.range 3).foldl (fun s i => s.set (F.NET_P_STAT_PRESENT (4 * g + 1 + i)) (b2n (!hundred))) s
    (List.range 4).foldl (fun s i => showLat (4 * g + i) s) s

/-- Row GROUP_MODE_SET (R89). -/
def execGroupModeSet (agent : Agent) (group : Nat) (hundred : Bool) (s : State) : Res :=
  .next (s.guardWrite s.netOn .benchTouchmark agent F.NET_GRP_CFG_G0_MODE.off (groupMode (group % 2) hundred))

/-! ### MAC and VLAN tables -/

/-- One step of the reflected CRC-32 of IEEE 802.3. -/
def crcBit (c : Nat) : Nat := if c % 2 = 1 then Nat.xor (c / 2) 0xEDB88320 else c / 2

/-- The CRC-32 register after a byte. -/
def crcByte (c b : Nat) : Nat := (List.range 8).foldl (fun c _ => crcBit c) (Nat.xor c b)

/-- The CRC-32 register after bytes, from 0xFFFF_FFFF and without final inversion. -/
def crcRaw (l : List Byte) : Nat := l.foldl (fun c b => crcByte c b.toNat) 0xFFFFFFFF

/-- The bucket of a key (03, Forwarding). -/
def macBucket (vid mac : Nat) : Nat := crcRaw (beBytes 2 vid ++ beBytes 6 mac) % 2048

/-- The entry of a key. -/
def macFind (s : State) (vid mac : Nat) : Option MacEntry := s.sw.mac.find? (fun e => e.vid == vid && e.mac == mac)

/-- The entries of a bucket. -/
def bucketOf (s : State) (vid mac : Nat) : List MacEntry :=
  s.sw.mac.filter (fun e => macBucket e.vid e.mac == macBucket vid mac)

/-- Replace or add an entry. -/
def macPut (e : MacEntry) (s : State) : State :=
  (s.setSw { s.sw with mac := s.sw.mac.filter (fun x => !(x.vid == e.vid && x.mac == e.mac)) ++ [e] })

/-- The entry of a key is removed. -/
def macRemove (vid mac : Nat) (s : State) : State :=
  (s.setSw { s.sw with mac := s.sw.mac.filter (fun x => !(x.vid == vid && x.mac == mac)) })

/-- R94, R95: learn (VID, SMAC) on the ingress port. (DESIGN CHOICE, log entry 41) -/
def macLearn (p vid smac : Nat) (s : State) : State :=
  if s.get F.NET_MAC_AGE = 0 then s
  else match macFind s vid smac with
  | some e => if e.static then s else macPut { e with ports := 2 ^ p, stamp := s.tb.resid } s
  | none =>
    if 4 ≤ (bucketOf s vid smac).length then s.inc F.NET_MAC_CMD_LEARN_FAIL
    else macPut { vid := vid, mac := smac, ports := 2 ^ p, static := false, fh := false, stamp := s.tb.resid } s

/-- The key that NET_MAC_DATA0 and DATA1 hold. -/
def macKey (s : State) : Nat × Nat := (s.get F.NET_MAC_DATA1_VID, s.get F.NET_MAC_DATA0 + s.get F.NET_MAC_DATA1_MAC * 2 ^ 32)

/-- OP 0: lookup (NET_MAC_CMD). -/
def macLookup (s : State) : State :=
  let s := s.set F.NET_MAC_CMD_OP 0
  match macFind s (macKey s).1 (macKey s).2 with
  | some e => (((s.set F.NET_MAC_DATA2_PORTS e.ports).set F.NET_MAC_DATA2_STATIC (b2n e.static)).set F.NET_MAC_DATA2_FH
      (b2n e.fh)).raise F.NET_MAC_DATA2_VALID
  | none => (s.clear F.NET_MAC_DATA2_VALID).raise F.NET_MAC_CMD_NOT_FOUND

/-- The learned way with the oldest AGE. (DESIGN CHOICE, log entry 41) -/
def oldestLearned (l : List MacEntry) : Option MacEntry :=
  (l.filter (fun e => !e.static)).foldl (fun a e => match a with | none => some e | some x => if e.stamp < x.stamp then some e else some x) none

/-- OP 1: insert a static entry (R95). (DESIGN CHOICE, log entry 41) -/
def macInsert (s : State) : State :=
  let s := s.set F.NET_MAC_CMD_OP 1
  let k := macKey s
  let e : MacEntry := { vid := k.1, mac := k.2, ports := s.get F.NET_MAC_DATA2_PORTS, static := true,
                        fh := s.flag F.NET_MAC_DATA2_FH, stamp := s.tb.resid }
  if (macFind s k.1 k.2).isSome || decide ((bucketOf s k.1 k.2).length < 4) then macPut e s
  else match oldestLearned (bucketOf s k.1 k.2) with
  | some o => macPut e (macRemove o.vid o.mac s)
  | none => s.raise F.NET_MAC_CMD_BUCKET_FULL

/-- OP 2: delete. -/
def macDelete (s : State) : State :=
  let s := s.set F.NET_MAC_CMD_OP 2
  match macFind s (macKey s).1 (macKey s).2 with
  | some e => macRemove e.vid e.mac s
  | none => s.raise F.NET_MAC_CMD_NOT_FOUND

/-- OP 3: the learned entries of one port, or of all ports (15), are removed. -/
def macFlush (p : Nat) (s : State) : State :=
  let s := (s.set F.NET_MAC_CMD_OP 3).set F.NET_MAC_CMD_FLUSH_PORT p
  if p = 15 then (s.setSw { s.sw with mac := s.sw.mac.filter (·.static) }) else unlearnPort p s

/-- Row MAC_LOOKUP. -/
def execMacLookup (agent : Agent) (s : State) : Res :=
  .next (s.guardWrite s.netOn .benchTouchmark agent F.NET_MAC_CMD_GO.off macLookup)

/-- Row MAC_INSERT_STATIC. -/
def execMacInsertStatic (agent : Agent) (s : State) : Res :=
  .next (s.guardWrite s.netOn .benchTouchmark agent F.NET_MAC_CMD_GO.off macInsert)

/-- Row MAC_DELETE. -/
def execMacDelete (agent : Agent) (s : State) : Res :=
  .next (s.guardWrite s.netOn .benchTouchmark agent F.NET_MAC_CMD_GO.off macDelete)

/-- Row MAC_FLUSH_LEARNED. -/
def execMacFlushLearned (agent : Agent) (port : Nat) (s : State) : Res :=
  .next (s.guardWrite s.netOn .benchTouchmark agent F.NET_MAC_CMD_GO.off (macFlush port))

/-- Row MAC_AGE_OUT (R94): a learned entry not refreshed for AGE_S seconds is removed. (DESIGN CHOICE, log entry 41) -/
def execMacAgeOut (vid mac : Nat) (s : State) : Res :=
  .next (match macFind s vid mac with
    | some e => if s.netOn && !e.static then macRemove vid mac s else s
    | none => s)

/-- AGE_S = 0 removes every learned entry at once (R94). -/
def ageFlush (s : State) : State :=
  ((s.clear F.NET_MAC_AGE).setSw { s.sw with mac := s.sw.mac.filter (·.static) })

/-- Row MAC_AGE_FLUSH: a write of AGE_S = 0. (DESIGN CHOICE, log entry 41) -/
def execMacAgeFlush (agent : Agent) (s : State) : Res :=
  .next (s.guardWrite s.netOn .benchTouchmark agent F.NET_MAC_AGE.off ageFlush)

/-- The VLAN table's entry of a VID. -/
def State.vlan (s : State) (vid : Nat) : VlanEntry := sparseGet (fun _ => {}) s.sw.vlan vid

/-- NET_VLAN_CMD.WRITE. -/
def vlanWrite (vid : Nat) (s : State) : State :=
  let s := s.set F.NET_VLAN_CMD_VID vid
  let v : VlanEntry := { member := s.get F.NET_VLAN_DATA_MEMBER, untag := s.get F.NET_VLAN_DATA_UNTAG,
                         flood := s.flag F.NET_VLAN_DATA_FLOOD, valid := s.flag F.NET_VLAN_DATA_VALID }
  (s.setSw { s.sw with vlan := sparsePut (fun _ => {}) s.sw.vlan (vid % 4096) v })

/-- NET_VLAN_CMD.READ. -/
def vlanRead (vid : Nat) (s : State) : State :=
  let s := s.set F.NET_VLAN_CMD_VID vid
  let v := s.vlan (vid % 4096)
  (((s.set F.NET_VLAN_DATA_MEMBER v.member).set F.NET_VLAN_DATA_UNTAG v.untag).set F.NET_VLAN_DATA_FLOOD (b2n v.flood)).set
    F.NET_VLAN_DATA_VALID (b2n v.valid)

/-- Row VLAN_WRITE. -/
def execVlanWrite (agent : Agent) (vid : Nat) (s : State) : Res :=
  .next (s.guardWrite s.netOn .benchTouchmark agent F.NET_VLAN_CMD_WRITE.off (vlanWrite vid))

/-- Row VLAN_READ. -/
def execVlanRead (agent : Agent) (vid : Nat) (s : State) : Res :=
  .next (s.guardWrite s.netOn .benchTouchmark agent F.NET_VLAN_CMD_READ.off (vlanRead vid))

/-! ### PTP messages -/

/-- A PTP message inside a frame: the offset of its header, and its transport: 0 Ethernet, 1 UDP/IPv4, 2 UDP/IPv6. -/
structure Ptp where
  off : Nat
  transport : Nat
  deriving DecidableEq, Repr

/-- The offset of an upper-layer header behind IPv6 extension headers, for at most `fuel` of them: next header, offset. -/
def ipv6Walk : Nat → List Byte → Nat → Nat → Nat × Nat
  | 0, _, nh, o => (nh, o)
  | fuel + 1, fr, nh, o =>
    if nh = 0 ∨ nh = 43 ∨ nh = 60 then ipv6Walk fuel fr (beAt fr o 1) (o + 8 * (beAt fr (o + 1) 1 + 1))
    else if nh = 44 then ipv6Walk fuel fr (beAt fr o 1) (o + 8)
    else (nh, o)

/-- A PTP port: 319 event, 320 general. -/
def ptpUdp (p : Nat) : Bool := p == 319 || p == 320

/-- The PTP message that the transparent clock works on (03, The transparent clock). -/
def ptpOf (fr : List Byte) : Option Ptp :=
  let l := l3off fr
  let v2 (o : Nat) : Bool := beAt fr (o + 1) 1 % 16 == 2
  if etherType fr = 0x88F7 then (if v2 l then some ⟨l, 0⟩ else none)
  else if etherType fr = 0x0800 then
    if beAt fr l 1 = 0x45 ∧ beAt fr (l + 9) 1 = 17 ∧ ptpUdp (beAt fr (l + 22) 2) ∧ v2 (l + 28) then some ⟨l + 28, 1⟩ else none
  else if etherType fr = 0x86DD then
    if beAt fr (l + 6) 1 = 17 ∧ ptpUdp (beAt fr (l + 42) 2) ∧ v2 (l + 48) then some ⟨l + 48, 2⟩ else none
  else none

/-- R109: a PTP message behind IPv4 options or IPv6 extension headers. -/
def ptpSkipped (fr : List Byte) : Bool :=
  let l := l3off fr
  if etherType fr = 0x0800 then
    let ihl := beAt fr l 1 % 16
    decide (5 < ihl) && beAt fr (l + 9) 1 == 17 && ptpUdp (beAt fr (l + 4 * ihl + 2) 2)
  else if etherType fr = 0x86DD then
    let nh := beAt fr (l + 6) 1
    let w := ipv6Walk 8 fr nh (l + 40)
    decide (nh ≠ 17) && w.1 == 17 && ptpUdp (beAt fr (w.2 + 2) 2)
  else false

/-- messageType of a PTP message. -/
def ptpType (fr : List Byte) (m : Ptp) : Nat := beAt fr m.off 1 % 16

/-- It is an event message: Sync, Delay_Req, Pdelay_Req, Pdelay_Resp, and with UDP on port 319. -/
def ptpEvent (fr : List Byte) (m : Ptp) : Bool :=
  decide (ptpType fr m < 4) && (m.transport == 0 || beAt fr (m.off - 6) 2 == 319)

/-- The one's-complement sum of 16-bit words folded into 16 bits. -/
def fold16 (n : Nat) : Nat := let a := n / 65536 + n % 65536; a / 65536 + a % 65536

/-- The 16-bit words of bytes, an odd last byte padded with zero. -/
def words16 : List Byte → List Nat
  | a :: b :: l => (a.toNat * 256 + b.toNat) :: words16 l
  | [a] => [a.toNat * 256]
  | [] => []

/-- The one's-complement sum of bytes. -/
def sum16 (l : List Byte) : Nat := fold16 (words16 l).sum

/-- A 16-bit checksum: the complement of the sum. -/
def csum16 (l : List Byte) : Nat := 65535 - sum16 l

/-- The IPv6 UDP checksum of the frame's UDP datagram at offset `u` (header included, its checksum field taken as zero). -/
def udp6Checksum (fr : List Byte) (u : Nat) : Nat :=
  let len := beAt fr (u + 4) 2
  let dat := patch (slice fr u len) 6 [0, 0]
  let c := csum16 (slice fr (u - 32) 32 ++ beBytes 4 len ++ [0, 0, 0, 17] ++ dat)
  if c = 0 then 65535 else c

/-- R106: correctionField plus `add` scaled ns, and whether it overflowed. -/
def addCorrection (old : Nat) (add : Int) : Nat × Bool :=
  let v := sx 64 old + add
  if v < -(2 ^ 63) ∨ 2 ^ 63 ≤ v then (0x7FFFFFFFFFFFFFFF, true) else (ux 64 v, false)

/-- The frame after `f` has rewritten its PTP part, with the UDP checksum rules of R107 and R108. -/
def fixChecksum (fr fr' : List Byte) (m : Ptp) : List Byte :=
  if m.transport = 1 then patch fr' (m.off - 2) [0, 0]
  else if m.transport = 2 then
    let ulen := beAt fr' (m.off - 4) 2
    let mlen := beAt fr' (m.off + 2) 2
    if mlen + 8 + 2 ≤ ulen then
      let tr := m.off - 8 + ulen - 2
      let before := sum16 (slice fr (m.off - 8) (ulen - 2))
      let after := sum16 (slice fr' (m.off - 8) (ulen - 2))
      let t := fold16 (fold16 (beAt fr tr 2 + before) + (65535 - after))
      patch fr' tr (beBytes 2 t)
    else patch fr' (m.off - 2) (beBytes 2 (udp6Checksum fr' (m.off - 8)))
  else fr'

/-- The frame with `add` scaled ns added to its correctionField (R106 to R108), and whether the sum overflowed. -/
def correct (fr : List Byte) (m : Ptp) (add : Int) : List Byte × Bool :=
  let r := addCorrection (beAt fr (m.off + 8) 8) add
  (fixChecksum fr (patch fr (m.off + 8) (beBytes 8 r.1)) m, r.2)

/-- A latency or adjustment field of a port in scaled ns (2^-16): the field is Q24.8. -/
def adj (s : State) (f : Fld) : Int := s.geti f * 256

/-- Ball-referred ingress stamp: t_in = t_in,meas - (LAT_RX + RX_ADJ) (03, Timestamps). -/
def ingressStamp (s : State) (p : Nat) (meas : Int) : Int :=
  if p < 8 then meas - ((s.get (F.NET_P_LAT_RX p) : Int) * 256 + adj s (F.NET_P_RX_ADJ p)) else meas

/-- Ball-referred egress stamp: t_out = t_out,meas + (LAT_TX + TX_ADJ). -/
def egressStamp (s : State) (p : Nat) (meas : Int) : Int :=
  if p < 8 then meas + ((s.get (F.NET_P_LAT_TX p) : Int) * 256 + adj s (F.NET_P_TX_ADJ p)) else meas

/-- R102: what is added to correctionField, in scaled ns; none where the message is not corrected. -/
def correction (s : State) (mode ty inP outP : Nat) (r : Int) : Option Int :=
  let asymIn := if inP < 8 then adj s (F.NET_P_ASYM inP) else 0
  let asymOut := if outP < 8 then adj s (F.NET_P_ASYM outP) else 0
  let dly := if inP < 8 then adj s (F.NET_P_LINKDLY inP) else 0
  if mode = 1 then
    (if ty = 0 then some (r + asymIn) else if ty = 1 then some (r - asymOut) else if ty < 4 then some r else none)
  else if mode = 2 then (if ty = 0 then some (r + dly + asymIn) else none)
  else none

/-! ### Transmission -/

/-- Time on the wire: a byte takes 0.32 ns at 25G and 0.08 ns at 100G (R99), in 2^-16 ns. (DEDUCED, log entry 43) -/
def wireTime (s : State) (p bytes : Nat) : Nat := if is100 s p then bytes * 524288 / 100 else bytes * 2097152 / 100

/-- The frame as it leaves port `p`: tagged with its VID and PCP, or untagged where the VLAN says so (NET_VLAN_DATA). -/
def egressForm (s : State) (p vid pcp : Nat) (fr : List Byte) : List Byte :=
  let tagged := beAt fr 12 2 = 0x8100
  if bitOf (s.vlan vid).untag p then (if tagged then fr.take 12 ++ fr.drop 16 else fr)
  else if tagged then patch fr 14 (beBytes 2 (pcp * 8192 + beAt fr 14 2 / 4096 % 2 * 4096 + vid))
  else fr.take 12 ++ beBytes 2 0x8100 ++ beBytes 2 (pcp * 8192 + vid) ++ fr.drop 12

/-- A frame leaves port `p` with its first bit at `meas` (2^-16 ns): correction, counters and the end of transmission.
`stomp` ends it with an inverted FCS (R100, R134). -/
def sendFrame (q : QFrame) (meas : Nat) (stomp : Bool) (s : State) : State :=
  let p := q.port
  let tOut := egressStamp s p meas
  let site := (s.tb.sec * 1000000000 + s.tb.ns : Nat)
  let r : List Byte × State :=
    match ptpOf q.data with
    | none => (q.data, s)
    | some m =>
      if !ptpEvent q.data m then (q.data, s)
      else
        let s := if q.fromBench then (s.setSw { s.sw with benchStamps := s.sw.benchStamps ++ [(site + (tOut / 2 ^ 16 - s.resid / 2 ^ 16)).toNat] }) else s
        let d0 := if q.origin then
            let t := (site + (tOut / 2 ^ 16 - s.resid / 2 ^ 16)).toNat
            fixChecksum q.data (patch q.data (m.off + 34) (beBytes 6 (t / 1000000000) ++ beBytes 4 (t % 1000000000))) m
          else q.data
        match correction s q.tc (ptpType d0 m) q.inPort p (tOut - q.tIn) with
        | none => (d0, s)
        | some a =>
          let c := correct d0 m a
          let s := if c.2 then s.inc F.NET_TC_OVF else s
          (c.1, if decide (p < 8) && !s.flag (F.NET_P_STAT_CAL_DONE p) then s.inc (F.NET_P_UNCAL p) else s)
  let s := r.2
  let s := if stomp then s.inc (F.NET_P_STOMP p) else s.inc (F.NET_P_TX_OK p)
  let s := (s.setSw { s.sw with busyUntil := s.sw.busyUntil.set p (meas + wireTime s p (q.data.length + 24)) })
  s.emit (.frame p r.1)

/-- Cells of 256 bytes that a stored frame takes (R101). -/
def cells (q : QFrame) : Nat := ceilDiv (q.data.length + 4) 256

/-- Cells in use for port `p`. -/
def occupancy (s : State) (p : Nat) : Nat := ((s.sw.queue.filter (·.port = p)).map cells).sum

/-- R101: a frame is stored for its port and queue, or counted in DROP_BUF. -/
def storeFrame (q : QFrame) (s : State) : State :=
  let p := q.port
  let max := s.get (F.NET_P_BUF_MAX_CELLS p)
  let lim := if q.queue = 7 then max else max - s.get (F.NET_P_BUF_RSV7 p)
  let all := (s.sw.queue.map cells).sum
  if occupancy s p + cells q ≤ lim ∧ all + cells q ≤ 24576 then (s.setSw { s.sw with queue := s.sw.queue ++ [q] })
  else s.inc (F.NET_P_DROP_BUF p)

/-- Cut-through latency in 2^-16 ns (R98). -/
def cutLatency (s : State) (inP outP : Nat) : Nat :=
  let ns := if is100 s inP then
      (if is100 s outP then 390 else 450 + (if fecOn s outP then 30 else 0))
    else 450 + (if fecOn s inP then 240 else 0) + (if fecOn s outP then 30 else 0)
  ns * 65536

/-- R97, R108: the frame cuts through to port `p`. (DEDUCED, log entry 43) -/
def cutsThrough (s : State) (inP p : Nat) (fh : Bool) (fr : List Byte) : Bool :=
  fh && decide (inP < 8) && s.flag (F.NET_P_CFG_CT_EN inP) && decide (p < 8) && (is100 s inP || !is100 s p)
  && !(s.sw.queue.any (fun q => q.port == p && q.queue == 7)) && decide (s.sw.busyUntil.getD p 0 ≤ s.resid)
  && (match ptpOf fr with
      | some m => !(m.transport == 2 && ptpEvent fr m && decide (beAt fr (m.off - 4) 2 < beAt fr (m.off + 2) 2 + 10))
      | none => true)

/-- One copy of a frame goes to egress port `p` (R97, R100, R113, R124). -/
def egress (inP vid pcp queue : Nat) (fh fcsOk fromBench origin : Bool) (fr : List Byte) (tIn : Int) (meas : Nat) (s : State) (p : Nat) : State :=
  if p = 8 then
    if fcsOk then (s.setSw { s.sw with toBench := s.sw.toBench ++ [(egressForm s 8 vid pcp fr, ((s.tb.sec * 1000000000 + s.tb.ns : Nat) + (tIn / 2 ^ 16 - s.resid / 2 ^ 16)).toNat)] })
    else s
  else if !portUp s p then s.inc (F.NET_P_FLUSH p)
  else
    let q : QFrame := { port := p, queue := queue, inPort := inP, data := egressForm s p vid pcp fr, tIn := tIn,
                        tc := s.get F.NET_TC_CFG_MODE, origin := origin, fromBench := fromBench }
    if cutsThrough s inP p fh q.data then sendFrame q (meas + cutLatency s inP p) (!fcsOk) s
    else if fcsOk then storeFrame q s else s

/-! ### Reception and forwarding -/

/-- 01-80-C2-00-00-00 to -0F (R96). -/
def reservedMac (d : Nat) : Bool := d / 16 == 0x0180C200000
/-- 01-80-C2-00-00-0E. -/
def linkLocalPtp : Nat := 0x0180C200000E

/-- R92: egress ports of a destination in a VLAN, the ingress port removed. -/
def egressSet (s : State) (inP vid dmac : Nat) : List Nat :=
  let v := s.vlan vid
  let set := match (if dmac = 0xFFFFFFFFFFFF then none else macFind s vid dmac) with
    | some e => e.ports
    | none => if v.flood then v.member else 0
  (List.range 9).filter (fun p => bitOf set p && bitOf v.member p && p ≠ inP)

/-- Where a frame goes, the PTP rules R96, R104 and R110 included. -/
def destinations (s : State) (inP vid dmac : Nat) (fr : List Byte) : List Nat :=
  let mode := s.get F.NET_TC_CFG_MODE
  let ptp := ptpOf fr
  let pdelay := match ptp with
    | some m => [2, 3, 0xA].contains (ptpType fr m)
    | none => false
  if mode == 2 && pdelay then [8]
  else if reservedMac dmac then
    if dmac = linkLocalPtp ∧ ptp.isSome ∧ mode ≠ 2 ∧ s.flag F.NET_TC_CFG_LL_FWD then egressSet s inP vid 0x011B19000000
    else [8]
  else egressSet s inP vid dmac

/-- R105: a Pdelay_Req waits for its answer, at most four per port. -/
def queuePdelay (p : Nat) (fr : List Byte) (tIn : Int) (s : State) : State :=
  match ptpOf fr with
  | some m =>
    if s.get F.NET_TC_CFG_MODE = 2 ∧ s.flag F.NET_TC_CFG_PD_RESP_EN ∧ ptpType fr m = 2 ∧ p < 8 then
      if 4 ≤ (s.sw.pdelay.filter (·.1 = p)).length then s.inc (F.NET_P_PD_DROP p)
      else (s.setSw { s.sw with pdelay := s.sw.pdelay ++ [(p, fr, tIn)] })
    else s
  | none => s

/-- Counters of PTP messages that are forwarded without correction (R104, R109), and UNCAL at ingress (R112). -/
def ptpCounters (p : Nat) (fr : List Byte) (s : State) : State :=
  let mode := s.get F.NET_TC_CFG_MODE
  let s := if decide (mode ≠ 0) && ptpSkipped fr then s.inc F.NET_TC_SKIP else s
  match ptpOf fr with
  | some m =>
    let s := if mode = 2 ∧ ptpType fr m = 1 then s.inc F.NET_TC_SKIP else s
    if ptpEvent fr m && (correction s mode (ptpType fr m) p p 0).isSome && decide (p < 8) && !s.flag (F.NET_P_STAT_CAL_DONE p)
    then s.inc (F.NET_P_UNCAL p) else s
  | none => s

/-- The queue of a frame (03, Frame classification; R91). -/
def queueOf (s : State) (inP pcp : Nat) (fh : Bool) : Nat :=
  if fh then 7 else s.get (F.NET_P_QMAP inP) / 2 ^ (3 * pcp) % 8

/-- A frame that has entered at port `p` is classified, looked up, learned from and forwarded (R91 to R97). -/
def forward (p : Nat) (fr : List Byte) (fcsOk fromBench origin : Bool) (meas : Nat) (s : State) : State :=
  let v := vidPcp s p fr
  let ent := s.vlan v.1
  if !(ent.valid && bitOf ent.member p) then s.inc (F.NET_P_DROP_VLAN p)
  else
    let dmac := beAt fr 0 6
    let fh := decide (p < 8) && (bitOf (s.get F.NET_FH_CFG) v.2
      || (match macFind s v.1 dmac with | some e => e.static && e.fh | none => false))
    let tIn := ingressStamp s p meas
    let dst := destinations s p v.1 dmac fr
    let q := queueOf s p v.2 fh
    let stored := dst.any (fun e => e ≠ 8 && portUp s e && !cutsThrough s p e fh fr)
    let s := if !fcsOk && (stored || dst.isEmpty || dst.contains 8) then s.inc (F.NET_P_RX_FCS p) else s
    let s := if fcsOk then ptpCounters p fr s else s
    let s := dst.foldl (egress p v.1 v.2 q fh fcsOk fromBench origin fr tIn meas) s
    let s := if fcsOk then queuePdelay p fr tIn s else s
    let smac := beAt fr 6 6
    let learn := if p < 8 then s.flag (F.NET_P_CFG_LEARN p) else s.flag (F.NET_P89_CFG (p - 8))
    if fcsOk && learn && !bitOf (beAt fr 6 1) 0 then macLearn p v.1 smac s else s

/-- A frame received on external port `p`: length check, tap, forwarding (R92 to R101, R115). `meas` is the measured
ingress stamp in 2^-16 ns. -/
def frameRx (p : Nat) (fr : List Byte) (fcsOk : Bool) (meas : Nat) (s : State) : State :=
  if !portUp s p then s
  else if fr.length + 4 < 64 ∨ 9216 < fr.length + 4 then s.inc (F.NET_P_RX_FCS p)
  else
    let s := if fcsOk then s.inc (F.NET_P_RX_OK p) else s
    forward p fr fcsOk false false meas (tapFrame p fr fcsOk s)

/-- Row FRAME_RX: `fine` is the part of the ingress stamp below a site-counter cycle, in units of 125 ps. -/
def execFrameRx (port : Nat) (frame : List Byte) (fcsOk : Bool) (fine : Nat) (s : State) : Res :=
  .next (if s.netOn && decide (port < 8) then frameRx port frame fcsOk (s.resid + fine * 8192) s else s)

/-- The strict queue that is served next: 7, then strict 6 to 0 (03, Queues). (DEDUCED, log entry 43) -/
def strictNext (s : State) (p : Nat) : Option Nat :=
  [7, 6, 5, 4, 3, 2, 1, 0].find? (fun k => (k == 7 || bitOf (s.get (F.NET_P_SCHED p)) k) && s.sw.queue.any (fun f => f.port == p && f.queue == k))

/-- The weight of queue `k` of port `p`. -/
def weight (s : State) (p k : Nat) : Nat :=
  if k < 4 then bitsOf (s.get (F.NET_P_WEIGHT_LO p)) (8 * k + 7) (8 * k) else bitsOf (s.get (F.NET_P_WEIGHT_HI p)) (8 * (k - 4) + 7) (8 * (k - 4))

/-- Deficit round robin over the weighted queues: the queue to serve, with the deficits and the pointer.
(DEDUCED, log entry 43) -/
def drr : Nat → State → Nat → List Nat → Nat → Option (Nat × List Nat × Nat)
  | 0, _, _, _, _ => none
  | fuel + 1, s, p, def_, ptr =>
    match s.sw.queue.find? (fun f => f.port == p && f.queue == ptr) with
    | some f =>
      let len := f.data.length + 4
      if len ≤ def_.getD ptr 0 then some (ptr, def_.set ptr (def_.getD ptr 0 - len), ptr)
      else
        let nx := (ptr + 1) % 7
        drr fuel s p (def_.set nx (def_.getD nx 0 + weight s p nx * 256)) nx
    | none =>
      let nx := (ptr + 1) % 7
      let d := def_.set ptr 0
      drr fuel s p (d.set nx (d.getD nx 0 + weight s p nx * 256)) nx

/-- The queue the scheduler serves next, with the deficit state after it (03, Queues). (DEDUCED, log entry 43) -/
def schedule (s : State) (p : Nat) : Option (Nat × List Nat × Nat) :=
  match strictNext s p with
  | some k => some (k, s.sw.deficit.getD p [], s.sw.pointer.getD p 0)
  | none =>
    if s.sw.queue.any (fun f => f.port == p) then drr 512 s p (s.sw.deficit.getD p []) (s.sw.pointer.getD p 0) else none

/-- The transmitter of port `p` starts its next stored frame, once the frame on the wire has ended (R99).
(DEDUCED, log entry 43) -/
def frameTx (p : Nat) (fine : Nat) (s : State) : State :=
  if !portUp s p then s
  else match schedule s p with
  | none => s
  | some (k, d, ptr) =>
    match s.sw.queue.find? (fun f => f.port == p && f.queue == k) with
    | none => s
    | some f =>
      let s := (s.setSw { s.sw with queue := s.sw.queue.erase f, deficit := s.sw.deficit.set p d, pointer := s.sw.pointer.set p ptr })
      sendFrame f (max (s.resid) (s.sw.busyUntil.getD p 0) + fine * 8192) f.poison s

/-- Row FRAME_TX (R99). -/
def execFrameTx (port fine : Nat) (s : State) : Res := .next (if s.netOn && decide (port < 8) then frameTx port fine s else s)

/-- The Pdelay_Resp to a request (R105): the request's transport and destination, the clock's identity as source. -/
def pdelayResp (s : State) (p : Nat) (fr : List Byte) (m : Ptp) (turn : Int) : List Byte :=
  let id := beBytes 4 (s.get F.NET_TC_ID_HI) ++ beBytes 4 (s.get F.NET_TC_ID_LO)
  let h := slice fr m.off 34
  let c := (addCorrection (beAt fr (m.off + 8) 8) turn).1
  let body := [BitVec.ofNat 8 (beAt h 0 1 / 16 * 16 + 3)] ++ slice h 1 1 ++ beBytes 2 54 ++ slice h 4 2 ++ [0, 0] ++ beBytes 8 c
    ++ [0, 0, 0, 0] ++ id ++ beBytes 2 (p + 1) ++ slice h 30 2 ++ [5, 0x7F] ++ List.replicate 10 0 ++ slice h 20 10
  let out := fr.take 6 ++ (id.take 3 ++ id.drop 5) ++ (slice fr 12 (m.off - 12)) ++ body
  let out := out ++ fr.drop (m.off + 54)
  fixChecksum (patch fr 0 out) out m

/-- Row PDELAY_RESP_SEND (R105, R133): the oldest waiting request of the port is answered. -/
def pdelaySend (p fine : Nat) (s : State) : State :=
  match s.sw.pdelay.find? (·.1 = p) with
  | none => s
  | some (p', fr, tIn) =>
    let s := (s.setSw { s.sw with pdelay := s.sw.pdelay.erase (p', fr, tIn) })
    if !portUp s p then s
    else match ptpOf fr with
    | none => s
    | some m =>
      let meas := max s.resid (s.sw.busyUntil.getD p 0) + fine * 8192
      let out := pdelayResp s p fr m (egressStamp s p meas - tIn)
      let s := s.inc (F.NET_P_TX_OK p)
      let s := (s.setSw { s.sw with busyUntil := s.sw.busyUntil.set p (meas + wireTime s p (out.length + 24)) })
      s.emit (.frame p out)

/-- Row PDELAY_RESP_SEND. -/
def execPdelayRespSend (port fine : Nat) (s : State) : Res :=
  .next (if s.netOn && decide (port < 8) then pdelaySend port fine s else s)

/-- Row BENCH_PTP_SEND (R113, R114): Bench sends a frame through port 8. -/
def execBenchPtpSend (frame : List Byte) (origin : Bool) (s : State) : Res :=
  .next (if s.netOn then forward 8 frame true true origin s.resid (s.inc (F.NET_P_RX_OK 8)) else s)

/-! ### Result frames -/

/-- The bytes of result template `t`. -/
def template (s : State) (t : Nat) : List Byte := (List.range 32).flatMap (fun i => leBytes 4 (s.get (F.NET_TMPL t i)))

/-- The result frame of template `t` and a payload (R120): total length, identification, checksums and UDP length. -/
def resultFrame (tm : List Byte) (id : Nat) (pay : List Byte) : List Byte :=
  let hl := leAt tm 0 4 % 256
  let h := slice tm 4 hl
  let l := hl - 28
  let h := patch h (l + 2) (beBytes 2 (28 + pay.length))
  let h := patch h (l + 4) (beBytes 2 id)
  let h := patch h (l + 10) [0, 0]
  let h := patch h (l + 10) (beBytes 2 (csum16 (slice h l 20)))
  let h := patch h (l + 24) (beBytes 2 (8 + pay.length))
  let h := patch h (l + 26) [0, 0]
  let c := csum16 (slice h (l + 12) 8 ++ [0, 17] ++ beBytes 2 (8 + pay.length) ++ h.drop (l + 20) ++ pay)
  let h := if bitOf (leAt tm 0 4) 8 then patch h (l + 26) (beBytes 2 (if c = 0 then 65535 else c)) else h
  let f := h ++ pay
  f ++ List.replicate (60 - f.length) 0

/-- R121: the template can be used. -/
def templateOk (tm : List Byte) : Bool :=
  let hl := leAt tm 0 4 % 256
  let h := tm.drop 4
  (hl == 42 || hl == 46) && beAt h (hl - 30) 2 == 0x0800 && beAt h (hl - 28) 1 == 0x45 && beAt h (hl - 19) 1 == 17

/-- A result send (R120 to R123): it enters the port 9 buffer, or is counted in DROP or BAD. -/
def resultSend (t : Nat) (pay : List Byte) (s : State) : State :=
  let tm := template s t
  if !s.netOn then s
  else if !s.flag F.NET_RF_CTL then s.inc F.NET_RF_DROP
  else if 1472 < pay.length || !templateOk tm then s.inc F.NET_RF_BAD
  else
    let id := sparseGet (fun _ => 0) s.sw.ident t
    let f := resultFrame tm id pay
    if (s.sw.results.map List.length).sum + f.length ≤ 65536 then
      (s.setSw { s.sw with results := s.sw.results ++ [f], ident := sparsePut (fun _ => 0) s.sw.ident t ((id + 1) % 65536) })
    else s.inc F.NET_RF_DROP

/-- Row PORT9_FRAME_INGRESS (R120): the oldest waiting result frame enters the switch. -/
def execPort9FrameIngress (s : State) : Res :=
  .next (if s.netOn then
    match s.sw.results with
    | [] => s
    | f :: l => forward 9 f true false false s.resid
        (((s.setSw { s.sw with results := l }).inc F.NET_RF_SENT).inc (F.NET_P_RX_OK 9))
  else s)

end Sys2Proof.Machine
end

