-- ==== Sys2Proof/Machine/Cim.lean ====
section
/-!
DEFINITION. Sys2Proof/Machine/Cim.lean: banks, conversions, calibration windows, CIMX and BANKSW (10 R407 to R409, R420; 12;
13 R512 to R531).
-/

namespace Sys2Proof.Machine

/-! ### Access -/

/-- Array `a` of tile `n`. -/
def State.arr (s : State) (n a : Nat) : CimArray := (s.tile n).cim.arrays.getD a {}

/-- Replace the CIM state of tile `n`. -/
def State.setCim (s : State) (n : Nat) (c : Cim) : State := s.setTile n { s.tile n with cim := c }

/-- Replace array `a` of tile `n`. -/
def State.setArr (s : State) (n a : Nat) (x : CimArray) : State :=
  let c := (s.tile n).cim
  s.setCim n { c with arrays := c.arrays.set a x }

/-- Bank A or B. -/
def CimArray.bank (x : CimArray) (isB : Bool) : Bank := if isB then x.b else x.a

/-- Replace bank A or B. -/
def CimArray.setBank (x : CimArray) (isB : Bool) (k : Bank) : CimArray := if isB then { x with b := k } else { x with a := k }

/-- The compute bank. -/
def CimArray.cbank (x : CimArray) : Bank := x.bank x.cb

/-! ### Cells and column sums (R476, R480, R505) -/

/-- A free slice, −15 to +15. (DEDUCED, log entry 3) -/
def freeSlice (k : Nat) : Int := (Config.freeNat k % 31 : Nat) - 15

/-- Signed slice of pair `p` in row `r`. -/
def Bank.slice (k : Bank) (r p : Nat) : Int :=
  match k.unspec.find? (fun u => u.1 == r), k.unspecPairs.find? (fun u => u.1 == p) with
  | some u, _ => freeSlice (u.2 + p)
  | none, some u => freeSlice (u.2 + r)
  | none, none => sparseGet (fun _ => 0) k.cells (r * 268 + p)

/-- The pair whose converter serves data pair `p`: an ACTIVE spare, or itself (R538). -/
def Bank.via (k : Bank) (p : Nat) : Nat :=
  let i := k.subst.findIdx (fun e => e.1 == p && e.2 == 2)
  if i < 8 then 256 + i else p

/-- D_p over active rows. -/
def Bank.sum (k : Bank) (rows : List Nat) (p : Nat) : Int := (rows.map (fun r => k.slice r p)).sum

/-- Slice P_r of the maker pattern (R512). -/
def makerSlice (r : Nat) : Int := (Config.makerPattern r % 31 : Nat) - 15

/-! ### The converter (R481, R482, R514) -/

/-- The residual ε_p of one conversion, in units of 2^-16 weight: a free value (DEDUCED, log entry 28). -/
def residual (k : Nat) : Int :=
  let x := Config.freeNat k
  if x % 2 = 0 then (x / 2 : Nat) else -((x / 2 : Nat) + 1 : Int)

/-- The band of an active-row count. -/
def bandOf (n : Nat) : Nat := if n ≤ 4 then 0 else if n ≤ 8 then 1 else if n ≤ 16 then 2 else if n ≤ 32 then 3 else if n ≤ 64 then 4 else 5

/-- S of a resolution: Δ = 2^(b + S). -/
def stepOf (res : Nat) : Nat := [0, 0, 0, 5, 4, 2, 1, 0].getD res 0

/-- Q of a resolution. -/
def maxCode (res : Nat) : Int := 2 ^ (res - 1) - 1

/-- RESb of tile `n`. -/
def resOf (s : State) (n b : Nat) : Nat := bitsOf (s.get (F.CIM_CFG_RES n)) (3 * b + 2) (3 * b)

/-- The code before the clamp: (D + ε) / Δ rounded half away from zero. -/
def rawCode (d eps : Int) (delta : Nat) : Int := roundDiv (d * 2 ^ 16 + eps) (delta * 2 ^ 16)

/-- A code. -/
def codeOf (q : Int) (d eps : Int) (delta : Nat) : Int := clampI (-q) q (rawCode d eps delta)

/-- Residual r_t of a touchstone pair in units of 2^-2 weight; its step is 2^b of them. (DEDUCED, log entry 28) -/
def touchResidual (b : Nat) (e eps : Int) : Int :=
  let q := clampI (-255) 255 (roundDiv (e * 2 ^ 16 + eps) (2 ^ b * 2 ^ 14))
  q * 2 ^ b - 4 * e

/-- One conversion of an array: codes of the 264 data and spare pairs, and the residuals of the touchstone pairs; `k` is the
first index of its free values. -/
structure Conv where
  n : Nat
  band : Nat
  q : Int
  delta : Nat
  codes : List Int
  clipped : Nat
  /-- r264, r265, r266, r267. -/
  touch : List Int

/-- Convert active rows in a bank at resolution `res`; `e267` is the expectation of pair 267. (DEDUCED, log entry 28) -/
def convert (k : Nat) (bk : Bank) (rows : List Nat) (res : Nat → Nat) (e267 : Int) : Conv :=
  let n := rows.length
  let b := bandOf n
  let r := res b
  let delta := 2 ^ (b + stepOf r)
  let q := maxCode r
  let raw := (List.range 264).map (fun p => rawCode (bk.sum rows p) (residual (k + p)) delta)
  let codes := raw.map (clampI (-q) q)
  { n := n, band := b, q := q, delta := delta, codes := codes,
    clipped := ((raw.zip codes).filter (fun x => x.1 ≠ x.2)).length,
    touch := [touchResidual b (15 * n) (residual (k + 264)), touchResidual b (-(15 * n)) (residual (k + 265)),
              touchResidual b 0 (residual (k + 266)), touchResidual b e267 (residual (k + 267))] }

/-- Free values that one conversion uses. (DEDUCED, log entry 28) -/
def convFree : Nat := 268

/-! ### Calibration windows (R515, R516, R518, R549) -/

/-- A register shows the estimates rounded. (PRESUMED, log entry 8; DEDUCED, log entry 63) -/
def showEst (n a : Nat) (s : State) : State :=
  let x := s.arr n a
  let s := s.seti (F.CIM_TS_GAIN_EST n a) (roundDiv x.gamma (2 ^ 24))
  s.seti (F.CIM_TS_OFFS_EST n a) (roundDiv x.beta (2 ^ 24))

/-- The window is discarded (R515, R516). -/
def windowDiscard (n a : Nat) (s : State) : State :=
  let x := s.arr n a
  let s := s.inc (F.CIM_TS_WIN_DISC n a)
  let s := s.setArr n a { x with win := {}, goodRun := 0, badRun := if x.badRun = 3 then 0 else x.badRun + 1 }
  if x.badRun = 3 then ((s.raise (F.CIM_TS_CTL_TS_FAULT n a)).clear (F.CIM_TS_CTL_CONVERGED n a)).bench .tsFault (n * 4 + a) else s

/-- A full window closes: the estimates move, or stay. -/
def windowClose (n a : Nat) (s : State) : State :=
  let x := s.arr n a
  let w := x.win
  let nwin : Int := w.n
  let sum30 : Int := 30 * w.sumN
  if bitsOf w.lim 15 0 * sum30 < w.gain.natAbs * 2 ^ 14 ∨ bitsOf w.lim 23 16 * nwin < 4 * w.offs.natAbs
      ∨ bitsOf w.lim 31 24 * nwin < 4 * w.lin then windowDiscard n a s
  else
    let gw := roundDiv (w.gain * 2 ^ 46) (30 * w.sumN)
    let bw := roundDiv (w.offs * 2 ^ 34) w.n
    let lw := roundDiv (w.lin * 2 ^ 6) w.n
    let ks := bitsOf w.par 7 5
    let near := decide ((gw - x.gamma).natAbs ≤ bitsOf w.tol 15 0 * 2 ^ 32) && decide ((bw - x.beta).natAbs ≤ bitsOf w.tol 31 16 * 2 ^ 24)
    let good := if near then x.goodRun + 1 else 0
    let bk := { x.cbank with stamp := s.tb.sec }
    let y := { x with gamma := x.gamma + roundDiv (gw - x.gamma) (2 ^ ks), beta := x.beta + roundDiv (bw - x.beta) (2 ^ ks),
                      win := {}, goodRun := good, badRun := 0 }
    let s := s.setArr n a (y.setBank x.cb bk)
    let s := (s.set (F.CIM_TS_LIN_EST n a) (satU 16 lw)).inc (F.CIM_TS_WIN n a)
    let s := showEst n a s
    if bitsOf w.par 11 8 ≤ good then s.raise (F.CIM_TS_CTL_CONVERGED n a) else s

/-- Conversions of the window in progress. -/
def windowSize (w : Window) : Nat := 2 ^ bitsOf w.par 4 0

/-- The window in progress is full. -/
def windowFull (w : Window) : Bool := decide (0 < w.n) && decide (windowSize w ≤ w.n)

/-- A conversion enters the window; a window that stands full has closed before. (DEDUCED, log entry 63) -/
def windowAdd (n a : Nat) (c : Conv) (s : State) : State :=
  let s := if windowFull (s.arr n a).win then windowClose n a s else s
  let x := s.arr n a
  let w := if x.win.n = 0 then
      { x.win with par := (s.reg (F.CIM_CAL_PAR_KS n).off).toNat, lim := (s.reg (F.CIM_CAL_LIM_GMAX n).off).toNat,
                   tol := (s.reg (F.CIM_CAL_TOL_GTOL n).off).toNat }
    else x.win
  let r := fun i => c.touch.getD i 0
  s.setArr n a { x with win := { w with n := w.n + 1, sumN := w.sumN + c.n, gain := w.gain + (r 0 - r 1), offs := w.offs + r 2,
                                        lin := w.lin + (r 3).natAbs } }

/-- Row CAL_WINDOW_CLOSE: the window of NWIN conversions closes. -/
def execCalWindowClose (tile array : Nat) (s : State) : Res :=
  .next (if s.tileOn tile && decide (array < 4) && windowFull (s.arr tile array).win then windowClose tile array s else s)

/-! ### Assay statistics (R527, R531) -/

/-- A field of an assay register in force (R549). -/
def assayGet (s : State) (n : Nat) (f : Fld) : Nat := bitsOf (sparseGet regReset (s.tile n).cim.assay f.off).toNat f.hi f.lo

/-- The assay monitor of tile `n` runs. -/
def assayOn (s : State) (n : Nat) : Bool := assayGet s n (F.ASSAY_CFG_EN n) == 1

/-- Bin of a code (R527). -/
def binOf (q : Int) (code : Int) : Nat := ((code + q) * 16 / (2 * q + 1)).toNat

/-- A data pair's run of equal codes: last code, length, and whether it has a conversion in band 3 or above (R531). -/
def runOf (l : List (Nat × Int × Nat × Bool)) (p : Nat) (code : Int) (band : Nat) : Int × Nat × Bool :=
  match l.find? (fun e => e.1 == p) with
  | some (_, c, k, hi) => if c = code then (c, k + 1, hi || decide (3 ≤ band)) else (code, 1, decide (3 ≤ band))
  | none => (code, 1, decide (3 ≤ band))

/-- The code of named data pair `p` is seen by the assay monitor. -/
def assayPair (n a : Nat) (c : Conv) (s : State) (p : Nat) : State :=
  let x := s.arr n a
  let code := c.codes.getD (x.cbank.via p) 0
  let h := binOf c.q code
  let exempt := bitOf (assayGet s n (F.ASSAY_STUCK_EXEMPT n a (p / 32))) (p % 32)
  let r := runOf x.stuck p code c.band
  let y := { x with hist := x.hist.set h (x.hist.getD h 0 + 1), stuck := (p, r) :: x.stuck.filter (fun e => e.1 ≠ p) }
  let s := s.setArr n a y
  let f := F.ASSAY_STUCK n a (p / 32)
  if !exempt && decide (assayGet s n (F.ASSAY_CFG_STUCK_N n) ≤ r.2.1) && r.2.2 && !bitOf (s.get f) (p % 32) then
    (s.set f (s.get f ||| 2 ^ (p % 32))).bench .stuckPair (n * 4 + a)
  else s

/-- A CIMX conversion with n ≥ 1 is counted (R482, R524, R527 to R531). -/
def convCount (n a : Nat) (c : Conv) (named : List Nat) (s : State) : State :=
  let s := (s.inc (F.CIM_A_CONV n a)).incBy (F.CIM_A_CLIP n a) c.clipped
  let x := s.arr n a
  let s := s.setArr n a { x with convSec := x.convSec + 1, clips := x.clips + c.clipped, codes := x.codes + c.codes.length }
  if assayOn s n then named.foldl (assayPair n a c) s else s

/-! ### CIMX (R407 to R409, R478 to R485) -/

/-- A CIMX descriptor (R407). -/
structure CDesc where
  inp : Nat
  nrows : Nat
  row0 : Nat
  amask : Nat
  bits : Nat
  sgn : Bool
  w8 : Bool
  acc : Bool
  col0 : Nat
  ncol : Nat
  zero : Nat
  deriving DecidableEq, Repr

/-- The 16 bytes at `ad` as a descriptor. -/
def cdesc (t : Tile) (ad : Nat) : CDesc :=
  let w := fun i => t.nat (ad + 4 * i) 4
  { inp := bitsOf (w 0) 15 0, nrows := bitsOf (w 0) 25 16, row0 := bitsOf (w 1) 8 0, amask := bitsOf (w 1) 19 16, bits := bitsOf (w 1) 27 24,
    sgn := bitOf (w 1) 28, w8 := bitOf (w 1) 29, acc := bitOf (w 1) 30, col0 := bitsOf (w 2) 7 0, ncol := bitsOf (w 2) 16 8, zero := w 3 }

/-- A field of the descriptor is outside its range. -/
def CDesc.bad (d : CDesc) : Bool :=
  decide (0xC000 < d.inp + d.nrows) || d.nrows == 0 || decide (512 < d.nrows) || decide (512 < d.row0 + d.nrows) || d.amask == 0
  || d.bits == 0 || decide (8 < d.bits) || decide (256 < d.col0 + (if d.w8 then 2 * d.ncol else d.ncol)) || d.zero ≠ 0

/-- The arrays it uses. -/
def CDesc.arrays (d : CDesc) : List Nat := (List.range 4).filter (fun a => bitOf d.amask a)

/-- Rows with a non-zero input byte, and the byte, in row order. -/
def CDesc.live (d : CDesc) (t : Tile) : List (Nat × Nat) :=
  ((List.range d.nrows).map (fun i => (d.row0 + i, t.nat (d.inp + i) 1))).filter (fun x => x.2 ≠ 0)

/-- NG. -/
def CDesc.groups (d : CDesc) (t : Tile) : Nat := max 1 (ceilDiv (d.live t).length 128)

/-- Bit-plane of group `g`. -/
def CDesc.plane (d : CDesc) (g : Nat) : Nat := d.bits - 1 - g % d.bits

/-- Active rows of group `g` (R479). -/
def CDesc.active (d : CDesc) (t : Tile) (g : Nat) : List Nat :=
  ((slice (d.live t) (128 * (g / d.bits)) 128).filter (fun x => bitOf x.2 (d.plane g))).map (·.1)

/-- s_b × 2^b (R478). -/
def CDesc.weight (d : CDesc) (b : Nat) : Int := if d.sgn ∧ b + 1 = d.bits then -(2 ^ b) else 2 ^ b

/-- Data pairs that it names. -/
def CDesc.pairs (d : CDesc) : List Nat := (List.range (if d.w8 then 2 * d.ncol else d.ncol)).map (· + d.col0)

/-- Accumulator set of array `a` (R483). -/
def accSet (s : State) (n a : Nat) : Nat := bitsOf (s.get (F.CIM_CFG_ACCMAP n)) (2 * a + 1) (2 * a)

/-- Accumulator `k` of tile `n` takes `v`, saturating (R484). -/
def accAdd (n : Nat) (s : State) (k : Nat) (v : Int) : State :=
  let c := (s.tile n).cim
  let x := (c.accOf k).toInt + v
  let s := s.setCim n { c with acc := sparsePut (fun _ => 0) c.acc k (BitVec.ofInt 32 (satS 32 x)) }
  if satS 32 x = x then s else s.raise (F.CIM_STAT_ACC_SAT n)

/-- Clear accumulators: the named columns of the sets in use, and their parity errors (R408, R508). -/
def accClear (n : Nat) (keys : List Nat) (s : State) : State :=
  let c := (s.tile n).cim
  s.setCim n { c with acc := keys.foldl (fun m k => sparsePut (fun _ => 0) m k 0) c.acc, badAcc := c.badAcc.filter (fun k => !keys.contains k) }

/-- The contribution of a conversion to weight `j` of the CIMX (R483). -/
def contribution (d : CDesc) (bk : Bank) (c : Conv) (b j : Nat) : Int :=
  let val := fun p => c.codes.getD (bk.via p) 0 * c.delta
  d.weight b * (if d.w8 then 16 * val (d.col0 + 2 * j + 1) + val (d.col0 + 2 * j) else val (d.col0 + j))

/-- One conversion of array `a` in a group, with at least one active row. -/
def convArray (n : Nat) (d : CDesc) (b : Nat) (rows : List Nat) (s : State) (a : Nat) : State :=
  let bk := (s.arr n a).cbank
  let c := convert s.freeCtr bk rows (resOf s n) ((rows.map makerSlice).sum)
  let s := (s.setFreeCtr (s.freeCtr + convFree))
  let set := accSet s n a
  let s := (List.range d.ncol).foldl (fun s j => accAdd n s (set * 256 + (d.col0 + j) % 256) (contribution d bk c b j)) s
  windowAdd n a c (convCount n a c d.pairs s)

/-- AVIEW of the sets in use takes COL0[7] (R485). -/
def setAview (n : Nat) (d : CDesc) (s : State) : State :=
  d.arrays.foldl (fun s a =>
    let set := accSet s n a
    s.set (F.CIM_STAT_AVIEW n) (putBits (s.get (F.CIM_STAT_AVIEW n)) set set (d.col0 / 128))) s

/-- Element group `g` of a CIMX. -/
def cimGroup (n : Nat) (d : CDesc) (g : Nat) (s : State) : Grp :=
  let s := setAview n d s
  let keys := (d.arrays.map (fun a => accSet s n a)).flatMap (fun set => (List.range d.ncol).map (fun j => set * 256 + (d.col0 + j) % 256))
  let s := if g = 0 ∧ !d.acc then accClear n keys s else s
  let rows := d.active (s.tile n) g
  .ok (if rows.isEmpty then s else d.arrays.foldl (convArray n d (d.plane g) rows) s)

/-- A burst conversion runs on some array: the CIMX waits for its end, and is counted (R526). -/
def collide (n : Nat) (s : State) : State :=
  (List.range 4).foldl (fun s a => if s.flag (F.CIM_TS_CTL_BURST n a) then s.inc (F.CIM_TS_CAL_COLL n a) else s) s

/-- The first poisoned input byte. -/
def inputBad (t : Tile) (d : CDesc) : Option Word :=
  ((List.range d.nrows).find? (fun i => t.bad (d.inp + i) 1)).map (fun i => BitVec.ofNat 32 (d.inp + i))

/-- Row CIMX. -/
def execCimx (tile : Nat) (gd : Guard) (a groups : Nat) (s : State) : Res :=
  routine tile gd [a] [] 0x3A none (fun s =>
    let t := s.tile tile
    let ad := ((s.seq tile).rd a).toNat
    match descAddr ((s.seq tile).rd a) 16 with
    | some e => .error e
    | none =>
      match blockBad t ad 16 with
      | some e => .error (6, e)
      | none =>
        let d := cdesc t ad
        if d.bad || d.arrays.any (fun i => (s.arr tile i).cbank.state ≠ .valid) then .error (7, (s.seq tile).rd a)
        else match inputBad t d with
        | some e => .error (6, e)
        | none => .ok { opc := 0x3A, operand := (s.seq tile).rd a, count := d.groups t * d.bits,
                        group := fun g s => cimGroup tile d g (if g = 0 then collide tile s else s) }) groups s

/-! ### BANKSW (R420, R490 to R492, R521) -/

/-- The bank may become the compute bank of array `a`, or is it already (R491). -/
def mayCompute (s : State) (n : Nat) (isB : Bool) (a : Nat) : Bool :=
  let x := s.arr n a
  x.cb == isB || decide ((x.bank isB).state = .valid)

/-- Array `a` switches to the named bank: calibration state is saved and loaded; the window is discarded (R521, R544). -/
def switchBank (n : Nat) (isB : Bool) (s : State) (a : Nat) : State :=
  let x := s.arr n a
  if x.cb = isB then s
  else
    let out := { x.cbank with gamma := x.gamma, beta := x.beta, conv := s.flag (F.CIM_TS_CTL_CONVERGED n a) }
    let inc := x.bank isB
    let fresh := inc.conv && decide (s.tb.sec ≤ inc.stamp + s.get (F.CIM_CAL_PAR_CAL_AGE n))
    let y := { x.setBank x.cb out with cb := isB, gamma := inc.gamma, beta := inc.beta, win := {}, goodRun := 0, badRun := 0 }
    showEst n a ((s.setArr n a y).set (F.CIM_TS_CTL_CONVERGED n a) (b2n fresh))

/-- Row BANKSW: AMASK 0 is an undefined encoding. -/
def execBanksw (tile : Nat) (gd : Guard) (pd : Nat) (bankB : Bool) (amask : BitVec 4) (s : State) : Res :=
  let illegal := if amask = 0 then some (wordOf gd 0x32 (pd % 8 * 2 ^ 17 + b2n bankB * 16)) else none
  .next (instr tile gd [] [pCode pd] illegal id (fun s =>
    let arrays := (List.range 4).filter (fun a => bitOf amask.toNat a)
    let ok := arrays.all (mayCompute s tile bankB)
    let s := if ok then arrays.foldl (switchBank tile bankB) s else s
    .done (s.setSeq tile ((s.seq tile).wrP pd ok))) s)

/-! ### Reset and Quench (R507, R510, R550, R553) -/

/-- A row in program stops where it stands: its levels are unspecified and its bank is INVALID (R505, R507). -/
def stopRow (n a : Nat) (s : State) : State :=
  let x := s.arr n a
  match x.busy with
  | none => s
  | some j =>
    let bk := x.bank (!x.cb)
    let bk := { bk with state := .invalid, unspec := (j.row, s.freeCtr) :: bk.unspec.filter (fun u => u.1 ≠ j.row) }
    let s := (s.setFreeCtr (s.freeCtr + 268))
    (s.setArr n a { (x.setBank (!x.cb) bk) with busy := none, session := false }).clear (F.CIM_A_PGM_BUSY n a)

/-- The row that waits for a slot is discarded. -/
def dropQueued (n a : Nat) (s : State) : State :=
  let s := (s.setCimq (s.cimq.filter (fun k => !(k.1 == n && k.2 == a))))
  (s.setArr n a { s.arr n a with queued := none }).clear (F.CIM_A_PGM_QUEUED n a)

/-- A session in progress ends: its bank moves to INVALID (R505). -/
def endSession (n a : Nat) (s : State) : State :=
  let s := dropQueued n a (stopRow n a s)
  let x := s.arr n a
  let bk := x.bank (!x.cb)
  if x.session then s.setArr n a { (x.setBank (!x.cb) { bk with state := .invalid }) with session := false } else s

/-- A spare program in progress stops: its entry returns to FREE, its pair's levels are unspecified (R550, R553). -/
def stopSpare (n a : Nat) (s : State) : State :=
  let x := s.arr n a
  match x.spare with
  | none => s
  | some (isB, sp, _) =>
    let bk := x.bank isB
    let bk := { bk with subst := bk.subst.set sp ((bk.subst.getD sp (0, 0)).1, 0),
                        unspecPairs := (256 + sp, s.freeCtr) :: bk.unspecPairs.filter (fun u => u.1 ≠ 256 + sp) }
    let s := (s.setFreeCtr (s.freeCtr + 512))
    (s.setArr n a { (x.setBank isB bk) with spare := none }).clear (F.CIM_TS_SP_CTL_BUSY n a)

/-- R507, R550: Quench stops row programs, bursts, scans and spare programs; open windows are discarded. -/
def cimQuench (n : Nat) (s : State) : State :=
  (List.range 4).foldl (fun s a =>
    let s := stopSpare n a (dropQueued n a (stopRow n a s))
    let s := s.setArr n a { s.arr n a with win := {}, burst := 0, scan := none }
    (s.clear (F.CIM_TS_CTL_BURST n a)).clear (F.CIM_TS_MSCAN_BUSY n a)) s

/-- The registers of a tile's CIM block, calibration and assay (R510, R553): coefficients are kept, as Touchmark loads them. -/
def cimReg (n : Nat) (k : Nat) : Bool :=
  let b := 0x2000000 + n * 0x10000
  decide (b + 0x2000 ≤ k) && decide (k < b + 0x5000)

/-- A tile's sequencer is reset (R510, R553): banks by their seals, bank A computes, accumulators zero, calibration and assay
states at reset. -/
def cimReset (n : Nat) (s : State) : State :=
  let s := (List.range 4).foldl (fun s a =>
    let s := stopSpare n a (endSession n a s)
    let x := s.arr n a
    let bySeal := fun (b : Bank) =>
      { b with state := if b.tag.isSome then .valid else .invalid, gamma := 0, beta := 0, conv := false, stamp := 0 }
    s.setArr n a { a := bySeal x.a, b := bySeal x.b }) s
  let c := (s.tile n).cim
  (s.setCim n { arrays := c.arrays }).dropRegs (cimReg n)

end Sys2Proof.Machine
end

