-- ==== Sys2Proof/Machine/TileCtl.lean ====
section
/-!
DEFINITION. Sys2Proof/Machine/TileCtl.lean: control of a tile by Bench: GO, STOP, RESET, SOFTIRQ, DRAIN, the vector windows, reset and Quench
of a whole tile (09 R366 to R372; 11 R472; 12 R510; 14 R578, R581).
-/

namespace Sys2Proof.Machine

/-! ### Reset (R369, R472, R510, R553, R581) -/

/-- The sequencer's state at reset; EPOCH counts on (R319). -/
def seqReset (n : Nat) (s : State) : State :=
  let s := s.setSeq n { epoch := (s.seq n).epoch }
  (s.clear (F.TILE_SEQ_STAT_STATE n)).clear (F.TILE_SEQ_STAT_HALT_REASON n)

/-- The registers of the neuron engine and of the vector engine of tile `n`; the dynamics memory and decay tables are
memories and stay. -/
def engineReg (n : Nat) (k : Nat) : Bool :=
  let b := 0x2000000 + n * 0x10000
  (decide (b + 0x100 ≤ k) && decide (k < b + 0x800)) || (decide (b + 0x9000 ≤ k) && decide (k < b + 0x9010))

/-- The neuron engine at reset: queues empty, outputs discarded (R472). -/
def neReset (n : Nat) (s : State) : State := s.setNe n { badWords := (s.ne n).badWords }

/-- A tile's sequencer is reset. (DEDUCED, log entry 57) -/
def tileReset (n : Nat) (s : State) : State := cimReset n ((neReset n (seqReset n s)).dropRegs (engineReg n))

/-! ### GO, STOP, RESET -/

/-- The tile runs from its start address (R370). -/
def startTile (n : Nat) (s : State) : State :=
  let q := s.seq n
  (s.setSeq n { q with pc := s.get (F.TILE_SEQ_BOOT n) * 4, delay := none }).set (F.TILE_SEQ_STAT_STATE n) 1

/-- GO with START as given: discarded unless HALTED; after Quench only a reset lets the tile run (R368, R370).
(DEDUCED, log entry 54) -/
def tileGo (n : Nat) (atBoundary : Bool) (s : State) : State :=
  let s := s.set (F.TILE_SEQ_CTL_START n) (b2n atBoundary)
  if !tileHalted s n ∨ s.get (F.TILE_SEQ_STAT_HALT_REASON n) = 5 then s
  else if atBoundary then s.set (F.TILE_SEQ_STAT_STATE n) 3
  else startTile n s

/-- Row TILE_GO. -/
def execTileGo (agent : Agent) (tile : Nat) (atBoundary : Bool) (s : State) : Res :=
  .next (s.guardTile tile agent (F.TILE_SEQ_CTL_GO tile).off (tileGo tile atBoundary))

/-- STOP: the sequencer halts at the boundary at which it stands (R371). (DEDUCED, log entry 54) -/
def tileStop (n : Nat) (s : State) : State :=
  if s.get (F.TILE_SEQ_STAT_STATE n) = 0 then s else tileHaltNotify n 3 s

/-- Row TILE_STOP. -/
def execTileStop (agent : Agent) (tile : Nat) (s : State) : Res :=
  .next (s.guardTile tile agent (F.TILE_SEQ_CTL_STOP tile).off (tileStop tile))

/-- RESET: refused while the tile is not HALTED. (DEDUCED, log entry 57) -/
def tileResetWrite (n : Nat) (s : State) : State :=
  if tileHalted s n then tileReset n s else s.raise (F.TILE_SEQ_CTL_REFUSED n)

/-- Row TILE_RESET. -/
def execTileReset (agent : Agent) (tile : Nat) (s : State) : Res :=
  .next (s.guardTile tile agent (F.TILE_SEQ_CTL_RESET tile).off (tileResetWrite tile))

/-- Row SOFTIRQ: IPEND.SOFT is set. -/
def execSoftirq (agent : Agent) (tile : Nat) (s : State) : Res :=
  .next (s.guardTile tile agent (F.TILE_SEQ_CTL_SOFTIRQ tile).off (fun s =>
    s.setSeq tile { s.seq tile with ipSoft := true }))

/-- Row DRAIN: the field drives IPEND.DRAIN. -/
def execDrain (agent : Agent) (tile : Nat) (level : Bool) (s : State) : Res :=
  .next (s.guardTile tile agent (F.TILE_SEQ_CTL_DRAIN tile).off (fun s =>
    s.set (F.TILE_SEQ_CTL_DRAIN tile) (b2n level)))

/-! ### The boundary and Quench -/

/-- An ARMED tile starts in the fabric cycle of R288 (R370). -/
def tileFlip (n : Nat) (s : State) : State :=
  if s.tileOn n && s.get (F.TILE_SEQ_STAT_STATE n) == 3 then startTile n s else s

/-- R366: a tile with HALT_PEND halts at an epoch boundary, and Bench is notified. -/
def haltPending (n : Nat) (s : State) : State :=
  if (s.seq n).haltPend ∧ s.get (F.TILE_SEQ_STAT_STATE n) ≠ 0 then tileHaltNotify n 4 s else s

/-- Quench on a tile (R368, R471, R507, R550, R580): the sequencer halts with its state unspecified; the engine's queues are
lost; memories hold the values last written. -/
def tileQuench (n : Nat) (s : State) : State :=
  let s := tileHalt n 5 (quenchSeq n s)
  let s := s.setNe n { s.ne n with queue := [], outq := [], sweeping := false, resets := [] }
  cimQuench n s

/-! ### The register windows of the vector engine (R578) -/

/-- What a window offset of the tile names. -/
inductive VeWin where
  | treg (i b : Nat)
  | mreg (i w : Nat)
  | acc (k : Nat)
  deriving DecidableEq, Repr

/-- The window at tile offset `o`. (DEDUCED, log entry 66) -/
def veWin (o : Nat) : Option VeWin :=
  if o % 4 ≠ 0 then none
  else if 0xA000 ≤ o ∧ o < 0xB000 then some (.treg ((o - 0xA000) / 0x200) ((o - 0xA000) % 0x200))
  else if 0xB000 ≤ o ∧ o < 0xB080 then some (.mreg ((o - 0xB000) / 0x20) ((o - 0xB000) % 0x20 / 4))
  else if 0xB400 ≤ o ∧ o < 0xC400 then some (.acc ((o - 0xB400) / 4))
  else none

/-- The word in a window. (DEDUCED, log entry 101) -/
def veRead (s : State) (n : Nat) : VeWin → Word
  | .treg i b => BitVec.ofNat 32 (leAt ((s.seq n).t.getD i []) b 4)
  | .mreg i w => BitVec.ofNat 32 ((s.seq n).m.getD i 0 / 2 ^ (32 * w))
  | .acc k => (s.tile n).cim.accOf k

/-- Write a word of a window; an accumulator's parity error clears (R508). -/
def veWrite (n : Nat) (v : Word) (w : VeWin) (s : State) : State :=
  let q := s.seq n
  match w with
  | .treg i b => s.setSeq n { q with t := q.t.set i (patch (q.t.getD i []) b (leBytes 4 v.toNat)) }
  | .mreg i k => s.setSeq n { q with m := q.m.set i (putBits (q.m.getD i 0) (32 * k + 31) (32 * k) v.toNat) }
  | .acc k =>
    let c := (s.tile n).cim
    s.setCim n { c with acc := sparsePut (fun _ => 0) c.acc k v, badAcc := c.badAcc.filter (· ≠ k) }

/-- Bench accesses a window: refused while the sequencer is not HALTED. (DEDUCED, log entry 101) -/
def veAccess (n off : Nat) (write : Bool) (v : Word) (w : VeWin) (s : State) : State :=
  let a := 0x2000000 + n * 0x10000 + off
  if !tileHalted s n then
    let s := s.raise (F.VE_STAT_REFUSED n)
    if write then s else s.emit (.read .bench a 0)
  else if write then veWrite n v w s
  else s.emit (.read .bench a (veRead s n w))

/-- Row VE_WINDOW_ACCESS. (DEDUCED, log entry 101) -/
def execVeWindowAccess (tile off : Nat) (write : Bool) (data : Word) (s : State) : Res :=
  let a := 0x2000000 + tile * 0x10000 + off
  .next (match veWin off with
  | none => s
  | some w =>
    if s.cfg.tiles ≤ tile then s.logErr .bench 0 0 a write .unmapped
    else if !s.tileOn tile then s.logErr .bench 0 0 a write .domainOff
    else veAccess tile off write data w s)

end Sys2Proof.Machine
end

