-- ==== Sys2Proof/Machine/Pmu.lean ====
section
/-!
DEFINITION. Sys2Proof/Machine/Pmu.lean: clusters and tiles in the PMU (20): wake and entry sequences (R771 to R776), cluster
and NAP requests (R768 to R770), operating points and the tile rail (R778 to R785).
-/

namespace Sys2Proof.Machine

/-! ### What runs -/

/-- STAGE changes, and PF1 vector 2 tells of it (19 R735, R758). (DEDUCED, log entry 14) -/
def setStage (v : Nat) (s : State) : State :=
  if s.stage = v then s else (s.set F.GLB_BOOT_STAGE v).msix 1 2

/-- Touchmark runs: SEC is on and the ROM has started it. -/
def touchmarkRuns (s : State) : Bool := s.secOn && decide (1 ≤ s.stage)

/-- Bench runs: MGT is on, and STAGE is BENCH or READY, or SAFE for a plan or host reason (22 R860). -/
def benchRuns (s : State) : Bool :=
  s.mgtOn && !s.fw.stopped && (s.stage == 3 || s.stage == 4 || (s.stage == 5 && s.get F.GLB_BOOT_SAFE_SRC != 1))

/-- Touchmark and Bench are notified if they run (R773). -/
def tellBoth (n : Notice) (i : Nat) (s : State) : State :=
  let s := if touchmarkRuns s then s.emit (.touchmark n i) else s
  if benchRuns s then s.bench n i else s

/-- Clusters on the part (R10). (DESIGN CHOICE, log entry 7) -/
def State.clusters (s : State) : Nat := s.cfg.tiles / 16

/-- The tiles of cluster `k`. -/
def cluTiles (k : Nat) : List Nat := (List.range 16).map (16 * k + ·)

/-- R798: a write outside the limits is discarded, and REFUSED of the register's block is set. (DESIGN CHOICE, log entry 93) -/
def devRefuse (s : State) : State := s.raise F.PMU_DEV_CTL_REFUSED

/-- REFUSED of cluster `k`. -/
def cluRefuse (k : Nat) (s : State) : State := s.raise (F.PMU_CLU_REFUSED k)

/-! ### Tile contents over NAP, RETAIN and OFF (R766, R770) -/

/-- Registers of tile `n` that NAP and RETAIN lose: all of its window but the dynamics memory, the decay tables and the pair
coefficients, which are memories. (DEDUCED, log entry 92) -/
def tileRegLost (n : Nat) (k : Nat) : Bool :=
  let b := 0x2000000 + n * 0x10000
  decide (b ≤ k) && decide (k < b + 0x10000)
    && !(decide (b + 0x800 ≤ k) && decide (k < b + 0x1800)) && !(decide (b + 0x5000 ≤ k) && decide (k < b + 0x9000))

/-- During Quench a tile comes up halted with HALT_REASON = QUENCH (R803). -/
def quenchMark (n : Nat) (s : State) : State :=
  if s.flag F.PMU_QUENCH_ACTIVE then s.set (F.TILE_SEQ_STAT_HALT_REASON n) 5 else s

/-- A tile leaves NAP, or its cluster leaves RETAIN: registers are lost and reset, memories are kept. -/
def tileBack (n : Nat) (s : State) : State := quenchMark n ((tileReset n s).dropRegs (tileRegLost n))

/-- A tile whose cluster leaves OFF: its memories are lost as well, and Touchmark loads the pair coefficients (R553). -/
def tileFresh (n : Nat) (s : State) : State :=
  let b := 0x2000000 + n * 0x10000
  let s := (tileReset n s).dropRegs (fun k => decide (b ≤ k) && decide (k < b + 0x10000))
  let s := s.setNe n {}
  quenchMark n (s.setTile n { s.tile n with mem := [], poison := [], imem := [], ipoison := [] })

/-! ### Operating points (R778 to R785) -/

/-- Voltage of an operating point, mV (R778). -/
def oppMv (o : Nat) : Nat := 550 + 100 * o

/-- The clock of cluster `k`. -/
def State.clock (s : State) (k : Nat) : CluClock := s.pmu.clocks.getD k {}

/-- Replace the clock of cluster `k`. -/
def State.setClock (s : State) (k : Nat) (c : CluClock) : State :=
  (s.setPmu { s.pmu with clocks := s.pmu.clocks.set k c })

/-- What cluster `k` needs of the rail: its point in force or in transition, whichever is higher; 0 unless ACTIVE.
(DEDUCED, log entry 92) -/
def cluNeed (s : State) (k : Nat) : Nat :=
  if s.get (F.PMU_CLU_STATE k) = 2 then oppMv (max (s.get (F.PMU_CLU_OPP k)) ((s.clock k).next.getD 0)) else 0

/-- R779: the PMU commands the highest voltage that any ACTIVE cluster needs, 550 mV when none needs any.
(DEDUCED, log entry 92) -/
def setRail (s : State) : State :=
  s.set F.PMU_DVFS_STAT_VRAIL ((List.range 12).foldl (fun m k => max m (cluNeed s k)) 550)

/-- BUSY of DVFS_STAT and of the clusters follow the changes and sequences in progress. -/
def showBusy (s : State) : State :=
  let s := s.set F.PMU_DVFS_STAT_BUSY (b2n (s.pmu.clocks.any (fun c => c.next.isSome)))
  (List.range 12).foldl (fun s k =>
    let q := s.pmu.seqs.find? (fun e => e.1 == 7 + k)
    let s := s.set (F.PMU_CLU_BUSY k) (b2n (q.isSome || (s.clock k).next.isSome))
    s.set (F.PMU_CLU_PEND k) (b2n (match q with | some e => e.2.pend.isSome | none => false))) s

/-- A change of cluster `k` to point `o` starts: a rise commands the rail first (R781). A cluster that is not ACTIVE has no
clock to switch, so the point is in force at once. -/
def oppChange (k o : Nat) (s : State) : State :=
  if s.get (F.PMU_CLU_OPP k) = o then s
  else if !s.cluOn k then s.set (F.PMU_CLU_OPP k) o
  else showBusy (setRail (s.setClock k { s.clock k with next := some o }))

/-- OPP_REQ of cluster `k` (R782, R783, R790): whether the PMU accepts it is told by REFUSED; 0 accepted, 1 below the floor,
2 blocked by Quench. (DEDUCED, log entry 81) -/
def oppVerdict (k o : Nat) (s : State) : Nat :=
  if o < s.get (F.PMU_CLU_FLOOR k) then 1
  else if s.flag F.PMU_QUENCH_ACTIVE && decide (s.get (F.PMU_CLU_OPP k) < o) then 2
  else 0

/-- A write of OPP_REQ. (DEDUCED, log entry 92) -/
def oppRequest (k o : Nat) (s : State) : State :=
  if oppVerdict k o s ≠ 0 then (cluRefuse k s).bench .dvfsRefused k
  else
    let s := s.set (F.PMU_CLU_OPP_REQ k) o
    if (s.clock k).next.isSome then s.setClock k { s.clock k with kept := some o } else oppChange k o s

/-- The clock of cluster `k` switches, the rail follows, and the kept write starts (R780 to R782).
(DESIGN CHOICE, log entry 93) -/
def oppSwitch (k : Nat) (s : State) : State :=
  match (s.clock k).next with
  | none => s
  | some o =>
    let c := s.clock k
    let s := (s.setClock k { next := none, kept := none, pll := !c.pll }).set (F.PMU_CLU_OPP k) o
    let s := showBusy (setRail s)
    match c.kept with
    | none => s
    | some p => if oppVerdict k p s ≠ 0 then cluRefuse k s else oppChange k p s

/-- R802: a rise is abandoned when Quench begins; the clock in force stays, and the rail follows R779. -/
def oppAbandon (k : Nat) (s : State) : State :=
  match (s.clock k).next with
  | none => s
  | some o =>
    if s.get (F.PMU_CLU_OPP k) < o then s.setClock k { s.clock k with next := none, kept := none } else s

/-! ### Sequences (R771 to R776) -/

/-- A field of PMU_DOMCTL of domain `d` (1 to 6; every cluster has number 7). -/
def domctl (d hi lo : Nat) : Fld := ⟨0x100040 + 4 * min d 7, hi, lo⟩

/-- Ticks of step `i` of a wake of domain `d` (R774): T_MEMR replaces T_MEM when a cluster leaves RETAIN. -/
def stepTicks (s : State) (d : Nat) (retain : Bool) : Nat → Nat
  | 0 => s.get (domctl d 15 8)
  | 1 => s.get (domctl d 19 16)
  | 2 => if retain then s.get (domctl d 27 24) else s.get (domctl d 23 20)
  | _ => s.get (domctl d 31 28)

/-- The sequence of domain `d`. -/
def seqOf (s : State) (d : Nat) : Option DSeq := (s.pmu.seqs.find? (fun e => e.1 == d)).map (·.2)

/-- Set or remove the sequence of domain `d`. -/
def setSeqOf (d : Nat) (q : Option DSeq) (s : State) : State :=
  let rest := s.pmu.seqs.filter (fun e => e.1 ≠ d)
  (s.setPmu { s.pmu with seqs := match q with | none => rest | some x => rest ++ [(d, x)] })

/-- The state that PMU_DOM_STAT shows for a domain that is no cluster. -/
def setDomState (d v : Nat) (s : State) : State := if d < 7 then s.set (F.domState d) v else s

/-- A wake of `d` begins: a step whose table value is 0 is skipped; HANDSHAKE by MODE, or in every domain under RC_MODE.
(DEDUCED, log entry 90) -/
def wakeSeq (s : State) (d : Nat) (retain : Bool) : DSeq :=
  { wake := true, retain := retain, steps := (List.range 4).filter (fun i => decide (0 < stepTicks s d retain i)),
    hs := s.flag (domctl d 0 0) || s.flag F.PMU_DEV_CFG_RC_MODE }

/-- An entry of `d` begins: LOGIC, MEM, OSC, REG. (DEDUCED, log entry 90) -/
def entrySeq (retain : Bool) : DSeq := { wake := false, retain := retain, steps := [3, 2, 1, 0] }

/-- A cluster has woken: its tiles are reset and the rail follows. -/
def cluAwake (k : Nat) (retain : Bool) (s : State) : State :=
  let s := s.set (F.PMU_CLU_STATE k) 2
  setRail ((cluTiles k).foldl (fun s n => if retain then tileBack n s else tileFresh n s) s)

/-- A sequence begins. A wake without any step ends at the edge at which it begins. (DEDUCED, log entry 90) -/
def beginSeq (d : Nat) (q : DSeq) (s : State) : State :=
  if q.wake ∧ q.steps.isEmpty then (if d < 7 then setDomState d 2 s else cluAwake (d - 7) q.retain s)
  else showBusy (setSeqOf d (some q) (setDomState d (if q.wake then 1 else 3) s))

/-- A cluster moves from its settled state to `r` (0 OFF, 1 RETAIN, 2 ACTIVE): a wake, an entry, or nothing. -/
def cluStart (k r : Nat) (s : State) : State :=
  let st := s.get (F.PMU_CLU_STATE k)
  if r = st ∨ (st = 0 ∧ r = 1) then s
  else if r = 2 then
    if s.flag F.PMU_QUENCH_ACTIVE then cluRefuse k s else beginSeq (7 + k) (wakeSeq s (7 + k) (st == 1)) s
  else beginSeq (7 + k) (entrySeq (r == 1)) s

/-- A sequence has ended: the domain or cluster has its new state, and the pending request starts. -/
def endSeq (d : Nat) (q : DSeq) (s : State) : State :=
  let s := setSeqOf d none s
  let s :=
    if d < 7 then setDomState d (if q.wake then 2 else 0) s
    else if q.wake then cluAwake (d - 7) q.retain s
    else setRail (((s.set (F.PMU_CLU_STATE (d - 7)) (if q.retain then 1 else 0)).clear (F.PMU_NAP_STATE (d - 7))).clear
      (F.PMU_NAP_REQ (d - 7)))
  showBusy (match q.pend with
  | some r => if d < 7 then s else cluStart (d - 7) r s
  | none => s)

/-- The step in progress of domain `d` ends, in a sequence of the given direction. (DEDUCED, log entry 90) -/
def seqStep (d : Nat) (wake : Bool) (s : State) : State :=
  match seqOf s d with
  | none => s
  | some q =>
    if q.wake ≠ wake then s
    else if q.steps.length ≤ 1 then endSeq d q s
    else setSeqOf d (some { q with steps := q.steps.drop 1 }) s

/-- R773, R806: a wake step in HANDSHAKE mode fails; the domain runs its entry steps back to off. (DEDUCED, log entry 90) -/
def wakeFail (d : Nat) (s : State) : State :=
  match seqOf s d with
  | none => s
  | some q =>
    if !q.wake || !q.hs then s
    else
      let s := setDomState d 3 (setSeqOf d (some { entrySeq false with pend := q.pend }) s)
      let s := if d < 7 then s.raise (F.domWakeFail d) else s.raise (F.PMU_CLU_WAKE_FAIL (d - 7))
      let s := if d = 1 then s.raise F.GLB_BOOT_NET_FAIL else s
      tellBoth .wakeFail d s

/-! ### Cluster requests (R768 to R770, R776, R790) -/

/-- Every tile of cluster `k` is HALTED or in NAP (R769). -/
def cluQuiet (s : State) (k : Nat) : Bool := (cluTiles k).all (fun n => s.inNap n || tileHalted s n)

/-- A write of PMU_CLU_k.REQ. (DEDUCED, log entry 92) -/
def cluRequest (k r : Nat) (s : State) : State :=
  let st := s.get (F.PMU_CLU_STATE k)
  if r = 2 ∧ s.flag F.PMU_QUENCH_ACTIVE then cluRefuse k s
  else if r ≠ 2 ∧ st = 2 ∧ !cluQuiet s k then cluRefuse k s
  else if st = 0 ∧ r = 1 ∧ (seqOf s (7 + k)).isNone then cluRefuse k s
  else
    let s := s.set (F.PMU_CLU_REQ k) r
    match seqOf s (7 + k) with
    | some q =>
      let same := if r = 2 then q.wake else !q.wake && (q.retain == (r == 1))
      showBusy (setSeqOf (7 + k) (some { q with pend := if same then none else some r }) s)
    | none => cluStart k r s

/-- A write of a PMU register of cluster `k`: absent clusters are unmapped (R731). -/
def cluWrite (agent : Agent) (k off : Nat) (f : State → State) (s : State) : State :=
  if s.clusters ≤ k then s.logErr agent 0 0 off true .unmapped
  else s.guardWrite (!s.pins.porst) .benchTouchmark agent off f

/-- Row CLUSTER_REQ_OFF. -/
def execClusterReqOff (agent : Agent) (cluster : Nat) (s : State) : Res :=
  .next (cluWrite agent cluster (F.PMU_CLU_REQ cluster).off (cluRequest cluster 0) s)

/-- Row CLUSTER_REQ_RETAIN. -/
def execClusterReqRetain (agent : Agent) (cluster : Nat) (s : State) : Res :=
  .next (cluWrite agent cluster (F.PMU_CLU_REQ cluster).off (cluRequest cluster 1) s)

/-- Row CLUSTER_REQ_ACTIVE. -/
def execClusterReqActive (agent : Agent) (cluster : Nat) (s : State) : Res :=
  .next (cluWrite agent cluster (F.PMU_CLU_REQ cluster).off (cluRequest cluster 2) s)

/-- A bit of PMU_NAP_k.REQ and .STATE. -/
def setNap (n : Nat) (v : Bool) (s : State) : State :=
  let k := n / 16
  let j := n % 16
  let s := s.set (F.PMU_NAP_REQ k) (putBits (s.get (F.PMU_NAP_REQ k)) j j (b2n v))
  s.set (F.PMU_NAP_STATE k) (putBits (s.get (F.PMU_NAP_STATE k)) j j (b2n v))

/-- R768: NAP is taken while the tile's sequencer is HALTED and its engine disabled. (DEDUCED, log entry 92) -/
def napRequest (n : Nat) (s : State) : State :=
  if s.inNap n then s
  else if s.tileOn n && tileHalted s n && !s.flag (F.NE_CTL_EN n) then setNap n true s
  else cluRefuse (n / 16) s

/-- Row NAP_REQUEST. -/
def execNapRequest (agent : Agent) (tile : Nat) (s : State) : Res :=
  .next (cluWrite agent (tile / 16) (F.PMU_NAP_REQ (tile / 16)).off (napRequest tile) s)

/-- R770: the tile leaves NAP, and its sequencer is reset. (DEDUCED, log entry 92) -/
def napExit (n : Nat) (s : State) : State := if s.inNap n then tileBack n (setNap n false s) else s

/-! ### Operating-point commands -/

/-- Row OPP_REQ_WRITE. -/
def execOppReqWrite (agent : Agent) (cluster : Nat) (opp : BitVec 2) (s : State) : Res :=
  .next (cluWrite agent cluster (F.PMU_CLU_OPP_REQ cluster).off (oppRequest cluster opp.toNat) s)

/-- Row OPP_CLOCK_SWITCH: both PLLs' coincident edge once the rail is ready and the idle PLL is locked; with AVS_WAIT = 1 a
rise switches only with the last read-back within 10 mV of the new voltage (R781). -/
def execOppClockSwitch (cluster readback : Nat) (s : State) : Res :=
  .next (match (s.clock cluster).next with
  | none => s
  | some o =>
    if s.flag F.PMU_DVFS_CFG_AVS_WAIT then
      let s := s.set F.PMU_DVFS_STAT_VREAD readback
      let target := s.get F.PMU_DVFS_STAT_VRAIL
      if s.get (F.PMU_CLU_OPP cluster) < o ∧ 10 < ((readback % 1024 : Int) - target).natAbs then s else oppSwitch cluster s
    else oppSwitch cluster s)

/-- R784: a direct write breaks the order, or the PMU is busy. -/
def orderErr (s : State) : State := (s.raise F.PMU_DVFS_STAT_ORDER_ERR).bench .dvfsError 0

/-- The voltage that the clocks in force of the ACTIVE clusters need. -/
def clockNeed (s : State) : Nat :=
  (List.range 12).foldl (fun m k => if s.get (F.PMU_CLU_STATE k) = 2 then max m (oppMv (s.get (F.PMU_CLU_OPP k))) else m) 0

/-- PMU_AVS_VSET (R784, R798). (DESIGN CHOICE, log entry 93) -/
def avsVset (mv : Nat) (s : State) : State :=
  if mv < 550 ∨ 850 < mv then devRefuse s
  else if mv < clockNeed s ∨ s.flag F.PMU_DVFS_STAT_BUSY then orderErr s
  else (s.set F.PMU_AVS_VSET mv).set F.PMU_DVFS_STAT_VRAIL mv

/-- Row AVS_VSET. (DESIGN CHOICE, log entry 93) -/
def execAvsVset (agent : Agent) (mv : BitVec 10) (s : State) : Res :=
  .next (s.guardWrite (!s.pins.porst) .benchTouchmark agent F.PMU_AVS_VSET.off (avsVset mv.toNat))

/-- PMU_FDIR.GO (R784): the cluster's clock goes to the frequency of point `f`. (DESIGN CHOICE, log entry 93) -/
def fdir (k f : Nat) (s : State) : State :=
  let s := (s.set F.PMU_FDIR_CLUSTER k).set F.PMU_FDIR_FSEL f
  if s.clusters ≤ k then devRefuse s
  else if s.get F.PMU_DVFS_STAT_VREAD < oppMv f ∨ f < s.get (F.PMU_CLU_FLOOR k) ∨ s.flag F.PMU_DVFS_STAT_BUSY then orderErr s
  else if s.flag F.PMU_QUENCH_ACTIVE && decide (s.get (F.PMU_CLU_OPP k) < f) then cluRefuse k s
  else oppChange k f s

/-- Row FDIR_GO. -/
def execFdirGo (agent : Agent) (cluster : BitVec 4) (fsel : BitVec 2) (s : State) : Res :=
  .next (s.guardWrite (!s.pins.porst) .benchTouchmark agent F.PMU_FDIR_GO.off (fdir cluster.toNat fsel.toNat))

end Sys2Proof.Machine
end

