-- ==== Sys2Proof/Machine/Touchmark.lean ====
section
/-!
DEFINITION. Sys2Proof/Machine/Touchmark.lean: flash, images and how they verify, the select record, the owner policy, pairing, and
authority (22 R841 to R864).
-/

namespace Sys2Proof.Machine

/-! ### Flash (R849) -/

/-- Bytes of the flash; erased bytes read 0xFF. (PRESUMED, log entry 9) -/
def flashBytes (s : State) (a n : Nat) : List Byte := (List.range n).map (fun i => sparseGet (fun _ => 0xFF) s.touch.flash (a + i))

/-- Bytes are written. -/
def flashWrite (a : Nat) (l : List Byte) (s : State) : State :=
  s.setTouch { s.touch with flash := l.zipIdx.foldl (fun m e => sparsePut (fun _ => 0xFF) m (a + e.2) e.1) s.touch.flash }

/-- A range is erased. (PRESUMED, log entry 9) -/
def flashErase (a n : Nat) (s : State) : State :=
  s.setTouch { s.touch with flash := s.touch.flash.filter (fun e => !(decide (a ≤ e.1) && decide (e.1 < a + n))) }

/-- Base of a slot or policy copy of a KIND. -/
def flashBase (kind slot : Nat) : Nat :=
  match kind with
  | 1 => 0xC0000 + slot * 0x100000
  | 2 => 0x40000 + slot * 0x40000
  | 3 => 0x300000 + slot * 0x1000000
  | _ => 0x20000 + slot * 0x10000

/-- Its size. -/
def flashSize (kind : Nat) : Nat := match kind with
  | 1 => 0x100000
  | 2 => 0x40000
  | 3 => 0x1000000
  | _ => 0x10000

/-! ### Header fields (R850) -/

/-- BODY_LEN. -/
def hdrLen (h : List Byte) : Nat := leAt h 8 4
/-- SVN. -/
def hdrSvn (h : List Byte) : Nat := leAt h 0x0C 4
/-- VERSION. -/
def hdrVersion (h : List Byte) : Nat := leAt h 0x10 8
/-- SE_LO. -/
def hdrSeLo (h : List Byte) : Nat := leAt h 0x1A 2
/-- SE_HI. -/
def hdrSeHi (h : List Byte) : Nat := leAt h 0x1C 2
/-- KEY_ID. -/
def hdrKey (h : List Byte) : Nat := leAt h 0x1E 1
/-- DIGEST. -/
def hdrDigest (h : List Byte) : List Byte := slice h 0x40 48

/-- The plan-ABI entries of a Bench header; a zero major ends the list. -/
def hdrAbi (h : List Byte) : List (Nat × Nat) :=
  ((List.range 4).map (fun i => (leAt h (0x20 + 4 * i) 2, leAt h (0x22 + 4 * i) 2))).takeWhile (fun e => e.1 ≠ 0)

/-! ### OTP (R841) -/

/-- The life-cycle state: 0 BLANK, 1 MAKER, 2 OWNER, 3 RETURN, 4 SCRAP, by the highest blown bit. (DESIGN CHOICE, log entry 12) -/
def lcOf (o : Otp) : Nat := if bitOf o.lc 3 then 4 else if bitOf o.lc 2 then 3 else if bitOf o.lc 1 then 2 else if bitOf o.lc 0 then 1 else 0

/-- The state of the part. (DESIGN CHOICE, log entry 12) -/
def State.lc (s : State) : Nat := lcOf s.touch.otp

/-- An owner key is installed. -/
def ownerKey (s : State) : Bool := s.touch.otp.ownerHash.isSome

/-- Maker keys that are not revoked. -/
def makerKeys (s : State) : List Nat := (List.range 4).filter (fun k => !bitOf s.touch.otp.revoked k)

/-- Floor of a KIND. -/
def floorOf (s : State) (kind : Nat) : Nat := s.touch.otp.floors.getD (kind - 1) 0

/-- OWNER_PUB of the policy in use. -/
def ownerPub (s : State) : List Byte := s.touch.policyBody.take 97

/-- The plan key (R846). -/
def planKey (s : State) : List Byte :=
  let p := slice s.touch.policyBody 97 97
  if p.all (· == 0) then ownerPub s else p

/-! ### Verification (R851, R857, R862) -/

/-- The running stepping's bit of a STEP_MASK: 0 A1, 1 B0. -/
def stepBit (s : State) : Nat := if s.get F.GLB_STEP = 0xA1 then 0 else 1

/-- Step 3 of R851: the key may sign the KIND, is not revoked, and the signature verifies. (DEDUCED, log entry 10) -/
def sigOk (s : State) (kind : Nat) (h body : List Byte) : Bool :=
  let k := hdrKey h
  let msg := h.take 0xA0
  let sig := slice h 0xA0 96
  let maker := decide (k < 4) && !bitOf s.touch.otp.revoked k && Config.ecdsaOk (Config.makerKey k) msg sig
  match kind with
  | 1 => maker
  | 3 => maker
  | 2 => if ownerKey s then k == 0x80 && !(ownerPub s).isEmpty && Config.ecdsaOk (ownerPub s) msg sig else maker
  | _ =>
    let pub := body.take 97
    k == 0x80 && Config.ecdsaOk pub msg sig
      && (match s.touch.otp.ownerHash with
          | some h => Config.sha384 pub == h
          | none => s.lc == 2)

/-- Entries of a network boot record's body. -/
def nbrEntries (body : List Byte) : List (Nat × Nat) :=
  (List.range (leAt body 0 4)).map (fun i => (leAt body (4 + 8 * i) 4, leAt body (8 + 8 * i) 4))

/-- R857: the count and every offset. -/
def nbrOk (body : List Byte) : Bool :=
  let n := leAt body 0 4
  decide (1 ≤ n) && decide (n ≤ 16384) && decide (4 + 8 * n ≤ body.length)
  && (nbrEntries body).all (fun e => (decide (0x200000 ≤ e.1) && decide (e.1 ≤ 0x2000FF)) || (decide (0x400000 ≤ e.1) && decide (e.1 ≤ 0x4FFFFF)))

/-- R851 for header `h` and what follows it: 0 when the image verifies, else the reason code of R861. `readErr`: a flash read
error fails DIGEST (R879). -/
def verifyBytes (s : State) (kind size : Nat) (h body : List Byte) (readErr : Bool) : Nat :=
  if leAt h 0 4 ≠ 0x4D524644 ∨ leAt h 6 2 ≠ 1 ∨ leAt h 4 2 ≠ kind ∨ size < 256 + hdrLen h then 0x10
  else if readErr ∨ Config.sha384 body ≠ hdrDigest h then 0x11
  else if !sigOk s kind h body then 0x12
  else if hdrSvn h < floorOf s kind then 0x13
  else if !bitOf (leAt h 0x18 2) (stepBit s) then 0x14
  else if kind = 2 ∧ !nbrOk body then 0x10
  else 0

/-- The header in a slot. -/
def slotHdr (s : State) (kind slot : Nat) : List Byte := flashBytes s (flashBase kind slot) 256

/-- The body in a slot: what its header gives, within the slot. -/
def slotBody (s : State) (kind slot : Nat) : List Byte :=
  flashBytes s (flashBase kind slot + 256) (min (hdrLen (slotHdr s kind slot)) (flashSize kind - 256))

/-- The slot's verification. `bad` lists slots (KIND, slot) that read with an error. (DEDUCED, log entry 10) -/
def verify (s : State) (bad : List (Nat × Nat)) (kind slot : Nat) : Nat :=
  let h := slotHdr s kind slot
  if leAt h 0 4 ≠ 0x4D524644 then 0x10
  else verifyBytes s kind (flashSize kind) h (slotBody s kind slot) (bad.contains (kind, slot))

/-! ### The select record (R852) -/

/-- CRC-32 as R143 computes it. -/
def crc32 (l : List Byte) : Nat := Nat.xor (crcRaw l) 0xFFFFFFFF

/-- The 12 bytes of copy `c`. -/
def selectBytes (s : State) (c : Nat) : List Byte := flashBytes s (c * 0x10000) 12

/-- A copy's CRC is good. -/
def selectGood (b : List Byte) : Bool := leAt b 8 4 == crc32 (b.take 8)

/-- The copy in force. -/
def selectCopy (s : State) : Option Nat :=
  let a := selectBytes s 0
  let b := selectBytes s 1
  match selectGood a, selectGood b with
  | false, false => none
  | true, false => some 0
  | false, true => some 1
  | true, true => if sx 32 ((leAt b 0 4 + 2 ^ 32 - leAt a 0 4) % 2 ^ 32) ≤ 0 then some 0 else some 1

/-- PREF in force: bits Touchmark, NBR, Bench. -/
def prefOf (s : State) : Nat := match selectCopy s with
  | some c => leAt (selectBytes s c) 4 1 % 8
  | none => 0

/-- The preferred slot of a KIND. -/
def prefSlot (s : State) (kind : Nat) : Nat := b2n (bitOf (prefOf s) (kind - 1))

/-- Touchmark writes PREF into the copy that is not in force, with SEQ + 1. -/
def setPref (kind slot : Nat) (s : State) : State :=
  let p := putBits (prefOf s) (kind - 1) (kind - 1) slot
  let (c, q) := match selectCopy s with
    | some c => (1 - c, (leAt (selectBytes s c) 0 4 + 1) % 2 ^ 32)
    | none => (0, 1)
  let b := leBytes 4 q ++ [BitVec.ofNat 8 p, 0, 0, 0]
  let s := flashWrite (c * 0x10000) (b ++ leBytes 4 (crc32 b)) (flashErase (c * 0x10000) 0x10000 s)
  s.set F.GLB_FW_SLOTS_PREF p

/-- R853: the first slot of a KIND that verifies, the preferred one first. -/
def chooseSlot (s : State) (bad : List (Nat × Nat)) (kind : Nat) : Option Nat :=
  let p := prefSlot s kind
  [p, 1 - p].find? (fun c => verify s bad kind c == 0)

/-! ### The owner policy (R862, R863) -/

/-- FLAGS of the policy in use. -/
def policyFlag (s : State) (i : Nat) : Bool := s.touch.policy.isSome && bitOf (leAt s.touch.policyBody 0xC3 1) i

/-- The pairing policy in force is PERMISSIVE. -/
def permissive (s : State) : Bool := s.touch.policy.isSome && leAt s.touch.policyBody 0xC2 1 == 1

/-- GLB_LC as OTP and the policy give it, and HOST_PM in the PMU. (DEDUCED, log entry 98) -/
def showLc (s : State) : State :=
  let lc := s.lc
  let s := (s.set F.GLB_LC_LC lc).set F.GLB_LC_OWNER_KEY (b2n (ownerKey s))
  let s := s.set F.GLB_LC_ERASE_PENDING (b2n (lc == 3 && !s.touch.otp.eraseDone))
  let dflt := ownerKey s && s.touch.policy.isNone
  let s := (s.set F.GLB_LC_PAIRING (b2n (permissive s))).set F.GLB_LC_SIGNED_PLANS (b2n (policyFlag s 0 || dflt))
  (s.set F.GLB_LC_POLICY_DEFAULT (b2n dflt)).set F.PMU_DEV_CFG_HOST_EN (b2n (policyFlag s 2))

/-- The policy copy in use (R853): the verifying copy with the higher SVN, copy 0 when they are equal. -/
def choosePolicy (s : State) (bad : List (Nat × Nat)) : Option Nat :=
  match verify s bad 4 0 == 0, verify s bad 4 1 == 0 with
  | false, false => none
  | true, false => some 0
  | false, true => some 1
  | true, true => if hdrSvn (slotHdr s 4 0) < hdrSvn (slotHdr s 4 1) then some 1 else some 0

/-- Touchmark takes the policy in use from flash, and installs its owner key where OTP has none (R862). (DEDUCED, log entry 98) -/
def loadPolicy (bad : List (Nat × Nat)) (s : State) : State :=
  match choosePolicy s bad with
  | none => showLc (s.setTouch { s.touch with policy := none, policyBody := [] })
  | some c =>
    let body := slotBody s 4 c
    let o := s.touch.otp
    let o := if o.ownerHash.isNone then { o with ownerHash := some (Config.sha384 (body.take 97)) } else o
    showLc (s.setTouch { s.touch with otp := o, policy := some ⟨c, slotHdr s 4 c⟩, policyBody := body })

/-! ### Pairing (R858, R859) -/

/-- Tested-pair list of a Touchmark image. -/
def testedOf (h body : List Byte) : List Nat :=
  (List.range (leAt h 0x24 2)).map (fun i => leAt body (leAt h 0x20 4 + 8 * i) 8)

/-- Steps 2 and 3 of R858 for a Bench header under a Touchmark of service epoch `se` and list `tested`: 0 accepted, 1 accepted
untested, else the reason. -/
def pairing (s : State) (se : Nat) (tested : List Nat) (h : List Byte) : Nat :=
  if se < hdrSeLo h ∨ hdrSeHi h < se then 0x15
  else if tested.contains (hdrVersion h) then 0
  else if permissive s then 1 else 0x16

/-- Service epoch of the running Touchmark. -/
def tmEpoch (s : State) : Nat := match s.touch.tm with
  | some t => hdrSeLo t.hdr
  | none => 0

/-- R858 for Bench slot `c`: 0 accepted, 1 accepted untested, else the reason. -/
def benchReason (s : State) (bad : List (Nat × Nat)) (c : Nat) : Nat :=
  let v := verify s bad 3 c
  if v ≠ 0 then v else pairing s (tmEpoch s) s.touch.tested (slotHdr s 3 c)

/-- The slot is accepted. -/
def accepted (r : Nat) : Bool := decide (r ≤ 1)

/-- GLB_FW_BENCH for a slot that was tried; an accepted slot passes with 0. (DEDUCED, log entry 98) -/
def showReason (c r : Nat) (s : State) : State :=
  let r := if accepted r then 0 else r
  if c = 0 then (s.set F.GLB_FW_BENCH_REASON_A r).raise F.GLB_FW_BENCH_TRIED_A
  else (s.set F.GLB_FW_BENCH_REASON_B r).raise F.GLB_FW_BENCH_TRIED_B

/-- The Bench image of slot `c` is the running one (R859, 17 R661): its header gives the plan ABIs. (DEDUCED, log entry 98) -/
def runBench (c r : Nat) (s : State) : State :=
  let h := slotHdr s 3 c
  let s := s.setTouch { s.touch with bench := some ⟨c, h⟩ }
  let s := (s.set F.GLB_BOOT_SLOT c).set F.GLB_BOOT_UNTESTED (b2n (r == 1))
  (s.setFw { s.fw with abi := hdrAbi h })

/-! ### Authority (R846, R865) -/

/-- A maker token. -/
def makerOk (s : State) (msg sig : List Byte) : Bool := (makerKeys s).any (fun k => Config.ecdsaOk (Config.makerKey k) msg sig)

/-- An owner signature. -/
def ownerOk (s : State) (msg sig : List Byte) : Bool :=
  ownerKey s && s.touch.policy.isSome && Config.ecdsaOk (ownerPub s) msg sig

/-- DEVID. -/
def devIdBytes (s : State) : List Byte := leBytes 4 (s.get F.GLB_DEVID_LO) ++ leBytes 4 (s.get F.GLB_DEVID_HI)

end Sys2Proof.Machine
end

