-- ==== Sys2Proof/Machine/Touchstone.lean ====
section
/-!
DEFINITION. Sys2Proof/Machine/Touchstone.lean: programming of banks (12 R494 to R505), calibration bursts, the assay monitor, margin scans,
spare programs and retention (13 R523 to R547).
-/

namespace Sys2Proof.Machine

/-- A tile and array of the part whose cluster is ACTIVE. -/
def arrOn (s : State) (n a : Nat) : Bool := s.tileOn n && decide (a < 4)

/-- PGM.REFUSED is set. -/
def pgmRefuse (n a : Nat) (s : State) : State := s.raise (F.CIM_A_PGM_REFUSED n a)

/-! ### Program sessions (R494 to R498, R502 to R505) -/

/-- START naming bank `isB`: refused on the compute bank (R491) and on a bank with a spare program in progress (R547). -/
def pgmStart (n a : Nat) (isB : Bool) (s : State) : State :=
  let s := s.set (F.CIM_A_PGM_BANK n a) (b2n isB)
  let x := s.arr n a
  let spare := match x.spare with
    | some (b, _) => b == isB
    | none => false
  if x.cb == isB || spare then pgmRefuse n a s
  else s.setArr n a { (x.setBank isB { x.bank isB with state := .programming, tag := none }) with session := true }

/-- Rows and spare programs that hold a program slot (R497, R540). (DEDUCED, log entry 64) -/
def slotsUsed (s : State) : Nat :=
  ((s.tiles.map (fun t => (t.cim.arrays.map (fun x => b2n x.busy.isSome + b2n x.spare.isSome)).sum))).sum

/-- The image in row buffer `buf`. (DEDUCED, log entry 62) -/
def rowImage (s : State) (n a buf : Nat) : List Byte :=
  (List.range 68).flatMap (fun i => leBytes 4 (s.get (F.CIM_ROWBUF n a buf i)))

/-- The first array in the order of the GOs whose last row has ended takes a free slot and latches its buffer. -/
def grantSlot (s : State) : State :=
  if s.get F.GLB_CIM_PGM ≤ slotsUsed s then s
  else match s.cimq.find? (fun k => (s.arr k.1 k.2).busy.isNone) with
  | none => s
  | some (n, a) =>
    let x := s.arr n a
    match x.queued with
    | none => s
    | some (row, buf) =>
      let s' := (s.setCimq (s.cimq.erase (n, a)))
      let s' := s'.setArr n a { x with queued := none, busy := some ⟨row, rowImage s n a buf⟩ }
      (s'.clear (F.CIM_A_PGM_QUEUED n a)).raise (F.CIM_A_PGM_BUSY n a)

/-- GO of row `row` from buffer `buf`: refused outside a session and while a row of the array already waits (R503).
(DEDUCED, log entry 62) -/
def pgmGo (n a buf row : Nat) (s : State) : State :=
  let s := (s.set (F.CIM_A_PGM_BUF n a) buf).set (F.CIM_A_PGM_ROW n a) row
  let x := s.arr n a
  if !x.session ∨ x.queued.isSome ∨ x.cb = s.flag (F.CIM_A_PGM_BANK n a) then pgmRefuse n a s
  else
    let s := (s.setArr n a { x with queued := some (row, buf) }).raise (F.CIM_A_PGM_QUEUED n a)
    grantSlot (s.setCimq (s.cimq ++ [(n, a)]))

/-- Data pairs that failed verification and have no ACTIVE spare. -/
def unserved (b : Bank) : List Nat := b.failed.filter (fun p => decide (p < 256) && b.via p == p)

/-- The bank becomes VALID: seal, count, age, stored calibration (R494, R498, R522). -/
def sealBank (n a : Nat) (b : Bank) (s : State) : Bank :=
  let x := s.arr n a
  { b with state := .valid, tag := some (s.get (F.CIM_A_SEAL_IN n a)), gamma := x.gamma, beta := x.beta,
           conv := s.flag (F.CIM_TS_CTL_CONVERGED n a), stamp := s.tb.sec, due := false, expired := false }

/-- FINISH: refused outside a session, on the compute bank, and while a row is BUSY or QUEUED (R503). (DEDUCED, log entry 62) -/
def pgmFinish (n a : Nat) (s : State) : State :=
  let x := s.arr n a
  if !x.session ∨ x.busy.isSome ∨ x.queued.isSome ∨ x.cb = s.flag (F.CIM_A_PGM_BANK n a) then pgmRefuse n a s
  else
    let isB := !x.cb
    let b := { x.bank isB with count := min 65535 ((x.bank isB).count + 1) }
    if (unserved b).isEmpty then s.setArr n a { (x.setBank isB (sealBank n a b s)) with session := false }
    else
      let s := s.setArr n a { (x.setBank isB { b with state := .invalid }) with session := false }
      if (b.subst.filter (fun e => e.2 == 0)).length < (unserved b).length then s.bench .rowFailed (n * 4 + a) else s

/-- Row CIM_PGM_START. -/
def execCimPgmStart (agent : Agent) (tile array : Nat) (bankB : Bool) (s : State) : Res :=
  .next (if array < 4 then
    s.guardTile tile agent (F.CIM_A_PGM_START tile array).off (pgmStart tile array bankB) else s)

/-- Row CIM_PGM_GO. -/
def execCimPgmGo (agent : Agent) (tile array : Nat) (buf : Bool) (row : BitVec 9) (s : State) : Res :=
  .next (if array < 4 then
    s.guardTile tile agent (F.CIM_A_PGM_GO tile array).off (pgmGo tile array (b2n buf) row.toNat) else s)

/-- Row CIM_PGM_FINISH. -/
def execCimPgmFinish (agent : Agent) (tile array : Nat) (s : State) : Res :=
  .next (if array < 4 then
    s.guardTile tile agent (F.CIM_A_PGM_FINISH tile array).off (pgmFinish tile array) else s)

/-- Row CIM_PGM_ABORT. -/
def execCimPgmAbort (agent : Agent) (tile array : Nat) (s : State) : Res :=
  .next (if array < 4 then
    s.guardTile tile agent (F.CIM_A_PGM_ABORT tile array).off (endSession tile array) else s)

/-- Row CIM_ROW_SLOT_GRANT. -/
def execCimRowSlotGrant (s : State) : Res := .next (grantSlot s)

/-- Put pair `p` of row `r`. -/
def Bank.put (b : Bank) (r p : Nat) (v : Int) : Bank :=
  { b with cells := sparsePut (fun _ => 0) b.cells (r * 268 + p) (clampI (-15) 15 v) }

/-- The row is programmed: data pairs, and the spares that substitute (R494, R539). Touchstone pairs take the maker pattern,
which conversions use by formula (R512, R513). -/
def programRow (b : Bank) (j : RowJob) : Bank :=
  let v := fun p => (j.image.getD p 0).toInt
  let spares := (List.range 8).filter (fun i => (b.subst.getD i (0, 0)).2 == 2)
  let b := { b with unspec := b.unspec.filter (fun u => u.1 ≠ j.row) }
  ((List.range 256) ++ spares.map (· + 256)).foldl (fun b p => b.put j.row p (v p)) b

/-- The row in program completes its loops; the pairs `failed` have a cell out of tolerance (R495, R496). -/
def rowDone (n a loops : Nat) (failed : List Nat) (s : State) : State :=
  let x := s.arr n a
  match x.busy with
  | none => s
  | some j =>
    let b := programRow (x.bank (!x.cb)) j
    let bad := failed.filter (fun p => p < 268)
    let b := { b with failed := bad.foldl setIns b.failed }
    let s := s.setArr n a { (x.setBank (!x.cb) b) with busy := none }
    let s := (s.clear (F.CIM_A_PGM_BUSY n a)).set (F.CIM_A_PGM_LOOPS n a) (min loops 34)
    grantSlot (if bad.isEmpty then s else s.raise (F.CIM_A_PGM_FAILROW n a))

/-! ### Bench programs a bank from an image (R494, R660) -/

/-- Bench fills buffer `buf` with row `r` of a weight image: the data slices, and for each ACTIVE spare its pair's slice.
(DEDUCED, log entry 62) -/
def fillBuffer (n a buf r : Nat) (image : List Byte) (s : State) : State :=
  let row := slice image (256 * r) 256
  let b := (s.arr n a).bank (!(s.arr n a).cb)
  let spares := b.subst.map (fun e => if e.2 = 2 then row.getD e.1 0 else 0)
  let bytes := row ++ spares ++ List.replicate 8 0
  (List.range 68).foldl (fun s i => s.set (F.CIM_ROWBUF n a buf i) (leAt bytes (4 * i) 4)) s

/-- A bank that Bench programs. -/
def State.setTasks (s : State) (l : List PgmTask) : State := (s.setFw { s.fw with tasks := l })

/-- START of a scan of bank `isB` with MARGIN `margin` (R534, R543). (DEDUCED, log entry 63) -/
def scanStart (n a : Nat) (isB : Bool) (margin : Nat) (s : State) : State :=
  if margin < 6 ∨ 9 < margin then s.raise (F.CIM_STAT_REFUSED n)
  else
    let s := (s.set (F.CIM_TS_MSCAN_BANK n a) (b2n isB)).set (F.CIM_TS_MSCAN_MARGIN n a) margin
    let s := (List.range 9).foldl (fun s w => s.set (F.CIM_TS_RFAIL n a w) 0) (s.raise (F.CIM_TS_MSCAN_BUSY n a))
    (s.set (F.CIM_TS_MSCAN_FCNT n a) 0).setArr n a { s.arr n a with scan := some isB }

/-- Bench asks for the rows of a task until one waits, and ends the session after the last; a twin that is to be offered for
a switch is scanned first (R536). -/
def feedTask (n a : Nat) : Nat → State → State
  | 0, s => s
  | fuel + 1, s =>
    match s.fw.tasks.find? (fun k => k.tile == n && k.array == a) with
    | none => s
    | some k =>
      let x := s.arr n a
      if 512 < k.next then s
      else if k.next < 512 then
        if x.queued.isSome then s
        else
          let buf := k.next % 2
          let s := pgmGo n a buf k.next (fillBuffer n a buf k.next k.image s)
          feedTask n a fuel (s.setTasks (s.fw.tasks.map (fun y => if y.tile = n ∧ y.array = a then { y with next := k.next + 1 } else y)))
      else if x.busy.isSome ∨ x.queued.isSome then s
      else
        let s := pgmFinish n a s
        let others := s.fw.tasks.filter (fun y => !(y.tile == n && y.array == a))
        if (k.why = .refresh ∨ k.why = .update) ∧ ((s.arr n a).bank (!(s.arr n a).cb)).state = .valid then
          scanStart n a (!(s.arr n a).cb) (s.get (F.CIM_TS_MSCAN_MARGIN n a)) (s.setTasks (others ++ [{ k with next := 513 }]))
        else s.setTasks others

/-- Bench starts programming the twin of an array from an image. -/
def startTask (n a tag : Nat) (image : List Byte) (why : PgmWhy) (s : State) : State :=
  let s := s.set (F.CIM_A_SEAL_IN n a) tag
  let s := pgmStart n a (!(s.arr n a).cb) s
  let s := s.setTasks (s.fw.tasks ++ [{ tile := n, array := a, tag := tag, image := image, why := why }])
  feedTask n a 3 s

/-- Row CIM_ROW_DONE: Bench goes on with the bank if it is programming it. -/
def execCimRowDone (tile array loops : Nat) (failed : List Nat) (s : State) : Res :=
  .next (if arrOn s tile array then feedTask tile array 3 (rowDone tile array loops failed s) else s)

/-! ### The seconds and the bursts (R523 to R526) -/

/-- LOWACT (R525). (DEDUCED, log entry 63) -/
def lowAct : Nat := 1000

/-- Row CONV_SEC_UPDATE: every array's count of the second, and Bench's INJECT. -/
def execConvSecUpdate (s : State) : Res :=
  .next ((List.range s.cfg.tiles).foldl (fun s n =>
    if !s.tileOn n then s
    else (List.range 4).foldl (fun s a =>
      let x := s.arr n a
      let s := (s.setArr n a { x with convSec := 0 }).set (F.CIM_TS_CONV_SEC n a) x.convSec
      if s.mgtOn then s.set (F.CIM_TS_CTL_INJECT n a) (b2n (decide (x.convSec < lowAct))) else s) s) s)

/-- One step of x^16 + x^14 + x^13 + x^11 + 1. -/
def lfsrStep (x : Nat) : Nat :=
  let b := (x / 1 + x / 4 + x / 8 + x / 32) % 2
  x / 2 + b * 2 ^ 15

/-- `k` steps. (DESIGN CHOICE, log entry 29) -/
def lfsrSteps : Nat → Nat → Nat
  | 0, x => x
  | k + 1, x => lfsrSteps k (lfsrStep x)

/-- The next conversion of the burst: its active rows come from the LFSR; the expectation of pair 267 over them is a free
value, as the spec does not say how (DESIGN CHOICE, log entry 29). Its data codes are discarded. -/
def burstConv (n a : Nat) (s : State) : State :=
  let x := s.arr n a
  let k := (256 - x.burst) % 128 + 1
  let e := clampI (-(15 * k)) (15 * k) (residual s.freeCtr)
  let b := bandOf k
  let touch := [touchResidual b (15 * k) (residual (s.freeCtr + 1)), touchResidual b (-(15 * k)) (residual (s.freeCtr + 2)),
                touchResidual b 0 (residual (s.freeCtr + 3)), touchResidual b e (residual (s.freeCtr + 4))]
  let c : Conv := { n := k, band := b, q := 0, delta := 1, codes := [], clipped := 0, touch := touch }
  let s := (s.setFreeCtr (s.freeCtr + 5))
  let s := s.setArr n a { x with burst := x.burst - 1, lfsr := lfsrSteps k x.lfsr }
  let s := windowAdd n a c s
  if x.burst = 1 then s.clear (F.CIM_TS_CTL_BURST n a) else s

/-- `k` conversions of the burst in progress. -/
def burstRun (n a : Nat) : Nat → State → State
  | 0, s => s
  | k + 1, s => if (s.arr n a).burst = 0 then s else burstRun n a k (burstConv n a s)

/-- The calibration slot of tile `n` has begun (R523). -/
def inCalSlot (s : State) (n : Nat) : Bool :=
  s.epochNum % 64 == s.get (F.CIM_CAL_CAL_PHASE n) && decide (s.tb.start + s.get (F.CIM_CAL_CAL_OFS n) ≤ s.T)

/-- Row CAL_BURST_START: the burst of the slot starts, and its next `conversions` conversions run; while a burst runs, the
command only goes on with it. A CIMX that has stopped at a group boundary is in progress. (DEDUCED, log entry 63) -/
def execCalBurstStart (tile array conversions : Nat) (s : State) : Res :=
  .next (
    if !arrOn s tile array then s
    else
      let x := s.arr tile array
      let cimx := bitOf (s.seq tile).mprog.toNat 31 && bitsOf (s.seq tile).mprog.toNat 23 16 == 0x3A
      let s := if x.burst = 0 && !x.burstDone && s.flag (F.CIM_TS_CTL_INJECT tile array) && inCalSlot s tile
          && decide (x.cbank.state = .valid) then
          (s.setArr tile array { x with burst := 256, burstDone := true, lfsr := s.T % 2 ^ 16 }).raise (F.CIM_TS_CTL_BURST tile array)
        else s
      if cimx then s else burstRun tile array conversions s)

/-- R526: at an epoch's end, burst conversions not started are abandoned. -/
def burstBoundary (n : Nat) (s : State) : State :=
  (List.range 4).foldl (fun s a =>
    let x := s.arr n a
    let s := if x.burst ≠ 0 then (s.inc (F.CIM_TS_CAL_MISS n a)).clear (F.CIM_TS_CTL_BURST n a) else s
    if x.burst ≠ 0 ∨ x.burstDone then s.setArr n a { x with burst := 0, burstDone := false } else s) s

/-! ### The assay monitor (R527 to R531) -/

/-- Logical tile that the running NRT maps to physical tile `n`, for reports to the host. -/
def logicalOf (s : State) (n : Nat) : Nat := ((List.range 192).find? (fun i => remap s i == some n)).getD n

/-- Array `a` fails one of its comparisons. -/
def arrayViolates (s : State) (n a : Nat) : Bool :=
  let x := s.arr n a
  let total := x.hist.sum
  if total = 0 then false
  else
    (List.range 16).any (fun i =>
      let f := 65536 * x.hist.getD i 0 / total
      decide (f < assayGet s n (F.ASSAY_ENV_LO n a i)) || decide (assayGet s n (F.ASSAY_ENV_HI n a i) < f))
    || decide (assayGet s n (F.ASSAY_CLIP_HI n a) < 65536 * x.clips / max 1 x.codes)

/-- The tile's FIRED count fails (R528). -/
def fireViolates (s : State) (n : Nat) : Bool :=
  let f := (s.tile n).ne.firedWin
  decide (f < assayGet s n (F.ASSAY_FIRE_LO n)) || decide (assayGet s n (F.ASSAY_FIRE_HI n) < f)

/-- Registers +0x2600 to +0x2AFF of tile `n`: the assay registers. (DEDUCED, log entry 64) -/
def assayReg (n : Nat) (k : Nat) : Bool :=
  let b := 0x2000000 + n * 0x10000
  decide (b + 0x2600 ≤ k) && decide (k < b + 0x2B00)

/-- The window in progress ends. (DEDUCED, log entry 64) -/
def assayClose (n : Nat) (s : State) : State :=
  let viol := (List.range 4).map (arrayViolates s n)
  let fire := fireViolates s n
  let s := (List.range 4).foldl (fun s a =>
    let x := s.arr n a
    let s := (List.range 16).foldl (fun s i => s.set (F.ASSAY_HIST n a i) (min (2 ^ 32 - 1) (x.hist.getD i 0))) s
    s.setArr n a { x with viols := if viol.getD a false then x.viols + 1 else 0 }) s
  let c := (s.tile n).cim
  let s := s.setCim n { c with fireViols := if fire then c.fireViols + 1 else 0 }
  let s := s.set (F.ASSAY_STAT_VIOL n) ((List.range 4).map (fun a => b2n (viol.getD a false) * 2 ^ a)).sum
  let s := s.set (F.ASSAY_STAT_FIRE_VIOL n) (b2n fire)
  let an := assayGet s n (F.ASSAY_CFG_ALARM_N n)
  let c := (s.tile n).cim
  if c.fireViols = an ∧ fire ∨ c.arrays.any (fun x => x.viols = an ∧ x.viols ≠ 0) then
    let s := (s.raise (F.ASSAY_STAT_ALARM n)).bench .assayAlarm n
    s.owe 0x03 (logicalOf s n) (s.reg (F.ASSAY_STAT_ALARM n).off).toNat
  else s

/-- A window begins: empty statistics, and the assay registers come into force. (DEDUCED, log entry 64) -/
def assayOpen (n : Nat) (s : State) : State :=
  let s := (List.range 4).foldl (fun s a => s.setArr n a { s.arr n a with hist := List.replicate 16 0, clips := 0, codes := 0 }) s
  let s := s.setTile n { s.tile n with ne := { (s.tile n).ne with firedWin := 0 } }
  s.setCim n { (s.tile n).cim with assay := s.regs.filter (fun e => assayReg n e.1) }

/-- Row ASSAY_WINDOW_END: at an epoch whose number is a multiple of ASSAY_EP a window ends and the next begins. -/
def execAssayWindowEnd (tile : Nat) (s : State) : Res :=
  .next (
    if !s.tileOn tile then s
    else
      let ep := if assayOn s tile then assayGet s tile (F.ASSAY_CFG_ASSAY_EP tile) else s.get (F.ASSAY_CFG_ASSAY_EP tile)
      if s.epochNum % ep ≠ 0 then s
      else assayOpen tile (if assayOn s tile then assayClose tile s else s))

/-! ### Margin scans and spares (R534 to R541, R552; 21 R819) -/

/-- Row MARGIN_SCAN_START. -/
def execMarginScanStart (agent : Agent) (tile array : Nat) (bankB : Bool) (margin : BitVec 4) (s : State) : Res :=
  .next (if array < 4 then
    s.guardTile tile agent (F.CIM_TS_MSCAN_START tile array).off (scanStart tile array bankB margin.toNat) else s)

/-- SPGO for spare `sp` of the compute bank (R540, R547). (DEDUCED, log entry 64) -/
def spareStart (n a sp pair : Nat) (s : State) : State :=
  let s := (s.set (F.CIM_TS_SP_CTL_SPARE n a) sp).set (F.CIM_TS_SP_CTL_PAIR n a) pair
  let x := s.arr n a
  let b := x.cbank
  let st := (b.subst.getD sp (0, 0)).2
  if st = 1 ∨ st = 2 ∨ x.spare.isSome then pgmRefuse n a s
  else (s.setArr n a { (x.setBank x.cb { b with subst := b.subst.set sp (pair, 1) }) with spare := some (x.cb, sp, pair) }).raise
    (F.CIM_TS_SP_CTL_BUSY n a)

/-- Row SPARE_PROGRAM_START. -/
def execSpareProgramStart (agent : Agent) (tile array : Nat) (spare : BitVec 3) (pair : BitVec 8) (s : State) : Res :=
  .next (if array < 4 then
    s.guardTile tile agent (F.CIM_TS_SP_CTL_SPGO tile array).off (spareStart tile array spare.toNat pair.toNat) else s)

/-- The 512 slices in the spare buffer. -/
def spareImage (s : State) (n a : Nat) : List Byte := (List.range 128).flatMap (fun i => leBytes 4 (s.get (F.CIM_SPBUF n a i)))

/-- The spare program ends: its slices stand, and the entry is ACTIVE, or FAILED where a cell did not verify. -/
def spareDone (n a : Nat) (ok : Bool) (s : State) : State :=
  let x := s.arr n a
  match x.spare with
  | none => s
  | some (isB, sp, pair) =>
    let img := spareImage s n a
    let b := x.bank isB
    let b := { b with subst := b.subst.set sp (pair, if ok then 2 else 3), unspecPairs := b.unspecPairs.filter (fun u => u.1 ≠ 256 + sp) }
    let b := (List.range 512).foldl (fun b r => b.put r (256 + sp) (img.getD r 0).toInt) b
    let s := (s.setArr n a { (x.setBank isB b) with spare := none }).clear (F.CIM_TS_SP_CTL_BUSY n a)
    grantSlot s

/-- Sections of the golden region that hold the weights of logical tile `i`, array `a` (R659, R675). -/
def goldenWeights (s : State) (i a : Nat) : Option Sect :=
  match s.fw.plan with
  | none => none
  | some p => p.sects.find? (fun x => x.ty == 9 && x.target == i + 256 * a && !s.ras.badGolden.contains x.ix)

/-- A weight update in progress names the array: no refresh and no spare program starts on it (18 R703). -/
def updating (s : State) (n a : Nat) : Bool :=
  s.fw.job.any (fun j => j.op == 0x12 && j.sects.any (fun x => x.target == logicalOf s n + 256 * a))

/-- The log entry of a spare program (R819). -/
def spareLog (n a : Nat) (s : State) : State := rasLog 6 .scrub false n a 0 s

/-- R819, R552: Bench gives each failing pair of a compute bank a FREE spare and starts its program from the golden region;
one spare program runs at a time in an array. With no spare FREE, Bench is notified. -/
def assignSpare (n a pair : Nat) (s : State) : State :=
  let x := s.arr n a
  let b := x.cbank
  if b.via pair ≠ pair ∨ b.subst.any (fun e => e.1 == pair && e.2 == 1) then s
  else
    let sp := b.subst.findIdx (fun e => e.2 == 0)
    if 8 ≤ sp then s.bench .rowFailed (n * 4 + a)
    else if x.spare.isSome || updating s n a then s
    else match goldenWeights s (logicalOf s n) a with
    | none => s.bench .rowFailed (n * 4 + a)
    | some g =>
      let w := g.data.drop 4
      let s := (List.range 128).foldl (fun s i =>
        s.set (F.CIM_SPBUF n a i) (leNat ((List.range 4).map (fun j => w.getD ((4 * i + j) * 256 + pair) 0)))) s
      spareLog n a (spareStart n a sp pair s)

/-- Row SPARE_PROGRAM_DONE. -/
def execSpareProgramDone (tile array : Nat) (verified : Bool) (s : State) : Res :=
  .next (if arrOn s tile array && (s.arr tile array).spare.isSome then spareLog tile array (spareDone tile array verified s) else s)

/-- The scan completes; `failed` are the pairs with a cell outside its margin. A touchstone pair of the compute bank acts
through the windows (R535). -/
def scanDone (n a : Nat) (failed : List Nat) (s : State) : State :=
  let x := s.arr n a
  match x.scan with
  | none => s
  | some isB =>
    let compute := x.cb == isB
    let bad := (failed.foldl setIns []).filter (fun p => decide (p < (if compute then 264 else 268)))
    let s := bad.foldl (fun s p => s.set (F.CIM_TS_RFAIL n a (p / 32)) (s.get (F.CIM_TS_RFAIL n a (p / 32)) ||| 2 ^ (p % 32))) s
    let s := s.set (F.CIM_TS_MSCAN_FCNT n a) bad.length
    let s := (s.clear (F.CIM_TS_MSCAN_BUSY n a)).raise (F.CIM_TS_MSCAN_DONE n a)
    let s := (s.setArr n a { s.arr n a with scan := none }).bench .marginDone (n * 4 + a)
    if compute then (bad.filter (· < 256)).foldl (fun s p => assignSpare n a p s) s else s

/-! ### Retention (R532, R533, R537, R703) -/

/-- A bank's age reaches REFRESH_AGE: Bench starts the refresh on the twin from the golden region, where the plan has a swap
point for the tile (`swap`) or the bank is the twin itself. -/
def refreshDue (n a : Nat) (isB swap : Bool) (s : State) : State :=
  let x := s.arr n a
  let s := (s.setArr n a (x.setBank isB { x.bank isB with due := true })).bench .retention (n * 4 + a)
  let busy := x.session || s.fw.tasks.any (fun k => k.tile == n && k.array == a) || updating s n a
  match goldenWeights s (logicalOf s n) a with
  | some g => if (swap || x.cb != isB) && !busy then startTask n a (leNat (g.data.take 4)) (g.data.drop 4) .refresh s else s
  | none => s

/-- Row RETENTION_REFRESH_DUE. (DEDUCED, log entry 65) -/
def execRetentionRefreshDue (tile array : Nat) (bankB swap : Bool) (s : State) : Res :=
  .next (if arrOn s tile array then refreshDue tile array bankB swap s else s)

/-- Row RETENTION_EXPIRED: Bench reports the bank to the host (R533). (DEDUCED, log entry 65) -/
def execRetentionExpired (tile array : Nat) (bankB : Bool) (s : State) : Res :=
  .next (
    if array < 4 ∧ tile < s.cfg.tiles then
      let x := s.arr tile array
      let s := s.setArr tile array (x.setBank bankB { x.bank bankB with expired := true })
      s.owe 0x04 (logicalOf s tile) (array + b2n bankB * 256)
    else s)

end Sys2Proof.Machine
end

