-- ==== Sys2Proof/Machine/PlanImage.lean ====
section
/-!
DEFINITION. Sys2Proof/Machine/PlanImage.lean: a plan image in LPDDR5X, its header and sections (17 R657 to R659), and the checks
of R661 that the image and the model's state decide.
-/

namespace Sys2Proof.Machine

/-- A refusal: code of R661 and DETAIL. -/
abbrev Refused := Nat × Nat

/-- DETAIL of the header and trailer, and of a check over the whole plan. -/
def detHeader : Nat := 0xFFFF
/-- DETAIL of a check over the whole plan. -/
def detPlan : Nat := 0xFFFE

/-- An entry of the section table: TYPE, FLAGS, TARGET, OFFSET, LENGTH (R658). -/
abbrev Entry := List Nat

/-- Bytes of LPDDR5X. -/
def lpRead (s : State) (a n : Nat) : List Byte := memBytes s.mem.lp a n

/-- A word of the range is poisoned (R682). -/
def lpPoisoned (s : State) (a n : Nat) : Bool := s.mem.lpBad.any (fun l => decide (a < l * 8 + 8) && decide (l * 8 < a + n))

/-- The words of a section from byte `o`. -/
def wordsAt (b : List Byte) (o n : Nat) : List Nat := (List.range n).map (fun i => leAt b (o + 4 * i) 4)

/-! ### The header and the section table (R657, R658) -/

/-- Entry `i` of the table. -/
def sectEntry (b : List Byte) (i : Nat) : Entry :=
  let o := leAt b 0x1C 4 + 16 * i
  [leAt b o 2, leAt b (o + 2) 2, leAt b (o + 4) 4, leAt b (o + 8) 4, leAt b (o + 12) 4]

/-- SIGNED of FLAGS. -/
def imgSigned (b : List Byte) : Bool := bitOf (leAt b 0x0C 4) 1

/-- Where the trailer begins. -/
def imgEnd (b : List Byte) : Nat := leAt b 8 4 - (if imgSigned b then 144 else 48)

/-- The header is as R657 states; `len` is the command's LEN. -/
def headerOk (b : List Byte) (len : Nat) : Bool :=
  let cnt := leAt b 0x1A 2
  let so := leAt b 0x1C 4
  let opp := leAt b 0x28 8
  decide (64 ≤ len) && leAt b 0 4 == 0x4E414C50 && leAt b 8 4 == len && len % 16 == 0 && decide (len ≤ 512 * 2 ^ 20)
  && decide (leAt b 0x0C 4 < 4) && decide (1 ≤ cnt) && decide (cnt ≤ 1024) && so % 16 == 0 && decide (64 ≤ so)
  && decide (so + 16 * cnt ≤ imgEnd b) && decide (4000 ≤ leAt b 0x20 4) && decide (leAt b 0x20 4 ≤ 1000000)
  && opp / 2 ^ 48 == 0 && (List.range 12).all (fun k => decide (opp / 16 ^ k % 16 ≤ 3))
  && decide (2 ≤ leAt b 0x30 1) && decide (leAt b 0x30 1 ≤ 64) && decide (leAt b 0x31 1 ≤ 1)
  && leAt b 0x32 2 == 0 && leAt b 0x38 8 == 0

/-- The length that a TYPE requires (R658, R659). -/
def lengthOk (tileLocal : Bool) (ty : Nat) (d : List Byte) : Bool :=
  let n := d.length
  match ty with
  | 1 => n == 544
  | 2 => n == 20
  | 3 => n == 28
  | 4 => n == 7492
  | 5 => decide (4 ≤ n) && n % 4 == 0 && decide (n ≤ 4 + 16384)
  | 6 => decide (16 ≤ n) && decide (n ≤ 16 + 49152)
  | 7 => n == 3132
  | 8 => decide (4 ≤ n) && decide (0x10000 ≤ leAt d 0 4) && decide (leAt d 0 4 + (n - 4) ≤ 0x60000)
  | 9 => n == 131076
  | 10 => n == 440
  | 11 => decide (288 ≤ n) && n % 4 == 0
  | 12 => decide (28 ≤ n) && n == 28 + 8 * leAt d 0 4 + 8 * leAt d 4 4
  | 13 => decide (1 ≤ n) && decide (n ≤ 128)
  | 14 =>
    let nl := leAt d 0 4
    let nt := leAt d 4 4
    decide (8 ≤ n) && decide (nl ≤ 4096) && decide (nt ≤ 192) && n == 8 + 8 * nl + (if tileLocal then 20 else 16) * nt
  | _ => true

/-- The TARGET names what its TYPE has (R659). -/
def targetOk (ty t : Nat) : Bool :=
  match ty with
  | 1 => decide (t < 32)
  | 2 => decide (t < 16)
  | 3 => decide (t < 16)
  | 9 => decide (t < 1024)
  | 13 => decide (t < 64)
  | 4 => t == 0
  | 11 => t == 0
  | 12 => t == 0
  | 14 => t == 0
  | _ => decide (t < 256)

/-- Two byte ranges meet. -/
def meet (a n b m : Nat) : Bool := decide (0 < n) && decide (0 < m) && decide (a < b + m) && decide (b < a + n)

/-- The table's entries. -/
def sectEntries (b : List Byte) : List Entry := (List.range (leAt b 0x1A 2)).map (sectEntry b)

/-- Section `i` breaks R658. -/
def sectBad (b : List Byte) (es : List Entry) (i : Nat) : Bool :=
  let e := es.getD i []
  let ty := e.getD 0 0
  let off := e.getD 3 0
  let len := e.getD 4 0
  decide (1 < e.getD 1 0) || off % 16 != 0 || decide (imgEnd b < off + len)
  || meet off len 0 64 || meet off len (leAt b 0x1C 4) (16 * es.length)
  || (List.range i).any (fun j => meet off len ((es.getD j []).getD 3 0) ((es.getD j []).getD 4 0))
  || (if 1 ≤ ty ∧ ty ≤ 14 then !(targetOk ty (e.getD 2 0)) || !(lengthOk (bitOf (leAt b 0x0C 4) 0) ty (slice b off len))
      else !bitOf (e.getD 1 0) 0)

/-- The sections that Bench uses; one of unknown TYPE is skipped. (PRESUMED, log entry 72) -/
def sectsOf (b : List Byte) (es : List Entry) : List Sect :=
  (es.zipIdx.filter (fun e => decide (1 ≤ e.1.getD 0 0) && decide (e.1.getD 0 0 ≤ 14))).map (fun e =>
    { ix := e.2, ty := e.1.getD 0 0, target := e.1.getD 2 0, data := slice b (e.1.getD 3 0) (e.1.getD 4 0) })

/-- Code 0x02: the format. -/
def formatCheck (b : List Byte) (len : Nat) : Option Refused :=
  if !headerOk b len then some (2, detHeader)
  else
    let es := sectEntries b
    ((List.range es.length).find? (sectBad b es)).map (fun i => (2, i))

/-- The plan of an image whose format is good. (PRESUMED, log entry 72) -/
def planOf (b : List Byte) : Plan :=
  { abiMajor := leAt b 4 2, abiMinor := leAt b 6 2, tileLocal := bitOf (leAt b 0x0C 4) 0, id := leAt b 0x10 8,
    epochLen := leAt b 0x20 4, declLat := leAt b 0x24 4, oppMin := (List.range 12).map (fun k => leAt b 0x28 8 / 16 ^ k % 16),
    ctShare := leAt b 0x30 1, originSec := leAt b 0x31 1 == 1, golden := leAt b 0x34 4, digest := slice b (imgEnd b) 48,
    sects := sectsOf b (sectEntries b) }

/-! ### What a plan names -/

/-- The sections of a type. -/
def Plan.ofTy (p : Plan) (ty : Nat) : List Sect := p.sects.filter (fun x => x.ty == ty)

/-- The logical tile of a tile section. -/
def Sect.tile (x : Sect) : Nat := x.target % 256

/-- Types whose TARGET is a tile. -/
def tileTy (ty : Nat) : Bool := decide (5 ≤ ty) && decide (ty ≤ 10)

/-- The physical node of logical node index `i` under the plan: its own NRT, else the copy that the next flip brings. -/
def Plan.node (p : Plan) (s : State) (i : Nat) : Nat × Bool :=
  let w := match (p.ofTy 4).head? with
    | some r => leAt r.data (4 * i) 4
    | none => s.get (F.EVF_NRT_SHADOW i)
  (w % 4096, bitOf w 15)

/-- The physical tile of logical tile `i`. -/
def Plan.phys (p : Plan) (s : State) (i : Nat) : Nat := (p.node s i).1

/-- The logical tiles that the plan gives any section. -/
def Plan.tiles (p : Plan) : List Nat := ((p.sects.filter (fun x => tileTy x.ty)).map Sect.tile).foldl setIns []

/-- The logical tiles that run a program: those with an IMEM section. -/
def Plan.progTiles (p : Plan) : List Nat := ((p.ofTy 5).map Sect.tile).foldl setIns []

/-- The physical tiles that the plan uses. -/
def Plan.physTiles (p : Plan) (s : State) : List Nat := (p.tiles.map (p.phys s)).foldl setIns []

/-- The clusters that the plan uses. -/
def Plan.clusters (p : Plan) (s : State) : List Nat := ((p.physTiles s).map (· / 16)).foldl setIns []

/-- Size of the golden region: the images of R675 and R687. (DEDUCED, log entry 73) -/
def Plan.goldenBytes (p : Plan) : Nat :=
  ((p.sects.filter (fun x => x.ty == 5 || x.ty == 6 || x.ty == 7 || x.ty == 9 || x.ty == 10)).map (fun x => x.data.length)).sum

/-- Clock of an operating point, MHz (R778). -/
def oppMhz (o : Nat) : Nat := [400, 700, 1000, 1250].getD o 400

/-- Clock of OPP_MIN of the cluster of logical tile `i`. -/
def Plan.mhz (p : Plan) (s : State) (i : Nat) : Nat := oppMhz (p.oppMin.getD (p.phys s i / 16) 0)

/-- First element of a list for which a check fails, as a refusal. -/
def refuseAt (code : Nat) (l : List Sect) (bad : Sect → Bool) : Option Refused := (l.find? bad).map (fun x => (code, x.ix))

/-- A check over the whole plan. -/
def refuseIf (code : Nat) (bad : Bool) : Option Refused := if bad then some (code, detPlan) else none

/-! ### Checks 0x04 to 0x0A -/

/-- 0x03: the trailer's digest. -/
def digestCheck (b : List Byte) : Option Refused :=
  if Config.sha384 (b.take (imgEnd b)) = slice b (imgEnd b) 48 then none else some (3, detHeader)

/-- 0x04 (22 R864): the plan key's signature. -/
def signatureCheck (s : State) (b : List Byte) : Option Refused :=
  let ok :=
    if imgSigned b then ownerKey s && Config.ecdsaOk (planKey s) (b.take (imgEnd b)) (slice b (imgEnd b + 48) 96)
    else !s.flag F.GLB_LC_SIGNED_PLANS
  if ok then none else some (4, detHeader)

/-- A plan ABI that the entries of a Bench image support (22 R850, R861). -/
def abiIn (abi : List (Nat × Nat)) (major minor : Nat) : Bool := abi.any (fun e => e.1 == major && e.1 != 0 && decide (minor ≤ e.2))

/-- 0x05 (22 R861). -/
def abiCheck (s : State) (p : Plan) : Option Refused :=
  if abiIn s.fw.abi p.abiMajor p.abiMinor then none else some (5, detHeader)

/-- 0x06. -/
def steppingCheck (s : State) (b : List Byte) : Option Refused := if bitOf (leAt b 0x18 2) (stepBit s) then none else some (6, detHeader)

/-- 0x07: `addr` and `len` are the image's. -/
def memoryCheck (s : State) (p : Plan) (addr len : Nat) : Option Refused :=
  let g := p.golden * 2 ^ 20
  let n := p.goldenBytes
  if !s.flag F.MEM_STAT_READY || decide (lpBytes s < g + n) || meet g n addr len
      || meet g n (s.get F.SYNC_MB_BASE * 2 ^ 24) (2 ^ 24) then some (7, detHeader) else none

/-- The node exists, or stands for itself on a part that lacks it. -/
def nodePresent (s : State) (n : Nat) : Bool := nodeOk s n

/-- Words of mapping entry `e` of a GATE section. (DEDUCED, log entry 47) -/
def gateMap (x : Sect) (e : Nat) : List Nat := wordsAt x.data (32 + 16 * e) 4

/-- 0x08 (R11): tiles, clusters and nodes that the part lacks. -/
def absentCheck (s : State) (p : Plan) : Option Refused :=
  let bad := fun (x : Sect) =>
    if tileTy x.ty then decide (192 ≤ x.tile) || (p.node s x.tile).2 || decide (s.cfg.tiles ≤ p.phys s x.tile)
    else if x.ty = 1 then (List.range 32).any (fun e =>
      let m := gateMap x e
      bitOf (m.getD 0 0) 31 && !nodePresent s (bitsOf (m.getD 2 0) 11 0))
    else if x.ty = 4 then
      (List.range 208).any (fun i =>
        nodePresent s (indexNode i) &&
          (let w := leAt x.data (4 * i) 4
           (!bitOf w 15 && !nodePresent s (w % 4096))
           || (List.range 208).any (fun j =>
                bitOf (leAt x.data (832 + 32 * i + 4 * (j / 32)) 4) (j % 32) && !nodePresent s (indexNode j))))
    else if x.ty = 14 then (List.range (leAt x.data 0 4)).any (fun k => !nodePresent s (leAt x.data (8 + 8 * k) 4 % 4096))
    else false
  match refuseAt 8 p.sects bad with
  | some r => some r
  | none => if (List.range 12).any (fun k => decide (s.clusters ≤ k) && decide (0 < p.oppMin.getD k 0)) then some (8, detHeader) else none

/-- Configuration word of a GATE section and its fields. (PRESUMED, log entry 72) -/
def gateCfg (x : Sect) : Nat := leAt x.data 0 4

/-- Largest number of entries that one binned coordinate of the declared geometry matches (R236, R664). -/
def gateFan (x : Sect) : Nat :=
  let bin := bitsOf (gateCfg x) 4 3
  let xm := (leAt x.data 28 2 - 1) / 2 ^ bin
  let ym := (leAt x.data 30 2 - 1) / 2 ^ bin
  let ms := ((List.range 32).map (gateMap x)).filter (fun m => bitOf (m.getD 0 0) 31)
  let xs := (ms.map (fun m => bitsOf (m.getD 0 0) 10 0)).filter (· ≤ xm)
  let ys := (ms.map (fun m => bitsOf (m.getD 1 0) 9 0)).filter (· ≤ ym)
  xs.foldl (fun a i => ys.foldl (fun a j => max a (ms.filter (fun m => mapMatches m i j)).length) a) 0

/-- A mapping entry can form a TARGET above 0xFFFF within the declared geometry. -/
def mapOver (x : Sect) (m : List Nat) : Bool :=
  let bin := bitsOf (gateCfg x) 4 3
  let x1 := min (bitsOf (m.getD 0 0) 26 16) ((leAt x.data 28 2 - 1) / 2 ^ bin)
  let y1 := min (bitsOf (m.getD 1 0) 25 16) ((leAt x.data 30 2 - 1) / 2 ^ bin)
  let x0 := bitsOf (m.getD 0 0) 10 0
  let y0 := bitsOf (m.getD 1 0) 9 0
  bitOf (m.getD 0 0) 31 && decide (x0 ≤ x1) && decide (y0 ≤ y1)
  && decide (65535 < bitsOf (m.getD 3 0) 15 0 + (y1 - y0) * bitsOf (m.getD 3 0) 31 16 + (x1 - x0))

/-- 0x09 (R236). -/
def gateCheck (p : Plan) : Option Refused :=
  refuseAt 9 (p.ofTy 1) (fun x =>
    let c := gateCfg x
    decide (1048576 < bitsOf c 15 8 * p.epochLen)
    || (decide (16 ≤ x.target) && (bitsOf c 2 1 == 0 || bitsOf c 4 3 != 0))
    || (List.range 32).any (fun e => mapOver x (gateMap x e)) || decide (4 < gateFan x))

/-- 0x0A (R263). -/
def encoderCheck (p : Plan) : Option Refused :=
  refuseIf 10 (decide (160000000 < ((p.ofTy 2).map (fun x => leAt x.data 16 4)).sum))

/-! ### Checks 0x0B to 0x14 -/

/-- The link records: node, port, FLITS. -/
def Plan.links (p : Plan) : List (Nat × Nat × Nat) :=
  (p.ofTy 14).flatMap (fun x => (List.range (leAt x.data 0 4)).map (fun k =>
    let w := leAt x.data (8 + 8 * k) 4
    (w % 4096, bitsOf w 14 12, leAt x.data (12 + 8 * k) 4)))

/-- The tile records: logical tile, CYC, PORT, EBT, LAT. -/
def Plan.loads (p : Plan) : List (Nat × Nat × Nat × Nat × Nat) :=
  (p.ofTy 14).flatMap (fun x =>
    let o := 8 + 8 * leAt x.data 0 4
    let sz := if p.tileLocal then 20 else 16
    (List.range (leAt x.data 4 4)).map (fun k =>
      let a := o + sz * k
      (leAt x.data a 1, leAt x.data (a + 4) 4, leAt x.data (a + 8) 4, leAt x.data (a + 12) 2,
        if p.tileLocal then leAt x.data (a + 16) 4 else 0)))

/-- F: fabric cycles of an epoch left to EV (R664). -/
def Plan.flitMax (p : Plan) : Nat := 8 * p.epochLen * (p.ctShare - 1) / p.ctShare

/-- Nodes in the boundary list of node index `i` under the plan. -/
def Plan.listCount (p : Plan) (i : Nat) : Nat :=
  match (p.ofTy 4).head? with
  | some r => ((List.range 208).filter (fun j => bitOf (leAt r.data (832 + 32 * i + 4 * (j / 32)) 4) (j % 32))).length
  | none => 0

/-- The lower bound for ingress node IN`k` (R664). (DEDUCED, log entry 73) -/
def Plan.ingress (p : Plan) (k : Nat) : Nat :=
  (((p.ofTy 1).filter (fun x => x.target % 16 / 2 == k && bitOf (gateCfg x) 0)).map (fun x => leAt x.data 4 4 % 2 ^ 20 * gateFan x)).sum
    + p.listCount (192 + k)

/-- 0x0B (R303, R664). (DEDUCED, log entry 73) -/
def fabricCheck (p : Plan) : Option Refused :=
  match refuseIf 11 (p.links.any (fun l => decide (p.flitMax < l.2.2))
      || (List.range 8).any (fun k => decide (((p.links.find? (fun l => l.1 == 16 * k && l.2.1 == 3)).map (fun l => l.2.2)).getD 0 < p.ingress k))) with
  | some r => some r
  | none => refuseAt 11 (p.ofTy 6) (fun x =>
      let size := bitsOf (leAt x.data 4 4) 27 16
      let inb := leAt x.data 12 4 % 2048
      meet (leAt x.data 0 4 % 65536) (4 * size) (leAt x.data 8 4 % 65536) (if inb = 0 then 0 else 8 + 8 * inb))

/-- The NE section's registers, dynamics memory and decay tables, written into tile `n` (R659). (PRESUMED, log entry 72) -/
def writeNe (n : Nat) (x : Sect) (s : State) : State :=
  let b := 0x2000000 + n * 0x10000
  let s := s.set (F.NE_CTL_STAMP_INIT n) (leAt x.data 0 4 / 2)
  let s := s.typedAll (b + 0x108) (wordsAt x.data 4 206)
  let s := s.typedAll (b + 0x800) (wordsAt x.data 828 64)
  let s := s.typedAll (b + 0x1000) (wordsAt x.data 1084 512)
  s.setNe n { s.ne n with badWords := [] }

/-- 0x0C (R460), with the section's registers laid out on its tile. -/
def neBad (s : State) (p : Plan) (x : Sect) : Bool :=
  let n := p.phys s x.tile
  let t := writeNe n x s
  let rs := regionsOf t n
  let gs := ringsOf t n
  let total := (rs.map (fun r => r.count)).sum
  let pair := fun {α : Type} (l : List α) (f : α → α → Bool) =>
    (List.range l.length).any (fun i => (List.range i).any (fun j =>
      match l[i]?, l[j]? with
      | some a, some b => f a b
      | _, _ => false))
  rs.any (fun r => r.fmt == 3 || r.mbase % r.size != 0 || decide (0x40000 < r.mbase + r.count * r.size)
    || decide (2 ^ (14 + r.k) * p.mhz s x.tile * 8 < 16 * total * 1000)
    || (dynWords t n r.cls).any (dynIllegal r.ty))
  || pair rs (fun a b => meet a.tbase a.count b.tbase b.count || meet a.mbase (a.count * a.size) b.mbase (b.count * b.size))
  || gs.any (fun g => decide (0x10000 < g.rbase + g.count * (2 * g.slots)))
  || pair gs (fun a b => meet a.rbase (a.count * (2 * a.slots)) b.rbase (b.count * (2 * b.slots)))

/-- 0x0D (R499): a weight outside its range, or a resolution. -/
def cimCheck (p : Plan) : Option Refused :=
  match refuseAt 13 (p.ofTy 9) (fun x => (x.data.drop 4).any (fun w => decide (w.toInt < -15) || decide (15 < w.toInt))) with
  | some r => some r
  | none => refuseAt 13 (p.ofTy 10) (fun x => (List.range 6).any (fun b => decide (leAt x.data 0 4 / 8 ^ b % 8 < 3)))

/-- 0x0E (R523, R542): a tile with weights has its calibration slot within the epoch. -/
def calibCheck (s : State) (p : Plan) : Option Refused :=
  match refuseAt 14 (p.ofTy 9) (fun x => !(p.ofTy 10).any (fun c => c.tile == x.tile)) with
  | some r => some r
  | none => refuseAt 14 (p.ofTy 10) (fun x =>
      decide (p.epochLen < bitsOf (leAt x.data 4 4) 25 6 + ceilDiv (4096 * 125) (p.mhz s x.tile)))

/-- The LADLE section's words: RUNAHEAD, PERIOD, staging BASE and SIZE (64 KiB), SEG_BASE, bytes in the busiest epoch.
(PRESUMED, log entry 72) -/
def ladleWord (x : Sect) (i : Nat) : Nat := leAt x.data (4 * i) 4

/-- 0x0F (R606): the program and the staging region lie in the pool and do not meet. -/
def ladleCheck (p : Plan) : Option Refused :=
  refuseAt 15 (p.ofTy 11) (fun x =>
    let n := x.data.length - 288
    let st := ladleWord x 2 * 65536
    let sz := ladleWord x 3 * 65536
    decide (7 < ladleWord x 0) || ladleWord x 3 == 0 || decide (255 < ladleWord x 1) || ladleWord x 4 % 64 != 0
    || decide (2 ^ 24 < ladleWord x 4 + n) || decide (2 ^ 24 < st + sz) || meet (ladleWord x 4) n st sz)

/-- Pairs of a SYNC section: handle and value; slot and MB_CFG. (PRESUMED, log entry 72) -/
def syncPairs (x : Sect) : List (Nat × Nat) :=
  (List.range (leAt x.data 0 4)).map (fun i => (leAt x.data (8 + 8 * i) 4, leAt x.data (12 + 8 * i) 4))
/-- Slots of a SYNC section. -/
def syncSlots (x : Sect) : List (Nat × Nat) :=
  let o := 8 + 8 * leAt x.data 0 4
  (List.range (leAt x.data 4 4)).map (fun i => (leAt x.data (o + 8 * i) 4, leAt x.data (o + 8 * i + 4) 4))
/-- SYNC_MB_TO0 to 3 and SYNC_HOSTWR. (PRESUMED, log entry 72) -/
def syncTail (x : Sect) : List Nat := wordsAt x.data (x.data.length - 20) 5

/-- 0x10 (R644): two tiles own one slot, or a slot does not exist. -/
def syncCheck (p : Plan) : Option Refused :=
  refuseAt 16 (p.ofTy 12) (fun x =>
    let l := syncSlots x
    l.any (fun e => decide (4096 ≤ e.1)) || l.any (fun e => l.any (fun f => e.1 == f.1 && bitsOf e.2 21 14 != bitsOf f.2 21 14)))

/-- 0x11 (R665). -/
def cyclesCheck (s : State) (p : Plan) : Option Refused :=
  refuseIf 17 (p.loads.any (fun l =>
    let f := p.mhz s l.1
    decide (p.epochLen * 8 * f / 1000 < l.2.1) || decide (p.epochLen * 8 * f * 15 / 16000 < l.2.2.1)))

/-- 0x12 (R666): 76.8 GB/s. -/
def bandwidthCheck (p : Plan) : Option Refused :=
  refuseAt 18 (p.ofTy 11) (fun x => decide (p.epochLen * 8 * 768 < ladleWord x 5 * 10))

/-- A fanout entry of a DMEM section has REMOTE = 1. -/
def remoteFan (x : Sect) : Bool :=
  let base := leAt x.data 0 4 % 65536
  let cfg := leAt x.data 4 4
  let word := fun i => leAt x.data (16 + base + 4 * i) 4
  (List.range (cfg % 2048)).any (fun l =>
    let d := word l
    (List.range (bitsOf d 16 11)).any (fun j => bitOf (word (d % 2048 + j)) 13))

/-- 0x13 (R667). -/
def localCheck (p : Plan) : Option Refused :=
  if !p.tileLocal then none
  else
    refuseAt 19 p.sects (fun x =>
      x.ty == 11 || (x.ty == 12 && (syncSlots x).any (fun e => bitOf e.2 31 && !bitOf e.2 0)) || (x.ty == 6 && remoteFan x)
      || (x.ty == 1 && bitOf (gateCfg x) 0 && bitsOf (gateCfg x) 2 1 == 0))

/-- 0x14 (R668). -/
def latencyCheck (s : State) (p : Plan) : Option Refused :=
  if !p.tileLocal then none
  else
    refuseIf 20 (decide (2 * p.epochLen + 1250 < p.declLat) || p.loads.any (fun l =>
      decide (p.declLat < p.epochLen + l.2.2.2.1 + ceilDiv (l.2.2.2.2 * 125) (p.mhz s l.1))))

/-- The refusal with the lower code comes first (R661). (DEDUCED, log entry 73) -/
def firstRefusal (l : List (Option Refused)) : Option Refused :=
  l.foldl (fun a x => match a, x with
    | none, x => x
    | some r, some q => if q.1 < r.1 then some q else some r
    | some r, none => some r) none

/-- The first failure of R661 for the image at `addr`. `found` is the first failure, if any, that the
analysis of the plan's programs finds: it stands among the others by its code. (DEDUCED, log entry 73) -/
def planCheck (s : State) (addr len : Nat) (found : Option Refused) : Option Refused :=
  let b := lpRead s addr len
  match formatCheck b len with
  | some r => some r
  | none =>
    let p := planOf b
    firstRefusal [found.filter (fun r => decide (5 ≤ r.1) && decide (r.1 ≤ 20)), digestCheck b, signatureCheck s b, abiCheck s p,
      steppingCheck s b, memoryCheck s p addr len, absentCheck s p, gateCheck p, encoderCheck p, fabricCheck p,
      refuseAt 12 (p.ofTy 7) (neBad s p), cimCheck p, calibCheck s p, ladleCheck p, syncCheck p, cyclesCheck s p,
      bandwidthCheck p, localCheck p, latencyCheck s p]

end Sys2Proof.Machine
end

