-- ==== Sys2Proof/Machine/Plans.lean ====
section
/-!
DEFINITION. Sys2Proof/Machine/Plans.lean: Bench loads, starts, refuses and stops a plan (17 R659 to R683), and what a long command
shows and owes (18 R685, 19 R739, R740).
-/

namespace Sys2Proof.Machine

/-! ### Commands and their completions (19 R739 to R741) -/

/-- A completion that Bench owes for a command. -/
def oweDone (cid op result detail : Nat) (s : State) : State :=
  (s.setHst { s.hst with done := s.hst.done ++ [{ cid := cid, op := op, result := result, detail := detail }] })

/-- GLB_PLAN_REASON as it stands in a completion's DETAIL (R740). -/
def reasonWord (s : State) : Nat := (s.reg F.GLB_PLAN_REASON_REASON.off).toNat

/-- The job in progress, replaced. -/
def State.setJob (s : State) (j : Option Job) : State := s.setFw { s.fw with job := j }

/-- PROC of an opcode (18, GLB_CHG_STAT); 0 for a plan load or stop. -/
def procOf (op : Nat) : Nat :=
  if op = 0x10 then 1 else if op = 0x11 then 2 else if op = 0x12 then 3 else if op = 2 then 4 else if op = 0x13 then 5
  else if op = 0x14 then 6 else 0

/-- A procedure begins: GLB_CHG_STAT shows it. -/
def procBegin (op : Nat) (s : State) : State :=
  if procOf op = 0 then s
  else (((s.set F.GLB_CHG_STAT_PROC (procOf op)).set F.GLB_CHG_STAT_STEP 1).clear F.GLB_CHG_STAT_RESULT).raise F.GLB_CHG_STAT_BUSY

/-- The job in progress moves to step `n`. -/
def jobStep (n : Nat) (s : State) : State :=
  match s.fw.job with
  | none => s
  | some j =>
    let s := s.setJob (some { j with step := n })
    if procOf j.op = 0 then s else s.set F.GLB_CHG_STAT_STEP n

/-- The job in progress ends with a result: its completion is owed, or the log reports it (21 R818). -/
def jobEnd (result detail : Nat) (s : State) : State :=
  match s.fw.job with
  | none => s
  | some j =>
    let s := s.setFw { s.fw with job := none }
    let s := if procOf j.op = 0 then s else (s.set F.GLB_CHG_STAT_RESULT result).clear F.GLB_CHG_STAT_BUSY
    if j.host then oweDone j.cid j.op result detail s
    else rasLog 0 .firmware false ((j.moves.map (·.old)).headD 0xFFF) 0 0 s

/-! ### RUN (02 R60, R67; 07 R268) -/

/-- TSB_EPOCH_CTL.RUN is set. -/
def runSet (s : State) : State := s.raise F.TSB_EPOCH_CTL_RUN

/-- RUN is cleared: every open symbol closes and is processed. -/
def runClear (s : State) : State := if s.running then closeAllFlows (s.clear F.TSB_EPOCH_CTL_RUN) else s

/-- Row RUN_SET. -/
def execRunSet (agent : Agent) (s : State) : Res := .next (s.guardWrite s.netOn .bench agent F.TSB_EPOCH_CTL_RUN.off runSet)

/-- Row RUN_CLEAR. -/
def execRunClear (agent : Agent) (s : State) : Res := .next (s.guardWrite s.netOn .bench agent F.TSB_EPOCH_CTL_RUN.off runClear)

/-! ### Halting and powering the tiles (R662, R739) -/

/-- Bench halts a tile. -/
def haltTile (n : Nat) (s : State) : State :=
  if s.tileOn n && s.get (F.TILE_SEQ_STAT_STATE n) != 0 then tileHalt n 3 s else s

/-- Bench halts every tile. -/
def haltAll (s : State) : State := (List.range 192).foldl (fun s n => haltTile n s) s

/-- Bench takes a cluster to state `r` once its tiles are halted. -/
def benchCluster (k r : Nat) (s : State) : State :=
  let s := s.set (F.PMU_CLU_REQ k) r
  match seqOf s (7 + k) with
  | some q =>
    let same := if r = 2 then q.wake else !q.wake && (q.retain == (r == 1))
    showBusy (setSeqOf (7 + k) (some { q with pend := if same then none else some r }) s)
  | none => cluStart k r s

/-- Clusters return to OFF, and no plan holds a floor for them (20 R783). (DEDUCED, log entry 76) -/
def clustersOff (ks : List Nat) (s : State) : State := ks.foldl (fun s k => (benchCluster k 0 s).clear (F.PMU_CLU_FLOOR k)) s

/-- Every gate, tap and flow is disabled at the next boundary (R48). (DEDUCED, log entry 76) -/
def streamsOff (s : State) : State :=
  let s := (List.range 32).foldl (fun s g => s.clear (F.ADM_GATE_CFG_EN g)) s
  (List.range 16).foldl (fun s n => (s.clear (F.NET_TAP_CTL_EN n)).clear (F.SEE_F_CFG_EN n)) s

/-- Bench gives up every bank it programs: the sessions end (12 R505). -/
def dropTasks (s : State) : State := (s.fw.tasks.foldl (fun s k => endSession k.tile k.array s) s).setTasks []

/-- Every tile's ROLE is UNUSED. -/
def clearRoles (s : State) : State := (List.range 24).foldl (fun s i => s.set (F.GLB_TILE_ROLE i) 0) s

/-- SAFE RUNTIME after a refusal (R662, 19 R749). (DEDUCED, log entry 76) -/
def safeRuntime (s : State) : State :=
  let s := clustersOff (List.range s.clusters) (dropTasks (runClear (streamsOff (haltAll s))))
  let s := (ladleDisable (clearRoles s)).clear F.EVF_CTL_ARM
  setStage 5 ((s.setFw { s.fw with plan := none, next := none }).set F.GLB_BOOT_SAFE_SRC 2)

/-- A load is refused with a code other than BUSY (R661, R662): STATE, REASON, SAFE RUNTIME where it applies, and the
completion. A refused replacement leaves the running plan as it was (18 R704). -/
def planRefuse (r : Refused) (s : State) : State :=
  let replace := s.fw.job.any (fun j => j.op == 2)
  let s := (s.set F.GLB_PLAN_REASON_REASON r.1).set F.GLB_PLAN_REASON_DETAIL r.2
  let s := s.setFw { s.fw with next := none }
  let s := if replace then s else safeRuntime (setPlanState 4 s)
  jobEnd 5 (reasonWord s) s

/-! ### Writing the sections (R659, R660) -/

/-- Bench raises a cluster's point to `o` and sets its floor (20 R783, R796). -/
def benchOpp (k o : Nat) (s : State) : State :=
  let s := s.set (F.PMU_CLU_FLOOR k) o
  if s.get (F.PMU_CLU_OPP_REQ k) < o then oppRequest k o s else s

/-- Bytes written whole make the tile's 64-bit lines clean. -/
def cleanLines (l : List Nat) (a n : Nat) : List Nat := l.filter (fun x => !(decide (a ≤ x * 8) && decide (x * 8 + 8 ≤ a + n)))

/-- Instruction memory and TILE_SEQ_BOOT. (PRESUMED, log entry 72) -/
def writeImem (n : Nat) (x : Sect) (s : State) : State :=
  let t := s.tile n
  let d := x.data.drop 4
  (s.setTile n { t with imem := memPutBytes t.imem 0 d, ipoison := cleanLines t.ipoison 0 d.length }).set (F.TILE_SEQ_BOOT n)
    (leAt x.data 0 4 / 4)

/-- Data memory, the inactive fanout copy and the inbox. (PRESUMED, log entry 72) -/
def writeDmem (n : Nat) (x : Sect) (s : State) : State :=
  let t := s.tile n
  let d := x.data.drop 16
  let s := s.setTile n { t with mem := memPutBytes t.mem 0 d, poison := cleanLines t.poison 0 d.length }
  let act := s.flag F.EVF_CTL_ACTIVE
  let base := if act then F.EVF_T_FAN_BASE0 n else F.EVF_T_FAN_BASE1 n
  let cfg := if act then F.EVF_T_FAN_CFG0_NLIST n else F.EVF_T_FAN_CFG1_NLIST n
  let s := (s.typed base.off (leAt x.data 0 4)).typed cfg.off (leAt x.data 4 4)
  (s.typed (F.NE_INBOX n).off (leAt x.data 8 4)).typed (F.NE_INBOX_LIM_SIZE n).off (leAt x.data 12 4)

/-- Neuron-state and delay-ring memory without an image is zero. -/
def zeroState (n : Nat) (s : State) : State :=
  let t := s.tile n
  s.setTile n { t with mem := t.mem.filter (fun e => e.1 < 0x10000), poison := t.poison.filter (· < 0x2000) }

/-- An image of neuron state or delay rings. (PRESUMED, log entry 72) -/
def writeState (n : Nat) (x : Sect) (s : State) : State :=
  let t := s.tile n
  s.setTile n { t with mem := memPutBytes t.mem (leAt x.data 0 4) (x.data.drop 4) }

/-- CIM_CFG, calibration and assay registers of a CIMCFG section. (PRESUMED, log entry 72) -/
def writeCimCfg (n : Nat) (x : Sect) (s : State) : State :=
  let b := 0x2000000 + n * 0x10000
  let w := fun o k => wordsAt x.data (4 * o) k
  let s := s.typedAll (b + 0x2000) (w 0 1)
  let s := s.typedAll (b + 0x2300) (w 1 4)
  let s := s.typedAll (b + 0x2600) (w 5 1)
  let s := s.typedAll (b + 0x2640) (w 6 4)
  let s := s.typedAll (b + 0x2650) (w 10 2)
  let s := s.typedAll (b + 0x2700) (w 12 64)
  s.typedAll (b + 0x2A00) (w 76 32)

/-- The sections of tile `i` that go to physical tile `n`, weights apart. -/
def writeTile (p : Plan) (i n : Nat) (s : State) : State :=
  let s := zeroState n s
  (p.sects.filter (fun x => tileTy x.ty && x.tile == i)).foldl (fun s x =>
    match x.ty with
    | 5 => writeImem n x s
    | 6 => writeDmem n x s
    | 7 => writeNe n x s
    | 8 => writeState n x s
    | 10 => writeCimCfg n x s
    | _ => s) s

/-- SEAL tag and slices of a CIMW section; its array. -/
def Sect.tag (x : Sect) : Nat := leAt x.data 0 4
/-- The array of a CIMW section. -/
def Sect.array (x : Sect) : Nat := x.target / 256

/-- The bank of an array that holds the weights of a tag: 0 compute bank, 1 twin, 2 neither (R660). -/
def holder (s : State) (n a tag : Nat) : Nat :=
  let x := s.arr n a
  if x.cbank.tag = some tag then 0 else if (x.bank (!x.cb)).tag = some tag then 1 else 2

/-- Bench programs the twins that the plan needs for tile `n` (R660). -/
def startWeights (why : PgmWhy) (p : Plan) (i n : Nat) (s : State) : State :=
  ((p.ofTy 9).filter (fun x => x.tile == i)).foldl (fun s x =>
    if holder s n x.array x.tag = 2 then startTask n x.array x.tag (x.data.drop 4) why s else s) s

/-- The mask of arrays of tile `n` whose twin holds the plan's weights. -/
def twinMask (s : State) (p : Plan) (i n : Nat) : Nat :=
  ((p.ofTy 9).filter (fun x => x.tile == i && holder s n x.array x.tag == 1)).foldl (fun m x => m ||| 2 ^ x.array) 0

/-- The mask of arrays of tile `n` whose bank B carries the seal of the weights in use (18 R701). -/
def bankBMask (s : State) (p : Plan) (i n : Nat) : Nat :=
  ((p.ofTy 9).filter (fun x => x.tile == i && (s.arr n x.array).b.tag == some x.tag)).foldl (fun m x => m ||| 2 ^ x.array) 0

/-- The SWAP_SYNC handle of a tile, and whether its plan declares a swap point. -/
def swapHandle (p : Plan) (i : Nat) : Option Nat :=
  ((p.ofTy 10).find? (fun x => x.tile == i)).map (fun x => leAt x.data 432 4)
/-- The plan declares a swap point for the tile (12 R493, 13 R537). -/
def swapPoint (p : Plan) (i : Nat) : Bool :=
  ((p.ofTy 10).find? (fun x => x.tile == i)).any (fun x => leAt x.data 436 4 == 1)

/-- Bench sets a tile's SWAP_SYNC counter. (DEDUCED, log entry 80) -/
def setSwap (p : Plan) (i n m : Nat) (s : State) : State :=
  match swapHandle p i with
  | none => s
  | some h =>
    match handleKey s h (some n) false with
    | some k => applyCtr k 0 m (unpoison k s)
    | none => s

/-- Every boundary list, EB_CFG and NRT word of a ROUTE section goes to the inactive copies. (PRESUMED, log entry 72) -/
def writeRoute (x : Sect) (s : State) : State :=
  let s := (nrtClean s).typedAll (F.EVF_NRT_SHADOW 0).off (wordsAt x.data 0 208)
  let s := (List.range 208).foldl (fun s i =>
    let a := if i < 192 then (F.EVF_T_BLIST i 0).off else (F.EVF_E_BLIST (i - 192) 0).off
    if i < 192 ∧ s.cfg.tiles ≤ i then s else s.typedAll a (wordsAt x.data (832 + 32 * i) 8)) s
  s.typed F.EVF_SPAN_CFG_DEV_ID.off (leAt x.data 7488 4)

/-- Gate configuration and shadow map; EN waits for step 6 of R670. (PRESUMED, log entry 72) -/
def writeGate (x : Sect) (s : State) : State :=
  let g := x.target
  let s := s.typedAll (F.ADM_GATE_CFG_EN g).off (putBits (putBits (gateCfg x) 0 0 0) 7 6 0 :: wordsAt x.data 4 6)
  let s := s.typedAll (F.ADM_MAP_SHADOW g 0).off (wordsAt x.data 32 128)
  s.raise (F.ADM_GATE_CFG_MAP_ARM g)

/-- The sections that belong to no tile. -/
def writeGlobal (x : Sect) (s : State) : State :=
  match x.ty with
  | 1 => writeGate x s
  | 2 => (s.typedAll (F.NET_TAP_CTL_EN x.target).off (leAt x.data 0 4 / 2 * 2 :: wordsAt x.data 4 3))
  | 3 => (s.typedAll (F.SEE_F_CFG_EN x.target).off (leAt x.data 0 4 / 2 * 2 :: wordsAt x.data 4 6))
  | 4 => writeRoute x s
  | 13 => s.typedAll (F.NET_TMPL x.target 0).off ((List.range (ceilDiv x.data.length 4)).map (fun i => leAt x.data (4 * i) 4))
  | _ => s

/-- A SYNC section: initial values through the map that the plan's flip brings, slots, timeouts, the host's range.
(PRESUMED, log entry 72) -/
def writeSync (x : Sect) (s : State) : State :=
  let t := swapNrt s
  let s := (syncPairs x).foldl (fun s e =>
    match handleKey t e.1 none true with
    | some k => applyCtr k 0 e.2 (unpoison k s)
    | none => badHandle e.1 0xF0C s) s
  let s := (syncSlots x).foldl (fun s e => s.typed (F.SYNC_MB_CFG_POLICY e.1).off e.2) s
  let w := syncTail x
  (s.typedAll (F.SYNC_MB_TO 0).off (w.take 4)).typed F.SYNC_HOSTWR_LO.off (w.getD 4 0)

/-- A LADLE section: the program into the pool, points, staging region and pace. (PRESUMED, log entry 72) -/
def writeLadle (x : Sect) (s : State) : State :=
  let base := ladleWord x 4
  let d := x.data.drop 288
  let s := (s.setMem { s.mem with pool := memPutBytes s.mem.pool base d, poolBad := cleanLines s.mem.poolBad base d.length })
  let s := (s.set F.LDL_CTL_RUNAHEAD (ladleWord x 0)).set F.LDL_CTL_PERIOD (ladleWord x 1)
  let s := ((s.set F.LDL_PROG (base / 64)).set F.LDL_STAGE (ladleWord x 2)).set F.LDL_STAGE_SZ (ladleWord x 3)
  s.typedAll (F.LDL_VP_GIDX 0).off (wordsAt x.data 32 64)

/-- RUNAHEAD of the plan; 0 without a LADLE section. (DEDUCED, log entry 73) -/
def Plan.runahead (p : Plan) : Nat := ((p.ofTy 11).head?.map (fun x => ladleWord x 0)).getD 0

/-! ### Starting (R670) -/

/-- The clusters that the plan uses are asked for, with their points and floors. -/
def wakeClusters (p : Plan) (s : State) : State :=
  (p.clusters s).foldl (fun s k =>
    let s := benchOpp k (p.oppMin.getD k 0) s
    if s.get (F.PMU_CLU_STATE k) = 2 ∧ (seqOf s (7 + k)).isNone then s else benchCluster k 2 s) s

/-- All of them are ACTIVE at their points. (DESIGN CHOICE, log entry 77) -/
def clustersReady (s : State) (p : Plan) : Bool :=
  (p.clusters s).all (fun k => s.cluOn k && decide (p.oppMin.getD k 0 ≤ s.get (F.PMU_CLU_OPP k)))

/-- One of them is neither ACTIVE nor on its way. -/
def clusterLost (s : State) (p : Plan) : Bool :=
  (p.clusters s).any (fun k => s.get (F.PMU_CLU_STATE k) != 2 && !(match seqOf s (7 + k) with
    | some q => q.wake || q.pend == some 2
    | none => false))

/-- Step 4 of R670 for the sections, and the programming that R660 starts. -/
def writePlan (p : Plan) (s : State) : State :=
  let s := p.tiles.foldl (fun s i =>
    let n := p.phys s i
    startWeights .load p i n (writeTile p i n (tileReset n s))) s
  let s := p.sects.foldl (fun s x => writeGlobal x s) s
  let s := (p.ofTy 12).foldl (fun s x => writeSync x s) s
  let s := (p.ofTy 11).foldl (fun s x => writeLadle x s) s
  let s := s.set F.EVF_CTL_CT_SHARE p.ctShare
  (p.physTiles s).foldl (fun s n => s.set (F.tileRole n) 1) (clearRoles s)

/-- R75, R657: the time of day, the epoch length and ORIGIN, while RUN = 0. The time of day that Bench sets is open.
(DEDUCED, log entry 3; DESIGN CHOICE, log entry 39) -/
def setGrid (p : Plan) (s : State) : State :=
  let s :=
    if s.flag F.TSB_STAT_TOD_SET then s
    else
      let k := s.freeCtr
      let s := s.set64 F.TSB_STEP_SEC_LO F.TSB_STEP_SEC_HI (Config.freeNat k % 2 ^ 48)
      timeStep false ((s.set F.TSB_STEP_NS (Config.freeNat (k + 1) % 1000000000)).setFreeCtr (k + 2))
  let s := s.set F.TSB_EPOCH_LEN p.epochLen
  let o := if p.originSec then s.T - s.T % 125000000 else s.T
  regrid (s.set64 F.TSB_EPOCH_ORIGIN_LO F.TSB_EPOCH_ORIGIN_HI o)

/-- A bank that was to hold the plan's weights does not. (DESIGN CHOICE, log entry 77) -/
def weightsFailed (s : State) (p : Plan) : Bool :=
  (p.ofTy 9).any (fun x => holder s (p.phys s x.tile) x.array x.tag == 2)

/-- The first epoch S (R670). (DEDUCED, log entry 74) -/
def firstEpoch (s : State) (p : Plan) : Nat := (s.epochNum + max 2 (p.runahead + 1)) % 2 ^ 32

/-- The SWAP_SYNC counters of every tile with weights (R660). -/
def setSwaps (p : Plan) (s : State) : State :=
  p.tiles.foldl (fun s i => setSwap p i (p.phys s i) (twinMask s p i (p.phys s i)) s) s

/-- Step 6 of R670: RUN, EN of gates, taps and flows, ARM, engines, GO. (DEDUCED, log entry 74) -/
def armPlan (p : Plan) (s : State) : State :=
  let s := runSet s
  let on := fun (ty i : Nat) => (p.ofTy ty).any (fun x => x.target == i && bitOf (leAt x.data 0 4) 0)
  let s := (List.range 32).foldl (fun s g => s.set (F.ADM_GATE_CFG_EN g) (b2n (on 1 g))) s
  let s := (List.range 16).foldl (fun s n =>
    (s.set (F.NET_TAP_CTL_EN n) (b2n (on 2 n))).set (F.SEE_F_CFG_EN n) (b2n (on 3 n))) s
  let s := s.raise F.EVF_CTL_ARM
  let s := (p.ofTy 7).foldl (fun s x => neEnable (p.phys s x.tile) s) s
  p.progTiles.foldl (fun s i => tileGo (p.phys s i) true s) s

/-- Steps 3 to 6 of R670, as far as they can go now. (DEDUCED, log entry 74; DESIGN CHOICE, log entry 77) -/
def loadAdvance (p : Plan) (s : State) : State :=
  match s.fw.job with
  | none => s
  | some j =>
    if j.op ≠ 1 then s
    else
      let s :=
        if j.step = 3 then
          if clusterLost s p then planRefuse (0x16, detPlan) s
          else if clustersReady s p then jobStep 4 (writePlan p s)
          else s
        else s
      let s := match s.fw.job with
        | some j =>
          if j.step = 4 ∧ s.fw.tasks.isEmpty then
            if weightsFailed s p then planRefuse (0x15, detPlan) s
            else
              let s := setGrid p (setSwaps p s)
              (s.setJob (some { j with step := 5, due := firstEpoch s p }))
          else s
        | none => s
      let s := match s.fw.job with
        | some j =>
          if j.step = 5 ∧ sx 32 ((j.due + 2 ^ 32 - s.epochNum) % 2 ^ 32) ≤ p.runahead + 1 then
            let s := if (p.ofTy 11).isEmpty then s else ladleEnable (s.set F.LDL_E0 j.due)
            s.setJob (some { j with step := 6 })
          else s
        | none => s
      match s.fw.job with
      | some j =>
        if j.step = 6 ∧ sx 32 ((j.due + 2 ^ 32 - s.epochNum) % 2 ^ 32) = 1 then
          setPlanState 2 ((armPlan p s).setJob (some { j with step := 7 }))
        else s
      | none => s

/-- Step 7 of R670, at boundary S: the plan runs. -/
def planRuns (p : Plan) (e0 : Nat) (s : State) : State :=
  let s := s.set64 F.GLB_PLAN_ID_LO F.GLB_PLAN_ID_HI p.id
  let s := (s.set F.GLB_PLAN_E0 e0).set F.GLB_PLAN_LAT p.declLat
  let s := (s.set F.GLB_PLAN_ABI_ABI_MAJOR p.abiMajor).set F.GLB_PLAN_ABI_ABI_MINOR p.abiMinor
  let s := (s.set F.GLB_PLAN_STAT_TILE_LOCAL (b2n p.tileLocal)).set F.GLB_BOOT_SAFE_SRC 0
  let s := s.setFw { s.fw with plan := some p, next := none, lmon := 0 }
  let s := (s.setRas { s.ras with badGolden := [] })
  setStage 4 (setPlanState 3 s)

/-- The load's job ends when its plan runs. (DEDUCED, log entry 74) -/
def loadFlip (s : State) : State :=
  match s.fw.job, s.fw.next with
  | some j, some p =>
    if j.op = 1 ∧ j.step = 7 ∧ j.due = s.epochNum then
      let s := planRuns p j.due s
      jobEnd 0 (reasonWord s) s
    else s
  | _, _ => s

/-- PLAN_LOAD is accepted (R670 steps 1 and 2): STATE = LOADING, the checks, then step 3. (DEDUCED, log entry 74) -/
def planLoad (cid addr len : Nat) (found : Option Refused) (s : State) : State :=
  let s := setPlanState 1 (s.setJob (some { op := 1, cid := cid }))
  if lpPoisoned s addr len then planRefuse (0x16, detHeader) s
  else match planCheck s addr len found with
  | some r => planRefuse r s
  | none =>
    let p := planOf (lpRead s addr len)
    let s := wakeClusters p (s.setFw { s.fw with next := some p })
    loadAdvance p (jobStep 3 s)

/-- CANCEL ends a load in progress (R677); a load that runs, or a procedure, goes on. (DEDUCED, log entry 74) -/
def cancelLoad (s : State) : State × Bool :=
  match s.fw.job with
  | some j => if j.op = 1 then (planRefuse (0x16, detPlan) s, true) else (s, false)
  | none => (s, false)

/-- PLAN_STOP (19 R739). (DEDUCED, log entry 74) -/
def planStop (s : State) : State :=
  let ks := match s.fw.plan with
    | some p => p.clusters s
    | none => []
  let ks := ((List.range 192).filter (fun n => s.get (F.tileRole n) ≠ 0)).foldl (fun l n => setIns l (n / 16)) ks
  let s := clustersOff ks (dropTasks (runClear (streamsOff (haltAll s))))
  let s := ladleDisable (clearRoles s)
  setPlanState 0 ((s.clear F.GLB_PLAN_STAT_TILE_LOCAL).setFw { s.fw with plan := none })

/-! ### While a plan runs (R680, R681) -/

/-- R681: Bench reads the eight link monitors and turns them to the next eight declared records. -/
def envelopeCheck (s : State) : State :=
  match s.fw.plan with
  | none => s
  | some p =>
    let l := p.links
    if s.get F.GLB_PLAN_STAT_STATE ≠ 3 ∨ l.isEmpty then s
    else
      let s := (List.range 8).foldl (fun s k =>
        let i := (s.fw.lmon + k) % l.length
        let r := l.getD i (0, 0, 0)
        let f := s.get (F.EVF_LMON_FLITS k)
        if k < l.length && s.get (F.EVF_LMON_NODE k) == r.1 && s.get (F.EVF_LMON_PORT k) == r.2.1 && decide (r.2.2 < f) then
          (s.raise F.GLB_PLAN_STAT_ENVELOPE).owe 0x02 i f
        else s) s
      let next := (s.fw.lmon + 8) % l.length
      let s := (List.range 8).foldl (fun s k =>
        let r := l.getD ((next + k) % l.length) (0, 0, 0)
        ((s.set (F.EVF_LMON_NODE k) r.1).set (F.EVF_LMON_PORT k) r.2.1).clear (F.EVF_LMON_VC k)) s
      s.setFw { s.fw with lmon := next }

/-- Quench while a load or procedure is in progress (R678, 18 R720). -/
def jobQuench (s : State) : State :=
  match s.fw.job with
  | none => s
  | some j =>
    if j.op = 1 then planRefuse (0x16, detPlan) s
    else if procOf j.op = 0 then s
    else jobEnd 9 0 (s.setFw { s.fw with next := none })

end Sys2Proof.Machine
end

