-- ==== Sys2Proof/Machine/NetRegs.lean ====
section
/-!
DEFINITION. Sys2Proof/Machine/NetRegs.lean: writes of the TSB and NET registers, with the actions they ask for (02, 03). A network
boot record is a list of such writes (22 R857).
-/

namespace Sys2Proof.Machine

/-- NET_MAC_CMD: the operation of GO. -/
def macCommand (v : Nat) (s : State) : State :=
  match bitsOf v 1 0 with
  | 0 => macLookup s
  | 1 => macInsert s
  | 2 => macDelete s
  | _ => macFlush (bitsOf v 7 4) s

/-- NET_P_CFG of port `p`: a port that is absent takes no write (R88); EN acts as R124 and R125 say. -/
def portCfg (agent : Agent) (p v : Nat) (s : State) : State :=
  if 8 ≤ p then limited agent (0x400100 + 0x80 * p) v s
  else if !present s p then s
  else
    let off := (F.NET_P_CFG_EN p).off
    let was := s.flag (F.NET_P_CFG_EN p)
    let s := showLat p (limited agent off (putBits v 0 0 (b2n was)) s)
    if bitOf v 0 && !was then portEnable p s else if was && !bitOf v 0 then portDisable p s else s

/-- TSB_EPOCH_CTL: RUN, ARM (SC) and WR_REFUSED (W1C). -/
def epochCtl (v : Nat) (s : State) : State :=
  let s := if bitOf v 2 then s.clear F.TSB_EPOCH_CTL_WR_REFUSED else s
  let s := if bitOf v 0 then runSet s else runClear s
  if bitOf v 1 then s.raise F.TSB_EPOCH_CTL_ARM else s

/-- A write of a TSB register of NET. -/
def tsbWrite (agent : Agent) (off v : Nat) (s : State) : State :=
  if off = F.TSB_CTL_SERVO_EN.off then ctlWrite v s
  else if off = F.TSB_STEP_CTL_GO.off then
    (if bitOf v 0 then timeStep (bitOf v 1) s else s.set F.TSB_STEP_CTL_MODE (v / 2))
  else if off = F.TSB_PTP_PUSH.off then ptpPush v s
  else if off = F.TSB_EPOCH_LEN.off then gridWrite .len v s
  else if off = F.TSB_EPOCH_ORIGIN_LO.off then gridWrite .originLo v s
  else if off = F.TSB_EPOCH_ORIGIN_HI.off then gridWrite .originHi v s
  else if off = F.TSB_EPOCH_NUM.off then
    (if s.running then s.raise F.TSB_EPOCH_CTL_WR_REFUSED else s.set F.TSB_EPOCH_NUM v)
  else if off = F.TSB_EPOCH_CTL_RUN.off then epochCtl v s
  else if off = F.TSB_INCR_INIT_LO.off ∨ off = F.TSB_INCR_INIT_HI.off then
    let s := limited agent off v s
    if s.servo = .freerun then s.setIncr (s.get64 F.TSB_INCR_INIT_LO F.TSB_INCR_INIT_HI) else s
  else if off = (F.TSB_SYNCE_CTL_EN 0).off ∨ off = (F.TSB_SYNCE_CTL_EN 1).off then showSynce (limited agent off v s)
  else limited agent off v s

/-- A write of a NET register. -/
def netWrite (agent : Agent) (off v : Nat) (s : State) : State :=
  if off = F.NET_GRP_CFG_G0_MODE.off then
    let s := if bitOf v 2 then s.clear F.NET_GRP_CFG_REFUSED else s
    groupMode 1 (bitOf v 1) (groupMode 0 (bitOf v 0) s)
  else if off = F.NET_MAC_AGE.off then (if v % 1024 = 0 then ageFlush s else limited agent off v s)
  else if off = F.NET_MAC_CMD_GO.off then
    let s := (limited agent off (putBits v 8 8 0) s)
    if bitOf v 8 then macCommand v s else s
  else if off = F.NET_VLAN_CMD_WRITE.off then
    let s := s.set F.NET_VLAN_CMD_VID v
    let s := if bitOf v 12 then vlanWrite (v % 4096) s else s
    if bitOf v 13 then vlanRead (v % 4096) s else s
  else if 0x400100 ≤ off ∧ off < 0x400600 ∧ (off - 0x400100) % 0x80 = 0 then portCfg agent ((off - 0x400100) / 0x80) v s
  else limited agent off v s

/-- A write by an agent of a TSB or NET register: R20, R731, then the register's action. -/
def netAccess (agent : Agent) (off v : Nat) (s : State) : State :=
  match regRow off with
  | none => s.logErr agent 0 0 off true .unmapped
  | some r => s.guardWrite (s.regOn r.dom ((r.index off).getD [])) r.writers agent off
      (if off < 0x400000 then tsbWrite agent off v else netWrite agent off v)

end Sys2Proof.Machine
end

