-- ==== Sys2Proof/Machine/Jexlink.lean ====
section
/-!
DEFINITION. Sys2Proof/Machine/Jexlink.lean: Jexlink packets, link states, credits, beacons, register requests, CSI-2 packets
and the format parser (04).
-/

namespace Sys2Proof.Machine

/-- A Jexlink port takes downstream packets: ING on, EN, MODE = 0, in TRAIN to ACTIVE. -/
def takesPackets (s : State) (n : Nat) : Bool :=
  s.ingOn && decide (n < 16) && s.flag (F.JXL_P_CFG_EN n) && !s.flag (F.JXL_P_CFG_MODE n)
  && decide (1 ≤ s.link n) && decide (s.link n ≤ 4)

/-- A good packet: PKT_OK, and the SEQ check (R144). -/
def goodPacket (n seq : Nat) (s : State) : State :=
  let j := s.jp n
  let s := s.inc (F.JXL_P_PKT_OK n)
  let s := if seq = j.seq then s else (s.inc (F.JXL_P_SEQ_GAP n)).clear (F.JXL_P_STAT_SYNCED n)
  s.setJp n { j with seq := (seq + 1) % 65536 }

/-- A good packet is processed by `f` when the port takes packets. -/
def onPacket (n seq : Nat) (f : State → State) (s : State) : State :=
  if takesPackets s n then f (goodPacket n seq s) else s

/-- An event enters the port buffer, stamped under R65; while the map withholds it, it is counted in UNMAP. -/
def bufferPut (n x y : Nat) (pol : Bool) (p : Nat) (s : State) : State :=
  let st := s.get (F.TSB_PT_STAT_STATE n)
  if st = 2 ∨ st = 3 then
    let j := s.jp n
    (s.setJp n { j with buf := j.buf ++ [{ x := x, y := y, pol := pol, t := (s.pmap n).stamp p }] }).inc (F.JXL_P_EV_IN n)
  else s.inc (F.TSB_PT_UNMAP n)

/-- One wire event word (04, on_word). -/
def onWord (n : Nat) (s : State) (w : Word) : State :=
  if !s.flag (F.JXL_P_STAT_SYNCED n) then s.inc (F.JXL_P_RESYNC_DROP n)
  else
    let v := w.toNat
    let j := s.jp n
    let p := (j.p + v % 1024) % 2 ^ 48
    let s := s.setJp n { j with p := p }
    let x := v / 2 ^ 21
    let y := v / 2 ^ 11 % 1024
    if s.get (F.JXL_P_GEOM_WIDTH1 n) < x ∨ s.get (F.JXL_P_GEOM_HEIGHT1 n) < y then s.inc (F.JXL_P_RANGE n)
    else bufferPut n x y (bitOf v 10) p s

/-- R160: an EVENTS-class packet of cost `c` and `m` entries is within LIMIT and finds room; it counts as spent. -/
def spendCredits (n c m : Nat) (s : State) : State × Bool :=
  let j := s.jp n
  let s' := s.setJp n { j with spent := (j.spent + c) % 65536 }
  if (j.limit + 65536 - j.spent) % 65536 < c then ((s'.inc (F.JXL_P_CREDIT_VIOL n)).clear (F.JXL_P_STAT_SYNCED n), false)
  else if 32768 < j.buf.length + m then ((s'.inc (F.JXL_P_BUF_OVF n)).clear (F.JXL_P_STAT_SYNCED n), false)
  else (s', true)

/-- The words of an EVENTS packet (R144, R160); before ACTIVE nothing is synchronised, so every word is dropped. -/
def events (n : Nat) (words : List Word) (s : State) : State :=
  if s.link n ≠ 4 then s.incBy (F.JXL_P_RESYNC_DROP n) words.length
  else
    let r := spendCredits n (ceilDiv words.length 64) words.length s
    if r.2 then words.foldl (onWord n) r.1 else r.1

/-- Row EVENTS: 1 to 512 words. -/
def execEvents (port seq : Nat) (words : List Word) (s : State) : Res :=
  .next (onPacket port seq (events port (words.take 512)) s)

/-- An ANCHOR (04, on_anchor; R66). -/
def anchor (n a : Nat) (s : State) : State :=
  if s.link n ≠ 4 then s
  else
    let r := spendCredits n 1 0 s
    let s := r.1
    if !r.2 then s
    else
      let sync := s.flag (F.JXL_P_STAT_SYNCED n)
      let p := (s.jp n).p
      if sync && decide (a + 1000000 < p) then (mapIdle n s).clear (F.JXL_P_STAT_SYNCED n)
      else
        let s := if sync && decide (a < p) then s.inc (F.JXL_P_ANCHOR_BACK n) else s
        (s.setJp n { s.jp n with p := a % 2 ^ 48 }).raise (F.JXL_P_STAT_SYNCED n)

/-- Row ANCHOR. -/
def execAnchor (port seq time : Nat) (s : State) : Res := .next (onPacket port seq (anchor port time) s)

/-- A HELLO (R151, link-state table): identity, and after the third in TRAIN the port is in IDENT and sends CONFIG. -/
def hello (n version vendor model w h serial : Nat) (s : State) : State :=
  let bad := decide (version ≠ 1) || decide (2047 < w) || decide (1023 < h)
  if s.link n = 1 then
    let s := (s.set (F.JXL_P_ID0_VERSION n) version).set (F.JXL_P_ID0_VENDOR n) vendor
    let s := (s.set (F.JXL_P_ID1 n) model).set64 (F.JXL_P_SERIAL_LO n) (F.JXL_P_SERIAL_HI n) serial
    let s := (s.set (F.JXL_P_GEOM_WIDTH1 n) w).set (F.JXL_P_GEOM_HEIGHT1 n) h
    let k := (s.jp n).hellos + 1
    let s := s.setJp n { s.jp n with hellos := k }
    if k < 3 then s
    else if bad then portLost n 5 s
    else back n 0x08 [BitVec.ofNat 8 n] (s.set (F.JXL_P_STAT_STATE n) 2)
  else if s.link n = 2 ∧ bad then portLost n 5 s
  else s

/-- Row HELLO. -/
def execHello (port seq version vendor model width1 height1 serial : Nat) (s : State) : Res :=
  .next (onPacket port seq (hello port version vendor model width1 height1 serial) s)

/-- Row KEEPALIVE (R157, STATUS kinds). -/
def execKeepalive (port seq headDrop used : Nat) (s : State) : Res :=
  .next (onPacket port seq (fun s =>
    let j := s.jp port
    (s.setJp port { j with headDrop := headDrop % 2 ^ 32, spent := used % 65536 }).incBy (F.JXL_P_HEAD_DROP port)
      ((headDrop + 2 ^ 32 - j.headDrop) % 2 ^ 32)) s)

/-- A PWR_REQ in CLASS (R189): granted into the wait for STEP, or refused with CLASS_DENIED. -/
def pwrReq (n c : Nat) (s : State) : State :=
  if s.link n ≠ 3 ∨ (s.jp n).granted then s
  else
    let w := classWatts c
    if c = 0 ∨ 3 < c ∨ s.get (F.JXL_P_CFG_MAX_CLASS n) < c ∨ s.get F.PPC_GLB_CFG_BUDGET_W < s.get F.PPC_GLB_STAT + w
      ∨ s.chState n ≠ 3 then portLost n 6 s
    else
      let s := (s.set F.PPC_GLB_STAT (s.get F.PPC_GLB_STAT + w)).set (F.PPC_CH_STAT_CLASS n) c
      (s.setCh n { s.ch n with waiting := true }).setJp n { s.jp n with granted := true }

/-- Row PWR_REQ. -/
def execPwrReq (port seq cls : Nat) (s : State) : Res := .next (onPacket port seq (pwrReq port cls) s)

/-- Row CFG_ACK (R151): the first matching one in IDENT moves the port to CLASS, which sends PWR_QUERY. -/
def execCfgAck (port seq value : Nat) (s : State) : Res :=
  .next (onPacket port seq (fun s =>
    if s.link port = 2 ∧ value = port then back port 0x06 [] (s.set (F.JXL_P_STAT_STATE port) 3) else s) s)

/-- Row REGRESP (R164). -/
def execRegresp (port seq tag result : Nat) (data : Word) (s : State) : Res :=
  .next (onPacket port seq (fun s =>
    if tag < 4 ∧ s.flag (F.JXL_P_REQ_BUSY port tag) then
      ((s.clear (F.JXL_P_REQ_BUSY port tag)).set (F.JXL_P_REQ_STATUS port tag) (if result = 0 then 0 else 1)).set
        (F.JXL_P_REQ_RDATA port tag) data.toNat
    else s) s)

/-- A packet fails a check of R143; a discarded EVENTS or ANCHOR clears SYNCED (R144), and HELLOs are no longer consecutive. -/
def corrupt (n : Nat) (ev : Bool) (s : State) : State :=
  let s := s.inc (F.JXL_P_CRC_ERR n)
  let s := s.setJp n { s.jp n with hellos := 0 }
  if ev then s.clear (F.JXL_P_STAT_SYNCED n) else s

/-- Row CORRUPT_PACKET. -/
def execCorruptPacket (port : Nat) (eventsClass : Bool) (s : State) : Res :=
  .next (if takesPackets s port then corrupt port eventsClass s else s)

/-- A loss of row `lossIn`: in a link state of the list the port is lost with the cause. -/
def lossIn (states : List Nat) (cause n : Nat) (s : State) : State :=
  if s.ingOn && decide (n < 16) && states.contains (s.link n) then portLost n cause s else s

/-- Row CRC_BURST (R150). -/
def execCrcBurst (port : Nat) (s : State) : Res := .next (lossIn [1, 2, 3, 4] 3 port s)
/-- Row JXL_LOS (R150). -/
def execJxlLos (port : Nat) (s : State) : Res := .next (lossIn [1, 2, 3, 4] 2 port s)
/-- Row JXL_KEEPALIVE_TIMEOUT (R150). -/
def execJxlKeepaliveTimeout (port : Nat) (s : State) : Res := .next (lossIn [2, 3, 4] 1 port s)
/-- Row TRAIN_TIMEOUT (R150). -/
def execTrainTimeout (port : Nat) (s : State) : Res := .next (lossIn [1] 4 port s)
/-- Row CFG_ACK_TIMEOUT (R151). -/
def execCfgAckTimeout (port : Nat) (s : State) : Res := .next (lossIn [2] 1 port s)
/-- Row PWR_REQ_TIMEOUT (link-state table): no PWR_REQ has been granted. -/
def execPwrReqTimeout (port : Nat) (s : State) : Res :=
  .next (if (s.jp port).granted then s else lossIn [3] 1 port s)

/-- Row CONFIG_RESEND (R151). -/
def execConfigResend (port : Nat) (s : State) : Res :=
  .next (if s.ingOn && s.link port == 2 then back port 0x08 [BitVec.ofNat 8 port] s else s)

/-- One RESET_HEAD leaves (R152). After the third, a port lost with VERSION or CLASS_DENIED goes to OFF and its channel
through COOLDOWN to DENIED (R153, 05 R205). -/
def resetHead (n : Nat) (s : State) : State :=
  let j := s.jp n
  if s.link n ≠ 5 ∨ j.resets = 0 then s
  else
    let s := back n 0x09 [] (s.setJp n { j with resets := j.resets - 1 })
    let c := s.get (F.JXL_P_STAT_CAUSE n)
    if j.resets = 1 ∧ (c = 5 ∨ c = 6) then cooldown n 9 8 (portOff n s) else s

/-- Row RESET_HEAD_SEND. -/
def execResetHeadSend (port : Nat) (s : State) : Res := .next (if s.ingOn then resetHead port s else s)

/-- 10 ms after a retryable loss (R153): TRAIN again, or OFF with a power cycle (05 R204). -/
def lostRetry (n : Nat) (s : State) : State :=
  let j := s.jp n
  if s.link n ≠ 5 ∨ ¬ [1, 2, 3, 4].contains (s.get (F.JXL_P_STAT_CAUSE n)) then s
  else if j.retries < s.get (F.JXL_P_CFG_RETRY_MAX n) then
    portTrain n (s.setJp n { j with retries := j.retries + 1 })
  else cooldown n 1 7 (portOff n (s.setJp n { j with retries := 0, resets := 0 }))

/-- Row LOST_RETRY. -/
def execLostRetry (port : Nat) (s : State) : Res := .next (if s.ingOn && decide (port < 16) then lostRetry port s else s)

/-- Row BACKCHANNEL_KEEPALIVE_SEND (R149). -/
def execBackchannelKeepaliveSend (port : Nat) (s : State) : Res :=
  .next (if s.ingOn && [1, 2, 3, 4].contains (s.link port) then back port 0x01 [] s else s)

/-- Row FLOW_SEND (R149, R157). -/
def execFlowSend (port : Nat) (s : State) : Res := .next (if s.ingOn && s.link port == 4 then sendFlow port s else s)

/-- Setting EN (R150, 05 R186): the power channel may start; with stage-one power already good the port enters TRAIN. -/
def jxlEnable (n : Nat) (s : State) : State :=
  let s := s.raise (F.JXL_P_CFG_EN n)
  if s.flag (F.JXL_P_CFG_MODE n) then s
  else if s.chState n = 0 then chanStart n s
  else if [3, 4, 5].contains (s.chState n) then portPowerGood n s else s

/-- Row JXL_ENABLE. -/
def execJxlEnable (agent : Agent) (port : Nat) (s : State) : Res :=
  .next (s.guardWrite s.ingOn .bench agent (F.JXL_P_CFG_EN port).off (fun s => if port < 16 then jxlEnable port s else s))

/-- Clearing EN (R177, R153, 05 R205): the buffer is flushed and counted, the port goes to OFF with cause DISABLED, the
channel through COOLDOWN to OFF; a CSI-2 port's parser stops and ILL clears. -/
def jxlDisable (n : Nat) (s : State) : State :=
  let was := s.flag (F.JXL_P_CFG_EN n)
  let s := s.clear (F.JXL_P_CFG_EN n)
  let j := s.jp n
  let s := (s.setJp n { j with buf := [] }).incBy (F.JXL_P_RESYNC_DROP n) j.buf.length
  let s := if n < 4 then (s.setCsi (s.csi.set n {})).clear (F.JXL_P_CSI_STAT n) else s
  let s := if was && !s.flag (F.JXL_P_CFG_MODE n) && decide (s.link n ≠ 0) then portLost n 8 s else s
  if s.chState n = 0 then s else cooldown n 0 9 s

/-- Row JXL_DISABLE. -/
def execJxlDisable (agent : Agent) (port : Nat) (s : State) : Res :=
  .next (s.guardWrite s.ingOn .bench agent (F.JXL_P_CFG_EN port).off (fun s => if port < 16 then jxlDisable port s else s))

/-- A request slot's GO (R164, R175). -/
def regRequest (n t addr : Nat) (write : Bool) (s : State) : State :=
  if s.flag (F.JXL_P_REQ_BUSY n t) then s
  else
    let s := (s.set (F.JXL_P_REQ_ADDR n t) addr).set (F.JXL_P_REQ_WR n t) (b2n write)
    if !([1, 2, 3, 4].contains (s.link n)) then s.set (F.JXL_P_REQ_STATUS n t) 3
    else
      let s := s.raise (F.JXL_P_REQ_BUSY n t)
      if write then back n 0x04 (leBytes 1 t ++ leBytes 2 addr ++ leBytes 4 (s.get (F.JXL_P_REQ_WDATA n t))) s
      else back n 0x05 (leBytes 1 t ++ leBytes 2 addr) s

/-- Row REG_REQUEST_GO. -/
def execRegRequestGo (agent : Agent) (port slot addr : Nat) (write : Bool) (s : State) : Res :=
  .next (s.guardWrite s.ingOn .bench agent (F.JXL_P_REQ_GO port slot).off
    (fun s => if port < 16 ∧ slot < 4 then regRequest port slot addr write s else s))

/-- Row REG_REQUEST_TIMEOUT (R164). -/
def execRegRequestTimeout (port slot : Nat) (s : State) : Res :=
  .next (if s.ingOn && s.flag (F.JXL_P_REQ_BUSY port slot) then
    (s.clear (F.JXL_P_REQ_BUSY port slot)).set (F.JXL_P_REQ_STATUS port slot) 2 else s)

/-! ### Beacons -/

/-- A BEACON leaves and t1 is stamped (R162); with TSB_PT_CFG.EN = 0 the map stops (02 R82). An exchange still open fails. -/
def beaconSend (n : Nat) (s : State) : State :=
  if s.link n ≠ 4 then s
  else if !s.flag (F.TSB_PT_CFG_EN n) then mapIdle n s
  else
    let s := if (s.pmap n).outstanding.isSome then mapMiss n s else s
    let m := s.pmap n
    let c := (s.reg (F.TSB_PT_CFG_EN n).off).toNat
    let q := { m with outstanding := some (m.bseq, s.T), bseq := (m.bseq + 1) % 256, cfg := c }
    let s := (s.setTb { s.tb with maps := s.tb.maps.set n q })
    back n 0x03 [BitVec.ofNat 8 m.bseq] s

/-- Row BEACON_SEND. -/
def execBeaconSend (port : Nat) (s : State) : Res := .next (if s.ingOn && decide (port < 16) then beaconSend port s else s)

/-- A BEACON_RESP whose BSEQ matches completes the exchange; t4 is the current tick (R162, R63). -/
def beaconResp (n bseq t2 t3 : Nat) (s : State) : State :=
  match (s.pmap n).outstanding with
  | none => s
  | some (q, t1) =>
    if bseq ≠ q then s
    else if 2 ^ 56 ≤ t2 ∨ 2 ^ 56 ≤ t3 then mapMiss n s
    else mapExchange n t1 t2 t3 s.T s

/-- Row BEACON_RESP. -/
def execBeaconResp (port seq bseq t2 t3 : Nat) (s : State) : Res := .next (onPacket port seq (beaconResp port bseq t2 t3) s)

/-- Row BEACON_TIMEOUT (R162, R64). -/
def execBeaconTimeout (port : Nat) (s : State) : Res :=
  .next (if s.ingOn && (s.pmap port).outstanding.isSome then mapMiss port s else s)

/-! ### CSI-2 packets -/

/-- CSI-2 port `n`. -/
def State.cp (s : State) (n : Nat) : CsiPort := s.csi.getD n {}

/-- Replace CSI-2 port `n`. -/
def State.setCp (s : State) (n : Nat) (c : CsiPort) : State := (s.setCsi (s.csi.set n c))

/-- The port runs in CSI-2 mode. -/
def csiOn (s : State) (n : Nat) : Bool :=
  s.ingOn && decide (n < 4) && s.flag (F.JXL_P_CFG_EN n) && s.flag (F.JXL_P_CFG_MODE n)

/-- Short packets at the head of the FIFO take effect (R171). -/
def drainShort (n : Nat) : List CsiItem → State → State
  | .frameStart t :: l, s => drainShort n l (s.setCp n { s.cp n with fifo := l, tfs := t, v := (s.cp n).v.set 7 0 })
  | .other :: l, s => drainShort n l (s.setCp n { s.cp n with fifo := l })
  | _, s => s

/-- A short packet arrives: it waits behind the packets before it (R171). -/
def shortPacket (n vc : Nat) (it : State → CsiItem) (s : State) : State :=
  if !csiOn s n then s
  else if vc ≠ s.get (F.JXL_P_CSI_CFG_VC n) then s.inc (F.JXL_P_CSI_DT_DISC n)
  else
    let c := s.cp n
    let s := s.setCp n { c with fifo := c.fifo ++ [it s] }
    if c.running then s else drainShort n (s.cp n).fifo s

/-- Row CSI_FRAME_START (R169): T_FS is the tick of the header's arrival minus PORT_DLY. -/
def execCsiFrameStart (port vc : Nat) (s : State) : Res :=
  .next (shortPacket port vc (fun s => .frameStart ((s.T : Int) - s.get (F.JXL_P_CSI_CFG_PORT_DLY port))) s)
/-- Row CSI_FRAME_END (R171). -/
def execCsiFrameEnd (port vc : Nat) (s : State) : Res := .next (shortPacket port vc (fun _ => .other) s)
/-- Row CSI_LINE_START (R171). -/
def execCsiLineStart (port vc : Nat) (s : State) : Res := .next (shortPacket port vc (fun _ => .other) s)
/-- Row CSI_LINE_END (R171). -/
def execCsiLineEnd (port vc : Nat) (s : State) : Res := .next (shortPacket port vc (fun _ => .other) s)

/-- Bytes in the input FIFO. -/
def csiBytes (l : List CsiItem) : Nat := (l.map (fun i => match i with | .long _ p => p.length | _ => 0)).sum

/-- A long packet (R167, R168, R170). -/
def longPacket (n vc dt : Nat) (payload : List Byte) (h : HeaderCheck) (crcOk : Bool) (s : State) : State :=
  if !csiOn s n then s
  else if h = .bad then s.inc (F.JXL_P_CSI_HDR_BAD n)
  else
    let s := if h = .corrected then s.inc (F.JXL_P_CSI_ECC_CORR n) else s
    let en := decide (0x30 ≤ dt ∧ dt ≤ 0x37) && bitOf (s.get (F.JXL_P_CSI_CFG_DT_EN n)) (dt - 0x30)
    let c := s.cp n
    if vc ≠ s.get (F.JXL_P_CSI_CFG_VC n) || !en || s.flag (F.JXL_P_CSI_STAT n) then s.inc (F.JXL_P_CSI_DT_DISC n)
    else if 16384 < payload.length then s.inc (F.JXL_P_CSI_LONG n)
    else if !crcOk then s.inc (F.JXL_P_CSI_CRC_ERR n)
    else if 16384 < csiBytes c.fifo + payload.length then s.inc (F.JXL_P_CSI_PARSE_OVF n)
    else s.setCp n { c with fifo := c.fifo ++ [.long dt payload] }

/-- Row CSI_LONG_PACKET. -/
def execCsiLongPacket (port vc dt : Nat) (payload : List Byte) (header : HeaderCheck) (crcOk : Bool) (s : State) : Res :=
  .next (longPacket port vc dt payload header crcOk s)

/-! ### The format parser -/

/-- ENTRY of a data type. -/
def csiEntry (s : State) (n dt : Nat) : Nat :=
  let i := dt - 0x30
  bitsOf (s.reg ((F.JXL_P_CSI_ENTRY0_E0 n).off + i / 4 * 4)).toNat (i % 4 * 8 + 6) (i % 4 * 8)

/-- Row PARSER_PROGRAM_START (R170). -/
def execParserProgramStart (port : Nat) (s : State) : Res :=
  .next (if csiOn s port && !(s.cp port).running && !s.flag (F.JXL_P_CSI_STAT port) then
    match (s.cp port).fifo with
    | .long dt pay :: l =>
      s.setCp port { s.cp port with fifo := l, payload := pay, ptr := 0, pc := csiEntry s port dt, running := true, stalled := false,
                                    idle := 0, v := List.replicate 7 0 ++ [(s.cp port).v.getD 7 0] }
    | _ => s
  else s)

/-- The program ends; short packets that waited for it take effect (R171). -/
def parserEnd (n : Nat) (s : State) : State :=
  let s := s.setCp n { s.cp n with running := false, stalled := false, payload := [] }
  drainShort n (s.cp n).fifo s

/-- The instruction word at the parser's pc. -/
def parserWord (s : State) (n : Nat) : Nat := s.get (F.JXL_UCODE n (s.cp n).pc)

/-- The parser is about to run an instruction of opcode `op` (of an unused opcode when `op` is 10). -/
def parserAt (s : State) (n op : Nat) : Bool :=
  let o := parserWord s n / 2 ^ 27
  csiOn s n && (s.cp n).running && !(s.cp n).stalled && decide ((s.cp n).idle < 4096)
  && (if op = 10 then decide (10 ≤ o) else o == op)

/-- The parser goes on at `pc`; `ld` says that the instruction was LD or SKIP (R170). -/
def parserGo (n pc : Nat) (ld : Bool) (c : CsiPort) (s : State) : State :=
  s.setCp n { c with pc := pc % 128, idle := if ld then 0 else c.idle + 1 }

/-- One parser instruction: `f` gets the word and the port, when the parser stands at that opcode. -/
def parserOp (op n : Nat) (f : Nat → CsiPort → State → State) (s : State) : State :=
  if parserAt s n op then f (parserWord s n) (s.cp n) s else s

/-- Fields of a parser word. -/
def pvd (w : Nat) : Nat := w / 2 ^ 24 % 8
/-- vs field. -/
def pvs (w : Nat) : Nat := w / 2 ^ 21 % 8

/-- Row PARSER_END. -/
def execParserEnd (port : Nat) (s : State) : Res := .next (parserOp 0 port (fun _ _ s => parserEnd port s) s)

/-- Row PARSER_LD. -/
def execParserLd (port : Nat) (s : State) : Res :=
  .next (parserOp 1 port (fun w c s =>
    let k := w / 2 ^ 16 % 32 + 1
    if c.payload.length * 8 < c.ptr + k then parserEnd port s
    else parserGo port (c.pc + 1) true { c with v := c.v.set (pvd w) (leNat c.payload / 2 ^ c.ptr % 2 ^ k), ptr := c.ptr + k } s) s)

/-- Row PARSER_SKIP. -/
def execParserSkip (port : Nat) (s : State) : Res :=
  .next (parserOp 2 port (fun w c s =>
    if c.payload.length * 8 < c.ptr + w % 65536 then parserEnd port s
    else parserGo port (c.pc + 1) true { c with ptr := c.ptr + w % 65536 } s) s)

/-- Row PARSER_LDI. -/
def execParserLdi (port : Nat) (s : State) : Res :=
  .next (parserOp 3 port (fun w c s => parserGo port (c.pc + 1) false { c with v := c.v.set (pvd w) (w % 65536) } s) s)

/-- Row PARSER_ADD. -/
def execParserAdd (port : Nat) (s : State) : Res :=
  .next (parserOp 4 port (fun w c s =>
    let r := ux 32 ((c.v.getD (pvd w) 0 : Int) + c.v.getD (pvs w) 0 + sx 16 w)
    parserGo port (c.pc + 1) false { c with v := c.v.set (pvd w) r } s) s)

/-- Row PARSER_EXT. -/
def execParserExt (port : Nat) (s : State) : Res :=
  .next (parserOp 5 port (fun w c s =>
    let r := c.v.getD (pvs w) 0 / 2 ^ (w / 2 ^ 16 % 32) % 2 ^ (w % 32 + 1)
    parserGo port (c.pc + 1) false { c with v := c.v.set (pvd w) r } s) s)

/-- Row PARSER_BEQ. -/
def execParserBeq (port : Nat) (s : State) : Res :=
  .next (parserOp 6 port (fun w c s =>
    parserGo port (if c.v.getD (pvd w) 0 = w % 512 then w / 512 % 128 else c.pc + 1) false c s) s)

/-- Row PARSER_BNE. -/
def execParserBne (port : Nat) (s : State) : Res :=
  .next (parserOp 7 port (fun w c s =>
    parserGo port (if c.v.getD (pvd w) 0 ≠ w % 512 then w / 512 % 128 else c.pc + 1) false c s) s)

/-- Row PARSER_JMP. -/
def execParserJmp (port : Nat) (s : State) : Res :=
  .next (parserOp 8 port (fun w c s => parserGo port (w / 512 % 128) false c s) s)

/-- An event of EMIT enters the port buffer with the stamp of R169. -/
def parserPut (n : Nat) (c : CsiPort) (s : State) : State :=
  let j := s.jp n
  let e : Ev := { x := c.v.getD 4 0, y := c.v.getD 5 0, pol := bitOf (c.v.getD 6 0) 0, t := c.tfs + 125 * (c.v.getD 7 0 : Int) }
  (s.setJp n { j with buf := j.buf ++ [e] }).inc (F.JXL_P_EV_IN n)

/-- Row PARSER_EMIT (R170, R172). -/
def execParserEmit (port : Nat) (s : State) : Res :=
  .next (parserOp 9 port (fun _ c s =>
    if 2048 ≤ c.v.getD 4 0 ∨ 1024 ≤ c.v.getD 5 0 ∨ 2 ^ 24 ≤ c.v.getD 7 0 then
      parserGo port (c.pc + 1) false c (s.inc (F.JXL_P_CSI_RANGE port))
    else if 32768 ≤ (s.jp port).buf.length then s.setCp port { c with stalled := true }
    else parserGo port (c.pc + 1) false c (parserPut port c s)) s)

/-- Row PARSER_EMIT_RESUME (R172). -/
def execParserEmitResume (port : Nat) (s : State) : Res :=
  .next (if csiOn s port && (s.cp port).running && (s.cp port).stalled && decide ((s.jp port).buf.length < 32768) then
    let c := s.cp port
    parserGo port (c.pc + 1) false { c with stalled := false } (parserPut port c s)
  else s)

/-- Row PARSER_UNUSED_OPCODE (R170): the parser stops and ILL is set until EN is cleared. -/
def execParserUnusedOpcode (port : Nat) (s : State) : Res :=
  .next (parserOp 10 port (fun _ c s => (s.setCp port { c with running := false, payload := [] }).raise (F.JXL_P_CSI_STAT port)) s)

/-- Row PARSER_WATCHDOG (R170). -/
def execParserWatchdog (port : Nat) (s : State) : Res :=
  .next (if csiOn s port && (s.cp port).running && decide (4096 ≤ (s.cp port).idle) then
    parserEnd port (s.inc (F.JXL_P_CSI_WDOG port)) else s)

end Sys2Proof.Machine
end

