-- ==== Sys2Proof/Machine/PortPower.lean ====
section
/-!
DEFINITION. Sys2Proof/Machine/PortPower.lean: power channels and the antenna-line port (05).
-/

namespace Sys2Proof.Machine

/-- A channel event acts only with ING on and a channel of this number in one of the states `sts`. -/
def onChan (n : Nat) (sts : List Nat) (f : State → State) (s : State) : State :=
  if s.ingOn && decide (n < 17) && sts.contains (s.chState n) then f s else s

/-- A write of EN = 1 (R186): refused in CSI-2 mode; from OFF the channel starts, from a cooldown to OFF it will. -/
def ppcEnable (n : Nat) (s : State) : State :=
  if n < 16 && s.flag (F.JXL_P_CFG_MODE n) then s.raise (F.PPC_CH_CTL_REFUSED n)
  else
    let s := s.raise (F.PPC_CH_CTL_EN n)
    if s.chState n = 0 then chanStart n s
    else if s.chState n = 6 ∧ (s.ch n).exit = 0 ∧ mayPower s n then s.setCh n { s.ch n with exit := 1 }
    else s

/-- Row PPC_ENABLE. -/
def execPpcEnable (agent : Agent) (ch : Nat) (s : State) : Res :=
  .next (if ch < 17 then s.guardWrite s.ingOn .bench agent (F.PPC_CH_CTL_EN ch).off (ppcEnable ch) else s)

/-- A write of EN = 0 (R196): COOLDOWN, then OFF; a port beyond OFF loses its power. -/
def ppcDisable (n : Nat) (s : State) : State :=
  let s := s.clear (F.PPC_CH_CTL_EN n)
  if s.chState n = 0 then s else portPowerAbort n (cooldown n 0 9 s)

/-- Row PPC_DISABLE. -/
def execPpcDisable (agent : Agent) (ch : Nat) (s : State) : Res :=
  .next (if ch < 17 then s.guardWrite s.ingOn .bench agent (F.PPC_CH_CTL_EN ch).off (ppcDisable ch) else s)

/-- `mv` is within 10 % of the target. -/
def within10 (mv target : Nat) : Bool := decide (target * 9 ≤ mv * 10) && decide (mv * 10 ≤ target * 11)

/-- The classification of R187 from two good points: 1 VALID, 2 LOW, 3 HIGH; `none` current difference is HIGH. -/
def signature (v1 i1 v2 i2 : Nat) : Nat :=
  let dv := v2 - v1
  let di := i2 - i1
  if i2 ≤ i1 then 3
  else if dv * 1000000 < 19000 * di then 2
  else if 26500 * di < dv * 1000000 then 3 else 1

/-- A VALID signature leads to RAMP1 (R188). -/
def rampOne (n : Nat) (s : State) : State := setIlim n 250 ((chLoad n s).set (F.PPC_CH_STAT_STATE n) 2)

/-- The end of a detection point at `mv` mV and `na` nA (R187). -/
def detectPoint (n mv na : Nat) (s : State) : State :=
  let c := s.ch n
  let target := if c.points.isEmpty then 4000 else 8000
  let s := (s.set (F.PPC_CH_VOUT n) mv).set (F.PPC_CH_IOUT n) (na / 100000)
  if !within10 mv target ∨ 5000000 ≤ na then s.set (F.PPC_CH_STAT_SIG n) 2
  else match c.points with
  | [] => s.setCh n { c with points := [(mv, na)] }
  | (v1, i1) :: _ =>
    let g := signature v1 i1 mv na
    let r := if g = 3 then 0xFFFF else min 0xFFFF ((mv - v1) * 100000 / (na - i1))
    let s := (s.set (F.PPC_CH_STAT_SIG n) g).set (F.PPC_CH_SIGR n) r
    if g = 1 then rampOne n s else s

/-- Row DETECT_POINT_END. -/
def execDetectPointEnd (ch mv na : Nat) (s : State) : Res :=
  .next (onChan ch [1] (fun s => if s.get (F.PPC_CH_STAT_SIG ch) = 0 then detectPoint ch mv na s else s) s)

/-- Row DETECT_RETRY (R187, R201): a new detection; no attempt is consumed. -/
def execDetectRetry (ch : Nat) (s : State) : Res :=
  .next (onChan ch [1] (fun s => if s.get (F.PPC_CH_STAT_SIG ch) = 0 then s else chanStart ch s) s)

/-- Row RAMP1_END (R188): ON24 and stage-one power good when VSNS shows at least 21.6 V. -/
def execRamp1End (ch mv : Nat) (s : State) : Res :=
  .next (onChan ch [2] (fun s =>
    let s := s.set (F.PPC_CH_VOUT ch) mv
    if mv < 21600 then s
    else portPowerGood ch ((s.set (F.PPC_CH_STAT_STATE ch) 3).raise (F.PPC_CH_STAT_PG ch))) s)

/-- The waiting channel of lowest index (R189). (DEDUCED, log entry 46) -/
def stepNext (s : State) : Option Nat :=
  (List.range 16).find? (fun n => (s.ch n).waiting && s.chState n == 3)

/-- Channels in STEP. -/
def stepping (s : State) : Nat := ((List.range 16).filter (fun n => s.chState n == 4)).length

/-- Row STEP_START (R189, R190). -/
def execStepStart (s : State) : Res :=
  .next (if s.ingOn && decide (stepping s < s.get F.PPC_GLB_CFG_STEP_MAX) then
    match stepNext s with
    | none => s
    | some n =>
      let s := chLoad n s
      let s := s.setCh n { s.ch n with waiting := false }
      let s := (s.set (F.PPC_CH_STAT_STATE n) 4).clear (F.PPC_CH_STAT_PG n)
      setIlim n (classLimit (s.get (F.PPC_CH_STAT_CLASS n))) s
  else s)

/-- Row STEP_COMPLETE (R190). -/
def execStepComplete (ch mv : Nat) (s : State) : Res :=
  .next (onChan ch [4] (fun s =>
    let s := s.set (F.PPC_CH_VOUT ch) mv
    if mv < 43200 then s
    else portActive ch ((s.set (F.PPC_CH_STAT_STATE ch) 5).raise (F.PPC_CH_STAT_PG ch))) s)

/-- Row CURRENT_LIMIT (R185): the sensed current (0.1 mA); above I_LIM it is held there and LIMITING is set. -/
def execCurrentLimit (ch current : Nat) (s : State) : Res :=
  .next (onChan ch [1, 2, 3, 4, 5] (fun s =>
    let l := ilim s ch * 10
    (s.set (F.PPC_CH_IOUT ch) (min current l)).set (F.PPC_CH_STAT_LIMITING ch) (b2n (decide (l < current)))) s)

/-- R199, R200: a fault turns the gates off, is recorded and reported, takes the port's power, and leads to BACKOFF, or to
LATCHED when the attempts are used up. (DEDUCED, log entry 46) -/
def chanFault (n cause : Nat) (s : State) : State :=
  let s := (s.inc (F.PPC_CH_FAULTS n)).raise (F.PPC_CH_IRQ_FAULT n)
  let latch := decide ((s.ch n).retry ≤ s.get (F.PPC_CH_STAT_ATTEMPT n))
  let s := chanOff n (if latch then 8 else 7) cause s
  let s := if latch then s.raise (F.PPC_CH_IRQ_LATCH n) else s
  let s := s.bench .ppcFault n
  let s := if s.flag (F.PPC_CH_IRQ_HOST_EN n) then s.owe 0x05 n (s.reg (F.PPC_CH_STAT_STATE n).off).toNat else s
  portPowerAbort n s

/-- Row HARD_SHORT (R199). -/
def execHardShort (ch : Nat) (s : State) : Res := .next (onChan ch [2, 3, 4, 5] (chanFault ch 1) s)

/-- Row OVERLOAD (R199): LIMITING held too long. -/
def execOverload (ch : Nat) (s : State) : Res :=
  .next (onChan ch [2, 3, 4, 5] (fun s => if s.flag (F.PPC_CH_STAT_LIMITING ch) then chanFault ch 2 s else s) s)

/-- Row RAMP_FAIL (R199). -/
def execRampFail (ch : Nat) (s : State) : Res := .next (onChan ch [2, 4] (chanFault ch 3) s)

/-- Row UNDERVOLT (R199). -/
def execUndervolt (ch : Nat) (s : State) : Res := .next (onChan ch [3, 5] (chanFault ch 4) s)

/-- Row BACKOFF_END (R200). -/
def execBackoffEnd (ch : Nat) (s : State) : Res :=
  .next (onChan ch [7] (fun s => chanStart ch (s.set (F.PPC_CH_STAT_ATTEMPT ch) (s.get (F.PPC_CH_STAT_ATTEMPT ch) + 1))) s)

/-- Row ATTEMPT_CLEAR (R200). -/
def execAttemptClear (ch : Nat) (s : State) : Res := .next (onChan ch [3, 5] (·.clear (F.PPC_CH_STAT_ATTEMPT ch)) s)

/-- Row STEP_ABORT (R202). -/
def execStepAbort (ch : Nat) (s : State) : Res := .next (onChan ch [4] (fun s => portPowerAbort ch (chanAbort ch 5 s)) s)

/-- Row DISCONNECT (R203). -/
def execDisconnect (ch : Nat) (s : State) : Res :=
  .next (onChan ch [3, 5] (fun s => if (s.ch ch).holdEn then portPowerAbort ch (chanAbort ch 6 s) else s) s)

/-- R202: COOLDOWN ends after 2 s in OFF, in DENIED, or in DETECT, as its cause dictates. -/
def cooldownEnd (ch : Nat) (s : State) : State :=
  onChan ch [6] (fun s =>
    match (s.ch ch).exit with
    | 0 => s.clear (F.PPC_CH_STAT_STATE ch)
    | 9 => (s.set (F.PPC_CH_STAT_STATE ch) 9).raise (F.PPC_CH_IRQ_LATCH ch)
    | _ => chanStart ch s) s

/-- Row PPC_CLR (R206): from LATCHED or DENIED to DETECT. -/
def execPpcClr (agent : Agent) (ch : Nat) (s : State) : Res :=
  .next (if ch < 17 then s.guardWrite s.ingOn .bench agent (F.PPC_CH_CTL_CLR ch).off
    (fun s => if s.chState ch = 8 ∨ s.chState ch = 9 then chanStart ch s else s) else s)

/-! ### The antenna line -/

/-- The FCS of ISO/IEC 13239 (R208): 0x1021 reflected, initial value 0xFFFF, complemented. (PRESUMED, log entry 45) -/
def fcs16 (l : List Byte) : Nat :=
  let r := l.foldl (fun c b => (List.range 8).foldl (fun (c : BitVec 16) _ =>
    if c.getLsbD 0 then (c >>> 1) ^^^ 0x8408#16 else c >>> 1) (c ^^^ b.setWidth 16)) 0xFFFF#16
  (~~~r).toNat

/-- Address-table entry `i`. -/
def aldAddr (s : State) (i : Nat) : Nat := bitsOf (s.get (F.SITE_ALD_ADDR (i / 4))) (8 * (i % 4) + 7) (8 * (i % 4))

/-- Entry `i` is valid. -/
def aldValid (s : State) (i : Nat) : Bool := bitOf (s.get F.SITE_ALD_AVALID) i

/-- Link state of entry `i`: 0 DISC, 1 SETUP, 2 NRM, 3 FAILED. -/
def aldState (s : State) (i : Nat) : Nat := bitsOf (s.get (F.SITE_ALD_LSTATE (i / 16))) (2 * (i % 16) + 1) (2 * (i % 16))

/-- Set the link state of entry `i`. -/
def setAldState (i v : Nat) (s : State) : State :=
  let f := F.SITE_ALD_LSTATE (i / 16)
  s.set f (putBits (s.get f) (2 * (i % 16) + 1) (2 * (i % 16)) v)

/-- Entry `i`'s sequence state. -/
def State.aa (s : State) (i : Nat) : AldAddr := s.ald.addrs.getD i {}

/-- Replace it. -/
def State.setAa (s : State) (i : Nat) (a : AldAddr) : State := (s.setAld { s.ald with addrs := s.ald.addrs.set i a })

/-- Replace the transmit queue and show TX_BUSY. -/
def setAldQueue (q : List AldFrame) (s : State) : State :=
  (s.setAld { s.ald with queue := q }).set F.SITE_ALD_STAT_TX_BUSY (b2n (!q.isEmpty))

/-- Bytes a queued frame occupies in the transmit buffer: its control byte and payload. -/
def AldFrame.size (f : AldFrame) : Nat := f.payload.length + 1

/-- R211: a frame joins the 2 KiB transmit buffer, or sets TX_OVF. -/
def aldPush (f : AldFrame) (s : State) : State :=
  if 2048 < (s.ald.queue.map AldFrame.size).sum + f.size then s.raise F.SITE_ALD_STAT_TX_OVF
  else setAldQueue (s.ald.queue ++ [f]) s

/-- The first `len` bytes Bench wrote into the buffer. -/
def aldBuffer (s : State) (len : Nat) : List Byte :=
  (((List.range 512).map (fun k => leBytes 4 (s.get (F.SITE_ALD_TXBUF k)))).flatten).take len

/-- A write of TXCMD with GO = 1 (R210, R211). (PRESUMED, log entry 45) -/
def aldCommand (raw : Bool) (entry len : Nat) (s : State) : State :=
  let s := ((s.set F.SITE_ALD_TXCMD_ENTRY entry).set F.SITE_ALD_TXCMD_KIND (b2n raw)).set F.SITE_ALD_TXCMD_LEN len
  if 32 ≤ entry then s
  else
    let b := aldBuffer s len
    if raw then aldPush ⟨entry, false, ((b.headD 0) ||| 0x10).toNat, b.drop 1⟩ s
    else if aldState s entry = 2 then aldPush ⟨entry, true, 0, b⟩ s else s

/-- Row ALD_I_COMMAND. -/
def execAldICommand (agent : Agent) (entry len : Nat) (s : State) : Res :=
  .next (s.guardWrite s.ingOn .bench agent F.SITE_ALD_TXCMD_GO.off (aldCommand false (entry % 256) (len % 2048)))

/-- Row ALD_RAW_COMMAND. -/
def execAldRawCommand (agent : Agent) (entry len : Nat) (s : State) : Res :=
  .next (s.guardWrite s.ingOn .bench agent F.SITE_ALD_TXCMD_GO.off (aldCommand true (entry % 256) (len % 2048)))

/-- A frame leaves on the bus: address, control, payload, FCS (R207, R208). (PRESUMED, log entry 45) -/
def aldEmit (addr control : Nat) (payload : List Byte) (s : State) : State :=
  let b := BitVec.ofNat 8 addr :: BitVec.ofNat 8 control :: payload
  s.emit (.rs485 (b ++ leBytes 2 (fcs16 b)))

/-- A queued frame may be sent: an I frame only to an address in NRM and within WINDOW. -/
def aldMaySend (s : State) (f : AldFrame) : Bool :=
  !f.isI || (aldState s f.entry == 2 && decide ((s.aa f.entry).unacked.length < s.get F.SITE_ALD_CFG_WINDOW))

/-- The frame goes out; commands change the link state as the layer 2 table says. -/
def aldSend (f : AldFrame) (s : State) : State :=
  let a := s.aa f.entry
  let addr := aldAddr s f.entry
  if f.isI then
    let c := a.vs * 2 + 0x10 + a.vr * 32
    aldEmit addr c f.payload (s.setAa f.entry { a with vs := (a.vs + 1) % 8, unacked := a.unacked ++ [(a.vs, f.payload)] })
  else
    let s := if f.control = 0x93 then setAldState f.entry 1 (s.setAa f.entry { a with asked := 1 })
      else if f.control = 0x53 then s.setAa f.entry { a with asked := 2 } else s
    aldEmit addr f.control f.payload s

/-- Row ALD_TX_START (R207): the oldest frame that may be sent. -/
def execAldTxStart (s : State) : Res :=
  .next (if s.ingOn && s.flag F.SITE_ALD_CFG_EN then
    let q := s.ald.queue
    match q.find? (aldMaySend s) with
    | none => s
    | some f => aldSend f (setAldQueue (q.takeWhile (!aldMaySend s ·) ++ (q.dropWhile (!aldMaySend s ·)).drop 1) s)
  else s)

/-- N(R) acknowledges the I frames before it. -/
def aldAck (i nr : Nat) (s : State) : State :=
  let a := s.aa i
  let n := ((List.range 8).find? (fun k => (match a.unacked[k]? with | none => a.vs | some u => u.1) == nr)).getD 0
  let u := if n ≤ a.unacked.length then a.unacked.drop n else a.unacked
  s.setAa i { a with unacked := u, tries := 0 }

/-- Write bytes into the receive ring at offset `o` (word aligned), wrapping at 4 KiB. -/
def ringStore (o : Nat) : List Byte → State → State
  | a :: b :: c :: d :: l, s => ringStore ((o + 4) % 4096) l (s.set (F.SITE_ALD_RXRING (o / 4)) (leNat [a, b, c, d]))
  | [], s => s
  | l, s => s.set (F.SITE_ALD_RXRING (o / 4)) (leNat l)

/-- R210, R211: delivery to the receive ring. The descriptor holds address, control, length and status (0 good).
(PRESUMED, log entry 45) -/
def aldDeliver (body : List Byte) (s : State) : State :=
  let rd := s.get F.SITE_ALD_RXPTR_RD
  let wr := s.get F.SITE_ALD_RXPTR_WR
  let need := 4 + ceilDiv body.length 4 * 4
  if 4096 ≤ (wr + 4096 - rd) % 4096 + need then s.inc F.SITE_ALD_RX_OVF
  else
    let d := [body.getD 0 0, body.getD 1 0] ++ leBytes 2 body.length
    (ringStore wr (d ++ body) s).set F.SITE_ALD_RXPTR_WR (wr + need)

/-- What a frame with control byte `c` from entry `i` does to the link (R210). -/
def aldLink (i c : Nat) (s : State) : State :=
  let a := s.aa i
  let u := c % 16 + c / 32 * 32
  if u = 0x63 ∧ a.asked = 1 then setAldState i 2 (s.setAa i {})
  else if (u = 0x63 ∨ u = 0x0F) ∧ a.asked = 2 then setAldState i 0 (s.setAa i {})
  else if aldState s i ≠ 2 then s
  else if c % 2 = 0 then
    let s := aldAck i (c / 32) s
    let a := s.aa i
    if c / 2 % 8 = a.vr then s.setAa i { a with vr := (a.vr + 1) % 8 }
    else aldPush ⟨i, false, 0x19 + a.vr * 32, []⟩ (s.inc F.SITE_ALD_SEQ_ERR)
  else if c % 4 = 1 then aldAck i (c / 32) s
  else s

/-- R209, R210: a received frame, its FCS included. -/
def aldReceive (frame : List Byte) (aborted : Bool) (s : State) : State :=
  let body := frame.take (frame.length - 2)
  let addr := (frame.headD 0).toNat
  let entry := (List.range 32).find? (fun i => aldValid s i && aldAddr s i == addr)
  if aborted then s.inc F.SITE_ALD_ABORT
  else if frame.length < 4 then s.inc F.SITE_ALD_SHORT
  else if 1536 < frame.length then s.inc F.SITE_ALD_LONG
  else if fcs16 body ≠ leNat (frame.drop (frame.length - 2)) then s.inc F.SITE_ALD_CRC_ERR
  else if entry.isNone && addr ≠ 0xFF && !s.flag F.SITE_ALD_CFG_PROMISC then s.inc F.SITE_ALD_ADDR_DROP
  else
    let s := aldDeliver body s
    match entry with
    | none => s
    | some i => aldLink i (frame.getD 1 0).toNat s

/-- Row ALD_FRAME_RX. -/
def execAldFrameRx (frame : List Byte) (aborted : Bool) (s : State) : Res :=
  .next (if s.ingOn && s.flag F.SITE_ALD_CFG_EN then aldReceive frame aborted s else s)

/-- The control byte of an RR poll with P = 1. -/
def aldRr (a : AldAddr) : Nat := 0x11 + a.vr * 32

/-- Row ALD_RESPONSE_TIMEOUT (R210): retransmission up to N2 times, then FAILED. -/
def execAldResponseTimeout (entry : Nat) (s : State) : Res :=
  .next (if s.ingOn && s.flag F.SITE_ALD_CFG_EN && decide (entry < 32) && aldState s entry == 2 then
    let a := s.aa entry
    if s.get F.SITE_ALD_CFG_N2 ≤ a.tries then
      ((setAldState entry 3 s).raise F.SITE_ALD_STAT_FAILED_IRQ).bench .aldFailed entry
    else
      let s := s.setAa entry { a with tries := a.tries + 1 }
      match a.unacked with
      | [] => aldPush ⟨entry, false, aldRr a, []⟩ s
      | (ns, p) :: _ => aldPush ⟨entry, false, ns * 2 + 0x10 + a.vr * 32, p⟩ s
  else s)

/-- Row ALD_POLL (R210): while idle, an RR to each valid address in NRM. -/
def execAldPoll (s : State) : Res :=
  .next (if s.ingOn && s.flag F.SITE_ALD_CFG_EN && s.ald.queue.isEmpty && s.get F.SITE_ALD_POLL ≠ 0 then
    (List.range 32).foldl (fun s i =>
      if aldValid s i && aldState s i == 2 then aldPush ⟨i, false, aldRr (s.aa i), []⟩ s else s) s
  else s)

end Sys2Proof.Machine
end

