-- ==== Sys2Proof/Machine/Change.lean ====
section
/-!
DEFINITION. Sys2Proof/Machine/Change.lean: the procedures that change the device in service (18): tile move, tile reload, weight
update, plan replacement, port cycle, and the fences of a flip. Bench moves on at boundaries and flips.
-/

namespace Sys2Proof.Machine

/-! ### Where the plan stands -/

/-- The physical tile that logical tile `i` of the running plan stands on. -/
def runTile (s : State) (i : Nat) : Nat := (remap s i).getD i

/-- A plan is loaded and was started (R680: a halted plan stays loaded). -/
def planThere (s : State) : Bool := s.fw.plan.isSome && (s.get F.GLB_PLAN_STAT_STATE == 3 || s.get F.GLB_PLAN_STAT_STATE == 5)

/-- A tile of the plan that has halted for a reason other than Bench's STOP. (DEDUCED, log entry 75) -/
def tileDown (s : State) (n : Nat) : Bool :=
  !s.tileOn n || (s.get (F.TILE_SEQ_STAT_STATE n) == 0 && s.get (F.TILE_SEQ_STAT_HALT_REASON n) != 3
    && s.get (F.TILE_SEQ_STAT_HALT_REASON n) != 0)

/-- After a reload or a move the plan runs again when no tile of it is down. (DEDUCED, log entry 75) -/
def planRecovers (s : State) : State :=
  match s.fw.plan with
  | some p =>
    if s.get F.GLB_PLAN_STAT_STATE = 5 ∧ !p.progTiles.any (fun i => tileDown s (runTile s i)) then setPlanState 3 s else s
  | none => s

/-- R701 for a tile that leaves NAP, or whose cluster leaves RETAIN, while a plan runs. -/
def restoreSwap (n : Nat) (s : State) : State :=
  match s.fw.plan with
  | some p =>
    let i := logicalOf s n
    if planThere s && p.tiles.contains i && runTile s i == n then setSwap p i n (bankBMask s p i n) s else s
  | none => s

/-- Every golden image of logical tile `i` is usable (21 R820). -/
def goldenUsable (s : State) (p : Plan) (i : Nat) : Bool :=
  !p.sects.any (fun x => tileTy x.ty && x.tile == i && s.ras.badGolden.contains x.ix)

/-! ### Route tables in the inactive copy -/

/-- Word `w` of the boundary list of node index `j`, inactive copy. -/
def blist (j w : Nat) : Fld := if j < 192 then F.EVF_T_BLIST j w else F.EVF_E_BLIST (j - 192) w

/-- Node indices that have a list. -/
def listNodes (s : State) : List Nat := (List.range 208).filter (fun j => decide (192 ≤ j) || decide (j < s.cfg.tiles))

/-- Bit `i` of the inactive list of node index `j`. -/
def listBit (s : State) (j i : Nat) : Bool := bitOf (s.get (blist j (i / 32))) (i % 32)

/-- Set it. -/
def setListBit (j i : Nat) (v : Bool) (s : State) : State :=
  let f := blist j (i / 32)
  s.set f (putBits (s.get f) (i % 32) (i % 32) (b2n v))

/-- The inactive route tables take what the active ones hold: NRT, boundary lists, and the fanout registers of every tile but
those in `but`. -/
def mirrorRoutes (but : List Nat) (s : State) : State :=
  let s := (List.range 208).foldl (fun s i => s.set (F.EVF_NRT_SHADOW i) (s.get (F.EVF_NRT_ACTIVE i))) s
  let s := s.fab.rt.foldl (fun s e => s.setReg e.1 e.2) ((nrtClean s).dropRegs routeReg)
  let act := s.flag F.EVF_CTL_ACTIVE
  ((List.range s.cfg.tiles).filter (fun n => !but.contains n)).foldl (fun s n =>
    let b := 0xE10000 + 0x40 * n
    if act then (s.setReg b (s.reg (b + 8))).setReg (b + 4) (s.reg (b + 12))
    else (s.setReg (b + 8) (s.reg b)).setReg (b + 12) (s.reg (b + 4))) s

/-- Every list that names `old` also names `spare`, and the spare's own list is the old tile's. -/
def listsNameSpare (m : Move) (s : State) : State :=
  let s := (List.range 7).foldl (fun s w => s.set (blist m.spare w) (s.get (blist m.old w))) s
  let s := s.set (F.EVF_T_EB_CFG m.spare) (s.get (F.EVF_T_EB_CFG m.old))
  (listNodes s).foldl (fun s j => if listBit s j m.old then setListBit j m.spare true s else s) s

/-- No list names `old`. -/
def listsDropOld (m : Move) (s : State) : State := (listNodes s).foldl (fun s j => setListBit j m.old false s) s

/-! ### Fences (R688, R689) -/

/-- Nodes that send a fence on a channel. -/
def fenceNodes (s : State) (ct : Bool) : List Nat :=
  List.range s.cfg.tiles ++ (if ct then [0xF08, 0xF09, 0xF0A, 0xF0B, 0xF0C, 0xF0D]
    else [0xF00, 0xF01, 0xF02, 0xF03, 0xF04, 0xF05, 0xF06, 0xF07, 0xF0C, 0xF0D, 0xF0E, 0xF0F])

/-- Fences of one flip to the old tile `n`. -/
def sendFences (n : Nat) (s : State) : State :=
  let s := s.setReg (F.EVF_FENCE_RX_DONE n).off 0
  [false, true].foldl (fun s ct =>
    (fenceNodes s ct).foldl (fun s src => inject ⟨n, src, .fence s.epochNum ct⟩ s) s) s

/-- The fences of a flip: `s0` is the state before it. -/
def flipFences (s0 s : State) : State :=
  (List.range 4).foldl (fun s k =>
    if !s.flag (F.EVF_FENCE_VALID k) then s
    else
      let i := s.get (F.EVF_FENCE_IDX k)
      let s := s.clear (F.EVF_FENCE_VALID k)
      if i < 192 then
        match remap s0 i with
        | some old => if remap s i ≠ some old && decide (old < s.cfg.tiles) then sendFences old s else s
        | none => s
      else s) s

/-! ### Tile move (R695 to R699, R719, R721) -/

/-- The moves of a command entry. -/
def movesOf (e : List Byte) : List Move :=
  (List.range (leAt e 8 1)).map (fun i =>
    { logical := leAt e (16 + 8 * i) 1, old := 0, spare := leAt e (17 + 8 * i) 1, resume := leAt e (18 + 8 * i) 2 })

/-- The parameters are within the limits of R714 and name tiles of the plan, each once. (DEDUCED, log entry 78) -/
def moveParamOk (p : Plan) (e : List Byte) : Bool :=
  let l := (movesOf e).map (·.logical)
  let r := leAt e 9 1
  decide (1 ≤ leAt e 8 1) && decide (leAt e 8 1 ≤ 4) && r != 1 && decide (r ≤ 64) && l.all p.tiles.contains && decide l.Nodup

/-- A spare is a present tile that the plan does not use, in a cluster that Bench can bring to ACTIVE. (DEDUCED, log entry 78) -/
def spareOk (s : State) (m : Move) : Bool :=
  decide (m.spare < s.cfg.tiles) && s.get (F.tileRole m.spare) == 0
  && (s.cluOn (m.spare / 16) || !s.flag F.PMU_QUENCH_ACTIVE)

/-- Clusters and points that the moves need. -/
def moveNeeds (s : State) (p : Plan) (ms : List Move) : List (Nat × Nat) :=
  ms.map (fun m => (m.spare / 16, max (p.oppMin.getD (m.old / 16) 0) (s.get (F.PMU_CLU_FLOOR (m.spare / 16)))))

/-- Bench asks for the clusters of spares. -/
def moveWake (needs : List (Nat × Nat)) (s : State) : State :=
  needs.foldl (fun s e =>
    let s := benchOpp e.1 e.2 s
    if s.get (F.PMU_CLU_STATE e.1) = 2 ∧ (seqOf s (7 + e.1)).isNone then s else benchCluster e.1 2 s) s

/-- They stand ready. -/
def moveReady (s : State) (needs : List (Nat × Nat)) : Bool :=
  needs.all (fun e => s.cluOn e.1 && decide (e.2 ≤ s.get (F.PMU_CLU_OPP e.1)))

/-- One of them is lost. -/
def moveLost (s : State) (needs : List (Nat × Nat)) : Bool :=
  needs.any (fun e => s.get (F.PMU_CLU_STATE e.1) != 2 && !(match seqOf s (7 + e.1) with
    | some q => q.wake || q.pend == some 2
    | none => false))

/-- The local counters of a tile are set to 0. -/
def clearCounters (n : Nat) (s : State) : State :=
  (List.range 512).foldl (fun s l => applyCtr (localKey n l) 0 0 (unpoison (localKey n l) s)) s

/-- Step 1: the spare is loaded and its twins programmed. -/
def loadSpare (p : Plan) (m : Move) (s : State) : State :=
  let s := if s.inNap m.spare then napExit m.spare s else s
  let s := writeTile p m.logical m.spare (tileReset m.spare s)
  (clearCounters m.spare (startWeights .move p m.logical m.spare s)).set (F.tileRole m.spare) 3

/-- A bank of a spare that was to hold the plan's weights does not (R721). -/
def moveWeightsFailed (s : State) (p : Plan) (ms : List Move) : Bool :=
  ms.any (fun m => (p.ofTy 9).any (fun x => x.tile == m.logical && holder s m.spare x.array x.tag == 2))

/-- Step 2 on a spare: it holds, filters EB flits, and its engine is enabled. -/
def holdSpare (b : Nat) (m : Move) (s : State) : State :=
  let n := m.spare
  let s := settleHold n (s.raise (F.TILE_CHG_CTL_HOLD n))
  let s := (s.set (F.TILE_CHG_EBF n) (b + 2 ^ 32 - 1)).raise (F.TILE_CHG_CTL_EBF_EN n)
  neEnable n (s.clear (F.NE_CTL_STAMP_INIT n))

/-- Step 2. `b` is B: two boundaries on. -/
def moveArm (j : Job) (s : State) : State :=
  let b := (s.epochNum + 2) % 2 ^ 32
  let s := j.moves.foldl (fun s m => holdSpare b m s) s
  let s := mirrorRoutes (j.moves.map (·.spare)) s
  let s := (j.moves.foldl (fun s m => listsNameSpare m s) s).raise F.EVF_CTL_ARM
  jobStep 2 (s.setJob (some { j with due := b }))

/-- Step 4: NRT, fences, ARM; the old tile drains and goes quiet. -/
def moveMap (j : Job) (s : State) : State :=
  let s := mirrorRoutes [] s
  let s := j.moves.foldl (fun s m => s.set (F.EVF_NRT_SHADOW m.logical) m.spare) s
  let s := j.moves.zipIdx.foldl (fun s e =>
    (s.set (F.EVF_FENCE_IDX e.2) e.1.logical).raise (F.EVF_FENCE_VALID e.2)) s
  let s := s.raise F.EVF_CTL_ARM
  let s := j.moves.foldl (fun s m =>
    let n := m.old
    let s := s.set (F.tileRole n) 2
    if s.tileOn n then settleHold n ((s.raise (F.TILE_SEQ_CTL_DRAIN n)).raise (F.TILE_CHG_CTL_QUIESCE n)) else s) s
  jobStep 4 (s.set F.GLB_CHG_SUSP (j.due + 2 ^ 32 - 1))

/-- The old tile is quiet: HELD, and its sequencer WAITING or halted; or its cluster is not ACTIVE (R701). -/
def oldQuiet (s : State) (m : Move) : Bool :=
  !s.tileOn m.old || (s.flag (F.TILE_CHG_STAT_HELD m.old) && (tileWaits s m.old || tileHalted s m.old))

/-- Byte ranges of the data space that a state copy leaves out of data memory: both fanout regions and the inbox ring. -/
def notCopied (s : State) (n : Nat) : List (Nat × Nat) :=
  let size := s.get (F.NE_INBOX_LIM_SIZE n)
  [(s.get (F.EVF_T_FAN_BASE0 n), 4 * s.get (F.EVF_T_FAN_CFG0_SIZE n)), (s.get (F.EVF_T_FAN_BASE1 n), 4 * s.get (F.EVF_T_FAN_CFG1_SIZE n)),
   (s.get (F.NE_INBOX n), if size = 0 then 0 else 8 + 8 * size)]

/-- The data-space address `a` is copied from tile `n` (R695). -/
def copied (s : State) (n a : Nat) : Bool :=
  if a < 0xC000 then !(notCopied s n).any (fun r => decide (r.1 ≤ a) && decide (a < r.1 + r.2))
  else (regionsOf s n).any (fun r => decide (r.addr 0 ≤ a) && decide (a < r.addr 0 + r.count * r.size))
    || (ringsOf s n).any (fun g => decide (0x50000 + g.rbase ≤ a) && decide (a < 0x50000 + g.rbase + g.count * (2 * g.slots)))

/-- R695: memory of the old tile goes to the new one; a poisoned line arrives poisoned. -/
def copyMemory (old new : Nat) (s : State) : State :=
  let a := s.tile old
  let b := s.tile new
  let here := copied s old
  let kept := b.mem.filter (fun e => !here e.1)
  let m := (a.mem.filter (fun e => here e.1)).foldl (fun m e => memPut m e.1 e.2) kept
  let bad := b.poison.filter (fun l => !here (l * 8))
  s.setTile new { b with mem := m, poison := (a.poison.filter (fun l => here (l * 8))).foldl setIns bad }

/-- Step 6: the state copy and the horizons. -/
def moveCopy (m : Move) (s : State) : State :=
  if !s.tileOn m.old then s
  else
    let s := copyMemory m.old m.spare s
    (List.range 4).foldl (fun s g => s.set (F.TILE_CHG_H m.spare g) ((s.ne m.old).horizon.getD g 0)) s

/-- The counter copy: every local counter but EB_SYNC, by ADD (R631, R695). -/
def copyCounters (m : Move) (s : State) : State :=
  if !s.tileOn m.old then s
  else
    let eb := s.get (F.EVF_T_EB_CFG m.old)
    ((List.range 512).filter (fun l => l ≠ eb)).foldl (fun s l =>
      let v := ctrOf s (localKey m.old l)
      if v = 0 then s else windowApply (localKey m.spare l) 1 v s) s

/-- Steps 6 to 8 for one tile. -/
def moveOver (p : Plan) (m : Move) (s : State) : State :=
  let n := m.spare
  let s := moveCopy m s
  let s := resumeEngine n true (s.raise (F.TILE_CHG_CTL_HLOAD n))
  let s := copyCounters m (s.set (F.tileRole n) 1)
  let s := setSwap p m.logical n (bankBMask s p m.logical n) s
  let s := tileGo n false (s.set (F.TILE_SEQ_BOOT n) (m.resume / 4))
  if s.tileOn m.old then tileStop m.old s else s

/-- Step 9, before its flip: no list names the old tile. -/
def moveUnlist (j : Job) (s : State) : State :=
  let s := mirrorRoutes [] s
  let s := (j.moves.foldl (fun s m => listsDropOld m s) s).raise F.EVF_CTL_ARM
  jobStep 9 (s.setJob (some { j with step := 9, due := (s.epochNum + 1) % 2 ^ 32 }))

/-- Step 9, after its flip: the old tile is reset and unused. (DEDUCED, log entry 78) -/
def moveDone (j : Job) (s : State) : State :=
  let s := j.moves.foldl (fun s m =>
    let n := m.old
    let s := s.clear (F.TILE_CHG_CTL_EBF_EN m.spare)
    let s := if s.tileOn n then
        ((tileReset n (s.clear (F.TILE_SEQ_CTL_DRAIN n))).clear (F.TILE_CHG_CTL_QUIESCE n)).clear (F.TILE_CHG_STAT_HELD n)
      else s
    s.set (F.tileRole n) 0) s
  planRecovers (jobEnd 0 0 s)

/-- A move that cannot take its spare ends before any flip, and nothing else changes (R721). -/
def moveRefused (j : Job) (s : State) : State :=
  jobEnd 3 0 (j.moves.foldl (fun s m => if s.get (F.tileRole m.spare) = 3 then s.set (F.tileRole m.spare) 0 else s) s)

/-- Step 1, with the spares loaded: the weights decide. -/
def moveWeights (p : Plan) (j : Job) (s : State) : State :=
  if s.fw.tasks.any (fun k => k.why == .move) then s
  else if moveWeightsFailed s p j.moves then moveRefused j s
  else moveArm j s

/-- Step 1, as far as it can go now. (DEDUCED, log entry 78) -/
def moveFirst (p : Plan) (j : Job) (s : State) : State :=
  let needs := moveNeeds s p j.moves
  if j.phase = 1 then moveWeights p j s
  else if moveLost s needs then moveRefused j s
  else if !moveReady s needs then s
  else
    let j := { j with phase := 1 }
    moveWeights p j ((j.moves.foldl (fun s m => loadSpare p m s) s).setJob (some j))

/-- A boundary or a flip finds the move at a step. `flip` tells which. (DEDUCED, log entry 78) -/
def moveAdvance (p : Plan) (j : Job) (flip : Bool) (s : State) : State :=
  if j.step = 1 then moveFirst p j s
  else if j.step = 2 then (if flip && decide ((s.epochNum + 1) % 2 ^ 32 = j.due) then moveMap j s else s)
  else if j.step = 4 then (if flip && decide (s.epochNum = j.due) then jobStep 5 s else s)
  else if j.step = 5 then
    if j.moves.all (oldQuiet s) then moveUnlist j (j.moves.foldl (fun s m => moveOver p m s) s) else s
  else if j.step = 9 then (if flip && decide (s.epochNum = j.due) then moveDone j s else s)
  else s

/-- TILE_MOVE is accepted or turned away. (DEDUCED, log entry 78) -/
def tileMove (cid : Nat) (e : List Byte) (p : Plan) (s : State) : State :=
  if !moveParamOk p e then oweDone cid 0x10 2 0 s
  else if !(movesOf e).all (fun m => goldenUsable s p m.logical) then oweDone cid 0x10 12 0 s
  else
    let ms := (movesOf e).map (fun m => { m with old := runTile s m.logical })
    if !ms.all (spareOk s) || !decide (ms.map (·.spare)).Nodup then oweDone cid 0x10 3 0 s
    else
      let r := leAt e 9 1
      let j : Job := { op := 0x10, cid := cid, moves := ms, recover := if r = 0 then 4 else r }
      let s := procBegin 0x10 (s.setJob (some j))
      moveFirst p j (moveWake (moveNeeds s p ms) s)

/-! ### Tile reload (R700, R701) -/

/-- The inbox registers of a DMEM section. -/
def writeInbox (n : Nat) (x : Sect) (s : State) : State :=
  (s.typed (F.NE_INBOX n).off (leAt x.data 8 4)).typed (F.NE_INBOX_LIM_SIZE n).off (leAt x.data 12 4)

/-- Steps 1 to 4 on physical tile `n`. -/
def reloadTile (p : Plan) (i n resume : Nat) (s : State) : State :=
  let h := (s.ne n).horizon
  let s := (List.range 4).foldl (fun s g => s.set (F.TILE_CHG_H n g) (h.getD g 0)) s
  let s := tileReset n s
  let s := settleHold n (s.raise (F.TILE_CHG_CTL_HOLD n))
  let s := (p.sects.filter (fun x => tileTy x.ty && x.tile == i)).foldl (fun s x =>
    match x.ty with
    | 5 => writeImem n x s
    | 6 => writeInbox n x s
    | 7 => writeNe n x s
    | 10 => writeCimCfg n x s
    | _ => s) s
  let s := neEnable n (s.clear (F.NE_CTL_STAMP_INIT n))
  let s := resumeEngine n true (s.raise (F.TILE_CHG_CTL_HLOAD n))
  let s := setSwap p i n (bankBMask s p i n) s
  tileGo n true (s.set (F.TILE_SEQ_BOOT n) (resume / 4))

/-- The tile may be reloaded: HALTED with DOUBLE, STOP or IPOISON. -/
def mayReload (s : State) (n : Nat) : Bool :=
  s.tileOn n && tileHalted s n && [2, 3, 4].contains (s.get (F.TILE_SEQ_STAT_HALT_REASON n))

/-- A reload begins; it ends at the restart boundary's flip. (DEDUCED, log entry 78) -/
def reloadBegin (host : Bool) (cid i n resume : Nat) (p : Plan) (s : State) : State :=
  let s := procBegin 0x11 (s.setJob (some { op := 0x11, cid := cid, moves := [⟨i, n, n, resume⟩], host := host }))
  let s := reloadTile p i n resume s
  match s.fw.job with
  | some j => jobStep 4 (s.setJob (some { j with due := (s.epochNum + 1) % 2 ^ 32 }))
  | none => s

/-- TILE_RELOAD is accepted or turned away. (DEDUCED, log entry 78) -/
def tileReload (cid i resume : Nat) (p : Plan) (s : State) : State :=
  let n := runTile s i
  if !p.tiles.contains i || !mayReload s n then oweDone cid 0x11 2 0 s
  else if !goldenUsable s p i then oweDone cid 0x11 12 0 s
  else reloadBegin true cid i n resume p s

/-- The restart boundary's flip ends the reload. -/
def reloadAdvance (j : Job) (flip : Bool) (s : State) : State :=
  if flip && decide (s.epochNum = j.due) then planRecovers (jobEnd 0 0 s) else s

/-! ### Weight update (R702, R703, R716) -/

/-- The codes of R661 that a weight update can meet: format and content, signature, weights. (DEDUCED, log entry 80) -/
def updateCheck (s : State) (b : List Byte) (len : Nat) : Option Refused :=
  match formatCheck b len with
  | some r => some r
  | none =>
    let p := planOf b
    firstRefusal [digestCheck b, signatureCheck s b,
      if p.sects.all (fun x => x.ty == 9) then none else some (2, detPlan), refuseAt 13 (p.ofTy 9) (fun x =>
        (x.data.drop 4).any (fun w => decide (w.toInt < -15) || decide (15 < w.toInt)))]

/-- The sections of an update stand on arrays of the plan. -/
def updateArrays (s : State) (xs : List Sect) : List (Nat × Nat × Sect) := xs.map (fun x => (runTile s x.tile, x.array, x))

/-- Bench is programming, or scanning, a bank of an array. -/
def arrayBusy (s : State) (n a : Nat) : Bool :=
  s.fw.tasks.any (fun k => k.tile == n && k.array == a) || (s.arr n a).session || (s.arr n a).spare.isSome

/-- Every named twin holds its new tag, is VALID, and its scan found nothing. -/
def updateGood (s : State) (l : List (Nat × Nat × Sect)) : Bool :=
  l.all (fun e =>
    let x := s.arr e.1 e.2.1
    let b := x.bank (!x.cb)
    b.state == .valid && b.tag == some e.2.2.tag && s.get (F.CIM_TS_MSCAN_FCNT e.1 e.2.1) == 0)

/-- Step 5: the golden images are replaced, and a refresh that came due meanwhile is started (R716). (DEDUCED, log entry 80) -/
def updateGolden (xs : List Sect) (s : State) : State :=
  match s.fw.plan with
  | none => s
  | some p =>
    let new := p.sects.map (fun x => match xs.find? (fun y => x.ty == 9 && y.target == x.target) with
      | some y => { x with data := y.data }
      | none => x)
    let s := s.setFw { s.fw with plan := some { p with sects := new } }
    let good := fun (ix : Nat) => p.sects.any (fun y => y.ix == ix && y.ty == 9 && xs.any (fun x => x.target == y.target))
    let s := (s.setRas { s.ras with badGolden := s.ras.badGolden.filter (fun ix => !good ix) })
    xs.foldl (fun s x =>
      let n := runTile s x.tile
      [false, true].foldl (fun s b =>
        if ((s.arr n x.array).bank b).due then refreshDue n x.array b (swapPoint p x.tile) s else s) s) s

/-- A boundary finds the update at a step. (DEDUCED, log entry 80) -/
def updateAdvance (p : Plan) (j : Job) (s : State) : State :=
  let l := updateArrays s j.sects
  if j.step = 1 then
    if l.any (fun e => arrayBusy s e.1 e.2.1) then s
    else jobStep 2 (l.foldl (fun s e => startTask e.1 e.2.1 e.2.2.tag (e.2.2.data.drop 4) .update s) s)
  else if j.step = 2 then
    if s.fw.tasks.any (fun k => k.why == .update) then s
    else if !updateGood s l then jobEnd 9 0 s
    else
      let tiles := (j.sects.map Sect.tile).foldl setIns []
      let s := tiles.foldl (fun s i =>
        setSwap p i (runTile s i) ((j.sects.filter (fun x => x.tile == i)).foldl (fun m x => m ||| 2 ^ x.array) 0) s) s
      jobStep 4 s
  else if j.step = 4 then
    if l.all (fun e => (s.arr e.1 e.2.1).cbank.tag == some e.2.2.tag) then jobEnd 0 0 (updateGolden j.sects (jobStep 5 s)) else s
  else s

/-- CIM_UPDATE is accepted or turned away. (DEDUCED, log entry 80) -/
def cimUpdate (cid addr len : Nat) (p : Plan) (s : State) : State :=
  let b := lpRead s addr len
  if lpPoisoned s addr len || (updateCheck s b len).isSome then oweDone cid 0x12 5 0 s
  else
    let xs := (planOf b).sects
    if xs.any (fun x => !(p.ofTy 9).any (fun y => y.target == x.target)) then oweDone cid 0x12 2 0 s
    else if xs.any (fun x => !swapPoint p x.tile) then oweDone cid 0x12 4 0 s
    else
      let j : Job := { op := 0x12, cid := cid, sects := xs }
      updateAdvance p j (procBegin 0x12 (s.setJob (some j)))

/-- Bench takes the end of a margin scan (R536): the twin's task ends, and a refreshed twin without a failure is offered for
the switch. -/
def scanTask (n a : Nat) (s : State) : State :=
  match s.fw.tasks.find? (fun k => k.tile == n && k.array == a && k.next == 513) with
  | none => s
  | some k =>
    let s := s.setTasks (s.fw.tasks.filter (fun y => !(y.tile == n && y.array == a)))
    match s.fw.plan with
    | some p =>
      if k.why = .refresh ∧ s.get (F.CIM_TS_MSCAN_FCNT n a) = 0 then setSwap p (logicalOf s n) n 1 s else s
    | none => s

/-- Row MARGIN_SCAN_DONE. (DEDUCED, log entry 80) -/
def execMarginScanDone (tile array : Nat) (failed : List Nat) (s : State) : Res :=
  .next (if arrOn s tile array && (s.arr tile array).scan.isSome then scanTask tile array (scanDone tile array failed s) else s)

/-! ### Plan replacement (R704 to R707) -/

/-- What two plans share (R705): tiles, mailbox slots, result templates, global counters. -/
def sharesWith (s : State) (old new : Plan) : Bool :=
  let slots := fun (p : Plan) => (p.ofTy 12).flatMap (fun x => (syncSlots x).map (·.1))
  let tmpl := fun (p : Plan) => (p.ofTy 13).map (·.target)
  let ctrs := fun (p : Plan) => (p.ofTy 12).flatMap (fun x => ((syncPairs x).filter (fun e => bitOf e.1 31)).map (fun e => e.1 % 32768))
  let meets := fun (a b : List Nat) => a.any b.contains
  meets (new.physTiles s) (old.tiles.map (runTile s)) || meets (slots old) (slots new) || meets (tmpl old) (tmpl new)
    || meets (ctrs old) (ctrs new)

/-- The epochs from now to C: the first boundary at least `lo` on that, where R707 asks for it, falls on a whole second within the
next 2 s. -/
def cutAfter (p : Plan) (lo : Nat) (s : State) : Option Nat :=
  let len := s.get F.TSB_EPOCH_LEN
  let whole := p.originSec && p.epochLen != len
  (List.range (250000000 / len + 9)).find? (fun k =>
    let b := s.tb.next + (k - 1) * len
    decide (lo ≤ k) && (!whole || (b % 125000000 == 0 && decide (b ≤ s.T + 250000000))))

/-- Tile `i` of the new plan, loaded on `n`. -/
def loadTile (p : Plan) (i n : Nat) (s : State) : State := (writeTile p i n (tileReset n s)).set (F.tileRole n) 1

/-- Step 1: the tiles that the running plan does not use are loaded, and the twins of all arrays are programmed. -/
def replaceLoad (p : Plan) (used : List Nat) (s : State) : State :=
  p.tiles.foldl (fun s i =>
    let n := p.phys s i
    startWeights .load p i n (if used.contains n then s else loadTile p i n s)) s

/-- Every tile of the running plan is told to drain. -/
def drainOld (used : List Nat) (s : State) : State :=
  used.foldl (fun s n => if s.tileOn n then s.raise (F.TILE_SEQ_CTL_DRAIN n) else s) s

/-- The new epoch length is staged (R69). -/
def stageLength (p : Plan) (s : State) : State :=
  if p.epochLen = s.get F.TSB_EPOCH_LEN then s else (s.set F.TSB_EPOCH_NEXT p.epochLen).raise F.TSB_EPOCH_CTL_ARM

/-- Step 2 is staged in epoch C - 1. -/
def replaceStage (p : Plan) (j : Job) (s : State) : State :=
  let s := drainOld j.tiles (stageLength p s)
  let s := if j.seamless then armPlan p (setSwaps p (p.sects.foldl (fun s x => writeGlobal x s) s))
    else
      let s := (List.range 32).foldl (fun s g => s.clear (F.ADM_GATE_CFG_EN g)) s
      (List.range 16).foldl (fun s n => s.clear (F.NET_TAP_CTL_EN n)) s
  jobStep 2 (s.setJob (some j))

/-- Bench stops a tile of the old plan as soon as it waits. -/
def stopWaiting (used : List Nat) (s : State) : State :=
  used.foldl (fun s n => if tileWaits s n then tileStop n s else s) s

/-- All of them have halted. (DEDUCED, log entry 79) -/
def oldStopped (s : State) (used : List Nat) : Bool := used.all (fun n => !s.tileOn n || tileHalted s n)

/-- Tiles and clusters that only the old plan used: ROLE UNUSED, DRAIN cleared, clusters OFF. (DEDUCED, log entry 79) -/
def retireOld (p : Plan) (used : List Nat) (s : State) : State :=
  let keep := p.physTiles s
  let gone := used.filter (fun n => !keep.contains n)
  let s := used.foldl (fun s n => if s.tileOn n then s.clear (F.TILE_SEQ_CTL_DRAIN n) else s) s
  let s := gone.foldl (fun s n => s.set (F.tileRole n) 0) s
  clustersOff (((gone.map (· / 16)).foldl setIns []).filter (fun k => !(p.clusters s).contains k)) s

/-- From S on the new plan's floors hold. -/
def replaceFloors (p : Plan) (s : State) : State :=
  (p.clusters s).foldl (fun s k => s.set (F.PMU_CLU_FLOOR k) (p.oppMin.getD k 0)) s

/-- A replacement that fails in step 1 gives up what it had loaded; the running plan goes on (R704). (DEDUCED, log entry 79) -/
def replaceFail (r : Refused) (p : Plan) (j : Job) (s : State) : State :=
  let mine := (p.physTiles s).filter (fun n => !j.tiles.contains n)
  let s := mine.foldl (fun s n => s.set (F.tileRole n) 0) s
  let ks := ((mine.map (· / 16)).foldl setIns []).filter (fun k => !j.tiles.any (fun n => n / 16 == k))
  planRefuse r (clustersOff ks s)

/-- Step 5: shared tiles, global sections, SYNC and Ladle of a replacement with a gap. -/
def replaceWrite (p : Plan) (j : Job) (s : State) : State :=
  let s := p.tiles.foldl (fun s i => let n := p.phys s i; if j.tiles.contains n then loadTile p i n s else s) s
  let s := p.sects.foldl (fun s x => writeGlobal x s) s
  let s := (p.ofTy 12).foldl (fun s x => writeSync x s) s
  let s := (p.ofTy 11).foldl (fun s x => writeLadle x s) s
  retireOld p j.tiles ((setSwaps p s).set F.EVF_CTL_CT_SHARE p.ctShare)

/-- C is chosen (R707): a seamless replacement that brings a Ladle program writes it now and gives it RUNAHEAD + 1 epochs.
(DEDUCED, log entry 79) -/
def replaceChoose (p : Plan) (j : Job) (s : State) : State :=
  let ladle := j.seamless && !(p.ofTy 11).isEmpty
  match cutAfter p (if ladle then max 1 (p.runahead + 1) else 1) s with
  | none => jobEnd 6 0 (s.setFw { s.fw with next := none })
  | some k =>
    let j := { j with phase := 2, due := (s.epochNum + k) % 2 ^ 32 }
    let s := s.setJob (some j)
    let s := if ladle then ladleEnable (((p.ofTy 11).foldl (fun s x => writeLadle x s) s).set F.LDL_E0 j.due) else s
    if k = 1 then replaceStage p j s else s

/-- Step 1, as far as it can go now. (DEDUCED, log entry 79) -/
def replaceFirst (p : Plan) (j : Job) (flip : Bool) (s : State) : State :=
  if j.phase = 0 then
    if clusterLost s p then replaceFail (0x16, detPlan) p j s
    else if !clustersReady s p then s
    else (replaceLoad p j.tiles s).setJob (some { j with phase := 1 })
  else if flip then s
  else if j.phase = 1 then
    if s.fw.tasks.any (fun k => k.why == .load) then s
    else if weightsFailed s p then replaceFail (0x15, detPlan) p j s
    else replaceChoose p j s
  else if (s.epochNum + 1) % 2 ^ 32 = j.due then replaceStage p j s
  else s

/-- S of a replacement with a gap (R705). (DEDUCED, log entry 79) -/
def gapFirst (p : Plan) (j : Job) (s : State) : Nat :=
  let d := (s.epochNum + max 2 (p.runahead + 1)) % 2 ^ 32
  let first := (j.due + 2) % 2 ^ 32
  if sx 32 ((d + 2 ^ 32 - first) % 2 ^ 32) < 0 then first else d

/-- Step 5 towards S: the Ladle, the arming at S - 1, the start at S. -/
def replaceStart (p : Plan) (j : Job) (flip : Bool) (s : State) : State :=
  let left := sx 32 ((j.due + 2 ^ 32 - s.epochNum) % 2 ^ 32)
  let s := if left ≤ p.runahead + 1 && !(p.ofTy 11).isEmpty && !s.flag F.LDL_CTL_EN && decide (0 < left) then
      ladleEnable (s.set F.LDL_E0 j.due) else s
  if left = 1 ∧ !flip then setPlanState 2 (armPlan p s)
  else if left = 0 ∧ flip then
    let s := replaceFloors p (planRuns p j.due s)
    jobEnd 0 (reasonWord s) s
  else s

/-- A boundary or a flip finds the replacement at a step. (DEDUCED, log entry 79) -/
def replaceAdvance (p : Plan) (j : Job) (flip : Bool) (s : State) : State :=
  if j.step = 1 then replaceFirst p j flip s
  else if j.step = 2 then
    if s.epochNum ≠ j.due then s
    else if j.seamless then
      if flip then
        let s := (p.ofTy 12).foldl (fun s x => writeSync x s) s
        jobStep 4 (stopWaiting j.tiles (planRuns p j.due s))
      else s
    else jobStep 3 (stopWaiting j.tiles (ladleDisable s))
  else if j.step = 3 then
    let s := stopWaiting j.tiles s
    if !oldStopped s j.tiles || !s.ladle.xfers.isEmpty then s
    else
      let s := replaceWrite p j s
      jobStep 5 (s.setJob (some { j with due := gapFirst p j s }))
  else if j.step = 4 then
    let s := stopWaiting j.tiles s
    if oldStopped s j.tiles then
      let s := replaceFloors p (retireOld p j.tiles s)
      jobEnd 0 (reasonWord s) s
    else s
  else replaceStart p j flip s

/-- PLAN_REPLACE is accepted or turned away (R704, R707). (DEDUCED, log entry 79) -/
def planReplace (cid addr len : Nat) (found : Option Refused) (old : Plan) (s : State) : State :=
  let used := (old.tiles.map (runTile s)).foldl setIns []
  let s := procBegin 2 (s.setJob (some { op := 2, cid := cid }))
  if lpPoisoned s addr len then planRefuse (0x16, detHeader) s
  else match planCheck s addr len found with
  | some r => planRefuse r s
  | none =>
    let p := planOf (lpRead s addr len)
    if (cutAfter p 1 s).isNone then jobEnd 6 0 s
    else
      let j : Job := { op := 2, cid := cid, seamless := !sharesWith s old p && (old.ofTy 11).isEmpty, tiles := used }
      let s := (p.clusters s).foldl (fun s k =>
        let s := benchOpp k (max (p.oppMin.getD k 0) (s.get (F.PMU_CLU_FLOOR k))) s
        if s.get (F.PMU_CLU_STATE k) = 2 ∧ (seqOf s (7 + k)).isNone then s else benchCluster k 2 s) s
      replaceFirst p j false ((s.setFw { s.fw with next := some p }).setJob (some j))

/-! ### Port cycle (R708, R709) -/

/-- A fronthaul port: EN 0, then EN 1. -/
def cycleFronthaul (cid p : Nat) (s : State) : State :=
  if !present s p then oweDone cid 0x13 2 0 s
  else
    let s := procBegin 0x13 (s.setJob (some { op := 0x13, cid := cid, kind := 0, port := p }))
    jobEnd 0 0 (portEnable p (portDisable p s))

/-- Bench sets both EN bits again once the channel is OFF. -/
def cycleAdvance (j : Job) (s : State) : State :=
  if j.op = 0x13 ∧ j.kind = 1 ∧ s.chState j.port = 0 then jobEnd 0 0 (jxlEnable j.port (ppcEnable j.port (jobStep 2 s))) else s

/-- A camera port: EN 0; the channel cools down to OFF. (DEDUCED, log entry 44) -/
def cycleCamera (cid n : Nat) (s : State) : State :=
  if 16 ≤ n then oweDone cid 0x13 2 0 s
  else
    let j : Job := { op := 0x13, cid := cid, kind := 1, port := n }
    cycleAdvance j (jxlDisable n (procBegin 0x13 (s.setJob (some j))))

/-! ### Procedures at a boundary or a flip -/

/-- The procedure in progress moves on. (DESIGN CHOICE, log entry 77) -/
def procAdvance (flip : Bool) (s : State) : State :=
  match s.fw.job, s.fw.plan with
  | some j, some p =>
    if j.op = 0x10 then moveAdvance p j flip s
    else if j.op = 0x11 then reloadAdvance j flip s
    else if j.op = 0x12 then updateAdvance p j s
    else if j.op = 2 then replaceAdvance (s.fw.next.getD p) j flip s
    else s
  | _, _ => s

/-- Row NAP_EXIT: while a plan runs Bench restores the compute banks of the tile (R701, R770). -/
def execNapExit (agent : Agent) (tile : Nat) (s : State) : Res :=
  .next (cluWrite agent (tile / 16) (F.PMU_NAP_REQ (tile / 16)).off (fun s => restoreSwap tile (napExit tile s)) s)

end Sys2Proof.Machine
end

