-- ==== Sys2Proof/Machine/Quench.lean ====
section
/-!
DEFINITION. Sys2Proof/Machine/Quench.lean: thermal sensing and Quench (20 R786 to R791).
-/

namespace Sys2Proof.Machine

/-- The device is in reset: PORST_N low, or after the hardware thermal trip (20 R792). (DESIGN CHOICE, log entry 15) -/
def State.inReset (s : State) : Bool := s.pins.porst || s.pins.trip

/-- R789: Quench begins with cause 1 TEMP, 2 ALERT, 3 UV or 4 AVS. One in force goes on. (DEDUCED, log entry 94) -/
def quenchStart (cause : Nat) (s : State) : State :=
  if s.inReset || s.flag F.PMU_QUENCH_ACTIVE then s
  else
    let s := ((s.raise F.PMU_QUENCH_ACTIVE).set F.PMU_QUENCH_CAUSE cause).inc F.PMU_QCNT
    let s := ((List.range 192).filter s.tileOn).foldl (fun s n => tileQuench n s) s
    let s := showBusy (setRail ((List.range 12).foldl (fun s k => oppAbandon k s) s))
    let s := jobQuench (s.setTasks [])
    let s := if s.get F.GLB_PLAN_STAT_STATE = 3 then setPlanState 5 s else s
    s.bench .quench cause

/-- The sensor is in a domain that is on. (DEDUCED, log entry 94) -/
def sensorOn (s : State) (k : Nat) : Bool :=
  if k < 12 then s.get (F.PMU_CLU_STATE k) == 2
  else if k = 12 then s.netOn
  else if k = 13 then s.ingOn
  else if k = 14 then s.fabOn
  else s.memOn || s.hstOn

/-- The sensors that take part, with their readings in 0.125 °C from -40 °C to +150 °C. -/
def readingsOf (s : State) (r : List Int) : List (Nat × Int) :=
  ((List.range 16).filter (sensorOn s)).map (fun k => (k, clampI (-320) 1200 (r.getD k 0)))

/-- The sensor of the highest reading, the first of several. (DEDUCED, log entry 94) -/
def hottest (l : List (Nat × Int)) : Option (Nat × Int) :=
  l.foldl (fun a e => match a with
    | none => some e
    | some x => if x.2 < e.2 then some e else some x) none

/-- One sample of every sensor (R786 to R788). (DEDUCED, log entry 94) -/
def thermalSample (r : List Int) (s : State) : State :=
  let l := readingsOf s r
  let s := (List.range 16).foldl (fun s k => s.clear (F.PMU_TS_VALID k)) s
  let s := l.foldl (fun s e => (s.seti (F.PMU_TS_T e.1) e.2).raise (F.PMU_TS_VALID e.1)) s
  match hottest l with
  | none => (s.setPmu { s.pmu with hot := 0 })
  | some (k, tj) =>
    let s := (s.seti F.PMU_THERM_STAT_TJ tj).set F.PMU_THERM_STAT_HOT k
    let s :=
      if (s.get F.PMU_THERM_CFG_WARN * 8 : Nat) < tj then
        let s := s.raise F.PMU_THERM_STAT_WARN
        if s.flag F.PMU_THERM_CFG_WARN_IE then s.bench .warn k else s
      else s
    let n := if 920 < tj then s.pmu.hot + 1 else 0
    let s := (s.setPmu { s.pmu with hot := n })
    if 2 ≤ n then quenchStart 1 s else s

/-- Row THERMAL_SAMPLE. -/
def execThermalSample (readings : List Int) (s : State) : Res := .next (if s.inReset then s else thermalSample readings s)

/-- Row PMB_ALERT. -/
def execPmbAlert (s : State) : Res := .next (quenchStart 2 s)

/-- Row VDD_TILE_UV. -/
def execVddTileUv (s : State) : Res := .next (quenchStart 3 s)

/-- Row AVSBUS_FAILURE (R785). -/
def execAvsbusFailure (s : State) : Res := .next (if s.inReset then s else quenchStart 4 (s.raise F.PMU_DVFS_STAT_AVS_ERR))

/-- Row AVS_READBACK_TIMEOUT: with AVS_WAIT = 1, the rail of a change in progress has not read back in time (R785). -/
def execAvsReadbackTimeout (s : State) : Res :=
  .next (if s.flag F.PMU_DVFS_CFG_AVS_WAIT && s.flag F.PMU_DVFS_STAT_BUSY then quenchStart 4 s else s)

/-- R791, R805: CLR ends Quench with Tj at or below QREL and no condition of R788 (`condition`) in force. -/
def quenchClear (condition : Bool) (s : State) : State :=
  if !s.flag F.PMU_QUENCH_ACTIVE then s
  else if condition || decide ((s.get F.PMU_THERM_CFG_QREL * 8 : Nat) < s.geti F.PMU_THERM_STAT_TJ) then
    s.raise F.PMU_QUENCH_CLR_REFUSED
  else s.clear F.PMU_QUENCH_ACTIVE

/-- Row QUENCH_CLR. -/
def execQuenchClr (agent : Agent) (condition : Bool) (s : State) : Res :=
  .next (s.guardWrite (!s.pins.porst) .benchTouchmark agent F.PMU_QUENCH_CLR.off (quenchClear condition))

end Sys2Proof.Machine
end

