-- ==== Sys2Proof/Machine/Ras.lean ====
section
/-!
DEFINITION. Sys2Proof/Machine/Ras.lean: the scrubbers and what they find, storms and degraded links, restarts (21 R813 to R829).
-/

namespace Sys2Proof.Machine

/-! ### Where a scrubbed word lies (R810, R824) -/

/-- Region code. -/
def scrubRegion : ScrubAt → Nat
  | .imem _ _ => 0
  | .data _ a => if a < 0xC000 then 1 else if a < 0x50000 then 2 else 3
  | .dyn _ _ => 4
  | .pool _ _ => 7
  | .lp _ _ _ => 8
  | .packet _ _ => 9
  | .nrt _ _ => 12
  | .gateMap _ _ => 12
  | .merge _ _ => 12
  | .mac _ => 12
  | .vlan _ => 12
  | .counter _ => 13
  | .header _ => 13
  | .management _ => 14
  | .secure _ => 15

/-- NODE, UNIT and ADDR of a log entry. (DEDUCED, log entry 96) -/
def scrubPlace : ScrubAt → Nat × Nat × Nat
  | .imem n a => (n, 0, a / 8 * 8)
  | .data n a => (n, 0, a / 8 * 8)
  | .dyn n w => (n, 0, if w < 64 then 4 * w / 8 * 8 else 4 * (w - 64) / 8 * 8)
  | .pool a b => (0xFFF, b % 16, a / 8 * 8)
  | .lp a c _ => (0xFFF, c % 16, a / 8 * 8)
  | .packet c _ => (0xFFF, 0, c)
  | .nrt i _ => (0xFFF, 0, i)
  | .gateMap g e => (0xFFF, g % 16, e)
  | .merge g i => (0xFFF, g % 16, i)
  | .mac i => (0xFFF, 0, i)
  | .vlan v => (0xFFF, 0, v)
  | .counter k => (if k < 0x10000 then 0xFFF else (k - 0x10000) / 512, 0, k)
  | .header k => (0xFFF, 0, k)
  | .management a => (0xFFF, 0, a / 8 * 8)
  | .secure a => (0xFFF, 0, a / 8 * 8)

/-- The memory is powered and the word exists. -/
def scrubThere (s : State) : ScrubAt → Bool
  | .imem n a => s.tileOn n && decide (a < 0x4000)
  | .data n a => s.tileOn n && dataAddr a
  | .dyn n w => s.tileOn n && decide (w < 576)
  | .pool a _ => s.fabOn && decide (a < 2 ^ 24)
  | .lp a _ _ => s.flag F.MEM_STAT_READY && !s.flag F.MEM_STAT_SR && decide (a < lpBytes s)
  | .packet _ _ => s.netOn
  | .nrt i _ => s.fabOn && decide (i < 208)
  | .gateMap g e => s.ingOn && decide (g < 32) && decide (e < 32)
  | .merge g i => s.ingOn && decide (i < (s.gate g).merge.length)
  | .mac i => s.netOn && decide (i < s.sw.mac.length)
  | .vlan v => s.netOn && decide (v < 4096)
  | .counter k => s.fabOn && decide (k < 0x10000 + 512 * s.cfg.tiles)
  | .header k => s.fabOn && decide (k < 4096)
  | .management _ => s.mgtOn
  | .secure _ => s.secOn

/-- The word already holds the poison pattern, which decodes as no new error (R811). -/
def scrubPoisoned (s : State) : ScrubAt → Bool
  | .imem n a => (s.tile n).ipoison.contains (a / 8)
  | .data n a => (s.tile n).poison.contains (a / 8)
  | .dyn n w => (s.ne n).badWords.contains w
  | .pool a _ => s.mem.poolBad.contains (a / 8)
  | .lp a _ _ => s.mem.lpBad.contains (a / 8)
  | .packet _ f => match f with
    | some i => (s.sw.queue[i]?).any (·.poison)
    | none => false
  | .nrt i sh => s.fab.badNrt.contains (if sh then i + 208 else i)
  | .gateMap g e => (s.gate g).badMap.contains e
  | .merge g i => ((s.gate g).merge[i]?).any (·.poisoned)
  | .mac _ => false
  | .vlan _ => false
  | .counter k => s.sync.poison.contains k
  | .header _ => false
  | .management _ => false
  | .secure _ => false

/-! ### Errors that no consumer asked for (R811, R817 to R823) -/

/-- R820: a word of the golden region makes the images `l` unusable. (DEDUCED, log entry 95) -/
def goldenBad (a : Nat) (l : List Nat) (s : State) : State :=
  match s.fw.plan with
  | none => s
  | some p =>
    let g := p.golden * 2 ^ 20
    if g ≤ a ∧ a < g + p.goldenBytes then
      let s := (s.setRas { s.ras with badGolden := l.foldl setIns s.ras.badGolden })
      (s.raise F.RAS_STAT_GOLDEN_BAD).bench .goldenBad a
    else s

/-- The word is poisoned, and its region's action is taken. (DEDUCED, log entry 95) -/
def scrubAct (w : ScrubAt) (s : State) : State :=
  match w with
  | .imem n a =>
    let t := s.tile n
    let s := s.setTile n { t with ipoison := setIns t.ipoison (a / 8) }
    s.setSeq n { s.seq n with haltPend := true }
  | .data n a =>
    let t := s.tile n
    let s := s.setTile n { t with poison := setIns t.poison (a / 8) }
    if a < 0xC000 then s
    else if a < 0x50000 then lineFound n (a / 8) s
    else s.setNe n { s.ne n with badLines := (s.ne n).badLines ++ [a / 8] }
  | .dyn n w => ((s.setNe n { s.ne n with badWords := setIns (s.ne n).badWords w }).raise (F.NE_STAT_DYN_ERR n)).bench .dynIll n
  | .pool a _ => ((s.setMem { s.mem with poolBad := setIns s.mem.poolBad (a / 8) })).inc F.MEM_POOL_UE
  | .lp a _ l => goldenBad a l (((s.setMem { s.mem with lpBad := setIns s.mem.lpBad (a / 8) })).inc F.MEM_UE)
  | .packet _ f => match f with
    | some i => (s.setSw { s.sw with queue := s.sw.queue.modify i (fun q => { q with poison := true }) })
    | none => s
  | .nrt i sh => (s.setFab { s.fab with badNrt := setIns s.fab.badNrt (if sh then i + 208 else i) })
  | .gateMap g e => s.setGate g { s.gate g with badMap := setIns (s.gate g).badMap e }
  | .merge g i => s.setGate g { s.gate g with merge := (s.gate g).merge.modify i (fun m => { m with poisoned := true }) }
  | .mac i => match s.sw.mac[i]? with
    | some e =>
      let s := (s.setRas { s.ras with lostMac := if e.static then s.ras.lostMac ++ [e] else s.ras.lostMac })
      macRemove e.vid e.mac s
    | none => s
  | .vlan v =>
    let e := sparseGet (fun _ => ({} : VlanEntry)) s.sw.vlan v
    let s := if e.valid then (s.setRas { s.ras with lostVlan := s.ras.lostVlan ++ [(v, e)] }) else s
    (s.setSw { s.sw with vlan := sparsePut (fun _ => {}) s.sw.vlan v { e with valid := false } })
  | .counter k => ((s.setSync { s.sync with poison := setIns s.sync.poison k })).bench .syncPoison k
  | .header k =>
    let x := s.slot k
    let s := (s.setSlot k { x with seq := 0, ready := false, lost := true }).inc (F.SYNC_MB_LOST k)
    (s.inc F.SYNC_MB_LOST_SUM).bench .slotError k
  | .management _ => (s.setFw { s.fw with stopped := true })
  | .secure _ => s

/-- Row SCRUB_READ (R813, R817): scrubbers run while SCRUB_EN = 1, or with MGT off; the sweeper's reads do not depend on it
(R832). -/
def scrubRead (w : ScrubAt) (f : ScrubFind) (s : State) : State :=
  if !scrubThere s w || scrubPoisoned s w || (s.mgtOn && !s.flag F.RAS_CTL_SCRUB_EN && scrubRegion w != 2) then s
  else
    let (node, unit, addr) := scrubPlace w
    match f with
    | .clean => s
    | .corrected =>
      let s := rasCe (scrubRegion w) .scrub node unit addr s
      if scrubRegion w = 7 then s.inc F.MEM_POOL_CE else if scrubRegion w = 8 then s.inc F.MEM_CE else s
    | .uncorrectable => scrubAct w (rasUe (scrubRegion w) .scrub node unit addr s)

/-- Row SCRUB_READ. (DEDUCED, log entry 96) -/
def execScrubRead (at_ : ScrubAt) (found : ScrubFind) (s : State) : Res := .next (scrubRead at_ found s)

/-- Regions with a scrubber register (R810). -/
def scrubbed (r : Nat) : Bool := [0, 1, 3, 4, 7, 8, 9, 12, 13, 14, 15].contains r

/-- Row SCRUB_PASS_LATE (R815). -/
def execScrubPassLate (region : Nat) (s : State) : Res :=
  .next (if s.mgtOn && scrubbed region && s.flag F.RAS_CTL_SCRUB_EN then s.inc (F.RAS_LATE region) else s)

/-- A delay-ring line that the scrubber poisoned is written zero at the boundary, and is clean (R817). -/
def ringLines (n : Nat) (s : State) : State :=
  ((s.ne n).badLines.filter (0xA000 ≤ ·)).foldl (fun s l => s.setTile n ((s.tile n).store (8 * l) (leBytes 8 0))) s

/-! ### Storms and links (R827, R828) -/

/-- Row CE_STORM: the region has counted CE_THR corrected errors in this second. (DEDUCED, log entry 89; DEDUCED, log entry 96) -/
def execCeStorm (region : Nat) (s : State) : Res :=
  .next (if s.mgtOn && decide (region < 19) && decide (s.get F.RAS_CE_THR ≤ s.ras.ceSec.getD region 0) then
    let s := ((s.raise F.RAS_STAT_CE_STORM).set F.RAS_STAT_CE_REGION region).bench .ceStorm region
    if bitOf (s.get F.RAS_HOST_MASK) region then s.owe 0x08 (region + RasSrc.firmware.code * 32) (0xFFF + s.get F.RAS_LOG_WR * 2 ^ 16)
    else s
  else s)

/-- Row LINK_DEGRADED: the link into input port `port` of router `tile` has counted LINK_THR errors in this epoch.
(DEDUCED, log entry 96) -/
def execLinkDegraded (tile port : Nat) (s : State) : Res :=
  .next (if s.mgtOn && decide (port < 6) &&
      decide (s.get F.RAS_LINK_LINK_THR ≤ sparseGet (fun _ => 0) s.ras.links (tile * 6 + port)) then
    (((s.raise F.RAS_STAT_LINK_DEGRADED).set F.RAS_LINK_NODE tile).set F.RAS_LINK_PORT port).bench .linkDegraded tile
  else s)

/-! ### Repairs (R818, R821 to R823) -/

/-- Row AUTO_RELOAD_START: with AUTO_RELOAD = 1, a tile halted by an instruction-memory error is reloaded at the RESUME_PC that the
plan lists, once no procedure or load runs. -/
def execAutoReloadStart (tile resume : Nat) (s : State) : Res :=
  .next (match s.fw.plan with
  | some p =>
    let i := logicalOf s tile
    if benchRuns s && s.flag F.RAS_CTL_AUTO_RELOAD && planThere s && s.fw.job.isNone && mayReload s tile
        && s.get (F.TILE_SEQ_STAT_HALT_REASON tile) == 4 && p.tiles.contains i && runTile s i == tile
        && goldenUsable s p i then
      reloadBegin false 0 i tile resume p ((rasLog 0 .firmware false tile 0 0 s).bench .reload tile)
    else s
  | none => s)

/-- Row NBR_TABLE_REWRITE: the static entries that errors took from the MAC and VLAN tables stand again.
(DEDUCED, log entry 95) -/
def execNbrTableRewrite (s : State) : Res :=
  .next (if s.netOn && touchmarkRuns s then
    let s := s.ras.lostMac.foldl (fun s e => macPut e s) s
    let vlan := s.ras.lostVlan.foldl (fun l e => sparsePut (fun _ => {}) l e.1 e.2) s.sw.vlan
    ((s.setSw { s.sw with vlan := vlan }).setRas { s.ras with lostMac := [], lostVlan := [] })
  else s)

/-- Row PCIE_AER_ERROR (R829): SRC is LINK. (DEDUCED, log entry 89) -/
def execPcieAerError (correctable : Bool) (status : Word) (s : State) : Res :=
  .next (if !s.hstOn then s
  else if correctable then rasCe 18 .link 0xFFF 0 status.toNat s
  else rasUe 18 .link 0xFFF 0 status.toNat s)

/-- Row TRNG_HEALTH_FAILURE (22 R880). -/
def execTrngHealthFailure (s : State) : Res := .next (if s.secOn then s.setTouch { s.touch with trngBad := true } else s)

/-- Row TOUCHMARK_RESTART (R823, 22 R881): log entry; no transition, update or debug session survives, and the nonce is gone with
the memory that held it. A mailbox request stays BUSY and is answered afterwards. (DEDUCED, log entry 97) -/
def execTouchmarkRestart (s : State) : Res :=
  .next (if touchmarkRuns s then
    let s := rasUe 15 .read 0xFFF 0 0 s
    let s := s.setTouch { s.touch with update := none, nonce := none }
    ((s.clear F.GLB_FW_SLOTS_UPD_OPEN).clear F.GLB_LC_DBG_SCOPE).clear F.GLB_LC_DBG_LEFT
  else s)

/-- Row BENCH_RESTART (R822): Bench has stopped on an uncorrectable error, found by a scrubber before or by its own read now, and
Touchmark restarts it from its running slot, or from the other when it does not report `ready` within 2 s.
(DEDUCED, log entry 83) -/
def execBenchRestart (ready : Bool) (s : State) : Res :=
  .next (if benchRuns s || s.fw.stopped then
    let s := if s.fw.stopped then s else rasUe 14 .read 0xFFF 0 0 s
    let s := (s.setFw { s.fw with stopped := false })
    if ready then s
    else
      let c := 1 - s.get F.GLB_BOOT_SLOT
      let r := benchReason s [] c
      if accepted r then runBench c r s else s
  else s)

end Sys2Proof.Machine
end

