-- ==== Sys2Proof/Machine/Boot.lean ====
section
/-!
DEFINITION. Sys2Proof/Machine/Boot.lean: resets of domains and of the device, the boot, the warm reset and the thermal trip (00_scope
R2, 19 R749 to R759, 20 R792, R793, R807, R808, 22 R844, R845, R854 to R860, R874, 23 R887).
-/

namespace Sys2Proof.Machine

/-! ### Resets of domains -/

/-- Register `k` lies in one of the domains. -/
def domKey (ds : List Dom) (k : Nat) : Bool := match regRow k with
  | some r => ds.contains r.dom
  | none => false

/-- Staged registers in force outside `p` stay. -/
def dropAct (p : Nat → Bool) (s : State) : State := (s.setAct (s.act.filter (fun e => !p e.1)))

/-- NET is reset: switch, site time, servo and epochs (02 R85, R86, 03 R136, R137). -/
def resetNet (s : State) : State :=
  let s := dropAct (fun k => decide (k < 0x800000)) (s.dropRegs (domKey [.net]))
  (((s.setSw {}).setTb { maps := s.tb.maps, refclk := s.tb.refclk }).setRas { s.ras with lostMac := [], lostVlan := [] })

/-- ING is reset (02 R86, 04 R180, 05 R216, 06, 07). -/
def resetIng (s : State) : State :=
  let s := dropAct (fun k => decide (0x800000 ≤ k)) (s.dropRegs (domKey [.ing]))
  (((((((s.setJxl (List.replicate 16 {})).setCsi (List.replicate 4 {})).setPpc (List.replicate 17 {})).setAld {}).setGates (List.replicate 32 {})).setSee {}).setTb { s.tb with maps := List.replicate 16 {} })

/-- FAB is reset: fabric, sync block, Ladle; the pool's contents are lost (08 R313, 15 R617, 16 R654). -/
def resetFab (s : State) : State :=
  (((((((s.dropRegs (domKey [.fab])).setFab {}).setLate []).setSync {}).setLadle {}).setMem { s.mem with pool := [], poolBad := [] }).setRas { s.ras with links := [] })

/-- MEM is reset; its contents are lost unless LPDDR5X stands in self-refresh (15 R618). (DESIGN CHOICE, log entry 2) -/
def resetMem (lost : Bool) (s : State) : State :=
  let s := s.dropRegs (domKey [.mem])
  if lost then (s.setMem { s.mem with lp := [], lpBad := [] }) else s

/-- HST is reset (19 R759). -/
def resetHst (s : State) : State := ((s.dropRegs (domKey [.hst])).setHst {})

/-- MGT is reset: no plan runs and no procedure is resumed (17 R683, 18 R722). -/
def resetMgt (s : State) : State :=
  let s := (runClear s).dropRegs (fun k => domKey [.mgt] k
    || decide (0xE04000 ≤ k ∧ k < 0xE05000) || (decide (0x2000000 ≤ k ∧ k < 0x3000000) && decide (0xE000 ≤ k % 0x10000)))
  let r : Ras := { lostMac := s.ras.lostMac, lostVlan := s.ras.lostVlan }
  ((((s.clear F.PF1_BENCH_CTL_BUSY).setFw {}).setRas r).setHst { s.hst with notes := [], done := [] })

/-- Every cluster is reset and OFF (20 R766, R807): what stood in program stops, seals stay. (DEDUCED, log entry 92) -/
def resetClusters (s : State) : State :=
  let s := (List.range 192).foldl (fun s n => cimReset n s) s
  let s := (List.range 12).foldl (fun s k =>
    let s := (((s.clear (F.PMU_CLU_STATE k)).clear (F.PMU_CLU_BUSY k)).clear (F.PMU_CLU_PEND k)).clear (F.PMU_NAP_STATE k)
    ((s.clear (F.PMU_CLU_REQ k)).clear (F.PMU_CLU_FLOOR k)).clear (F.PMU_NAP_REQ k)) s
  let s := ((s.setCimq []).setPmu { s.pmu with seqs := s.pmu.seqs.filter (fun e => decide (e.1 < 7)), clocks := List.replicate 12 {} })
  showBusy (setRail s)

/-- The ring registers take their reset values, and what Bench owes through them is discarded (19 R751, R752). -/
def resetRings (s : State) : State :=
  ((s.dropRegs (fun k => decide (0x1700010 ≤ k ∧ k < 0x1700080))).setHst {})

/-! ### Reset of the device -/

/-- Registers that OTP, the die and the part hold: GLB_PART, GLB_STEP, GLB_DEVID. -/
def fixedReg (k : Nat) : Bool := k == 0 || k == 4 || k == 0x10 || k == 0x14

/-- What a tile keeps without power: cells, seals and substitution tables (20 R766, 12 R510). (DESIGN CHOICE, log entry 2) -/
def tileCold (t : Tile) : Tile := { cim := { arrays := t.cim.arrays.map (fun x => { a := x.a, b := x.b }) } }

/-- Every domain is reset, AO too unless `keepAo` (20 R792, R808); OTP, flash, touchstone cells and the pins stay. A sequence
in progress is not resumed (R804). -/
def deviceReset (keepAo : Bool) (s : State) : State :=
  let s := (List.range 192).foldl (fun s n => cimReset n s) s
  { cfg := s.cfg, pins := s.pins, tb := { refclk := s.tb.refclk },
    regs := s.regs.filter (fun e => fixedReg e.1 || (keepAo && domKey [.ao] e.1)),
    tiles := s.tiles.map tileCold,
    pmu := if keepAo then { aoPhase := s.pmu.aoPhase } else {},
    touch := { otp := s.touch.otp, flash := s.touch.flash, trngBad := s.touch.trngBad },
    freeCtr := s.freeCtr, out := s.out, pending := s.pending }

/-- Row PORST_N_ASSERT (R888): the device is in reset. -/
def execPorstNAssert (s : State) : Res :=
  .next ((deviceReset false s).setPins { s.pins with porst := true, trip := false, pcieUp := false })

/-- The status that the PMU shows of domains and clusters once every domain is off. -/
def allOff (s : State) : State :=
  let s := (List.range 7).foldl (fun s d => s.set (F.domState d) 0) s
  let s := (List.range 12).foldl (fun s k =>
    (((s.clear (F.PMU_CLU_STATE k)).clear (F.PMU_CLU_BUSY k)).clear (F.PMU_CLU_PEND k)).clear (F.PMU_NAP_STATE k)) s
  setRail (s.clear F.PMU_DVFS_STAT_BUSY)

/-- Row THERMAL_TRIP (R792): every domain but AO is reset and off, and the device is in reset. Quench, whose tiles are reset,
ends; QUENCH_N stays low until the boot begins (R793). (DEDUCED, log entry 94) -/
def execThermalTrip (s : State) : Res :=
  .next (if s.inReset then s
  else
    let s := allOff (deviceReset true s)
    let s := (s.raise F.PMU_QUENCH_TRIP).inc F.PMU_QUENCH_TRIP_CNT
    let s := ((s.clear F.PMU_QUENCH_ACTIVE).clear F.PMU_DEV_CTL_BUSY).clear F.PMU_DEV_CTL_WAKE_PEND
    (s.setPins { s.pins with trip := true, pcieUp := false }))

/-! ### The boot (R854) -/

/-- A domain wakes within the boot or a device transition. `failed` names domains whose ready signal does not come: such a wake
fails in HANDSHAKE mode only (20 R773, R775, R806). (DESIGN CHOICE, log entry 13) -/
def wakeNow (failed : List Nat) (d : Nat) (s : State) : State :=
  if failed.contains d && (s.flag (domctl d 0 0) || s.flag F.PMU_DEV_CFG_RC_MODE) then
    tellBoth .wakeFail d ((setDomState d 0 s).raise (F.domWakeFail d))
  else setDomState d 2 s

/-- The reason of STAGE or SAFE. -/
def fwReason (r : Nat) (s : State) : State := s.set F.GLB_BOOT_FW_REASON r

/-- The network boot record of slot `c` is applied, as Touchmark's writes (R857). (DEDUCED, log entry 73) -/
def applyNbr (c : Nat) (s : State) : State :=
  let es := nbrEntries (slotBody s 2 c)
  let s := es.foldl (fun s e => netAccess .touchmark e.1 e.2 s) s
  let s := s.setTouch { s.touch with nbr := some ⟨c, slotHdr s 2 c⟩, entries := es }
  (s.set F.GLB_FW_SLOTS_NBR_SLOT c).raise F.GLB_FW_SLOTS_NBR_VALID

/-- Step 4 of R854, with R856 and R806. (DESIGN CHOICE, log entry 13; DEDUCED, log entry 14) -/
def bootNet (failed : List Nat) (bad : List (Nat × Nat)) (s : State) : State :=
  let s := match chooseSlot s bad 2 with
    | none => s.raise F.GLB_BOOT_NET_FAIL
    | some c =>
      let s := wakeNow failed 1 s
      if s.netOn then applyNbr c s else s.raise F.GLB_BOOT_NET_FAIL
  setStage 2 s

/-- A bank after the erase of R844: INVALID, without a seal, the substitution table kept; the levels of an erased row are
unspecified. (DEDUCED, log entry 65) -/
def eraseBank (k0 : Nat) (b : Bank) : Bank :=
  { state := .invalid, count := b.count, subst := b.subst, unspec := (List.range 512).map (fun r => (r, k0 + 268 * r)) }

/-- R844: every CIM bank of every present tile is erased, and ERASE_DONE blown. (DEDUCED, log entry 65) -/
def returnErase (s : State) : State :=
  let s := (List.range s.cfg.tiles).foldl (fun s n => (List.range 4).foldl (fun s a =>
    let x := s.arr n a
    let k := s.freeCtr
    ((s.setArr n a { a := eraseBank k x.a, b := eraseBank (k + 268 * 512) x.b }).setFreeCtr (k + 2 * 268 * 512))) s) s
  showLc (s.setTouch { s.touch with otp := { s.touch.otp with eraseDone := true } })

/-- MEM is trained: READY, the fitted capacity, and LINE_INT for a patrol pass of 24 h (15 R585, R618, 21 R816). -/
def trainMem (s : State) : State :=
  let cap := 3584 * 2 ^ s.cfg.dens
  let s := ((s.set F.MEM_CFG_DENS s.cfg.dens).set F.MEM_CAP cap).raise F.MEM_STAT_TRAINED
  s.raise F.MEM_STAT_READY

/-- LINE_INT, 64 ns units. -/
def lineInt (s : State) : Nat := 1350000000000 / (s.get F.MEM_CAP * 2 ^ 14)

/-- Step 7 of R854: Bench wakes ING, FAB and MEM, trains LPDDR5X and opens the command ring. -/
def benchUp (wake : Bool) (failed : List Nat) (s : State) : State :=
  let s := if wake then [2, 3, 4].foldl (fun s d => wakeNow failed d s) s else s
  if s.ingOn && s.fabOn && s.memOn then
    let s := trainMem s
    setStage 4 (s.set ⟨0x1600080, 19, 0⟩ (lineInt s))
  else s

/-- Steps 6 and 7 of R854: pairing over the Bench slots (R858, R859), Bench and what it brings up, or SAFE (R860). `wake`: MGT and
the rest are woken here; else the PMU has woken what could be. A failed MGT wake leaves STAGE where it is (20 R806).
(DESIGN CHOICE, log entry 13) -/
def bootBench (wake : Bool) (failed : List Nat) (bad : List (Nat × Nat)) (s : State) : State :=
  let p := prefSlot s 3
  let r := benchReason s bad p
  let s := showReason p r (s.setReg F.GLB_FW_BENCH_REASON_A.off 0)
  let (c, q, s) := if accepted r then (p, r, s) else
    let q := benchReason s bad (1 - p)
    (1 - p, q, showReason (1 - p) q s)
  if accepted q then
    let s := if wake then wakeNow failed 6 s else s
    if s.mgtOn then benchUp wake failed (setStage 3 ((runBench c q s).clear F.GLB_BOOT_SAFE_SRC)) else s
  else setStage 5 ((fwReason r s).set F.GLB_BOOT_SAFE_SRC 1)

/-- From a running ROM on: steps 2 to 7 of R854, with SCRAP (R845, R874) and a ROM that finds no Touchmark (R855).
(DESIGN CHOICE, log entry 13) -/
def bootRom (failed : List Nat) (bad : List (Nat × Nat)) (s : State) : State :=
  if s.lc = 4 then
    let o := { s.touch.otp with idGone := true, ownerHash := some (List.replicate 48 0xFF), revoked := 15 }
    showLc (fwReason 2 (s.setTouch { s.touch with otp := o }))
  else match chooseSlot s bad 1 with
  | none => showLc (fwReason 1 s)
  | some c =>
    let h := slotHdr s 1 c
    let s := s.setTouch { s.touch with tm := some ⟨c, h⟩, tested := testedOf h (slotBody s 1 c) }
    let s := (s.set F.GLB_FW_SLOTS_TM_SLOT c).set F.GLB_FW_SLOTS_PREF (prefOf s)
    let s := bootNet failed bad (loadPolicy bad (setStage 1 s))
    let s := if s.lc = 3 ∧ !s.touch.otp.eraseDone then returnErase s else s
    bootBench true failed bad s

/-- The boot from AO (R807): the device state is ON, SEC and HST wake. (DESIGN CHOICE, log entry 13) -/
def boot (failed : List Nat) (bad : List (Nat × Nat)) (s : State) : State :=
  let s := ((s.set F.PMU_DEV_CTL_STATE 0).set F.PMU_DEV_CTL_REQ 0).clear F.PMU_DEV_CTL_BUSY
  let s := wakeNow failed 5 (setDomState 0 2 s)
  bootRom failed bad s

/-- Row PORST_N_RELEASE (R854): AO runs from the internal oscillator until the crystal starts (23 R903, 20 R775).
(DESIGN CHOICE, log entry 13) -/
def execPorstNRelease (failed : List Nat) (bad : List (Nat × Nat)) (s : State) : Res :=
  .next (if !s.pins.porst then s
  else boot failed bad ((s.setPins { s.pins with porst := false }).raise F.PMU_DEV_CFG_RC_MODE))

/-- Row TRIP_RECOVERY (R793): QUENCH_N is released and the boot runs. (DEDUCED, log entry 94) -/
def execTripRecovery (failed : List Nat) (bad : List (Nat × Nat)) (s : State) : Res :=
  .next (if s.pins.trip && !s.pins.porst then boot failed bad (s.setPins { s.pins with trip := false }) else s)

/-- The device resets as PORST_N does, and boots (22 R843, R866). -/
def rebootDevice (failed : List Nat) (bad : List (Nat × Nat)) (s : State) : State :=
  let s := ((deviceReset false s).setPins { s.pins with trip := false, pcieUp := false })
  boot failed bad (s.raise F.PMU_DEV_CFG_RC_MODE)

/-- R887: ING, FAB, MEM, MGT and the clusters are reset, the rings cleared, STAGE = NET_UP; then steps 6 and 7. A sleep state or
transition ends with it (DEDUCED, log entry 40). -/
def warmReset (failed : List Nat) (bad : List (Nat × Nat)) (s : State) : State :=
  let s := resetRings (resetClusters (resetMgt s))
  let s := resetMem true (resetFab (resetIng s))
  let s := [2, 3, 4, 6].foldl (fun s d => setDomState d 0 (setSeqOf d none s)) s
  let s := (s.setPmu { s.pmu with dev := none, devOff := false })
  let s := (((s.clear F.PMU_DEV_CTL_REQ).clear F.PMU_DEV_CTL_STATE).clear F.PMU_DEV_CTL_BUSY).clear F.PMU_DEV_CTL_WAKE_PEND
  let s := if s.hstOn then s else wakeNow failed 5 (setSeqOf 5 none s)
  let s := s.setTouch { s.touch with bench := none }
  bootBench true failed bad
    (setStage 2 (((s.clear F.GLB_BOOT_SAFE_SRC).clear F.GLB_BOOT_FW_REASON).clear F.GLB_BOOT_UNTESTED))

/-- Row WARM_N. (DEDUCED, log entry 40) -/
def execWarmN (failed : List Nat) (bad : List (Nat × Nat)) (s : State) : Res :=
  .next (if s.inReset || decide (s.stage < 2) then s else warmReset failed bad s)

/-! ### The AO crystal (R775, 23 R903) -/

/-- Row AO_CRYSTAL_LOSS. -/
def execAoCrystalLoss (s : State) : Res :=
  .next (if s.pins.porst then s else (s.clear F.PMU_DEV_CFG_XTAL_OK).raise F.PMU_DEV_CFG_RC_MODE)

/-- Row AO_CRYSTAL_START. (DESIGN CHOICE, log entry 13) -/
def execAoCrystalStart (s : State) : Res :=
  .next (if s.pins.porst then s else (s.raise F.PMU_DEV_CFG_XTAL_OK).clear F.PMU_DEV_CFG_RC_MODE)

end Sys2Proof.Machine
end

