-- ==== Sys2Proof/Machine/Device.lean ====
section
/-!
DEFINITION. Sys2Proof/Machine/Device.lean: device states (20 R762 to R765, R800, R801), wake sources (R777, 05 R212, R213), and the
steps of wake and entry sequences (R771 to R773).
-/

namespace Sys2Proof.Machine

/-- Power channels that are not OFF. -/
def channelsOn (s : State) : List Nat := if s.ingOn then (List.range 17).filter (fun n => s.chState n ≠ 0) else []

/-- R214: every power channel goes through COOLDOWN to OFF, and the antenna-line port releases the bus. -/
def channelsCool (s : State) : State :=
  let s := (channelsOn s).foldl (fun s n =>
    if s.chState n = 6 then s.setCh n { s.ch n with exit := 0 } else portPowerAbort n (cooldown n 0 9 s)) s
  if s.ingOn then (s.setAld {}) else s

/-- The domains of a list that are on, and every cluster that is not OFF, enter off together. -/
def powerDown (ds : List Nat) (s : State) : State :=
  let s := (ds.filter s.domOn).foldl (fun s d => beginSeq d (entrySeq false) s) s
  let s := (List.range 12).foldl (fun s k => benchCluster k 0 s) s
  (s.setPmu { s.pmu with devOff := true })

/-- REQ and STATE of the device. -/
def State.devState (s : State) : Nat := s.get F.PMU_DEV_CTL_STATE

/-- No sequence runs. -/
def seqsIdle (s : State) : Bool := s.pmu.seqs.isEmpty

/-- A device transition has ended in state `v`. (DEDUCED, log entry 90) -/
def devSettle (v : Nat) (s : State) : State :=
  ((s.setPmu { s.pmu with dev := none, devOff := false }).set F.PMU_DEV_CTL_STATE v).clear F.PMU_DEV_CTL_BUSY

/-- STANDBY, DORMANT or OFF is entered: what has lost its power is reset (R762). (DEDUCED, log entry 91) -/
def devAsleep (v : Nat) (s : State) : State :=
  if v = 1 then devSettle 1 (resetMem false s)
  else if v = 2 then
    let s := resetHst (resetMem true (resetFab (resetIng (resetClusters (resetMgt s)))))
    let s := s.setTouch { s.touch with bench := none }
    let s := (s.setPins { s.pins with pcieUp := false })
    devSettle 2 (setStage 2 (s.clear F.GLB_BOOT_SAFE_SRC))
  else
    let s := allOff (deviceReset true s)
    devSettle 3 (s.setPins { s.pins with pcieUp := false })

/-- ON is reached from the state that STATE shows (R763). (DEDUCED, log entry 91) -/
def devAwake (failed : List Nat) (bad : List (Nat × Nat)) (s : State) : State :=
  let v := s.devState
  let s := devSettle 0 s
  if v = 1 then (if s.memOn then trainMem s else s)
  else if v = 2 then (if s.mgtOn then bootBench false failed bad s else s)
  else bootRom failed bad s

/-- A transition to `v` begins. -/
def devBegin (v : Nat) (s : State) : State :=
  let s := (s.setPmu { s.pmu with dev := some v, devOff := false })
  let s := (s.set F.PMU_DEV_CTL_REQ v).raise F.PMU_DEV_CTL_BUSY
  if v = 1 then
    let s := clustersOff (List.range s.clusters) (haltAll s)
    if s.memOn then s.raise F.MEM_STAT_SR else s
  else if v = 0 then
    let ds := if s.devState = 1 then [4] else if s.devState = 2 then [2, 3, 4, 5, 6] else [0, 5]
    ds.foldl (fun s d => beginSeq d (wakeSeq s d false) s) s
  else channelsCool (haltAll s)

/-- The transition moves on as far as it can now. (DEDUCED, log entry 91) -/
def devMove (failed : List Nat) (bad : List (Nat × Nat)) (s : State) : State :=
  match s.pmu.dev with
  | none => s
  | some v =>
    if v = 0 then (if seqsIdle s then devAwake failed bad s else s)
    else
      let ready := if v = 1 then seqsIdle s && (List.range 12).all (fun k => s.get (F.PMU_CLU_STATE k) == 0)
        else (channelsOn s).isEmpty
      let s :=
        if s.pmu.devOff || !ready then s
        else powerDown (if v = 1 then [4] else if v = 2 then [2, 3, 4, 5, 6] else [0, 1, 2, 3, 4, 5, 6]) s
      if s.pmu.devOff && seqsIdle s then devAsleep v s else s

/-- After a move, a wake source that came during the transition acts (R800). -/
def devAdvance (failed : List Nat) (bad : List (Nat × Nat)) (s : State) : State :=
  let s := devMove failed bad s
  if s.pmu.dev.isNone && s.flag F.PMU_DEV_CTL_WAKE_PEND then
    let s := s.clear F.PMU_DEV_CTL_WAKE_PEND
    if s.devState = 0 then s else devMove failed bad (devBegin 0 s)
  else s

/-- An enabled wake source (R777): bit `c` of PMU_WAKE_CAUSE. In ON it has no effect; during a transition it waits (R800). -/
def devWake (c : Nat) (s : State) : State :=
  if s.inReset then s
  else
    let mark := fun (s : State) => s.set F.PMU_WAKE_CAUSE (s.get F.PMU_WAKE_CAUSE ||| 2 ^ c)
    if s.pmu.dev.isSome then (mark s).raise F.PMU_DEV_CTL_WAKE_PEND
    else if s.devState = 0 then s
    else devAdvance [] [] (devBegin 0 (mark s))

/-- R763: no plan is loaded, and no procedure is in progress. (DEDUCED, log entry 91) -/
def devFree (s : State) : Bool := s.get F.GLB_PLAN_STAT_STATE == 0 && s.fw.job.isNone

/-- R763, R764: an agent may start a transition to `v` now. (DEDUCED, log entry 91) -/
def devAllowed (agent : Agent) (v : Nat) (s : State) : Bool :=
  let st := s.devState
  s.pmu.dev.isNone && st != v && (agent != .host || (s.flag F.PMU_DEV_CFG_HOST_EN && decide (v < 2)))
  && (match v with
      | 0 => st == 1 || (st == 2 && agent == .touchmark)
      | 1 => st == 0 && devFree s
      | 2 => decide (st ≤ 1) && devFree s
      | _ => decide (st ≤ 2) && devFree s)

/-- A write of PMU_DEV_CTL.REQ (R763, R764, R800). (DEDUCED, log entry 91) -/
def devRequest (agent : Agent) (v : Nat) (s : State) : State :=
  if !devAllowed agent v s then devRefuse s
  else
    let s := if v ≠ 0 then s
      else if agent = .touchmark then s.set F.PMU_WAKE_CAUSE (s.get F.PMU_WAKE_CAUSE ||| 16)
      else if agent = .host && s.flag F.PMU_WAKE_EN_HOST then s.set F.PMU_WAKE_CAUSE (s.get F.PMU_WAKE_CAUSE ||| 8) else s
    devAdvance [] [] (devBegin v s)

/-- A write of REQ by its row. -/
def devWrite (agent : Agent) (v : Nat) (s : State) : State :=
  s.guardWrite (!s.inReset) .hostBenchTouchmark agent F.PMU_DEV_CTL_REQ.off (devRequest agent v)

/-- Row DEVICE_REQ_ON. (DEDUCED, log entry 91) -/
def execDeviceReqOn (agent : Agent) (s : State) : Res := .next (devWrite agent 0 s)

/-- Row DEVICE_REQ_STANDBY. -/
def execDeviceReqStandby (agent : Agent) (s : State) : Res := .next (devWrite agent 1 s)

/-- Row DEVICE_REQ_DORMANT. -/
def execDeviceReqDormant (agent : Agent) (s : State) : Res := .next (devWrite agent 2 s)

/-- Row DEVICE_REQ_OFF. -/
def execDeviceReqOff (agent : Agent) (s : State) : Res := .next (devWrite agent 3 s)

/-! ### Steps of sequences -/

/-- Bench restores the compute banks of the tiles of a cluster that has left RETAIN (R701, R770). -/
def cluRestored (d : Nat) (was : Option DSeq) (s : State) : State :=
  if decide (7 ≤ d) && was.any (fun q => q.wake && q.retain) && s.cluOn (d - 7) then
    (cluTiles (d - 7)).foldl (fun s n => restoreSwap n s) s
  else s

/-- Row DOMAIN_WAKE_STEP_END: domain 0 to 6 as in PMU_DOM_STAT, 7 + k cluster k. (DEDUCED, log entry 90) -/
def execDomainWakeStepEnd (dom : Nat) (failed : List Nat) (bad : List (Nat × Nat)) (s : State) : Res :=
  .next (devAdvance failed bad (cluRestored dom (seqOf s dom) (seqStep dom true s)))

/-- Row DOMAIN_ENTRY_STEP_END. (DEDUCED, log entry 90) -/
def execDomainEntryStepEnd (dom : Nat) (failed : List Nat) (bad : List (Nat × Nat)) (s : State) : Res :=
  .next (devAdvance failed bad (seqStep dom false s))

/-- Row WAKE_FAIL (R773, R806). -/
def execWakeFail (dom : Nat) (s : State) : Res := .next (wakeFail dom s)

/-- Row COOLDOWN_END: a power channel's COOLDOWN ends; a port cycle or a device transition goes on. -/
def execCooldownEnd (ch : Nat) (s : State) : Res :=
  .next (
    let s := cooldownEnd ch s
    let s := match s.fw.job with
      | some j => cycleAdvance j s
      | none => s
    devAdvance [] [] s)

/-! ### Wake sources -/

/-- The AO counter. (DESIGN CHOICE, log entry 35) -/
def State.aoCount (s : State) : Nat := s.get64 F.PMU_AO_CNT_LO F.PMU_AO_CNT_HI

/-- Row AO_ALARM: the counter has reached ALARM with ARM = 1; ARM clears. -/
def execAoAlarm (s : State) : Res :=
  .next (
    let a := s.get64 F.PMU_AO_ALARM_LO F.PMU_AO_ALARM_HI_ALARM
    if !s.pins.porst && s.flag F.PMU_AO_ALARM_HI_ARM && decide (s.aoCount ≤ a) then
      let s := (s.set64 F.PMU_AO_CNT_LO F.PMU_AO_CNT_HI a).clear F.PMU_AO_ALARM_HI_ARM
      if s.flag F.PMU_WAKE_EN_TIMER then devWake 2 s else s
    else s)

/-- The interrupt condition of a GPIO pin whose level goes from `was` to `now`. -/
def gpioHit (mode : Nat) (was now : Bool) : Bool :=
  match mode with
  | 0 => false
  | 1 => now && !was
  | 2 => was && !now
  | _ => now

/-- Row GPIO_INTERRUPT (05 R213): input pin `pin` takes a level; its interrupt condition sets PEND, and may wake the device.
(DESIGN CHOICE, log entry 11) -/
def execGpioInterrupt (pin : Nat) (level : Bool) (s : State) : Res :=
  .next (if 24 ≤ pin then s
  else
    let was := bitOf s.pins.gpio pin
    let s := (s.setPins { s.pins with gpio := putBits s.pins.gpio pin pin (b2n level) })
    let mode := bitsOf (s.get (F.SITE_GPIO_IMODE (pin / 16))) (2 * (pin % 16) + 1) (2 * (pin % 16))
    if s.pins.porst || bitOf (s.get F.SITE_GPIO_DIR) pin || !gpioHit mode was level then s
    else
      let s := s.set F.SITE_GPIO_ISTAT (s.get F.SITE_GPIO_ISTAT ||| 2 ^ pin)
      let s := if benchRuns s then s.bench .gpio pin else s
      if bitOf (s.get F.SITE_GPIO_WAKE) pin && s.flag F.PMU_WAKE_EN_GPIO then devWake 0 s else s)

/-- Row ALARM_CHANGE (05 R212): alarm pin `input` has held `level` for its debounce time. (DESIGN CHOICE, log entry 11) -/
def execAlarmChange (input : Nat) (level : Bool) (s : State) : Res :=
  .next (if decide (8 ≤ input) || s.pins.porst || (bitOf s.pins.alarm input == level) then s
  else
    let s := (s.setPins { s.pins with alarm := putBits s.pins.alarm input input (b2n level) })
    let s := s.set F.SITE_ALM_LATCH (s.get F.SITE_ALM_LATCH ||| 2 ^ input)
    let s := if bitOf (s.get F.SITE_ALM_CFG_IE) input && benchRuns s then s.bench .alarm input else s
    if bitOf (s.get F.SITE_ALM_CFG_WAKE) input && s.flag F.PMU_WAKE_EN_ALM then devWake 1 s else s)

end Sys2Proof.Machine
end

