-- ==== Sys2Proof/Machine/Mailbox.lean ====
section
/-!
DEFINITION. Sys2Proof/Machine/Mailbox.lean: the messages of the Touchmark and Bench mailboxes (19 R745, R746, 22 R842 to R848, R862
to R872, R876, R880).
-/

namespace Sys2Proof.Machine

/-! ### Exchanges (19 R745, R746, R752) -/

/-- Status codes (R866). -/
inductive Status where
  | ok | badMsg | badArg | auth | nonce | state | order | image | flash | busy | scrapped | entropy | romOnly
  deriving DecidableEq, Repr

/-- The code of a status. -/
def Status.code : Status → Nat
  | .ok => 0 | .badMsg => 1 | .badArg => 2 | .auth => 3 | .nonce => 4 | .state => 5 | .order => 6 | .image => 7 | .flash => 8
  | .busy => 9 | .scrapped => 10 | .entropy => 11 | .romOnly => 12

/-- What a message gives: its status, its data, and the state after it. -/
abbrev Answer := Status × List Byte × State

/-- Bytes go to consecutive words from register `a`. -/
def putWords (a : Nat) (l : List Byte) (s : State) : State :=
  (List.range (ceilDiv l.length 4)).foldl (fun s i => s.setReg (a + 4 * i) (BitVec.ofNat 32 (leAt l (4 * i) 4))) s

/-- The first `n` bytes of the words from register `a`. -/
def getWords (s : State) (a n : Nat) : List Byte :=
  ((List.range (ceilDiv n 4)).flatMap (fun i => leBytes 4 (s.reg (a + 4 * i)).toNat)).take n

/-- MSG of a request. -/
def msgOf (r : List Byte) : Nat := leAt r 0 2

/-- The bytes of a response. -/
def respBytes (msg : Nat) (st : Status) (data : List Byte) : List Byte :=
  (leBytes 2 msg ++ leBytes 2 st.code ++ data).take 4096

/-- Touchmark writes its response, and signals vector 1 (R745, 19 R735). -/
def tmRespond (msg : Nat) (st : Status) (data : List Byte) (s : State) : State :=
  let b := respBytes msg st data
  let s := (putWords (F.PF1_TM_RESP 0).off b s).set F.PF1_TM_RESP_LEN b.length
  ((s.raise F.PF1_TM_CTL_RESP_READY).clear F.PF1_TM_CTL_BUSY).msix 1 1

/-- Bench writes its response, and signals vector 0. -/
def benchRespond (msg : Nat) (st : Status) (data : List Byte) (s : State) : State :=
  let b := respBytes msg st data
  let s := (putWords (F.PF1_BENCH_RESP 0).off b s).set F.PF1_BENCH_RESP_LEN b.length
  ((s.raise F.PF1_BENCH_CTL_RESP_READY).clear F.PF1_BENCH_CTL_BUSY).msix 1 0

/-- The Touchmark mailbox is answered: the ROM or Touchmark runs (R746). -/
def tmPresent (s : State) : Bool := !s.inReset && s.secOn

/-- Bench's handover pause (18 R711). -/
def paused (s : State) : Bool := s.fw.job.any (fun j => j.op == 0x14)

/-- The Bench mailbox is answered (R746). -/
def benchPresent (s : State) : Bool := benchRuns s && !paused s

/-- The ROM serves a request where no Touchmark runs (R855). -/
def romServes (r : List Byte) : Bool :=
  msgOf r == 0x50 || msgOf r == 0x11 || msgOf r == 0x12 || ((msgOf r == 0x10 || msgOf r == 0x14) && leAt r 4 2 == 1)

/-- What stands in the way of a request before its message is looked at: SCRAP (R845), the ROM (R855), a byte that is not zero. -/
def tmBarred (s : State) (r : List Byte) : Option Status :=
  if s.lc = 4 then some .scrapped
  else if s.stage = 0 ∧ !romServes r then some .romOnly
  else if leAt r 2 2 ≠ 0 then some .badArg
  else none

/-- The request in progress at the Touchmark mailbox carries message `msg`: `f` answers it. -/
def tmServe (msg : Nat) (f : List Byte → State → Answer) (s : State) : State :=
  match s.touch.reqs with
  | [] => s
  | (r, wanted) :: rest =>
    if !tmPresent s || msgOf r != msg then s
    else
      let s := s.setTouch { s.touch with reqs := rest }
      let a := match tmBarred s r with
        | some st => (st, [], s)
        | none => f r s
      if wanted then tmRespond msg a.1 a.2.1 a.2.2 else a.2.2

/-- The request in progress at the Bench mailbox carries message `msg`: `f` answers it. -/
def benchServe (msg : Nat) (f : List Byte → State → Answer) (s : State) : State :=
  match s.fw.reqs with
  | [] => s
  | (r, wanted) :: rest =>
    if !benchPresent s || msgOf r != msg then s
    else
      let s := s.setFw { s.fw with reqs := rest }
      let a := if leAt r 2 2 ≠ 0 then (Status.badArg, [], s) else f r s
      if wanted then benchRespond msg a.1 a.2.1 a.2.2 else a.2.2

/-- Messages of the Touchmark mailbox (R866). -/
def tmMessages : List Nat := [1, 2, 3, 4, 0x10, 0x11, 0x12, 0x13, 0x14, 0x15, 0x20, 0x30, 0x31, 0x40, 0x50]

/-- DOORBELL of the Touchmark mailbox: a message that it does not have is answered BAD_MSG. (DEDUCED, log entry 88) -/
def tmDoorbell (s : State) : State :=
  let r := getWords s (F.PF1_TM_REQ 0).off (s.get F.PF1_TM_REQ_LEN)
  let s := s.raise F.PF1_TM_CTL_BUSY
  if tmMessages.contains (msgOf r) then s.setTouch { s.touch with reqs := s.touch.reqs ++ [(r, true)] }
  else tmRespond (msgOf r) ((tmBarred s r).getD .badMsg) [] s

/-- DOORBELL of the Bench mailbox. (DEDUCED, log entry 88) -/
def benchDoorbell (s : State) : State :=
  let r := getWords s (F.PF1_BENCH_REQ 0).off (s.get F.PF1_BENCH_REQ_LEN)
  let s := s.raise F.PF1_BENCH_CTL_BUSY
  if [0x101, 0x102, 0x103].contains (msgOf r) then s.setFw { s.fw with reqs := s.fw.reqs ++ [(r, true)] }
  else benchRespond (msgOf r) .badMsg [] s

/-- An answer without data that changes nothing. -/
def refuse (st : Status) (s : State) : Answer := (st, [], s)

/-! ### Signed requests (R865) -/

/-- What a signature at byte `k` of a request covers. -/
def signedPart (s : State) (nonce : List Byte) (r : List Byte) (k : Nat) : List Byte :=
  devIdBytes s ++ nonce ++ leBytes 2 (msgOf r) ++ slice r 4 (k - 4)

/-- The request reaches to a signature at byte `k`. -/
def hasSig (r : List Byte) (k : Nat) : Bool := decide (k + 96 ≤ r.length)

/-- A maker token at byte `k`. -/
def makerSigned (s : State) (nonce : List Byte) (r : List Byte) (k : Nat) : Bool :=
  makerOk s (signedPart s nonce r k) (slice r k 96)

/-- An owner signature at byte `k`. -/
def ownerSigned (s : State) (nonce : List Byte) (r : List Byte) (k : Nat) : Bool :=
  ownerOk s (signedPart s nonce r k) (slice r k 96)

/-- The nonce is consumed. -/
def useNonce (s : State) : State := s.setTouch { s.touch with nonce := none }

/-! ### Status, nonce, attestation -/

/-- Row GET_STATUS. -/
def execGetStatus (s : State) : Res :=
  .next (tmServe 1 (fun _ s =>
    (.ok, [F.GLB_LC_LC.off, F.GLB_BOOT_STAGE.off, F.GLB_FW_SLOTS_TM_SLOT.off, F.GLB_FW_BENCH_REASON_A.off].flatMap (fun a =>
      leBytes 4 (s.reg a).toNat), s)) s)

/-- Row GET_NONCE: 32 bytes from the TRNG, a free value; ENTROPY when its health tests fail (R880). (DEDUCED, log entry 3) -/
def execGetNonce (s : State) : Res :=
  .next (tmServe 2 (fun _ s =>
    if s.touch.trngBad then refuse .entropy s
    else
      let n := leBytes 32 (Config.freeNat s.freeCtr)
      (.ok, n, s.tick.setTouch { s.touch with nonce := some n })) s)

/-- 64 bytes of a report for an image in use. (DEDUCED, log entry 89) -/
def reportImage : Option Image → List Byte
  | none => List.replicate 64 0
  | some i => slice i.hdr 0x10 8 ++ slice i.hdr 0x0C 4 ++ leBytes 4 i.slot ++ hdrDigest i.hdr

/-- The report of R868, without its signature. -/
def report (s : State) (nonce : List Byte) : List Byte :=
  let o := s.touch.otp
  let flags := s.get F.GLB_BOOT_UNTESTED + 2 * b2n (s.stage == 5) + 4 * b2n (s.get F.GLB_LC_DBG_SCOPE != 0) + 8 * b2n (paused s)
    + 16 * b2n (ownerKey s) + 32 * s.get F.GLB_LC_ERASE_PENDING + 64 * s.get F.GLB_LC_POLICY_DEFAULT
  let policy := b2n (permissive s) + 2 * s.get F.GLB_LC_SIGNED_PLANS + 4 * b2n (policyFlag s 1) + 8 * b2n (policyFlag s 2)
  let runs := s.get F.GLB_PLAN_STAT_STATE == 3
  let digest := match s.fw.plan with
    | some p => if runs then p.digest else List.replicate 48 0
    | none => List.replicate 48 0
  let part := if s.cfg.tiles = 128 then 0x6128 else (s.reg 0).toNat
  leBytes 4 1 ++ leBytes 4 part ++ leBytes 1 (s.get F.GLB_STEP) ++ leBytes 1 s.lc ++ leBytes 1 policy ++ leBytes 1 flags ++ leBytes 4 0
  ++ devIdBytes s ++ (o.ownerHash.getD (List.replicate 48 0))
  ++ reportImage s.touch.tm ++ reportImage s.touch.nbr ++ reportImage s.touch.bench ++ reportImage s.touch.policy
  ++ o.floors.flatMap (leBytes 4)
  ++ leBytes 8 (if runs then s.get64 F.GLB_PLAN_ID_LO F.GLB_PLAN_ID_HI else 0) ++ digest
  ++ leBytes 4 (s.reg F.GLB_PLAN_ABI_ABI_MAJOR.off).toNat ++ leBytes 4 (s.reg F.GLB_PLAN_STAT_STATE.off).toNat
  ++ leBytes 4 (s.get F.GLB_BOOT_FW_REASON + 256 * s.get F.GLB_BOOT_SAFE_SRC) ++ leBytes 4 0
  ++ nonce ++ leBytes 8 s.tb.sec ++ leBytes 8 0

/-- Row ATTEST. (DEDUCED, log entry 99) -/
def execAttest (s : State) : Res :=
  .next (tmServe 3 (fun r s =>
    if s.touch.trngBad then refuse .entropy s
    else if r.length < 36 then refuse .badArg s
    else
      let b := report s (slice r 4 32)
      (.ok, b ++ (Config.deviceSign b).take 96, s)) s)

/-- Row GET_CERT. -/
def execGetCert (s : State) : Res := .next (tmServe 4 (fun _ s => (.ok, Config.deviceCert, s)) s)

/-! ### Updates (R869 to R873) -/

/-- The image of a KIND that is running or in use. -/
def inUse (s : State) (kind : Nat) : Option Image :=
  if kind = 1 then s.touch.tm else if kind = 2 then s.touch.nbr else if kind = 3 then s.touch.bench else s.touch.policy

/-- A KIND that has slots, and one of them. -/
def slotArg (kind slot : Nat) : Bool := decide (1 ≤ kind) && decide (kind ≤ 3) && decide (slot ≤ 1)

/-- The open update changes. -/
def setUpdate (u : Option Update) (s : State) : State :=
  let s := s.setTouch { s.touch with update := u }
  match u with
  | none => s.clear F.GLB_FW_SLOTS_UPD_OPEN
  | some x => (s.raise F.GLB_FW_SLOTS_UPD_OPEN).set F.GLB_FW_SLOTS_UPD_KIND (x.kind - 1)

/-- UPDATE_BEGIN (R870): the slot's first 4 KiB are erased. (DEDUCED, log entry 97) -/
def updateBegin (flashOk : Bool) (r : List Byte) (s : State) : Answer :=
  let kind := leAt r 4 2
  let slot := leAt r 6 1
  let len := leAt r 7 4
  if r.length < 11 ∨ !slotArg kind slot ∨ flashSize kind < len then refuse .badArg s
  else if (inUse s kind).any (fun i => i.slot == slot) then refuse .state s
  else if s.touch.update.isSome ∨ (kind = 3 ∧ paused s) then refuse .busy s
  else if !flashOk then refuse .flash s
  else (.ok, [], setUpdate (some { kind := kind, slot := slot, len := len }) (flashErase (flashBase kind slot) 4096 s))

/-- Row UPDATE_BEGIN. `flashOk`: the flash part does its work. -/
def execUpdateBegin (flashOk : Bool) (s : State) : Res := .next (tmServe 0x10 (updateBegin flashOk) s)

/-- Bytes at offset `o` of an open slot: the first 4 KiB are held, each further sector is erased before its first write. -/
def updateWrite (u : Update) (b : List Byte) (s : State) : State :=
  let base := flashBase u.kind u.slot
  let s := ((List.range 4096).filter (fun k => decide (0 < k) && decide (u.got ≤ 4096 * k) && decide (4096 * k < u.got + b.length))).foldl
    (fun s k => flashErase (base + 4096 * k) 4096 s) s
  let here := b.take (4096 - u.got)
  let s := flashWrite (base + u.got + here.length) (b.drop here.length) s
  setUpdate (some { u with got := u.got + b.length, held := u.held ++ here }) s

/-- UPDATE_DATA. (DEDUCED, log entry 97) -/
def updateData (flashOk : Bool) (r : List Byte) (s : State) : Answer :=
  let b := r.drop 8
  match s.touch.update with
  | none => refuse .state s
  | some u =>
    if r.length < 8 ∨ 4000 < b.length then refuse .badArg s
    else if leAt r 4 4 ≠ u.got then refuse .order s
    else if u.len < u.got + b.length then refuse .badArg s
    else if !flashOk then refuse .flash s
    else (.ok, [], updateWrite u b s)

/-- Row UPDATE_DATA. -/
def execUpdateData (flashOk : Bool) (s : State) : Res := .next (tmServe 0x11 (updateData flashOk) s)

/-- The data of UPDATE_END for a slot that verifies (R871). -/
def updateResult (s : State) (u : Update) : List Byte :=
  let byte := fun (n : Nat) => BitVec.ofNat 8 n
  let h := slotHdr s u.kind u.slot
  if u.kind = 3 then [byte (pairing s (tmEpoch s) s.touch.tested h)]
  else if u.kind = 1 then
    let t := testedOf h (slotBody s 1 u.slot)
    [byte (pairing s (hdrSeLo h) t (slotHdr s 3 0)), byte (pairing s (hdrSeLo h) t (slotHdr s 3 1))]
  else []

/-- UPDATE_END: the first 4 KiB are written last, and the slot is read back. (DEDUCED, log entry 97) -/
def updateEnd (flashOk : Bool) (s : State) : Answer :=
  match s.touch.update with
  | none => refuse .state s
  | some u =>
    let s := setUpdate none s
    if !flashOk then refuse .flash s
    else
      let s := flashWrite (flashBase u.kind u.slot) u.held s
      let v := verify s [] u.kind u.slot
      if v ≠ 0 then (.image, [BitVec.ofNat 8 v], s) else (.ok, updateResult s u, s)

/-- Row UPDATE_END. -/
def execUpdateEnd (flashOk : Bool) (s : State) : Res := .next (tmServe 0x12 (fun _ s => updateEnd flashOk s) s)

/-- Row UPDATE_ABORT. (DEDUCED, log entry 97) -/
def execUpdateAbort (s : State) : Res :=
  .next (tmServe 0x13 (fun _ s => if s.touch.update.isSome then (.ok, [], setUpdate none s) else refuse .state s) s)

/-- SELECT. -/
def select (flashOk : Bool) (r : List Byte) (s : State) : Answer :=
  let kind := leAt r 4 2
  let slot := leAt r 6 1
  if r.length < 7 ∨ !slotArg kind slot then refuse .badArg s
  else
    let v := verify s [] kind slot
    if v ≠ 0 then (.image, [BitVec.ofNat 8 v], s)
    else if !flashOk then refuse .flash s
    else (.ok, [], setPref kind slot s)

/-- Row SELECT. -/
def execSelect (flashOk : Bool) (s : State) : Res := .next (tmServe 0x14 (select flashOk) s)

/-- SVN_COMMIT. -/
def svnCommit (r : List Byte) (s : State) : Answer :=
  let kind := leAt r 4 2
  if !hasSig r 6 ∨ kind = 0 ∨ 4 < kind then refuse .badArg s
  else match s.touch.nonce with
  | none => refuse .nonce s
  | some n =>
    if !(if ownerKey s then ownerSigned s n r 6 else makerSigned s n r 6) then refuse .auth s
    else
      let s := useNonce s
      match inUse s kind with
      | none => refuse .state s
      | some i =>
        let o := s.touch.otp
        let v := max (floorOf s kind) (min 64 (hdrSvn i.hdr))
        (.ok, [], s.setTouch { s.touch with otp := { o with floors := o.floors.set (kind - 1) v } })

/-- Row SVN_COMMIT. -/
def execSvnCommit (s : State) : Res := .next (tmServe 0x15 svnCommit s)

/-- POLICY_SET (R862): both copies are written. (DEDUCED, log entry 98) -/
def policySet (flashOk : Bool) (r : List Byte) (s : State) : Answer :=
  let h := slice r 4 256
  let body := slice r 260 (min (hdrLen h) (flashSize 4 - 256))
  if r.length < 516 ∨ body.length < 256 then refuse .badArg s
  else if verifyBytes s 4 (flashSize 4) h body false ≠ 0 then refuse .auth s
  else if !flashOk then refuse .flash s
  else
    let s := [0, 1].foldl (fun s c => flashWrite (flashBase 4 c) (h ++ body) (flashErase (flashBase 4 c) (flashSize 4) s)) s
    (.ok, [], loadPolicy [] s)

/-- Row POLICY_SET. -/
def execPolicySet (flashOk : Bool) (s : State) : Res := .next (tmServe 0x20 (policySet flashOk) s)

/-! ### Debug sessions (R847, R848) -/

/-- The debug session ends. -/
def endDebug (s : State) : State := (s.clear F.GLB_LC_DBG_SCOPE).clear F.GLB_LC_DBG_LEFT

/-- Scopes that R847 allows under a maker token, and under an owner token. -/
def scopesOf (s : State) (maker : Bool) : Nat :=
  if maker then (if s.lc = 2 ∨ s.lc = 4 then 0 else 31)
  else if s.lc = 2 ∧ policyFlag s 1 then 16 else 0

/-- DEBUG_UNLOCK. (DEDUCED, log entry 97) -/
def debugUnlock (r : List Byte) (s : State) : Answer :=
  let scope := leAt r 4 1
  let time := leAt r 5 2
  if s.touch.trngBad then refuse .entropy s
  else if !hasSig r 7 ∨ time = 0 then refuse .badArg s
  else match s.touch.nonce with
  | none => refuse .nonce s
  | some n =>
    let m := makerSigned s n r 7
    if !m && !ownerSigned s n r 7 then refuse .auth s
    else
      let s := useNonce s
      let g := scope &&& scopesOf s m
      if g = 0 then refuse .state s else (.ok, [], (s.set F.GLB_LC_DBG_SCOPE g).set F.GLB_LC_DBG_LEFT time)

/-- Row DEBUG_UNLOCK. -/
def execDebugUnlock (s : State) : Res := .next (tmServe 0x30 debugUnlock s)

/-- Row DEBUG_LOCK. (DEDUCED, log entry 97) -/
def execDebugLock (s : State) : Res := .next (tmServe 0x31 (fun _ s => (.ok, [], endDebug s)) s)

/-- Row DEBUG_SESSION_EXPIRE. -/
def execDebugSessionExpire (s : State) : Res := .next (endDebug s)

/-! ### Life cycle (R842 to R845) and reset -/

/-- The authority that R842 asks for, as (owner signature, maker token); `none` where it lists no such transition. -/
def lcAuthority (s : State) (target : Nat) : Option (Bool × Bool) :=
  match s.lc, target with
  | 0, 1 => some (false, true)
  | 1, 2 => some (false, true)
  | 2, 3 => some (ownerKey s, true)
  | 0, 4 => some (false, true)
  | 1, 4 => some (false, true)
  | 3, 4 => some (false, true)
  | 2, 4 => some (ownerKey s, !ownerKey s)
  | _, _ => none

/-- OTP and flash after a transition to `target`: its LC bit is blown first, then its actions (R843 to R845). -/
def lcActions (target : Nat) (s : State) : State :=
  let o := s.touch.otp
  let o := { o with lc := o.lc ||| 2 ^ (target - 1) }
  let burnt := some (List.replicate 48 0xFF)
  if target = 3 then
    let s := s.setTouch { s.touch with otp := { o with ownerHash := burnt } }
    let s := [0, 1].foldl (fun s c => flashErase (flashBase 4 c) (flashSize 4) s) s
    [0, 1].foldl (fun s c => flashErase (flashBase 2 c) (flashSize 2) s) s
  else if target = 4 then s.setTouch { s.touch with otp := { o with ownerHash := burnt, idGone := true, revoked := 15 } }
  else s.setTouch { s.touch with otp := o }

/-- A request carries the authority: an owner signature at byte 5, and a maker token after it, or alone at byte 5. -/
def lcSigned (s : State) (n r : List Byte) (need : Bool × Bool) : Bool :=
  let k := if need.1 then 101 else 5
  (!need.1 || (hasSig r 5 && ownerSigned s n r 5)) && (!need.2 || (hasSig r k && makerSigned s n r k))

/-- Row LC_TRANSITION: a transition that is made resets the device, so that no response reaches the host.
(DEDUCED, log entry 97; DEDUCED, log entry 99) -/
def execLcTransition (failed : List Nat) (bad : List (Nat × Nat)) (s : State) : Res :=
  .next (match s.touch.reqs with
  | [] => s
  | (r, _) :: _ =>
    let target := leAt r 4 1
    let may := tmPresent s && msgOf r == 0x40 && (tmBarred s r).isNone && !s.touch.trngBad
    match s.touch.nonce, lcAuthority s target with
    | some n, some need =>
      if may && lcSigned s n r need then rebootDevice failed bad (lcActions target s)
      else tmServe 0x40 (fun _ s => refuse (if s.touch.trngBad then .entropy else .state) s) s
    | none, some _ => tmServe 0x40 (fun _ s => refuse (if s.touch.trngBad then .entropy else .nonce) s) s
    | _, none => tmServe 0x40 (fun _ s => refuse (if s.touch.trngBad then .entropy else .state) s) s)

/-- Row RESET: the response, then the reset. -/
def execReset (failed : List Nat) (bad : List (Nat × Nat)) (s : State) : Res :=
  .next (match s.touch.reqs with
  | [] => s
  | (r, _) :: _ =>
    let t := tmServe 0x50 (fun _ s => (.ok, [], s)) s
    if tmPresent s && msgOf r == 0x50 && (tmBarred s r).isNone then rebootDevice failed bad t else t)

/-! ### The Bench mailbox (R867) -/

/-- GET_INFO. (DEDUCED, log entry 89) -/
def benchInfo (s : State) : List Byte :=
  match s.touch.bench with
  | none => []
  | some i => slice i.hdr 0x10 8 ++ leBytes 1 i.slot ++ slice i.hdr 0x1A 4 ++ slice i.hdr 0x20 16 ++ leBytes 1 (s.get F.GLB_BOOT_UNTESTED)

/-- Row GET_INFO. (DEDUCED, log entry 89) -/
def execGetInfo (s : State) : Res := .next (benchServe 0x101 (fun _ s => (.ok, benchInfo s, s)) s)

/-- Row GET_LOG: `text` is the next part of Bench's text log, which the spec leaves open. (DEDUCED, log entry 89) -/
def execGetLog (text : List Byte) (s : State) : Res := .next (benchServe 0x102 (fun _ s => (.ok, text.take 4000, s)) s)

/-- Row CONSOLE: `reply` is what the command line answers, which the spec leaves open. (DEDUCED, log entry 89) -/
def execConsole (reply : List Byte) (s : State) : Res :=
  .next (benchServe 0x103 (fun _ s => if bitOf (s.get F.GLB_LC_DBG_SCOPE) 2 then (.ok, reply, s) else refuse .state s) s)

end Sys2Proof.Machine
end

