-- ==== Sys2Proof/Machine/HostIf.lean ====
section
/-!
DEFINITION. Sys2Proof/Machine/HostIf.lean: the host interface (19): resets of HST, rings, the commands that Bench takes from the
command ring, completions, notifications, BAR4; and the Bench handover (18 R710 to R712).
-/

namespace Sys2Proof.Machine

/-! ### Link and function resets (R748, R751, R752) -/

/-- Responses to the requests in progress are not wanted any more (R752). (DEDUCED, log entry 88) -/
def dropAnswers (s : State) : State :=
  let off := fun (l : List (List Byte × Bool)) => l.map (fun e => (e.1, false))
  let s := s.setTouch { s.touch with reqs := off s.touch.reqs }
  s.setFw { s.fw with reqs := off s.fw.reqs }

/-- Row PCIE_PERST_N (R751): HST alone is reset. -/
def execPciePerstN (s : State) : Res :=
  .next (if s.hstOn then dropAnswers ((resetHst s).setPins { s.pins with pcieUp := false }) else s)

/-- Row PCIE_LINK_DOWN. -/
def execPcieLinkDown (s : State) : Res :=
  .next (if s.hstOn then ((s.clear F.HST_LINK_UP).setPins { s.pins with pcieUp := false }) else s)

/-- Row PCIE_LINK_UP: width 4 or 8, rate code 4 or 5, 10-bit tags (R724). -/
def execPcieLinkUp (width speed : Nat) (tag10 : Bool) (s : State) : Res :=
  .next (if s.hstOn then
    let s := ((s.set F.HST_LINK_WIDTH width).set F.HST_LINK_SPEED speed).set F.HST_LINK_TAG10 (b2n tag10)
    ((s.raise F.HST_LINK_UP).setPins { s.pins with pcieUp := true })
  else s)

/-- Row FLR_PF0: rings, apertures and PF0's MSI-X table. -/
def execFlrPf0 (s : State) : Res :=
  .next (if s.hstOn then
    (resetRings s).dropRegs (fun k => decide (0x1700100 ≤ k ∧ k < 0x1700140) || decide (0x1780000 ≤ k ∧ k < 0x1785000))
  else s)

/-- Row FLR_PF1: the mailboxes' control registers and PF1's MSI-X table; requests in progress go on without an answer.
(DEDUCED, log entry 88) -/
def execFlrPf1 (s : State) : Res :=
  .next (if s.hstOn then
    dropAnswers (s.dropRegs (fun k => decide (0x10010000 ≤ k ∧ k < 0x10011000) || decide (0x10020000 ≤ k ∧ k < 0x10021000)
      || decide (0x100F0000 ≤ k)))
  else s)

/-! ### Rings (R736, R744, R749, R756) -/

/-- The command ring serves commands (R749). -/
def ringsServe (s : State) : Bool := s.stage == 4 || (s.stage == 5 && s.get F.GLB_BOOT_SAFE_SRC == 2)

/-- EN goes from 0 to 1 (R736). (DEDUCED, log entry 85) -/
def ringsStart (s : State) : State :=
  let s := [F.HST_CMDQ_TAIL, F.HST_CMDQ_HEAD, F.HST_CPLQ_HEAD, F.HST_CPLQ_TAIL, F.HST_NTFQ_HEAD, F.HST_NTFQ_TAIL].foldl
    (fun s f => s.clear f) s
  ((s.raise F.HST_RING_CTL_EN).setHst {})

/-- A write of HST_RING_CTL. (DEDUCED, log entry 85) -/
def ringCtl (v : Nat) (s : State) : State :=
  let s := if bitOf v 2 then s.clear F.HST_RING_CTL_DMA_ERR else s
  let s :=
    if bitOf v 0 then (if s.flag F.HST_RING_CTL_EN then s else ringsStart s) else s.clear F.HST_RING_CTL_EN
  s.set F.HST_RING_CTL_NTF_EN (b2n (bitOf v 1))

/-- The host writes a ring register while Bench opens the rings: NOT_READY otherwise (R749). -/
def ringWrite (agent : Agent) (off : Nat) (f : State → State) (s : State) : State :=
  s.guardWrite s.hstOn .host agent off (fun s => if ringsServe s then f s else s.logErr agent 0 0 off true .notReady)

/-- Row RING_ENABLE: EN = 1, NTF_EN as it stands. -/
def execRingEnable (agent : Agent) (s : State) : Res :=
  .next (ringWrite agent F.HST_RING_CTL_EN.off (ringCtl (1 + 2 * s.get F.HST_RING_CTL_NTF_EN)) s)

/-- Row RING_DISABLE: EN = 0, NTF_EN as it stands. -/
def execRingDisable (agent : Agent) (s : State) : Res :=
  .next (ringWrite agent F.HST_RING_CTL_EN.off (ringCtl (2 * s.get F.HST_RING_CTL_NTF_EN)) s)

/-- Row RING_DMA_ERROR (R744). -/
def execRingDmaError (s : State) : Res :=
  .next (if s.hstOn && benchRuns s && (s.flag F.HST_RING_CTL_EN || s.flag F.HST_RING_CTL_NTF_EN) then
    (s.raise F.HST_RING_CTL_DMA_ERR).clear F.HST_RING_CTL_EN
  else s)

/-- Entries of a ring of the given size in use. (DEDUCED, log entry 85) -/
def ringUsed (size head tail : Nat) : Nat := (tail + 2 ^ size - head % 2 ^ size) % 2 ^ size

/-- Completion entries in use. -/
def cplUsed (s : State) : Nat := ringUsed (s.get F.HST_CPLQ_SIZE) (s.get F.HST_CPLQ_HEAD) (s.get F.HST_CPLQ_TAIL)

/-- Notification entries in use. (DEDUCED, log entry 85) -/
def ntfUsed (s : State) : Nat := ringUsed (s.get F.HST_NTFQ_SIZE) (s.get F.HST_NTFQ_HEAD) (s.get F.HST_NTFQ_TAIL)

/-- Completions still owed, that of the long command in progress among them. -/
def cplOwed (s : State) : Nat := s.hst.done.length + b2n (s.fw.job.any (·.host))

/-- Bench takes the next command entry (R737). -/
def mayTake (s : State) : Bool :=
  s.hstOn && benchRuns s && !paused s && ringsServe s && s.flag F.HST_RING_CTL_EN
  && s.get F.HST_CMDQ_HEAD != s.get F.HST_CMDQ_TAIL
  && decide (cplUsed s + cplOwed s + 1 < 2 ^ s.get F.HST_CPLQ_SIZE)

/-- CMDQ_HEAD advances. -/
def taken (s : State) : State := s.set F.HST_CMDQ_HEAD ((s.get F.HST_CMDQ_HEAD + 1) % 2 ^ s.get F.HST_CMDQ_SIZE)

/-- Opcodes of R738. -/
def opcodes : List Nat := [0, 1, 2, 3, 4, 0x10, 0x11, 0x12, 0x13, 0x14, 0x20]

/-- OPCODE and CID of an entry. -/
def opOf (e : List Byte) : Nat := leAt e 0 2
/-- CID. -/
def cidOf (e : List Byte) : Nat := leAt e 2 2

/-- The byte positions that a command's parameters use (R738). -/
def usedBytes (e : List Byte) : List Nat :=
  let op := opOf e
  if op = 1 ∨ op = 2 ∨ op = 0x12 then (List.range 12).map (· + 8)
  else if op = 0x10 then [8, 9] ++ (List.range (4 * min 4 (leAt e 8 1) * 2)).filterMap (fun i =>
    if i % 8 < 4 then some (16 + i) else none)
  else if op = 0x11 then [8, 10, 11]
  else if op = 0x13 ∨ op = 0x20 then [8, 9]
  else []

/-- Every byte that the table does not name is zero. (DEDUCED, log entry 82) -/
def zerosOk (e : List Byte) : Bool :=
  (List.range 60).all (fun i => (usedBytes e).contains (i + 4) || e.getD (i + 4) 0 == 0)

/-- A command completes at once. (DEDUCED, log entry 82) -/
def cmdDone (e : List Byte) (result : Nat) (s : State) : State := oweDone (cidOf e) (opOf e) result 0 s

/-- Bench takes entry `e` if it is the row's command `op`, and looks at its zero bytes: `f` does the rest. `long`: it is turned away
while another long command or procedure runs (R739). (DEDUCED, log entry 82) -/
def command (op : Nat) (long : Bool) (e : List Byte) (f : State → State) (s : State) : State :=
  if e.length ≠ 64 ∨ opOf e ≠ op ∨ !mayTake s then s
  else
    let s := taken s
    if long && s.fw.job.isSome then oweDone (cidOf e) op 1 (b2n (decide (op = 1 ∨ op = 2))) s
    else if !zerosOk e then cmdDone e 2 s
    else f s

/-- The commands that need a running plan. (DEDUCED, log entry 82) -/
def withPlan (e : List Byte) (f : Plan → State → State) (s : State) : State :=
  match s.fw.plan with
  | some p => if planThere s then f p s else cmdDone e 12 s
  | none => cmdDone e 12 s

/-- Row NOP. -/
def execNop (entry : List Byte) (s : State) : Res := .next (command 0 false entry (cmdDone entry 0) s)

/-- Row PLAN_LOAD. `found`: the refusal that a check of ch. 17 which the model leaves to the outside finds, if any.
(DEDUCED, log entry 74) -/
def execPlanLoad (entry : List Byte) (found : Option (Nat × Nat)) (s : State) : Res :=
  .next (command 1 true entry (fun s =>
    if planThere s then oweDone (cidOf entry) 1 1 1 s else planLoad (cidOf entry) (leAt entry 8 8) (leAt entry 16 4) found s) s)

/-- Row PLAN_REPLACE. -/
def execPlanReplace (entry : List Byte) (found : Option (Nat × Nat)) (s : State) : Res :=
  .next (command 2 true entry
    (withPlan entry (fun p s => planReplace (cidOf entry) (leAt entry 8 8) (leAt entry 16 4) found p s)) s)

/-- Row CANCEL. -/
def execCancel (entry : List Byte) (s : State) : Res :=
  .next (command 3 false entry (fun s => let r := cancelLoad s; cmdDone entry (if r.2 then 0 else 11) r.1) s)

/-- Row PLAN_STOP. -/
def execPlanStop (entry : List Byte) (s : State) : Res :=
  .next (command 4 true entry (fun s => cmdDone entry 0 (planStop s)) s)

/-- Row TILE_MOVE. -/
def execTileMove (entry : List Byte) (s : State) : Res :=
  .next (command 0x10 true entry (withPlan entry (tileMove (cidOf entry) entry)) s)

/-- Row TILE_RELOAD. -/
def execTileReload (entry : List Byte) (s : State) : Res :=
  .next (command 0x11 true entry (withPlan entry (tileReload (cidOf entry) (leAt entry 8 1) (leAt entry 10 2))) s)

/-- Row CIM_UPDATE. -/
def execCimUpdate (entry : List Byte) (s : State) : Res :=
  .next (command 0x12 true entry (withPlan entry (cimUpdate (cidOf entry) (leAt entry 8 8) (leAt entry 16 4))) s)

/-- Row PORT_CYCLE_FRONTHAUL: KIND 0; a KIND that is not in the table is out of limits (R714). (DEDUCED, log entry 81) -/
def execPortCycleFronthaul (entry : List Byte) (s : State) : Res :=
  .next (if leAt entry 8 1 = 1 then s
  else command 0x13 true entry (fun s =>
    if leAt entry 8 1 = 0 then cycleFronthaul (cidOf entry) (leAt entry 9 1) s else cmdDone entry 2 s) s)

/-- Row PORT_CYCLE_CAMERA: KIND 1. (DEDUCED, log entry 81) -/
def execPortCycleCamera (entry : List Byte) (s : State) : Res :=
  .next (if leAt entry 8 1 ≠ 1 then s else command 0x13 true entry (cycleCamera (cidOf entry) (leAt entry 9 1)) s)

/-- OPP_SET (20 R797, 17 R679). (DEDUCED, log entry 81) -/
def oppSet (e : List Byte) (s : State) : State :=
  let k := leAt e 8 1
  let o := leAt e 9 1
  if s.clusters ≤ k ∨ 3 < o then cmdDone e 2 s
  else
    let v := oppVerdict k o s
    if v = 1 then cmdDone e 13 (s.owe 0x07 k o)
    else if v = 2 then cmdDone e 1 (oppRequest k o s)
    else cmdDone e 0 (oppRequest k o s)

/-- Row OPP_SET. -/
def execOppSet (entry : List Byte) (s : State) : Res := .next (command 0x20 false entry (oppSet entry) s)

/-- Row BAD_OPCODE. -/
def execBadOpcode (entry : List Byte) (s : State) : Res :=
  .next (if entry.length ≠ 64 ∨ opcodes.contains (opOf entry) ∨ !mayTake s then s else cmdDone entry 10 (taken s))

/-! ### Bench handover (18 R710 to R712) -/

/-- The image supports the running plan's ABI (R710). -/
def abiServes (s : State) (h : List Byte) : Bool :=
  match s.fw.plan with
  | none => true
  | some p => (hdrAbi h).any (fun a => a.1 == p.abiMajor && decide (p.abiMinor ≤ a.2))

/-- BENCH_ACTIVATE: step 1, then the pause begins (steps 2 and 3). (DEDUCED, log entry 83) -/
def benchActivate (cid : Nat) (s : State) : State :=
  let c := 1 - s.get F.GLB_BOOT_SLOT
  let r := benchReason s [] c
  let s := procBegin 0x14 (s.setJob (some { op := 0x14, cid := cid, port := c, kind := r }))
  let s := showReason c r s
  if accepted r && abiServes s (slotHdr s 3 c) then jobStep 3 s else jobEnd 7 0 s

/-- Row BENCH_ACTIVATE. (DEDUCED, log entry 83) -/
def execBenchActivate (entry : List Byte) (s : State) : Res :=
  .next (command 0x14 true entry (benchActivate (cidOf entry)) s)

/-- Step 4: the new Bench has read the record; the pause ends, and the new slot is preferred (22 R869). (DEDUCED, log entry 83) -/
def handoverEnd (s : State) : State :=
  match s.fw.job with
  | some j => if j.op = 0x14 then jobEnd 0 0 (setPref 3 j.port (runBench j.port j.kind (jobStep 4 s))) else s
  | none => s

/-- Row HANDOVER_FALLBACK (R712): the previous slot runs on from the handover record. (DEDUCED, log entry 83) -/
def execHandoverFallback (s : State) : Res :=
  .next (match s.fw.job with
  | some j => if j.op = 0x14 then jobEnd 8 0 s else s
  | none => s)

/-! ### Completions and notifications (R740 to R743) -/

/-- The host address of entry `i` of a ring. -/
def ringAt (s : State) (lo hi : Fld) (i : Nat) : Nat := s.get64 lo hi + 16 * i

/-- Row COMPLETION_WRITE: the oldest completion that Bench owes; with the rings disabled it is discarded (R744, R751).
(DESIGN CHOICE, log entry 86) -/
def execCompletionWrite (s : State) : Res :=
  .next (match s.hst.done with
  | [] => s
  | d :: rest =>
    if !benchRuns s || paused s then s
    else if !s.hstOn || !s.flag F.HST_RING_CTL_EN then (s.setHst { s.hst with done := rest })
    else if 2 ^ s.get F.HST_CPLQ_SIZE ≤ cplUsed s + 1 then s
    else
      let t := s.get F.HST_CPLQ_TAIL
      let n := (t + 1) % 2 ^ s.get F.HST_CPLQ_SIZE
      let b := leBytes 2 d.cid ++ leBytes 2 d.op ++ leBytes 4 d.result ++ leBytes 4 d.detail ++ leBytes 3 0 ++ leBytes 1 (b2n s.hst.cplPhase)
      let s := (s.emit (.dma (ringAt s F.HST_CPLQ_BASE_LO F.HST_CPLQ_BASE_HI t) b)).set F.HST_CPLQ_TAIL n
      (s.setHst { s.hst with done := rest, cplPhase := s.hst.cplPhase != (n == 0) }).msix 0 0)

/-- An entry is written to the notification ring, and vector 1 signalled. (DEDUCED, log entry 85; DESIGN CHOICE, log entry 86) -/
def writeNote (n : Note) (s : State) : State :=
  let t := s.get F.HST_NTFQ_TAIL
  let next := (t + 1) % 2 ^ s.get F.HST_NTFQ_SIZE
  let b := leBytes 2 n.source ++ leBytes 2 n.index ++ leBytes 4 n.data ++ leBytes 4 n.epoch ++ leBytes 3 0 ++ leBytes 1 (b2n s.hst.ntfPhase)
  let s := (s.emit (.dma (ringAt s F.HST_NTFQ_BASE_LO F.HST_NTFQ_BASE_HI t) b)).set F.HST_NTFQ_TAIL next
  (s.setHst { s.hst with ntfPhase := s.hst.ntfPhase != (next == 0) }).msix 0 1

/-- Row NOTIFY: an OVERFLOW entry that room has become free for, else the oldest event (R742, R743). (DEDUCED, log entry 85) -/
def execNotify (s : State) : Res :=
  .next (
    let full := decide (2 ^ s.get F.HST_NTFQ_SIZE ≤ ntfUsed s + 1)
    let on := s.hstOn && s.flag F.HST_RING_CTL_NTF_EN
    if !benchRuns s || paused s then s
    else if on && !full && decide (0 < s.hst.lost) then
      writeNote ⟨0x0F, 0, s.hst.lost, s.epochNum⟩ (s.setHst { s.hst with lost := 0 })
    else match s.hst.notes with
    | [] => s
    | n :: rest =>
      let s := (s.setHst { s.hst with notes := rest })
      if !on || !bitOf (s.get F.HST_NTF_MASK) (n.source - 1) then s
      else if full then ((s.inc F.HST_NTF_LOST).setHst { s.hst with lost := s.hst.lost + 1 })
      else writeNote n s)

/-! ### BAR4 (R733, R734, R750, R754) -/

/-- BASE names LPDDR5X below the usable capacity, or the pool. -/
def baseOk (s : State) (base : Nat) : Bool := base == 0x100000 || decide (base * 2 ^ 24 < lpBytes s)

/-- A write of HST_AP_k. -/
def apWrite (agent : Agent) (k v : Nat) (s : State) : State :=
  let f := F.HST_AP_BASE k
  if baseOk s (bitsOf v 23 0) then (s.set f (bitsOf v 23 0)).set (F.HST_AP_VALID k) (bitsOf v 31 31)
  else s.logErr agent 0 0 f.off true .badMap

/-- Row APERTURE_MAP. -/
def execApertureMap (agent : Agent) (k : Nat) (base : BitVec 24) (valid : Bool) (s : State) : Res :=
  .next (if 16 ≤ k then s
  else s.guardWrite s.hstOn .host agent (F.HST_AP_BASE k).off (apWrite agent k (base.toNat + 2 ^ 31 * b2n valid)))

/-- What backs a byte of BAR4. -/
inductive Backing where
  | lp (a : Nat)
  | pool (a : Nat)
  /-- LPDDR5X is down, or the host does not reach BAR4. -/
  | off
  | unbacked
  deriving DecidableEq, Repr

/-- The backing of BAR4 offset `o`. (DEDUCED, log entry 87) -/
def bar4At (s : State) (o : Nat) : Backing :=
  let k := o / 2 ^ 24
  let base := s.get (F.HST_AP_BASE k)
  if !reachAll s then .off
  else if 16 ≤ k ∨ !s.flag (F.HST_AP_VALID k) then .unbacked
  else if base = 0x100000 then (if s.fabOn then .pool (o % 2 ^ 24) else .off)
  else if !s.flag F.MEM_STAT_READY || s.flag F.MEM_STAT_SR then .off
  else if base * 2 ^ 24 + o % 2 ^ 24 < lpBytes s then .lp (base * 2 ^ 24 + o % 2 ^ 24)
  else .unbacked

/-- The byte, and whether its word is poisoned. -/
def bar4Byte (s : State) (o : Nat) : Byte × Bool :=
  match bar4At s o with
  | .lp a => (memByte s.mem.lp a, s.mem.lpBad.contains (a / 8))
  | .pool a => (memByte s.mem.pool a, s.mem.poolBad.contains (a / 8))
  | _ => (0, false)

/-- A host byte is written; a word that the write covers whole is clean. (DEDUCED, log entry 87) -/
def bar4Put (whole : Bool) (o : Nat) (b : Byte) (s : State) : State :=
  match bar4At s o with
  | .lp a =>
    let bad := if whole then setDel s.mem.lpBad (a / 8) else s.mem.lpBad
    (s.setMem { s.mem with lp := memPut s.mem.lp a b, lpBad := bad })
  | .pool a =>
    let bad := if whole then setDel s.mem.poolBad (a / 8) else s.mem.poolBad
    (s.setMem { s.mem with pool := memPut s.mem.pool a b, poolBad := bad })
  | _ => s

/-- What is logged of an access to `n` bytes from `o` (R726, R732, R734). (DEDUCED, log entry 87) -/
def bar4Log (o n : Nat) (write : Bool) (s : State) : State :=
  let l := (List.range n).map (fun i => bar4At s (o + i))
  if l.contains .off then s.logErr .host 0 4 o write .domainOff
  else if l.contains .unbacked then s.logErr .host 0 4 o write .unmapped
  else s

/-- Row BAR4_ACCESS: a read of `len` bytes, or a write of `data`. (DEDUCED, log entry 87) -/
def execBar4Access (off len : Nat) (write : Bool) (data : List Byte) (s : State) : Res :=
  .next (if !s.hstOn then s
  else if write then
    let n := data.length
    let put := data.zipIdx.foldl (fun t e =>
      let o := off + e.2
      bar4Put (decide (off ≤ o / 8 * 8 ∧ o / 8 * 8 + 8 ≤ off + n)) o e.1 t) s
    bar4Log off n true put
  else
    let l := (List.range len).map (fun i => bar4Byte s (off + i))
    (bar4Log off len false s).emit (.bar4 off (l.map (·.1)) (l.any (·.2))))

end Sys2Proof.Machine
end

