-- ==== Sys2Proof/Machine/Boundary.lean ====
section
/-!
DEFINITION. Sys2Proof/Machine/Boundary.lean: the epoch boundary, the flip cycle and the passing of time (00_scope R21; 02 R67; 06 R235;
08 R288; 09 R319, R366; 17 R670; 95_what_each_step_holds).
-/

namespace Sys2Proof.Machine

/-- Every tile of the part that is on takes `f`. -/
def eachTile (f : Nat → State → State) (s : State) : State :=
  (List.range s.cfg.tiles).foldl (fun s n => if s.tileOn n then f n s else s) s

/-! ### The flip cycle (R288, R319, R370) -/

/-- EPOCH of every tile follows EPOCH_NUM, and IPEND.EPOCH sets (R319). (DEDUCED, log entry 55) -/
def tileEpoch (s : State) : State :=
  (List.range s.cfg.tiles).foldl (fun s n =>
    let q := s.seq n
    s.setSeq n { q with epoch := s.epochNum, ipEpoch := q.ipEpoch || s.tileOn n }) s

/-- The fabric cycle of R288, whether or not tables flip in it: tiles count the epoch, ARMED tiles start, and what Bench ties to
the cycle moves on (R670, R697). -/
def flipCycle (s : State) : State :=
  let s := eachTile tileFlip (tileEpoch s)
  if benchRuns s then procAdvance true (loadFlip s) else s

/-- R288: every node switches to the other copy, ACTIVE toggles and ARM clears; fences of moved tiles leave (18 R688). -/
def tableFlip (s : State) : State :=
  let t := swapLists (swapNrt s)
  let t := (t.set F.EVF_CTL_ACTIVE (b2n (!s.flag F.EVF_CTL_ACTIVE))).clear F.EVF_CTL_ARM
  flipFences s (t.setFab { t.fab with flipDue := false })

/-- The flip that an armed boundary made due, and its cycle. (DESIGN CHOICE, log entry 30) -/
def routeFlip (s : State) : State := if s.fab.flipDue then flipCycle (tableFlip s) else s

/-- Row ROUTE_TABLE_FLIP (R288): with no armed boundary before it nothing flips. (DESIGN CHOICE, log entry 30) -/
def execRouteTableFlip (s : State) : Res := .next (if s.fabOn then routeFlip s else s)

/-! ### The boundary (R67, R235) -/

/-- Register fields whose writes wait for the boundary take effect (R21). (DEDUCED, log entry 19) -/
def lateWrites (s : State) : State :=
  s.late.foldl (fun s e => s.set e.1 e.2) (s.setLate [])

/-- Steps 1 to 3 of R235, under the old epoch. (DEDUCED, log entry 47) -/
def ingressClose (s : State) : State := if s.ingOn && s.fabOn then gatesClose s else s

/-- Step 4 of R235 and the encoder's boundary; staged registers come into force (R130, R267). -/
def ingressOpen (s : State) : State :=
  let t := s.activate
  if s.ingOn then encoderBoundary s (gatesOpen t) else t

/-- What the fabric, the Ladle and the tiles do at the boundary. -/
def fabricStep (s : State) : State :=
  let s := if s.fabOn then ladleBoundary (fabricBoundary s) else s
  eachTile (fun n s => burstBoundary n (haltPending n (neBoundary n (ringLines n s)))) s

/-- What Bench does at the boundary (R670, R681, R711). (DESIGN CHOICE, log entry 77) -/
def benchStep (s : State) : State :=
  if !benchRuns s then s
  else
    let s := envelopeCheck s
    let s := match s.fw.next with
      | some p => loadAdvance p s
      | none => s
    handoverEnd (procAdvance false s)

/-- An epoch boundary, site time having reached it. -/
def boundary (s : State) : State :=
  let s := ingressOpen (lateWrites (boundaryGrid (ingressClose s)))
  let s := benchStep (fabricStep s)
  if s.fabOn && s.flag F.EVF_CTL_ARM then (s.setFab { s.fab with flipDue := true }) else flipCycle s

/-- Row EPOCH_BOUNDARY (R67): site time runs to the next boundary tick. A flip that is still due comes first: its cycle began 24 ns
after the boundary before. (DESIGN CHOICE, log entry 30) -/
def execEpochBoundary (s : State) : Res :=
  .next (if s.netOn then (let s := routeFlip s; boundary (advanceTo s.tb.next s)) else s)

/-! ### Time between commands -/

/-- One cycle of the site counter (R51), with the boundary if T reaches it (R67); a flip that is due comes in the third cycle after
its boundary, and here at the first (DESIGN CHOICE, log entry 30). AO time runs while PORST_N is high, whatever NET does.
(DESIGN CHOICE, log entry 34) -/
def timeStepIdle (s : State) : State :=
  if s.pins.porst then s
  else if !s.netOn then aoTime 1 s
  else
    let s := advance 1 (routeFlip s)
    if s.tb.next ≤ s.T then boundary s else s

end Sys2Proof.Machine
end

