-- ==== Sys2Proof/Machine/RegWrite.lean ====
section
/-!
DEFINITION. Sys2Proof/Machine/RegWrite.lean: what an accepted write does to each register, with the action that its fields ask for
(00_scope R18, R21; the Registers sections of files 04 to 22).
-/

namespace Sys2Proof.Machine

/-- The register holds a field at this offset. -/
def Fld.at (f : Fld) (base : Nat) : Bool := f.off == base

/-! ### Power (20) -/

/-- PMU_DEV_CTL: REFUSED is W1C; REQ asks for a transition unless the write only clears REFUSED (DEDUCED, log entry 31). -/
def devCtlWrite (agent : Agent) (v : Nat) (s : State) : State :=
  let t := if bitOf v 9 then s.clear F.PMU_DEV_CTL_REFUSED else s
  if bitOf v 9 && v % 4 == s.get F.PMU_DEV_CTL_REQ then t else devRequest agent (v % 4) t

/-- PMU_CLU_k: the W1C bits, FLOOR for Bench, then REQ and OPP_REQ where they change (DEDUCED, log entry 31). -/
def cluCtlWrite (agent : Agent) (k v : Nat) (s : State) : State :=
  let r := v % 4
  let o := bitsOf v 5 4
  let s := if bitOf v 13 then s.clear (F.PMU_CLU_REFUSED k) else s
  let s := if bitOf v 14 then s.clear (F.PMU_CLU_WAKE_FAIL k) else s
  let s := if agent = .bench then s.set (F.PMU_CLU_FLOOR k) (bitsOf v 9 8) else s
  let s :=
    if r = 3 ∨ (r = s.get (F.PMU_CLU_REQ k) ∧ r = s.get (F.PMU_CLU_STATE k)) then s else cluRequest k r s
  if o = s.get (F.PMU_CLU_OPP_REQ k) ∧ o = s.get (F.PMU_CLU_OPP k) then s else oppRequest k o s

/-- PMU_NAP_k: a bit that is set asks for NAP, one that is cleared ends it (R768, R770). -/
def napWrite (k v : Nat) (s : State) : State :=
  (List.range 16).foldl (fun s j =>
    let n := 16 * k + j
    if bitOf v j && !bitOf (s.get (F.PMU_NAP_REQ k)) j then napRequest n s
    else if !bitOf v j && bitOf (s.get (F.PMU_NAP_REQ k)) j then restoreSwap n (napExit n s) else s) s

/-- PMU_QUENCH: the W1C bits and CLR; whether a condition of R788 is in force then is open (DEDUCED, log entry 3). -/
def quenchWrite (v : Nat) (s : State) : State :=
  let s := if bitOf v 5 then s.clear F.PMU_QUENCH_CLR_REFUSED else s
  let s := if bitOf v 8 then s.clear F.PMU_QUENCH_TRIP else s
  if bitOf v 4 then quenchClear (bitOf (Config.freeNat s.freeCtr) 0) s.tick else s

/-- Registers of the PMU. -/
def pmuWrite (agent : Agent) (base k off v : Nat) (s : State) : State :=
  if F.PMU_DEV_CTL_REQ.at base then devCtlWrite agent v s
  else if (F.PMU_CLU_REQ 0).at base then cluCtlWrite agent k v s
  else if (F.PMU_NAP_REQ 0).at base then napWrite k v s
  else if F.PMU_AVS_VSET.at base then avsVset (v % 1024) s
  else if F.PMU_FDIR_GO.at base then
    (if bitOf v 8 then fdir (v % 16) (bitsOf v 5 4) s else limited agent off v s)
  else if F.PMU_QUENCH_CLR.at base then quenchWrite v s
  else limited agent off v s

/-! ### Ports, power channels, antenna line (04, 05) -/

/-- JXL_P_CFG: MODE reads 0 on ports 4 to 15; EN acts under R177 and R186. -/
def jxlCfgWrite (agent : Agent) (n off v : Nat) (s : State) : State :=
  let was := s.flag (F.JXL_P_CFG_EN n)
  let v' := putBits (if 4 ≤ n then putBits v 1 1 0 else v) 0 0 (b2n was)
  let s := limited agent off v' s
  if bitOf v 0 && !was then jxlEnable n s else if !bitOf v 0 && was then jxlDisable n s else s

/-- Registers of the Jexlink ports. -/
def jxlWrite (agent : Agent) (base n t off v : Nat) (s : State) : State :=
  if (F.JXL_P_CFG_EN 0).at base then jxlCfgWrite agent n off v s
  else if (F.JXL_P_REQ_GO 0 0).at base then
    (if bitOf v 17 then regRequest n t (v % 65536) (bitOf v 16) s else limited agent off v s)
  else limited agent off v s

/-- PPC_CH_CTL: EN where it changes, then CLR (R186, R196, R206). -/
def chCtlWrite (n v : Nat) (s : State) : State :=
  let was := s.flag (F.PPC_CH_CTL_EN n)
  let s := if bitOf v 2 then s.clear (F.PPC_CH_CTL_REFUSED n) else s
  let s := if bitOf v 0 && !was then ppcEnable n s else if !bitOf v 0 && was then ppcDisable n s else s
  if bitOf v 1 && (s.chState n == 8 || s.chState n == 9) then chanStart n s else s

/-- Registers of port power and of the site. -/
def siteWrite (agent : Agent) (base n off v : Nat) (s : State) : State :=
  if (F.PPC_CH_CTL_EN 0).at base then chCtlWrite n v s
  else if F.SITE_ALD_TXCMD_GO.at base then
    (if bitOf v 31 then aldCommand (bitOf v 8) (v % 256) (bitsOf v 26 16) s else limited agent off v s)
  else limited agent off v s

/-! ### Gates and encoder (06, 07) -/

/-- ADM_GATE_CFG: BACKPRESS on a radio gate is discarded and sets REFUSED (R231). (DEDUCED, log entry 47) -/
def gateCfgWrite (agent : Agent) (g off v : Nat) (s : State) : State :=
  if 16 ≤ g ∧ bitsOf v 2 1 = 0 then
    (limited agent off (putBits v 2 1 (s.get (F.ADM_GATE_CFG_POLICY g))) s).raise (F.ADM_GATE_CFG_REFUSED g)
  else limited agent off v s

/-- Registers of the gates and the encoder; EN = 0 of a flow acts at once (R269). -/
def ingestWrite (agent : Agent) (base n off v : Nat) (s : State) : State :=
  if (F.ADM_GATE_CFG_EN 0).at base then gateCfgWrite agent n off v s
  else if (F.SEE_F_CFG_EN 0).at base then
    let was := s.flag (F.SEE_F_CFG_EN n)
    let s := limited agent off v s
    if was && !bitOf v 0 then flowDisable n s else s
  else limited agent off v s

/-! ### Fabric, sync, Ladle (08, 15, 16) -/

/-- A field that a plan in progress uses waits for the boundary (R21). (DEDUCED, log entry 19) -/
def laterWrite (f : Fld) (v : Nat) (s : State) : State := (s.setLate (s.late ++ [(f, v)]))

/-- EVF_CTL: STALL_LIM waits while a plan runs (R21), the other fields act at once. -/
def evfCtlWrite (agent : Agent) (off v : Nat) (s : State) : State :=
  if s.running then
    laterWrite F.EVF_CTL_STALL_LIM (bitsOf v 31 16) (limited agent off (putBits v 31 16 (s.get F.EVF_CTL_STALL_LIM)) s)
  else limited agent off v s

/-- EVF_SPAN_CFG: DEV_ID and RING change only while both EN bits are 0; a port whose EN clears falls. (DEDUCED, log entry 51) -/
def spanCfgWrite (agent : Agent) (off v : Nat) (s : State) : State :=
  let on := s.flag F.EVF_SPAN_CFG_EN0 || s.flag F.EVF_SPAN_CFG_EN1
  if on && (bitsOf v 3 2 != s.get F.EVF_SPAN_CFG_DEV_ID || bitsOf v 5 4 != s.get F.EVF_SPAN_CFG_RING) then
    s.raise F.EVF_CTL_REFUSED
  else
    let s := limited agent off v s
    let s := if !bitOf v 0 && spanUp s 0 then spanFall 0 s else s
    if !bitOf v 1 && spanUp s 1 then spanFall 1 s else s

/-- Registers of the event fabric (R289, R304, R311). -/
def evfWrite (agent : Agent) (base n off v : Nat) (s : State) : State :=
  if F.EVF_CTL_ARM.at base then evfCtlWrite agent off v s
  else if F.EVF_SPAN_CFG_EN0.at base then spanCfgWrite agent off v s
  else if (F.EVF_NRT_SHADOW 0).at base then nrtWritten n (limited agent off v s)
  else if (F.EVF_NRT_ACTIVE 0).at base then s.raise F.EVF_CTL_REFUSED
  else if (F.EVF_T_EB_CFG 0).at base && s.running then laterWrite (F.EVF_T_EB_CFG n) v s
  else if (F.EVF_T_FAN_BASE0 0).at base || (F.EVF_T_FAN_CFG0_NLIST 0).at base || (F.EVF_T_FAN_BASE1 0).at base
      || (F.EVF_T_FAN_CFG1_NLIST 0).at base then
    (if lockOpen s base [n] then limited agent off v s else s.raise F.EVF_CTL_REFUSED)
  else limited agent off v s

/-- SYNC_WATCH_CTL: ARM tests the watch at once (R633). -/
def watchCtlWrite (agent : Agent) (k off v : Nat) (s : State) : State :=
  let was := s.flag (F.SYNC_WATCH_CTL_ARM k)
  let s := limited agent off v s
  if bitOf v 16 && !was then watchArm k s else s

/-- LDL_CTL: EN starts and stops issue (R613). -/
def ldlCtlWrite (agent : Agent) (off v : Nat) (s : State) : State :=
  let was := s.flag F.LDL_CTL_EN
  let s := limited agent off (putBits v 0 0 (b2n was)) s
  if bitOf v 0 && !was then ladleEnable s else if !bitOf v 0 && was then ladleDisable s else s

/-- RAS_LOG_RD: Bench has read the entries up to the new value (21 R825). (DEDUCED, log entry 95) -/
def logRdWrite (agent : Agent) (off v : Nat) (s : State) : State :=
  let d := (v % 64 + 64 - s.get F.RAS_LOG_RD) % 64
  let s := limited agent off v s
  let s := (s.setRas { s.ras with unread := s.ras.unread - d })
  s.set F.RAS_STAT_LOG_PEND (b2n (s.ras.unread != 0))

/-- Registers of the sync block, the Ladle, the memories and the RAS block. -/
def coreWrite (agent : Agent) (base n off v : Nat) (s : State) : State :=
  if (F.SYNC_WATCH_CTL_ARM 0).at base then watchCtlWrite agent n off v s
  else if F.LDL_CTL_EN.at base then ldlCtlWrite agent off v s
  else if F.RAS_LOG_RD.at base then logRdWrite agent off v s
  else limited agent off v s

/-! ### Host interface (19) -/

/-- An MSI-X vector is unmasked: a message that waited leaves. -/
def unmask (pf vec : Nat) (s : State) : State :=
  let f := if pf = 0 then F.HST_PBA (vec / 32) else F.PF1_PBA
  if bitOf (s.get f) (vec % 32) then (s.set f (putBits (s.get f) (vec % 32) (vec % 32) 0)).emit (.msix pf vec) else s

/-- Registers of the host interface (R736, R749, R753, R754). The low 12 bits of a ring base are zero. -/
def hstWrite (agent : Agent) (base n off v : Nat) (s : State) : State :=
  if F.HST_RING_CTL_EN.at base then (if ringsServe s then ringCtl v s else s.logErr agent 0 0 off true .notReady)
  else if 0x1700020 ≤ base ∧ base < 0x1700080 then
    let low := F.HST_CMDQ_BASE_LO.at base || F.HST_CPLQ_BASE_LO.at base || F.HST_NTFQ_BASE_LO.at base
    if ringsServe s then limited agent off (if low then v / 4096 * 4096 else v) s else s.logErr agent 0 0 off true .notReady
  else if (F.HST_AP_BASE 0).at base then apWrite agent n v s
  else if (F.HST_MSIX_CTL 0).at base then
    let s := limited agent off v s
    if bitOf v 0 then s else unmask 0 n s
  else limited agent off v s

/-- A mailbox's CTL (R745, R746): RESP_READY is W1C; DOORBELL is discarded while a request or a response stands, or with the owner
absent. (DEDUCED, log entry 88) -/
def doorbellWrite (agent : Agent) (busy ready : Fld) (present : Bool) (ring : State → State) (off v : Nat) (s : State) : State :=
  let closed := s.flag busy || s.flag ready || !present
  let t := if bitOf v 2 then s.clear ready else s
  if !bitOf v 0 then t else if closed then t.logErr agent 1 0 off true .notWriter else ring t

/-- A write to the request side of a mailbox (R746). -/
def requestWrite (agent : Agent) (busy ready : Fld) (key v : Nat) (s : State) : State :=
  if s.flag busy || s.flag ready then s.logErr agent 1 0 (key - 0x10000000) true .notWriter else limited agent key v s

/-- Registers of function 1. -/
def pf1Write (agent : Agent) (base n key v : Nat) (s : State) : State :=
  let off := key - 0x10000000
  if F.PF1_BENCH_CTL_BUSY.at base then
    doorbellWrite agent F.PF1_BENCH_CTL_BUSY F.PF1_BENCH_CTL_RESP_READY (benchPresent s) benchDoorbell off v s
  else if F.PF1_TM_CTL_BUSY.at base then
    doorbellWrite agent F.PF1_TM_CTL_BUSY F.PF1_TM_CTL_RESP_READY (tmPresent s) tmDoorbell off v s
  else if F.PF1_BENCH_REQ_LEN.at base || (F.PF1_BENCH_REQ 0).at base then
    requestWrite agent F.PF1_BENCH_CTL_BUSY F.PF1_BENCH_CTL_RESP_READY key v s
  else if F.PF1_TM_REQ_LEN.at base || (F.PF1_TM_REQ 0).at base then
    requestWrite agent F.PF1_TM_CTL_BUSY F.PF1_TM_CTL_RESP_READY key v s
  else if (F.PF1_MSIX_CTL 0).at base then
    let s := limited agent key v s
    if bitOf v 0 then s else unmask 1 n s
  else limited agent key v s

/-! ### Tile windows (09, 11 to 14, 18) -/

/-- TILE_SEQ_CTL: the levels first, then RESET, GO, SOFTIRQ and STOP as their rows act. (DEDUCED, log entry 54) -/
def seqCtlWrite (n v : Nat) (s : State) : State :=
  let s := if bitOf v 6 then s.clear (F.TILE_SEQ_CTL_REFUSED n) else s
  let s := (s.set (F.TILE_SEQ_CTL_START n) (v / 2)).set (F.TILE_SEQ_CTL_DRAIN n) (v / 32)
  let s := if bitOf v 3 then tileResetWrite n s else s
  let s := if bitOf v 0 then tileGo n (bitOf v 1) s else s
  let s := if bitOf v 4 then s.setSeq n { s.seq n with ipSoft := true } else s
  if bitOf v 2 then tileStop n s else s

/-- NE_CTL: EN where it changes (R473). -/
def neCtlWrite (agent : Agent) (n off v : Nat) (s : State) : State :=
  let was := s.flag (F.NE_CTL_EN n)
  let s := limited agent off (putBits v 0 0 (b2n was)) s
  if bitOf v 0 && !was then neEnable n s else if !bitOf v 0 && was then neDisable n s else s

/-- A word of dynamics memory (0 to 63) or of the tables (64 upwards): a rewritten word is whole again (R470). -/
def dynWrite (agent : Agent) (n w off v : Nat) (s : State) : State :=
  let s' := limited agent off v s
  if s.flag (F.NE_CTL_EN n) then s' else s'.setNe n { s'.ne n with badWords := (s'.ne n).badWords.filter (· ≠ w) }

/-- CIM_A_PGM: the W1C bits and the levels, then START, GO, FINISH and ABORT as their rows act. (DEDUCED, log entry 62) -/
def pgmWrite (n a v : Nat) (s : State) : State :=
  let s := if bitOf v 18 then s.clear (F.CIM_A_PGM_REFUSED n a) else s
  let s := if bitOf v 19 then s.clear (F.CIM_A_PGM_FAILROW n a) else s
  let s := ((s.set (F.CIM_A_PGM_BANK n a) (v / 16)).set (F.CIM_A_PGM_BUF n a) (v / 32)).set (F.CIM_A_PGM_ROW n a) (v / 64)
  let s := if bitOf v 0 then pgmStart n a (bitOf v 4) s else s
  let s := if bitOf v 3 then pgmGo n a (bitsOf v 5 5) (bitsOf v 14 6) s else s
  let s := if bitOf v 1 then pgmFinish n a s else s
  if bitOf v 2 then endSession n a s else s

/-- A word of a row buffer: refused while the buffer's row waits to be latched (R503). (DEDUCED, log entry 62) -/
def rowBufWrite (agent : Agent) (n a buf off v : Nat) (s : State) : State :=
  if (s.arr n a).queued.any (fun q => q.2 == buf) then pgmRefuse n a s else limited agent off v s

/-- CIM_TS_MSCAN: DONE is W1C; MARGIN keeps its value outside 6 to 9 (R543); START begins a scan (R534). -/
def mscanWrite (agent : Agent) (n a off v : Nat) (s : State) : State :=
  let s := limited agent off (putBits v 0 0 0) s
  if bitOf v 0 then scanStart n a (bitOf v 1) (s.get (F.CIM_TS_MSCAN_MARGIN n a)) s else s

/-- Word `w` of a bank's substitution table: written on a twin only (R539). -/
def substWrite (n a w v : Nat) (isB : Bool) (s : State) : State :=
  let x := s.arr n a
  if x.cb == isB then s
  else
    let b := x.bank isB
    let t := (b.subst.set (2 * w) (bitsOf v 7 0, bitsOf v 9 8)).set (2 * w + 1) (bitsOf v 23 16, bitsOf v 25 24)
    s.setArr n a (x.setBank isB { b with subst := t })

/-- TILE_CHG_CTL (R691 to R693): HOLD or QUIESCE set lets the engine hold, both cleared lets it resume. -/
def chgWrite (agent : Agent) (n off v : Nat) (s : State) : State :=
  let was := s.flag (F.TILE_CHG_CTL_HOLD n) || s.flag (F.TILE_CHG_CTL_QUIESCE n)
  let s := limited agent off v s
  if v % 4 ≠ 0 then settleHold n s else if was then resumeEngine n (bitOf v 3) s else s

/-- Registers of tile `n`; `i` and `j` are the further indices of the row. -/
def tileWrite (agent : Agent) (base : Nat) (ix : List Nat) (off v : Nat) (s : State) : State :=
  let n := ix.getD 0 0
  let i := ix.getD 1 0
  let j := ix.getD 2 0
  if (F.TILE_SEQ_CTL_GO 0).at base then seqCtlWrite n v s
  else if (F.NE_CTL_EN 0).at base then neCtlWrite agent n off v s
  else if (F.NE_DYN 0 0).at base then dynWrite agent n i off v s
  else if (F.NE_TAB 0 0 0).at base then dynWrite agent n (64 + 32 * i + j) off v s
  else if (F.CIM_A_PGM_GO 0 0).at base then pgmWrite n i v s
  else if (F.CIM_ROWBUF 0 0 0 0).at base then rowBufWrite agent n i j off v s
  else if (F.CIM_TS_MSCAN_START 0 0).at base then mscanWrite agent n i off v s
  else if (F.CIM_TS_SUBST_A_PAIR0 0 0 0).at base then substWrite n i j v false s
  else if (F.CIM_TS_SUBST_B_PAIR0 0 0 0).at base then substWrite n i j v true s
  else if (F.CIM_TS_SP_CTL_SPGO 0 0).at base then
    (if bitOf v 0 then spareStart n i (bitsOf v 3 1) (bitsOf v 11 4) s else limited agent off v s)
  else if (F.CIM_SPBUF 0 0 0).at base then
    (if (s.arr n i).spare.isSome then pgmRefuse n i s else limited agent off v s)
  else if (F.CIM_COEF 0 0 0).at base then s.setReg off (BitVec.ofNat 32 v)
  else if (F.TILE_CHG_CTL_HOLD 0).at base then chgWrite agent n off v s
  else match veWin (off % 0x10000) with
  | some w => if tileHalted s n then veWrite n (BitVec.ofNat 32 v) w s else s.raise (F.VE_STAT_REFUSED n)
  | none => limited agent off v s

/-! ### Every register -/

/-- An accepted write of `v` by `agent` to the register of row `r` at `key`. (DEDUCED, log entry 100) -/
def regWrite (agent : Agent) (r : RegRow) (ix : List Nat) (key v : Nat) (s : State) : State :=
  let n := ix.getD 0 0
  if key < 0x100000 then limited agent key v s
  else if key < 0x200000 then pmuWrite agent r.base n key v s
  else if key < 0x400000 then (if r.dom = .net then tsbWrite agent key v s else limited agent key v s)
  else if key < 0x800000 then netWrite agent key v s
  else if key < 0xA00000 then jxlWrite agent r.base n (ix.getD 1 0) key v s
  else if key < 0xC00000 then siteWrite agent r.base n key v s
  else if key < 0xE00000 then ingestWrite agent r.base n key v s
  else if key < 0x1000000 then evfWrite agent r.base n key v s
  else if key < 0x1700000 then coreWrite agent r.base n key v s
  else if key < 0x2000000 then hstWrite agent r.base n key v s
  else if key < 0x10000000 then tileWrite agent r.base ix key v s
  else pf1Write agent r.base n key v s

end Sys2Proof.Machine
end

