-- ==== Sys2Proof/Machine/SeqSystem.lean ====
section
/-!
DEFINITION. Sys2Proof/Machine/SeqSystem.lean: special registers, MODE, SYNC.I, ERET, WFE, HALT, FENCE, TRAP, undefined
encodings (09 R317 to R319, R338 to R340, R350; 10 R374, R391 to R394).
-/

namespace Sys2Proof.Machine

/-- SEQ_STAT (09, SEQ_STAT layout). -/
def seqStat (s : State) (n : Nat) : Nat :=
  let q := s.seq n
  b2n q.imodHit + b2n q.loopbr * 2 + b2n q.haltPend * 4 + (q.sb.filter (·.isWait)).length % 16 * 2 ^ 4
  + q.sb.length % 128 * 2 ^ 8 + ipend s n * 2 ^ 16

/-- Special register `r` as MFS reads it, and the sequencer after the read: TICK.L latches the high half (R317, R318). -/
def readSpecial (s : State) (n r : Nat) : Nat × Seq :=
  let q := s.seq n
  let t := s.T
  match r with
  | 0 => (q.mode, q)
  | 1 => (q.mprog.toNat, q)
  | 2 => (q.epc.toNat, q)
  | 3 => (q.estat.toNat, q)
  | 4 => (q.ebad.toNat, q)
  | 5 => (q.imask, q)
  | 6 => (seqStat s n, q)
  | 7 => (q.epoch, q)
  | 8 => (t % 2 ^ 32, { q with tickHigh := some (t / 2 ^ 32) })
  | 9 => (q.tickHigh.getD (t / 2 ^ 32), { q with tickHigh := none })
  | 16 => (q.lc.getD 0 0, q)
  | 17 => (q.lc.getD 1 0, q)
  | 18 => (q.lc.getD 2 0, q)
  | 20 => (q.la.getD 0 0, q)
  | 21 => (q.la.getD 1 0, q)
  | 22 => (q.la.getD 2 0, q)
  | 24 => (q.le.getD 0 0, q)
  | 25 => (q.le.getD 1 0, q)
  | 26 => (q.le.getD 2 0, q)
  | _ => (0, q)

/-- Row MFS: a reserved number reads zero. -/
def execMfs (tile : Nat) (gd : Guard) (d sr : Nat) (s : State) : Res :=
  .next (instr tile gd [] [d] none id (fun s =>
    let (v, q) := readSpecial s tile sr
    .done (s.setSeq tile (q.wr d (BitVec.ofNat 32 v)))) s)

/-- The special registers that MTS writes (R317). -/
def writable (r : Nat) : Bool := [1, 2, 3, 5, 6, 16, 17, 18, 20, 21, 22, 24, 25, 26].contains r

/-- A write of special register `r` (R317, R363, R391). -/
def writeSpecial (q : Seq) (r : Nat) (v : Word) : Seq :=
  let a := v.toNat % 0x4000 / 4 * 4
  match r with
  | 1 => { q with mprog := v }
  | 2 => { q with epc := v }
  | 3 => { q with estat := v &&& 0xFFF01FFF }
  | 5 => { q with imask := v.toNat % 32 }
  | 6 => { q with imodHit := q.imodHit && !v.getLsbD 0, loopbr := q.loopbr && !v.getLsbD 1, ipEpoch := q.ipEpoch && !v.getLsbD 17,
                  ipWait := q.ipWait && !v.getLsbD 18, ipSoft := q.ipSoft && !v.getLsbD 20 }
  | 16 => { q with lc := q.lc.set 0 v.toNat }
  | 17 => { q with lc := q.lc.set 1 v.toNat }
  | 18 => { q with lc := q.lc.set 2 v.toNat }
  | 20 => { q with la := q.la.set 0 a }
  | 21 => { q with la := q.la.set 1 a }
  | 22 => { q with la := q.la.set 2 a }
  | 24 => { q with le := q.le.set 0 a }
  | 25 => { q with le := q.le.set 1 a }
  | 26 => { q with le := q.le.set 2 a }
  | _ => q

/-- Row MTS: ILLEGAL for number 0, a read-only register or a reserved number. -/
def execMts (tile : Nat) (gd : Guard) (a sr : Nat) (s : State) : Res :=
  let w := wordOf gd 0x2F (a * 2 ^ 12 + sr)
  .next (instr tile gd [a] [] (if writable sr then none else some w) id (fun s =>
    let q := s.seq tile
    .done (s.setSeq tile (writeSpecial q sr (q.rd a)))) s)

/-- Row MODE (R339, R340, R392): the new value waits for two shadow instructions. ILLEGAL in a shadow, and where a field that
must be zero is not. -/
def execMode (tile : Nat) (gd : Guard) (a : Nat) (reg : Bool) (v : BitVec 5) (s : State) : Res :=
  let w := wordOf gd 0x30 (a * 2 ^ 12 + b2n reg * 2 ^ 5 + v.toNat)
  let bad := (s.seq tile).pending.isSome || (reg && v ≠ 0) || (!reg && a ≠ 0)
  .next (instr tile gd (if reg then [a] else []) [] (if bad then some w else none) id (fun s =>
    let q := s.seq tile
    let m := if reg then (q.rd a).toNat % 32 else v.toNat
    .done (s.setSeq tile { q with pending := some (m, 3) })) s)

/-- ILLEGAL in a delay slot (R390). -/
def slotIllegal (s : State) (n : Nat) (w : Word) : Option Word := if (s.seq n).delay.isSome then some w else none

/-- Row SYNC_I (R330): fetched copies are discarded; a command carries what is fetched after it. -/
def execSyncI (tile : Nat) (gd : Guard) (s : State) : Res :=
  .next (instr tile gd [] [] (slotIllegal s tile (wordOf gd 0x31 0)) id (fun s => .done s) s)

/-- The sequencer after ERET (R350, R353). -/
def Seq.eret (q : Seq) : Seq :=
  let e := q.estat.toNat
  let pos := bitsOf e 11 10
  let pend := bitsOf e 31 20
  let q := { q.shadow with mode := q.shadow.mode % 16 + b2n (bitOf e 8) * 16, estat := q.estat &&& 0xFFFFFF7F,
                           pc := q.epc.toNat % 0x4000 / 4 * 4, delay := none }
  if !bitOf e 9 then q else if pos = 0 then { q with mode := pend, pending := none } else { q with pending := some (pend, pos) }

/-- Row ERET: ILLEGAL outside a handler and in a delay slot. -/
def execEret (tile : Nat) (gd : Guard) (s : State) : Res :=
  let w := wordOf gd 0x31 1
  .next (instr tile gd [] [] (if !(s.seq tile).exl then some w else slotIllegal s tile w) id (fun s =>
    .placed (countRetired tile (s.setSeq tile (s.seq tile).eret))) s)

/-- Row WFE (R371, R393): it retires once an enabled IPEND bit is set; until then the sequencer is WAITING. -/
def execWfe (tile : Nat) (gd : Guard) (s : State) : Res :=
  .next (if tileWaits s tile then wakeWfe tile s
    else instr tile gd [] [] none id (fun s =>
      if (enabledIrq s tile).isSome then .done s else .placed (s.set (F.TILE_SEQ_STAT_STATE tile) 2)) s)

/-- Row HALT (R371, R393): TILE_SEQ_PC then holds PC + 4. -/
def execHalt (tile : Nat) (gd : Guard) (s : State) : Res :=
  .next (instr tile gd [] [] none id (fun s =>
    let pc := (s.seq tile).pc
    let s := retire tile s
    .placed (tileHalt tile 1 (s.setSeq tile { s.seq tile with pc := (pc + 4) % 0x4000 }))) s)

/-- Row FENCE (R393): it waits in D for acknowledgements and for the send queue to empty. -/
def execFence (tile : Nat) (gd : Guard) (s : State) : Res :=
  .next (instr tile gd [] [] none id (fun s =>
    let q := s.seq tile
    if q.unacked = 0 ∧ q.syncq.isEmpty ∧ q.sendq.isEmpty then .done s else .stall) s)

/-- Row TRAP (R394). -/
def execTrap (tile : Nat) (gd : Guard) (code : BitVec 16) (s : State) : Res :=
  .next (instr tile gd [] [] (slotIllegal s tile (wordOf gd 0x2D code.toNat)) id (fun s => .exc s 8 (code.setWidth 32)) s)

/-- Row ILLEGAL_INSTRUCTION (R374): EBAD holds the word. -/
def execIllegalInstruction (tile : Nat) (word : Word) (s : State) : Res :=
  .next (instr tile {} [] [] (some word) id (fun s => .done s) s)

end Sys2Proof.Machine
end

