-- ==== Sys2Proof/Machine/RegAccess.lean ====
section
/-!
DEFINITION. Sys2Proof/Machine/RegAccess.lean: the rows REGISTER_WRITE and REGISTER_READ: who reaches which register (19 R726 to R732,
R749, R750), what a read returns and clears (00_scope R18), and the counter windows (16 R631, R652).
-/

namespace Sys2Proof.Machine

/-! ### What stands in the way of an access -/

/-- The register belongs to a tile or cluster that the part lacks (R10, R731). (DEDUCED, log entry 16) -/
def absentReg (s : State) (base n : Nat) : Bool :=
  if decide (0x2000000 ≤ base ∧ base < 0x10000000) || decide (0xE10000 ≤ base ∧ base < 0x1000000) || (F.EVF_FENCE_RX_EV_CNT 0).at base then
    decide (s.cfg.tiles ≤ n)
  else if (F.PMU_CLU_REQ 0).at base || (F.PMU_NAP_REQ 0).at base then decide (s.clusters ≤ n)
  else base == 0x180 && decide (s.cfg.tiles ≤ 8 * n)

/-- A counter window (16, Counter windows). -/
structure CtrWin where
  key : Nat
  op : Nat
  /-- Physical tile of a local counter. -/
  tile : Option Nat
  deriving DecidableEq, Repr

/-- The counter window at an offset. -/
def ctrWin (o : Nat) : Option CtrWin :=
  if 0x1020000 ≤ o ∧ o < 0x1040000 then some ⟨(o - 0x1020000) / 4, 0, none⟩
  else if 0x1040000 ≤ o ∧ o < 0x1060000 then some ⟨(o - 0x1040000) / 4, 1, none⟩
  else if 0x1060000 ≤ o ∧ o < 0x10C0000 then
    let n := (o - 0x1060000) / 0x800
    some ⟨localKey n ((o - 0x1060000) % 0x800 / 4), 0, some n⟩
  else if 0x10C0000 ≤ o ∧ o < 0x1120000 then
    let n := (o - 0x10C0000) / 0x800
    some ⟨localKey n ((o - 0x10C0000) % 0x800 / 4), 1, some n⟩
  else none

/-- Registers of RAS regions without a scrubber: they read zero and take no write, and nothing is logged (21, RAS_SCRUB_r). -/
def quietReg (key : Nat) : Bool := decide (0x1600040 ≤ key ∧ key < 0x16000D8)

/-- Key of offset `off` of function `pf`. -/
def regKey (pf : Bool) (off : Nat) : Nat := if pf then off + 0x10000000 else off

/-- Why an access of `agent` to `key` is not served, before its writers are looked at: not one aligned word (R727), no register
(R731), not reached (R750), domain off (R731). (DEDUCED, log entry 16) -/
def accessCause (agent : Agent) (whole : Bool) (key : Nat) (s : State) : Option ErrCause :=
  if !whole || decide (key % 4 ≠ 0) then some .width
  else match ctrWin key with
  | some w =>
    if w.tile.any (fun n => decide (s.cfg.tiles ≤ n)) then some .unmapped
    else if (agent == .host && !reachAll s) || !s.fabOn then some .domainOff else none
  | none =>
    match regRow key with
    | none => some .unmapped
    | some r =>
      let ix := (r.index key).getD []
      if absentReg s r.base (ix.headD 0) then some .unmapped
      else if (agent == .host && !hostReaches s key) || !s.regOn r.dom ix then some .domainOff else none

/-! ### What a read returns -/

/-- Put a view into a field. -/
def view (f : Fld) (v w : Nat) : Nat := putBits w f.hi f.lo v

/-- Sources of HOST_INT_N now active (R747). -/
def sideActive (s : State) : Nat :=
  b2n (s.stage == 5) + 2 * b2n (s.get F.HST_NTFQ_HEAD != s.get F.HST_NTFQ_TAIL)
  + 4 * b2n (s.flag F.PMU_QUENCH_ACTIVE || s.pins.trip) + 8 * b2n (!s.flag F.HST_LINK_UP)

/-- Two entries of a substitution table in the layout of CIM_TS_SUBST. -/
def substWord (b : Bank) (w : Nat) : Nat :=
  let e := b.subst.getD (2 * w) (0, 0)
  let f := b.subst.getD (2 * w + 1) (0, 0)
  e.1 + e.2 * 2 ^ 8 + f.1 * 2 ^ 16 + f.2 * 2 ^ 24

/-- The code of a bank's state. -/
def BankState.code : BankState → Nat
  | .invalid => 0 | .programming => 1 | .valid => 2

/-- Views of the CIM block of tile `n`, array `a`; `w` is the last index. -/
def cimView (s : State) (base n a w old : Nat) : Nat :=
  let x := s.arr n a
  if (F.CIM_A_BANK_CB 0 0).at base then b2n x.cb + x.a.state.code * 2 + x.b.state.code * 8
  else if (F.CIM_A_SEAL_A 0 0).at base then x.a.tag.getD 0
  else if (F.CIM_A_SEAL_B 0 0).at base then x.b.tag.getD 0
  else if (F.CIM_A_PCNT_A 0 0).at base then x.a.count % 65536 + x.b.count % 65536 * 65536
  else if (F.CIM_A_FAILED_A 0 0).at base then min 255 x.a.failed.length + min 255 x.b.failed.length * 256
  else if (F.CIM_TS_SUBST_A_PAIR0 0 0 0).at base then substWord x.a w
  else if (F.CIM_TS_SUBST_B_PAIR0 0 0 0).at base then substWord x.b w
  else if (F.CIM_TS_STAMP_A 0 0).at base then x.a.stamp % 65536 + x.b.stamp % 65536 * 65536
  else old

/-- Views of the sequencer and the neuron engine of tile `n`; STATE shows HALTED once the scoreboard is empty (R371).
(DEDUCED, log entry 54) -/
def seqView (s : State) (base n i old : Nat) : Nat :=
  let q := s.seq n
  if (F.TILE_SEQ_STAT_STATE 0).at base then
    let st := if s.get (F.TILE_SEQ_STAT_STATE n) = 0 ∧ !tileHalted s n then 1 else s.get (F.TILE_SEQ_STAT_STATE n)
    view (F.TILE_SEQ_STAT_EXL n) (b2n q.exl) (view (F.TILE_SEQ_STAT_STATE n) st old)
  else if (F.TILE_SEQ_PC 0).at base then q.pc % 0x4000
  else if (F.TILE_SEQ_EPC 0).at base then q.epc.toNat
  else if (F.TILE_SEQ_ESTAT 0).at base then q.estat.toNat
  else if (F.TILE_SEQ_EBAD 0).at base then q.ebad.toNat
  else if (F.TILE_SEQ_MPROG 0).at base then q.mprog.toNat
  else if (F.TILE_SEQ_SSTAT 0).at base then seqStat s n
  else if (F.NE_STAT_BUSY 0).at base then
    let e := s.ne n
    view (F.NE_STAT_BUSY n) (b2n (!(e.queue.isEmpty && e.outq.isEmpty && !e.sweeping && e.resets.isEmpty))) old
  else if (F.NE_RING8 0 0).at base then (s.ne n).horizon.getD i 0 % 2 ^ 32
  else old

/-- Registers that show what stands elsewhere in State: the word, given the stored one. -/
def viewed (s : State) (base : Nat) (ix : List Nat) (old : Nat) : Nat :=
  let n := ix.getD 0 0
  if base < 0x800000 then
    (if F.GLB_PART.at base then (if s.cfg.tiles = 128 then 0x6128 else 0x6192)
    else if (F.NET_P_CFG_EN 0).at base && fecOn s n then view (F.NET_P_CFG_FEC n) 1 old else old)
  else if base < 0xE00000 then
    (if (F.JXL_P_BUF 0).at base then (s.jp n).buf.length
    else if F.SITE_GPIO_IN.at base then
      (List.range 24).foldl (fun w i =>
        w + 2 ^ i * b2n (bitOf (if bitOf (s.get F.SITE_GPIO_DIR) i then s.get F.SITE_GPIO_OUT else s.pins.gpio) i)) 0
    else if F.SITE_ALM_STATE.at base then
      (List.range 8).foldl (fun w i => w + 2 ^ i * b2n (bitOf s.pins.alarm i == bitOf (s.get F.SITE_ALM_CFG_POL) i)) 0
    else if F.SEE_FIFO_OCC.at base then view F.SEE_FIFO_OCC (ceilDiv (fifoBytes s) 64) old
    else if (F.SEE_F_STAT_OPEN 0).at base then (s.flow n).opens.length + (s.flow n).evq.length * 2 ^ 16
    else old)
  else if base < 0x1000000 then s.late.foldl (fun w e => if e.1.off = base + n * 0x40 then view e.1 e.2 w else w) old
  else if base < 0x2000000 then
    (if (F.SYNC_MB_RDY 0).at base then
      (List.range 32).foldl (fun w i => w + 2 ^ i * b2n (s.slot (32 * n + i)).ready) 0
    else if F.LDL_STAT_INFLIGHT.at base then
      s.ladle.xfers.length + (s.ladle.xfers.map (fun x => x.stg.length)).sum * 2 ^ 16
    else if F.HST_SIDE_EN.at base then view F.HST_SIDE_ACTIVE (sideActive s) old
    else old)
  else if base < 0x2002000 then seqView s base n (ix.getD 1 0) old
  else if base < 0x2009000 then cimView s base n (ix.getD 1 0) (ix.getD 2 0) old
  else if F.PF1_BENCH_CTL_ABSENT.at base then view F.PF1_BENCH_CTL_ABSENT (b2n (!benchPresent s)) old
  else if F.PF1_TM_CTL_ABSENT.at base then view F.PF1_TM_CTL_ABSENT (b2n (!tmPresent s)) old
  else old

/-- The word that a read of the register of row `r` at `key` returns. -/
def readAt (s : State) (r : RegRow) (ix : List Nat) (key : Nat) : Nat :=
  readWord r.fields (viewed s r.base ix (s.reg key).toNat % 2 ^ 32)

/-- A read of a register: RC fields clear (R18), TSB_SNAP_SEC_LO takes its snapshot first (02 R76), a vector window answers while the
sequencer is HALTED (14 R578). -/
def regRead (agent : Agent) (r : RegRow) (ix : List Nat) (key : Nat) (s : State) : State :=
  let n := ix.getD 0 0
  let win := if r.dom = .clu then veWin (key % 0x10000) else none
  match win with
  | some w =>
    if tileHalted s n then s.emit (.read agent key (veRead s n w)) else (s.raise (F.VE_STAT_REFUSED n)).emit (.read agent key 0)
  | none =>
    let s := if key = F.TSB_SNAP_SEC_LO.off then snapshot s else s
    let v := BitVec.ofNat 32 (readAt s r ix key)
    (s.setReg key (BitVec.ofNat 32 (afterRead r.fields (s.reg key).toNat))).emit (.read agent key v)

/-- A read through a counter window: a poisoned counter answers with its mark, and is counted (R652). -/
def ctrRead (agent : Agent) (key : Nat) (w : CtrWin) (s : State) : State :=
  let v := BitVec.ofNat 32 (ctrOf s w.key)
  if s.sync.poison.contains w.key then (s.inc F.SYNC_POISON).emit (.read agent key v true) else s.emit (.read agent key v)

/-! ### The rows -/

/-- A host access arrives while the link can carry it: HST is on (R750). (DEDUCED, log entry 17) -/
def arrives (agent : Agent) (s : State) : Bool := agent != .host || s.hstOn

/-- Row REGISTER_WRITE: `agent` writes `data` at offset `off` of BAR0 of function 0 or (`pf`) 1; `whole` says that the access is one
32-bit word with all byte enables set. -/
def execRegisterWrite (agent : Agent) (pf : Bool) (off : Nat) (whole : Bool) (data : Word) (s : State) : Res :=
  let key := regKey pf off
  .next (if !arrives agent s then s
  else match accessCause agent whole key s with
  | some c => if quietReg key && c = .unmapped then s else s.logErr agent (b2n pf) 0 off true c
  | none =>
    match ctrWin key with
    | some w =>
      windowWrite agent off (match w.tile with | some _ => s.flag F.SYNC_HOSTWR_LOCAL_EN | none => hostMayGlobal s w.key) w.key w.op data s
    | none =>
      match regRow key with
      | none => s
      | some r =>
        if r.writers.allows agent then regWrite agent r ((r.index key).getD []) key data.toNat s
        else s.logErr agent (b2n pf) 0 off true .notWriter)

/-- Row REGISTER_READ: `agent` reads the word at offset `off` of BAR0 of function 0 or (`pf`) 1. (DEDUCED, log entry 101) -/
def execRegisterRead (agent : Agent) (pf : Bool) (off : Nat) (whole : Bool) (s : State) : Res :=
  let key := regKey pf off
  .next (if !arrives agent s then s
  else match accessCause agent whole key s with
  | some c =>
    if quietReg key && c = .unmapped then s.emit (.read agent key 0)
    else (s.logErr agent (b2n pf) 0 off false c).emit (.read agent key 0)
  | none =>
    match ctrWin key with
    | some w => ctrRead agent key w s
    | none =>
      match regRow key with
      | none => s
      | some r => regRead agent r ((r.index key).getD []) key s)

end Sys2Proof.Machine
end

