-- ==== Sys2Proof/Machine/SeqAlu.lean ====
section
/-!
DEFINITION. Sys2Proof/Machine/SeqAlu.lean: scalar ALU, immediates, predicates, and the scoreboarded multiply and divide
(10 R377 to R383).
-/

namespace Sys2Proof.Machine

/-- d = f a b (R377). -/
def alu2 (n : Nat) (gd : Guard) (d a b : Nat) (f : Word → Word → Word) (s : State) : Res :=
  seqInstr n gd [a, b] [d] (fun q => q.wr d (f (q.rd a) (q.rd b))) s

/-- d = f a (R377, R380). -/
def alu1 (n : Nat) (gd : Guard) (d a : Nat) (f : Word → Word) (s : State) : Res :=
  seqInstr n gd [a] [d] (fun q => q.wr d (f (q.rd a))) s

/-- 1 or 0. -/
def boolWord (b : Bool) : Word := if b then 1 else 0

/-- The word of an integer saturated to int32 (ADDS, SUBS). -/
def satWord (x : Int) : Word := BitVec.ofInt 32 (satS 32 x)

/-- Leading zero bits (CLZ). -/
def clz (a : Word) : Nat := ((List.range 32).takeWhile (fun i => !a.getLsbD (31 - i))).length

/-- One bits (POPC). -/
def popc (a : Word) : Nat := ((List.range 32).filter a.getLsbD).length

/-- Row ALU_ADD. -/
def execAluAdd (tile : Nat) (gd : Guard) (d a b : Nat) (s : State) : Res := alu2 tile gd d a b (· + ·) s
/-- Row ALU_SUB. -/
def execAluSub (tile : Nat) (gd : Guard) (d a b : Nat) (s : State) : Res := alu2 tile gd d a b (· - ·) s
/-- Row ALU_AND. -/
def execAluAnd (tile : Nat) (gd : Guard) (d a b : Nat) (s : State) : Res := alu2 tile gd d a b (· &&& ·) s
/-- Row ALU_OR. -/
def execAluOr (tile : Nat) (gd : Guard) (d a b : Nat) (s : State) : Res := alu2 tile gd d a b (· ||| ·) s
/-- Row ALU_XOR. -/
def execAluXor (tile : Nat) (gd : Guard) (d a b : Nat) (s : State) : Res := alu2 tile gd d a b (· ^^^ ·) s
/-- Row ALU_ANDN. -/
def execAluAndn (tile : Nat) (gd : Guard) (d a b : Nat) (s : State) : Res := alu2 tile gd d a b (fun x y => x &&& ~~~y) s
/-- Row ALU_SLL. -/
def execAluSll (tile : Nat) (gd : Guard) (d a b : Nat) (s : State) : Res :=
  alu2 tile gd d a b (fun x y => x <<< (y.toNat % 32)) s
/-- Row ALU_SRL. -/
def execAluSrl (tile : Nat) (gd : Guard) (d a b : Nat) (s : State) : Res :=
  alu2 tile gd d a b (fun x y => x >>> (y.toNat % 32)) s
/-- Row ALU_SRA. -/
def execAluSra (tile : Nat) (gd : Guard) (d a b : Nat) (s : State) : Res :=
  alu2 tile gd d a b (fun x y => x.sshiftRight (y.toNat % 32)) s
/-- Row ALU_SLT. -/
def execAluSlt (tile : Nat) (gd : Guard) (d a b : Nat) (s : State) : Res := alu2 tile gd d a b (fun x y => boolWord (x.slt y)) s
/-- Row ALU_SLTU. -/
def execAluSltu (tile : Nat) (gd : Guard) (d a b : Nat) (s : State) : Res := alu2 tile gd d a b (fun x y => boolWord (x.ult y)) s
/-- Row ALU_MIN. -/
def execAluMin (tile : Nat) (gd : Guard) (d a b : Nat) (s : State) : Res := alu2 tile gd d a b (fun x y => if x.slt y then x else y) s
/-- Row ALU_MAX. -/
def execAluMax (tile : Nat) (gd : Guard) (d a b : Nat) (s : State) : Res := alu2 tile gd d a b (fun x y => if x.slt y then y else x) s
/-- Row ALU_MINU. -/
def execAluMinu (tile : Nat) (gd : Guard) (d a b : Nat) (s : State) : Res := alu2 tile gd d a b (fun x y => if x.ult y then x else y) s
/-- Row ALU_MAXU. -/
def execAluMaxu (tile : Nat) (gd : Guard) (d a b : Nat) (s : State) : Res := alu2 tile gd d a b (fun x y => if x.ult y then y else x) s
/-- Row ALU_ADDS. -/
def execAluAdds (tile : Nat) (gd : Guard) (d a b : Nat) (s : State) : Res :=
  alu2 tile gd d a b (fun x y => satWord (x.toInt + y.toInt)) s
/-- Row ALU_SUBS. -/
def execAluSubs (tile : Nat) (gd : Guard) (d a b : Nat) (s : State) : Res :=
  alu2 tile gd d a b (fun x y => satWord (x.toInt - y.toInt)) s
/-- Row ALU_CLZ. -/
def execAluClz (tile : Nat) (gd : Guard) (d a : Nat) (s : State) : Res := alu1 tile gd d a (fun x => BitVec.ofNat 32 (clz x)) s
/-- Row ALU_POPC. -/
def execAluPopc (tile : Nat) (gd : Guard) (d a : Nat) (s : State) : Res := alu1 tile gd d a (fun x => BitVec.ofNat 32 (popc x)) s
/-- Row ALU_SEXTB. -/
def execAluSextb (tile : Nat) (gd : Guard) (d a : Nat) (s : State) : Res := alu1 tile gd d a (fun x => (x.truncate 8).signExtend 32) s
/-- Row ALU_SEXTH. -/
def execAluSexth (tile : Nat) (gd : Guard) (d a : Nat) (s : State) : Res := alu1 tile gd d a (fun x => (x.truncate 16).signExtend 32) s

/-! ### Multiply and divide: through the scoreboard (R326, R379) -/

/-- A new scoreboard entry. -/
def Seq.owe (q : Seq) (dst : Nat) (v : Option Word) (isDiv isWait : Bool) : Seq :=
  { q with sb := q.sb ++ [⟨q.tag, dst, v, isDiv, isWait⟩], tag := (q.tag + 1) % 256 }

/-- d = f a b through the scoreboard; one divide at a time (R326, R379). -/
def aluLong (n : Nat) (gd : Guard) (d a b : Nat) (isDiv : Bool) (f : Word → Word → Word) (s : State) : Res :=
  .next (instr n gd [a, b] [d] none id (fun s =>
    let q := s.seq n
    if 64 ≤ q.sb.length ∨ (isDiv ∧ q.sb.any (·.isDiv)) then .stall
    else .done (s.setSeq n (q.owe d (some (f (q.rd a) (q.rd b))) isDiv false))) s)

/-- Row ALU_MUL. -/
def execAluMul (tile : Nat) (gd : Guard) (d a b : Nat) (s : State) : Res := aluLong tile gd d a b false (· * ·) s
/-- Row ALU_MULH. -/
def execAluMulh (tile : Nat) (gd : Guard) (d a b : Nat) (s : State) : Res :=
  aluLong tile gd d a b false (fun x y => BitVec.ofInt 32 (x.toInt * y.toInt / 2 ^ 32)) s
/-- Row ALU_MULHU. -/
def execAluMulhu (tile : Nat) (gd : Guard) (d a b : Nat) (s : State) : Res :=
  aluLong tile gd d a b false (fun x y => BitVec.ofNat 32 (x.toNat * y.toNat / 2 ^ 32)) s
/-- Row ALU_DIV (R378): by zero all ones; the overflow wraps to 0x8000_0000. -/
def execAluDiv (tile : Nat) (gd : Guard) (d a b : Nat) (s : State) : Res :=
  aluLong tile gd d a b true (fun x y => if y = 0 then 0xFFFFFFFF else BitVec.ofInt 32 (x.toInt.tdiv y.toInt)) s
/-- Row ALU_DIVU (R378). -/
def execAluDivu (tile : Nat) (gd : Guard) (d a b : Nat) (s : State) : Res :=
  aluLong tile gd d a b true (fun x y => if y = 0 then 0xFFFFFFFF else x / y) s
/-- Row ALU_REM (R378). -/
def execAluRem (tile : Nat) (gd : Guard) (d a b : Nat) (s : State) : Res :=
  aluLong tile gd d a b true (fun x y => if y = 0 then x else BitVec.ofInt 32 (x.toInt.tmod y.toInt)) s
/-- Row ALU_REMU (R378). -/
def execAluRemu (tile : Nat) (gd : Guard) (d a b : Nat) (s : State) : Res :=
  aluLong tile gd d a b true (fun x y => if y = 0 then x else x % y) s

/-- Row SCOREBOARD_COMPLETE (R326): the multiply or divide result at place `index` writes its destination. -/
def execScoreboardComplete (tile index : Nat) (s : State) : Res :=
  .next (match (s.seq tile).sb[index]? with
  | some { dst := d, value := some v, .. } =>
    let q := s.seq tile
    s.setSeq tile ({ q with sb := q.sb.eraseIdx index }.land d v)
  | _ => s)

/-! ### Immediates (R380) -/

/-- Row ADDI. -/
def execAddi (tile : Nat) (gd : Guard) (d a : Nat) (imm : BitVec 12) (s : State) : Res :=
  alu1 tile gd d a (· + imm.signExtend 32) s
/-- Row ANDI. -/
def execAndi (tile : Nat) (gd : Guard) (d a : Nat) (imm : BitVec 12) (s : State) : Res :=
  alu1 tile gd d a (· &&& imm.setWidth 32) s
/-- Row ORI. -/
def execOri (tile : Nat) (gd : Guard) (d a : Nat) (imm : BitVec 12) (s : State) : Res :=
  alu1 tile gd d a (· ||| imm.setWidth 32) s
/-- Row XORI. -/
def execXori (tile : Nat) (gd : Guard) (d a : Nat) (imm : BitVec 12) (s : State) : Res :=
  alu1 tile gd d a (· ^^^ imm.setWidth 32) s
/-- Row SHI_SLL. -/
def execShiSll (tile : Nat) (gd : Guard) (d a : Nat) (sh : BitVec 5) (s : State) : Res := alu1 tile gd d a (· <<< sh.toNat) s
/-- Row SHI_SRL. -/
def execShiSrl (tile : Nat) (gd : Guard) (d a : Nat) (sh : BitVec 5) (s : State) : Res := alu1 tile gd d a (· >>> sh.toNat) s
/-- Row SHI_SRA. -/
def execShiSra (tile : Nat) (gd : Guard) (d a : Nat) (sh : BitVec 5) (s : State) : Res :=
  alu1 tile gd d a (·.sshiftRight sh.toNat) s
/-- Row LI. -/
def execLi (tile : Nat) (gd : Guard) (d : Nat) (imm : BitVec 17) (s : State) : Res :=
  seqInstr tile gd [] [d] (fun q => q.wr d (imm.signExtend 32)) s
/-- Row LIH: d is also a source. -/
def execLih (tile : Nat) (gd : Guard) (d : Nat) (imm : BitVec 16) (s : State) : Res :=
  seqInstr tile gd [d] [d] (fun q => q.wr d (imm ++ (q.rd d).truncate 16)) s

/-! ### Predicates (R381 to R383) -/

/-- The conditions of R381; codes above 7 are undefined (R374). -/
def condition (cc : Nat) (a b : Word) : Bool :=
  match cc with
  | 0 => a == b
  | 1 => a != b
  | 2 => a.slt b
  | 3 => !a.slt b
  | 4 => a.ult b
  | 5 => !a.ult b
  | 6 => (a &&& b) != 0
  | _ => (a &&& b) == 0

/-- A compare; a condition code above 7 is ILLEGAL (R374). -/
def compare (n : Nat) (gd : Guard) (pd cc : Nat) (reads : List Nat) (word : Word) (f : Seq → Bool) (s : State) : Res :=
  .next (instr n gd reads [pCode pd] (if 7 < cc then some word else none) id
    (fun s => .done (s.setSeq n ((s.seq n).wrP pd (f (s.seq n))))) s)

/-- Row CMP. -/
def execCmp (tile : Nat) (gd : Guard) (pd cc a b : Nat) (s : State) : Res :=
  compare tile gd pd cc [a, b] (wordOf gd 0x08 (pd * 2 ^ 19 + cc * 2 ^ 15 + a * 2 ^ 10 + b * 2 ^ 5))
    (fun q => condition cc (q.rd a) (q.rd b)) s
/-- Row CMPI. -/
def execCmpi (tile : Nat) (gd : Guard) (pd cc a : Nat) (imm : BitVec 10) (s : State) : Res :=
  compare tile gd pd cc [a] (wordOf gd 0x09 (pd * 2 ^ 19 + cc * 2 ^ 15 + a * 2 ^ 10 + imm.toNat))
    (fun q => condition cc (q.rd a) (imm.signExtend 32)) s

/-- PLOG with a function of two optionally negated predicates (R382). -/
def plog (n : Nat) (gd : Guard) (pd pa pb : Nat) (na nb : Bool) (f : Bool → Bool → Bool) (s : State) : Res :=
  seqInstr n gd [pCode pa, pCode pb] [pCode pd] (fun q => q.wrP pd (f (q.rdP pa ^^ na) (q.rdP pb ^^ nb))) s

/-- Row PLOG_AND. -/
def execPlogAnd (tile : Nat) (gd : Guard) (pd pa pb : Nat) (na nb : Bool) (s : State) : Res := plog tile gd pd pa pb na nb (· && ·) s
/-- Row PLOG_OR. -/
def execPlogOr (tile : Nat) (gd : Guard) (pd pa pb : Nat) (na nb : Bool) (s : State) : Res := plog tile gd pd pa pb na nb (· || ·) s
/-- Row PLOG_XOR. -/
def execPlogXor (tile : Nat) (gd : Guard) (pd pa pb : Nat) (na nb : Bool) (s : State) : Res := plog tile gd pd pa pb na nb (· ^^ ·) s
/-- Row PLOG_SET. -/
def execPlogSet (tile : Nat) (gd : Guard) (pd : Nat) (v : Bool) (s : State) : Res :=
  seqInstr tile gd [] [pCode pd] (fun q => q.wrP pd v) s

/-- The predicates as a word, p0 reading 1 (R383). -/
def Seq.predWord (q : Seq) : Nat := ((List.range 8).map (fun i => b2n (q.rdP i) * 2 ^ i)).sum

/-- Row MFP. -/
def execMfp (tile : Nat) (gd : Guard) (r : Nat) (s : State) : Res :=
  seqInstr tile gd ((List.range 8).map pCode) [r] (fun q => q.wr r (BitVec.ofNat 32 q.predWord)) s

/-- Row MTP: MASK bits 7 to 1. -/
def execMtp (tile : Nat) (gd : Guard) (r : Nat) (mask : BitVec 7) (s : State) : Res :=
  let ps := ((List.range 8).drop 1).filter (fun i => mask.getLsbD (i - 1))
  seqInstr tile gd [r] (ps.map pCode) (fun q => ps.foldl (fun q i => q.wrP i ((q.rd r).getLsbD i)) q) s

end Sys2Proof.Machine
end

