-- ==== Sys2Proof/Machine/SeqBranch.lean ====
section
/-!
DEFINITION. Sys2Proof/Machine/SeqBranch.lean: branches, jumps, calls and loops (10 R388 to R390).
-/

namespace Sys2Proof.Machine

/-- R331, R336, R390: a branch in a delay slot or at the end of an active loop level is ILLEGAL. (DEDUCED, log entry 53) -/
def branchIllegal (s : State) (n : Nat) (w : Word) : Option Word :=
  let q := s.seq n
  if q.delay.isSome ∨ q.atLoopEnd q.pc then some w else none

/-- A branch or jump: `target` gives where it goes when its guard and its condition hold; `link` is a link register. A false
guard does not take it, and its delay slot executes (R316, R331). -/
def branch (n : Nat) (gd : Guard) (reads : List Nat) (link : Option Nat) (w : Word) (target : Seq → Option Nat) (s : State) : Res :=
  let regs := pCode gd.p :: reads
  .next (instr n { } regs link.toList (branchIllegal s n w) id (fun s =>
    let q := s.seq n
    if !q.holds gd then .placed (retireBranch n none regs s)
    else
      let t := target q
      let q := match link with
        | some d => q.wr d (BitVec.ofNat 32 (q.pc + 8))
        | none => q
      .placed (retireBranch n t regs (s.setSeq n q))) s)

/-- PC + 4 × sext(disp12), modulo 0x4000 (R388). -/
def dispTarget (q : Seq) (disp : BitVec 12) : Nat := (((q.pc : Int) + 4 * disp.toInt) % 0x4000).toNat

/-- A conditional branch (R388). -/
def condBranch (op n : Nat) (gd : Guard) (a b : Nat) (disp : BitVec 12) (c : Word → Word → Bool) (s : State) : Res :=
  branch n gd [a, b] none (wordOf gd op (a * 2 ^ 17 + b * 2 ^ 12 + disp.toNat))
    (fun q => if c (q.rd a) (q.rd b) then some (dispTarget q disp) else none) s

/-- Row BEQ. -/
def execBeq (tile : Nat) (gd : Guard) (a b : Nat) (disp : BitVec 12) (s : State) : Res := condBranch 0x20 tile gd a b disp (· == ·) s
/-- Row BNE. -/
def execBne (tile : Nat) (gd : Guard) (a b : Nat) (disp : BitVec 12) (s : State) : Res := condBranch 0x21 tile gd a b disp (· != ·) s
/-- Row BLT. -/
def execBlt (tile : Nat) (gd : Guard) (a b : Nat) (disp : BitVec 12) (s : State) : Res :=
  condBranch 0x22 tile gd a b disp (fun x y => x.slt y) s
/-- Row BGE. -/
def execBge (tile : Nat) (gd : Guard) (a b : Nat) (disp : BitVec 12) (s : State) : Res :=
  condBranch 0x23 tile gd a b disp (fun x y => !x.slt y) s
/-- Row BLTU. -/
def execBltu (tile : Nat) (gd : Guard) (a b : Nat) (disp : BitVec 12) (s : State) : Res :=
  condBranch 0x24 tile gd a b disp (fun x y => x.ult y) s
/-- Row BGEU. -/
def execBgeu (tile : Nat) (gd : Guard) (a b : Nat) (disp : BitVec 12) (s : State) : Res :=
  condBranch 0x25 tile gd a b disp (fun x y => !x.ult y) s
/-- Row BR. -/
def execBr (tile : Nat) (gd : Guard) (disp : BitVec 12) (s : State) : Res :=
  branch tile gd [] none (wordOf gd 0x26 disp.toNat) (fun q => some (dispTarget q disp)) s
/-- Row J. -/
def execJ (tile : Nat) (gd : Guard) (target : BitVec 12) (s : State) : Res :=
  branch tile gd [] none (wordOf gd 0x27 target.toNat) (fun _ => some (4 * target.toNat)) s
/-- Row CALL. -/
def execCall (tile : Nat) (gd : Guard) (d : Nat) (target : BitVec 12) (s : State) : Res :=
  branch tile gd [] (some d) (wordOf gd 0x28 (d * 2 ^ 17 + target.toNat)) (fun _ => some (4 * target.toNat)) s
/-- Row JR. -/
def execJr (tile : Nat) (gd : Guard) (a : Nat) (s : State) : Res :=
  branch tile gd [a] none (wordOf gd 0x29 (a * 2 ^ 12)) (fun q => some ((q.rd a).toNat % 0x4000 / 4 * 4)) s
/-- Row CALLR: a is read before d is written. -/
def execCallr (tile : Nat) (gd : Guard) (d a : Nat) (s : State) : Res :=
  branch tile gd [a] (some d) (wordOf gd 0x2A (d * 2 ^ 17 + a * 2 ^ 12)) (fun q => some ((q.rd a).toNat % 0x4000 / 4 * 4)) s

/-- R333, R337, R389, R390: when a LOOP is ILLEGAL: level 3, a delay slot, a handler, an end before the start, a level in
use. The last two hold for every LOOP, whatever its guard. (DEDUCED, log entry 53) -/
def loopIllegal (q : Seq) (k ende : Nat) : Bool :=
  decide (3 ≤ k) || q.delay.isSome || q.exl || decide (ende < (q.pc + 4) % 0x4000) || q.lc.getD k 0 ≠ 0

/-- Row LOOP (R333, R389). (DEDUCED, log entry 53) -/
def execLoop (tile : Nat) (gd : Guard) (k a : Nat) (endw : BitVec 12) (s : State) : Res :=
  let w := wordOf gd 0x2C (k * 2 ^ 19 + a * 2 ^ 12 + endw.toNat)
  .next (instr tile gd [a] [] (if loopIllegal (s.seq tile) k (4 * endw.toNat) then some w else none) id (fun s =>
    let q := s.seq tile
    let count := (q.rd a).toNat
    let next := (q.pc + 4) % 0x4000
    let q' := { q with la := q.la.set k next, le := q.le.set k (4 * endw.toNat), lc := q.lc.set k count }
    if count = 0 then
      .placed (countRetired tile (s.setSeq tile { q'.shadow with pc := (4 * endw.toNat + 4) % 0x4000 }))
    else .done (s.setSeq tile q')) s)

end Sys2Proof.Machine
end

