-- ==== Sys2Proof/Machine/SeqMem.lean ====
section
/-!
DEFINITION. Sys2Proof/Machine/SeqMem.lean: loads, stores and instruction-memory access (10 R385 to R387).
-/

namespace Sys2Proof.Machine

/-- The address a + sext(imm12) (R385). -/
def effAddr (q : Seq) (a : Nat) (imm : BitVec 12) : Word := q.rd a + imm.signExtend 32

/-- A load of `size` bytes, extended by `ext` (R385). A poisoned word raises POISON (R367). -/
def load (n : Nat) (gd : Guard) (d a : Nat) (imm : BitVec 12) (size : Nat) (ext : Nat → Word) (s : State) : Res :=
  .next (instr n gd [a] [d] none id (fun s =>
    let q := s.seq n
    let ad := effAddr q a imm
    match accessFault ad.toNat size with
    | some c => .exc s c ad
    | none =>
      if (s.tile n).bad ad.toNat size then .exc s 6 ad
      else .done (s.setSeq n (q.wr d (ext ((s.tile n).nat ad.toNat size))))) s)

/-- Row LB. -/
def execLb (tile : Nat) (gd : Guard) (d a : Nat) (imm : BitVec 12) (s : State) : Res :=
  load tile gd d a imm 1 (fun v => (BitVec.ofNat 8 v).signExtend 32) s
/-- Row LBU. -/
def execLbu (tile : Nat) (gd : Guard) (d a : Nat) (imm : BitVec 12) (s : State) : Res := load tile gd d a imm 1 (BitVec.ofNat 32) s
/-- Row LH. -/
def execLh (tile : Nat) (gd : Guard) (d a : Nat) (imm : BitVec 12) (s : State) : Res :=
  load tile gd d a imm 2 (fun v => (BitVec.ofNat 16 v).signExtend 32) s
/-- Row LHU. -/
def execLhu (tile : Nat) (gd : Guard) (d a : Nat) (imm : BitVec 12) (s : State) : Res := load tile gd d a imm 2 (BitVec.ofNat 32) s
/-- Row LW. -/
def execLw (tile : Nat) (gd : Guard) (d a : Nat) (imm : BitVec 12) (s : State) : Res := load tile gd d a imm 4 (BitVec.ofNat 32) s

/-- A store of `size` bytes (R385, R386): never POISON; a poisoned line stays poisoned. -/
def store (n : Nat) (gd : Guard) (src a : Nat) (imm : BitVec 12) (size : Nat) (s : State) : Res :=
  .next (instr n gd [src, a] [] none id (fun s =>
    let q := s.seq n
    let ad := effAddr q a imm
    match accessFault ad.toNat size with
    | some c => .exc s c ad
    | none => .done (s.setTile n ((s.tile n).store ad.toNat (leBytes size (q.rd src).toNat)))) s)

/-- Row SB. -/
def execSb (tile : Nat) (gd : Guard) (src a : Nat) (imm : BitVec 12) (s : State) : Res := store tile gd src a imm 1 s
/-- Row SH. -/
def execSh (tile : Nat) (gd : Guard) (src a : Nat) (imm : BitVec 12) (s : State) : Res := store tile gd src a imm 2 s
/-- Row SW. -/
def execSw (tile : Nat) (gd : Guard) (src a : Nat) (imm : BitVec 12) (s : State) : Res := store tile gd src a imm 4 s

/-- R387: ALIGN, then ADDR, of an instruction-memory address. -/
def imemFault (a : Nat) : Option Nat := if a % 4 ≠ 0 then some 4 else if 0x4000 ≤ a then some 5 else none

/-- Row RDI (R387). -/
def execRdi (tile : Nat) (gd : Guard) (d a : Nat) (imm : BitVec 12) (s : State) : Res :=
  .next (instr tile gd [a] [d] none id (fun s =>
    let q := s.seq tile
    let ad := effAddr q a imm
    match imemFault ad.toNat with
    | some c => .exc s c ad
    | none =>
      if (s.tile tile).ipoison.contains (ad.toNat / 8) then .exc s 6 ad
      else .done (s.setSeq tile (q.wr d (BitVec.ofNat 32 (memNat (s.tile tile).imem ad.toNat 4))))) s)

/-- Row STI (R328, R329, R387): `held` says that a fetched copy of the word is held when the STI reaches W. A word already
fetched executes as fetched: a command carries the fields of the copy that executes. -/
def execSti (tile : Nat) (gd : Guard) (src a : Nat) (imm : BitVec 12) (held : Bool) (s : State) : Res :=
  .next (instr tile gd [src, a] [] none id (fun s =>
    let q := s.seq tile
    let ad := effAddr q a imm
    match imemFault ad.toNat with
    | some c => .exc s c ad
    | none =>
      let t := s.tile tile
      .done (s.setTile tile { t with imem := memPutBytes t.imem ad.toNat (leBytes 4 (q.rd src).toNat),
                                     seq := { q with imodHit := q.imodHit || held } })) s)

end Sys2Proof.Machine
end

