-- ==== Sys2Proof/Machine/SeqSync.lean ====
section
/-!
DEFINITION. Sys2Proof/Machine/SeqSync.lean: the program's side of sync counters and event sends (10 R395 to R403, R419, R421).
-/

namespace Sys2Proof.Machine

/-- A SYN of operation `op` enters the sync queue; `dst` is the register code owed a result. It stalls while the queue, the
scoreboard or the eight waits are full (R326, R397). -/
def syn (n : Nat) (gd : Guard) (reads : List Nat) (dst : Option Nat) (op : Nat) (mk : Seq → SyncReq) (s : State) : Res :=
  .next (instr n gd reads dst.toList none id (fun s =>
    let q := s.seq n
    if 64 ≤ q.syncq.length then .stall
    else match dst with
    | none => .done (s.setSeq n { q with syncq := q.syncq ++ [mk q], unacked := q.unacked + 1 })
    | some d =>
      if 64 ≤ q.sb.length ∨ (op = 3 ∧ 8 ≤ (q.sb.filter (·.isWait)).length) then .stall
      else
        let r := { mk q with tag := q.tag, ret := true }
        .done (s.setSeq n { q.owe d none false (op == 3) with syncq := q.syncq ++ [r], unacked := q.unacked + 1 })) s)

/-- Row SYN_SET. -/
def execSynSet (tile : Nat) (gd : Guard) (a b : Nat) (s : State) : Res :=
  syn tile gd [a, b] none 0 (fun q => { handle := (q.rd a).toNat, op := 0, value := (q.rd b).toNat }) s
/-- Row SYN_ADD. -/
def execSynAdd (tile : Nat) (gd : Guard) (c a b : Nat) (ret : Bool) (s : State) : Res :=
  syn tile gd [a, b] (if ret then some c else none) 1 (fun q => { handle := (q.rd a).toNat, op := 1, value := (q.rd b).toNat }) s
/-- Row SYN_SUB. -/
def execSynSub (tile : Nat) (gd : Guard) (c a b : Nat) (ret : Bool) (s : State) : Res :=
  syn tile gd [a, b] (if ret then some c else none) 2 (fun q => { handle := (q.rd a).toNat, op := 2, value := (q.rd b).toNat }) s
/-- Row SYN_WAITGE: the timeout is g[c][23:0]. -/
def execSynWaitge (tile : Nat) (gd : Guard) (c a b pd : Nat) (s : State) : Res :=
  syn tile gd [a, b, c] (some (pCode pd)) 3
    (fun q => { handle := (q.rd a).toNat, op := 3, value := (q.rd b).toNat, timeout := (q.rd c).toNat % 2 ^ 24 }) s
/-- Row SYN_SIG. -/
def execSynSig (tile : Nat) (gd : Guard) (a : Nat) (s : State) : Res :=
  syn tile gd [a] none 4 (fun q => { handle := (q.rd a).toNat, op := 4, value := 0 }) s
/-- Row SYN_READ. -/
def execSynRead (tile : Nat) (gd : Guard) (c a : Nat) (s : State) : Res :=
  syn tile gd [a] (some c) 5 (fun q => { handle := (q.rd a).toNat, op := 5, value := 0 }) s

/-- What reading a list of `n` words from `a` raises: ALIGN, ADDR, POISON with the address. (DEDUCED, log entry 58) -/
def listFault (t : Tile) (a n align size : Nat) (top : Nat) : Option (Nat × Word) :=
  if a % align ≠ 0 then some (4, BitVec.ofNat 32 a)
  else if top < a + n * size then some (5, BitVec.ofNat 32 a)
  else match t.poison.filter (fun l => decide (a / 8 ≤ l) && decide (l * 8 < a + n * size)) with
  | [] => none
  | l :: _ => some (6, BitVec.ofNat 32 (max a (l * 8)))

/-- A SIGM of `count` handles (R421): atomic; it waits in D for room in the sync queue. (DEDUCED, log entry 58) -/
def sigm (n : Nat) (gd : Guard) (reads : List Nat) (a count : Nat) (mk : Seq → Nat → SyncReq) (s : State) : Res :=
  .next (instr n gd reads [] none id (fun s =>
    let q := s.seq n
    let t := s.tile n
    let ad := (q.rd a).toNat
    if 64 < q.syncq.length + count then .stall
    else match listFault t ad count 4 4 0xC000 with
    | some (c, e) => .exc s c e
    | none =>
      let rs := (List.range count).map (fun i => mk q (t.nat (ad + 4 * i) 4))
      .done (s.setSeq n { q with syncq := q.syncq ++ rs, unacked := q.unacked + count })) s)

/-- Row SIGM_ADD. -/
def execSigmAdd (tile : Nat) (gd : Guard) (a b : Nat) (count : BitVec 5) (s : State) : Res :=
  sigm tile gd [a, b] a (count.toNat + 1) (fun q h => { handle := h, op := 1, value := (q.rd b).toNat }) s
/-- Row SIGM_SIG. -/
def execSigmSig (tile : Nat) (gd : Guard) (a : Nat) (count : BitVec 5) (s : State) : Res :=
  sigm tile gd [a] a (count.toNat + 1) (fun _ h => { handle := h, op := 4, value := 0 }) s

/-! ### Sends -/

/-- CLASS of a program send (R400). -/
def sendClass (c : Nat) : Nat := if c = 4 ∨ (7 ≤ c ∧ c ≤ 13) then c else 4

/-- A send from words 0 and 1 (R399, R400). -/
def sendOf (w0 w1 : Nat) : Send :=
  .list (bitsOf w0 9 0) (bitsOf w0 31 16) (sx 8 w1) (bitsOf w1 27 8) (sendClass (bitsOf w0 13 10)) (bitOf w1 28) (bitOf w1 29) none

/-- A wide send (R401): CLASS PSUM and a payload. -/
def sendWide (w0 w1 payload : Nat) : Send :=
  .list (bitsOf w0 9 0) (bitsOf w0 31 16) (sx 8 w1) (bitsOf w1 27 8) 5 (bitOf w1 28) (bitOf w1 29) (some payload)

/-- A send enters the queue of 16, or stalls (R403). -/
def send (n : Nat) (gd : Guard) (reads : List Nat) (mk : Seq → Send) (s : State) : Res :=
  .next (instr n gd reads [] none id (fun s =>
    let q := s.seq n
    if 16 ≤ q.sendq.length then .stall else .done (s.setSeq n { q with sendq := q.sendq ++ [mk q] })) s)

/-- Row EVS. -/
def execEvs (tile : Nat) (gd : Guard) (a b : Nat) (s : State) : Res :=
  send tile gd [a, b] (fun q => sendOf (q.rd a).toNat (q.rd b).toNat) s
/-- Row EVSW. -/
def execEvsw (tile : Nat) (gd : Guard) (c a b : Nat) (s : State) : Res :=
  send tile gd [c, a, b] (fun q => sendWide (q.rd a).toNat (q.rd b).toNat (q.rd c).toNat) s
/-- Row EVM. -/
def execEvm (tile : Nat) (gd : Guard) (a : Nat) (s : State) : Res := send tile gd [a] (fun q => .marker (q.rd a).toNat) s

/-- Row EVSND (R419): one record a group; a full send queue is waited for at the boundary. -/
def execEvsnd (tile : Nat) (gd : Guard) (a b groups : Nat) (s : State) : Res :=
  routine tile gd [a, b] [] 0x39 none (fun s =>
    let q := s.seq tile
    let ad := (q.rd a).toNat
    let cnt := (q.rd b).toNat % 65536
    if ad % 8 ≠ 0 then .error (4, q.rd a)
    else if 0xC000 < ad + 8 * cnt then .error (5, q.rd a)
    else .ok
      { opc := 0x39, operand := q.rd a, count := cnt,
        group := fun g s =>
          let q := s.seq tile
          let t := s.tile tile
          let r := ad + 8 * g
          if 16 ≤ q.sendq.length then .wait s
          else if t.bad r 8 then .exc 6 (BitVec.ofNat 32 r)
          else .ok (s.setSeq tile { q with sendq := q.sendq ++ [sendOf (t.nat r 4) (t.nat (r + 4) 4)] }) }) groups s

end Sys2Proof.Machine
end

