-- ==== Sys2Proof/Machine/Tmov.lean ====
section
/-!
DEFINITION. Sys2Proof/Machine/Tmov.lean: TMOV: copies, result mailboxes, result frames (10 R413 to R416; 16 R635 to R639, R917).
-/

namespace Sys2Proof.Machine

/-- A TMOV block (R413). -/
structure TBlock where
  skind : Nat
  dkind : Nat
  sreg : Nat
  dreg : Nat
  slot : Nat
  nbytes : Nat
  saddr : Nat
  daddr : Nat
  sd : Tensor
  dd : Tensor
  deriving DecidableEq, Repr

/-- The 48 bytes at `ad` as a block. (DEDUCED, log entry 26) -/
def tblock (t : Tile) (ad : Nat) : TBlock :=
  let h := t.nat ad 4
  { skind := bitsOf h 2 0, dkind := bitsOf h 6 4, sreg := bitsOf h 11 8, dreg := bitsOf h 15 12, slot := bitsOf h 27 16,
    nbytes := t.nat (ad + 4) 4 % 2 ^ 18, saddr := t.nat (ad + 8) 4 % 2 ^ 20, daddr := t.nat (ad + 12) 4 % 2 ^ 20,
    sd := tensorOf (t.nat (ad + 16) 16), dd := tensorOf (t.nat (ad + 32) 16) }

/-- Bits that no field names are not zero (R413). (DEDUCED, log entry 67) -/
def tblockReserved (t : Tile) (ad : Nat) : Bool :=
  let h := t.nat ad 4
  bitOf h 3 || bitOf h 7 || bitsOf h 31 28 ≠ 0 || 2 ^ 18 ≤ t.nat (ad + 4) 4 || 2 ^ 20 ≤ t.nat (ad + 8) 4 || 2 ^ 20 ≤ t.nat (ad + 12) 4

/-- `len` bytes from `a` lie in neuron state (R413). -/
def inNeuron (a len : Nat) : Bool := decide (0x10000 ≤ a) && decide (a + len ≤ 0x50000)

/-- Source and destination of a copy raise DESC (R413, R414). (DEDUCED, log entry 67) -/
def tblockBad (t : Tile) (ad : Nat) : Bool :=
  let k := tblock t ad
  let n := k.nbytes
  let srcBad := match k.skind with
    | 0 => tensorBad (t.nat (ad + 16) 16) || decide (k.sd.count * tyBytes k.sd.ty < n)
    | 1 => decide (11 < k.sreg) || decide (512 < n)
    | 2 => !inNeuron k.saddr n
    | _ => true
  let dstBad := match k.dkind with
    | 0 => tensorBad (t.nat (ad + 32) 16) || decide (k.dd.count * tyBytes k.dd.ty < n) || (k.skind == 0 && k.dd.ty ≠ k.sd.ty)
    | 1 => decide (7 < k.dreg) || decide (512 < n)
    | 2 => !inNeuron k.daddr n
    | 3 => decide (4080 < n)
    | 4 => false
    | _ => true
  tblockReserved t ad || n % 2 ≠ 0 || n = 0 || srcBad || dstBad

/-- Address of byte `i` in a tensor's walk. -/
def Tensor.byteAddr (x : Tensor) (i : Nat) : Nat := (x.addr (i / tyBytes x.ty)).toNat + i % tyBytes x.ty

/-- Addresses in tile memory of bytes `lo` to `hi − 1` of the source, where it is memory. -/
def srcAddrs (k : TBlock) (lo hi : Nat) : List Nat :=
  ((List.range (hi - lo)).map (· + lo)).map (fun i => if k.skind = 0 then k.sd.byteAddr i else k.saddr + i)

/-- Bytes `lo` to `hi − 1` of the source. -/
def srcBytes (s : State) (n : Nat) (k : TBlock) (lo hi : Nat) : List Byte :=
  if k.skind = 1 then slice (if k.sreg < 8 then (s.seq n).t.getD k.sreg [] else bytesOf 4 (srcElems s n k.sreg 4)) lo (hi - lo)
  else (srcAddrs k lo hi).map (memByte (s.tile n).mem)

/-- The first uncorrectable error among them: the address that EBAD takes (R414, R579). -/
def srcPoison (s : State) (n : Nat) (k : TBlock) (lo hi : Nat) : Option Word :=
  if k.skind = 1 then
    let base := 0x80000 + k.sreg * 0x200
    if k.sreg < 8 then
      ((s.seq n).badReg.find? (fun a => decide (base + lo ≤ a + 7) && decide (a < base + hi))).map (BitVec.ofNat 32)
    else
      ((List.range 128).find? (fun j => decide (lo < 4 * j + 4) && decide (4 * j < hi) && (s.tile n).cim.badAcc.contains (accKey s n (k.sreg - 8) j))).map
        (fun j => BitVec.ofNat 32 (base + 4 * j))
  else ((srcAddrs k lo hi).find? (fun a => (s.tile n).bad a 1)).map (BitVec.ofNat 32)

/-- Bytes `lo` onward of the destination take `b`. -/
def putDst (n : Nat) (k : TBlock) (lo : Nat) (b : List Byte) (s : State) : State :=
  match k.dkind with
  | 1 =>
    let q := s.seq n
    let base := 0x80000 + k.dreg * 0x200
    let clean := fun a => decide (base + lo ≤ a) && decide (a + 8 ≤ base + lo + b.length)
    s.setSeq n { q with t := q.t.set k.dreg (patch (q.t.getD k.dreg []) lo b), badReg := q.badReg.filter (fun a => !clean a) }
  | d =>
    let w := b.mapIdx (fun i x => (if d = 0 then k.dd.byteAddr (lo + i) else k.daddr + lo + i, x))
    s.setTile n ((s.tile n).scatter w)

/-- Group `g` of a copy (R414). -/
def copyGroup (n : Nat) (k : TBlock) (g : Nat) (s : State) : Grp :=
  let lo := 256 * g
  let hi := min k.nbytes (lo + 256)
  match srcPoison s n k lo hi with
  | some e => .exc 6 e
  | none => .ok (putDst n k lo (srcBytes s n k lo hi) s)

/-- The routine of a TMOV whose DKIND `want` accepts; `more` gives further DESC conditions at start, and the groups. A
command acts where the block at `a` has the DKIND of its row (DEDUCED, log entry 26). -/
def tmov (n : Nat) (gd : Guard) (a groups : Nat) (want : Nat → Bool) (more : State → TBlock → Option (Nat → State → Grp))
    (tail : TBlock → Option (State → Grp)) (s : State) : Res :=
  let dk := bitsOf ((s.tile n).nat ((s.seq n).rd a).toNat 4) 6 4
  if !want dk ∧ (s.seq n).holds gd then .next s
  else routine n gd [a] [] 0x33 none (fun s =>
    let q := s.seq n
    let ad := (q.rd a).toNat
    let t := s.tile n
    match descAddr (q.rd a) 48 with
    | some e => .error e
    | none =>
      match blockBad t ad 48 with
      | some e => .error (6, e)
      | none =>
        let k := tblock t ad
        if tblockBad t ad then .error (7, q.rd a)
        else match more s k with
        | none => .error (7, q.rd a)
        | some g => .ok { opc := 0x33, operand := q.rd a, count := ceilDiv k.nbytes 256, group := g, tail := tail k }) groups s

/-- Row TMOV: DKIND 0 to 2; 5 to 7 raise DESC. -/
def execTmov (tile : Nat) (gd : Guard) (a groups : Nat) (s : State) : Res :=
  tmov tile gd a groups (fun d => d ≠ 3 && d ≠ 4) (fun _ k => some (copyGroup tile k)) (fun _ => none) s

/-! ### Result mailboxes -/

/-- The tile may write a result to the slot now (R635, R655). (DEDUCED, log entry 70) -/
def mayResult (s : State) (n k : Nat) : Bool :=
  s.flag F.MEM_STAT_READY && s.flag (F.SYNC_MB_CFG_VALID k)
  && (let o := s.get (F.SYNC_MB_CFG_OWNER k); decide (o < 192) && remap s o == some n)

/-- The TMOV resumes, so it has passed its start (R342). -/
def resumes (q : Seq) : Bool := !q.exl && bitOf q.mprog.toNat 31 && bitsOf q.mprog.toNat 23 16 == 0x33

/-- The HOLD wait of this TMOV, if one has begun: its first tick. -/
def holdSince (q : Seq) (k : Nat) : Option Nat :=
  match q.hold with
  | some (t, slot, pc) => if slot = k ∧ pc = q.pc ∧ (q.exl ∨ resumes q) then some t else none
  | none => none

/-- The HOLD timeout of slot `k`, in ticks (R639). -/
def holdTicks (s : State) (k : Nat) : Nat := s.get (F.SYNC_MB_TO (s.get (F.SYNC_MB_CFG_TOSEL k)))

/-- The payload of a result: to the slot, or to the home while it holds the result (R636, R917). -/
def payload (k lo : Nat) (b : List Byte) (s : State) : State :=
  let x := s.slot k
  match x.held with
  | some (m, l, pay) => s.setSlot k { x with held := some (m, l, pay ++ b) }
  | none => lpStore (slotBase s k + lo) b s

/-- Group 0 stands at its boundary: the wait of R639 and R917, then step 1 of R636. `some` is a state in which the payload
may go out; otherwise the group waits or the result is lost. (DEDUCED, log entry 70) -/
def slotOpen (n : Nat) (k : TBlock) (s : State) : State ⊕ Grp :=
  let x := s.slot k.slot
  let replace := s.flag (F.SYNC_MB_CFG_POLICY k.slot)
  let wait := fun (s : State) => Grp.wait s
  if replace then
    if x.writer.isNone then .inl (slotBegin k.slot n k.nbytes s)
    else if x.held.isNone then .inl (s.setSlot k.slot { x with held := some (n, k.nbytes, []), heldTail := false })
    else .inr (wait s)
  else if x.writer.isNone ∧ !x.ready then .inl ((slotBegin k.slot n k.nbytes s).setSeq n { s.seq n with hold := none })
  else match holdSince (s.seq n) k.slot with
  | none => .inr (wait (s.setSeq n { s.seq n with hold := some (s.T, k.slot, (s.seq n).pc) }))
  | some t =>
    if s.T < t + holdTicks s k.slot then .inr (wait s)
    else .inr (.finish ((slotLost k.slot s).setSeq n { s.seq n with hold := none }))

/-- Group `g` of a result. -/
def resultGroup (n : Nat) (k : TBlock) (g : Nat) (s : State) : Grp :=
  let lo := 256 * g
  let hi := min k.nbytes (lo + 256)
  match srcPoison s n k lo hi with
  | some e => .exc 6 e
  | none =>
    let b := srcBytes s n k lo hi
    if g ≠ 0 then .ok (payload k.slot lo b s)
    else match slotOpen n k s with
    | .inl s => .ok (payload k.slot 0 b s)
    | .inr r => r

/-- The tail step: the payload is out; the header follows its acknowledgement (R636, row MAILBOX_HEADER_WRITE). -/
def resultTail (n : Nat) (k : TBlock) (s : State) : Grp :=
  let x := s.slot k.slot
  let x := if x.held.isSome then { x with heldTail := true } else { x with tail := true }
  let s := s.setSlot k.slot x
  .ok (s.setSeq n { s.seq n with unacked := (s.seq n).unacked + 1 })

/-- Row TMOV_MAILBOX. -/
def execTmovMailbox (tile : Nat) (gd : Guard) (a groups : Nat) (s : State) : Res :=
  tmov tile gd a groups (· == 3)
    (fun s k =>
      let past := resumes (s.seq tile) && ((s.seq tile).mprog.toNat % 65536 ≠ 0 || bitsOf (s.seq tile).mprog.toNat 30 24 ≠ 0)
      if past || mayResult s tile k.slot then some (resultGroup tile k) else none)
    (fun k => some (resultTail tile k)) s

/-- Row MAILBOX_HOLD_TIMEOUT: the TMOV that waits at tile `tile` completes unwritten, and its result is lost (R639).
(DESIGN CHOICE, log entry 34) -/
def execMailboxHoldTimeout (tile : Nat) (s : State) : Res :=
  .next (match (s.seq tile).hold with
  | none => s
  | some (t, k, pc) =>
    let q := s.seq tile
    let x := s.slot k
    if !tileRuns s tile ∨ q.pc ≠ pc ∨ (!q.exl ∧ !resumes q) ∨ s.T < t + holdTicks s k ∨ (x.writer.isNone ∧ !x.ready) then s
    else retire tile ((slotLost k s).setSeq tile { q.clearProgress with hold := none }))

/-! ### Result frames (R416) -/

/-- Group `g` fills the frame stage of 2 KiB. -/
def stageGroup (n : Nat) (k : TBlock) (g : Nat) (s : State) : Grp :=
  let lo := 256 * g
  let hi := min k.nbytes (lo + 256)
  match srcPoison s n k lo hi with
  | some e => .exc 6 e
  | none =>
    let q := s.seq n
    .ok (s.setSeq n { q with stage := ((if g = 0 then [] else q.stage) ++ srcBytes s n k lo hi).take 2048 })

/-- The tail step hands the frame to port 9 and releases the stage. -/
def stageTail (n : Nat) (k : TBlock) (s : State) : Grp :=
  let q := s.seq n
  let pay := q.stage ++ List.replicate (k.nbytes - q.stage.length) 0
  .ok (resultSend (k.slot % 64) pay (s.setSeq n { q with stage := [] }))

/-- Row TMOV_RESULT_FRAME: a template number above 63 is out of range. -/
def execTmovResultFrame (tile : Nat) (gd : Guard) (a groups : Nat) (s : State) : Res :=
  tmov tile gd a groups (· == 4) (fun _ k => if k.slot < 64 then some (stageGroup tile k) else none)
    (fun k => some (stageTail tile k)) s

end Sys2Proof.Machine
end

