-- ==== Sys2Proof/Machine/Dispatch.lean ====
section
/-!
DEFINITION. Sys2Proof/Machine/Dispatch.lean: one arm per command, each a direct call of its meaning.
-/

namespace Sys2Proof.Machine

def exec (i : Instr) (s : State) : Host.Outcome State Fault Refusal :=
  match i with
  | .porstNAssert => Sys2Proof.Machine.execPorstNAssert s
  | .porstNRelease failed bad => Sys2Proof.Machine.execPorstNRelease failed bad s
  | .warmN failed bad => Sys2Proof.Machine.execWarmN failed bad s
  | .pciePerstN => Sys2Proof.Machine.execPciePerstN s
  | .pcieLinkDown => Sys2Proof.Machine.execPcieLinkDown s
  | .registerWrite agent pf off whole data => Sys2Proof.Machine.execRegisterWrite agent pf off whole data s
  | .epochBoundary => Sys2Proof.Machine.execEpochBoundary s
  | .routeTableFlip => Sys2Proof.Machine.execRouteTableFlip s
  | .timeStep agent relative => Sys2Proof.Machine.execTimeStep agent relative s
  | .epochArm agent => Sys2Proof.Machine.execEpochArm agent s
  | .epochGridWrite agent reg data => Sys2Proof.Machine.execEpochGridWrite agent reg data s
  | .runSet agent => Sys2Proof.Machine.execRunSet agent s
  | .runClear agent => Sys2Proof.Machine.execRunClear agent s
  | .snapshotRead => Sys2Proof.Machine.execSnapshotRead s
  | .holdForce agent => Sys2Proof.Machine.execHoldForce agent s
  | .ppsInEdge rising quarter => Sys2Proof.Machine.execPpsInEdge rising quarter s
  | .ptpSamplePush agent weight => Sys2Proof.Machine.execPtpSamplePush agent weight s
  | .servoUpdate => Sys2Proof.Machine.execServoUpdate s
  | .sourceTimeout src => Sys2Proof.Machine.execSourceTimeout src s
  | .refclkLoss => Sys2Proof.Machine.execRefclkLoss s
  | .beaconSend port => Sys2Proof.Machine.execBeaconSend port s
  | .beaconResp port seq bseq t2 t3 => Sys2Proof.Machine.execBeaconResp port seq bseq t2 t3 s
  | .beaconTimeout port => Sys2Proof.Machine.execBeaconTimeout port s
  | .frameRx port frame fcsOk fine => Sys2Proof.Machine.execFrameRx port frame fcsOk fine s
  | .frameTx port fine => Sys2Proof.Machine.execFrameTx port fine s
  | .pdelayRespSend port fine => Sys2Proof.Machine.execPdelayRespSend port fine s
  | .benchPtpSend frame origin => Sys2Proof.Machine.execBenchPtpSend frame origin s
  | .port9FrameIngress => Sys2Proof.Machine.execPort9FrameIngress s
  | .macAgeOut vid mac => Sys2Proof.Machine.execMacAgeOut vid mac s
  | .macAgeFlush agent => Sys2Proof.Machine.execMacAgeFlush agent s
  | .macLookup agent => Sys2Proof.Machine.execMacLookup agent s
  | .macInsertStatic agent => Sys2Proof.Machine.execMacInsertStatic agent s
  | .macDelete agent => Sys2Proof.Machine.execMacDelete agent s
  | .macFlushLearned agent port => Sys2Proof.Machine.execMacFlushLearned agent port s
  | .vlanWrite agent vid => Sys2Proof.Machine.execVlanWrite agent vid s
  | .vlanRead agent vid => Sys2Proof.Machine.execVlanRead agent vid s
  | .groupModeSet agent group hundred => Sys2Proof.Machine.execGroupModeSet agent group hundred s
  | .portEnable agent port => Sys2Proof.Machine.execPortEnable agent port s
  | .portDisable agent port => Sys2Proof.Machine.execPortDisable agent port s
  | .fhLinkUp port => Sys2Proof.Machine.execFhLinkUp port s
  | .fhLinkDown port => Sys2Proof.Machine.execFhLinkDown port s
  | .portCalibrationDone port latRx latTx => Sys2Proof.Machine.execPortCalibrationDone port latRx latTx s
  | .events port seq words => Sys2Proof.Machine.execEvents port seq words s
  | .anchor port seq time => Sys2Proof.Machine.execAnchor port seq time s
  | .hello port seq version vendor model width1 height1 serial => Sys2Proof.Machine.execHello port seq version vendor model width1 height1 serial s
  | .keepalive port seq headDrop used => Sys2Proof.Machine.execKeepalive port seq headDrop used s
  | .pwrReq port seq cls => Sys2Proof.Machine.execPwrReq port seq cls s
  | .cfgAck port seq value => Sys2Proof.Machine.execCfgAck port seq value s
  | .regresp port seq tag result data => Sys2Proof.Machine.execRegresp port seq tag result data s
  | .corruptPacket port eventsClass => Sys2Proof.Machine.execCorruptPacket port eventsClass s
  | .crcBurst port => Sys2Proof.Machine.execCrcBurst port s
  | .jxlLos port => Sys2Proof.Machine.execJxlLos port s
  | .jxlKeepaliveTimeout port => Sys2Proof.Machine.execJxlKeepaliveTimeout port s
  | .trainTimeout port => Sys2Proof.Machine.execTrainTimeout port s
  | .cfgAckTimeout port => Sys2Proof.Machine.execCfgAckTimeout port s
  | .pwrReqTimeout port => Sys2Proof.Machine.execPwrReqTimeout port s
  | .configResend port => Sys2Proof.Machine.execConfigResend port s
  | .resetHeadSend port => Sys2Proof.Machine.execResetHeadSend port s
  | .lostRetry port => Sys2Proof.Machine.execLostRetry port s
  | .backchannelKeepaliveSend port => Sys2Proof.Machine.execBackchannelKeepaliveSend port s
  | .flowSend port => Sys2Proof.Machine.execFlowSend port s
  | .jxlEnable agent port => Sys2Proof.Machine.execJxlEnable agent port s
  | .jxlDisable agent port => Sys2Proof.Machine.execJxlDisable agent port s
  | .regRequestGo agent port slot addr write => Sys2Proof.Machine.execRegRequestGo agent port slot addr write s
  | .regRequestTimeout port slot => Sys2Proof.Machine.execRegRequestTimeout port slot s
  | .csiFrameStart port vc => Sys2Proof.Machine.execCsiFrameStart port vc s
  | .csiFrameEnd port vc => Sys2Proof.Machine.execCsiFrameEnd port vc s
  | .csiLineStart port vc => Sys2Proof.Machine.execCsiLineStart port vc s
  | .csiLineEnd port vc => Sys2Proof.Machine.execCsiLineEnd port vc s
  | .csiLongPacket port vc dt payload header crcOk => Sys2Proof.Machine.execCsiLongPacket port vc dt payload header crcOk s
  | .parserProgramStart port => Sys2Proof.Machine.execParserProgramStart port s
  | .parserEnd port => Sys2Proof.Machine.execParserEnd port s
  | .parserLd port => Sys2Proof.Machine.execParserLd port s
  | .parserSkip port => Sys2Proof.Machine.execParserSkip port s
  | .parserLdi port => Sys2Proof.Machine.execParserLdi port s
  | .parserAdd port => Sys2Proof.Machine.execParserAdd port s
  | .parserExt port => Sys2Proof.Machine.execParserExt port s
  | .parserBeq port => Sys2Proof.Machine.execParserBeq port s
  | .parserBne port => Sys2Proof.Machine.execParserBne port s
  | .parserJmp port => Sys2Proof.Machine.execParserJmp port s
  | .parserEmit port => Sys2Proof.Machine.execParserEmit port s
  | .parserEmitResume port => Sys2Proof.Machine.execParserEmitResume port s
  | .parserUnusedOpcode port => Sys2Proof.Machine.execParserUnusedOpcode port s
  | .parserWatchdog port => Sys2Proof.Machine.execParserWatchdog port s
  | .ppcEnable agent ch => Sys2Proof.Machine.execPpcEnable agent ch s
  | .ppcDisable agent ch => Sys2Proof.Machine.execPpcDisable agent ch s
  | .detectPointEnd ch mv na => Sys2Proof.Machine.execDetectPointEnd ch mv na s
  | .detectRetry ch => Sys2Proof.Machine.execDetectRetry ch s
  | .ramp1End ch mv => Sys2Proof.Machine.execRamp1End ch mv s
  | .stepStart => Sys2Proof.Machine.execStepStart s
  | .stepComplete ch mv => Sys2Proof.Machine.execStepComplete ch mv s
  | .currentLimit ch current => Sys2Proof.Machine.execCurrentLimit ch current s
  | .hardShort ch => Sys2Proof.Machine.execHardShort ch s
  | .overload ch => Sys2Proof.Machine.execOverload ch s
  | .rampFail ch => Sys2Proof.Machine.execRampFail ch s
  | .undervolt ch => Sys2Proof.Machine.execUndervolt ch s
  | .backoffEnd ch => Sys2Proof.Machine.execBackoffEnd ch s
  | .attemptClear ch => Sys2Proof.Machine.execAttemptClear ch s
  | .stepAbort ch => Sys2Proof.Machine.execStepAbort ch s
  | .disconnect ch => Sys2Proof.Machine.execDisconnect ch s
  | .cooldownEnd ch => Sys2Proof.Machine.execCooldownEnd ch s
  | .ppcClr agent ch => Sys2Proof.Machine.execPpcClr agent ch s
  | .aldICommand agent entry len => Sys2Proof.Machine.execAldICommand agent entry len s
  | .aldRawCommand agent entry len => Sys2Proof.Machine.execAldRawCommand agent entry len s
  | .aldTxStart => Sys2Proof.Machine.execAldTxStart s
  | .aldFrameRx frame aborted => Sys2Proof.Machine.execAldFrameRx frame aborted s
  | .aldResponseTimeout entry => Sys2Proof.Machine.execAldResponseTimeout entry s
  | .aldPoll => Sys2Proof.Machine.execAldPoll s
  | .gpioInterrupt pin level => Sys2Proof.Machine.execGpioInterrupt pin level s
  | .alarmChange input level => Sys2Proof.Machine.execAlarmChange input level s
  | .gateAdmit gate => Sys2Proof.Machine.execGateAdmit gate s
  | .futureHoldEnd gate => Sys2Proof.Machine.execFutureHoldEnd gate s
  | .mergeEntryClose gate index => Sys2Proof.Machine.execMergeEntryClose gate index s
  | .ingressInject node => Sys2Proof.Machine.execIngressInject node s
  | .sectionProcess => Sys2Proof.Machine.execSectionProcess s
  | .symbolCloseTimeout flow index => Sys2Proof.Machine.execSymbolCloseTimeout flow index s
  | .symbolProcess flow => Sys2Proof.Machine.execSymbolProcess flow s
  | .flowDisable agent flow => Sys2Proof.Machine.execFlowDisable agent flow s
  | .flitForward tile out p0 p1 => Sys2Proof.Machine.execFlitForward tile out p0 p1 s
  | .evwDelivery tile => Sys2Proof.Machine.execEvwDelivery tile s
  | .ebFlitRxTile tile => Sys2Proof.Machine.execEbFlitRxTile tile s
  | .ebFlitRxEdge node => Sys2Proof.Machine.execEbFlitRxEdge node s
  | .spEbEmit port => Sys2Proof.Machine.execSpEbEmit port s
  | .fanoutSend tile => Sys2Proof.Machine.execFanoutSend tile s
  | .routeArm agent => Sys2Proof.Machine.execRouteArm agent s
  | .spanGroupRx port credits flits crcOk => Sys2Proof.Machine.execSpanGroupRx port credits flits crcOk s
  | .spanPortUp port peer ring locked aligned => Sys2Proof.Machine.execSpanPortUp port peer ring locked aligned s
  | .spanPortDown port => Sys2Proof.Machine.execSpanPortDown port s
  | .fabricStallDetect node port vc => Sys2Proof.Machine.execFabricStallDetect node port vc s
  | .fenceRx tile ct => Sys2Proof.Machine.execFenceRx tile ct s
  | .aluAdd tile gd d a b => Sys2Proof.Machine.execAluAdd tile gd d a b s
  | .aluSub tile gd d a b => Sys2Proof.Machine.execAluSub tile gd d a b s
  | .aluAnd tile gd d a b => Sys2Proof.Machine.execAluAnd tile gd d a b s
  | .aluOr tile gd d a b => Sys2Proof.Machine.execAluOr tile gd d a b s
  | .aluXor tile gd d a b => Sys2Proof.Machine.execAluXor tile gd d a b s
  | .aluAndn tile gd d a b => Sys2Proof.Machine.execAluAndn tile gd d a b s
  | .aluSll tile gd d a b => Sys2Proof.Machine.execAluSll tile gd d a b s
  | .aluSrl tile gd d a b => Sys2Proof.Machine.execAluSrl tile gd d a b s
  | .aluSra tile gd d a b => Sys2Proof.Machine.execAluSra tile gd d a b s
  | .aluSlt tile gd d a b => Sys2Proof.Machine.execAluSlt tile gd d a b s
  | .aluSltu tile gd d a b => Sys2Proof.Machine.execAluSltu tile gd d a b s
  | .aluMin tile gd d a b => Sys2Proof.Machine.execAluMin tile gd d a b s
  | .aluMax tile gd d a b => Sys2Proof.Machine.execAluMax tile gd d a b s
  | .aluMinu tile gd d a b => Sys2Proof.Machine.execAluMinu tile gd d a b s
  | .aluMaxu tile gd d a b => Sys2Proof.Machine.execAluMaxu tile gd d a b s
  | .aluAdds tile gd d a b => Sys2Proof.Machine.execAluAdds tile gd d a b s
  | .aluSubs tile gd d a b => Sys2Proof.Machine.execAluSubs tile gd d a b s
  | .aluClz tile gd d a => Sys2Proof.Machine.execAluClz tile gd d a s
  | .aluPopc tile gd d a => Sys2Proof.Machine.execAluPopc tile gd d a s
  | .aluSextb tile gd d a => Sys2Proof.Machine.execAluSextb tile gd d a s
  | .aluSexth tile gd d a => Sys2Proof.Machine.execAluSexth tile gd d a s
  | .aluMul tile gd d a b => Sys2Proof.Machine.execAluMul tile gd d a b s
  | .aluMulh tile gd d a b => Sys2Proof.Machine.execAluMulh tile gd d a b s
  | .aluMulhu tile gd d a b => Sys2Proof.Machine.execAluMulhu tile gd d a b s
  | .aluDiv tile gd d a b => Sys2Proof.Machine.execAluDiv tile gd d a b s
  | .aluDivu tile gd d a b => Sys2Proof.Machine.execAluDivu tile gd d a b s
  | .aluRem tile gd d a b => Sys2Proof.Machine.execAluRem tile gd d a b s
  | .aluRemu tile gd d a b => Sys2Proof.Machine.execAluRemu tile gd d a b s
  | .addi tile gd d a imm => Sys2Proof.Machine.execAddi tile gd d a imm s
  | .andi tile gd d a imm => Sys2Proof.Machine.execAndi tile gd d a imm s
  | .ori tile gd d a imm => Sys2Proof.Machine.execOri tile gd d a imm s
  | .xori tile gd d a imm => Sys2Proof.Machine.execXori tile gd d a imm s
  | .shiSll tile gd d a sh => Sys2Proof.Machine.execShiSll tile gd d a sh s
  | .shiSrl tile gd d a sh => Sys2Proof.Machine.execShiSrl tile gd d a sh s
  | .shiSra tile gd d a sh => Sys2Proof.Machine.execShiSra tile gd d a sh s
  | .li tile gd d imm => Sys2Proof.Machine.execLi tile gd d imm s
  | .lih tile gd d imm => Sys2Proof.Machine.execLih tile gd d imm s
  | .cmp tile gd pd cc a b => Sys2Proof.Machine.execCmp tile gd pd cc a b s
  | .cmpi tile gd pd cc a imm => Sys2Proof.Machine.execCmpi tile gd pd cc a imm s
  | .plogAnd tile gd pd pa pb na nb => Sys2Proof.Machine.execPlogAnd tile gd pd pa pb na nb s
  | .plogOr tile gd pd pa pb na nb => Sys2Proof.Machine.execPlogOr tile gd pd pa pb na nb s
  | .plogXor tile gd pd pa pb na nb => Sys2Proof.Machine.execPlogXor tile gd pd pa pb na nb s
  | .plogSet tile gd pd v => Sys2Proof.Machine.execPlogSet tile gd pd v s
  | .mfp tile gd r => Sys2Proof.Machine.execMfp tile gd r s
  | .mtp tile gd r mask => Sys2Proof.Machine.execMtp tile gd r mask s
  | .lb tile gd d a imm => Sys2Proof.Machine.execLb tile gd d a imm s
  | .lbu tile gd d a imm => Sys2Proof.Machine.execLbu tile gd d a imm s
  | .lh tile gd d a imm => Sys2Proof.Machine.execLh tile gd d a imm s
  | .lhu tile gd d a imm => Sys2Proof.Machine.execLhu tile gd d a imm s
  | .lw tile gd d a imm => Sys2Proof.Machine.execLw tile gd d a imm s
  | .sb tile gd src a imm => Sys2Proof.Machine.execSb tile gd src a imm s
  | .sh tile gd src a imm => Sys2Proof.Machine.execSh tile gd src a imm s
  | .sw tile gd src a imm => Sys2Proof.Machine.execSw tile gd src a imm s
  | .rdi tile gd d a imm => Sys2Proof.Machine.execRdi tile gd d a imm s
  | .sti tile gd src a imm held => Sys2Proof.Machine.execSti tile gd src a imm held s
  | .beq tile gd a b disp => Sys2Proof.Machine.execBeq tile gd a b disp s
  | .bne tile gd a b disp => Sys2Proof.Machine.execBne tile gd a b disp s
  | .blt tile gd a b disp => Sys2Proof.Machine.execBlt tile gd a b disp s
  | .bge tile gd a b disp => Sys2Proof.Machine.execBge tile gd a b disp s
  | .bltu tile gd a b disp => Sys2Proof.Machine.execBltu tile gd a b disp s
  | .bgeu tile gd a b disp => Sys2Proof.Machine.execBgeu tile gd a b disp s
  | .br tile gd disp => Sys2Proof.Machine.execBr tile gd disp s
  | .j tile gd target => Sys2Proof.Machine.execJ tile gd target s
  | .call tile gd d target => Sys2Proof.Machine.execCall tile gd d target s
  | .jr tile gd a => Sys2Proof.Machine.execJr tile gd a s
  | .callr tile gd d a => Sys2Proof.Machine.execCallr tile gd d a s
  | .loop tile gd k a endw => Sys2Proof.Machine.execLoop tile gd k a endw s
  | .trap tile gd code => Sys2Proof.Machine.execTrap tile gd code s
  | .illegalInstruction tile word => Sys2Proof.Machine.execIllegalInstruction tile word s
  | .mfs tile gd d sr => Sys2Proof.Machine.execMfs tile gd d sr s
  | .mts tile gd a sr => Sys2Proof.Machine.execMts tile gd a sr s
  | .mode tile gd a reg v => Sys2Proof.Machine.execMode tile gd a reg v s
  | .syncI tile gd => Sys2Proof.Machine.execSyncI tile gd s
  | .eret tile gd => Sys2Proof.Machine.execEret tile gd s
  | .wfe tile gd => Sys2Proof.Machine.execWfe tile gd s
  | .halt tile gd => Sys2Proof.Machine.execHalt tile gd s
  | .fence tile gd => Sys2Proof.Machine.execFence tile gd s
  | .synSet tile gd a b => Sys2Proof.Machine.execSynSet tile gd a b s
  | .synAdd tile gd c a b ret => Sys2Proof.Machine.execSynAdd tile gd c a b ret s
  | .synSub tile gd c a b ret => Sys2Proof.Machine.execSynSub tile gd c a b ret s
  | .synWaitge tile gd c a b pd => Sys2Proof.Machine.execSynWaitge tile gd c a b pd s
  | .synSig tile gd a => Sys2Proof.Machine.execSynSig tile gd a s
  | .synRead tile gd c a => Sys2Proof.Machine.execSynRead tile gd c a s
  | .sigmAdd tile gd a b count => Sys2Proof.Machine.execSigmAdd tile gd a b count s
  | .sigmSig tile gd a count => Sys2Proof.Machine.execSigmSig tile gd a count s
  | .evs tile gd a b => Sys2Proof.Machine.execEvs tile gd a b s
  | .evsw tile gd c a b => Sys2Proof.Machine.execEvsw tile gd c a b s
  | .evm tile gd a => Sys2Proof.Machine.execEvm tile gd a s
  | .evsnd tile gd a b groups => Sys2Proof.Machine.execEvsnd tile gd a b groups s
  | .cimx tile gd a groups => Sys2Proof.Machine.execCimx tile gd a groups s
  | .banksw tile gd pd bankB amask => Sys2Proof.Machine.execBanksw tile gd pd bankB amask s
  | .tmov tile gd a groups => Sys2Proof.Machine.execTmov tile gd a groups s
  | .tmovMailbox tile gd a groups => Sys2Proof.Machine.execTmovMailbox tile gd a groups s
  | .tmovResultFrame tile gd a groups => Sys2Proof.Machine.execTmovResultFrame tile gd a groups s
  | .nupd tile gd a b groups => Sys2Proof.Machine.execNupd tile gd a b groups s
  | .dlyxDrain tile gd b groups => Sys2Proof.Machine.execDlyxDrain tile gd b groups s
  | .dlyxInsert tile gd a b groups => Sys2Proof.Machine.execDlyxInsert tile gd a b groups s
  | .dlyxClear tile gd groups => Sys2Proof.Machine.execDlyxClear tile gd groups s
  | .voprMov tile gd d a m t => Sys2Proof.Machine.execVoprMov tile gd d a m t s
  | .voprAdd tile gd d a b m t => Sys2Proof.Machine.execVoprAdd tile gd d a b m t s
  | .voprSub tile gd d a b m t => Sys2Proof.Machine.execVoprSub tile gd d a b m t s
  | .voprMul tile gd d a b m t => Sys2Proof.Machine.execVoprMul tile gd d a b m t s
  | .voprMac tile gd d a b m t => Sys2Proof.Machine.execVoprMac tile gd d a b m t s
  | .voprMin tile gd d a b m t => Sys2Proof.Machine.execVoprMin tile gd d a b m t s
  | .voprMax tile gd d a b m t => Sys2Proof.Machine.execVoprMax tile gd d a b m t s
  | .voprAbs tile gd d a m t => Sys2Proof.Machine.execVoprAbs tile gd d a m t s
  | .voprNeg tile gd d a m t => Sys2Proof.Machine.execVoprNeg tile gd d a m t s
  | .voprAnd tile gd d a b m t => Sys2Proof.Machine.execVoprAnd tile gd d a b m t s
  | .voprOr tile gd d a b m t => Sys2Proof.Machine.execVoprOr tile gd d a b m t s
  | .voprXor tile gd d a b m t => Sys2Proof.Machine.execVoprXor tile gd d a b m t s
  | .voprShl tile gd d a b m t => Sys2Proof.Machine.execVoprShl tile gd d a b m t s
  | .voprShr tile gd d a b m t => Sys2Proof.Machine.execVoprShr tile gd d a b m t s
  | .voprCmpeq tile gd d a b m t => Sys2Proof.Machine.execVoprCmpeq tile gd d a b m t s
  | .voprCmplt tile gd d a b m t => Sys2Proof.Machine.execVoprCmplt tile gd d a b m t s
  | .voprCmple tile gd d a b m t => Sys2Proof.Machine.execVoprCmple tile gd d a b m t s
  | .voprSel tile gd d a b m t => Sys2Proof.Machine.execVoprSel tile gd d a b m t s
  | .voprCvt tile gd d a st m t => Sys2Proof.Machine.execVoprCvt tile gd d a st m t s
  | .voprExp2 tile gd d a m t => Sys2Proof.Machine.execVoprExp2 tile gd d a m t s
  | .voprLog2 tile gd d a m t => Sys2Proof.Machine.execVoprLog2 tile gd d a m t s
  | .voprRcp tile gd d a m t => Sys2Proof.Machine.execVoprRcp tile gd d a m t s
  | .voprRsqrt tile gd d a m t => Sys2Proof.Machine.execVoprRsqrt tile gd d a m t s
  | .voprVcmpr tile gd d a m t => Sys2Proof.Machine.execVoprVcmpr tile gd d a m t s
  | .voprVexpd tile gd d a m t => Sys2Proof.Machine.execVoprVexpd tile gd d a m t s
  | .voprRsum tile gd d a m t => Sys2Proof.Machine.execVoprRsum tile gd d a m t s
  | .voptMov tile gd a groups => Sys2Proof.Machine.execVoptMov tile gd a groups s
  | .voptAdd tile gd a groups => Sys2Proof.Machine.execVoptAdd tile gd a groups s
  | .voptSub tile gd a groups => Sys2Proof.Machine.execVoptSub tile gd a groups s
  | .voptMul tile gd a groups => Sys2Proof.Machine.execVoptMul tile gd a groups s
  | .voptMac tile gd a groups => Sys2Proof.Machine.execVoptMac tile gd a groups s
  | .voptMin tile gd a groups => Sys2Proof.Machine.execVoptMin tile gd a groups s
  | .voptMax tile gd a groups => Sys2Proof.Machine.execVoptMax tile gd a groups s
  | .voptAbs tile gd a groups => Sys2Proof.Machine.execVoptAbs tile gd a groups s
  | .voptNeg tile gd a groups => Sys2Proof.Machine.execVoptNeg tile gd a groups s
  | .voptAnd tile gd a groups => Sys2Proof.Machine.execVoptAnd tile gd a groups s
  | .voptOr tile gd a groups => Sys2Proof.Machine.execVoptOr tile gd a groups s
  | .voptXor tile gd a groups => Sys2Proof.Machine.execVoptXor tile gd a groups s
  | .voptShl tile gd a groups => Sys2Proof.Machine.execVoptShl tile gd a groups s
  | .voptShr tile gd a groups => Sys2Proof.Machine.execVoptShr tile gd a groups s
  | .voptCmpeq tile gd a groups => Sys2Proof.Machine.execVoptCmpeq tile gd a groups s
  | .voptCmplt tile gd a groups => Sys2Proof.Machine.execVoptCmplt tile gd a groups s
  | .voptCmple tile gd a groups => Sys2Proof.Machine.execVoptCmple tile gd a groups s
  | .voptSel tile gd a groups => Sys2Proof.Machine.execVoptSel tile gd a groups s
  | .voptCvt tile gd a groups => Sys2Proof.Machine.execVoptCvt tile gd a groups s
  | .voptExp2 tile gd a groups => Sys2Proof.Machine.execVoptExp2 tile gd a groups s
  | .voptLog2 tile gd a groups => Sys2Proof.Machine.execVoptLog2 tile gd a groups s
  | .voptRcp tile gd a groups => Sys2Proof.Machine.execVoptRcp tile gd a groups s
  | .voptRsqrt tile gd a groups => Sys2Proof.Machine.execVoptRsqrt tile gd a groups s
  | .voptVcmpr tile gd a groups => Sys2Proof.Machine.execVoptVcmpr tile gd a groups s
  | .voptVexpd tile gd a groups => Sys2Proof.Machine.execVoptVexpd tile gd a groups s
  | .voptRsum tile gd a groups => Sys2Proof.Machine.execVoptRsum tile gd a groups s
  | .interruptEntry tile dests => Sys2Proof.Machine.execInterruptEntry tile dests s
  | .scoreboardComplete tile index => Sys2Proof.Machine.execScoreboardComplete tile index s
  | .tileGo agent tile atBoundary => Sys2Proof.Machine.execTileGo agent tile atBoundary s
  | .tileStop agent tile => Sys2Proof.Machine.execTileStop agent tile s
  | .tileReset agent tile => Sys2Proof.Machine.execTileReset agent tile s
  | .softirq agent tile => Sys2Proof.Machine.execSoftirq agent tile s
  | .drain agent tile level => Sys2Proof.Machine.execDrain agent tile level s
  | .veWindowAccess tile off write data => Sys2Proof.Machine.execVeWindowAccess tile off write data s
  | .neBatch tile => Sys2Proof.Machine.execNeBatch tile s
  | .sweepPassStart tile => Sys2Proof.Machine.execSweepPassStart tile s
  | .sweepVisit tile => Sys2Proof.Machine.execSweepVisit tile s
  | .sweepOverdue tile region => Sys2Proof.Machine.execSweepOverdue tile region s
  | .resetPassEnd tile => Sys2Proof.Machine.execResetPassEnd tile s
  | .neEnable agent tile => Sys2Proof.Machine.execNeEnable agent tile s
  | .neDisable agent tile => Sys2Proof.Machine.execNeDisable agent tile s
  | .cimPgmStart agent tile array bankB => Sys2Proof.Machine.execCimPgmStart agent tile array bankB s
  | .cimPgmGo agent tile array buf row => Sys2Proof.Machine.execCimPgmGo agent tile array buf row s
  | .cimPgmFinish agent tile array => Sys2Proof.Machine.execCimPgmFinish agent tile array s
  | .cimPgmAbort agent tile array => Sys2Proof.Machine.execCimPgmAbort agent tile array s
  | .cimRowSlotGrant => Sys2Proof.Machine.execCimRowSlotGrant s
  | .cimRowDone tile array loops failed => Sys2Proof.Machine.execCimRowDone tile array loops failed s
  | .calWindowClose tile array => Sys2Proof.Machine.execCalWindowClose tile array s
  | .calBurstStart tile array conversions => Sys2Proof.Machine.execCalBurstStart tile array conversions s
  | .convSecUpdate => Sys2Proof.Machine.execConvSecUpdate s
  | .assayWindowEnd tile => Sys2Proof.Machine.execAssayWindowEnd tile s
  | .marginScanStart agent tile array bankB margin => Sys2Proof.Machine.execMarginScanStart agent tile array bankB margin s
  | .marginScanDone tile array failed => Sys2Proof.Machine.execMarginScanDone tile array failed s
  | .spareProgramStart agent tile array spare pair => Sys2Proof.Machine.execSpareProgramStart agent tile array spare pair s
  | .spareProgramDone tile array verified => Sys2Proof.Machine.execSpareProgramDone tile array verified s
  | .retentionRefreshDue tile array bankB swap => Sys2Proof.Machine.execRetentionRefreshDue tile array bankB swap s
  | .retentionExpired tile array bankB => Sys2Proof.Machine.execRetentionExpired tile array bankB s
  | .syncQueueIssue tile => Sys2Proof.Machine.execSyncQueueIssue tile s
  | .syncOpApply node window => Sys2Proof.Machine.execSyncOpApply node window s
  | .syncReply node => Sys2Proof.Machine.execSyncReply node s
  | .waitTimeout index => Sys2Proof.Machine.execWaitTimeout index s
  | .globalSetWindowWrite agent gidx value => Sys2Proof.Machine.execGlobalSetWindowWrite agent gidx value s
  | .globalAddWindowWrite agent gidx value => Sys2Proof.Machine.execGlobalAddWindowWrite agent gidx value s
  | .localSetWindowWrite agent tile lidx value => Sys2Proof.Machine.execLocalSetWindowWrite agent tile lidx value s
  | .localAddWindowWrite agent tile lidx value => Sys2Proof.Machine.execLocalAddWindowWrite agent tile lidx value s
  | .watchArm agent watch => Sys2Proof.Machine.execWatchArm agent watch s
  | .mailboxAck slot value => Sys2Proof.Machine.execMailboxAck slot value s
  | .mailboxHeaderWrite slot => Sys2Proof.Machine.execMailboxHeaderWrite slot s
  | .mailboxHoldTimeout tile => Sys2Proof.Machine.execMailboxHoldTimeout tile s
  | .counterChangeReport => Sys2Proof.Machine.execCounterChangeReport s
  | .ladleWaitPoll index => Sys2Proof.Machine.execLadleWaitPoll index s
  | .ladleEnable agent => Sys2Proof.Machine.execLadleEnable agent s
  | .ladleDisable agent => Sys2Proof.Machine.execLadleDisable agent s
  | .ladleIssue => Sys2Proof.Machine.execLadleIssue s
  | .transferComplete index lost => Sys2Proof.Machine.execTransferComplete index lost s
  | .nop entry => Sys2Proof.Machine.execNop entry s
  | .planLoad entry found => Sys2Proof.Machine.execPlanLoad entry found s
  | .planReplace entry found => Sys2Proof.Machine.execPlanReplace entry found s
  | .cancel entry => Sys2Proof.Machine.execCancel entry s
  | .planStop entry => Sys2Proof.Machine.execPlanStop entry s
  | .tileMove entry => Sys2Proof.Machine.execTileMove entry s
  | .tileReload entry => Sys2Proof.Machine.execTileReload entry s
  | .cimUpdate entry => Sys2Proof.Machine.execCimUpdate entry s
  | .portCycleFronthaul entry => Sys2Proof.Machine.execPortCycleFronthaul entry s
  | .portCycleCamera entry => Sys2Proof.Machine.execPortCycleCamera entry s
  | .benchActivate entry => Sys2Proof.Machine.execBenchActivate entry s
  | .handoverFallback => Sys2Proof.Machine.execHandoverFallback s
  | .oppSet entry => Sys2Proof.Machine.execOppSet entry s
  | .badOpcode entry => Sys2Proof.Machine.execBadOpcode entry s
  | .tileHold agent tile => Sys2Proof.Machine.execTileHold agent tile s
  | .tileQuiesce agent tile => Sys2Proof.Machine.execTileQuiesce agent tile s
  | .tileResume agent tile hload => Sys2Proof.Machine.execTileResume agent tile hload s
  | .fenceLate tile => Sys2Proof.Machine.execFenceLate tile s
  | .completionWrite => Sys2Proof.Machine.execCompletionWrite s
  | .notify => Sys2Proof.Machine.execNotify s
  | .ringEnable agent => Sys2Proof.Machine.execRingEnable agent s
  | .ringDisable agent => Sys2Proof.Machine.execRingDisable agent s
  | .ringDmaError => Sys2Proof.Machine.execRingDmaError s
  | .apertureMap agent k base valid => Sys2Proof.Machine.execApertureMap agent k base valid s
  | .bar4Access off len write data => Sys2Proof.Machine.execBar4Access off len write data s
  | .flrPf0 => Sys2Proof.Machine.execFlrPf0 s
  | .flrPf1 => Sys2Proof.Machine.execFlrPf1 s
  | .getStatus => Sys2Proof.Machine.execGetStatus s
  | .getNonce => Sys2Proof.Machine.execGetNonce s
  | .attest => Sys2Proof.Machine.execAttest s
  | .getCert => Sys2Proof.Machine.execGetCert s
  | .updateBegin flashOk => Sys2Proof.Machine.execUpdateBegin flashOk s
  | .updateData flashOk => Sys2Proof.Machine.execUpdateData flashOk s
  | .updateEnd flashOk => Sys2Proof.Machine.execUpdateEnd flashOk s
  | .updateAbort => Sys2Proof.Machine.execUpdateAbort s
  | .select flashOk => Sys2Proof.Machine.execSelect flashOk s
  | .svnCommit => Sys2Proof.Machine.execSvnCommit s
  | .policySet flashOk => Sys2Proof.Machine.execPolicySet flashOk s
  | .debugUnlock => Sys2Proof.Machine.execDebugUnlock s
  | .debugLock => Sys2Proof.Machine.execDebugLock s
  | .debugSessionExpire => Sys2Proof.Machine.execDebugSessionExpire s
  | .lcTransition failed bad => Sys2Proof.Machine.execLcTransition failed bad s
  | .reset failed bad => Sys2Proof.Machine.execReset failed bad s
  | .getInfo => Sys2Proof.Machine.execGetInfo s
  | .getLog text => Sys2Proof.Machine.execGetLog text s
  | .console reply => Sys2Proof.Machine.execConsole reply s
  | .deviceReqOn agent => Sys2Proof.Machine.execDeviceReqOn agent s
  | .deviceReqStandby agent => Sys2Proof.Machine.execDeviceReqStandby agent s
  | .deviceReqDormant agent => Sys2Proof.Machine.execDeviceReqDormant agent s
  | .deviceReqOff agent => Sys2Proof.Machine.execDeviceReqOff agent s
  | .domainWakeStepEnd dom failed bad => Sys2Proof.Machine.execDomainWakeStepEnd dom failed bad s
  | .domainEntryStepEnd dom failed bad => Sys2Proof.Machine.execDomainEntryStepEnd dom failed bad s
  | .wakeFail dom => Sys2Proof.Machine.execWakeFail dom s
  | .aoAlarm => Sys2Proof.Machine.execAoAlarm s
  | .clusterReqOff agent cluster => Sys2Proof.Machine.execClusterReqOff agent cluster s
  | .clusterReqRetain agent cluster => Sys2Proof.Machine.execClusterReqRetain agent cluster s
  | .clusterReqActive agent cluster => Sys2Proof.Machine.execClusterReqActive agent cluster s
  | .napRequest agent tile => Sys2Proof.Machine.execNapRequest agent tile s
  | .napExit agent tile => Sys2Proof.Machine.execNapExit agent tile s
  | .oppReqWrite agent cluster opp => Sys2Proof.Machine.execOppReqWrite agent cluster opp s
  | .oppClockSwitch cluster readback => Sys2Proof.Machine.execOppClockSwitch cluster readback s
  | .avsVset agent mv => Sys2Proof.Machine.execAvsVset agent mv s
  | .fdirGo agent cluster fsel => Sys2Proof.Machine.execFdirGo agent cluster fsel s
  | .avsbusFailure => Sys2Proof.Machine.execAvsbusFailure s
  | .avsReadbackTimeout => Sys2Proof.Machine.execAvsReadbackTimeout s
  | .thermalSample readings => Sys2Proof.Machine.execThermalSample readings s
  | .pmbAlert => Sys2Proof.Machine.execPmbAlert s
  | .vddTileUv => Sys2Proof.Machine.execVddTileUv s
  | .quenchClr agent condition => Sys2Proof.Machine.execQuenchClr agent condition s
  | .thermalTrip => Sys2Proof.Machine.execThermalTrip s
  | .tripRecovery failed bad => Sys2Proof.Machine.execTripRecovery failed bad s
  | .aoCrystalLoss => Sys2Proof.Machine.execAoCrystalLoss s
  | .scrubRead at_ found => Sys2Proof.Machine.execScrubRead at_ found s
  | .scrubPassLate region => Sys2Proof.Machine.execScrubPassLate region s
  | .ceStorm region => Sys2Proof.Machine.execCeStorm region s
  | .linkDegraded tile port => Sys2Proof.Machine.execLinkDegraded tile port s
  | .autoReloadStart tile resume => Sys2Proof.Machine.execAutoReloadStart tile resume s
  | .nbrTableRewrite => Sys2Proof.Machine.execNbrTableRewrite s
  | .benchRestart ready => Sys2Proof.Machine.execBenchRestart ready s
  | .touchmarkRestart => Sys2Proof.Machine.execTouchmarkRestart s
  | .registerRead agent pf off whole => Sys2Proof.Machine.execRegisterRead agent pf off whole s
  | .time10mInEdge missing quarter => Sys2Proof.Machine.execTime10mInEdge missing quarter s
  | .pcieLinkUp width speed tag10 => Sys2Proof.Machine.execPcieLinkUp width speed tag10 s
  | .pcieAerError correctable status => Sys2Proof.Machine.execPcieAerError correctable status s
  | .trngHealthFailure => Sys2Proof.Machine.execTrngHealthFailure s
  | .aoCrystalStart => Sys2Proof.Machine.execAoCrystalStart s

end Sys2Proof.Machine
end

