-- ==== Sys2Proof/Safety.lean ====
section
/-!
DEFINITION. Sys2Proof/Safety.lean: the vocabulary of the statements: completion, the invariant of every step, the commands that are
register writes, and when a tile instruction issues.
-/

namespace Sys2Proof.Machine

/-- A command completes: it answers a next state, of which `P` holds. -/
def ends (r : Res) (P : State → Prop) : Prop := ∃ t, r = .next t ∧ P t

/-- The invariant of every step: registers, memories and tables in canonical form, and 192 tiles. -/
structure State.Ok (s : State) : Prop where
  regs : sparseWf regReset s.regs = true
  act : sparseWf regReset s.act = true
  lp : Memory.wf s.mem.lp = true
  pool : Memory.wf s.mem.pool = true
  tiles : s.tiles.length = 192
  tile : ∀ t ∈ s.tiles, Memory.wf t.mem = true ∧ Memory.wf t.imem = true ∧ sparseWf (fun _ => 0) t.cim.acc = true
  vlan : sparseWf (fun _ => ({} : VlanEntry)) s.sw.vlan = true
  ctr : sparseWf (fun _ => 0) s.sync.ctr = true
  slots : sparseWf (fun _ => ({} : Slot)) s.sync.slots = true
  bufs : sparseWf (fun _ => ([] : List Item)) s.fab.bufs = true
  rx : sparseWf (fun _ => ([] : List Item)) s.fab.rx = true
  links : sparseWf (fun _ => 0) s.ras.links = true
  flash : sparseWf (fun _ => (0xFF : Byte)) s.touch.flash = true

/-- The fixed tables have their sizes: port maps, Jexlink and CSI-2 ports, power channels, antenna-line addresses, gates, encoder
flows, clocks of clusters, error counters, registers and predicates of each sequencer, arrays of each tile. -/
structure State.Sized (s : State) : Prop where
  maps : s.tb.maps.length = 16
  jxl : s.jxl.length = 16
  csi : s.csi.length = 4
  csiV : ∀ c ∈ s.csi, c.v.length = 8
  ppc : s.ppc.length = 17
  addrs : s.ald.addrs.length = 32
  gates : s.gates.length = 32
  flows : s.see.flows.length = 16
  clocks : s.pmu.clocks.length = 12
  ceSec : s.ras.ceSec.length = 19
  tiles : s.tiles.length = 192
  tile : ∀ t ∈ s.tiles, t.seq.g.length = 32 ∧ t.seq.p.length = 8 ∧ t.cim.arrays.length = 4

/-- An instruction of tile `n` under guard `gd` that names the registers of codes `regs` issues: the sequencer runs, the instruction's
line is not poisoned, no breakpoint stands there, and no register it needs waits for a result (R326). -/
def issues (s : State) (n : Nat) (gd : Guard) (regs : List Nat) : Bool :=
  tileRuns s n && !(s.tile n).ipoison.contains ((s.seq n).pc / 8) && !breakAt s n
  && !(s.seq n).stalls (pCode gd.p :: regs)

/-- An instruction of tile `n` that issues retires; where its guard holds it leaves the sequencer `q`, otherwise it has no effect. -/
abbrev tileGives (s : State) (n : Nat) (gd : Guard) (regs : List Nat) (i : Instr) (q : Seq) : Prop :=
  issues s n gd regs = true → exec i s = .next (retire n (s.setSeq n (if (s.seq n).holds gd then q else s.seq n)))

/-- An instruction of tile `n` that issues under a guard that holds raises `cause` with `ebad`. -/
abbrev tileRaises (s : State) (n : Nat) (gd : Guard) (regs dests : List Nat) (i : Instr) (cause : Nat) (ebad : Word) : Prop :=
  issues s n gd regs = true → (s.seq n).holds gd = true → exec i s = .next (raiseExc n cause ebad dests s)

/-- Groups `g` to `g + k - 1` of a routine are committed one after the other. -/
def groupsOk (f : Nat → State → Grp) : Nat → Nat → State → Option State
  | 0, _, s => some s
  | k + 1, g, s => match f g s with
    | .ok s' => groupsOk f k (g + 1) s'
    | _ => none

/-- A micro-routine of tile `n` with `count` groups `f` that issues (R341, R342, R344): from its start or from where MPROG resumes it, it
commits the groups that it reaches; at its end it retires with VALID clear, at a boundary before it MPROG holds the next group, and a
group that raises or waits leaves the groups before it. Under a false guard it retires with VALID clear. -/
abbrev routineGives (s : State) (n : Nat) (gd : Guard) (regs dests : List Nat) (i : Instr) (opc count groups : Nat)
    (f : Nat → State → Grp) : Prop :=
  issues s n gd (regs ++ dests) = true →
    ((s.seq n).holds gd = false → exec i s = .next (retire n (s.setSeq n (s.seq n).clearProgress))) ∧
    ((s.seq n).holds gd = true → ∀ g r, startPoint (s.seq n) opc = (g, 0, r) → (g < count ∨ r = false) →
      let k := if (s.seq n).exl = true then count - g else min groups (count - g)
      (∀ s', groupsOk f k g s = some s' →
        exec i s = .next (if g + k = count then retire n (s'.setSeq n (s'.seq n).clearProgress) else holdProgress n opc (g + k) 0 s')) ∧
      (∀ j < k, ∀ s' c e, groupsOk f j g s = some s' → f (g + j) s' = .exc c e →
        exec i s = .next (raiseExc n c e dests (holdProgress n opc (g + j) 0 s'))) ∧
      (∀ j < k, ∀ s' u, groupsOk f j g s = some s' → f (g + j) s' = .wait u → exec i s = .next (holdProgress n opc (g + j) 0 u)) ∧
      (∀ j < k, ∀ s' u, groupsOk f j g s = some s' → f (g + j) s' = .finish u →
        exec i s = .next (retire n (u.setSeq n (u.seq n).clearProgress))))

/-- One-time-programmable fields `b` follow `a` (22 R841, R843, R862): the life cycle does not go back, a revoked key stays revoked, no
floor falls, and a burnt field stays burnt. -/
structure Otp.Follows (a b : Otp) : Prop where
  lc : lcOf a ≤ lcOf b
  revoked : ∀ k < 4, bitOf a.revoked k = true → bitOf b.revoked k = true
  floors : ∀ k, a.floors.getD k 0 ≤ b.floors.getD k 0
  owner : a.ownerHash.isSome = true → b.ownerHash.isSome = true
  erased : a.eraseDone = true → b.eraseDone = true
  identity : a.idGone = true → b.idGone = true

/-- A field within a 32-bit register. -/
abbrev Fld.ok (f : Fld) : Prop := f.lo ≤ f.hi ∧ f.hi < 32

/-- The two fields share no bit. -/
abbrev Fld.apart (f g : Fld) : Prop := f.off ≠ g.off ∨ f.hi < g.lo ∨ g.hi < f.lo

/-- The causes of loss and the states in which they act (04 R150, R151). -/
abbrev lossRows (n : Nat) : List (Instr × List Nat × Nat) :=
  [(.crcBurst n, [1, 2, 3, 4], 3), (.jxlLos n, [1, 2, 3, 4], 2), (.jxlKeepaliveTimeout n, [2, 3, 4], 1), (.trainTimeout n, [1], 4),
   (.cfgAckTimeout n, [2], 1), (.pwrReqTimeout n, [3], 1)]

/-- What one parser instruction at port `n` leaves: variables, next address and bit pointer; nothing but the port's parser changes. -/
abbrev parserLeaves (s : State) (n : Nat) (i : Instr) (v : List Nat) (pc ptr idle : Nat) : Prop :=
  exec i s = .next (s.setCp n { s.cp n with v := v, pc := pc % 128, ptr := ptr, idle := idle })

/-- Request `r` of message `msg` stands in front at the Touchmark mailbox, its response is wanted, and nothing bars it (22 R845, R855,
R866); `rest` waits behind it. -/
abbrev tmAsked (s : State) (msg : Nat) (r : List Byte) (rest : List (List Byte × Bool)) : Prop :=
  s.touch.reqs = (r, true) :: rest ∧ tmPresent s = true ∧ leAt r 0 2 = msg ∧ leAt r 2 2 = 0 ∧ s.lc ≠ 4 ∧ s.stage ≠ 0

/-- The command answers the request in front with a status and data, and leaves `u` otherwise. -/
abbrev tmGives (s : State) (i : Instr) (msg : Nat) (st : Status) (data : List Byte) (u : State) : Prop :=
  exec i s = .next (tmRespond msg st data u)

/-- The message that a row of the Touchmark mailbox answers (22 R866). -/
def tmRow : Instr → Option Nat
  | .getStatus => some 1
  | .getNonce => some 2
  | .attest => some 3
  | .getCert => some 4
  | .updateBegin _ => some 0x10
  | .updateData _ => some 0x11
  | .updateEnd _ => some 0x12
  | .updateAbort => some 0x13
  | .select _ => some 0x14
  | .svnCommit => some 0x15
  | .policySet _ => some 0x20
  | .debugUnlock => some 0x30
  | .debugLock => some 0x31
  | .lcTransition _ _ => some 0x40
  | .reset _ _ => some 0x50
  | _ => none

/-- The distance of two routers in the mesh. -/
abbrev meshDist (a b : Nat) : Nat := (a % 16 - b % 16) + (b % 16 - a % 16) + ((a / 16 - b / 16) + (b / 16 - a / 16))

/-- The commands that are a write of one register: whether its domain is on, who may write it, the agent, the register's offset. -/
def writeRow (i : Instr) (s : State) : Option (Bool × Writers × Agent × Nat) :=
  let tile (n : Nat) (a : Agent) (f : Fld) : Option (Bool × Writers × Agent × Nat) :=
    if n < s.cfg.tiles then some (s.tileOn n, .bench, a, f.off) else none
  let clu (k : Nat) (a : Agent) (f : Fld) : Option (Bool × Writers × Agent × Nat) :=
    if k < s.clusters then some (!s.pins.porst, .benchTouchmark, a, f.off) else none
  match i with
  | .timeStep a _ => some (s.netOn, .benchTouchmark, a, F.TSB_STEP_CTL_GO.off)
  | .epochArm a => some (s.netOn, .bench, a, F.TSB_EPOCH_CTL_ARM.off)
  | .epochGridWrite a r _ => some (s.netOn, .bench, a, (gridFld r).off)
  | .runSet a => some (s.netOn, .bench, a, F.TSB_EPOCH_CTL_RUN.off)
  | .runClear a => some (s.netOn, .bench, a, F.TSB_EPOCH_CTL_RUN.off)
  | .holdForce a => some (s.netOn, .benchTouchmark, a, F.TSB_CTL_HOLD_FORCE.off)
  | .ptpSamplePush a _ => some (s.netOn, .bench, a, F.TSB_PTP_PUSH.off)
  | .macAgeFlush a => some (s.netOn, .benchTouchmark, a, F.NET_MAC_AGE.off)
  | .macLookup a => some (s.netOn, .benchTouchmark, a, F.NET_MAC_CMD_GO.off)
  | .macInsertStatic a => some (s.netOn, .benchTouchmark, a, F.NET_MAC_CMD_GO.off)
  | .macDelete a => some (s.netOn, .benchTouchmark, a, F.NET_MAC_CMD_GO.off)
  | .macFlushLearned a _ => some (s.netOn, .benchTouchmark, a, F.NET_MAC_CMD_GO.off)
  | .vlanWrite a _ => some (s.netOn, .benchTouchmark, a, F.NET_VLAN_CMD_WRITE.off)
  | .vlanRead a _ => some (s.netOn, .benchTouchmark, a, F.NET_VLAN_CMD_READ.off)
  | .groupModeSet a _ _ => some (s.netOn, .benchTouchmark, a, F.NET_GRP_CFG_G0_MODE.off)
  | .portEnable a p => some (s.netOn, .benchTouchmark, a, (F.NET_P_CFG_EN p).off)
  | .portDisable a p => some (s.netOn, .benchTouchmark, a, (F.NET_P_CFG_EN p).off)
  | .jxlEnable a p => some (s.ingOn, .bench, a, (F.JXL_P_CFG_EN p).off)
  | .jxlDisable a p => some (s.ingOn, .bench, a, (F.JXL_P_CFG_EN p).off)
  | .regRequestGo a p q _ _ => some (s.ingOn, .bench, a, (F.JXL_P_REQ_GO p q).off)
  | .ppcEnable a c => if c < 17 then some (s.ingOn, .bench, a, (F.PPC_CH_CTL_EN c).off) else none
  | .ppcDisable a c => if c < 17 then some (s.ingOn, .bench, a, (F.PPC_CH_CTL_EN c).off) else none
  | .ppcClr a c => if c < 17 then some (s.ingOn, .bench, a, (F.PPC_CH_CTL_CLR c).off) else none
  | .aldICommand a _ _ => some (s.ingOn, .bench, a, F.SITE_ALD_TXCMD_GO.off)
  | .aldRawCommand a _ _ => some (s.ingOn, .bench, a, F.SITE_ALD_TXCMD_GO.off)
  | .flowDisable a f => some (s.ingOn, .bench, a, (F.SEE_F_CFG_EN f).off)
  | .routeArm a => some (s.fabOn, .bench, a, F.EVF_CTL_ARM.off)
  | .tileGo a n _ => tile n a (F.TILE_SEQ_CTL_GO n)
  | .tileStop a n => tile n a (F.TILE_SEQ_CTL_STOP n)
  | .tileReset a n => tile n a (F.TILE_SEQ_CTL_RESET n)
  | .softirq a n => tile n a (F.TILE_SEQ_CTL_SOFTIRQ n)
  | .drain a n _ => tile n a (F.TILE_SEQ_CTL_DRAIN n)
  | .neEnable a n => tile n a (F.NE_CTL_EN n)
  | .neDisable a n => tile n a (F.NE_CTL_EN n)
  | .tileHold a n => tile n a (F.TILE_CHG_CTL_HOLD n)
  | .tileQuiesce a n => tile n a (F.TILE_CHG_CTL_QUIESCE n)
  | .tileResume a n _ => tile n a (F.TILE_CHG_CTL_HOLD n)
  | .cimPgmStart a n x _ => if x < 4 then tile n a (F.CIM_A_PGM_START n x) else none
  | .cimPgmGo a n x _ _ => if x < 4 then tile n a (F.CIM_A_PGM_GO n x) else none
  | .cimPgmFinish a n x => if x < 4 then tile n a (F.CIM_A_PGM_FINISH n x) else none
  | .cimPgmAbort a n x => if x < 4 then tile n a (F.CIM_A_PGM_ABORT n x) else none
  | .marginScanStart a n x _ _ => if x < 4 then tile n a (F.CIM_TS_MSCAN_START n x) else none
  | .spareProgramStart a n x _ _ => if x < 4 then tile n a (F.CIM_TS_SP_CTL_SPGO n x) else none
  | .globalSetWindowWrite a g _ => if g < 32768 then some (s.fabOn, .hostBench, a, 0x1020000 + 4 * g) else none
  | .globalAddWindowWrite a g _ => if g < 32768 then some (s.fabOn, .hostBench, a, 0x1040000 + 4 * g) else none
  | .localSetWindowWrite a n l _ =>
    if n < s.cfg.tiles ∧ n < 192 ∧ l < 512 then some (s.fabOn, .hostBench, a, 0x1060000 + n * 0x800 + 4 * l) else none
  | .localAddWindowWrite a n l _ =>
    if n < s.cfg.tiles ∧ n < 192 ∧ l < 512 then some (s.fabOn, .hostBench, a, 0x10C0000 + n * 0x800 + 4 * l) else none
  | .watchArm a k => if k < 64 then some (s.fabOn, .hostBench, a, (F.SYNC_WATCH_CTL_ARM k).off) else none
  | .ladleEnable a => some (s.fabOn, .bench, a, F.LDL_CTL_EN.off)
  | .ladleDisable a => some (s.fabOn, .bench, a, F.LDL_CTL_EN.off)
  | .ringEnable a => some (s.hstOn, .host, a, F.HST_RING_CTL_EN.off)
  | .ringDisable a => some (s.hstOn, .host, a, F.HST_RING_CTL_EN.off)
  | .apertureMap a k _ _ => if k < 16 then some (s.hstOn, .host, a, (F.HST_AP_BASE k).off) else none
  | .deviceReqOn a => some (!s.inReset, .hostBenchTouchmark, a, F.PMU_DEV_CTL_REQ.off)
  | .deviceReqStandby a => some (!s.inReset, .hostBenchTouchmark, a, F.PMU_DEV_CTL_REQ.off)
  | .deviceReqDormant a => some (!s.inReset, .hostBenchTouchmark, a, F.PMU_DEV_CTL_REQ.off)
  | .deviceReqOff a => some (!s.inReset, .hostBenchTouchmark, a, F.PMU_DEV_CTL_REQ.off)
  | .clusterReqOff a k => clu k a (F.PMU_CLU_REQ k)
  | .clusterReqRetain a k => clu k a (F.PMU_CLU_REQ k)
  | .clusterReqActive a k => clu k a (F.PMU_CLU_REQ k)
  | .napRequest a n => clu (n / 16) a (F.PMU_NAP_REQ (n / 16))
  | .napExit a n => clu (n / 16) a (F.PMU_NAP_REQ (n / 16))
  | .oppReqWrite a k _ => clu k a (F.PMU_CLU_OPP_REQ k)
  | .avsVset a _ => some (!s.pins.porst, .benchTouchmark, a, F.PMU_AVS_VSET.off)
  | .fdirGo a _ _ => some (!s.pins.porst, .benchTouchmark, a, F.PMU_FDIR_GO.off)
  | .quenchClr a _ => some (!s.pins.porst, .benchTouchmark, a, F.PMU_QUENCH_CLR.off)
  | _ => none

end Sys2Proof.Machine
end

