-- ==== Sys2Proof/WellFormed.lean ====
section
/-!
DEFINITION. Sys2Proof/WellFormed.lean: the operand ranges of the commands: what the spec's counts of tiles, ports, channels,
registers and table entries allow an event to name. Every command has its own arm.
-/

namespace Sys2Proof

/-- A number below the count of what it names. -/
def below (n k : Nat) : Bool := decide (k < n)

/-- A ring entry or message of its fixed size. -/
def sized (n : Nat) (l : List Byte) : Bool := l.length == n

/-- Every number of a list is below a count. -/
def allBelow (n : Nat) (l : List Nat) : Bool := l.all (below n)

/-- Flits of a span group: a device number and 8 bytes each (08 R294). -/
def flitsOk (l : List (Nat × List Byte)) : Bool := l.all (fun e => below 256 e.1 && sized 8 e.2)

/-- The word a scrubber names exists (21 R810, R817). -/
def ScrubAt.wf : ScrubAt → Bool
  | .imem tile addr => below 192 tile && below 0x4000 addr
  | .data tile _ => below 192 tile
  | .dyn tile word => below 192 tile && below 576 word
  | .pool _ bank => below 16 bank
  | .lp _ channel _ => below 8 channel
  | .packet _ _ => true
  | .nrt index _ => below 208 index
  | .gateMap gate entry => below 32 gate && below 32 entry
  | .merge gate _ => below 32 gate
  | .mac _ => true
  | .vlan vid => below 4096 vid
  | .counter _ => true
  | .header slot => below 4096 slot
  | .management _ => true
  | .secure _ => true

/-- A command whose operands lie in the ranges the spec gives them. -/
def Instr.wf (i : Instr) : Bool :=
  match i with
  | .porstNAssert => true
  | .porstNRelease _ _ => true
  | .warmN _ _ => true
  | .pciePerstN => true
  | .pcieLinkDown => true
  | .registerWrite _ _ off _ _ => below 0x4000000 off
  | .epochBoundary => true
  | .routeTableFlip => true
  | .timeStep _ _ => true
  | .epochArm _ => true
  | .epochGridWrite _ _ _ => true
  | .runSet _ => true
  | .runClear _ => true
  | .snapshotRead => true
  | .holdForce _ => true
  | .ppsInEdge _ quarter => below 32 quarter
  | .ptpSamplePush _ weight => below 256 weight
  | .servoUpdate => true
  | .sourceTimeout _ => true
  | .refclkLoss => true
  | .beaconSend port => below 16 port
  | .beaconResp port seq bseq t2 t3 => below 16 port && below (2 ^ 16) seq && below (2 ^ 16) bseq && below (2 ^ 64) t2 && below (2 ^ 64) t3
  | .beaconTimeout port => below 16 port
  | .frameRx port _ _ fine => below 8 port && below 64 fine
  | .frameTx port fine => below 8 port && below 64 fine
  | .pdelayRespSend port fine => below 8 port && below 64 fine
  | .benchPtpSend _ _ => true
  | .port9FrameIngress => true
  | .macAgeOut vid mac => below 4096 vid && below (2 ^ 48) mac
  | .macAgeFlush _ => true
  | .macLookup _ => true
  | .macInsertStatic _ => true
  | .macDelete _ => true
  | .macFlushLearned _ port => below 16 port
  | .vlanWrite _ vid => below 4096 vid
  | .vlanRead _ vid => below 4096 vid
  | .groupModeSet _ group _ => below 2 group
  | .portEnable _ port => below 8 port
  | .portDisable _ port => below 8 port
  | .fhLinkUp port => below 8 port
  | .fhLinkDown port => below 8 port
  | .portCalibrationDone port latRx latTx => below 8 port && below (2 ^ 32) latRx && below (2 ^ 32) latTx
  | .events port seq _ => below 16 port && below (2 ^ 16) seq
  | .anchor port seq time => below 16 port && below (2 ^ 16) seq && below (2 ^ 32) time
  | .hello port seq version vendor model width1 height1 serial => below 16 port && below (2 ^ 16) seq && below 256 version && below (2 ^ 16) vendor && below (2 ^ 16) model && below (2 ^ 16) width1 && below (2 ^ 16) height1 && below (2 ^ 32) serial
  | .keepalive port seq headDrop used => below 16 port && below (2 ^ 16) seq && below (2 ^ 16) headDrop && below (2 ^ 16) used
  | .pwrReq port seq cls => below 16 port && below (2 ^ 16) seq && below 256 cls
  | .cfgAck port seq value => below 16 port && below (2 ^ 16) seq && below (2 ^ 16) value
  | .regresp port seq tag result _ => below 16 port && below (2 ^ 16) seq && below 256 tag && below 256 result
  | .corruptPacket port _ => below 16 port
  | .crcBurst port => below 16 port
  | .jxlLos port => below 16 port
  | .jxlKeepaliveTimeout port => below 16 port
  | .trainTimeout port => below 16 port
  | .cfgAckTimeout port => below 16 port
  | .pwrReqTimeout port => below 16 port
  | .configResend port => below 16 port
  | .resetHeadSend port => below 16 port
  | .lostRetry port => below 16 port
  | .backchannelKeepaliveSend port => below 16 port
  | .flowSend port => below 16 port
  | .jxlEnable _ port => below 16 port
  | .jxlDisable _ port => below 16 port
  | .regRequestGo _ port slot addr _ => below 16 port && below 4 slot && below (2 ^ 16) addr
  | .regRequestTimeout port slot => below 16 port && below 4 slot
  | .csiFrameStart port vc => below 4 port && below 4 vc
  | .csiFrameEnd port vc => below 4 port && below 4 vc
  | .csiLineStart port vc => below 4 port && below 4 vc
  | .csiLineEnd port vc => below 4 port && below 4 vc
  | .csiLongPacket port vc dt _ _ _ => below 4 port && below 4 vc && below 64 dt
  | .parserProgramStart port => below 4 port
  | .parserEnd port => below 4 port
  | .parserLd port => below 4 port
  | .parserSkip port => below 4 port
  | .parserLdi port => below 4 port
  | .parserAdd port => below 4 port
  | .parserExt port => below 4 port
  | .parserBeq port => below 4 port
  | .parserBne port => below 4 port
  | .parserJmp port => below 4 port
  | .parserEmit port => below 4 port
  | .parserEmitResume port => below 4 port
  | .parserUnusedOpcode port => below 4 port
  | .parserWatchdog port => below 4 port
  | .ppcEnable _ ch => below 17 ch
  | .ppcDisable _ ch => below 17 ch
  | .detectPointEnd ch _ _ => below 17 ch
  | .detectRetry ch => below 17 ch
  | .ramp1End ch _ => below 17 ch
  | .stepStart => true
  | .stepComplete ch _ => below 17 ch
  | .currentLimit ch _ => below 17 ch
  | .hardShort ch => below 17 ch
  | .overload ch => below 17 ch
  | .rampFail ch => below 17 ch
  | .undervolt ch => below 17 ch
  | .backoffEnd ch => below 17 ch
  | .attemptClear ch => below 17 ch
  | .stepAbort ch => below 17 ch
  | .disconnect ch => below 17 ch
  | .cooldownEnd ch => below 17 ch
  | .ppcClr _ ch => below 17 ch
  | .aldICommand _ entry len => below 32 entry && below 256 len
  | .aldRawCommand _ entry len => below 32 entry && below 256 len
  | .aldTxStart => true
  | .aldFrameRx _ _ => true
  | .aldResponseTimeout entry => below 32 entry
  | .aldPoll => true
  | .gpioInterrupt pin _ => below 24 pin
  | .alarmChange input _ => below 8 input
  | .gateAdmit gate => below 32 gate
  | .futureHoldEnd gate => below 32 gate
  | .mergeEntryClose gate _ => below 32 gate
  | .ingressInject node => below 256 node
  | .sectionProcess => true
  | .symbolCloseTimeout flow _ => below 16 flow
  | .symbolProcess flow => below 16 flow
  | .flowDisable _ flow => below 16 flow
  | .flitForward tile out _ _ => below 192 tile && below 6 out
  | .evwDelivery tile => below 192 tile
  | .ebFlitRxTile tile => below 192 tile
  | .ebFlitRxEdge node => below 256 node
  | .spEbEmit port => below 2 port
  | .fanoutSend tile => below 192 tile
  | .routeArm _ => true
  | .spanGroupRx port credits flits _ => below 2 port && below 1024 credits && flitsOk flits
  | .spanPortUp port peer ring _ _ => below 2 port && below 256 peer && below 2 ring
  | .spanPortDown port => below 2 port
  | .fabricStallDetect node port vc => below 256 node && below 6 port && below 4 vc
  | .fenceRx tile _ => below 192 tile
  | .aluAdd tile gd d a b => below 192 tile && below 8 gd.p && below 32 d && below 32 a && below 32 b
  | .aluSub tile gd d a b => below 192 tile && below 8 gd.p && below 32 d && below 32 a && below 32 b
  | .aluAnd tile gd d a b => below 192 tile && below 8 gd.p && below 32 d && below 32 a && below 32 b
  | .aluOr tile gd d a b => below 192 tile && below 8 gd.p && below 32 d && below 32 a && below 32 b
  | .aluXor tile gd d a b => below 192 tile && below 8 gd.p && below 32 d && below 32 a && below 32 b
  | .aluAndn tile gd d a b => below 192 tile && below 8 gd.p && below 32 d && below 32 a && below 32 b
  | .aluSll tile gd d a b => below 192 tile && below 8 gd.p && below 32 d && below 32 a && below 32 b
  | .aluSrl tile gd d a b => below 192 tile && below 8 gd.p && below 32 d && below 32 a && below 32 b
  | .aluSra tile gd d a b => below 192 tile && below 8 gd.p && below 32 d && below 32 a && below 32 b
  | .aluSlt tile gd d a b => below 192 tile && below 8 gd.p && below 32 d && below 32 a && below 32 b
  | .aluSltu tile gd d a b => below 192 tile && below 8 gd.p && below 32 d && below 32 a && below 32 b
  | .aluMin tile gd d a b => below 192 tile && below 8 gd.p && below 32 d && below 32 a && below 32 b
  | .aluMax tile gd d a b => below 192 tile && below 8 gd.p && below 32 d && below 32 a && below 32 b
  | .aluMinu tile gd d a b => below 192 tile && below 8 gd.p && below 32 d && below 32 a && below 32 b
  | .aluMaxu tile gd d a b => below 192 tile && below 8 gd.p && below 32 d && below 32 a && below 32 b
  | .aluAdds tile gd d a b => below 192 tile && below 8 gd.p && below 32 d && below 32 a && below 32 b
  | .aluSubs tile gd d a b => below 192 tile && below 8 gd.p && below 32 d && below 32 a && below 32 b
  | .aluClz tile gd d a => below 192 tile && below 8 gd.p && below 32 d && below 32 a
  | .aluPopc tile gd d a => below 192 tile && below 8 gd.p && below 32 d && below 32 a
  | .aluSextb tile gd d a => below 192 tile && below 8 gd.p && below 32 d && below 32 a
  | .aluSexth tile gd d a => below 192 tile && below 8 gd.p && below 32 d && below 32 a
  | .aluMul tile gd d a b => below 192 tile && below 8 gd.p && below 32 d && below 32 a && below 32 b
  | .aluMulh tile gd d a b => below 192 tile && below 8 gd.p && below 32 d && below 32 a && below 32 b
  | .aluMulhu tile gd d a b => below 192 tile && below 8 gd.p && below 32 d && below 32 a && below 32 b
  | .aluDiv tile gd d a b => below 192 tile && below 8 gd.p && below 32 d && below 32 a && below 32 b
  | .aluDivu tile gd d a b => below 192 tile && below 8 gd.p && below 32 d && below 32 a && below 32 b
  | .aluRem tile gd d a b => below 192 tile && below 8 gd.p && below 32 d && below 32 a && below 32 b
  | .aluRemu tile gd d a b => below 192 tile && below 8 gd.p && below 32 d && below 32 a && below 32 b
  | .addi tile gd d a _ => below 192 tile && below 8 gd.p && below 32 d && below 32 a
  | .andi tile gd d a _ => below 192 tile && below 8 gd.p && below 32 d && below 32 a
  | .ori tile gd d a _ => below 192 tile && below 8 gd.p && below 32 d && below 32 a
  | .xori tile gd d a _ => below 192 tile && below 8 gd.p && below 32 d && below 32 a
  | .shiSll tile gd d a _ => below 192 tile && below 8 gd.p && below 32 d && below 32 a
  | .shiSrl tile gd d a _ => below 192 tile && below 8 gd.p && below 32 d && below 32 a
  | .shiSra tile gd d a _ => below 192 tile && below 8 gd.p && below 32 d && below 32 a
  | .li tile gd d _ => below 192 tile && below 8 gd.p && below 32 d
  | .lih tile gd d _ => below 192 tile && below 8 gd.p && below 32 d
  | .cmp tile gd pd cc a b => below 192 tile && below 8 gd.p && below 8 pd && below 16 cc && below 32 a && below 32 b
  | .cmpi tile gd pd cc a _ => below 192 tile && below 8 gd.p && below 8 pd && below 16 cc && below 32 a
  | .plogAnd tile gd pd pa pb _ _ => below 192 tile && below 8 gd.p && below 8 pd && below 8 pa && below 8 pb
  | .plogOr tile gd pd pa pb _ _ => below 192 tile && below 8 gd.p && below 8 pd && below 8 pa && below 8 pb
  | .plogXor tile gd pd pa pb _ _ => below 192 tile && below 8 gd.p && below 8 pd && below 8 pa && below 8 pb
  | .plogSet tile gd pd _ => below 192 tile && below 8 gd.p && below 8 pd
  | .mfp tile gd r => below 192 tile && below 8 gd.p && below 32 r
  | .mtp tile gd r _ => below 192 tile && below 8 gd.p && below 32 r
  | .lb tile gd d a _ => below 192 tile && below 8 gd.p && below 32 d && below 32 a
  | .lbu tile gd d a _ => below 192 tile && below 8 gd.p && below 32 d && below 32 a
  | .lh tile gd d a _ => below 192 tile && below 8 gd.p && below 32 d && below 32 a
  | .lhu tile gd d a _ => below 192 tile && below 8 gd.p && below 32 d && below 32 a
  | .lw tile gd d a _ => below 192 tile && below 8 gd.p && below 32 d && below 32 a
  | .sb tile gd src a _ => below 192 tile && below 8 gd.p && below 32 src && below 32 a
  | .sh tile gd src a _ => below 192 tile && below 8 gd.p && below 32 src && below 32 a
  | .sw tile gd src a _ => below 192 tile && below 8 gd.p && below 32 src && below 32 a
  | .rdi tile gd d a _ => below 192 tile && below 8 gd.p && below 32 d && below 32 a
  | .sti tile gd src a _ _ => below 192 tile && below 8 gd.p && below 32 src && below 32 a
  | .beq tile gd a b _ => below 192 tile && below 8 gd.p && below 32 a && below 32 b
  | .bne tile gd a b _ => below 192 tile && below 8 gd.p && below 32 a && below 32 b
  | .blt tile gd a b _ => below 192 tile && below 8 gd.p && below 32 a && below 32 b
  | .bge tile gd a b _ => below 192 tile && below 8 gd.p && below 32 a && below 32 b
  | .bltu tile gd a b _ => below 192 tile && below 8 gd.p && below 32 a && below 32 b
  | .bgeu tile gd a b _ => below 192 tile && below 8 gd.p && below 32 a && below 32 b
  | .br tile gd _ => below 192 tile && below 8 gd.p
  | .j tile gd _ => below 192 tile && below 8 gd.p
  | .call tile gd d _ => below 192 tile && below 8 gd.p && below 32 d
  | .jr tile gd a => below 192 tile && below 8 gd.p && below 32 a
  | .callr tile gd d a => below 192 tile && below 8 gd.p && below 32 d && below 32 a
  | .loop tile gd k a _ => below 192 tile && below 8 gd.p && below 4 k && below 32 a
  | .trap tile gd _ => below 192 tile && below 8 gd.p
  | .illegalInstruction tile _ => below 192 tile
  | .mfs tile gd d sr => below 192 tile && below 8 gd.p && below 32 d && below 4096 sr
  | .mts tile gd a sr => below 192 tile && below 8 gd.p && below 32 a && below 4096 sr
  | .mode tile gd a _ _ => below 192 tile && below 8 gd.p && below 32 a
  | .syncI tile gd => below 192 tile && below 8 gd.p
  | .eret tile gd => below 192 tile && below 8 gd.p
  | .wfe tile gd => below 192 tile && below 8 gd.p
  | .halt tile gd => below 192 tile && below 8 gd.p
  | .fence tile gd => below 192 tile && below 8 gd.p
  | .synSet tile gd a b => below 192 tile && below 8 gd.p && below 32 a && below 32 b
  | .synAdd tile gd c a b _ => below 192 tile && below 8 gd.p && below 32 c && below 32 a && below 32 b
  | .synSub tile gd c a b _ => below 192 tile && below 8 gd.p && below 32 c && below 32 a && below 32 b
  | .synWaitge tile gd c a b pd => below 192 tile && below 8 gd.p && below 32 c && below 32 a && below 32 b && below 8 pd
  | .synSig tile gd a => below 192 tile && below 8 gd.p && below 32 a
  | .synRead tile gd c a => below 192 tile && below 8 gd.p && below 32 c && below 32 a
  | .sigmAdd tile gd a b _ => below 192 tile && below 8 gd.p && below 32 a && below 32 b
  | .sigmSig tile gd a _ => below 192 tile && below 8 gd.p && below 32 a
  | .evs tile gd a b => below 192 tile && below 8 gd.p && below 32 a && below 32 b
  | .evsw tile gd c a b => below 192 tile && below 8 gd.p && below 32 c && below 32 a && below 32 b
  | .evm tile gd a => below 192 tile && below 8 gd.p && below 32 a
  | .evsnd tile gd a b _ => below 192 tile && below 8 gd.p && below 32 a && below 32 b
  | .cimx tile gd a _ => below 192 tile && below 8 gd.p && below 32 a
  | .banksw tile gd pd _ _ => below 192 tile && below 8 gd.p && below 8 pd
  | .tmov tile gd a _ => below 192 tile && below 8 gd.p && below 32 a
  | .tmovMailbox tile gd a _ => below 192 tile && below 8 gd.p && below 32 a
  | .tmovResultFrame tile gd a _ => below 192 tile && below 8 gd.p && below 32 a
  | .nupd tile gd a b _ => below 192 tile && below 8 gd.p && below 32 a && below 32 b
  | .dlyxDrain tile gd b _ => below 192 tile && below 8 gd.p && below 32 b
  | .dlyxInsert tile gd a b _ => below 192 tile && below 8 gd.p && below 32 a && below 32 b
  | .dlyxClear tile gd _ => below 192 tile && below 8 gd.p
  | .voprMov tile gd d a m t => below 192 tile && below 8 gd.p && below 16 d && below 16 a && below 8 m && below 8 t
  | .voprAdd tile gd d a b m t => below 192 tile && below 8 gd.p && below 16 d && below 16 a && below 16 b && below 8 m && below 8 t
  | .voprSub tile gd d a b m t => below 192 tile && below 8 gd.p && below 16 d && below 16 a && below 16 b && below 8 m && below 8 t
  | .voprMul tile gd d a b m t => below 192 tile && below 8 gd.p && below 16 d && below 16 a && below 16 b && below 8 m && below 8 t
  | .voprMac tile gd d a b m t => below 192 tile && below 8 gd.p && below 16 d && below 16 a && below 16 b && below 8 m && below 8 t
  | .voprMin tile gd d a b m t => below 192 tile && below 8 gd.p && below 16 d && below 16 a && below 16 b && below 8 m && below 8 t
  | .voprMax tile gd d a b m t => below 192 tile && below 8 gd.p && below 16 d && below 16 a && below 16 b && below 8 m && below 8 t
  | .voprAbs tile gd d a m t => below 192 tile && below 8 gd.p && below 16 d && below 16 a && below 8 m && below 8 t
  | .voprNeg tile gd d a m t => below 192 tile && below 8 gd.p && below 16 d && below 16 a && below 8 m && below 8 t
  | .voprAnd tile gd d a b m t => below 192 tile && below 8 gd.p && below 16 d && below 16 a && below 16 b && below 8 m && below 8 t
  | .voprOr tile gd d a b m t => below 192 tile && below 8 gd.p && below 16 d && below 16 a && below 16 b && below 8 m && below 8 t
  | .voprXor tile gd d a b m t => below 192 tile && below 8 gd.p && below 16 d && below 16 a && below 16 b && below 8 m && below 8 t
  | .voprShl tile gd d a b m t => below 192 tile && below 8 gd.p && below 16 d && below 16 a && below 16 b && below 8 m && below 8 t
  | .voprShr tile gd d a b m t => below 192 tile && below 8 gd.p && below 16 d && below 16 a && below 16 b && below 8 m && below 8 t
  | .voprCmpeq tile gd d a b m t => below 192 tile && below 8 gd.p && below 16 d && below 16 a && below 16 b && below 8 m && below 8 t
  | .voprCmplt tile gd d a b m t => below 192 tile && below 8 gd.p && below 16 d && below 16 a && below 16 b && below 8 m && below 8 t
  | .voprCmple tile gd d a b m t => below 192 tile && below 8 gd.p && below 16 d && below 16 a && below 16 b && below 8 m && below 8 t
  | .voprSel tile gd d a b m t => below 192 tile && below 8 gd.p && below 16 d && below 16 a && below 16 b && below 8 m && below 8 t
  | .voprCvt tile gd d a st m t => below 192 tile && below 8 gd.p && below 16 d && below 16 a && below 16 st && below 8 m && below 8 t
  | .voprExp2 tile gd d a m t => below 192 tile && below 8 gd.p && below 16 d && below 16 a && below 8 m && below 8 t
  | .voprLog2 tile gd d a m t => below 192 tile && below 8 gd.p && below 16 d && below 16 a && below 8 m && below 8 t
  | .voprRcp tile gd d a m t => below 192 tile && below 8 gd.p && below 16 d && below 16 a && below 8 m && below 8 t
  | .voprRsqrt tile gd d a m t => below 192 tile && below 8 gd.p && below 16 d && below 16 a && below 8 m && below 8 t
  | .voprVcmpr tile gd d a m t => below 192 tile && below 8 gd.p && below 16 d && below 16 a && below 8 m && below 8 t
  | .voprVexpd tile gd d a m t => below 192 tile && below 8 gd.p && below 16 d && below 16 a && below 8 m && below 8 t
  | .voprRsum tile gd d a m t => below 192 tile && below 8 gd.p && below 16 d && below 16 a && below 8 m && below 8 t
  | .voptMov tile gd a _ => below 192 tile && below 8 gd.p && below 32 a
  | .voptAdd tile gd a _ => below 192 tile && below 8 gd.p && below 32 a
  | .voptSub tile gd a _ => below 192 tile && below 8 gd.p && below 32 a
  | .voptMul tile gd a _ => below 192 tile && below 8 gd.p && below 32 a
  | .voptMac tile gd a _ => below 192 tile && below 8 gd.p && below 32 a
  | .voptMin tile gd a _ => below 192 tile && below 8 gd.p && below 32 a
  | .voptMax tile gd a _ => below 192 tile && below 8 gd.p && below 32 a
  | .voptAbs tile gd a _ => below 192 tile && below 8 gd.p && below 32 a
  | .voptNeg tile gd a _ => below 192 tile && below 8 gd.p && below 32 a
  | .voptAnd tile gd a _ => below 192 tile && below 8 gd.p && below 32 a
  | .voptOr tile gd a _ => below 192 tile && below 8 gd.p && below 32 a
  | .voptXor tile gd a _ => below 192 tile && below 8 gd.p && below 32 a
  | .voptShl tile gd a _ => below 192 tile && below 8 gd.p && below 32 a
  | .voptShr tile gd a _ => below 192 tile && below 8 gd.p && below 32 a
  | .voptCmpeq tile gd a _ => below 192 tile && below 8 gd.p && below 32 a
  | .voptCmplt tile gd a _ => below 192 tile && below 8 gd.p && below 32 a
  | .voptCmple tile gd a _ => below 192 tile && below 8 gd.p && below 32 a
  | .voptSel tile gd a _ => below 192 tile && below 8 gd.p && below 32 a
  | .voptCvt tile gd a _ => below 192 tile && below 8 gd.p && below 32 a
  | .voptExp2 tile gd a _ => below 192 tile && below 8 gd.p && below 32 a
  | .voptLog2 tile gd a _ => below 192 tile && below 8 gd.p && below 32 a
  | .voptRcp tile gd a _ => below 192 tile && below 8 gd.p && below 32 a
  | .voptRsqrt tile gd a _ => below 192 tile && below 8 gd.p && below 32 a
  | .voptVcmpr tile gd a _ => below 192 tile && below 8 gd.p && below 32 a
  | .voptVexpd tile gd a _ => below 192 tile && below 8 gd.p && below 32 a
  | .voptRsum tile gd a _ => below 192 tile && below 8 gd.p && below 32 a
  | .interruptEntry tile dests => below 192 tile && allBelow 256 dests
  | .scoreboardComplete tile _ => below 192 tile
  | .tileGo _ tile _ => below 192 tile
  | .tileStop _ tile => below 192 tile
  | .tileReset _ tile => below 192 tile
  | .softirq _ tile => below 192 tile
  | .drain _ tile _ => below 192 tile
  | .veWindowAccess tile off _ _ => below 192 tile && below (2 ^ 16) off
  | .neBatch tile => below 192 tile
  | .sweepPassStart tile => below 192 tile
  | .sweepVisit tile => below 192 tile
  | .sweepOverdue tile region => below 192 tile && below 8 region
  | .resetPassEnd tile => below 192 tile
  | .neEnable _ tile => below 192 tile
  | .neDisable _ tile => below 192 tile
  | .cimPgmStart _ tile array _ => below 192 tile && below 4 array
  | .cimPgmGo _ tile array _ _ => below 192 tile && below 4 array
  | .cimPgmFinish _ tile array => below 192 tile && below 4 array
  | .cimPgmAbort _ tile array => below 192 tile && below 4 array
  | .cimRowSlotGrant => true
  | .cimRowDone tile array loops failed => below 192 tile && below 4 array && below 256 loops && allBelow 268 failed
  | .calWindowClose tile array => below 192 tile && below 4 array
  | .calBurstStart tile array _ => below 192 tile && below 4 array
  | .convSecUpdate => true
  | .assayWindowEnd tile => below 192 tile
  | .marginScanStart _ tile array _ _ => below 192 tile && below 4 array
  | .marginScanDone tile array failed => below 192 tile && below 4 array && allBelow 268 failed
  | .spareProgramStart _ tile array _ _ => below 192 tile && below 4 array
  | .spareProgramDone tile array _ => below 192 tile && below 4 array
  | .retentionRefreshDue tile array _ _ => below 192 tile && below 4 array
  | .retentionExpired tile array _ => below 192 tile && below 4 array
  | .syncQueueIssue tile => below 192 tile
  | .syncOpApply node _ => below 256 node
  | .syncReply node => below 256 node
  | .waitTimeout _ => true
  | .globalSetWindowWrite _ gidx _ => below 0x8000 gidx
  | .globalAddWindowWrite _ gidx _ => below 0x8000 gidx
  | .localSetWindowWrite _ tile lidx _ => below 192 tile && below 512 lidx
  | .localAddWindowWrite _ tile lidx _ => below 192 tile && below 512 lidx
  | .watchArm _ watch => below 64 watch
  | .mailboxAck slot _ => below 4096 slot
  | .mailboxHeaderWrite slot => below 4096 slot
  | .mailboxHoldTimeout tile => below 192 tile
  | .counterChangeReport => true
  | .ladleWaitPoll _ => true
  | .ladleEnable _ => true
  | .ladleDisable _ => true
  | .ladleIssue => true
  | .transferComplete _ _ => true
  | .nop entry => sized 64 entry
  | .planLoad entry _ => sized 64 entry
  | .planReplace entry _ => sized 64 entry
  | .cancel entry => sized 64 entry
  | .planStop entry => sized 64 entry
  | .tileMove entry => sized 64 entry
  | .tileReload entry => sized 64 entry
  | .cimUpdate entry => sized 64 entry
  | .portCycleFronthaul entry => sized 64 entry
  | .portCycleCamera entry => sized 64 entry
  | .benchActivate entry => sized 64 entry
  | .handoverFallback => true
  | .oppSet entry => sized 64 entry
  | .badOpcode entry => sized 64 entry
  | .tileHold _ tile => below 192 tile
  | .tileQuiesce _ tile => below 192 tile
  | .tileResume _ tile _ => below 192 tile
  | .fenceLate tile => below 192 tile
  | .completionWrite => true
  | .notify => true
  | .ringEnable _ => true
  | .ringDisable _ => true
  | .ringDmaError => true
  | .apertureMap _ k _ _ => below 16 k
  | .bar4Access off len _ data => below 0x10000000 off && below 4097 len && decide (data.length ≤ 4096)
  | .flrPf0 => true
  | .flrPf1 => true
  | .getStatus => true
  | .getNonce => true
  | .attest => true
  | .getCert => true
  | .updateBegin _ => true
  | .updateData _ => true
  | .updateEnd _ => true
  | .updateAbort => true
  | .select _ => true
  | .svnCommit => true
  | .policySet _ => true
  | .debugUnlock => true
  | .debugLock => true
  | .debugSessionExpire => true
  | .lcTransition _ _ => true
  | .reset _ _ => true
  | .getInfo => true
  | .getLog _ => true
  | .console _ => true
  | .deviceReqOn _ => true
  | .deviceReqStandby _ => true
  | .deviceReqDormant _ => true
  | .deviceReqOff _ => true
  | .domainWakeStepEnd dom _ _ => below 19 dom
  | .domainEntryStepEnd dom _ _ => below 19 dom
  | .wakeFail dom => below 19 dom
  | .aoAlarm => true
  | .clusterReqOff _ cluster => below 12 cluster
  | .clusterReqRetain _ cluster => below 12 cluster
  | .clusterReqActive _ cluster => below 12 cluster
  | .napRequest _ tile => below 192 tile
  | .napExit _ tile => below 192 tile
  | .oppReqWrite _ cluster _ => below 12 cluster
  | .oppClockSwitch cluster readback => below 12 cluster && below 2048 readback
  | .avsVset _ _ => true
  | .fdirGo _ _ _ => true
  | .avsbusFailure => true
  | .avsReadbackTimeout => true
  | .thermalSample _ => true
  | .pmbAlert => true
  | .vddTileUv => true
  | .quenchClr _ _ => true
  | .thermalTrip => true
  | .tripRecovery _ _ => true
  | .aoCrystalLoss => true
  | .scrubRead at_ _ => at_.wf
  | .scrubPassLate region => below 19 region
  | .ceStorm region => below 19 region
  | .linkDegraded tile port => below 192 tile && below 6 port
  | .autoReloadStart tile resume => below 192 tile && below 4096 resume
  | .nbrTableRewrite => true
  | .benchRestart _ => true
  | .touchmarkRestart => true
  | .registerRead _ _ off _ => below 0x4000000 off
  | .time10mInEdge _ quarter => below 32 quarter
  | .pcieLinkUp width speed _ => below 32 width && below 8 speed
  | .pcieAerError _ _ => true
  | .trngHealthFailure => true
  | .aoCrystalStart => true

end Sys2Proof
end

