-- ==== Sys2Proof/Certificates/Slice0/Obligations.lean ====
section
/-!
DEFINITION. Sys2Proof/Certificates/Slice0/Obligations.lean: the statements for the provers. Where a statement says
`exec c s = .next t` with `t` written out, it says the command's result, that it completes, and its frame: everything that
`t` does not change is as in `s`.
-/

open Sys2Proof Sys2Proof.Machine

/-! ### The machine -/

/-- The queue is first in first out: a step runs the front command on the state with the rest of the queue. -/
def Obligations.StepRunsFront : Prop :=
  ∀ (c : Instr) (rest : List Instr) (s : State),
    step { s with pending := c :: rest } = exec c { s with pending := rest }

/-- With nothing waiting a step is one cycle of site time (model's choice, log entry 30): nothing while PORST_N is low, AO time alone
while NET is off, otherwise INCR is added to site time, and the boundary follows when T reaches it. -/
def Obligations.StepIdle : Prop :=
  (∀ s, s.pending = [] → s.pins.porst = true → step s = .next s) ∧
  (∀ s, s.pending = [] → s.pins.porst = false → s.netOn = false → step s = .next (aoTime 1 s)) ∧
  (∀ s, s.pending = [] → s.pins.porst = false → s.netOn = true → s.fab.flipDue = false →
    step s = .next (if (advance 1 s).tb.next ≤ (advance 1 s).T then boundary (advance 1 s) else advance 1 s))

/-- The memories and the register file are in canonical form after reset, and the fixed tables have their sizes. -/
def Obligations.ResetOk : Prop := State.reset.Ok ∧ State.reset.Sized

/-- Every step keeps the register file and the memories in canonical form (keys rising, no entry equal to what an unlisted key
reads as), and the number of tiles. -/
def Obligations.StepKeepsOk : Prop := ∀ s t : State, s.Ok → step s = .next t → t.Ok

/-- Every step keeps the sizes of the fixed tables: port maps, ports, channels, gates, flows, tiles, and the register files, predicates
and arrays of each tile. -/
def Obligations.StepKeepsSizes : Prop := ∀ s t : State, s.Sized → step s = .next t → t.Sized

/-- 22 R841, R843, R862: no step takes back what is burnt into OTP: the life cycle does not return to an earlier state, a revoked
key stays revoked, no SVN floor falls, and an owner key, ERASE_DONE and a destroyed identity stay. -/
def Obligations.BurntFieldsStay : Prop := ∀ s t : State, step s = .next t → s.touch.otp.Follows t.touch.otp

/-- A register or field reads back as the hardware writes it; every other register, and every field of the same register that
shares no bit with it, keeps its value (00_scope R18, R19).
00_scope R20, 19 R731, R732, R750: a write that its row names, by an agent that may not write the register, with the register's
domain off, or by the host where the host does not reach the block, changes nothing but the access log.
00_scope R18, R20, 19 R727, R731, R732, R745, R746: an access that is not one aligned word, of no register, or of a domain that is off
has no effect on a register, reads zero, and is logged with its cause, as is a write by an agent that may not write. A read returns the
register with its WO fields zero and clears its RC fields; what a write leaves in a field follows its type. DOORBELL with BUSY and
RESP_READY clear takes the request. -/
def Obligations.RegisterAccess : Prop :=
  ((∀ (s : State) (a : Nat) (v : Word) (k : Nat), s.Ok → (s.setReg a v).reg k = if k = a then v else s.reg k) ∧
    (∀ (s : State) (f g : Fld) (v : Nat), s.Ok → f.ok → (s.set f v).get f = v % 2 ^ (f.hi + 1 - f.lo) ∧
      (f.apart g → (s.set f v).get g = s.get g))) ∧
  (∀ (i : Instr) (s : State) (on : Bool) (w : Writers) (a : Agent) (off : Nat), writeRow i s = some (on, w, a, off) →
      (s.takesWrite on a off = false → exec i s = .next (s.logErr a 0 0 off true .domainOff)) ∧
      (s.takesWrite on a off = true → w.allows a = false → exec i s = .next (s.logErr a 0 0 off true .notWriter))) ∧
  ((∀ (s : State) (a : Agent) (pf whole : Bool) (off : Nat) (d : Word), (a = .host → s.hstOn = true) →
      let key := if pf = true then off + 0x10000000 else off
      (∀ c, accessCause a whole key s = some c → (quietReg key = false ∨ c ≠ .unmapped) →
        exec (.registerWrite a pf off whole d) s = .next (s.logErr a (if pf = true then 1 else 0) 0 off true c) ∧
        exec (.registerRead a pf off whole) s = .next ((s.logErr a (if pf = true then 1 else 0) 0 off false c).emit (.read a key 0))) ∧
      (whole = false ∨ key % 4 ≠ 0 → accessCause a whole key s = some .width) ∧
      (whole = true → key % 4 = 0 → ctrWin key = none → regRow key = none → accessCause a whole key s = some .unmapped) ∧
      (∀ r ix, accessCause a whole key s = none → ctrWin key = none → regRow key = some r → r.index key = some ix →
        (r.writers.allows a = false → exec (.registerWrite a pf off whole d) s =
          .next (s.logErr a (if pf = true then 1 else 0) 0 off true .notWriter)) ∧
        (r.dom ≠ .clu → key ≠ F.TSB_SNAP_SEC_LO.off → exec (.registerRead a pf off whole) s =
          .next ((s.setReg key (BitVec.ofNat 32 (afterRead r.fields (s.reg key).toNat))).emit
            (.read a key (BitVec.ofNat 32 (readAt s r ix key))))))) ∧
    (∀ (s : State) (a : Agent) (pf bar off : Nat) (w : Bool) (c : ErrCause), s.Ok → s.hstOn = true → pf ≤ 1 → bar < 16 →
      let t := s.logErr a pf bar off w c
      t.get F.HST_ERR_CNT = min (2 ^ 32 - 1) (s.get F.HST_ERR_CNT + 1) ∧ t.get F.HST_ERR_ADDR = off % 2 ^ 32 ∧
      (t.reg F.HST_ERR_INFO_CAUSE.off).toNat = c.code + 16 * bar + 256 * pf + 512 * agentCode a + (if w = true then 2048 else 0) + 2 ^ 31 ∧
      ∀ k, k ∉ [F.HST_ERR_CNT.off, F.HST_ERR_ADDR.off, F.HST_ERR_INFO_CAUSE.off] → t.reg k = s.reg k) ∧
    (∀ (ty : FTy) (lock : Bool) (w old new : Nat), old < 2 ^ w → new < 2 ^ w →
      writeFld ty lock w old new < 2 ^ w ∧ (ty = .ro ∨ ty = .rc → writeFld ty lock w old new = old) ∧
      (ty = .rw ∨ (ty = .rwl ∧ lock = true) → writeFld ty lock w old new = new) ∧ (ty = .rwl → lock = false → writeFld ty lock w old new = old) ∧
      (ty = .w1c → ∀ i < w, bitOf (writeFld ty lock w old new) i = (bitOf old i && !bitOf new i)) ∧
      (ty = .w1s → ∀ i < w, bitOf (writeFld ty lock w old new) i = (bitOf old i || bitOf new i))) ∧
    (∀ (s : State) (v : Nat), s.Ok → s.hstOn = true → ends (exec (.registerWrite .host false F.HST_SIDE_EN.off true (BitVec.ofNat 32 v)) s)
      (fun t => t.get F.HST_SIDE_EN = v % 16 ∧ t.hst = s.hst ∧ ∀ k, k ≠ F.HST_SIDE_EN.off → t.reg k = s.reg k)) ∧
    (∀ (s : State), s.Ok → s.hstOn = true → tmPresent s = true → let r := getWords s (F.PF1_TM_REQ 0).off (s.get F.PF1_TM_REQ_LEN)
      (s.flag F.PF1_TM_CTL_BUSY = false → s.flag F.PF1_TM_CTL_RESP_READY = false → leAt r 0 2 ∈ [1, 2, 3, 4] →
        exec (.registerWrite .host true 0x20000 true 1) s =
          .next ((s.raise F.PF1_TM_CTL_BUSY).setTouch { s.touch with reqs := s.touch.reqs ++ [(r, true)] })) ∧
      (s.flag F.PF1_TM_CTL_BUSY = true → exec (.registerWrite .host true 0x20000 true 1) s = .next (s.logErr .host 1 0 0x20000 true .notWriter))))

/-! ### Site time, epochs, the servo, port maps (02) -/

/-- 02 R69, R68, R70, R77: EPOCH_ARM raises ARM and nothing else. While RUN = 1 a write of LEN or ORIGIN is discarded and sets
WR_REFUSED; while RUN = 0 it is taken and the grid is placed anew; a length outside 4,000 to 1,000,000 is discarded.
02 R70: placing the grid anew puts the next boundary at the first ORIGIN + k * LEN after T (at ORIGIN while T is below it),
numbers no epoch anew, and touches neither site time nor any register. -/
def Obligations.EpochGrid : Prop :=
  ((∀ s, s.netOn = true → exec (.epochArm .bench) s = .next (s.raise F.TSB_EPOCH_CTL_ARM)) ∧
    (∀ s r v, s.netOn = true → s.running = true →
      exec (.epochGridWrite .bench r v) s = .next (s.raise F.TSB_EPOCH_CTL_WR_REFUSED)) ∧
    (∀ s (v : Word), s.netOn = true → exec (.registerWrite .bench false F.TSB_EPOCH_NUM.off true v) s =
      .next (if s.running = true then s.raise F.TSB_EPOCH_CTL_WR_REFUSED else s.set F.TSB_EPOCH_NUM v.toNat)) ∧
    (∀ s (v : Word), s.netOn = true → s.running = false → 4000 ≤ v.toNat → v.toNat ≤ 1000000 →
      exec (.epochGridWrite .bench .len v) s = .next (regrid (s.set F.TSB_EPOCH_LEN v.toNat))) ∧
    (∀ s (v : Word), s.netOn = true → s.running = false → v.toNat % 2 ^ 20 < 4000 ∨ 1000000 < v.toNat % 2 ^ 20 →
      exec (.epochGridWrite .bench .len v) s = .next s) ∧
    (∀ s (v : Word), s.netOn = true → s.running = false →
      exec (.epochGridWrite .bench .originLo v) s = .next (regrid (s.set F.TSB_EPOCH_ORIGIN_LO v.toNat)) ∧
      exec (.epochGridWrite .bench .originHi v) s = .next (regrid (s.set F.TSB_EPOCH_ORIGIN_HI v.toNat)))) ∧
  (∀ s, 0 < s.get F.TSB_EPOCH_LEN →
      s.T < (regrid s).tb.next ∧
      (s.T < s.origin → (regrid s).tb.next = s.origin) ∧
      (s.origin ≤ s.T → (regrid s).tb.next ≤ s.T + s.get F.TSB_EPOCH_LEN ∧
        ((regrid s).tb.next - s.origin) % s.get F.TSB_EPOCH_LEN = 0) ∧
      regrid s = s.setTb (regrid s).tb ∧ (regrid s).T = s.T ∧ (regrid s).tb.resid = s.tb.resid)

/-- 02 R60, R61: while RUN = 1 a step is discarded and sets STEP_REFUSED. While RUN = 0 an absolute step sets site time to TSB_STEP
with fraction zero and TOD_SET, and a relative step adds TSB_STEP to the site time of the next cycle; the residence timeline runs
on by one cycle either way.
02 R54, R53, R79, R76, R83: what an accepted edge or push leaves: a PPS edge its capture and its weighted sample, a 10 MHz edge its
phase, a pushed sample in place of one with a longer path delay; a snapshot read latches one cycle's time; loss of REFCLK25 sets
REFLOSS and interrupts Bench. -/
def Obligations.SiteTime : Prop :=
  ((∀ s m, s.netOn = true → s.running = true → exec (.timeStep .bench m) s =
      .next ((s.set F.TSB_STEP_CTL_MODE (b2n m)).raise F.TSB_STAT_STEP_REFUSED)) ∧
    (∀ s, s.Ok → s.netOn = true → s.running = false → ends (exec (.timeStep .touchmark false) s) (fun t =>
        t.tb.sec = s.get64 F.TSB_STEP_SEC_LO F.TSB_STEP_SEC_HI % 2 ^ 48 ∧ t.tb.ns = s.get F.TSB_STEP_NS ∧ t.tb.frac = 0 ∧
        t.tb.resid = s.tb.resid + s.incr ∧ t.flag F.TSB_STAT_TOD_SET = true ∧ t.tiles = s.tiles ∧ t.mem = s.mem)) ∧
    (∀ s, s.Ok → s.netOn = true → s.running = false → ends (exec (.timeStep .bench true) s) (fun t =>
        let u := advance 1 (s.raise F.TSB_STEP_CTL_MODE)
        let n : Int := (u.tb.sec * 1000000000 + u.tb.ns : Nat) + sx 48 (s.get64 F.TSB_STEP_SEC_LO F.TSB_STEP_SEC_HI) * 1000000000
          + s.get F.TSB_STEP_NS
        (t.tb.sec : Int) = n / 1000000000 % 2 ^ 48 ∧ (t.tb.ns : Int) = n % 1000000000 ∧ t.tb.frac = u.tb.frac ∧
        t.tb.resid = s.tb.resid + s.incr ∧ t.tiles = s.tiles ∧ t.mem = s.mem))) ∧
  ((∀ s q (n : Nat), s.netOn = true → s.flag F.TSB_PPS_IN_CFG_EN = true → s.flag F.TSB_PPS_IN_CFG_EDGE = false → s.servo ≠ .locked →
      ((s.quarters q : Int) - s.get F.TSB_PPS_IN_CFG_CABLE_DLY + 2000000000) / 4000000000 = n →
      s.tb.ppsSecond ≠ some n →
      exec (.ppsInEdge true q) s = .next ((s.set F.TSB_PPS_CAP (s.quarters q / 4 % 1000000000)).setTb
        { s.tb with
          ppsSecond := some n,
          pps := { s.tb.pps with
            present := true, weight := 255,
            theta := ((n : Int) * 4000000000 + s.get F.TSB_PPS_IN_CFG_CABLE_DLY - s.quarters q) * 64 } })) ∧
    (∀ s w, s.Ok → s.netOn = true → w < 256 → s.tb.ptp.present = false →
      exec (.ptpSamplePush .bench w) s = .next ((s.inc F.TSB_PTP_CNT).setTb
        { s.tb with
          ptpDelay := s.geti F.TSB_PTP_DLY,
          ptp := { s.tb.ptp with present := true, weight := w, theta := s.geti F.TSB_PTP_OFS } })) ∧
    (∀ s w, s.netOn = true → s.tb.ptp.present = true → s.tb.ptpDelay ≤ s.geti F.TSB_PTP_DLY →
      exec (.ptpSamplePush .bench w) s = .next (s.inc F.TSB_PTP_CNT)) ∧
    (∀ s q, s.netOn = true → s.flag F.TSB_TEN_CFG_EN = true →
      exec (.time10mInEdge true q) s = .next (s.setTb { s.tb with tenMissing := true }) ∧
      exec (.time10mInEdge false q) s = .next (s.setTb { s.tb with
        tenSum := s.tb.tenSum + tenPhase (s.quarters q) (s.get F.TSB_TEN_CFG_DLY), tenCount := s.tb.tenCount + 1 })) ∧
    (∀ s, s.Ok → s.netOn = true → s.tb.sec < 2 ^ 48 → s.tb.ns < 1000000000 → s.tb.frac < 2 ^ 40 →
      ends (exec .snapshotRead s) (fun t =>
        t.get64 F.TSB_SNAP_SEC_LO F.TSB_SNAP_SEC_HI = s.tb.sec ∧ t.get F.TSB_SNAP_NS = s.tb.ns ∧
        t.get F.TSB_SNAP_FRAC = s.tb.frac / 2 ^ 24 ∧ t.get64 F.TSB_TICK_LO F.TSB_TICK_HI = s.T ∧ t = s.setRegs t.regs)) ∧
    (∀ s, s.netOn = true → exec .refclkLoss s =
      .next (((s.setTb { s.tb with refclk := false }).raise F.TSB_STAT_REFLOSS).bench .refclkLoss 0)))

/-- 02 R60, 07 R268: RUN_SET raises RUN and nothing else; RUN_CLEAR clears it and leaves no symbol open in the encoder.
02 R67, R69: the grid's part of a boundary: EPOCH_NUM takes 1 modulo 2^32, the boundary reached is the epoch's start, and the
next one lies LEN ticks on; with ARM set LEN becomes NEXT, ORIGIN the boundary, and ARM clears.
02 R67, 08 R288: EPOCH_BOUNDARY runs site time to the next boundary tick and is the boundary there; ROUTE_TABLE_FLIP with a flip
due is the flip of the tables and the flip cycle, and changes nothing with none due. -/
def Obligations.RunAndBoundaries : Prop :=
  ((∀ s, s.netOn = true → exec (.runSet .bench) s = .next (s.raise F.TSB_EPOCH_CTL_RUN)) ∧
    (∀ s, s.netOn = true → s.running = false → exec (.runClear .bench) s = .next s) ∧
    (∀ s, s.netOn = true → s.running = true →
      exec (.runClear .bench) s = .next (closeAllFlows (s.clear F.TSB_EPOCH_CTL_RUN))) ∧
    (∀ s n, n < 16 → s.Sized → ((closeAllFlows s).flow n).opens = [])) ∧
  ((∀ s, s.Ok → (boundaryGrid s).epochNum = (s.epochNum + 1) % 2 ^ 32 ∧ (boundaryGrid s).tb.start = s.tb.next ∧
      (boundaryGrid s).T = s.T) ∧
    (∀ s, s.Ok → s.flag F.TSB_EPOCH_CTL_ARM = false → (boundaryGrid s).tb.next = s.tb.next + s.get F.TSB_EPOCH_LEN) ∧
    (∀ s, s.Ok → s.flag F.TSB_EPOCH_CTL_ARM = true → s.tb.next < 2 ^ 64 →
      (boundaryGrid s).tb.next = s.tb.next + s.get F.TSB_EPOCH_NEXT ∧
      (boundaryGrid s).get F.TSB_EPOCH_LEN = s.get F.TSB_EPOCH_NEXT ∧
      (boundaryGrid s).origin = s.tb.next ∧ (boundaryGrid s).flag F.TSB_EPOCH_CTL_ARM = false)) ∧
  ((∀ s, s.netOn = true → s.fab.flipDue = false →
      exec .epochBoundary s = .next (boundary (advanceTo s.tb.next s))) ∧
    (∀ s, s.fabOn = true → s.fab.flipDue = true →
      exec .routeTableFlip s = .next (flipCycle (tableFlip s))) ∧
    (∀ s, s.fabOn = true → s.fab.flipDue = false → exec .routeTableFlip s = .next s))

/-- 02 R57, R54: the servo's loop on a weighted error, where neither clamp acts: I takes Ki times the error, the output is Kp times the
error plus I, INCR is the nominal word plus the output, and SLEW_LIMIT stays; a sum beyond LIMIT clamps I and sets SLEW_LIMIT.
02 R57, R58, R78: a servo period that ends with the servo LOCKED on a source that stays active runs the loop on that source's weighted
error and then lock detection; HOLD_FORCE takes an enabled servo to HOLDOVER with INCR from the integral term; a timeout of the last
valid source invalidates it, and a LOCKED servo goes to HOLDOVER.
02 R62 to R64, 04 R162: a beacon stamps t1 and opens an exchange; the matching response's exchange is given to the port map with t4
the current tick; one that does not come counts as failed, and the eighth in a row takes a started map to HOLD with O and R frozen. -/
def Obligations.Servo : Prop :=
  (∀ (s : State) (e : Int), s.Ok →
      let pl := s.get F.TSB_SERVO_CFG_PERIOD_LOG2
      let lim : Int := s.get F.TSB_SERVO_CFG_LIMIT
      let i := s.geti F.TSB_SERVO_INT + roundDiv (s.get F.TSB_SERVO_KI * e * 256) (2 ^ (26 + pl))
      let y := s.get F.TSB_SERVO_KP * e + i * 2 ^ (18 + pl)
      (-lim * 256 ≤ i → i ≤ lim * 256 → -lim * 2 ^ (26 + pl) ≤ y → y ≤ lim * 2 ^ (26 + pl) →
        (servoLoop e s).geti F.TSB_SERVO_INT = i ∧ (servoLoop e s).incr = incrOf y (26 + pl) % 2 ^ 44 ∧
        (servoLoop e s).flag F.TSB_STAT_SLEW_LIMIT = s.flag F.TSB_STAT_SLEW_LIMIT) ∧
      (lim * 256 < i → (servoLoop e s).geti F.TSB_SERVO_INT = lim * 256 ∧ (servoLoop e s).flag F.TSB_STAT_SLEW_LIMIT = true) ∧
      (i < -lim * 256 → (servoLoop e s).geti F.TSB_SERVO_INT = -lim * 256 ∧ (servoLoop e s).flag F.TSB_STAT_SLEW_LIMIT = true)) ∧
  ((∀ s, s.netOn = true → s.flag F.TSB_CTL_SERVO_EN = false →
      ends (exec .servoUpdate s) (fun t => ∃ u, t = clearSamples (freerun u) ∧ u.tiles = s.tiles)) ∧
    (∀ s, s.Ok → s.netOn = true → s.flag F.TSB_CTL_SERVO_EN = true → s.flag F.TSB_CTL_HOLD_FORCE = false → s.servo = .locked →
      s.tb.tenCount = 0 → s.tb.pps.present = true → s.tb.pps.weight ≠ 0 → s.get F.TSB_STAT_ACTIVE_SRC = 1 →
      s.get F.TSB_SRC_CTL_PRI0 = 1 → 0 < s.get F.TSB_SRC_CTL_TIMEOUT →
      ends (exec .servoUpdate s) (fun t => ∃ u, t = clearSamples (lockDetect u.tb.pps (servoLoop (u.tb.pps.theta * u.tb.pps.weight) u)) ∧
        u.tb.pps = { s.tb.pps with idle := 0, run := s.tb.pps.run + 1 } ∧ u.get F.TSB_STAT_ACTIVE_SRC = 1 ∧ u.servo = .locked ∧
        u.flag F.TSB_STAT_PPS_VALID = true ∧ (∀ f : Fld, f.off ≠ F.TSB_STAT_ACTIVE_SRC.off → u.get f = s.get f))) ∧
    (∀ s a, a = .bench ∨ a = .touchmark → s.Ok → s.netOn = true → s.flag F.TSB_CTL_SERVO_EN = true →
      ends (exec (.holdForce a) s) (fun t => t.servo = .holdover ∧ t.flag F.TSB_CTL_HOLD_FORCE = true ∧
        t.incr = incrOf (s.geti F.TSB_SERVO_INT) 8 % 2 ^ 44 ∧ t.geti F.TSB_SERVO_INT = s.geti F.TSB_SERVO_INT ∧ t.tb = s.tb)) ∧
    (∀ s src, s.Ok → s.netOn = true → s.flag F.TSB_CTL_SERVO_EN = true → s.servo = .locked →
      s.get F.TSB_SRC_CTL_PRI0 = srcCode src → s.get F.TSB_SRC_CTL_PRI1 = 0 → s.get F.TSB_SRC_CTL_PRI2 = 0 →
      (s.tb.source (srcCode src)).present = false →
      ends (exec (.sourceTimeout src) s) (fun t => t.servo = .holdover ∧ t.get F.TSB_STAT_ACTIVE_SRC = 0 ∧
        (t.tb.source (srcCode src)).idle = 255 ∧ t.incr = incrOf (s.geti F.TSB_SERVO_INT) 8 % 2 ^ 44))) ∧
  ((∀ s n, s.ingOn = true → n < 16 → s.link n = 4 → s.flag (F.TSB_PT_CFG_EN n) = true → (s.pmap n).outstanding = none →
      exec (.beaconSend n) s = .next (back n 0x03 [BitVec.ofNat 8 (s.pmap n).bseq]
        (s.setTb { s.tb with maps := s.tb.maps.set n { s.pmap n with
            outstanding := some ((s.pmap n).bseq, s.T), bseq := ((s.pmap n).bseq + 1) % 256,
            cfg := (s.reg (F.TSB_PT_CFG_EN n).off).toNat } }))) ∧
    (∀ s n seq q t1 t2 t3, takesPackets s n = true → (s.pmap n).outstanding = some (q, t1) → t2 < 2 ^ 56 → t3 < 2 ^ 56 →
      exec (.beaconResp n seq q t2 t3) s = .next (mapExchange n t1 t2 t3 s.T (goodPacket n seq s))) ∧
    (∀ s n t1 t2 t3 t4, s.Ok → s.Sized → n < 16 → (s.pmap n).started = false → (s.pmap n).delays = [] →
      let t := mapExchange n t1 t2 t3 t4 s
      (t.pmap n).started = true ∧ (t.pmap n).p0 = (t2 + t3) / 512 ∧ (t.pmap n).r = 0x7D000000 ∧
      (t.pmap n).o = (((t1 : Int) + t4) * 128 + s.geti (F.TSB_PT_ASYM n)) * 256 ∧ (t.pmap n).outstanding = none ∧
      t.get (F.TSB_PT_STAT_STATE n) = 1 ∧ t.get (F.TSB_PT_STAT_MISS n) = 0) ∧
    (∀ s n, s.Ok → s.Sized → s.ingOn = true → n < 16 → (s.pmap n).outstanding.isSome = true →
      ends (exec (.beaconTimeout n) s) (fun t =>
        t.get (F.TSB_PT_STAT_MISS n) = min 255 (s.get (F.TSB_PT_STAT_MISS n) + 1) ∧ (t.pmap n).outstanding = none ∧
        (t.pmap n).o = (s.pmap n).o ∧ (t.pmap n).r = (s.pmap n).r ∧
        (7 ≤ s.get (F.TSB_PT_STAT_MISS n) → (s.get (F.TSB_PT_STAT_STATE n) = 1 ∨ s.get (F.TSB_PT_STAT_STATE n) = 2) →
          t.get (F.TSB_PT_STAT_STATE n) = 3) ∧
        (s.get (F.TSB_PT_STAT_MISS n) < 7 → t.get (F.TSB_PT_STAT_STATE n) = s.get (F.TSB_PT_STAT_STATE n)))))

/-! ### The fronthaul switch (03) -/

/-- 03 R94, R95, R129: the MAC table's commands: a lookup returns the entry or sets NOT_FOUND; an insert makes the entry static, or sets
BUCKET_FULL in a bucket of four static ways; a delete, a flush, ageing and AGE_S = 0 remove what they name and leave every other
entry.
03 R93: VLAN_WRITE puts NET_VLAN_DATA into the named VID's entry and leaves every other; VLAN_READ puts the entry into
NET_VLAN_DATA.
03 R89, R124, R125, R135, R112: a group's mode changes only with its ports disabled; EN of a port that is present is set; clearing it
flushes the port's queues into FLUSH and removes its learned entries; a link that comes up shows LINK and is not calibrated; one that
falls loses LINK, BLOCK_LOCK and CAL_DONE and its queued frames; a calibration puts the measured latencies into place. -/
def Obligations.SwitchTablesAndPorts : Prop :=
  ((∀ s a e, a = .bench ∨ a = .touchmark → s.Ok → s.netOn = true → macFind s (macKey s).1 (macKey s).2 = some e →
      ends (exec (.macLookup a) s) (fun t => t.get F.NET_MAC_DATA2_PORTS = e.ports % 2 ^ 9 ∧ t.flag F.NET_MAC_DATA2_STATIC = e.static ∧
        t.flag F.NET_MAC_DATA2_FH = e.fh ∧ t.flag F.NET_MAC_DATA2_VALID = true ∧ t.sw = s.sw)) ∧
    (∀ s a, a = .bench ∨ a = .touchmark → s.Ok → s.netOn = true → macFind s (macKey s).1 (macKey s).2 = none →
      ends (exec (.macLookup a) s) (fun t => t.flag F.NET_MAC_DATA2_VALID = false ∧ t.flag F.NET_MAC_CMD_NOT_FOUND = true ∧ t.sw = s.sw)) ∧
    (∀ s a, a = .bench ∨ a = .touchmark → s.Ok → s.netOn = true → (bucketOf s (macKey s).1 (macKey s).2).length < 4 →
      ends (exec (.macInsertStatic a) s) (fun t =>
        macFind t (macKey s).1 (macKey s).2 = some
          ⟨(macKey s).1, (macKey s).2, s.get F.NET_MAC_DATA2_PORTS, true, s.flag F.NET_MAC_DATA2_FH, s.tb.resid⟩ ∧
        ∀ v m, (v, m) ≠ macKey s → macFind t v m = macFind s v m)) ∧
    (∀ s a, a = .bench ∨ a = .touchmark → s.Ok → s.netOn = true → macFind s (macKey s).1 (macKey s).2 = none →
      4 ≤ (bucketOf s (macKey s).1 (macKey s).2).length → (∀ e ∈ bucketOf s (macKey s).1 (macKey s).2, e.static = true) →
      ends (exec (.macInsertStatic a) s) (fun t => t.flag F.NET_MAC_CMD_BUCKET_FULL = true ∧ t.sw = s.sw)) ∧
    (∀ s a, a = .bench ∨ a = .touchmark → s.Ok → s.netOn = true →
      ends (exec (.macDelete a) s) (fun t => macFind t (macKey s).1 (macKey s).2 = none ∧
        (macFind s (macKey s).1 (macKey s).2 = none → t.flag F.NET_MAC_CMD_NOT_FOUND = true) ∧
        ∀ v m, (v, m) ≠ macKey s → macFind t v m = macFind s v m)) ∧
    (∀ s a p, a = .bench ∨ a = .touchmark → s.netOn = true →
      ends (exec (.macFlushLearned a p) s) (fun t =>
        ∀ e, e ∈ t.sw.mac ↔ e ∈ s.sw.mac ∧ (e.static = true ∨ (p ≠ 15 ∧ e.ports ≠ 2 ^ p)))) ∧
    (∀ s v m e, s.netOn = true → macFind s v m = some e → e.static = false →
      ends (exec (.macAgeOut v m) s) (fun t => macFind t v m = none ∧ ∀ v' m', (v', m') ≠ (v, m) → macFind t v' m' = macFind s v' m')) ∧
    (∀ s v m e, macFind s v m = some e → e.static = true → exec (.macAgeOut v m) s = .next s) ∧
    (∀ s a, a = .bench ∨ a = .touchmark → s.netOn = true →
      exec (.macAgeFlush a) s = .next ((s.clear F.NET_MAC_AGE).setSw { s.sw with mac := s.sw.mac.filter (·.static) })) ∧
    (∀ s p v m, s.get F.NET_MAC_AGE ≠ 0 → macFind s v m = none → (bucketOf s v m).length < 4 →
      macFind (macLearn p v m s) v m = some ⟨v, m, 2 ^ p, false, false, s.tb.resid⟩ ∧
      (∀ v' m', (v', m') ≠ (v, m) → macFind (macLearn p v m s) v' m' = macFind s v' m'))) ∧
  ((∀ s a v, a = .bench ∨ a = .touchmark → s.Ok → s.netOn = true → v < 4096 →
      ends (exec (.vlanWrite a v) s) (fun t =>
        t.vlan v = ⟨s.get F.NET_VLAN_DATA_MEMBER, s.get F.NET_VLAN_DATA_UNTAG, s.flag F.NET_VLAN_DATA_FLOOD,
          s.flag F.NET_VLAN_DATA_VALID⟩ ∧
        (∀ w, w ≠ v → t.vlan w = s.vlan w) ∧ t.sw.mac = s.sw.mac ∧ t.sw.queue = s.sw.queue)) ∧
    (∀ s a v, a = .bench ∨ a = .touchmark → s.Ok → s.netOn = true → v < 4096 →
      ends (exec (.vlanRead a v) s) (fun t =>
        t.get F.NET_VLAN_DATA_MEMBER = (s.vlan v).member % 2 ^ 10 ∧ t.get F.NET_VLAN_DATA_UNTAG = (s.vlan v).untag % 2 ^ 9 ∧
        t.flag F.NET_VLAN_DATA_FLOOD = (s.vlan v).flood ∧ t.flag F.NET_VLAN_DATA_VALID = (s.vlan v).valid ∧ t = s.setRegs t.regs))) ∧
  ((∀ s a g h, a = .bench ∨ a = .touchmark → s.netOn = true → g < 2 →
      s.flag (if g = 0 then F.NET_GRP_CFG_G0_MODE else F.NET_GRP_CFG_G1_MODE) ≠ h → (∃ i, i < 4 ∧ s.flag (F.NET_P_CFG_EN (4 * g + i)) = true) →
      exec (.groupModeSet a g h) s = .next (s.raise F.NET_GRP_CFG_REFUSED)) ∧
    (∀ s a g h, a = .bench ∨ a = .touchmark → s.Ok → s.netOn = true → g < 2 →
      s.flag (if g = 0 then F.NET_GRP_CFG_G0_MODE else F.NET_GRP_CFG_G1_MODE) ≠ h → (∀ i, i < 4 → s.flag (F.NET_P_CFG_EN (4 * g + i)) = false) →
      ends (exec (.groupModeSet a g h) s) (fun t =>
        t.flag (if g = 0 then F.NET_GRP_CFG_G0_MODE else F.NET_GRP_CFG_G1_MODE) = h ∧
        (∀ i, i < 3 → t.flag (F.NET_P_STAT_PRESENT (4 * g + 1 + i)) = !h) ∧ t = s.setRegs t.regs)) ∧
    (∀ s a p, a = .bench ∨ a = .touchmark → s.netOn = true → present s p = true →
      exec (.portEnable a p) s = .next (s.raise (F.NET_P_CFG_EN p))) ∧
    (∀ s a p, a = .bench ∨ a = .touchmark → s.Ok → s.netOn = true → p < 8 → present s p = true →
      ends (exec (.portDisable a p) s) (fun t => t.flag (F.NET_P_CFG_EN p) = false ∧
        (∀ q, q ∈ t.sw.queue ↔ q ∈ s.sw.queue ∧ q.port ≠ p) ∧
        (∀ e, e ∈ t.sw.mac ↔ e ∈ s.sw.mac ∧ (e.static = true ∨ e.ports ≠ 2 ^ p)) ∧
        t.get (F.NET_P_FLUSH p) = min (2 ^ 32 - 1) (s.get (F.NET_P_FLUSH p) + (s.sw.queue.filter (·.port = p)).length))) ∧
    (∀ s p, s.Ok → s.netOn = true → p < 8 → present s p = true →
      ends (exec (.fhLinkUp p) s) (fun t => t.flag (F.NET_P_STAT_LINK p) = true ∧ t.flag (F.NET_P_STAT_BLOCK_LOCK p) = true ∧
        t.flag (F.NET_P_STAT_CAL_DONE p) = false ∧ t = s.setRegs t.regs)) ∧
    (∀ s p, s.Ok → s.netOn = true → p < 8 →
      ends (exec (.fhLinkDown p) s) (fun t => t.flag (F.NET_P_STAT_LINK p) = false ∧ t.flag (F.NET_P_STAT_BLOCK_LOCK p) = false ∧
        t.flag (F.NET_P_STAT_CAL_DONE p) = false ∧ (∀ q, q ∈ t.sw.queue ↔ q ∈ s.sw.queue ∧ q.port ≠ p) ∧ t.sw.mac = s.sw.mac)) ∧
    (∀ s p rx tx, s.netOn = true → p < 8 → s.flag (F.NET_P_STAT_LINK p) = true → s.flag (F.NET_P_STAT_CAL_DONE p) = false →
      exec (.portCalibrationDone p rx tx) s =
        .next (((s.raise (F.NET_P_STAT_CAL_DONE p)).set (F.NET_P_LAT_RX p) rx).set (F.NET_P_LAT_TX p) tx)))

/-- 03 R92, R99, R101, R93: while no plan runs, a good frame that is no PTP message, received in a VLAN its port belongs to and bound for one
external port that is up, is stored for that port in the queue of its class; one outside its VLAN is dropped and counted. -/
def Obligations.FrameReception : Prop :=
  (∀ s p fr fine e, s.Ok → s.netOn = true → p < 8 → portUp s p = true → s.running = false → 60 ≤ fr.length → fr.length ≤ 9212 →
    (s.vlan (vidPcp s p fr).1).valid = true → bitOf (s.vlan (vidPcp s p fr).1).member p = true → ptpOf fr = none → ptpSkipped fr = false →
    destinations s p (vidPcp s p fr).1 (beAt fr 0 6) fr = [e] → e < 8 → portUp s e = true → s.flag (F.NET_P_CFG_LEARN p) = false →
    bitOf (s.get F.NET_FH_CFG) (vidPcp s p fr).2 = false →
    (∀ m, macFind s (vidPcp s p fr).1 (beAt fr 0 6) = some m → m.fh = false) →
    let q : QFrame := ⟨e, queueOf s p (vidPcp s p fr).2 false, p, egressForm s e (vidPcp s p fr).1 (vidPcp s p fr).2 fr,
      ingressStamp s p (s.resid + fine * 8192 : Nat), s.get F.NET_TC_CFG_MODE, false, false, false⟩
    occupancy s e + cells q ≤ s.get (F.NET_P_BUF_MAX_CELLS e) - s.get (F.NET_P_BUF_RSV7 e) →
    (s.sw.queue.map cells).sum + cells q ≤ 24576 →
    ends (exec (.frameRx p fr true fine) s) (fun t => t.sw.queue = s.sw.queue ++ [q] ∧ t.sw.mac = s.sw.mac ∧
      t.get (F.NET_P_RX_OK p) = min (2 ^ 32 - 1) (s.get (F.NET_P_RX_OK p) + 1) ∧ t.tiles = s.tiles ∧ t.out = s.out)) ∧
  (∀ s p fr ok fine, s.netOn = true → p < 8 → portUp s p = true → fr.length < 60 ∨ 9212 < fr.length →
    exec (.frameRx p fr ok fine) s = .next (s.inc (F.NET_P_RX_FCS p))) ∧
  (∀ s p fr fine, s.Ok → s.netOn = true → p < 8 → portUp s p = true → s.running = false → 60 ≤ fr.length → fr.length ≤ 9212 →
    bitOf (s.vlan (vidPcp s p fr).1).member p = false →
    exec (.frameRx p fr true fine) s = .next ((s.inc (F.NET_P_RX_OK p)).inc (F.NET_P_DROP_VLAN p)))

/-- 03 R102, R106: in one-step end-to-end mode a Sync message over Ethernet leaves with its residence time and the ingress port's delay
asymmetry added to its correctionField; every other byte of the frame leaves as it came. -/
def Obligations.TransparentClock : Prop :=
  ∀ (s : State) (q : QFrame) (meas : Nat) (m : Ptp), ptpOf q.data = some m → m.transport = 0 → ptpType q.data m = 0 → q.tc = 1 →
    q.inPort < 8 → q.port < 8 → q.origin = false → q.fromBench = false → m.off + 34 ≤ q.data.length →
    let a : Int := egressStamp s q.port meas - q.tIn + s.geti (F.NET_P_ASYM q.inPort) * 256
    sx 64 (beAt q.data (m.off + 8) 8) + a < 2 ^ 63 → -(2 ^ 63) ≤ sx 64 (beAt q.data (m.off + 8) 8) + a →
    ∃ d, (sendFrame q meas false s).out = .frame q.port d :: s.out ∧ d.length = q.data.length ∧
      sx 64 (beAt d (m.off + 8) 8) = sx 64 (beAt q.data (m.off + 8) 8) + a ∧
      (∀ i, i < m.off + 8 ∨ m.off + 16 ≤ i → d[i]? = q.data[i]?)

/-- 03 R99, R105, R113, R114, R120: an idle port that is up sends the frame its scheduler names, which leaves the queue; a waiting
Pdelay_Req is answered; a frame of Bench enters the switch at port 8, a result frame at port 9; an event message that Bench sent returns
its egress time. -/
def Obligations.FrameTransmission : Prop :=
  (∀ s p fine f d ptr, s.netOn = true → p < 8 → portUp s p = true → f ∈ s.sw.queue → f.port = p → ptpOf f.data = none → f.poison = false →
    schedule s p = some (f.queue, d, ptr) → s.sw.queue.find? (fun g => g.port == p && g.queue == f.queue) = some f →
    ends (exec (.frameTx p fine) s) (fun t => t.sw.queue = s.sw.queue.erase f ∧ t.out = .frame p f.data :: s.out ∧
      t.sw.mac = s.sw.mac ∧ t.tiles = s.tiles ∧ t.tb = s.tb)) ∧
  (∀ s p fine fr tIn m, s.netOn = true → p < 8 → portUp s p = true → s.sw.pdelay.find? (·.1 = p) = some (p, fr, tIn) → ptpOf fr = some m →
    ends (exec (.pdelayRespSend p fine) s) (fun t => t.sw.pdelay = s.sw.pdelay.erase (p, fr, tIn) ∧
      t.out.head? = some (.frame p (pdelayResp s p fr m
        (egressStamp s p ((max s.resid (s.sw.busyUntil.getD p 0) + fine * 8192 : Nat) : Int) - tIn))))) ∧
  (∀ s fr o, s.netOn = true → exec (.benchPtpSend fr o) s = .next (forward 8 fr true true o s.resid (s.inc (F.NET_P_RX_OK 8)))) ∧
  (∀ s f l, s.netOn = true → s.sw.results = f :: l → exec .port9FrameIngress s = .next
    (forward 9 f true false false s.resid (((s.setSw { s.sw with results := l }).inc F.NET_RF_SENT).inc (F.NET_P_RX_OK 9)))) ∧
  (∀ s q meas m, q.fromBench = true → ptpOf q.data = some m → ptpEvent q.data m = true →
    (sendFrame q meas false s).sw.benchStamps = s.sw.benchStamps ++
      [((s.tb.sec * 1000000000 + s.tb.ns : Nat) + (egressStamp s q.port (meas : Nat) / 2 ^ 16 - s.resid / 2 ^ 16)).toNat])

/-! ### Jexlink, CSI-2 and the format parser (04) -/

/-- 04 R144, R157, R160, R164, R66, R151, R189: what a good packet with the expected SEQ does: an event word in range on a synchronised,
mapped port joins the port buffer with its stamp and spends a credit; EVENTS beyond LIMIT counts as a violation and clears SYNCED; an
ANCHOR sets port time and SYNCED, a jump back of more than 1 s takes the map to IDLE; the third HELLO takes a port in TRAIN to IDENT,
a bad one to LOST with VERSION; KEEPALIVE resets the spent count; a class within MAX_CLASS and BUDGET_W is granted, another is denied;
CFG_ACK with the port's number takes IDENT to CLASS; REGRESP completes its slot. -/
def Obligations.JexlinkPackets : Prop :=
  (∀ s n (w : Word), s.Ok → s.Sized → takesPackets s n = true → s.link n = 4 → s.flag (F.JXL_P_STAT_SYNCED n) = true →
    (s.get (F.TSB_PT_STAT_STATE n) = 2 ∨ s.get (F.TSB_PT_STAT_STATE n) = 3) →
    w.toNat / 2 ^ 21 ≤ s.get (F.JXL_P_GEOM_WIDTH1 n) → w.toNat / 2 ^ 11 % 1024 ≤ s.get (F.JXL_P_GEOM_HEIGHT1 n) →
    1 ≤ ((s.jp n).limit + 65536 - (s.jp n).spent) % 65536 → (s.jp n).buf.length < 32768 →
    ends (exec (.events n (s.jp n).seq [w]) s) (fun t =>
      (t.jp n).p = ((s.jp n).p + w.toNat % 1024) % 2 ^ 48 ∧ (t.jp n).spent = ((s.jp n).spent + 1) % 65536 ∧
      (t.jp n).buf = (s.jp n).buf ++ [⟨w.toNat / 2 ^ 21, w.toNat / 2 ^ 11 % 1024, bitOf w.toNat 10, 0,
        (s.pmap n).stamp (((s.jp n).p + w.toNat % 1024) % 2 ^ 48), false⟩] ∧
      t.get (F.JXL_P_EV_IN n) = min (2 ^ 32 - 1) (s.get (F.JXL_P_EV_IN n) + 1) ∧
      (∀ m, m ≠ n → t.jp m = s.jp m) ∧ t.tb = s.tb ∧ t.tiles = s.tiles ∧ t.gates = s.gates)) ∧
  (∀ s n ws, s.Ok → s.Sized → takesPackets s n = true → s.link n = 4 → ws.length ≤ 512 →
    ((s.jp n).limit + 65536 - (s.jp n).spent) % 65536 < ceilDiv ws.length 64 →
    ends (exec (.events n (s.jp n).seq ws) s) (fun t => (t.jp n).buf = (s.jp n).buf ∧ t.flag (F.JXL_P_STAT_SYNCED n) = false ∧
      t.get (F.JXL_P_CREDIT_VIOL n) = min (2 ^ 32 - 1) (s.get (F.JXL_P_CREDIT_VIOL n) + 1))) ∧
  (∀ s n a, s.Ok → s.Sized → takesPackets s n = true → s.link n = 4 → s.flag (F.JXL_P_STAT_SYNCED n) = false →
    1 ≤ ((s.jp n).limit + 65536 - (s.jp n).spent) % 65536 → (s.jp n).buf.length ≤ 32768 →
    ends (exec (.anchor n (s.jp n).seq a) s) (fun t => (t.jp n).p = a % 2 ^ 48 ∧ t.flag (F.JXL_P_STAT_SYNCED n) = true ∧
      (t.jp n).buf = (s.jp n).buf ∧ t.tb = s.tb)) ∧
  (∀ s n a, s.Ok → s.Sized → takesPackets s n = true → s.link n = 4 → s.flag (F.JXL_P_STAT_SYNCED n) = true → a + 1000000 < (s.jp n).p →
    1 ≤ ((s.jp n).limit + 65536 - (s.jp n).spent) % 65536 → (s.jp n).buf.length ≤ 32768 →
    ends (exec (.anchor n (s.jp n).seq a) s) (fun t => t.flag (F.JXL_P_STAT_SYNCED n) = false ∧ t.get (F.TSB_PT_STAT_STATE n) = 0 ∧
      (t.jp n).p = (s.jp n).p)) ∧
  (∀ s n vendor model w h serial, s.Ok → s.Sized → takesPackets s n = true → s.link n = 1 → (s.jp n).hellos = 2 → w < 2048 → h < 1024 →
    vendor < 2 ^ 16 → model < 2 ^ 16 →
    ends (exec (.hello n (s.jp n).seq 1 vendor model w h serial) s) (fun t => t.link n = 2 ∧ t.get (F.JXL_P_ID0_VENDOR n) = vendor ∧
      t.get (F.JXL_P_ID1 n) = model ∧ t.get (F.JXL_P_GEOM_WIDTH1 n) = w ∧ t.get (F.JXL_P_GEOM_HEIGHT1 n) = h ∧
      t.get64 (F.JXL_P_SERIAL_LO n) (F.JXL_P_SERIAL_HI n) = serial % 2 ^ 64 ∧ t.out = .back n 0x08 [BitVec.ofNat 8 n] :: s.out)) ∧
  (∀ s n version vendor model w h serial, s.Ok → s.Sized → takesPackets s n = true → s.link n = 1 → (s.jp n).hellos = 2 → version ≠ 1 →
    s.chState n ≠ 4 →
    ends (exec (.hello n (s.jp n).seq version vendor model w h serial) s) (fun t => t.link n = 5 ∧ t.get (F.JXL_P_STAT_CAUSE n) = 5)) ∧
  (∀ s n headDrop used, s.Ok → s.Sized → takesPackets s n = true →
    ends (exec (.keepalive n (s.jp n).seq headDrop used) s) (fun t => (t.jp n).spent = used % 65536 ∧
      (t.jp n).headDrop = headDrop % 2 ^ 32 ∧ (t.jp n).buf = (s.jp n).buf ∧ t.get (F.JXL_P_HEAD_DROP n) =
        min (2 ^ 32 - 1) (s.get (F.JXL_P_HEAD_DROP n) + (headDrop + 2 ^ 32 - (s.jp n).headDrop) % 2 ^ 32))) ∧
  (∀ s n c, s.Ok → s.Sized → takesPackets s n = true → s.link n = 3 → (s.jp n).granted = false → 1 ≤ c → c ≤ 3 →
    c ≤ s.get (F.JXL_P_CFG_MAX_CLASS n) → s.get F.PPC_GLB_STAT + classWatts c ≤ s.get F.PPC_GLB_CFG_BUDGET_W → s.chState n = 3 →
    ends (exec (.pwrReq n (s.jp n).seq c) s) (fun t => t.get F.PPC_GLB_STAT = s.get F.PPC_GLB_STAT + classWatts c ∧
      t.get (F.PPC_CH_STAT_CLASS n) = c ∧ (t.ch n).waiting = true ∧ (t.jp n).granted = true ∧ t.link n = 3)) ∧
  (∀ s n c, s.Ok → s.Sized → takesPackets s n = true → s.link n = 3 → (s.jp n).granted = false → s.chState n = 3 →
    (c = 0 ∨ 3 < c ∨ s.get (F.JXL_P_CFG_MAX_CLASS n) < c ∨ s.get F.PPC_GLB_CFG_BUDGET_W < s.get F.PPC_GLB_STAT + classWatts c) →
    ends (exec (.pwrReq n (s.jp n).seq c) s) (fun t => t.link n = 5 ∧ t.get (F.JXL_P_STAT_CAUSE n) = 6 ∧
      t.get F.PPC_GLB_STAT = s.get F.PPC_GLB_STAT)) ∧
  (∀ s n, s.Ok → takesPackets s n = true → s.link n = 2 →
    ends (exec (.cfgAck n (s.jp n).seq n) s) (fun t => t.link n = 3 ∧ t.out = .back n 0x06 [] :: s.out)) ∧
  (∀ s n tag result (data : Word), s.Ok → takesPackets s n = true → tag < 4 → s.flag (F.JXL_P_REQ_BUSY n tag) = true →
    ends (exec (.regresp n (s.jp n).seq tag result data) s) (fun t => t.flag (F.JXL_P_REQ_BUSY n tag) = false ∧
      t.get (F.JXL_P_REQ_STATUS n tag) = (if result = 0 then 0 else 1) ∧ t.get (F.JXL_P_REQ_RDATA n tag) = data.toNat ∧
      t.flag (F.JXL_P_STAT_SYNCED n) = s.flag (F.JXL_P_STAT_SYNCED n)))

/-- 04 R150, R152, R153, R175, R66: a loss in one of its states takes the port to LOST with its cause, counts it, clears SYNCED, ends
every register request, takes the port map to IDLE and leaves three RESET_HEAD to send; in STEP it aborts the step, with cause
POWER_ABORT and the port in OFF; in any other state nothing happens.
04 R143, R144, R149, R151, R152, R153, R157, 05 R204, R205: a corrupt packet is counted; the port's own frames leave; after the third
RESET_HEAD of a port lost with VERSION or CLASS_DENIED the port is OFF and its channel cools down to DENIED; a retryable loss leads back
to TRAIN, or past RETRY_MAX to OFF and a power cycle.
04 R150, R153, R164, R175, R177, 05 R186, R205: EN starts the power channel, or takes a port with stage-one power to TRAIN; clearing
EN flushes and counts the buffer and takes port and channel down; GO on a link that is up sends the request, on one that is down
completes it with LINK_LOST, on a busy slot does nothing; a request without answer ends with TIMEOUT. -/
def Obligations.JexlinkLinks : Prop :=
  ((∀ s n r, s.Ok → s.Sized → s.ingOn = true → n < 16 → (s.jp n).granted = false → r ∈ lossRows n → s.link n ∈ r.2.1 → s.chState n ≠ 4 →
      ends (exec r.1 s) (fun t => t.link n = 5 ∧ t.get (F.JXL_P_STAT_CAUSE n) = r.2.2 ∧ t.flag (F.JXL_P_STAT_SYNCED n) = false ∧
        t.get (F.JXL_P_LOST_CNT n) = min (2 ^ 32 - 1) (s.get (F.JXL_P_LOST_CNT n) + 1) ∧ (t.jp n).resets = 3 ∧
        t.get (F.TSB_PT_STAT_STATE n) = 0 ∧ (∀ k, k < 4 → t.flag (F.JXL_P_REQ_BUSY n k) = false ∧
          (s.flag (F.JXL_P_REQ_BUSY n k) = true → t.get (F.JXL_P_REQ_STATUS n k) = 3)) ∧
        (t.jp n).buf = (s.jp n).buf ∧ t.out = .bench .portLost n :: s.out)) ∧
    (∀ s n r, s.Ok → s.Sized → s.ingOn = true → n < 16 → (s.jp n).granted = false → r ∈ lossRows n → s.link n ∈ r.2.1 → s.chState n = 4 →
      ends (exec r.1 s) (fun t => t.link n = 0 ∧ t.get (F.JXL_P_STAT_CAUSE n) = 7 ∧ t.chState n = 6 ∧
        t.get (F.PPC_CH_STAT_CAUSE n) = 5 ∧ (t.ch n).exit = 1 ∧ t.flag (F.PPC_CH_IRQ_ABORT n) = true)) ∧
    (∀ s n r, s.link n ∉ r.2.1 → r ∈ lossRows n → exec r.1 s = .next s)) ∧
  ((∀ s n ev, s.Ok → s.Sized → takesPackets s n = true →
      ends (exec (.corruptPacket n ev) s) (fun t => t.get (F.JXL_P_CRC_ERR n) = min (2 ^ 32 - 1) (s.get (F.JXL_P_CRC_ERR n) + 1) ∧
        t.flag (F.JXL_P_STAT_SYNCED n) = (s.flag (F.JXL_P_STAT_SYNCED n) && !ev) ∧ t.jp n = { s.jp n with hellos := 0 } ∧ t.tb = s.tb)) ∧
    (∀ s n, s.ingOn = true → s.link n = 2 → exec (.configResend n) s = .next (back n 0x08 [BitVec.ofNat 8 n] s)) ∧
    (∀ s n, s.ingOn = true → 1 ≤ s.link n → s.link n ≤ 4 → exec (.backchannelKeepaliveSend n) s = .next (back n 0x01 [] s)) ∧
    (∀ s n, s.ingOn = true → s.link n = 4 → exec (.flowSend n) s =
      .next (back n 0x02 (leBytes 2 (((s.jp n).spent + (32768 - (s.jp n).buf.length) / 64) % 65536) ++
          [BitVec.ofNat 8 (s.get (F.JXL_P_FLOW_PAUSED n))])
        (s.setJp n { s.jp n with limit := ((s.jp n).spent + (32768 - (s.jp n).buf.length) / 64) % 65536 }))) ∧
    (∀ s n, s.ingOn = true → s.link n = 5 → 1 < (s.jp n).resets →
      exec (.resetHeadSend n) s = .next (back n 0x09 [] (s.setJp n { s.jp n with resets := (s.jp n).resets - 1 }))) ∧
    (∀ s n, s.Ok → s.Sized → n < 16 → s.ingOn = true → s.link n = 5 → (s.jp n).resets = 1 →
      (s.get (F.JXL_P_STAT_CAUSE n) = 5 ∨ s.get (F.JXL_P_STAT_CAUSE n) = 6) →
      ends (exec (.resetHeadSend n) s) (fun t => t.link n = 0 ∧ t.chState n = 6 ∧ t.get (F.PPC_CH_STAT_CAUSE n) = 8 ∧ (t.ch n).exit = 9 ∧
        t.out = .back n 0x09 [] :: s.out)) ∧
    (∀ s n, s.Ok → s.Sized → n < 16 → s.ingOn = true → s.link n = 5 → 1 ≤ s.get (F.JXL_P_STAT_CAUSE n) →
      s.get (F.JXL_P_STAT_CAUSE n) ≤ 4 → (s.jp n).retries < s.get (F.JXL_P_CFG_RETRY_MAX n) →
      ends (exec (.lostRetry n) s) (fun t => t.link n = 1 ∧
        t.jp n = { s.jp n with retries := (s.jp n).retries + 1, seq := 0, hellos := 0, resets := 0 } ∧ t.ppc = s.ppc)) ∧
    (∀ s n, s.Ok → s.Sized → n < 16 → s.ingOn = true → s.link n = 5 → 1 ≤ s.get (F.JXL_P_STAT_CAUSE n) →
      s.get (F.JXL_P_STAT_CAUSE n) ≤ 4 → s.get (F.JXL_P_CFG_RETRY_MAX n) ≤ (s.jp n).retries →
      ends (exec (.lostRetry n) s) (fun t => t.link n = 0 ∧ t.chState n = 6 ∧ t.get (F.PPC_CH_STAT_CAUSE n) = 7 ∧ (t.ch n).exit = 1))) ∧
  ((∀ s n, s.Ok → s.Sized → s.ingOn = true → n < 16 → s.flag (F.JXL_P_CFG_MODE n) = false → s.flag (F.PPC_CH_CTL_EN n) = true →
      s.chState n = 0 →
      ends (exec (.jxlEnable .bench n) s) (fun t => t.flag (F.JXL_P_CFG_EN n) = true ∧ t.chState n = 1 ∧ t.get (F.PPC_CH_LIM_ILIM n) = 5 ∧
        t.link n = s.link n)) ∧
    (∀ s n, s.Ok → s.Sized → s.ingOn = true → n < 16 → s.flag (F.JXL_P_CFG_MODE n) = false → 3 ≤ s.chState n → s.chState n ≤ 5 →
      s.link n = 0 →
      ends (exec (.jxlEnable .bench n) s) (fun t => t.flag (F.JXL_P_CFG_EN n) = true ∧ t.link n = 1 ∧ (t.jp n).seq = 0 ∧
        t.chState n = s.chState n)) ∧
    (∀ s n, s.Ok → s.Sized → s.ingOn = true → n < 16 → s.flag (F.JXL_P_CFG_EN n) = true → s.flag (F.JXL_P_CFG_MODE n) = false →
      s.link n ≠ 0 → s.chState n ≠ 0 →
      ends (exec (.jxlDisable .bench n) s) (fun t => t.flag (F.JXL_P_CFG_EN n) = false ∧ t.link n = 0 ∧ t.get (F.JXL_P_STAT_CAUSE n) = 8 ∧
        (t.jp n).buf = [] ∧ t.get (F.JXL_P_RESYNC_DROP n) = min (2 ^ 32 - 1) (s.get (F.JXL_P_RESYNC_DROP n) + (s.jp n).buf.length) ∧
        t.chState n = 6 ∧ (t.ch n).exit = 0)) ∧
    (∀ s n k a w, s.ingOn = true → n < 16 → k < 4 → s.flag (F.JXL_P_REQ_BUSY n k) = true →
      exec (.regRequestGo .bench n k a w) s = .next s) ∧
    (∀ s n k a w, s.Ok → s.ingOn = true → n < 16 → k < 4 → s.flag (F.JXL_P_REQ_BUSY n k) = false → (s.link n = 0 ∨ s.link n = 5) →
      ends (exec (.regRequestGo .bench n k a w) s) (fun t => t.get (F.JXL_P_REQ_STATUS n k) = 3 ∧ t.flag (F.JXL_P_REQ_BUSY n k) = false ∧
        t.out = s.out)) ∧
    (∀ s n k a w, s.Ok → s.ingOn = true → n < 16 → k < 4 → s.flag (F.JXL_P_REQ_BUSY n k) = false → 1 ≤ s.link n → s.link n ≤ 4 →
      ends (exec (.regRequestGo .bench n k a w) s) (fun t => t.flag (F.JXL_P_REQ_BUSY n k) = true ∧
        t.out = (if w then .back n 0x04 (leBytes 1 k ++ leBytes 2 a ++ leBytes 4 (s.get (F.JXL_P_REQ_WDATA n k)))
          else .back n 0x05 (leBytes 1 k ++ leBytes 2 a)) :: s.out)) ∧
    (∀ s n k, s.ingOn = true → s.flag (F.JXL_P_REQ_BUSY n k) = true →
      exec (.regRequestTimeout n k) s = .next ((s.clear (F.JXL_P_REQ_BUSY n k)).set (F.JXL_P_REQ_STATUS n k) 2)))

/-- 04 R167 to R171: a short packet behind nothing acts at once, behind a running program it waits; Frame Start latches T_FS and clears v7;
a packet of another virtual channel is discarded and counted; a good long packet of an enabled type joins the FIFO, one with a bad
header, a bad CRC or more than 16 KiB is counted. -/
def Obligations.CsiPackets : Prop :=
  (∀ s n, s.Ok → s.Sized → csiOn s n = true → (s.cp n).running = false → (s.cp n).fifo = [] →
    ends (exec (.csiFrameStart n (s.get (F.JXL_P_CSI_CFG_VC n))) s) (fun t => t.cp n = { s.cp n with
        tfs := (s.T : Int) - s.get (F.JXL_P_CSI_CFG_PORT_DLY n), v := (s.cp n).v.set 7 0 } ∧
      t.regs = s.regs ∧ t.jxl = s.jxl)) ∧
  (∀ s n c, s.Ok → s.Sized → c ∈ [Instr.csiFrameEnd n (s.get (F.JXL_P_CSI_CFG_VC n)), .csiLineStart n (s.get (F.JXL_P_CSI_CFG_VC n)),
      .csiLineEnd n (s.get (F.JXL_P_CSI_CFG_VC n))] → csiOn s n = true →
    ((s.cp n).running = false → (s.cp n).fifo = [] → ends (exec c s) (fun t => t.cp n = s.cp n ∧ t.regs = s.regs ∧ t.jxl = s.jxl)) ∧
    ((s.cp n).running = true →
      exec c s = .next (s.setCp n { s.cp n with fifo := (s.cp n).fifo ++ [.other] }))) ∧
  (∀ s n, csiOn s n = true → (s.cp n).running = true → exec (.csiFrameStart n (s.get (F.JXL_P_CSI_CFG_VC n))) s =
    .next (s.setCp n { s.cp n with
      fifo := (s.cp n).fifo ++ [.frameStart ((s.T : Int) - s.get (F.JXL_P_CSI_CFG_PORT_DLY n))] })) ∧
  (∀ s n vc, csiOn s n = true → vc ≠ s.get (F.JXL_P_CSI_CFG_VC n) →
    ∀ c ∈ [Instr.csiFrameStart n vc, .csiFrameEnd n vc, .csiLineStart n vc, .csiLineEnd n vc],
      exec c s = .next (s.inc (F.JXL_P_CSI_DT_DISC n))) ∧
  (∀ s n vc dt pay crc, csiOn s n = true → exec (.csiLongPacket n vc dt pay .bad crc) s = .next (s.inc (F.JXL_P_CSI_HDR_BAD n))) ∧
  (∀ s n k pay, csiOn s n = true → k < 8 → bitOf (s.get (F.JXL_P_CSI_CFG_DT_EN n)) k = true → s.flag (F.JXL_P_CSI_STAT n) = false →
    (16384 < pay.length → exec (.csiLongPacket n (s.get (F.JXL_P_CSI_CFG_VC n)) (0x30 + k) pay .good true) s =
      .next (s.inc (F.JXL_P_CSI_LONG n))) ∧
    (pay.length ≤ 16384 → exec (.csiLongPacket n (s.get (F.JXL_P_CSI_CFG_VC n)) (0x30 + k) pay .good false) s =
      .next (s.inc (F.JXL_P_CSI_CRC_ERR n))) ∧
    (csiBytes (s.cp n).fifo + pay.length ≤ 16384 →
      exec (.csiLongPacket n (s.get (F.JXL_P_CSI_CFG_VC n)) (0x30 + k) pay .good true) s =
        .next (s.setCp n { s.cp n with fifo := (s.cp n).fifo ++ [.long (0x30 + k) pay] })))

/-- 04 R170: the parser's instructions, each at its opcode, with `w` the instruction word, d its vd field and e its vs field.
04 R169 to R172: the start and the ends of a parser program, and EMIT: its event in range joins the port buffer with the stamp
T_FS + 125 * v7, out of range it is counted, with the buffer full it stalls and completes once there is room. -/
def Obligations.Parser : Prop :=
  (∀ s n, s.Sized →
      let c := s.cp n
      let w := parserWord s n
      let d := w / 2 ^ 24 % 8
      let e := w / 2 ^ 21 % 8
      let val (i : Nat) := c.v.getD i 0
      (parserAt s n 1 = true → c.ptr + (w / 2 ^ 16 % 32 + 1) ≤ c.payload.length * 8 →
        parserLeaves s n (.parserLd n) (c.v.set d (leNat c.payload / 2 ^ c.ptr % 2 ^ (w / 2 ^ 16 % 32 + 1))) (c.pc + 1)
          (c.ptr + (w / 2 ^ 16 % 32 + 1)) 0) ∧
      (parserAt s n 1 = true → c.payload.length * 8 < c.ptr + (w / 2 ^ 16 % 32 + 1) → exec (.parserLd n) s = .next (parserEnd n s)) ∧
      (parserAt s n 2 = true → c.ptr + w % 65536 ≤ c.payload.length * 8 →
        parserLeaves s n (.parserSkip n) c.v (c.pc + 1) (c.ptr + w % 65536) 0) ∧
      (parserAt s n 2 = true → c.payload.length * 8 < c.ptr + w % 65536 → exec (.parserSkip n) s = .next (parserEnd n s)) ∧
      (parserAt s n 3 = true → parserLeaves s n (.parserLdi n) (c.v.set d (w % 65536)) (c.pc + 1) c.ptr (c.idle + 1)) ∧
      (parserAt s n 4 = true → parserLeaves s n (.parserAdd n)
        (c.v.set d (((val d : Int) + val e + sx 16 w) % 2 ^ 32).toNat) (c.pc + 1) c.ptr (c.idle + 1)) ∧
      (parserAt s n 5 = true → parserLeaves s n (.parserExt n)
        (c.v.set d (val e / 2 ^ (w / 2 ^ 16 % 32) % 2 ^ (w % 32 + 1))) (c.pc + 1) c.ptr (c.idle + 1)) ∧
      (parserAt s n 6 = true → parserLeaves s n (.parserBeq n) c.v (if val d = w % 512 then w / 512 % 128 else c.pc + 1) c.ptr (c.idle + 1)) ∧
      (parserAt s n 7 = true → parserLeaves s n (.parserBne n) c.v (if val d = w % 512 then c.pc + 1 else w / 512 % 128) c.ptr (c.idle + 1)) ∧
      (parserAt s n 8 = true → parserLeaves s n (.parserJmp n) c.v (w / 512 % 128) c.ptr (c.idle + 1))) ∧
  ((∀ s n dt pay l, csiOn s n = true → (s.cp n).running = false → s.flag (F.JXL_P_CSI_STAT n) = false →
      (s.cp n).fifo = .long dt pay :: l → exec (.parserProgramStart n) s = .next (s.setCp n
        { s.cp n with fifo := l, payload := pay, ptr := 0, pc := csiEntry s n dt, running := true, stalled := false, idle := 0,
                      v := List.replicate 7 0 ++ [(s.cp n).v.getD 7 0] })) ∧
    (∀ s n, s.Sized → parserAt s n 0 = true → (s.cp n).fifo = [] → ends (exec (.parserEnd n) s) (fun t =>
      t.cp n = { s.cp n with running := false, stalled := false, payload := [] } ∧ t.regs = s.regs)) ∧
    (∀ s n, s.Ok → s.Sized → parserAt s n 9 = true → (s.cp n).v.getD 4 0 < 2048 → (s.cp n).v.getD 5 0 < 1024 → (s.cp n).v.getD 7 0 < 2 ^ 24 →
      ((s.jp n).buf.length < 32768 → ends (exec (.parserEmit n) s) (fun t =>
        (t.jp n).buf = (s.jp n).buf ++ [⟨(s.cp n).v.getD 4 0, (s.cp n).v.getD 5 0, bitOf ((s.cp n).v.getD 6 0) 0, 0,
          (s.cp n).tfs + 125 * ((s.cp n).v.getD 7 0 : Int), false⟩] ∧
        t.get (F.JXL_P_EV_IN n) = min (2 ^ 32 - 1) (s.get (F.JXL_P_EV_IN n) + 1) ∧ (t.cp n).pc = ((s.cp n).pc + 1) % 128 ∧
        (t.cp n).v = (s.cp n).v)) ∧
      (32768 ≤ (s.jp n).buf.length → exec (.parserEmit n) s = .next (s.setCp n { s.cp n with stalled := true }))) ∧
    (∀ s n, s.Ok → s.Sized → parserAt s n 9 = true →
      (2048 ≤ (s.cp n).v.getD 4 0 ∨ 1024 ≤ (s.cp n).v.getD 5 0 ∨ 2 ^ 24 ≤ (s.cp n).v.getD 7 0) →
      ends (exec (.parserEmit n) s) (fun t => t.get (F.JXL_P_CSI_RANGE n) = min (2 ^ 32 - 1) (s.get (F.JXL_P_CSI_RANGE n) + 1) ∧
        t.jxl = s.jxl ∧ (t.cp n).pc = ((s.cp n).pc + 1) % 128)) ∧
    (∀ s n, s.Ok → s.Sized → csiOn s n = true → (s.cp n).running = true → (s.cp n).stalled = true → (s.jp n).buf.length < 32768 →
      ends (exec (.parserEmitResume n) s) (fun t => (t.cp n).stalled = false ∧ (t.cp n).pc = ((s.cp n).pc + 1) % 128 ∧
        (t.jp n).buf.length = (s.jp n).buf.length + 1)) ∧
    (∀ s n, parserAt s n 10 = true → exec (.parserUnusedOpcode n) s =
      .next ((s.setCp n { s.cp n with running := false, payload := [] }).raise (F.JXL_P_CSI_STAT n))) ∧
    (∀ s n, s.Ok → s.Sized → csiOn s n = true → (s.cp n).running = true → 4096 ≤ (s.cp n).idle →
      ends (exec (.parserWatchdog n) s) (fun t => t.get (F.JXL_P_CSI_WDOG n) = min (2 ^ 32 - 1) (s.get (F.JXL_P_CSI_WDOG n) + 1) ∧
        (t.cp n).running = false)))

/-! ### Port power, the antenna line, pins (05) -/

/-- 05 R186, R187, R188, R194, R196, R201, R206: EN in CSI-2 mode is refused; EN of an enabled port starts detection from OFF; EN = 0
cools the channel down to OFF; a channel in LATCHED or DENIED starts anew at CLR; a detection point outside its window is LOW, two
good ones classify the signature, and a VALID one leads to RAMP1; a failed detection starts anew; a ramp that ends at 21.6 V or more
gives ON24 and stage-one power good.
05 R185, R189, R190, R200, R202, R203: the waiting channel of lowest index steps with its class's limit while fewer than STEP_MAX do;
a step that ends at 43.2 V or more gives ON48, PWR_GRANT and an ACTIVE port; current is held at I_LIM; a step abort and a disconnect
cool down to DETECT; cooldown and back-off end where their cause says; ten good seconds clear ATTEMPT.
05 R199, R200: a fault turns the channel off, is counted, flagged and reported with its cause, takes its port's power, and leads to
BACKOFF, or to LATCHED once the attempts are used up; each fault acts only in its states. -/
def Obligations.PortPower : Prop :=
  ((∀ s n, s.ingOn = true → n < 16 → s.flag (F.JXL_P_CFG_MODE n) = true →
      exec (.ppcEnable .bench n) s = .next (s.raise (F.PPC_CH_CTL_REFUSED n))) ∧
    (∀ s n, s.Ok → s.Sized → s.ingOn = true → n < 16 → s.flag (F.JXL_P_CFG_MODE n) = false → s.flag (F.JXL_P_CFG_EN n) = true →
      s.chState n = 0 →
      ends (exec (.ppcEnable .bench n) s) (fun t => t.flag (F.PPC_CH_CTL_EN n) = true ∧ t.chState n = 1 ∧ t.get (F.PPC_CH_LIM_ILIM n) = 5 ∧
        t.get (F.PPC_CH_STAT_SIG n) = 0 ∧ (t.ch n).points = [])) ∧
    (∀ s, s.Ok → s.ingOn = true → s.chState 16 = 0 →
      ends (exec (.ppcEnable .bench 16) s) (fun t => t.flag (F.PPC_CH_CTL_EN 16) = true ∧ t.chState 16 = 2)) ∧
    (∀ s n, s.Ok → s.Sized → s.ingOn = true → n < 17 → s.chState n ≠ 0 →
      ends (exec (.ppcDisable .bench n) s) (fun t => t.flag (F.PPC_CH_CTL_EN n) = false ∧ t.chState n = 6 ∧ (t.ch n).exit = 0 ∧
        t.get (F.PPC_CH_STAT_CAUSE n) = 9 ∧ t.flag (F.PPC_CH_STAT_PG n) = false ∧
        (n < 16 → s.link n ≠ 0 → t.link n = 0 ∧ t.get (F.JXL_P_STAT_CAUSE n) = 7))) ∧
    (∀ s n, s.Ok → s.Sized → s.ingOn = true → n < 16 → s.chState n = 8 ∨ s.chState n = 9 → mayPower s n = true →
      ends (exec (.ppcClr .bench n) s) (fun t => t.chState n = 1 ∧ t.get (F.PPC_CH_STAT_SIG n) = 0)) ∧
    (∀ s n mv na, s.Ok → s.Sized → s.ingOn = true → n < 16 → s.chState n = 1 → s.get (F.PPC_CH_STAT_SIG n) = 0 → mv < 2 ^ 16 →
      let target := if (s.ch n).points = [] then 4000 else 8000
      (mv * 10 < target * 9 ∨ target * 11 < mv * 10 ∨ 5000000 ≤ na →
        ends (exec (.detectPointEnd n mv na) s) (fun t => t.get (F.PPC_CH_STAT_SIG n) = 2 ∧ t.chState n = 1 ∧
          t.get (F.PPC_CH_VOUT n) = mv)) ∧
      (target * 9 ≤ mv * 10 → mv * 10 ≤ target * 11 → na < 5000000 → (s.ch n).points = [] →
        ends (exec (.detectPointEnd n mv na) s) (fun t => (t.ch n).points = [(mv, na)] ∧ t.chState n = 1 ∧
          t.get (F.PPC_CH_STAT_SIG n) = 0)) ∧
      (∀ v1 i1, (s.ch n).points = [(v1, i1)] → target * 9 ≤ mv * 10 → mv * 10 ≤ target * 11 → na < 5000000 → v1 ≤ mv → i1 < na →
        19000 * (na - i1) ≤ (mv - v1) * 1000000 → (mv - v1) * 1000000 ≤ 26500 * (na - i1) →
        ends (exec (.detectPointEnd n mv na) s) (fun t => t.get (F.PPC_CH_STAT_SIG n) = 1 ∧ t.chState n = 2 ∧
          t.get (F.PPC_CH_LIM_ILIM n) = 250 ∧ (t.ch n).retry = s.get (F.PPC_CH_CFG_RETRY n)))) ∧
    (∀ s n, s.Ok → s.Sized → s.ingOn = true → n < 16 → s.chState n = 1 → s.get (F.PPC_CH_STAT_SIG n) ≠ 0 → mayPower s n = true →
      ends (exec (.detectRetry n) s) (fun t => t.chState n = 1 ∧ t.get (F.PPC_CH_STAT_SIG n) = 0 ∧ (t.ch n).points = [] ∧
        t.get (F.PPC_CH_STAT_ATTEMPT n) = s.get (F.PPC_CH_STAT_ATTEMPT n))) ∧
    (∀ s n mv, s.Ok → s.Sized → s.ingOn = true → n < 16 → s.chState n = 2 → 21600 ≤ mv → s.link n = 0 →
      s.flag (F.JXL_P_CFG_EN n) = true → s.flag (F.JXL_P_CFG_MODE n) = false →
      ends (exec (.ramp1End n mv) s) (fun t => t.chState n = 3 ∧ t.flag (F.PPC_CH_STAT_PG n) = true ∧ t.link n = 1))) ∧
  ((∀ s n, s.Ok → s.Sized → s.ingOn = true → stepping s < s.get F.PPC_GLB_CFG_STEP_MAX → stepNext s = some n →
      ends (exec .stepStart s) (fun t => t.chState n = 4 ∧ (t.ch n).waiting = false ∧ t.flag (F.PPC_CH_STAT_PG n) = false ∧
        t.get (F.PPC_CH_LIM_ILIM n) = classLimit (s.get (F.PPC_CH_STAT_CLASS n)))) ∧
    (∀ s, s.ingOn = true → stepNext s = none ∨ s.get F.PPC_GLB_CFG_STEP_MAX ≤ stepping s → exec .stepStart s = .next s) ∧
    (∀ s n, stepNext s = some n → n < 16 ∧ (s.ch n).waiting = true ∧ s.chState n = 3 ∧
      ∀ m, m < n → ¬ ((s.ch m).waiting = true ∧ s.chState m = 3)) ∧
    (∀ s n mv, s.Ok → s.Sized → s.ingOn = true → n < 16 → s.chState n = 4 → 43200 ≤ mv →
      ends (exec (.stepComplete n mv) s) (fun t => t.chState n = 5 ∧ t.flag (F.PPC_CH_STAT_PG n) = true ∧ t.link n = 4 ∧
        t.flag (F.JXL_P_STAT_SYNCED n) = false ∧ t.get (F.JXL_P_STAT_CLASS n) = s.get (F.PPC_CH_STAT_CLASS n) ∧
        (t.jp n).limit = 512 ∧ (t.jp n).spent = 0 ∧ (t.jp n).seq = 0 ∧
        t.out = .back n 0x02 (leBytes 2 512 ++ [0]) :: .back n 0x07 [BitVec.ofNat 8 (s.get (F.PPC_CH_STAT_CLASS n))] :: s.out)) ∧
    (∀ s n i, s.Ok → s.ingOn = true → n < 17 → 1 ≤ s.chState n → s.chState n ≤ 5 →
      ends (exec (.currentLimit n i) s) (fun t => t.get (F.PPC_CH_IOUT n) = min i (ilim s n * 10) % 2 ^ 16 ∧
        t.flag (F.PPC_CH_STAT_LIMITING n) = decide (ilim s n * 10 < i) ∧ t.chState n = s.chState n)) ∧
    (∀ s n, s.Ok → s.Sized → s.ingOn = true → n < 16 → s.chState n = 4 →
      ends (exec (.stepAbort n) s) (fun t => t.chState n = 6 ∧ t.get (F.PPC_CH_STAT_CAUSE n) = 5 ∧ (t.ch n).exit = 1 ∧
        t.get (F.PPC_CH_ABORTS n) = min (2 ^ 32 - 1) (s.get (F.PPC_CH_ABORTS n) + 1) ∧ t.flag (F.PPC_CH_IRQ_ABORT n) = true ∧
        (s.link n ≠ 0 → t.link n = 0 ∧ t.get (F.JXL_P_STAT_CAUSE n) = 7))) ∧
    (∀ s n, s.Ok → s.Sized → s.ingOn = true → n < 16 → s.chState n = 3 ∨ s.chState n = 5 → (s.ch n).holdEn = true →
      ends (exec (.disconnect n) s) (fun t => t.chState n = 6 ∧ t.get (F.PPC_CH_STAT_CAUSE n) = 6 ∧ (t.ch n).exit = 1)) ∧
    (∀ s n, s.Ok → s.Sized → s.ingOn = true → n < 16 → s.chState n = 6 → mayPower s n = true → s.fw.job = none → s.pmu.dev = none →
      s.flag F.PMU_DEV_CTL_WAKE_PEND = false →
      ends (exec (.cooldownEnd n) s) (fun t => t.chState n = (if (s.ch n).exit = 0 then 0 else if (s.ch n).exit = 9 then 9 else 1) ∧
        ((s.ch n).exit = 9 → t.flag (F.PPC_CH_IRQ_LATCH n) = true))) ∧
    (∀ s n, s.Ok → s.Sized → s.ingOn = true → n < 16 → s.chState n = 7 → mayPower s n = true →
      ends (exec (.backoffEnd n) s) (fun t => t.chState n = 1 ∧
        t.get (F.PPC_CH_STAT_ATTEMPT n) = (s.get (F.PPC_CH_STAT_ATTEMPT n) + 1) % 16)) ∧
    (∀ s n, s.ingOn = true → n < 17 → s.chState n = 3 ∨ s.chState n = 5 →
      exec (.attemptClear n) s = .next (s.clear (F.PPC_CH_STAT_ATTEMPT n)))) ∧
  (∀ s n r, s.Ok → s.Sized → s.ingOn = true → n < 16 →
      r ∈ [(Instr.hardShort n, [2, 3, 4, 5], 1), (.overload n, [2, 3, 4, 5], 2), (.rampFail n, [2, 4], 3), (.undervolt n, [3, 5], 4)] →
      s.flag (F.PPC_CH_STAT_LIMITING n) = true →
      (s.chState n ∈ r.2.1 → ends (exec r.1 s) (fun t =>
        t.chState n = (if (s.ch n).retry ≤ s.get (F.PPC_CH_STAT_ATTEMPT n) then 8 else 7) ∧ t.get (F.PPC_CH_STAT_CAUSE n) = r.2.2 ∧
        t.get (F.PPC_CH_FAULTS n) = min (2 ^ 32 - 1) (s.get (F.PPC_CH_FAULTS n) + 1) ∧ t.flag (F.PPC_CH_IRQ_FAULT n) = true ∧
        ((s.ch n).retry ≤ s.get (F.PPC_CH_STAT_ATTEMPT n) → t.flag (F.PPC_CH_IRQ_LATCH n) = true) ∧
        t.flag (F.PPC_CH_STAT_LIMITING n) = false ∧ t.flag (F.PPC_CH_STAT_PG n) = false ∧ .bench .ppcFault n ∈ t.out ∧
        (s.link n ≠ 0 → t.link n = 0 ∧ t.get (F.JXL_P_STAT_CAUSE n) = 7))) ∧
      (s.chState n ∉ r.2.1 → exec r.1 s = .next s))

/-- 05 R207 to R211: commands queue frames, an I frame only for an address in NRM, a full buffer sets TX_OVF; the transmitter sends the
oldest frame that may go, with its FCS; received frames are counted as aborted, short, long, damaged or foreign, or delivered; a
missing answer leads to a retransmission, and after N2 of them to FAILED; polling asks each address in NRM.
05 R212, R213: an interrupt condition on an input pin sets its PEND bit and no other; an alarm pin that changes sets its LATCH bit and
no other; while the device does not sleep, nothing else changes but a report to Bench. -/
def Obligations.SiteControl : Prop :=
  ((∀ s e len, s.Ok → s.ingOn = true → e < 32 → len < 2048 → aldState s e = 2 → s.ald.queue = [] →
      ends (exec (.aldICommand .bench e len) s) (fun t => t.ald.queue = [⟨e, true, 0, aldBuffer s len⟩] ∧ t.ald.addrs = s.ald.addrs ∧
        t.flag F.SITE_ALD_STAT_TX_BUSY = true)) ∧
    (∀ s e len, s.Ok → s.ingOn = true → e < 32 → len < 2048 → aldState s e ≠ 2 →
      ends (exec (.aldICommand .bench e len) s) (fun t => t.ald = s.ald)) ∧
    (∀ s e len, s.Ok → s.ingOn = true → e < 32 → 0 < len → len < 2048 → s.ald.queue = [] →
      ends (exec (.aldRawCommand .bench e len) s) (fun t =>
        t.ald.queue = [⟨e, false, (((aldBuffer s len).headD 0) ||| 0x10).toNat, (aldBuffer s len).drop 1⟩])) ∧
    (∀ s f, 2048 < (s.ald.queue.map AldFrame.size).sum + f.size → aldPush f s = s.raise F.SITE_ALD_STAT_TX_OVF) ∧
    (∀ s e p l, s.Ok → s.Sized → e < 32 → s.ingOn = true → s.flag F.SITE_ALD_CFG_EN = true → s.ald.queue = ⟨e, true, 0, p⟩ :: l →
      aldState s e = 2 → (s.aa e).unacked.length < s.get F.SITE_ALD_CFG_WINDOW → (s.aa e).vs < 8 → (s.aa e).vr < 8 →
      ends (exec .aldTxStart s) (fun t => t.ald.queue = l ∧ (t.aa e).vs = ((s.aa e).vs + 1) % 8 ∧
        (t.aa e).unacked = (s.aa e).unacked ++ [((s.aa e).vs, p)] ∧
        (let b := BitVec.ofNat 8 (aldAddr s e) :: BitVec.ofNat 8 ((s.aa e).vs * 2 + 0x10 + (s.aa e).vr * 32) :: p
         t.out = .rs485 (b ++ leBytes 2 (fcs16 b)) :: s.out))) ∧
    (∀ s fr, s.ingOn = true → s.flag F.SITE_ALD_CFG_EN = true →
      exec (.aldFrameRx fr true) s = .next (s.inc F.SITE_ALD_ABORT) ∧
      (fr.length < 4 → exec (.aldFrameRx fr false) s = .next (s.inc F.SITE_ALD_SHORT)) ∧
      (1536 < fr.length → exec (.aldFrameRx fr false) s = .next (s.inc F.SITE_ALD_LONG)) ∧
      (4 ≤ fr.length → fr.length ≤ 1536 →
        (fcs16 (fr.take (fr.length - 2)) ≠ leNat (fr.drop (fr.length - 2)) →
          exec (.aldFrameRx fr false) s = .next (s.inc F.SITE_ALD_CRC_ERR)) ∧
        (fcs16 (fr.take (fr.length - 2)) = leNat (fr.drop (fr.length - 2)) →
          ((List.range 32).find? (fun i => aldValid s i && aldAddr s i == (fr.headD 0).toNat) = none →
            (fr.headD 0).toNat ≠ 0xFF → s.flag F.SITE_ALD_CFG_PROMISC = false →
            exec (.aldFrameRx fr false) s = .next (s.inc F.SITE_ALD_ADDR_DROP)) ∧
          (∀ i, (List.range 32).find? (fun i => aldValid s i && aldAddr s i == (fr.headD 0).toNat) = some i →
            exec (.aldFrameRx fr false) s =
              .next (aldLink i (fr.getD 1 0).toNat (aldDeliver (fr.take (fr.length - 2)) s)))))) ∧
    (∀ s e, s.Ok → s.Sized → s.ingOn = true → s.flag F.SITE_ALD_CFG_EN = true → e < 32 → aldState s e = 2 →
      (s.get F.SITE_ALD_CFG_N2 ≤ (s.aa e).tries →
        ends (exec (.aldResponseTimeout e) s) (fun t => aldState t e = 3 ∧ t.flag F.SITE_ALD_STAT_FAILED_IRQ = true ∧
          t.out = .bench .aldFailed e :: s.out ∧ (∀ i, i < 32 → i ≠ e → aldState t i = aldState s i))) ∧
      ((s.aa e).tries < s.get F.SITE_ALD_CFG_N2 → s.ald.queue = [] → (s.aa e).unacked = [] →
        ends (exec (.aldResponseTimeout e) s) (fun t => (t.aa e).tries = (s.aa e).tries + 1 ∧
          t.ald.queue = [⟨e, false, 0x11 + (s.aa e).vr * 32, []⟩]))) ∧
    (∀ s, s.ingOn = true → s.flag F.SITE_ALD_CFG_EN = true → s.ald.queue = [] → s.get F.SITE_ALD_POLL ≠ 0 →
      ends (exec .aldPoll s) (fun t => t.ald.queue = ((List.range 32).filter (fun i => aldValid s i && aldState s i == 2)).map
        (fun i => ⟨i, false, 0x11 + (s.aa i).vr * 32, []⟩) ∧ t.ald.addrs = s.ald.addrs))) ∧
  ((∀ s n lvl, s.Ok → n < 24 → s.pins.porst = false → s.flag F.PMU_WAKE_EN_GPIO = false →
      bitOf (s.get F.SITE_GPIO_DIR) n = false →
      gpioHit (bitsOf (s.get (F.SITE_GPIO_IMODE (n / 16))) (2 * (n % 16) + 1) (2 * (n % 16))) (bitOf s.pins.gpio n) lvl = true →
      ends (exec (.gpioInterrupt n lvl) s) (fun t => bitOf (t.get F.SITE_GPIO_ISTAT) n = true ∧
        (∀ m, m < 24 → m ≠ n → bitOf (t.get F.SITE_GPIO_ISTAT) m = bitOf (s.get F.SITE_GPIO_ISTAT) m) ∧
        (∀ f : Fld, f.off ≠ F.SITE_GPIO_ISTAT.off → t.get f = s.get f) ∧ bitOf t.pins.gpio n = lvl ∧ t.tiles = s.tiles)) ∧
    (∀ s n lvl, s.Ok → n < 8 → s.pins.porst = false → s.flag F.PMU_WAKE_EN_ALM = false → bitOf s.pins.alarm n ≠ lvl →
      ends (exec (.alarmChange n lvl) s) (fun t => bitOf (t.get F.SITE_ALM_LATCH) n = true ∧
        (∀ m, m < 8 → m ≠ n → bitOf (t.get F.SITE_ALM_LATCH) m = bitOf (s.get F.SITE_ALM_LATCH) m) ∧
        (∀ f : Fld, f.off ≠ F.SITE_ALM_LATCH.off → t.get f = s.get f) ∧ bitOf t.pins.alarm n = lvl ∧ t.tiles = s.tiles)) ∧
    (∀ s n lvl, bitOf s.pins.alarm n = lvl → exec (.alarmChange n lvl) s = .next s))

/-! ### Sprue gates and the spectral encoder (06, 07) -/

/-- 06 R218, R222, R224, R228, R230: an event in its epoch that maps to one entry is admitted under BACKPRESS or DROP while tokens remain:
one token is charged, IN, ADMITTED and EVW count it, it leaves its stream, and its EVW waits for the ingress node with the entry's
node, the target of R228, the gate's value and the offset from the epoch's start. -/
def Obligations.GateAdmission : Prop :=
  ∀ (s : State) (g : Nat) (e : Ev) (m : List Nat), s.Ok → s.Sized → s.ingOn = true → g < 32 → (s.gate g).ready = [] →
    gateHead s g = some e → s.running = true → s.aflag (F.ADM_GATE_CFG_EN g) = true → s.flag (F.ADM_GATE_STAT_HOLDING g) = false →
    e.poisoned = false → e.t ≤ s.T → startBack s 0 ≤ e.t → startBack s (gateLag s g) ≤ e.t →
    (s.aget (F.ADM_GATE_CFG_POLICY g) = 0 ∨ s.aget (F.ADM_GATE_CFG_POLICY g) = 3) → 0 < s.get (F.ADM_GATE_STAT_TOKENS g) →
    let x := e.x / 2 ^ s.aget (F.ADM_GATE_CFG_BIN g)
    let y := e.y / 2 ^ s.aget (F.ADM_GATE_CFG_BIN g)
    let w (k : Nat) := m.getD k 0
    let target := bitsOf (w 3) 15 0 + (y - bitsOf (w 1) 9 0) * bitsOf (w 3) 31 16 + (x - bitsOf (w 0) 10 0)
    mapMatch s g x y = [m] → target ≤ 65535 → nodeOk s (bitsOf (w 2) 11 0) = true →
    ends (exec (.gateAdmit g) s) (fun t =>
      (t.gate g).ready = [.evw ⟨bitsOf (w 2) 11 0, target, gateValue s g e, (e.t - startBack s 0).toNat % 2 ^ 20,
        (if g < 16 then 0 else if y = 0 then 1 else 2), false, false, false, none⟩] ∧
      t.get (F.ADM_GATE_STAT_TOKENS g) = s.get (F.ADM_GATE_STAT_TOKENS g) - 1 ∧
      (∀ k, k < 3 → t.get (F.ADM_GATE_CNT g k) = (s.get (F.ADM_GATE_CNT g k) + 1) % 2 ^ 32) ∧
      (∀ k, 3 ≤ k → k < 16 → t.get (F.ADM_GATE_CNT g k) = s.get (F.ADM_GATE_CNT g k)) ∧
      (g < 16 → (t.jp g).buf = (s.jp g).buf.drop 1) ∧ (16 ≤ g → (t.flow (g - 16)).evq = (s.flow (g - 16)).evq.drop 1) ∧
      (t.gate g).merge = (s.gate g).merge ∧ (∀ h, h ≠ g → t.gate h = s.gate h) ∧ t.tiles = s.tiles ∧ t.fab = s.fab ∧ t.tb = s.tb)

/-- 06 R224, R230, R244: what does not lead to an EVW of the event's own: a gate that is off, a hold in force, poison, an event
too far in the future, one of the future that waits, one too late, one without a mapping, and each policy without tokens.
06 R223, R232, R235: a merge entry past its window leaves the cache and forms its EVWs; an ingress node injects the first EVW of its
next ready gate under the remap table while it holds credit; a closing epoch empties the merge cache and puts the mark behind the
gate's last EVW; an opening one renews the tokens and copies the counters. -/
def Obligations.GateLimits : Prop :=
  (∀ (s : State) (g : Nat) (e : Ev), s.ingOn = true → g < 32 → (s.gate g).ready = [] → gateHead s g = some e →
      (s.running = false ∨ s.aflag (F.ADM_GATE_CFG_EN g) = false → exec (.gateAdmit g) s = .next (gcount g .offDrop (gateTake g s))) ∧
      (s.running = true → s.aflag (F.ADM_GATE_CFG_EN g) = true →
        (s.flag (F.ADM_GATE_STAT_HOLDING g) = true → exec (.gateAdmit g) s = .next s) ∧
        (s.flag (F.ADM_GATE_STAT_HOLDING g) = false →
          (e.poisoned = true → exec (.gateAdmit g) s = .next (gcount g .poison (poisonSink g (gcount g .evIn (gateTake g s))))) ∧
          (e.poisoned = false →
            ((s.T : Int) + s.aget (F.ADM_GATE_FUT g) < e.t →
              exec (.gateAdmit g) s = .next (gcount g .futDrop (gcount g .evIn (gateTake g s)))) ∧
            (s.T < e.t → e.t ≤ s.T + s.aget (F.ADM_GATE_FUT g) → exec (.gateAdmit g) s = .next s ∧
              (e.t < s.tb.next → exec (.futureHoldEnd g) s = .next (gateAdmit g e (advanceTo e.t.toNat s)))) ∧
            (e.t ≤ s.T → e.t < startBack s (gateLag s g) → s.aget (F.ADM_GATE_CFG_LATE_POL g) = 0 →
              exec (.gateAdmit g) s = .next (gcount g .lateDrop (gcount g .evIn (gateTake g s)))) ∧
            (e.t ≤ s.T → startBack s (gateLag s g) ≤ e.t →
              mapMatch s g (e.x / 2 ^ s.aget (F.ADM_GATE_CFG_BIN g)) (e.y / 2 ^ s.aget (F.ADM_GATE_CFG_BIN g)) = [] →
              exec (.gateAdmit g) s = .next (gcount g .nomap (gcount g .evIn (gateTake g s)))) ∧
            (e.t ≤ s.T → startBack s (gateLag s g) ≤ e.t → s.get (F.ADM_GATE_STAT_TOKENS g) = 0 →
              mapMatch s g (e.x / 2 ^ s.aget (F.ADM_GATE_CFG_BIN g)) (e.y / 2 ^ s.aget (F.ADM_GATE_CFG_BIN g)) ≠ [] →
              (s.aget (F.ADM_GATE_CFG_POLICY g) = 0 → exec (.gateAdmit g) s =
                .next (flowPause g (gcount g .heldEp (s.raise (F.ADM_GATE_STAT_HOLDING g))))) ∧
              (s.aget (F.ADM_GATE_CFG_POLICY g) = 3 →
                exec (.gateAdmit g) s = .next (gcount g .drop (gcount g .evIn (gateTake g s))))))))) ∧
  ((∀ (s : State) (g i : Nat) (m : MergeEntry), s.ingOn = true → g < 32 → (s.gate g).merge[i]? = some m → m.t0 + s.aget (F.ADM_GATE_MERGE g) < s.T →
      exec (.mergeEntryClose g i) s =
        .next (closeMerge g m (s.setGate g { s.gate g with merge := (s.gate g).merge.eraseIdx i }))) ∧
    (∀ s k i e rest, s.ingOn = true → s.fabOn = true → k < 8 → hasCredit s (0xF00 + k) false = true →
      roundRobin ((List.range 4).filter (fun i => gateReady s ((nodeGates k).getD i 0))) (s.fab.inPtr.getD k 0) 4 = some i →
      (s.gate ((nodeGates k).getD i 0)).ready = .evw e :: rest → (∀ f l, rest ≠ .mark f :: l) →
      exec (.ingressInject (0xF00 + k)) s =
        .next (injectEvw (0xF00 + k) e ((s.setFab { s.fab with inPtr := s.fab.inPtr.set k ((i + 1) % 4) }).setGate
          ((nodeGates k).getD i 0) { s.gate ((nodeGates k).getD i 0) with ready := rest }))) ∧
    (∀ s g, s.Sized → g < 32 → (s.gate g).merge = [] → ((gateClose g s).gate g).ready = (s.gate g).ready ++ [.mark s.epochNum] ∧
      ((gateClose g s).gate g).merge = [] ∧ (∀ h, h ≠ g → (gateClose g s).gate h = s.gate h)) ∧
    (∀ s g, s.Ok → s.Sized → g < 32 →
      (gateOpen g s).get (F.ADM_GATE_STAT_TOKENS g) = s.aget (F.ADM_GATE_BUDGET g) ∧
      (gateOpen g s).flag (F.ADM_GATE_STAT_HOLDING g) = false ∧ ((gateOpen g s).gate g).thin = 0 ∧
      (∀ k, k < 16 → (gateOpen g s).get (F.ADM_GATE_SNAP g k) = s.get (F.ADM_GATE_CNT g k))))

/-- 07 R249, R251, R253, R254, R260, R269: the engines take the oldest section of the next flow that has one and room, and count it as
malformed, as not placeable, or join it to a symbol; a symbol that closes waits for its groups and is counted; a flow that is disabled loses its
sections, symbols, queue and references.
07 R255 to R258: a level lies within 1 of 256 * log2 of the energy; a group with all its PRBs and a reference emits an event when
its level differs by THR or more, with the number of thresholds and the reference moved by as many, and nothing otherwise; a group
without reference emits its floor event; the symbol's processing counts it. -/
def Obligations.Encoder : Prop :=
  ((∀ s n x, s.ingOn = true → ((List.range 16).map (fun i => (s.see.next + i) % 16)).find? (flowReady s) = some n →
      s.see.fifo.find? (·.flow = n) = some x →
      let u := (s.setSee { s.see with fifo := s.see.fifo.erase x, next := (n + 1) % 16 }).inc (F.SEE_F_SECT_IN x.flow)
      (x.bad = true → exec .sectionProcess s = .next (u.inc (F.SEE_F_MALFORMED x.flow))) ∧
      (x.bad = false → placeable (u.aget (F.SEE_F_CFG_MU x.flow)) x = false →
        exec .sectionProcess s = .next (u.inc (F.SEE_F_BADPLACE x.flow))) ∧
      (x.bad = false → placeable (u.aget (F.SEE_F_CFG_MU x.flow)) x = true →
        exec .sectionProcess s = .next (joinFlow x.flow x (sectionTime u x.flow (u.aget (F.SEE_F_CFG_MU x.flow)) x)
          (u.setSee { u.see with prbs := u.see.prbs + x.count })))) ∧
    (∀ s n x t y, s.Sized → n < 16 → (s.flow n).opens = [y] → y.t = t → (joinFlow n x t s).flow n =
      { s.flow n with opens := [{ (joinSection x y).1 with lastJoin := s.T }] }) ∧
    (∀ s n i y, s.Ok → s.Sized → s.ingOn = true → n < 16 → (s.flow n).opens[i]? = some y →
      ends (exec (.symbolCloseTimeout n i) s) (fun t => (t.flow n).closed = (s.flow n).closed ++ [y] ∧ y ∉ (t.flow n).opens ∧
        (t.flow n).lastClosed = some y.t ∧ (t.flow n).evq = (s.flow n).evq ∧
        t.get (F.SEE_F_SYM_CLOSED n) = min (2 ^ 32 - 1) (s.get (F.SEE_F_SYM_CLOSED n) + 1) ∧ (∀ m, m ≠ n → t.flow m = s.flow m))) ∧
    (∀ s n, s.Ok → s.Sized → s.ingOn = true → n < 16 →
      ends (exec (.flowDisable .bench n) s) (fun t => t.flag (F.SEE_F_CFG_EN n) = false ∧ t.aflag (F.SEE_F_CFG_EN n) = false ∧
        (∀ x, x ∈ t.see.fifo ↔ x ∈ s.see.fifo ∧ x.flow ≠ n) ∧
        t.flow n = { s.flow n with opens := [], closed := [], evq := [], refs := [], badGroups := [] } ∧
        (∀ m, m ≠ n → t.flow m = s.flow m)))) ∧
  ((∀ i e, 0 < e → e ^ 256 ≤ 2 ^ (level i e + 1) ∧ 2 ^ level i e ≤ 2 * e ^ 256) ∧ (∀ i, level i 0 = 0) ∧
    (∀ (s : State) (n g : Nat) (y : Sym) (r : Int), s.Ok → s.Sized → n < 16 → y.poisoned = [] → (s.flow n).badGroups = [] →
      groupValid y g = true → (s.flow n).refs.any (·.1 = g) = true → sparseGet (fun _ => 0) (s.flow n).refs g = r → y.cfg.floorN = 0 →
      0 < y.cfg.thr →
      let l : Int := level s.freeCtr (sparseGet (fun _ => 0) y.energy g)
      let q := (l - r).tdiv y.cfg.thr
      let v := clampI (-127) 127 q
      ((l - r).natAbs < y.cfg.thr → processGroup n y s g = s.tick) ∧
      (y.cfg.thr ≤ (l - r).natAbs →
        ((processGroup n y s g).flow n).evq = (s.flow n).evq ++ [⟨g, 0, false, v, y.t, false⟩] ∧
        sparseGet (fun _ => 0) ((processGroup n y s g).flow n).refs g = r + v * y.cfg.thr)) ∧
    (∀ (s : State) (n g : Nat) (y : Sym), s.Ok → s.Sized → n < 16 → y.poisoned = [] → (s.flow n).badGroups = [] →
      groupValid y g = true → (s.flow n).refs.any (·.1 = g) = false → 0 < y.cfg.thr →
      let l : Int := level s.freeCtr (sparseGet (fun _ => 0) y.energy g)
      let v := clampI (-128) 127 ((2 * (l - (y.cfg.floorBase : Int)) + (y.cfg.thr : Int)) / (2 * (y.cfg.thr : Int)))
      ((processGroup n y s g).flow n).evq = (s.flow n).evq ++ [⟨g, 1, false, v, y.t, false⟩] ∧
      sparseGet (fun _ => 0) ((processGroup n y s g).flow n).refs g = (y.cfg.floorBase : Int) + v * (y.cfg.thr : Int)) ∧
    (∀ s n y l, s.ingOn = true → (s.flow n).closed = y :: l →
      exec (.symbolProcess n) s = .next (processSym n y (s.setFlow n { s.flow n with closed := l }))) ∧
    (∀ s n, s.ingOn = true → (s.flow n).closed = [] → exec (.symbolProcess n) s = .next s) ∧
    (∀ s n y, s.Ok → s.Sized → n < 16 → y.cfg.ngrp = 0 → (s.flow n).refGen = y.gen →
      (processSym n y s).get (F.SEE_F_CNT n) = (s.get (F.SEE_F_CNT n) + 1) % 2 ^ 32 ∧ (processSym n y s).flow n = s.flow n))

/-! ### The event fabric (08) -/

/-- 08 R275, R276, R279, R310: XY routing takes a flit one router nearer with each hop and delivers it where its destination is attached;
the granted flit leaves its buffer and joins the next one whole, with a parity error in its first flit as a poisoned EVW, with one in
its second not at all; without room it stays. -/
def Obligations.FabricRouting : Prop :=
  (∀ r dst, r < 192 → attach dst < 192 → (r = attach dst ↔ 4 ≤ routeOut r dst) ∧
    (r ≠ attach dst → (neighbour r (routeOut r dst)).1 < 192 ∧
      meshDist (neighbour r (routeOut r dst)).1 (attach dst) + 1 = meshDist r (attach dst))) ∧
  (∀ s r o p i l, s.Ok → s.fabOn = true → r < s.cfg.tiles → r < 192 → o < 4 → contenders s r o true = [] →
    roundRobin (contenders s r o false) (sparseGet (fun _ => ({} : OutPort)) s.fab.outs (r * 6 + o)).ptrEv 6 = some p →
    s.buf (bufKey r p false) = i :: l → i.body.ct = false → roomFor s r o i = true →
    bufKey (neighbour r o).1 (neighbour r o).2 false ≠ bufKey r p false →
    let k := bufKey (neighbour r o).1 (neighbour r o).2 false
    ends (exec (.flitForward r o false false) s) (fun t => t.buf (bufKey r p false) = l ∧ t.buf k = s.buf k ++ [i] ∧ t.regs = s.regs ∧
      (∀ j, j ≠ k → j ≠ bufKey r p false → t.buf j = s.buf j) ∧ t.fab.rx = s.fab.rx ∧ t.tiles = s.tiles) ∧
    ends (exec (.flitForward r o false true) s) (fun t => t.buf (bufKey r p false) = l ∧ t.buf k = s.buf k ∧
      t.get F.EVF_PERR = min (2 ^ 32 - 1) (s.get F.EVF_PERR + 1)) ∧
    (∀ e, i.body = .evw e → ends (exec (.flitForward r o true false) s) (fun t =>
      t.buf k = s.buf k ++ [{ i with body := .evw { e with poisoned := true } }]))) ∧
  (∀ s r p i l, s.Ok → s.fabOn = true → r < s.cfg.tiles → contenders s r 5 true = [] →
    roundRobin (contenders s r 5 false) (sparseGet (fun _ => ({} : OutPort)) s.fab.outs (r * 6 + 5)).ptrEv 6 = some p →
    s.buf (bufKey r p false) = i :: l → i.body.ct = false → roomFor s r 5 i = true →
    ends (exec (.flitForward r 5 false false) s) (fun t => t.buf (bufKey r p false) = l ∧ t.rx r = s.rx r ++ [i]))

/-- 08 R292, R293, R433, R434, R690, R694, 11 R438: an EVW that reaches a tile goes by its class's route to the engine's queue with its
time of origin, to the inbox or away, and to the drop sink where the tile takes none; an EB flit is recorded and counted in EB_SYNC, or
discarded below EB_FLOOR; a fence is counted. -/
def Obligations.TileArrivals : Prop :=
  (∀ s n d r e l, s.Ok → s.Sized → ifaceOn s n = true → n < 192 → s.rx n = ⟨d, r, .evw e⟩ :: l →
    (tileDrops s n = true → exec (.evwDelivery n) s = .next (dropAt n (s.setRx n l))) ∧
    (tileDrops s n = false → e.wide = none → routeOf s n e.cls = 0 → s.flag (F.NE_CTL_EN n) = true → (s.ne n).queue.length < 64 →
      ends (exec (.evwDelivery n) s) (fun t => (t.ne n).queue = (s.ne n).queue ++ [⟨e, evwTime s n e⟩] ∧ t.rx n = l ∧ t.regs = s.regs ∧
        (t.tile n).mem = (s.tile n).mem)) ∧
    (tileDrops s n = false → e.wide = none → routeOf s n e.cls = 1 →
      exec (.evwDelivery n) s = .next (inboxWrite n [e.bits] (s.setRx n l))) ∧
    (tileDrops s n = false → e.wide = none → 2 ≤ routeOf s n e.cls →
      exec (.evwDelivery n) s = .next (neCount n .clsDrop 1 (s.setRx n l))) ∧
    (∀ p, tileDrops s n = false → e.wide = some p → exec (.evwDelivery n) s = .next (inboxWrite n [e.bits, p] (s.setRx n l)))) ∧
  (∀ s n d r ep l, ifaceOn s n = true → s.rx n = ⟨d, r, .eb ep⟩ :: l →
    (s.flag (F.TILE_CHG_CTL_EBF_EN n) = true → sx 32 ((ep + 2 ^ 32 - s.get (F.TILE_CHG_EBF n)) % 2 ^ 32) < 0 →
      exec (.ebFlitRxTile n) s = .next ((s.setRx n l).inc (F.TILE_CHG_STAT_EB_DISC n))) ∧
    (s.flag (F.TILE_CHG_CTL_EBF_EN n) = false → exec (.ebFlitRxTile n) s =
      .next (windowApply (localKey n (s.get (F.EVF_T_EB_CFG n))) 1 1 ((s.setRx n l).set (F.EVF_T_LAST_EB n) ep)))) ∧
  (∀ s n d r ep l, s.Ok → ifaceOn s n = true → n < 192 → s.rx n = ⟨d, r, .fence ep false⟩ :: l →
    s.get (F.EVF_FENCE_RX_EV_CNT n) + 1 < s.cfg.tiles + 12 → s.cfg.tiles ≤ 192 →
    ends (exec (.fenceRx n false) s) (fun t => t.get (F.EVF_FENCE_RX_EV_CNT n) = s.get (F.EVF_FENCE_RX_EV_CNT n) + 1 ∧ t.rx n = l ∧
      t.get (F.EVF_FENCE_RX_CT_CNT n) = s.get (F.EVF_FENCE_RX_CT_CNT n) ∧ t.flag (F.EVF_FENCE_RX_DONE n) = s.flag (F.EVF_FENCE_RX_DONE n)))

/-- 08 R283, R285, R286, R311: a send takes the list's descriptor and words from tile memory and injects one copy per word, under the
remap table, or counts FAN_ERR for a list that does not exist, a descriptor or target out of range.
08 R288, R291, R296, R297, R299, R300, R301, R309, R312, R915: at edge nodes EB flits are recorded, counted and passed on by the
kind of node; an SP node that has received EB_EXPECT of them sends its list's; a span port with lock, alignment and the expected peer comes up with 512
credits; a group with a bad CRC is discarded and counted; a port that falls drops what waits; ARM and a stall are recorded. -/
def Obligations.FabricSends : Prop :=
  ((∀ s n p ps, ifaceOn s n = true → s.tileOn n = true → hasCredit s n false = true → (s.seq n).sendq = p :: ps → (s.ne n).outq = [] →
      exec (.fanoutSend n) s = .next (formSend n p (s.setSeq n { s.seq n with sendq := ps, neTurn := true }))) ∧
    (∀ s n p ps, ifaceOn s n = true → s.tileOn n = true → hasCredit s n false = true → (s.seq n).sendq = [] → (s.ne n).outq = p :: ps →
      exec (.fanoutSend n) s =
        .next (formSend n p ((s.setNe n { s.ne n with outq := ps }).setSeq n { s.seq n with neTurn := false }))) ∧
    (∀ s n l idx e, s.flag F.EVF_CTL_ACTIVE = false →
      (s.get (F.EVF_T_FAN_CFG0_NLIST n) ≤ l → fanSend n l idx e s = s.inc (F.EVF_T_FAN_ERR n)) ∧
      (∀ d w, l < s.get (F.EVF_T_FAN_CFG0_NLIST n) → fanWord s n l = some d → bitsOf d 16 11 = 1 →
        bitsOf d 10 0 < s.get (F.EVF_T_FAN_CFG0_SIZE n) → fanWord s n (bitsOf d 10 0) = some w →
        let target := if bitOf w 12 then bitsOf w 31 16 else idx + bitsOf w 31 16
        (65535 < target → fanSend n l idx e s = s.inc (F.EVF_T_FAN_ERR n)) ∧
        (target ≤ 65535 → bitOf w 13 = false →
          fanSend n l idx e s = injectEvw n { e with node := bitsOf w 11 0, target := target } s) ∧
        (target ≤ 65535 → bitOf w 13 = true → bitsOf w 15 14 ≠ devId s → bitsOf w 15 14 < ringSize s →
          fanSend n l idx e s = inject ⟨0xF0E + spanTo s (bitsOf w 15 14), n,
            .remote (bitsOf w 15 14) { e with node := bitsOf w 11 0, target := target }⟩ s))) ∧
    (∀ s n i, fanWord s n i = (if 0xC000 < s.get (F.EVF_T_FAN_BASE0 n) + 4 * i + 4 ∨ (s.tile n).bad (s.get (F.EVF_T_FAN_BASE0 n) + 4 * i) 4
        then none else some ((s.tile n).nat (s.get (F.EVF_T_FAN_BASE0 n) + 4 * i) 4)) ∨ s.flag F.EVF_CTL_ACTIVE = true) ∧
    (∀ s src e, (remap s e.node = none → injectEvw src e s = dropAt src s) ∧
      (∀ p, src < 0xF00 → remap s e.node = some p →
        injectEvw src e s = s.setBuf (bufKey src 4 false) (s.buf (bufKey src 4 false) ++ [⟨p, src, .evw { e with node := p }⟩])))) ∧
  ((∀ s e d r ep l, s.fabOn = true → e < 14 → s.rx (0xF00 + e) = ⟨d, r, .eb ep⟩ :: l →
      let u := ((s.setRx (0xF00 + e) l).set (F.EVF_E_LAST_EB e) ep).inc (F.EVF_E_EB_RX e)
      exec (.ebFlitRxEdge (0xF00 + e)) s =
        .next (if e = 12 ∨ e = 13 then u.setFab { u.fab with sink := u.fab.sink ++ [⟨d, r, .eb ep⟩] } else dropAt (0xF00 + e) u)) ∧
    (∀ s p d r ep l, s.fabOn = true → p < 2 → s.rx (0xF0E + p) = ⟨d, r, .eb ep⟩ :: l → exec (.ebFlitRxEdge (0xF0E + p)) s =
        .next (spanQueue p ⟨d, r, .eb ep⟩ (((s.setRx (0xF0E + p) l).set (F.EVF_E_LAST_EB (14 + p)) ep).inc (F.EVF_E_EB_RX (14 + p))))) ∧
    (∀ s p c ep, s.fabOn = true → p < 2 → s.fab.spEb.getD p (0, 0) = (c, ep) → ebExpect s p ≠ 0 → ebExpect s p ≤ c →
      exec (.spEbEmit p) s =
        .next (sendEb (0xF0E + p) ep (s.setFab { s.fab with spEb := s.fab.spEb.set p (c - ebExpect s p, ep) }))) ∧
    (∀ s p c ep, s.fab.spEb.getD p (0, 0) = (c, ep) → c < ebExpect s p → exec (.spEbEmit p) s = .next s) ∧
    (∀ s, s.fabOn = true → exec (.routeArm .bench) s = .next (s.raise F.EVF_CTL_ARM)) ∧
    (∀ s p, s.Ok → s.fabOn = true → p < 2 → s.fab.span.length = 2 → s.flag F.EVF_SPAN_CFG_EN0 = true → s.flag F.EVF_SPAN_CFG_EN1 = true →
      spanUp s p = false →
      ends (exec (.spanPortUp p (spanPeer s p) (ringSize s) true true) s) (fun t => spanUp t p = true ∧
        t.get (F.EVF_SPAN_STAT_LANE_LOCK p) = 15 ∧ t.flag (F.EVF_SPAN_STAT_ALIGNED p) = true ∧ t.sp p = ⟨512, []⟩) ∧
      (∀ peer ring, peer ≠ spanPeer s p ∨ ring ≠ ringSize s → ends (exec (.spanPortUp p peer ring true true) s) (fun t =>
        spanUp t p = false ∧ t.flag (F.EVF_SPAN_STAT_ID_MISMATCH p) = true))) ∧
    (∀ s p cr fl, s.fabOn = true → p < 2 → spanUp s p = true →
      exec (.spanGroupRx p cr fl false) s = .next (rasUe 17 .link 0xFFF p 0 (s.inc (F.EVF_SPAN_CRC_ERR p)))) ∧
    (∀ s p cr, s.Ok → s.fabOn = true → p < 2 → s.fab.span.length = 2 → spanUp s p = true → (s.sp p).tx = [] →
      ends (exec (.spanGroupRx p cr [] true) s) (fun t => t.sp p = ⟨(s.sp p).credits + cr, []⟩ ∧ t.fab.bufs = s.fab.bufs ∧ t.out = s.out)) ∧
    (∀ s p, s.Ok → s.fabOn = true → p < 2 → s.fab.span.length = 2 → spanUp s p = true →
      ends (exec (.spanPortDown p) s) (fun t => spanUp t p = false ∧ t.sp p = ⟨0, []⟩ ∧ t.out = .bench .spanDown p :: s.out ∧
        t.get (F.EVF_SPAN_DROP p) = min (2 ^ 32 - 1) (s.get (F.EVF_SPAN_DROP p) + (s.sp p).tx.length))) ∧
    (∀ s n p v, s.fabOn = true → s.get F.EVF_CTL_STALL_LIM ≠ 0 → s.flag F.EVF_STALL_VALID = false →
      exec (.fabricStallDetect n p v) s = .next (((((s.set F.EVF_STALL_NODE n).set F.EVF_STALL_PORT p).set F.EVF_STALL_VC v).raise
        F.EVF_STALL_VALID).bench .stall n)) ∧
    (∀ s n p v, s.fabOn = true → s.get F.EVF_CTL_STALL_LIM ≠ 0 → s.flag F.EVF_STALL_VALID = true →
      exec (.fabricStallDetect n p v) s = .next (s.bench .stall n)))

/-! ### The tile sequencer (09, 10) -/

/-- 09 R331, R334, R337, R339: what a retirement leaves. Only the tile's own pc, loop counts, delay slot, MODE shadow and LOOPBR change,
and the retirement is counted: the pc goes on by 4 modulo 0x4000; after the slot of a taken branch it is the target; at the end of a loop
level with count above 1 the count falls by 1 and the pc is the level's start; at count 1 the count is 0 and execution goes on; a MODE
value waits for its shadow. -/
def Obligations.TileRetirement : Prop :=
  ∀ (s : State) (n : Nat), s.Ok → n < 192 →
    let q := s.seq n; let t := retire n s; let q' := t.seq n
    t.get (F.TILE_SEQ_RETIRED n) = (s.get (F.TILE_SEQ_RETIRED n) + 1) % 2 ^ 32 ∧
    (∀ k, k ≠ (F.TILE_SEQ_RETIRED n).off → t.reg k = s.reg k) ∧
    t = { s with regs := t.regs, tiles := s.tiles.set n { s.tile n with seq := q' } } ∧
    q' = { q with pc := q'.pc, lc := q'.lc, delay := none, mode := q'.mode, pending := q'.pending, loopbr := q'.loopbr } ∧
    (∀ target branch reads, q.delay = some ⟨some target, branch, reads⟩ → q'.pc = target ∧ q'.lc = q.lc ∧
      q'.loopbr = (q.loopbr || (!q.exl && q.atLoopEnd q.pc))) ∧
    ((∀ d ∈ q.delay, d.target = none) → (q.exl = true ∨ q.atLoopEnd q.pc = false) →
      q'.pc = (q.pc + 4) % 0x4000 ∧ q'.lc = q.lc ∧ q'.loopbr = q.loopbr) ∧
    (q.delay = none → q.exl = false → ∀ k < 3, (∀ j < k, q.lc.getD j 0 = 0 ∨ q.le.getD j 0 ≠ q.pc) → q.le.getD k 0 = q.pc →
      1 < q.lc.getD k 0 → q'.pc = q.la.getD k 0 ∧ q'.lc = q.lc.set k (q.lc.getD k 0 - 1)) ∧
    (q.delay = none → q.exl = false → ∀ k < 3, (∀ j < 3, j ≠ k → q.lc.getD j 0 = 0 ∨ q.le.getD j 0 ≠ q.pc) → q.le.getD k 0 = q.pc →
      q.lc.getD k 0 = 1 → q'.pc = (q.pc + 4) % 0x4000 ∧ q'.lc = q.lc.set k 0) ∧
    (q.pending = none → q'.mode = q.mode ∧ q'.pending = none) ∧
    (∀ v k, q.pending = some (v, k) → if k ≤ 1 then q'.mode = v ∧ q'.pending = none else q'.mode = q.mode ∧ q'.pending = some (v, k - 1))

/-- 10 R377, R380, R315, R316: every scalar ALU and immediate instruction writes its result, of the sources as they stood, to its
destination (a write of g0 is discarded) and retires; under a false guard it only retires.
10 R378, R379, 09 R326: a multiply or divide is owed through the scoreboard, one divide at a time, with the result that the table
gives; it stalls while there is no room, and an instruction that names an owed register stalls; SCOREBOARD_COMPLETE writes the result.
10 R374, R381, R382, R383: compares and predicate logic write their predicate (p0 discards it); a condition code above 7 is ILLEGAL;
MFP reads all predicates with p0 as 1, MTP writes the ones its mask names. -/
def Obligations.ScalarArithmetic : Prop :=
  ((∀ (s : State) (n : Nat) (gd : Guard) (d a b : Nat),
      let q := s.seq n; let x := q.rd a; let y := q.rd b
      (∀ r ∈ ([(.aluAdd n gd d a b, BitVec.ofInt 32 (x.toInt + y.toInt)), (.aluSub n gd d a b, BitVec.ofInt 32 (x.toInt - y.toInt)),
          (.aluAnd n gd d a b, x &&& y), (.aluOr n gd d a b, x ||| y), (.aluXor n gd d a b, x ^^^ y),
          (.aluAndn n gd d a b, BitVec.ofNat 32 (x.toNat - (x &&& y).toNat)),
          (.aluSll n gd d a b, BitVec.ofNat 32 (x.toNat * 2 ^ (y.toNat % 32))),
          (.aluSrl n gd d a b, BitVec.ofNat 32 (x.toNat / 2 ^ (y.toNat % 32))),
          (.aluSra n gd d a b, BitVec.ofInt 32 (x.toInt / 2 ^ (y.toNat % 32))),
          (.aluSlt n gd d a b, if x.toInt < y.toInt then 1 else 0), (.aluSltu n gd d a b, if x.toNat < y.toNat then 1 else 0),
          (.aluMin n gd d a b, BitVec.ofInt 32 (min x.toInt y.toInt)), (.aluMax n gd d a b, BitVec.ofInt 32 (max x.toInt y.toInt)),
          (.aluMinu n gd d a b, BitVec.ofNat 32 (min x.toNat y.toNat)), (.aluMaxu n gd d a b, BitVec.ofNat 32 (max x.toNat y.toNat)),
          (.aluAdds n gd d a b, BitVec.ofInt 32 (max (-2 ^ 31) (min (2 ^ 31 - 1) (x.toInt + y.toInt)))),
          (.aluSubs n gd d a b, BitVec.ofInt 32 (max (-2 ^ 31) (min (2 ^ 31 - 1) (x.toInt - y.toInt))))] : List (Instr × Word)),
        tileGives s n gd [a, b, d] r.1 (q.wr d r.2)) ∧
      (∃ v : Nat, (v = 32 ∧ x = 0 ∨ v < 32 ∧ 2 ^ (31 - v) ≤ x.toNat ∧ x.toNat < 2 ^ (32 - v)) ∧
        tileGives s n gd [a, d] (.aluClz n gd d a) (q.wr d (BitVec.ofNat 32 v))) ∧
      tileGives s n gd [a, d] (.aluPopc n gd d a) (q.wr d (BitVec.ofNat 32 ((List.range 32).map (fun i => x.toNat / 2 ^ i % 2)).sum)) ∧
      tileGives s n gd [a, d] (.aluSextb n gd d a)
        (q.wr d (BitVec.ofInt 32 (if x.toNat % 256 < 128 then x.toNat % 256 else (x.toNat % 256 : Int) - 256))) ∧
      tileGives s n gd [a, d] (.aluSexth n gd d a)
        (q.wr d (BitVec.ofInt 32 (if x.toNat % 65536 < 32768 then x.toNat % 65536 else (x.toNat % 65536 : Int) - 65536)))) ∧
    (∀ (s : State) (n : Nat) (gd : Guard) (d a : Nat) (imm : BitVec 12) (sh : BitVec 5),
      let q := s.seq n; let x := q.rd a
      ∀ r ∈ ([(.addi n gd d a imm, BitVec.ofInt 32 (x.toInt + imm.toInt)), (.andi n gd d a imm, x &&& BitVec.ofNat 32 imm.toNat),
          (.ori n gd d a imm, x ||| BitVec.ofNat 32 imm.toNat), (.xori n gd d a imm, x ^^^ BitVec.ofNat 32 imm.toNat),
          (.shiSll n gd d a sh, BitVec.ofNat 32 (x.toNat * 2 ^ sh.toNat)), (.shiSrl n gd d a sh, BitVec.ofNat 32 (x.toNat / 2 ^ sh.toNat)),
          (.shiSra n gd d a sh, BitVec.ofInt 32 (x.toInt / 2 ^ sh.toNat))] : List (Instr × Word)),
        tileGives s n gd [a, d] r.1 (q.wr d r.2)) ∧
    (∀ (s : State) (n : Nat) (gd : Guard) (d : Nat) (imm : BitVec 17) (high : BitVec 16), let q := s.seq n
      tileGives s n gd [d] (.li n gd d imm) (q.wr d (BitVec.ofInt 32 imm.toInt)) ∧
      tileGives s n gd [d, d] (.lih n gd d high) (q.wr d (BitVec.ofNat 32 (high.toNat * 65536 + (q.rd d).toNat % 65536))))) ∧
  ((∀ (s : State) (n : Nat) (gd : Guard) (d a b : Nat),
      let q := s.seq n; let x := q.rd a; let y := q.rd b
      ∀ r ∈ ([(.aluMul n gd d a b, false, BitVec.ofInt 32 (x.toInt * y.toInt)),
          (.aluMulh n gd d a b, false, BitVec.ofInt 32 (x.toInt * y.toInt / 2 ^ 32)),
          (.aluMulhu n gd d a b, false, BitVec.ofNat 32 (x.toNat * y.toNat / 2 ^ 32)),
          (.aluDiv n gd d a b, true, if y = 0 then 0xFFFFFFFF else BitVec.ofInt 32 (Int.tdiv x.toInt y.toInt)),
          (.aluDivu n gd d a b, true, if y = 0 then 0xFFFFFFFF else BitVec.ofNat 32 (x.toNat / y.toNat)),
          (.aluRem n gd d a b, true, if y = 0 then x else BitVec.ofInt 32 (Int.tmod x.toInt y.toInt)),
          (.aluRemu n gd d a b, true, if y = 0 then x else BitVec.ofNat 32 (x.toNat % y.toNat))] : List (Instr × Bool × Word)),
        (q.sb.length < 64 → (r.2.1 = true → ∀ e ∈ q.sb, e.isDiv = false) → tileGives s n gd [a, b, d] r.1
          { q with sb := q.sb ++ [⟨q.tag, d, some r.2.2, r.2.1, false⟩], tag := (q.tag + 1) % 256 }) ∧
        (issues s n gd [a, b, d] = true → q.holds gd = true → (64 ≤ q.sb.length ∨ (r.2.1 = true ∧ ∃ e ∈ q.sb, e.isDiv = true)) →
          exec r.1 s = .next s) ∧
        (issues s n gd [] = true → (∃ c ∈ [a, b, d], q.owed c = true) → exec r.1 s = .next s)) ∧
    (∀ (s : State) (n i : Nat) (d tag : Nat) (v : Word) (isDiv isWait : Bool), (s.seq n).sb[i]? = some ⟨tag, d, some v, isDiv, isWait⟩ →
      d < 32 → exec (.scoreboardComplete n i) s = .next (s.setSeq n ({ s.seq n with sb := (s.seq n).sb.eraseIdx i }.wr d v)))) ∧
  ((∀ (s : State) (n : Nat) (gd : Guard) (pd cc a b : Nat) (imm : BitVec 10),
      let q := s.seq n; let x := q.rd a
      ∀ r ∈ ([(.cmp n gd pd cc a b, [a, b], q.rd b, 0x08, b * 2 ^ 5),
          (.cmpi n gd pd cc a imm, [a], BitVec.ofInt 32 imm.toInt, 0x09, imm.toNat)] : List (Instr × List Nat × Word × Nat × Nat)),
        let y := r.2.2.1
        (cc ≤ 7 → tileGives s n gd (r.2.1 ++ [pCode pd]) r.1 (q.wrP pd (decide (
          cc = 0 ∧ x = y ∨ cc = 1 ∧ x ≠ y ∨ cc = 2 ∧ x.toInt < y.toInt ∨ cc = 3 ∧ y.toInt ≤ x.toInt ∨ cc = 4 ∧ x.toNat < y.toNat ∨
          cc = 5 ∧ y.toNat ≤ x.toNat ∨ cc = 6 ∧ x &&& y ≠ 0 ∨ cc = 7 ∧ x &&& y = 0)))) ∧
        (7 < cc → issues s n gd (r.2.1 ++ [pCode pd]) = true → exec r.1 s = .next (raiseExc n 3
          (wordOf gd r.2.2.2.1 (pd * 2 ^ 19 + cc * 2 ^ 15 + a * 2 ^ 10 + r.2.2.2.2)) [pCode pd] s))) ∧
    (∀ (s : State) (n : Nat) (gd : Guard) (pd pa pb : Nat) (na nb v : Bool),
      let q := s.seq n; let x := q.rdP pa != na; let y := q.rdP pb != nb; let rs := [pCode pa, pCode pb, pCode pd]
      tileGives s n gd rs (.plogAnd n gd pd pa pb na nb) (q.wrP pd (x && y)) ∧
      tileGives s n gd rs (.plogOr n gd pd pa pb na nb) (q.wrP pd (x || y)) ∧
      tileGives s n gd rs (.plogXor n gd pd pa pb na nb) (q.wrP pd (x != y)) ∧
      tileGives s n gd [pCode pd] (.plogSet n gd pd v) (q.wrP pd v)) ∧
    (∀ (s : State) (n : Nat) (gd : Guard) (r : Nat) (mask : BitVec 7), s.Sized → n < 192 → let q := s.seq n
      tileGives s n gd ((List.range 8).map pCode ++ [r]) (.mfp n gd r) (q.wr r (BitVec.ofNat 32
        (1 + ((List.range 8).map (fun i => if 1 ≤ i ∧ q.p.getD i false = true then 2 ^ i else 0)).sum))) ∧
      tileGives s n gd (r :: ((List.range 7).filter (fun i => mask.getLsbD i)).map (fun i => pCode (i + 1))) (.mtp n gd r mask)
        { q with p := (List.range 8).map (fun i => if 1 ≤ i ∧ mask.getLsbD (i - 1) = true then (q.rd r).getLsbD i else q.p.getD i false) }))

/-- 10 R385, R386, R387, 09 R320, R321, R367: the address of an access is a + sext(imm) modulo 2³². An access that is not aligned raises
ALIGN, one outside the data space (below 0xC000, or 0x10000 to 0x5FFFF) ADDR, a load of a poisoned line POISON, each with the address in
EBAD. A load writes the little-endian value, extended; a store changes its bytes and no others, and never raises POISON. RDI and STI do
the same in instruction memory below 0x4000. -/
def Obligations.LoadsStores : Prop :=
  (∀ (s : State) (n : Nat) (gd : Guard) (d a : Nat) (imm : BitVec 12),
    let q := s.seq n; let w := BitVec.ofInt 32 ((q.rd a).toInt + imm.toInt); let ad := w.toNat
    let byte := fun i => (memByte (s.tile n).mem (ad + i)).toNat
    (∀ r ∈ ([(.lb n gd d a imm, 1, if byte 0 < 128 then (byte 0 : Int) else byte 0 - 256), (.lbu n gd d a imm, 1, byte 0),
        (.lh n gd d a imm, 2, if byte 1 < 128 then (byte 0 + 256 * byte 1 : Int) else byte 0 + 256 * byte 1 - 65536),
        (.lhu n gd d a imm, 2, byte 0 + 256 * byte 1),
        (.lw n gd d a imm, 4, byte 0 + 256 * byte 1 + 65536 * byte 2 + 16777216 * byte 3)] : List (Instr × Nat × Int)),
      (ad % r.2.1 = 0 → (ad < 0xC000 ∨ 0x10000 ≤ ad ∧ ad < 0x60000) → (s.tile n).poison.contains (ad / 8) = false →
        tileGives s n gd [a, d] r.1 (q.wr d (BitVec.ofInt 32 r.2.2))) ∧
      (ad % r.2.1 ≠ 0 → tileRaises s n gd [a, d] [d] r.1 4 w) ∧
      (ad % r.2.1 = 0 → ¬(ad < 0xC000 ∨ 0x10000 ≤ ad ∧ ad < 0x60000) → tileRaises s n gd [a, d] [d] r.1 5 w) ∧
      (ad % r.2.1 = 0 → (ad < 0xC000 ∨ 0x10000 ≤ ad ∧ ad < 0x60000) → (s.tile n).poison.contains (ad / 8) = true →
        tileRaises s n gd [a, d] [d] r.1 6 w)) ∧
    (let rd := Instr.rdi n gd d a imm; let b := fun i => (memByte (s.tile n).imem (ad + i)).toNat;
      (ad % 4 = 0 → ad < 0x4000 → (s.tile n).ipoison.contains (ad / 8) = false →
        tileGives s n gd [a, d] rd (q.wr d (BitVec.ofNat 32 (b 0 + 256 * b 1 + 65536 * b 2 + 16777216 * b 3)))) ∧
      (ad % 4 ≠ 0 → tileRaises s n gd [a, d] [d] rd 4 w) ∧
      (ad % 4 = 0 → 0x4000 ≤ ad → tileRaises s n gd [a, d] [d] rd 5 w) ∧
      (ad % 4 = 0 → ad < 0x4000 → (s.tile n).ipoison.contains (ad / 8) = true → tileRaises s n gd [a, d] [d] rd 6 w))) ∧
  (∀ (s : State) (n : Nat) (gd : Guard) (src a : Nat) (imm : BitVec 12) (held : Bool), s.Ok → n < 192 →
    let q := s.seq n; let w := BitVec.ofInt 32 ((q.rd a).toInt + imm.toInt); let ad := w.toNat; let x := (q.rd src).toNat
    (∀ r ∈ ([(.sb n gd src a imm, 1), (.sh n gd src a imm, 2), (.sw n gd src a imm, 4)] : List (Instr × Nat)),
      (ad % r.2 = 0 → (ad < 0xC000 ∨ 0x10000 ≤ ad ∧ ad < 0x60000) → issues s n gd [src, a] = true → q.holds gd = true →
        ∃ m : Mem, Memory.wf m = true ∧
          (∀ k, memByte m k = if ad ≤ k ∧ k < ad + r.2 then BitVec.ofNat 8 (x / 256 ^ (k - ad)) else memByte (s.tile n).mem k) ∧
          exec r.1 s = .next (retire n (s.setTile n { s.tile n with mem := m }))) ∧
      (ad % r.2 ≠ 0 → tileRaises s n gd [src, a] [] r.1 4 w) ∧
      (ad % r.2 = 0 → ¬(ad < 0xC000 ∨ 0x10000 ≤ ad ∧ ad < 0x60000) → tileRaises s n gd [src, a] [] r.1 5 w) ∧
      (issues s n gd [src, a] = true → q.holds gd = false → exec r.1 s = .next (retire n s))) ∧
    (let st := Instr.sti n gd src a imm held;
      (ad % 4 = 0 → ad < 0x4000 → issues s n gd [src, a] = true → q.holds gd = true →
        ∃ m : Mem, Memory.wf m = true ∧
          (∀ k, memByte m k = if ad ≤ k ∧ k < ad + 4 then BitVec.ofNat 8 (x / 256 ^ (k - ad)) else memByte (s.tile n).imem k) ∧
          exec st s = .next (retire n (s.setTile n { s.tile n with imem := m, seq := { q with imodHit := q.imodHit || held } }))) ∧
      (ad % 4 ≠ 0 → tileRaises s n gd [src, a] [] st 4 w) ∧
      (ad % 4 = 0 → 0x4000 ≤ ad → tileRaises s n gd [src, a] [] st 5 w)))

/-- 10 R388, R390, 09 R331: a conditional branch is taken as its comparison says, BR and the jumps and calls always, to their target
modulo 0x4000; the delay slot comes first, whether or not the branch is taken, and a call leaves PC + 8 in its link register. Under a
false guard a branch is not taken. In a delay slot, or at the end of an active loop level, a branch is ILLEGAL.
09 R333, R337, 10 R389: LOOP sets its level's start, end and count and goes on; with a count of zero it goes on after the loop's
end. Level 3, a delay slot, a handler, an end before the start and a level in use are ILLEGAL. -/
def Obligations.BranchesAndLoops : Prop :=
  (∀ (s : State) (n : Nat) (gd : Guard) (d a b : Nat) (disp target : BitVec 12),
      let q := s.seq n; let x := q.rd a; let y := q.rd b; let g := pCode gd.p
      let rel := (((q.pc : Int) + 4 * disp.toInt) % 0x4000).toNat
      let link := q.wr d (BitVec.ofNat 32 (q.pc + 8))
      let goes := fun (i : Instr) (reads dests : List Nat) (t : Option Nat) (u : Seq) =>
        issues s n gd (reads ++ dests) = true → q.delay = none → q.atLoopEnd q.pc = false →
          exec i s = .next (if q.holds gd = true then retireBranch n t (g :: reads) (s.setSeq n u) else retireBranch n none (g :: reads) s)
      goes (.beq n gd a b disp) [a, b] [] (if x = y then some rel else none) q ∧
      goes (.bne n gd a b disp) [a, b] [] (if x ≠ y then some rel else none) q ∧
      goes (.blt n gd a b disp) [a, b] [] (if x.toInt < y.toInt then some rel else none) q ∧
      goes (.bge n gd a b disp) [a, b] [] (if y.toInt ≤ x.toInt then some rel else none) q ∧
      goes (.bltu n gd a b disp) [a, b] [] (if x.toNat < y.toNat then some rel else none) q ∧
      goes (.bgeu n gd a b disp) [a, b] [] (if y.toNat ≤ x.toNat then some rel else none) q ∧
      goes (.br n gd disp) [] [] (some rel) q ∧
      goes (.j n gd target) [] [] (some (4 * target.toNat)) q ∧
      goes (.jr n gd a) [a] [] (some (x.toNat % 0x4000 - x.toNat % 4)) q ∧
      goes (.call n gd d target) [] [d] (some (4 * target.toNat)) link ∧
      goes (.callr n gd d a) [a] [d] (some (x.toNat % 0x4000 - x.toNat % 4)) link ∧
      (∀ (t : Option Nat) (reads : List Nat), (retireBranch n t reads s).seq n = if n < s.tiles.length then
        Seq.shadow { q with delay := some ⟨t, q.pc, reads⟩, pc := (q.pc + 4) % 0x4000 } else q) ∧
      ((q.delay.isSome = true ∨ q.atLoopEnd q.pc = true) → issues s n {} [] = true →
        exec (.beq n gd a b disp) s = .next (raiseExc n 3 (wordOf gd 0x20 (a * 2 ^ 17 + b * 2 ^ 12 + disp.toNat)) [] s) ∧
        exec (.br n gd disp) s = .next (raiseExc n 3 (wordOf gd 0x26 disp.toNat) [] s) ∧
        exec (.call n gd d target) s = .next (raiseExc n 3 (wordOf gd 0x28 (d * 2 ^ 17 + target.toNat)) [d] s))) ∧
  (∀ (s : State) (n : Nat) (gd : Guard) (k a : Nat) (e : BitVec 12),
      let q := s.seq n; let count := (q.rd a).toNat
      let ok := k < 3 ∧ q.delay = none ∧ q.exl = false ∧ (q.pc + 4) % 0x4000 ≤ 4 * e.toNat ∧ q.lc.getD k 0 = 0
      let q' := { q with la := q.la.set k ((q.pc + 4) % 0x4000), le := q.le.set k (4 * e.toNat), lc := q.lc.set k count }
      (ok → count ≠ 0 → tileGives s n gd [a] (.loop n gd k a e) q') ∧
      (ok → count = 0 → issues s n gd [a] = true → q.holds gd = true → exec (.loop n gd k a e) s =
        .next (countRetired n (s.setSeq n { q'.shadow with pc := (4 * e.toNat + 4) % 0x4000 }))) ∧
      (¬ok → issues s n gd [a] = true → exec (.loop n gd k a e) s =
        .next (raiseExc n 3 (wordOf gd 0x2C (k * 2 ^ 19 + a * 2 ^ 12 + e.toNat)) [] s)))

/-- 09 R345 to R350, R352 to R356, 10 R374, R394: taking an exception. EPC holds the instruction (in a delay slot, the branch), ESTAT the
cause, BD, BDHAZ, LEND, EXL, the old IEN and a pending MODE, EBAD its word; MODE.IEN clears, the pc is 0x40 and the entry is counted. With EXL set the
sequencer halts with DOUBLE instead. TRAP and an undefined word raise causes 8 and 3. An interrupt is taken at a boundary with IEN set
outside a handler, lowest IPEND bit first, and leaves EBAD. ERET restores IEN and the pending MODE and goes to EPC. -/
def Obligations.ExceptionsTaken : Prop :=
  (∀ (s : State) (n cause : Nat) (ebad : Word) (dests : List Nat), s.Ok → n < 192 → cause ≠ 1 → cause < 32 →
    let q := s.seq n; let t := raiseExc n cause ebad dests s; let e := (t.seq n).estat.toNat
    (q.exl = false →
      t.seq n = { q with epc := (t.seq n).epc, estat := (t.seq n).estat, ebad := ebad, mode := q.mode % 16, pc := 0x40, delay := none,
                         pending := none } ∧
      (q.delay = none → (t.seq n).epc = BitVec.ofNat 32 q.pc) ∧
      (∀ target b reads, q.delay = some ⟨target, b, reads⟩ → (t.seq n).epc = BitVec.ofNat 32 b) ∧
      e % 32 = cause ∧ (e / 2 ^ 5 % 2 = 1 ↔ q.delay.isSome = true) ∧
      (e / 2 ^ 6 % 2 = 1 ↔ ∃ d ∈ q.delay, ∃ c ∈ dests, isStored c = true ∧ c ∈ d.reads) ∧
      (e / 2 ^ 12 % 2 = 1 ↔ cause < 16 ∧ q.atLoopEnd q.pc = true) ∧ e / 2 ^ 7 % 2 = 1 ∧ (e / 2 ^ 8 % 2 = 1 ↔ q.ien = true) ∧
      (e / 2 ^ 9 % 2 = 1 ↔ q.pending.isSome = true) ∧
      (∀ v k, q.pending = some (v, k) → k ≤ 2 → e / 2 ^ 20 = v % 2 ^ 12 ∧ (q.delay = none → e / 2 ^ 10 % 4 = k)) ∧
      t.get (F.TILE_SEQ_EXC n) = (s.get (F.TILE_SEQ_EXC n) + 1) % 2 ^ 32 ∧ (∀ k, k ≠ (F.TILE_SEQ_EXC n).off → t.reg k = s.reg k) ∧
      t = { s with regs := t.regs, tiles := s.tiles.set n { s.tile n with seq := t.seq n } }) ∧
    (q.exl = true → t.seq n = q ∧ t.get (F.TILE_SEQ_STAT_STATE n) = 0 ∧ t.get (F.TILE_SEQ_STAT_HALT_REASON n) = 2)) ∧
  (∀ (s : State) (n : Nat) (gd : Guard) (code : BitVec 16), (s.seq n).delay = none → tileRaises s n gd [] [] (.trap n gd code) 8
    (BitVec.ofNat 32 code.toNat)) ∧
  (∀ (s : State) (n : Nat) (w : Word), issues s n {} [] = true → exec (.illegalInstruction n w) s = .next (raiseExc n 3 w [] s)) ∧
  (∀ (s : State) (n i : Nat) (dests : List Nat), tileRuns s n = true → enabledIrq s n = some i → (s.seq n).ien = true →
    (s.seq n).exl = false → exec (.interruptEntry n dests) s = .next (enter n (16 + i) dests s)) ∧
  (∀ (s : State) (n : Nat) (dests : List Nat), tileRuns s n = true → ((s.seq n).ien = false ∨ (s.seq n).exl = true) →
    exec (.interruptEntry n dests) s = .next s) ∧
  (∀ (s : State) (n : Nat), ∀ i, enabledIrq s n = some i ↔
    i < 5 ∧ bitOf (ipend s n) i = true ∧ bitOf (s.seq n).imask i = true ∧ ∀ j < i, bitOf (ipend s n) j = false ∨ bitOf (s.seq n).imask j = false) ∧
  (∀ (s : State) (n : Nat) (gd : Guard), let q := s.seq n; let u := q.shadow; let e := q.estat.toNat
    (q.exl = true → q.delay = none → issues s n gd [] = true → q.holds gd = true →
      exec (.eret n gd) s = .next (countRetired n (s.setSeq n
        { u with estat := q.estat &&& 0xFFFFFF7F, pc := q.epc.toNat % 0x4000 - q.epc.toNat % 4,
                 mode := if e / 2 ^ 9 % 2 = 1 ∧ e / 2 ^ 10 % 4 = 0 then e / 2 ^ 20 else u.mode % 16 + 16 * (e / 2 ^ 8 % 2),
                 pending := if e / 2 ^ 9 % 2 = 1 ∧ e / 2 ^ 10 % 4 ≠ 0 then some (e / 2 ^ 20, e / 2 ^ 10 % 4) else if e / 2 ^ 9 % 2 = 1 then none else u.pending }))) ∧
    ((q.exl = false ∨ q.delay.isSome = true) → issues s n gd [] = true →
      exec (.eret n gd) s = .next (raiseExc n 3 (wordOf gd 0x31 1) [] s)))

/-- 09 R317, R318, R319, R363, 10 R391: MFS reads each special register, a reserved number as zero; reading TICK.L latches the high half that
TICK.H then reads. MTS writes the fields of a writable register and no other; for any other number it is ILLEGAL.
09 R330, R339, R340, R371, 10 R392, R393: MODE waits for two shadow instructions, and is ILLEGAL in a shadow; SYNC.I discards fetched
copies; WFE retires where an enabled interrupt is pending, otherwise the sequencer waits, and it retires when one is; HALT retires and
halts with TILE_SEQ_PC at PC + 4; FENCE stalls until every operation is acknowledged and the send queue is empty. -/
def Obligations.SystemInstructions : Prop :=
  ((∀ (s : State) (n : Nat) (gd : Guard) (d : Nat), let q := s.seq n
      (∀ r ∈ ([(0, q.mode), (1, q.mprog.toNat), (2, q.epc.toNat), (3, q.estat.toNat), (4, q.ebad.toNat), (5, q.imask),
          (6, b2n q.imodHit + 2 * b2n q.loopbr + 4 * b2n q.haltPend + 16 * ((q.sb.filter (·.isWait)).length % 16) +
            256 * (q.sb.length % 128) + 65536 * ipend s n),
          (7, q.epoch), (16, q.lc.getD 0 0), (17, q.lc.getD 1 0), (18, q.lc.getD 2 0), (20, q.la.getD 0 0), (21, q.la.getD 1 0),
          (22, q.la.getD 2 0), (24, q.le.getD 0 0), (25, q.le.getD 1 0), (26, q.le.getD 2 0)] : List (Nat × Nat)),
        tileGives s n gd [d] (.mfs n gd d r.1) (q.wr d (BitVec.ofNat 32 r.2))) ∧
      (∀ r ∈ [10, 11, 12, 13, 14, 15, 19, 23, 27, 28, 29, 30, 31], tileGives s n gd [d] (.mfs n gd d r) (q.wr d 0)) ∧
      tileGives s n gd [d] (.mfs n gd d 8) (Seq.wr { q with tickHigh := some (s.T / 2 ^ 32) } d (BitVec.ofNat 32 s.T)) ∧
      tileGives s n gd [d] (.mfs n gd d 9) (Seq.wr { q with tickHigh := none } d (BitVec.ofNat 32 (q.tickHigh.getD (s.T / 2 ^ 32))))) ∧
    (∀ (s : State) (n : Nat) (gd : Guard) (a : Nat), let q := s.seq n; let v := q.rd a; let ad := v.toNat % 0x4000 - v.toNat % 4
      (∀ r ∈ ([(1, { q with mprog := v }), (2, { q with epc := v }), (3, { q with estat := v &&& 0xFFF01FFF }),
          (5, { q with imask := v.toNat % 32 }), (16, { q with lc := q.lc.set 0 v.toNat }), (17, { q with lc := q.lc.set 1 v.toNat }),
          (18, { q with lc := q.lc.set 2 v.toNat }), (20, { q with la := q.la.set 0 ad }), (21, { q with la := q.la.set 1 ad }),
          (22, { q with la := q.la.set 2 ad }), (24, { q with le := q.le.set 0 ad }), (25, { q with le := q.le.set 1 ad }),
          (26, { q with le := q.le.set 2 ad })] : List (Nat × Seq)), tileGives s n gd [a] (.mts n gd a r.1) r.2) ∧
      tileGives s n gd [a] (.mts n gd a 6) { q with imodHit := q.imodHit && !v.getLsbD 0, loopbr := q.loopbr && !v.getLsbD 1, ipEpoch := q.ipEpoch && !v.getLsbD 17, ipWait := q.ipWait && !v.getLsbD 18, ipSoft := q.ipSoft && !v.getLsbD 20 } ∧
      (∀ r ∈ [0, 4, 7, 8, 9, 10, 11, 12, 13, 14, 15, 19, 23, 27, 28, 29, 30, 31], issues s n gd [a] = true →
        exec (.mts n gd a r) s = .next (raiseExc n 3 (wordOf gd 0x2F (a * 2 ^ 12 + r)) [] s)))) ∧
  (∀ (s : State) (n : Nat) (gd : Guard) (a : Nat) (v : BitVec 5), let q := s.seq n
      (q.pending = none → tileGives s n gd [a] (.mode n gd a true 0) { q with pending := some ((q.rd a).toNat % 32, 3) } ∧
        tileGives s n gd [] (.mode n gd 0 false v) { q with pending := some (v.toNat, 3) }) ∧
      (q.pending.isSome = true → issues s n gd [] = true →
        exec (.mode n gd 0 false v) s = .next (raiseExc n 3 (wordOf gd 0x30 v.toNat) [] s)) ∧
      (q.delay = none → tileGives s n gd [] (.syncI n gd) q) ∧
      (q.delay.isSome = true → issues s n gd [] = true → exec (.syncI n gd) s = .next (raiseExc n 3 (wordOf gd 0x31 0) [] s)) ∧
      ((enabledIrq s n).isSome = true → tileGives s n gd [] (.wfe n gd) q) ∧
      (enabledIrq s n = none → issues s n gd [] = true → q.holds gd = true → exec (.wfe n gd) s = .next (s.set (F.TILE_SEQ_STAT_STATE n) 2)) ∧
      (tileWaits s n = true → exec (.wfe n gd) s =
        .next (if (enabledIrq s n).isSome = true then retire n (s.set (F.TILE_SEQ_STAT_STATE n) 1) else s)) ∧
      (s.Ok → n < 192 → issues s n gd [] = true → q.holds gd = true → ends (exec (.halt n gd) s) (fun t =>
        t.get (F.TILE_SEQ_STAT_STATE n) = 0 ∧ t.get (F.TILE_SEQ_STAT_HALT_REASON n) = 1 ∧ (t.seq n).pc = (q.pc + 4) % 0x4000 ∧
        t.get (F.TILE_SEQ_RETIRED n) = (s.get (F.TILE_SEQ_RETIRED n) + 1) % 2 ^ 32 ∧ (t.seq n).g = q.g ∧ (t.seq n).p = q.p ∧
        (∀ m, m ≠ n → t.tile m = s.tile m))) ∧
      (q.unacked = 0 → q.syncq = [] → q.sendq = [] → tileGives s n gd [] (.fence n gd) q) ∧
      ((q.unacked ≠ 0 ∨ q.syncq ≠ [] ∨ q.sendq ≠ []) → issues s n gd [] = true → q.holds gd = true → exec (.fence n gd) s = .next s))

/-- 10 R395, R396, R397, R421, 09 R326: a SYN instruction puts its operation at the end of the sync queue and owes its result, if any,
through the scoreboard; SIGM puts one operation for each handle of its list. While the queue, the scoreboard or the eight waits have no
room they stall. SIGM's list must be aligned, below 0xC000 and clean.
10 R399 to R403: EVS, EVSW and EVM put a send at the end of the queue of 16, with the fields of their words; a CLASS that a program may
not send is sent as 4, a wide send has CLASS 5 and its payload. They stall while the queue is full. -/
def Obligations.SyncAndEvents : Prop :=
  ((∀ (s : State) (n : Nat) (gd : Guard) (c a b pd : Nat),
      let q := s.seq n; let h := (q.rd a).toNat; let v := (q.rd b).toNat
      let puts := fun (regs : List Nat) (i : Instr) (dst : Option Nat) (r : SyncReq) => match dst with
        | none => q.syncq.length < 64 → tileGives s n gd regs i { q with syncq := q.syncq ++ [r], unacked := q.unacked + 1 }
        | some d => q.syncq.length < 64 → q.sb.length < 64 → (r.op = 3 → (q.sb.filter (·.isWait)).length < 8) →
            tileGives s n gd (regs ++ [d]) i
              { q with syncq := q.syncq ++ [{ r with tag := q.tag, ret := true }], unacked := q.unacked + 1,
                       sb := q.sb ++ [⟨q.tag, d, none, false, r.op == 3⟩], tag := (q.tag + 1) % 256 }
      puts [a, b] (.synSet n gd a b) none { handle := h, op := 0, value := v } ∧
      puts [a, b] (.synAdd n gd c a b false) none { handle := h, op := 1, value := v } ∧
      puts [a, b] (.synAdd n gd c a b true) (some c) { handle := h, op := 1, value := v } ∧
      puts [a, b] (.synSub n gd c a b false) none { handle := h, op := 2, value := v } ∧
      puts [a, b] (.synSub n gd c a b true) (some c) { handle := h, op := 2, value := v } ∧
      puts [a, b, c] (.synWaitge n gd c a b pd) (some (pCode pd))
        { handle := h, op := 3, value := v, timeout := (q.rd c).toNat % 2 ^ 24 } ∧
      puts [a] (.synSig n gd a) none { handle := h, op := 4, value := 0 } ∧
      puts [a] (.synRead n gd c a) (some c) { handle := h, op := 5, value := 0 } ∧
      (64 ≤ q.syncq.length → issues s n gd [a, b] = true → q.holds gd = true → exec (.synSet n gd a b) s = .next s) ∧
      ((q.sb.filter (·.isWait)).length = 8 → issues s n gd [a, b, c, pCode pd] = true → q.holds gd = true →
        exec (.synWaitge n gd c a b pd) s = .next s)) ∧
    (∀ (s : State) (n : Nat) (gd : Guard) (a b : Nat) (count : BitVec 5),
      let q := s.seq n; let k := count.toNat + 1; let ad := (q.rd a).toNat; let h := fun i => (s.tile n).nat (ad + 4 * i) 4
      let clean := ∀ l ∈ (s.tile n).poison, l < ad / 8 ∨ ad + 4 * k ≤ l * 8
      let q' := fun (rs : List SyncReq) => { q with syncq := q.syncq ++ rs, unacked := q.unacked + k }
      (q.syncq.length + k ≤ 64 → ad % 4 = 0 → ad + 4 * k ≤ 0xC000 → clean →
        tileGives s n gd [a, b] (.sigmAdd n gd a b count)
          (q' ((List.range k).map (fun i => { handle := h i, op := 1, value := (q.rd b).toNat }))) ∧
        tileGives s n gd [a] (.sigmSig n gd a count) (q' ((List.range k).map (fun i => { handle := h i, op := 4, value := 0 })))) ∧
      (64 < q.syncq.length + k → issues s n gd [a] = true → q.holds gd = true → exec (.sigmSig n gd a count) s = .next s) ∧
      (q.syncq.length + k ≤ 64 → ad % 4 ≠ 0 → tileRaises s n gd [a] [] (.sigmSig n gd a count) 4 (q.rd a)) ∧
      (q.syncq.length + k ≤ 64 → ad % 4 = 0 → 0xC000 < ad + 4 * k → tileRaises s n gd [a] [] (.sigmSig n gd a count) 5 (q.rd a)))) ∧
  (∀ (s : State) (n : Nat) (gd : Guard) (a b c : Nat),
      let q := s.seq n; let w0 : Nat := (q.rd a).toNat; let w1 : Nat := (q.rd b).toNat; let cls : Nat := w0 / 2 ^ 10 % 16
      let list := fun (cls : Nat) (payload : Option Nat) => Send.list (w0 % 1024) (w0 / 65536)
        (if w1 % 256 < 128 then (w1 % 256 : Int) else (w1 % 256 : Int) - 256) (w1 / 256 % 2 ^ 20) cls (w1 / 2 ^ 28 % 2 == 1) (w1 / 2 ^ 29 % 2 == 1) payload
      (q.sendq.length < 16 →
        tileGives s n gd [a, b] (.evs n gd a b)
          { q with sendq := q.sendq ++ [list (if cls = 4 ∨ (7 ≤ cls ∧ cls ≤ 13) then cls else 4) none] } ∧
        tileGives s n gd [c, a, b] (.evsw n gd c a b) { q with sendq := q.sendq ++ [list 5 (some (q.rd c).toNat)] } ∧
        tileGives s n gd [a] (.evm n gd a) { q with sendq := q.sendq ++ [.marker w0] }) ∧
      (16 ≤ q.sendq.length → issues s n gd [c, a, b] = true → q.holds gd = true →
        exec (.evs n gd a b) s = .next s ∧ exec (.evsw n gd c a b) s = .next s ∧ exec (.evm n gd a) s = .next s))

/-- 09 R341, R342, R344, R346, 10 R404, R408, R413, R417 to R419, R431: EVSND, NUPD, the DLYX operations, CIMX, TMOV copies and VOP.T run
their groups one after the other, are held in MPROG at a boundary, and retire at their end; a group that raises leaves the groups before
it. Their operands are checked at start and at resume. -/
def Obligations.RoutineProgress : Prop :=
  ∀ (s : State) (n : Nat) (gd : Guard) (a b groups : Nat),
    let q := s.seq n; let t := s.tile n; let x := q.rd a; let ad : Nat := x.toNat; let cnt := (q.rd b).toNat % 65536
    (ad % 8 = 0 → ad + 8 * cnt ≤ 0xC000 →
      routineGives s n gd [a, b] [] (.evsnd n gd a b groups) 0x39 cnt groups (fun g (u : State) =>
        if 16 ≤ (u.seq n).sendq.length then .wait u
        else if (u.tile n).bad (ad + 8 * g) 8 then .exc 6 (BitVec.ofNat 32 (ad + 8 * g))
        else .ok (u.setSeq n { u.seq n with sendq := (u.seq n).sendq ++ [sendOf ((u.tile n).nat (ad + 8 * g) 4) ((u.tile n).nat (ad + 8 * g + 4) 4)] })) ∧
      routineGives s n gd [a, b] [] (.nupd n gd a b groups) 0x3D (ceilDiv cnt 16) groups (nupdGroup n ad cnt) ∧
      routineGives s n gd [a, b] [] (.dlyxInsert n gd a b groups) 0x3E (ceilDiv cnt 16) groups (insertGroup n ad cnt)) ∧
    (∀ i ∈ [Instr.evsnd n gd a b groups, .nupd n gd a b groups, .dlyxInsert n gd a b groups],
      (ad % 8 ≠ 0 → tileRaises s n gd [a, b] [] i 4 x) ∧
      (ad % 8 = 0 → 0xC000 < ad + 8 * cnt → tileRaises s n gd [a, b] [] i 5 x)) ∧
    routineGives s n gd [b] [] (.dlyxDrain n gd b groups) 0x3E (ringChunks s n).length groups
      (drainGroup n (startBack s ((s.epochNum + 2 ^ 32 - q.epoch) % 2 ^ 32) + (q.rd b).toNat % 2 ^ 20) (ringChunks s n)) ∧
    routineGives s n gd [] [] (.dlyxClear n gd groups) 0x3E (ringChunks s n).length groups (clearGroup n (ringChunks s n)) ∧
    (let d := cdesc t ad;
      (ad % 16 = 0 → ad + 16 ≤ 0xC000 → blockBad t ad 16 = none → d.bad = false → (∀ i ∈ d.arrays, (s.arr n i).cbank.state = .valid) →
        inputBad t d = none → routineGives s n gd [a] [] (.cimx n gd a groups) 0x3A (d.groups t * d.bits) groups
          (fun g (u : State) => cimGroup n d g (if g = 0 then collide n u else u))) ∧
      ((ad % 16 ≠ 0 ∨ 0xC000 < ad + 16) → tileRaises s n gd [a] [] (.cimx n gd a groups) 7 x) ∧
      (ad % 16 = 0 → ad + 16 ≤ 0xC000 → blockBad t ad 16 = none → (d.bad = true ∨ ∃ i ∈ d.arrays, (s.arr n i).cbank.state ≠ .valid) →
        tileRaises s n gd [a] [] (.cimx n gd a groups) 7 x)) ∧
    (ad % 16 = 0 → ad + 48 ≤ 0xC000 → blockBad t ad 48 = none → tblockBad t ad = false → (tblock t ad).dkind ≤ 2 →
      routineGives s n gd [a] [] (.tmov n gd a groups) 0x33 (ceilDiv (tblock t ad).nbytes 256) groups (copyGroup n (tblock t ad))) ∧
    (∀ r ∈ ([(.voptMov n gd a groups, .mov), (.voptAdd n gd a groups, .add), (.voptSub n gd a groups, .sub), (.voptMul n gd a groups, .mul),
        (.voptMac n gd a groups, .mac), (.voptMin n gd a groups, .min), (.voptMax n gd a groups, .max), (.voptAbs n gd a groups, .abs),
        (.voptNeg n gd a groups, .neg), (.voptAnd n gd a groups, .and), (.voptOr n gd a groups, .or), (.voptXor n gd a groups, .xor),
        (.voptShl n gd a groups, .shl), (.voptShr n gd a groups, .shr), (.voptCmpeq n gd a groups, .cmpeq),
        (.voptCmplt n gd a groups, .cmplt), (.voptCmple n gd a groups, .cmple), (.voptSel n gd a groups, .sel),
        (.voptCvt n gd a groups, .cvt), (.voptExp2 n gd a groups, .exp2), (.voptLog2 n gd a groups, .log2), (.voptRcp n gd a groups, .rcp),
        (.voptRsqrt n gd a groups, .rsqrt), (.voptVcmpr n gd a groups, .vcmpr), (.voptVexpd n gd a groups, .vexpd),
        (.voptRsum n gd a groups, .rsum)] : List (Instr × VOp)),
      ad % 16 = 0 → ad + 64 ≤ 0xC000 → blockBad t ad 64 = none → vblockBad t ad r.2 = false → t.nat ad 4 % 32 = r.2.code →
        let total := ceilDiv (vblock t ad).d.count 256
        routineGives s n gd [a] [] r.1 0x3C total groups (vopTGroup n r.2 (vblock t ad) total))

/-- 10 R408, R414, R418, R420, 12 R478, R479, R483, R484, 11 R417: what one group does. A CIMX group adds, for each array with active rows,
the contribution of its conversion to the accumulators; a plane of zero rows adds nothing; without ACC the accumulators are cleared
before group 0. A copy reads its 256 bytes before it writes them. NUPD and a drain with the engine off count OFF_DROP. DLYX clear zeroes
every accumulator of its targets. BANKSW switches all the arrays it names, or none.
10 R415, R416, 16 R636, R639: a result of one group goes out to its slot, and the tail step leaves the header to follow the payload's
acknowledgement; a slot that waits under HOLD is waited for from the tick of the first attempt, and MAILBOX_HOLD_TIMEOUT completes the
routine unwritten with the loss counted; a result frame goes to port 9 at its end. -/
def Obligations.RoutineResults : Prop :=
  ((∀ (s : State) (n g : Nat) (d : CDesc), ∃ t, cimGroup n d g s = .ok t ∧ t.mem = s.mem ∧
      (∀ m, m ≠ n → t.tile m = s.tile m) ∧ (t.tile n).mem = (s.tile n).mem ∧ (t.tile n).seq = (s.tile n).seq) ∧
    (∀ (s : State) (n g : Nat) (d : CDesc), s.Ok → n < 192 → d.active (s.tile n) g = [] →
      ∃ t, cimGroup n d g s = .ok t ∧
        (∀ k, ((t.tile n).cim.accOf k = if g = 0 ∧ d.acc = false ∧
            (∃ a ∈ d.arrays, ∃ j < d.ncol, k = accSet s n a * 256 + (d.col0 + j) % 256) then 0 else (s.tile n).cim.accOf k)) ∧
        (t.tile n).cim.arrays = (s.tile n).cim.arrays) ∧
    (∀ (s : State) (n k : Nat) (v : Int), s.Ok → n < 192 → (((accAdd n s k v).tile n).cim.accOf k).toInt =
      max (-2 ^ 31) (min (2 ^ 31 - 1) (((s.tile n).cim.accOf k).toInt + v))) ∧
    (∀ (s : State) (n g : Nat) (k : TBlock), let lo := 256 * g; let hi := min k.nbytes (256 * g + 256)
      (srcPoison s n k lo hi = none → copyGroup n k g s = .ok (putDst n k lo (srcBytes s n k lo hi) s)) ∧
      (∀ e, srcPoison s n k lo hi = some e → copyGroup n k g s = .exc 6 e)) ∧
    (∀ (s : State) (n a count g : Nat), s.flag (F.NE_CTL_EN n) = false →
      nupdGroup n a count g s = .finish (neCount n .offDrop (count - 16 * g) s)) ∧
    (∀ (s : State) (n i j0 : Nat) (chunks : List (RingSet × Nat)) (g : RingSet), s.Ok → n < 192 → 0 < g.slots → chunks[i]? = some (g, j0) →
      ∃ t, clearGroup n chunks i s = .ok t ∧ t.regs = s.regs ∧
        (∀ j k, j0 ≤ j → j < j0 + 16 → j < g.count → g.inMem j = true → (t.tile n).nat (g.addr j k) 2 = 0) ∧
        (∀ ad, (∀ j, j0 ≤ j → j < j0 + 16 → ad < g.addr j 0 ∨ g.addr j 0 + 2 * g.slots ≤ ad) →
          memByte (t.tile n).mem ad = memByte (s.tile n).mem ad)) ∧
    (∀ (s : State) (n pd : Nat) (gd : Guard) (isB : Bool) (amask : BitVec 4),
      let arrays := (List.range 4).filter (fun a => amask.getLsbD a)
      (amask ≠ 0 → (∀ a ∈ arrays, (s.arr n a).cb = isB ∨ ((s.arr n a).bank isB).state = .valid) → issues s n gd [pCode pd] = true →
        (s.seq n).holds gd = true → exec (.banksw n gd pd isB amask) s =
          .next (retire n ((arrays.foldl (switchBank n isB) s).setSeq n ((s.seq n).wrP pd true)))) ∧
      (amask ≠ 0 → ¬(∀ a ∈ arrays, (s.arr n a).cb = isB ∨ ((s.arr n a).bank isB).state = .valid) →
        tileGives s n gd [pCode pd] (.banksw n gd pd isB amask) ((s.seq n).wrP pd false)) ∧
      (amask = 0 → issues s n gd [pCode pd] = true → exec (.banksw n gd pd isB amask) s =
        .next (raiseExc n 3 (wordOf gd 0x32 (pd % 8 * 2 ^ 17 + (if isB then 16 else 0))) [pCode pd] s))) ∧
    (∀ (s : State) (n a : Nat) (isB : Bool), s.Sized → n < 192 → a < 4 →
      ((switchBank n isB s a).arr n a).cb = isB ∧ (∀ b < 4, b ≠ a → (switchBank n isB s a).arr n b = s.arr n b) ∧
      (switchBank n isB s a).seq n = s.seq n ∧ ((s.arr n a).cb = isB → switchBank n isB s a = s))) ∧
  ((∀ (s : State) (n : Nat) (gd : Guard) (a groups : Nat),
      let q := s.seq n; let t := s.tile n; let ad : Nat := (q.rd a).toNat; let k := tblock t ad
      s.Ok → n < 192 → issues s n gd [a] = true → q.holds gd = true → ad % 16 = 0 → ad + 48 ≤ 0xC000 → blockBad t ad 48 = none → tblockBad t ad = false →
      q.mprog.toNat < 2 ^ 31 → q.exl = false → 2 ≤ groups → k.nbytes ≤ 256 → srcPoison s n k 0 k.nbytes = none →
      (k.dkind = 3 → mayResult s n k.slot = true → (s.slot k.slot).writer = none → (s.slot k.slot).ready = false → (s.slot k.slot).held = none →
        ends (exec (.tmovMailbox n gd a groups) s) (fun u : State =>
          (u.slot k.slot).writer = some (n, k.nbytes) ∧ (u.slot k.slot).tail = true ∧ (u.slot k.slot).ready = false ∧
          (u.slot k.slot).seq = (s.slot k.slot).seq ∧ (∀ i < (srcBytes s n k 0 k.nbytes).length, memByte u.mem.lp (slotBase s k.slot + i) = (srcBytes s n k 0 k.nbytes).getD i 0) ∧
          (u.seq n).unacked = q.unacked + 1 ∧ (u.seq n).pc = ((retire n s).seq n).pc ∧ (∀ j, j ≠ k.slot → u.slot j = s.slot j))) ∧
      (k.dkind = 3 → mayResult s n k.slot = true → (s.slot k.slot).ready = true → s.flag (F.SYNC_MB_CFG_POLICY k.slot) = false → q.hold = none →
        exec (.tmovMailbox n gd a groups) s =
          .next (holdProgress n 0x33 0 0 (s.setSeq n { q with hold := some (s.T, k.slot, q.pc) }))) ∧
      (k.dkind = 3 → mayResult s n k.slot = false → exec (.tmovMailbox n gd a groups) s = .next (raiseExc n 7 (q.rd a) [] s)) ∧
      (k.dkind = 4 → k.slot < 64 → exec (.tmovResultFrame n gd a groups) s =
        .next (retire n ((resultSend k.slot (srcBytes s n k 0 k.nbytes ++
          List.replicate (k.nbytes - (srcBytes s n k 0 k.nbytes).length) 0) (s.setSeq n { q with stage := [] })).setSeq n
          { q with stage := [], mprog := BitVec.ofNat 32 (q.mprog.toNat % 2 ^ 31) })))) ∧
    (∀ (s : State) (n k since : Nat), let q := s.seq n; let x := s.slot k
      q.hold = some (since, k, q.pc) → tileRuns s n = true → (q.exl = true ∨ resumes q = true) →
      since + s.get (F.SYNC_MB_TO (s.get (F.SYNC_MB_CFG_TOSEL k))) ≤ s.T → (x.writer.isSome = true ∨ x.ready = true) →
        exec (.mailboxHoldTimeout n) s = .next (retire n ((slotLost k s).setSeq n { q.clearProgress with hold := none }))))

/-! ### The vector engine (14) -/

/-- 10 R406, R410, R411, 14 R555 to R557, R564, R579: a VOP.R operation reads its sources and writes its destination register (a compare, its
mask) as the operation gives it under MODE and the mask, raises the sticky flags, counts its cycles and retires. A source word with an
uncorrectable error raises POISON; undefined operand codes raise ILLEGAL. -/
def Obligations.VectorRegisterOps : Prop :=
  ∀ (s : State) (n : Nat) (gd : Guard) (d a b m t : Nat), let q := s.seq n
    ∀ r ∈ ([(.voprMov n gd d a m t, .mov, 0), (.voprAdd n gd d a b m t, .add, b), (.voprSub n gd d a b m t, .sub, b),
        (.voprMul n gd d a b m t, .mul, b), (.voprMac n gd d a b m t, .mac, b), (.voprMin n gd d a b m t, .min, b),
        (.voprMax n gd d a b m t, .max, b), (.voprAbs n gd d a m t, .abs, 0), (.voprNeg n gd d a m t, .neg, 0),
        (.voprAnd n gd d a b m t, .and, b), (.voprOr n gd d a b m t, .or, b), (.voprXor n gd d a b m t, .xor, b),
        (.voprShl n gd d a b m t, .shl, b), (.voprShr n gd d a b m t, .shr, b), (.voprCmpeq n gd d a b m t, .cmpeq, b),
        (.voprCmplt n gd d a b m t, .cmplt, b), (.voprCmple n gd d a b m t, .cmple, b), (.voprSel n gd d a b m t, .sel, b),
        (.voprCvt n gd d a b m t, .cvt, b), (.voprExp2 n gd d a m t, .exp2, 0), (.voprLog2 n gd d a m t, .log2, 0),
        (.voprRcp n gd d a m t, .rcp, 0), (.voprRsqrt n gd d a m t, .rsqrt, 0), (.voprVcmpr n gd d a m t, .vcmpr, 0),
        (.voprVexpd n gd d a m t, .vexpd, 0), (.voprRsum n gd d a m t, .rsum, 0)] : List (Instr × VOp × Nat)),
      let o := r.2.1; let b := r.2.2; let src := if o = .cvt then b else t; let w := tyBytes t; let two := o.usesB
      let dst := if o.isCmp = true then mCode d else tCode d
      let legal := t ≤ 4 ∧ (o.intOnly = true → t < 3) ∧ (o.isApprox = true → 3 ≤ t) ∧ m ≤ 4 ∧ (o = .sel → m < 4) ∧ d < 8 ∧
        (o.isCmp = true → d < 4) ∧ a < 12 ∧ (two = true → b < 12 ∧ (8 ≤ b → t = 2)) ∧ (o = .cvt → b ≤ 4) ∧ (8 ≤ a → src = 2)
      let clean := srcBad s n a = none ∧ (two = true → srcBad s n b = none) ∧ (o = .mac → srcBad s n d = none) ∧ maskBad s n m = none
      let act := active q m (512 / w)
      let ea := srcElems s n a (tyBytes src); let eb := if two = true then srcElems s n b w else []
      let cycles := if t = 2 ∨ 8 ≤ a ∨ (two = true ∧ 8 ≤ b) ∨ o.isApprox = true ∨ (o = .cvt ∧ b = 2) then 8 else 4
      let res := vecOp o q.vmode t src (32 / w) act (srcElems s n d w) ea eb
      issues s n gd [tCode a, dst] = true →
        (¬legal → exec r.1 s = .next (raiseExc n 3
          (wordOf gd 0x3B (d * 2 ^ 19 + a * 2 ^ 15 + b * 2 ^ 11 + m * 2 ^ 8 + t * 2 ^ 5 + o.code)) [dst] s)) ∧
        (legal → q.holds gd = false → exec r.1 s = .next (retire n (s.setSeq n q.clearProgress))) ∧
        (legal → q.holds gd = true → (startPoint q 0x3B).1 = 0 → (startPoint q 0x3B).2.1 = 0 →
          (clean → o.isCmp = false → exec r.1 s = .next (retire n (veFlags n res.2 (veCount n cycles true
            (s.setSeq n (q.putT d (bytesOf w res.1)).clearProgress))))) ∧
          (clean → o.isCmp = true → exec r.1 s = .next (retire n (veCount n cycles true (s.setSeq n
            (Seq.clearProgress { q with m := q.m.set d (maskOf t (vecCmp o q.vmode t act ea eb)), badReg := q.badReg.filter (fun x => x / 0x200 ≠ 0x400 + 12 + d) }))))) ∧
          (¬clean → ∃ e, exec r.1 s = .next (raiseExc n 6 e [dst] (holdProgress n 0x3B 0 0 s))))

/-- 14 R557, R558, R560, R565, 10 R411: the elements. Integer results are exact and then fitted to the type: saturated under SAT, wrapped
otherwise, with the sticky flag of the case. Inactive elements keep their value, but under SEL, VCMPR and VEXPD; RSUM writes element 0 of
each row. -/
def Obligations.VectorElements : Prop :=
  (∀ (vm : VMode) (ty d a b : Nat), ty < 3 →
    let w := tyBits ty; let x := sx w a; let y := sx w b
    ∀ r ∈ ([(.add, x + y), (.sub, x - y), (.mul, x * y), (.mac, sx w d + x * y), (.abs, if x < 0 then -x else x), (.neg, -x),
        (.shl, x * 2 ^ (min b w))] : List (VOp × Int)),
      let fits := -2 ^ (w - 1) ≤ r.2 ∧ r.2 < 2 ^ (w - 1)
      (fits → elemOp r.1 vm ty d a b = ((r.2 % 2 ^ w).toNat, 0)) ∧
      (¬fits → vm.sat = true →
        elemOp r.1 vm ty d a b = (((if r.2 < 0 then -2 ^ (w - 1) else 2 ^ (w - 1) - 1 : Int) % 2 ^ w).toNat, 1)) ∧
      (¬fits → vm.sat = false → elemOp r.1 vm ty d a b = ((r.2 % 2 ^ w).toNat, 2))) ∧
  (∀ (vm : VMode) (ty d a b : Nat), ty < 3 →
    let w := tyBits ty; let x := sx w a; let y := sx w b
    elemOp .and vm ty d a b = (a &&& b, 0) ∧ elemOp .or vm ty d a b = (a ||| b, 0) ∧ elemOp .xor vm ty d a b = (a ^^^ b, 0) ∧
    elemOp .mov vm ty d a b = (a, 0) ∧ elemOp .min vm ty d a b = (if y < x then b else a, 0) ∧
    elemOp .max vm ty d a b = (if x < y then b else a, 0) ∧
    elemOp .shr vm ty d a b = (((x / 2 ^ (min b w)) % 2 ^ w).toNat, 0) ∧
    (elemCmp .cmpeq vm ty a b = true ↔ x = y) ∧ (elemCmp .cmplt vm ty a b = true ↔ x < y) ∧ (elemCmp .cmple vm ty a b = true ↔ x ≤ y)) ∧
  (∀ (o : VOp) (vm : VMode) (ty src row e : Nat) (act : Nat → Bool) (d a b : List Nat), e < d.length →
    let r := (vecOp o vm ty src row act d a b).1.getD e 0
    (o ∉ [.sel, .cvt, .vcmpr, .vexpd, .rsum] →
      r = if act e = true then (elemOp o vm ty (d.getD e 0) (a.getD e 0) (b.getD e 0)).1 else d.getD e 0) ∧
    (o = .sel → r = if act e = true then a.getD e 0 else b.getD e 0) ∧
    (o = .cvt → r = if act e = true ∧ e < a.length then (elemCvt vm src ty (a.getD e 0)).1 else d.getD e 0) ∧
    (o = .rsum → r = if act e = true ∧ e % row = 0 then (rowSum vm ty ((a.drop e).take row)).1 else d.getD e 0) ∧
    (o = .vcmpr → r = (((List.range a.length).filter act).map (fun i => a.getD i 0)).getD e 0) ∧
    (o = .vexpd → r = if act e = true then a.getD ((List.range e).filter act).length 0 else 0))

/-- 14 R559, R560, R563: floating-point elements. ADD, SUB and MUL of finite values under round to nearest give a finite value nearest to the
exact result where one in range exists; a NaN operand gives the canonical NaN, but under MIN and MAX the other operand; comparisons with
NaN are false and the zeros are equal; ABS and NEG change the sign bit alone; a conversion to an integer saturates and takes NaN to 0; the
special inputs of the approximate functions give the results of the table. -/
def Obligations.FloatElements : Prop :=
  ∀ (ty : Nat), ty = 3 ∨ ty = 4 → let f := tyFmt ty; let val := fun p => (f.dec false p).int
    let finite := fun p => f.dec false p ≠ .nan ∧ ∀ neg, f.dec false p ≠ .inf neg
    (∀ (sat : Bool) (d a b : Nat), a < 65536 → b < 65536 → finite a → finite b → let u : Int := 2 ^ f.unit
      ∀ r ∈ ([(.add, (val a + val b) * u), (.sub, (val a - val b) * u), (.mul, val a * val b)] : List (VOp × Int)),
        (∃ p, finite p ∧ r.2.natAbs ≤ (val p * u).natAbs) →
        let z := (elemOp r.1 ⟨0, sat, false⟩ ty d a b).1
        finite z ∧ z < 65536 ∧ ∀ p, p < 65536 → finite p → (val z * u - r.2).natAbs ≤ (val p * u - r.2).natAbs) ∧
    (∀ (vm : VMode) (d a b : Nat), f.dec vm.ftz a = .nan →
      (∀ o ∈ [VOp.add, .sub, .mul, .mac, .exp2, .log2, .rcp, .rsqrt], (elemOp o vm ty d a b).1 = f.nanB) ∧
      elemCmp .cmpeq vm ty a b = false ∧ elemCmp .cmplt vm ty a b = false ∧ elemCmp .cmple vm ty a b = false ∧
      elemCmp .cmpeq vm ty b a = false ∧ elemCmp .cmplt vm ty b a = false ∧ elemCmp .cmple vm ty b a = false ∧
      (∀ dst < 3, (elemCvt vm ty dst a).1 = 0)) ∧
    (∀ (vm : VMode) (d a b : Nat), a < 65536 → b < 65536 → f.dec false a = .nan → vm.ftz = false → f.dec false b ≠ .nan →
      (elemOp .min vm ty d a b).1 = b ∧ (elemOp .max vm ty d a b).1 = b ∧ (elemOp .min vm ty d b a).1 = b ∧ (elemOp .max vm ty d b a).1 = b) ∧
    (∀ (vm : VMode) (d a b : Nat), a < 65536 → (elemOp .abs vm ty d a b).1 = a % 32768 ∧ (elemOp .neg vm ty d a b).1 = (a + 32768) % 65536 ∧
      elemOp .mov vm ty d a b = (a, 0)) ∧
    (∀ (vm : VMode), elemCmp .cmpeq vm ty 0 32768 = true ∧ elemCmp .cmplt vm ty 0 32768 = false ∧
      (elemOp .min vm ty 0 0 32768).1 = 32768 ∧ (elemOp .max vm ty 0 32768 0).1 = 0) ∧
    (∀ (vm : VMode) (dst a : Nat), dst < 3 → a < 65536 → finite a → let w := tyBits dst
      ∃ x : Int, (elemCvt vm ty dst a).1 = (x % 2 ^ w).toNat ∧ -2 ^ (w - 1) ≤ x ∧ x < 2 ^ (w - 1) ∧
        (vm.ftz = false → vm.rnd = 1 → x = max (-2 ^ (w - 1)) (min (2 ^ (w - 1) - 1) (Int.tdiv (val a) (2 ^ f.unit))))) ∧
    (∀ (vm : VMode) (d b : Nat), let inf := f.infB; let app := fun o a => (elemOp o vm ty d a b).1
      app .exp2 0 = f.oneB ∧ app .exp2 32768 = f.oneB ∧ app .exp2 inf = inf ∧ app .exp2 (inf + 32768) = 0 ∧
      app .log2 0 = inf + 32768 ∧ app .log2 32768 = inf + 32768 ∧ app .log2 inf = inf ∧ app .log2 (inf + 32768) = f.nanB ∧
      app .rcp 0 = inf ∧ app .rcp 32768 = inf + 32768 ∧ app .rcp inf = 0 ∧ app .rcp (inf + 32768) = 32768 ∧
      app .rsqrt 0 = inf ∧ app .rsqrt 32768 = inf + 32768 ∧ app .rsqrt inf = 0 ∧ app .rsqrt (inf + 32768) = f.nanB)

/-- 14 R566 to R568, R570, R571: one group of a VOP.T. Every source element is read before a destination element is written; the group's
elements, and nothing else in memory, take the operation's results; element addresses are those of the descriptor's walk. -/
def Obligations.TensorGroups : Prop :=
  (∀ (x : Tensor) (z0 z1 z2 z3 i0 i1 i2 i3 : Nat) (k0 k1 k2 k3 : Int), x.sz = [z0, z1, z2, z3] → x.st = [k0, k1, k2, k3] →
    i0 < z0 → i1 < z1 → i2 < z2 → i3 < z3 → x.count = z0 * z1 * z2 * z3 ∧
    x.addr (i0 + z0 * (i1 + z1 * (i2 + z2 * i3))) = x.base + tyBytes x.ty * (i0 * k0 + i1 * k1 + i2 * k2 + i3 * k3)) ∧
  (∀ (s : State) (n total g : Nat) (o : VOp) (k : VBlock), s.Ok → n < 192 →
    let t := s.tile n; let q := s.seq n; let ty := k.head / 32 % 8; let m := k.head / 256 % 8; let w := tyBytes ty
    let da := groupAddrs k.d g; let aa := groupAddrs k.a g; let ba := groupAddrs k.b g
    let act := fun e => m == 4 || bitOf (q.m.getD m 0) e
    let ea := aa.map (fun i => t.nat i (tyBytes k.a.ty)); let eb := ba.map (fun i => t.nat i w)
    let dd := da.map (fun i => t.nat i w)
    let one := if 3 ≤ ty then (tyFmt ty).oneB else 1
    let res := if o.isCmp = true then (vecCmp o q.vmode ty act ea eb).map (fun b => if b = true then one else 0)
      else (vecOp o q.vmode ty k.a.ty 16 act dd ea (if o.usesB = true then eb else [])).1
    t.poison = [] → q.badReg = [] →
      ∃ u, vopTGroup n o k total g s = .ok u ∧ u.seq n = q ∧ (∀ j, j ≠ n → u.tile j = s.tile j) ∧ u.mem = s.mem ∧
        (∀ a, (∀ i ∈ da, a < i ∨ i + w ≤ a) → memByte (u.tile n).mem a = memByte t.mem a) ∧
        (da.Pairwise (fun i j => i + w ≤ j ∨ j + w ≤ i) → ∀ e, e < da.length → e < res.length →
          (u.tile n).nat (da.getD e 0) w = res.getD e 0 % 2 ^ (8 * w)))

/-! ### Control of a tile, and the neuron engine (09, 11, 18) -/

/-- 09 R366, R368 to R371, 14 R578: control of a tile by Bench. GO starts a halted tile at its boot address, at once or armed for a
boundary, and is discarded on a tile that is not halted or that Quench halted; STOP halts with cause STOP and notifies; RESET is refused on
a tile that is not halted, and otherwise leaves the reset state, with memories kept; SOFTIRQ sets its pending bit, DRAIN drives its. A
window access on a halted tile reads or writes its word; otherwise it sets REFUSED and reads zero.
18 R688, R690 to R694, R719, 11 R473: HOLD holds the engine at once; QUIESCE holds it once its queue is empty and the fences are done,
or late; the write that clears both resumes it, with the horizons that HLOAD gives; NE.EN set from 0 starts the first sweep pass, EN
cleared counts the queued inputs in OFF_DROP. -/
def Obligations.TileControl : Prop :=
  ((∀ (s : State) (n : Nat) (b : Bool), s.Ok → n < 192 → s.tileOn n = true →
      (tileHalted s n = true → s.get (F.TILE_SEQ_STAT_HALT_REASON n) ≠ 5 → ends (exec (.tileGo .bench n b) s) (fun t =>
        t.get (F.TILE_SEQ_STAT_STATE n) = (if b = true then 3 else 1) ∧ t.flag (F.TILE_SEQ_CTL_START n) = b ∧
        (t.seq n = if b = true then s.seq n else { s.seq n with pc := s.get (F.TILE_SEQ_BOOT n) * 4, delay := none }) ∧
        (∀ m, m ≠ n → t.tile m = s.tile m) ∧ (t.tile n).mem = (s.tile n).mem)) ∧
      ((tileHalted s n = false ∨ s.get (F.TILE_SEQ_STAT_HALT_REASON n) = 5) →
        exec (.tileGo .bench n b) s = .next (s.set (F.TILE_SEQ_CTL_START n) (if b = true then 1 else 0))) ∧
      (s.get (F.TILE_SEQ_STAT_STATE n) ≠ 0 → ends (exec (.tileStop .bench n) s) (fun t => t.get (F.TILE_SEQ_STAT_STATE n) = 0 ∧
        t.get (F.TILE_SEQ_STAT_HALT_REASON n) = 3 ∧ t.out = .bench .tileHalt n :: s.out ∧ t.tiles = s.tiles)) ∧
      (s.get (F.TILE_SEQ_STAT_STATE n) = 0 → exec (.tileStop .bench n) s = .next s) ∧
      (tileHalted s n = false → exec (.tileReset .bench n) s = .next (s.raise (F.TILE_SEQ_CTL_REFUSED n))) ∧
      (tileHalted s n = true → ends (exec (.tileReset .bench n) s) (fun t =>
        t.seq n = { epoch := (s.seq n).epoch } ∧ t.get (F.TILE_SEQ_STAT_STATE n) = 0 ∧ t.get (F.TILE_SEQ_STAT_HALT_REASON n) = 0 ∧
        (t.tile n).mem = (s.tile n).mem ∧ (t.tile n).imem = (s.tile n).imem ∧ (t.ne n).queue = [] ∧ (t.ne n).outq = [] ∧
        (∀ k, (t.tile n).cim.accOf k = 0) ∧ t.get (F.NE_CTL_EN n) = 0 ∧ (∀ m, m ≠ n → t.tile m = s.tile m))) ∧
      exec (.softirq .bench n) s = .next (s.setSeq n { s.seq n with ipSoft := true }) ∧
      exec (.drain .bench n b) s = .next (s.set (F.TILE_SEQ_CTL_DRAIN n) (if b = true then 1 else 0))) ∧
    (∀ (s : State) (n i k : Nat) (v : Word), n < 192 → s.tileOn n = true → i < 8 → k < 128 →
      let off := 0xA000 + 512 * i + 4 * k; let a := 0x2000000 + n * 0x10000 + off; let r := (s.seq n).t.getD i []
      (tileHalted s n = true →
        exec (.veWindowAccess n off false v) s = .next (s.emit (.read .bench a (BitVec.ofNat 32 (leAt r (4 * k) 4)))) ∧
        exec (.veWindowAccess n off true v) s = .next (s.setSeq n
          { s.seq n with t := (s.seq n).t.set i (patch r (4 * k) (leBytes 4 v.toNat)) })) ∧
      (tileHalted s n = false →
        exec (.veWindowAccess n off false v) s = .next ((s.raise (F.VE_STAT_REFUSED n)).emit (.read .bench a 0)) ∧
        exec (.veWindowAccess n off true v) s = .next (s.raise (F.VE_STAT_REFUSED n)))) ∧
    (∀ (s : State) (n k : Nat) (v : Word), s.Ok → n < 192 → s.tileOn n = true → tileHalted s n = true → k < 1024 →
      exec (.veWindowAccess n (0xB400 + 4 * k) false v) s =
        .next (s.emit (.read .bench (0x2000000 + n * 0x10000 + (0xB400 + 4 * k)) ((s.tile n).cim.accOf k))) ∧
      ends (exec (.veWindowAccess n (0xB400 + 4 * k) true v) s) (fun t =>
        (∀ j, (t.tile n).cim.accOf j = if j = k then v else (s.tile n).cim.accOf j) ∧ t.regs = s.regs ∧ t.seq n = s.seq n))) ∧
  (∀ (s : State) (n : Nat), s.Ok → n < 192 → s.tileOn n = true →
      ends (exec (.tileHold .bench n) s) (fun t => t.flag (F.TILE_CHG_CTL_HOLD n) = true ∧ t.flag (F.TILE_CHG_STAT_HELD n) = true ∧
        t.tiles = s.tiles ∧ t.out = s.out) ∧
      (s.flag (F.TILE_CHG_CTL_HOLD n) = false → ends (exec (.tileQuiesce .bench n) s) (fun t => t.flag (F.TILE_CHG_CTL_QUIESCE n) = true ∧
        t.tiles = s.tiles ∧ (t.flag (F.TILE_CHG_STAT_HELD n) = true ↔ s.flag (F.TILE_CHG_STAT_HELD n) = true ∨
          ((s.ne n).queue = [] ∧ (s.flag (F.EVF_FENCE_RX_DONE n) = true ∨ s.flag (F.TILE_CHG_STAT_FENCE_LATE n) = true))))) ∧
      ((s.flag (F.TILE_CHG_CTL_HOLD n) = true ∨ s.flag (F.TILE_CHG_CTL_QUIESCE n) = true) → ∀ b, ends (exec (.tileResume .bench n b) s) (fun t =>
        t.flag (F.TILE_CHG_CTL_HOLD n) = false ∧ t.flag (F.TILE_CHG_CTL_QUIESCE n) = false ∧ t.flag (F.TILE_CHG_STAT_HELD n) = false ∧
        (t.ne n).queue = (s.ne n).queue ∧ t.seq n = s.seq n ∧ (t.tile n).mem = (s.tile n).mem ∧
        (b = false → (t.ne n).horizon = (s.ne n).horizon) ∧
        (s.flag (F.NE_CTL_EN n) = true → regionsOf s n ≠ [] → (t.ne n).sweeping = true ∧ (t.ne n).passStart = s.T))) ∧
      (s.flag (F.TILE_CHG_CTL_QUIESCE n) = true → s.flag (F.EVF_FENCE_RX_DONE n) = false →
        exec (.fenceLate n) s = .next (((s.raise (F.TILE_CHG_STAT_FENCE_LATE n)).raise (F.TILE_CHG_STAT_HELD n)).bench .fenceLate n)) ∧
      (s.flag (F.NE_CTL_EN n) = false → s.flag (F.NE_CTL_STAMP_INIT n) = false → ∀ r rest, regionsOf s n = r :: rest →
        ends (exec (.neEnable .bench n) s) (fun t => t.flag (F.NE_CTL_EN n) = true ∧ (t.ne n).sweeping = true ∧ (t.ne n).region = r.ix ∧
          (t.ne n).pos = 0 ∧ (t.ne n).passStart = s.T ∧ (t.tile n).mem = (s.tile n).mem ∧ t.seq n = s.seq n)) ∧
      (s.flag (F.NE_CTL_EN n) = true → exec (.neEnable .bench n) s = .next s ∧
        ends (exec (.neDisable .bench n) s) (fun t => t.flag (F.NE_CTL_EN n) = false ∧ (t.ne n).queue = [] ∧ (t.ne n).sweeping = false ∧
          t.get (F.NE_CNT n 8) = min (2 ^ 32 - 1) (s.get (F.NE_CNT n 8) + (s.ne n).queue.length) ∧ (t.tile n).mem = (s.tile n).mem)))

/-- 11 R437, R441 to R443, R445: a record reads back as it is stored; the leak of an INT16 variable and an input's effect on a record. An
early input neither leaks nor moves STAMP.
11 R446, R447, R453, R454, R467, R469, R470: a batch takes queued inputs in order, at most 16 updates; a poisoned EVW, one whose target no
valid region holds, and one whose class has a bad word only count. The sweeper visits one record after the other and writes only one
with e of 2^14 or more; an overdue pass sets its bit, and the reset pass sets every record to its rest values. -/
def Obligations.NeuronEngine : Prop :=
  ((∀ (s : State) (n j : Nat) (r : Region) (x : Rec), s.Ok → n < 192 → (∀ v ∈ x.v, v < 2 ^ 16) → x.stamp < 2 ^ 16 → x.refr < 256 → x.user < 256 →
      let y := loadRec ((storeRec n r j x s).tile n) r j
      (∀ i < r.vars, y.v.getD i 0 = x.v.getD i 0) ∧ y.stamp = x.stamp ∧ (r.fmt ≠ 0 → r.fmt ≠ 1 → y.refr = x.refr ∧ y.user = x.user) ∧
      (∀ a, (a < r.addr j ∨ r.addr j + r.size ≤ a) → memByte ((storeRec n r j x s).tile n).mem a = memByte (s.tile n).mem a) ∧
      (storeRec n r j x s).regs = s.regs) ∧
    (∀ (rest f v : Nat), rest < 2 ^ 16 → v < 2 ^ 16 → f ≤ 2 ^ 15 →
      sx 16 (leakVar 1 rest f v) = sx 16 rest + ((sx 16 v - sx 16 rest) * f + 2 ^ 14) / 2 ^ 15) ∧
    (∀ (s : State) (n t ts e : Nat), let tab := fun i => tabEntry s n t i
      (63 * 2 ^ ts ≤ e → decay s n t ts e = tab 63) ∧
      (e < 63 * 2 ^ ts → (decay s n t ts e : Int) =
        tab (e / 2 ^ ts) + ((tab (e / 2 ^ ts + 1) : Int) - tab (e / 2 ^ ts)) * (e % 2 ^ ts : Nat) / 2 ^ ts) ∧ ∀ i, tab i ≤ 0x8000) ∧
    (∀ (s : State) (n c mode : Nat) (r : Region) (t : Int) (x : Rec), r.vtype = 0 → x.v.length = 4 → x.stamp < 2 ^ 16 → c < 2 ^ 16 →
      let e := sx 16 ((stampOf r.k t + 2 ^ 16 - x.stamp) % 2 ^ 16); let y := (applyInput s n r t c mode x).x
      let i := s.get (F.NE_CLS_00_IVAR n r.cls); let z := if e < 0 then x else leakRec s n r e.toNat x; let v := sx 16 (z.v.getD i 0)
      ((applyInput s n r t c mode x).early = true ↔ e < 0) ∧ y.stamp = (if e < 0 then x.stamp else stampOf r.k t) ∧
      (∀ k, k ≠ i → y.v.getD k 0 = z.v.getD k 0) ∧ y.refr = z.refr ∧ y.user = x.user ∧
      (i < r.vars → sx 16 (y.v.getD i 0) = if mode = 0 then max (-2 ^ 15) (min (2 ^ 15 - 1) (v + sx 16 c)) else if mode = 1 then sx 16 c
        else max v (sx 16 c)) ∧
      (r.vars ≤ i → y.v = z.v))) ∧
  ((∀ (s : State) (n : Nat), engineReady s n = true → (s.ne n).queue = [] → exec (.neBatch n) s = .next (settleHold n s)) ∧
    (∀ (s : State) (n : Nat) (i : NeIn), engineReady s n = true → (s.ne n).queue = [i] →
      let u := neCount n .inEv 1 (s.setNe n { s.ne n with queue := [] })
      (i.evw.poisoned = true → exec (.neBatch n) s = .next (settleHold n (neCount n .evPoison 1 u))) ∧
      (i.evw.poisoned = false → targetRegion s n i.evw.target = none → exec (.neBatch n) s = .next (settleHold n (neCount n .noRegion 1 u))) ∧
      (i.evw.poisoned = false → ∀ r, targetRegion s n i.evw.target = some r → inReset s n r = false →
        (classBad s n r = true → exec (.neBatch n) s = .next (settleHold n (neCount n .clsDrop 1 u))) ∧
        (classBad s n r = false → exec (.neBatch n) s = .next (settleHold n (batch n (evwUpdates s n r i) u)))) ∧
      (i.evw.poisoned = false → ∀ r, targetRegion s n i.evw.target = some r → inReset s n r = true →
        exec (.neBatch n) s = .next (settleHold n s))) ∧
    (∀ (s : State) (n : Nat) (r : Region) (i : NeIn), s.flag (F.NE_CLS_00_STENCIL n r.cls) = false → r.has i.evw.target = true →
      let w := sx 8 (s.get (F.NE_CLS_08 n r.cls) % 256)
      evwUpdates s n r i = if w = 0 then [] else [⟨r, i.evw.target - r.tbase, i.t,
        max (-2 ^ 15) (min (2 ^ 15 - 1) (i.evw.value * w * 2 ^ s.get (F.NE_CLS_00_INSHIFT n r.cls))), s.get (F.NE_CLS_00_INMODE n r.cls)⟩]) ∧
    (∀ (s : State) (n : Nat) (r : Region) (rest : List Region), engineRuns s n = true → (s.ne n).sweeping = false → regionsOf s n = r :: rest →
      (s.ne n).passStart + 2 ^ (13 + kMin s n) ≤ s.T →
      exec (.sweepPassStart n) s = .next (s.setNe n { s.ne n with sweeping := true, region := r.ix, pos := 0, passStart := s.T })) ∧
    (∀ (s : State) (n : Nat) (r : Region), engineRuns s n = true → (s.ne n).sweeping = true → (s.ne n).resets = [] →
      regionOf s n (s.ne n).region = some r → (s.ne n).pos < r.inMemCount → recBad (s.tile n) r (s.ne n).pos = none →
      let x := loadRec (s.tile n) r (s.ne n).pos; let e := sx 16 ((stampOf r.k s.T + 2 ^ 16 - x.stamp) % 2 ^ 16)
      exec (.sweepVisit n) s = .next (sweepNext n (if e < 2 ^ 14 then s else
        storeRec n r (s.ne n).pos { leakRec s n r e.toNat x with stamp := stampOf r.k s.T } s))) ∧
    (∀ (s : State) (n k : Nat) (r : Region), s.Ok → n < 192 → k < 8 → s.tileOn n = true → s.flag (F.NE_CTL_EN n) = true →
      (s.ne n).sweeping = true → regionOf s n k = some r → (s.ne n).passStart + 2 ^ (14 + r.k) ≤ s.T → inReset s n r = false →
      ends (exec (.sweepOverdue n k) s) (fun t => bitOf (t.get (F.NE_STAT_OVERDUE n)) k = true ∧
        (∀ j < 8, j ≠ k → bitOf (t.get (F.NE_STAT_OVERDUE n)) j = bitOf (s.get (F.NE_STAT_OVERDUE n)) j) ∧
        t.ne n = { s.ne n with resets := (s.ne n).resets ++ [⟨k, 1⟩] } ∧ t.out = .bench .overdue n :: s.out)) ∧
    (∀ (s : State) (n k : Nat) (r : Region) (rest : List ResetPass), s.Ok → n < 192 → k < 8 → engineRuns s n = true →
      (s.ne n).resets = ⟨k, 1⟩ :: rest → regionOf s n k = some r →
      ends (exec (.resetPassEnd n) s) (fun t => (t.ne n).resets = rest ∧ bitOf (t.get (F.NE_STAT_OVERDUE n)) k = false ∧
        t.get (F.NE_CNT n 4) = min (2 ^ 32 - 1) (s.get (F.NE_CNT n 4) + r.inMemCount) ∧
        ∀ j < r.inMemCount, (loadRec (t.tile n) r j).stamp = stampOf r.k s.T ∧
          ∀ i < r.vars, (loadRec (t.tile n) r j).v.getD i 0 = restOf s n r.cls i)))

/-! ### The compute-in-memory arrays (12, 13) -/

/-- 12 R491, R494 to R498, R503, R505, 13 R539: programming a bank. START moves the bank that does not compute to PROGRAMMING and breaks its
seal, and is refused on the compute bank; GO queues a row, which takes a free program slot in the order of the GOs and latches its
buffer; ROW_DONE writes the row's slices and the failed pairs; FINISH makes the bank VALID with its seal, or INVALID where a failed pair is
unserved; ABORT ends the session with the bank INVALID. -/
def Obligations.CimPrograms : Prop :=
  (∀ (s : State) (n a : Nat) (isB : Bool), s.Ok → s.Sized → n < 192 → a < 4 → s.tileOn n = true → let x := s.arr n a
    (x.cb ≠ isB → x.spare = none → ends (exec (.cimPgmStart .bench n a isB) s) (fun t =>
      t.arr n a = { x.setBank isB { x.bank isB with state := .programming, tag := none } with session := true } ∧
      t.flag (F.CIM_A_PGM_BANK n a) = isB ∧ (∀ b, b < 4 → b ≠ a → t.arr n b = s.arr n b) ∧ t.seq n = s.seq n)) ∧
    (x.cb = isB → ends (exec (.cimPgmStart .bench n a isB) s) (fun t => t.flag (F.CIM_A_PGM_REFUSED n a) = true ∧ t.tiles = s.tiles))) ∧
  (∀ (s : State) (n a : Nat) (buf : Bool) (row : BitVec 9), s.Ok → s.Sized → n < 192 → a < 4 → s.tileOn n = true → let x := s.arr n a
    (x.session = true → x.queued = none → x.cb ≠ s.flag (F.CIM_A_PGM_BANK n a) → s.cimq = [] →
      ends (exec (.cimPgmGo .bench n a buf row) s) (fun t =>
        if x.busy = none ∧ slotsUsed s < s.get F.GLB_CIM_PGM then
          t.arr n a = { x with busy := some ⟨row.toNat, rowImage s n a (if buf = true then 1 else 0)⟩ } ∧ t.cimq = [] ∧
          t.flag (F.CIM_A_PGM_BUSY n a) = true ∧ t.flag (F.CIM_A_PGM_QUEUED n a) = false
        else t.arr n a = { x with queued := some (row.toNat, if buf = true then 1 else 0) } ∧ t.cimq = [(n, a)] ∧
          t.flag (F.CIM_A_PGM_QUEUED n a) = true)) ∧
    ((x.session = false ∨ x.queued.isSome = true) → ends (exec (.cimPgmGo .bench n a buf row) s) (fun t =>
      t.flag (F.CIM_A_PGM_REFUSED n a) = true ∧ t.tiles = s.tiles ∧ t.cimq = s.cimq))) ∧
  (∀ (s : State), (s.get F.GLB_CIM_PGM ≤ slotsUsed s ∨ s.cimq = []) → exec .cimRowSlotGrant s = .next s) ∧
  (∀ (s : State) (n a row buf : Nat) (rest : List (Nat × Nat)), s.Ok → s.Sized → n < 192 → a < 4 → slotsUsed s < s.get F.GLB_CIM_PGM →
    s.cimq = (n, a) :: rest → (s.arr n a).busy = none → (s.arr n a).queued = some (row, buf) →
    ends (exec .cimRowSlotGrant s) (fun t => t.arr n a = { s.arr n a with queued := none, busy := some ⟨row, rowImage s n a buf⟩ } ∧
      t.cimq = rest ∧ t.flag (F.CIM_A_PGM_BUSY n a) = true ∧ t.flag (F.CIM_A_PGM_QUEUED n a) = false)) ∧
  (∀ (s : State) (n a loops : Nat) (failed : List Nat) (j : RowJob), s.Ok → s.Sized → n < 192 → a < 4 → s.tileOn n = true →
    (s.arr n a).busy = some j → s.cimq = [] → s.fw.tasks = [] → j.row < 512 → let x := s.arr n a
    ends (exec (.cimRowDone n a loops failed) s) (fun t =>
      let bk := (t.arr n a).bank (!x.cb)
      (t.arr n a).busy = none ∧ (t.arr n a).bank x.cb = x.bank x.cb ∧ t.flag (F.CIM_A_PGM_BUSY n a) = false ∧
      t.get (F.CIM_A_PGM_LOOPS n a) = min loops 34 ∧ (∀ p, p ∈ bk.failed ↔ p ∈ (x.bank (!x.cb)).failed ∨ (p ∈ failed ∧ p < 268)) ∧
      ((∃ p ∈ failed, p < 268) → t.flag (F.CIM_A_PGM_FAILROW n a) = true))) ∧
  (∀ (b : Bank) (j : RowJob) (r p : Nat), sparseWf (fun _ => (0 : Int)) b.cells = true → p < 268 → let b' := programRow b j
    let written := r = j.row ∧ (p < 256 ∨ (p < 264 ∧ (b.subst.getD (p - 256) (0, 0)).2 = 2))
    sparseGet (fun _ => 0) b'.cells (r * 268 + p) = if written then max (-15) (min 15 (j.image.getD p 0).toInt)
      else sparseGet (fun _ => 0) b.cells (r * 268 + p)) ∧
  (∀ (s : State) (n a : Nat), s.Ok → s.Sized → n < 192 → a < 4 → s.tileOn n = true → let x := s.arr n a
    let b := x.bank (!x.cb)
    (x.session = true → x.busy = none → x.queued = none → x.cb ≠ s.flag (F.CIM_A_PGM_BANK n a) →
      ends (exec (.cimPgmFinish .bench n a) s) (fun t => let b' := (t.arr n a).bank (!x.cb)
        (t.arr n a).session = false ∧ b'.count = min 65535 (b.count + 1) ∧ b'.cells = b.cells ∧
        ((∀ p ∈ b.failed, p < 256 → b.via p ≠ p) → b'.state = .valid ∧ b'.tag = some (s.get (F.CIM_A_SEAL_IN n a)) ∧
          b'.gamma = x.gamma ∧ b'.beta = x.beta ∧ b'.stamp = s.tb.sec) ∧
        ((∃ p ∈ b.failed, p < 256 ∧ b.via p = p) → b'.state = .invalid))) ∧
    ((x.session = false ∨ x.busy.isSome = true ∨ x.queued.isSome = true) →
      exec (.cimPgmFinish .bench n a) s = .next (s.raise (F.CIM_A_PGM_REFUSED n a))) ∧
    (x.session = true → x.busy = none → ends (exec (.cimPgmAbort .bench n a) s) (fun t =>
      (t.arr n a).session = false ∧ ((t.arr n a).bank (!x.cb)).state = .invalid ∧ (t.arr n a).queued = none ∧
      ((t.arr n a).bank x.cb) = x.bank x.cb ∧ (∀ k ∈ t.cimq, k ≠ (n, a)))))

/-- 13 R515, R516, R518, R523 to R526, R528, R529: a full calibration window is accepted where its means lie within the limits, and then moves the
estimates by its distance over 2^KS; otherwise it is discarded and the estimates stay. A burst of 256 conversions starts in its slot; the
count of the second is shown and decides INJECT; an assay window ends at its epochs and starts empty.
13 R532 to R541, R547: a margin scan is refused outside its margins, runs on the bank it names and reports its failing pairs; SPGO
programs a spare of the compute bank, refused where the spare or the array is taken; at its end the entry is ACTIVE or FAILED; a bank due
for refresh is notified and an expired one is reported to the host. -/
def Obligations.CimCalibration : Prop :=
  ((∀ (s : State) (n a : Nat), s.Ok → s.Sized → n < 192 → a < 4 → s.tileOn n = true → windowFull (s.arr n a).win = true →
      let x := s.arr n a; let w := x.win; let ks := w.par / 2 ^ 5 % 8
      let bad := w.lim % 2 ^ 16 * (30 * (w.sumN : Int)) < w.gain.natAbs * 2 ^ 14 ∨ w.lim / 2 ^ 16 % 256 * (w.n : Int) < 4 * w.offs.natAbs ∨
        w.lim / 2 ^ 24 % 256 * (w.n : Int) < 4 * w.lin
      let gw := roundDiv (w.gain * 2 ^ 46) (30 * w.sumN); let bw := roundDiv (w.offs * 2 ^ 34) w.n
      (¬bad → ends (exec (.calWindowClose n a) s) (fun t => (t.arr n a).gamma = x.gamma + roundDiv (gw - x.gamma) (2 ^ ks) ∧
        (t.arr n a).beta = x.beta + roundDiv (bw - x.beta) (2 ^ ks) ∧ (t.arr n a).win.n = 0 ∧ (t.arr n a).badRun = 0 ∧
        t.get (F.CIM_TS_WIN n a) = min (2 ^ 32 - 1) (s.get (F.CIM_TS_WIN n a) + 1) ∧ (t.arr n a).cbank.stamp = s.tb.sec)) ∧
      (bad → ends (exec (.calWindowClose n a) s) (fun t => (t.arr n a).gamma = x.gamma ∧ (t.arr n a).beta = x.beta ∧ (t.arr n a).win.n = 0 ∧
        (t.arr n a).goodRun = 0 ∧ t.get (F.CIM_TS_WIN_DISC n a) = min (2 ^ 32 - 1) (s.get (F.CIM_TS_WIN_DISC n a) + 1) ∧
        (x.badRun = 3 → t.flag (F.CIM_TS_CTL_TS_FAULT n a) = true ∧ t.flag (F.CIM_TS_CTL_CONVERGED n a) = false ∧
          t.out = .bench .tsFault (n * 4 + a) :: s.out)))) ∧
    (∀ (num : Int) (den : Nat), 0 < den → 2 * (roundDiv num den * den - num).natAbs ≤ den) ∧
    (∀ (s : State) (n a : Nat), s.Ok → s.Sized → n < 192 → a < 4 → s.tileOn n = true → (s.arr n a).burst = 0 →
      (s.arr n a).burstDone = false → s.flag (F.CIM_TS_CTL_INJECT n a) = true → inCalSlot s n = true → (s.arr n a).cbank.state = .valid →
      ends (exec (.calBurstStart n a 0) s) (fun t => (t.arr n a).burst = 256 ∧ (t.arr n a).burstDone = true ∧
        (t.arr n a).lfsr = s.T % 2 ^ 16 ∧ t.flag (F.CIM_TS_CTL_BURST n a) = true ∧ t.seq n = s.seq n)) ∧
    (∀ (s : State) (n a : Nat), s.Ok → s.Sized → n < 192 → a < 4 → s.tileOn n = true → (s.seq n).mprog.toNat < 2 ^ 31 →
      (s.arr n a).burst = 1 → ends (exec (.calBurstStart n a 1) s) (fun t => (t.arr n a).burst = 0 ∧ t.flag (F.CIM_TS_CTL_BURST n a) = false ∧
        (t.arr n a).win.n = (if windowFull (s.arr n a).win = true then 1 else (s.arr n a).win.n + 1))) ∧
    (∀ (s : State) (n a : Nat), s.Ok → s.Sized → n < 192 → a < 4 → n < s.cfg.tiles → s.tileOn n = true → s.mgtOn = true →
      (s.arr n a).convSec < 2 ^ 32 →
      ends (exec .convSecUpdate s) (fun t => t.get (F.CIM_TS_CONV_SEC n a) = (s.arr n a).convSec ∧ (t.arr n a).convSec = 0 ∧
        t.flag (F.CIM_TS_CTL_INJECT n a) = decide ((s.arr n a).convSec < 1000))) ∧
    (∀ (s : State) (n : Nat), s.Ok → s.Sized → n < 192 → s.tileOn n = true → assayOn s n = false →
      s.epochNum % s.get (F.ASSAY_CFG_ASSAY_EP n) = 0 → ends (exec (.assayWindowEnd n) s) (fun t => t.regs = s.regs ∧ (t.ne n).firedWin = 0 ∧
        (∀ a < 4, t.arr n a = { s.arr n a with hist := List.replicate 16 0, clips := 0, codes := 0 }) ∧
        (t.tile n).cim.assay = s.regs.filter (fun e => assayReg n e.1))) ∧
    (∀ (s : State) (n : Nat), s.Ok → s.Sized → n < 192 → s.tileOn n = true → assayOn s n = true →
      s.epochNum % assayGet s n (F.ASSAY_CFG_ASSAY_EP n) = 0 → ends (exec (.assayWindowEnd n) s) (fun t =>
        (∀ a < 4, bitOf (t.get (F.ASSAY_STAT_VIOL n)) a = arrayViolates s n a ∧
          (t.arr n a).viols = if arrayViolates s n a = true then (s.arr n a).viols + 1 else 0) ∧
        t.flag (F.ASSAY_STAT_FIRE_VIOL n) = fireViolates s n ∧
        ∀ a < 4, ∀ i < 16, t.get (F.ASSAY_HIST n a i) = min (2 ^ 32 - 1) ((s.arr n a).hist.getD i 0)))) ∧
  ((∀ (s : State) (n a : Nat) (isB : Bool) (margin : BitVec 4), s.Ok → s.Sized → n < 192 → a < 4 → s.tileOn n = true →
      (6 ≤ margin.toNat → margin.toNat ≤ 9 → ends (exec (.marginScanStart .bench n a isB margin) s) (fun t =>
        t.arr n a = { s.arr n a with scan := some isB } ∧ t.flag (F.CIM_TS_MSCAN_BUSY n a) = true ∧ t.get (F.CIM_TS_MSCAN_FCNT n a) = 0 ∧
        (∀ w < 9, t.get (F.CIM_TS_RFAIL n a w) = 0) ∧ t.get (F.CIM_TS_MSCAN_MARGIN n a) = margin.toNat)) ∧
      ((margin.toNat < 6 ∨ 9 < margin.toNat) → exec (.marginScanStart .bench n a isB margin) s = .next (s.raise (F.CIM_STAT_REFUSED n)))) ∧
    (∀ (s : State) (n a : Nat) (failed : List Nat), s.Ok → s.Sized → n < 192 → a < 4 → s.tileOn n = true →
      (s.arr n a).scan = some (!(s.arr n a).cb) → s.fw.tasks = [] → failed.Nodup →
      ends (exec (.marginScanDone n a failed) s) (fun t => (t.arr n a).scan = none ∧ t.flag (F.CIM_TS_MSCAN_BUSY n a) = false ∧
        t.flag (F.CIM_TS_MSCAN_DONE n a) = true ∧ t.get (F.CIM_TS_MSCAN_FCNT n a) = (failed.filter (fun p => p < 268)).length ∧
        (∀ p < 268, bitOf (t.get (F.CIM_TS_RFAIL n a (p / 32))) (p % 32) =
          (bitOf (s.get (F.CIM_TS_RFAIL n a (p / 32))) (p % 32) || failed.contains p)) ∧ t.out = .bench .marginDone (n * 4 + a) :: s.out)) ∧
    (∀ (s : State) (n a : Nat) (spare : BitVec 3) (pair : BitVec 8), s.Ok → s.Sized → n < 192 → a < 4 → s.tileOn n = true →
      let x := s.arr n a; let st := (x.cbank.subst.getD spare.toNat (0, 0)).2
      ((st = 0 ∨ st = 3) → x.spare = none → ends (exec (.spareProgramStart .bench n a spare pair) s) (fun t =>
        (t.arr n a).spare = some (x.cb, spare.toNat, pair.toNat) ∧
        (t.arr n a).cbank.subst = x.cbank.subst.set spare.toNat (pair.toNat, 1) ∧ (t.arr n a).cbank.cells = x.cbank.cells ∧
        t.flag (F.CIM_TS_SP_CTL_BUSY n a) = true)) ∧
      ((st = 1 ∨ st = 2 ∨ x.spare.isSome = true) → ends (exec (.spareProgramStart .bench n a spare pair) s) (fun t =>
        t.flag (F.CIM_A_PGM_REFUSED n a) = true ∧ t.tiles = s.tiles))) ∧
    (∀ (s : State) (n a sp pair : Nat) (isB ok : Bool), s.Ok → s.Sized → n < 192 → a < 4 → sp < 8 → s.tileOn n = true → s.cimq = [] →
      (s.arr n a).spare = some (isB, sp, pair) → ((s.arr n a).bank isB).subst.length = 8 →
      ends (exec (.spareProgramDone n a ok) s) (fun t => (t.arr n a).spare = none ∧ t.flag (F.CIM_TS_SP_CTL_BUSY n a) = false ∧
        ((t.arr n a).bank isB).subst.getD sp (0, 0) = (pair, if ok = true then 2 else 3) ∧ (t.arr n a).bank (!isB) = (s.arr n a).bank (!isB))) ∧
    (∀ (s : State) (n a : Nat) (isB swap : Bool), s.Ok → s.Sized → n < 192 → a < 4 → s.tileOn n = true → s.fw.plan = none →
      ends (exec (.retentionRefreshDue n a isB swap) s) (fun t =>
        t.arr n a = (s.arr n a).setBank isB { (s.arr n a).bank isB with due := true } ∧ t.out = .bench .retention (n * 4 + a) :: s.out ∧
        t.regs = s.regs)) ∧
    (∀ (s : State) (n a : Nat) (isB : Bool), s.Ok → s.Sized → n < 192 → a < 4 → n < s.cfg.tiles →
      ends (exec (.retentionExpired n a isB) s) (fun t => ((t.arr n a).bank isB).expired = true ∧
        (t.arr n a).bank (!isB) = (s.arr n a).bank (!isB) ∧ (t.arr n a).cb = (s.arr n a).cb ∧ t.seq n = s.seq n)))

/-! ### Sync counters, mailboxes (16) and the Ladle (15) -/

/-- 16 R396, R620, R622 to R626, R652: a home applies SET, ADD, SUB, SIG and READ modulo 2³², returns the old value, and changes no other
counter. A wait completes at once where the value meets its threshold, with MET = 0 where its timeout is zero, and otherwise is
registered with its deadline; a change completes the registered waits that it meets. A poisoned counter takes SET alone. -/
def Obligations.CounterLaws : Prop :=
  (∀ c h : Nat, c < 2 ^ 32 → h < 2 ^ 32 → (meets c h = true ↔ (c + 2 ^ 32 - h) % 2 ^ 32 < 2 ^ 31)) ∧
  (∀ (s : State) (key src tag op v lim : Nat) (ret : Bool), s.Ok → op ≠ 3 → v < 2 ^ 32 → ctrOf s key < 2 ^ 32 →
    let t := takeOp key src tag op v lim ret s
    (∀ k, k ≠ key → ctrOf t k = ctrOf s k) ∧
    ((s.sync.poison.contains key = false ∨ op = 0) → ctrOf t key =
      (if op = 0 then v else if op = 1 then (ctrOf s key + v) % 2 ^ 32 else if op = 2 then (ctrOf s key + 2 ^ 32 - v) % 2 ^ 32
       else if op = 4 then (ctrOf s key + 1) % 2 ^ 32 else ctrOf s key)) ∧
    (s.sync.poison.contains key = true → op ≠ 0 → ctrOf t key = ctrOf s key ∧
      t = answer (homeNode key) src tag op ret 0 ((s.inc F.SYNC_POISON).bench .syncPoison key)) ∧
    (op = 0 → key ∉ t.sync.poison) ∧
    ((s.sync.poison.contains key = false ∨ op = 0) → ∀ w ∈ s.sync.waits, (w ∈ t.sync.waits ↔ ¬(w.key = key ∧ meets (ctrOf t key) w.thr = true)))) ∧
  (∀ (s : State) (key src tag v lim : Nat) (ret : Bool), s.Ok → s.sync.poison.contains key = false → s.sync.waits = [] →
    (∀ k < 64, s.flag (F.SYNC_WATCH_CTL_ARM k) = false) →
    (meets (ctrOf s key) v = true → takeOp key src tag 3 v lim ret s = answer (homeNode key) src tag 3 true 1 s) ∧
    (meets (ctrOf s key) v = false → takeOp key src tag 3 v 0 ret s = answer (homeNode key) src tag 3 true 0 (s.inc F.SYNC_WAIT_TO)) ∧
    (meets (ctrOf s key) v = false → 0 < lim → takeOp key src tag 3 v lim ret s =
      s.setSync { s.sync with waits := [⟨key, src, tag, v, s.T + lim⟩] })) ∧
  (∀ (s : State) (n tag : Nat) (wait : Bool) (v : Word) (e : SbEntry), n < s.tiles.length → (s.seq n).sb = [e] → e.tag = tag → e.value = none →
    e.dst < 40 → deliver n tag true wait v s = s.setSeq n (Seq.land
      { s.seq n with unacked := (s.seq n).unacked - 1, sb := [], ipWait := (s.seq n).ipWait || wait } e.dst v))

/-- 16 R397, R398, R621, R623, R626 to R629: the interface sends the oldest operation of the queue: to its own counters at once, to another
node where it has credit; an absent handle, or a wait on another tile's counter, is counted in SYNC_BADH and answered with 0. A node takes
operations, window writes and replies in their order; a wait whose deadline has come completes with MET = 0.
16 R631 to R633, R638, R636, R639, R650: a window write goes on its way to its home; a host write outside what SYNC_HOSTWR allows only
counts; arming a watch tests it at once. The header write makes a complete result READY with the next SEQ; an ACK of the READY
result's SEQ releases the slot, any other only counts. -/
def Obligations.CountersAndWindows : Prop :=
  ((∀ (s : State) (n key : Nat) (r : SyncReq) (rest : List SyncReq), s.fabOn = true → n < s.cfg.tiles → (s.seq n).syncq = r :: rest →
      let u := s.setSeq n { s.seq n with syncq := rest }
      (handleKey s r.handle (some n) true = none →
        exec (.syncQueueIssue n) s = .next (deliver n r.tag r.ret (r.op == 3) 0 (badHandle r.handle n u))) ∧
      (handleKey s r.handle (some n) true = some key → homeNode key = n →
        exec (.syncQueueIssue n) s = .next (takeOp key n r.tag r.op r.value r.timeout r.ret u)) ∧
      (handleKey s r.handle (some n) true = some key → homeNode key ≠ n → (r.op ≠ 3 ∨ key < 0x10000) → hasCredit s n true = true →
        exec (.syncQueueIssue n) s = .next (inject ⟨homeNode key, n, .sync { op := r.op, index := if key < 0x10000 then key else key % 512, tag := r.tag, ret := r.ret, value := r.value, timeout := r.timeout }⟩ u)) ∧
      (handleKey s r.handle (some n) true = some key → homeNode key ≠ n → (r.op ≠ 3 ∨ key < 0x10000) → hasCredit s n true = false →
        exec (.syncQueueIssue n) s = .next s) ∧
      (handleKey s r.handle (some n) true = some key → homeNode key ≠ n → r.op = 3 → 0x10000 ≤ key →
        exec (.syncQueueIssue n) s = .next (deliver n r.tag r.ret true 0 (badHandle r.handle n u)))) ∧
    (∀ (s : State) (n d src : Nat) (f : SyncFlit) (l : List Item), s.fabOn = true → s.rx n = ⟨d, src, .sync f⟩ :: l →
      (f.op ≠ 6 → exec (.syncOpApply n false) s =
        .next (takeOp (if n < 0xF00 then 0x10000 + n * 512 + f.index else f.index) src f.tag f.op f.value f.timeout f.ret (s.setRx n l))) ∧
      (f.op = 6 → n < 0xF00 → exec (.syncReply n) s = .next (deliver n f.tag f.ret (f.timeout == 1)
        (BitVec.ofNat 32 (if f.timeout = 1 then (if f.met = true then 1 else 0) else f.value)) (s.setRx n l)))) ∧
    (∀ (s : State) (node key op v : Nat) (rest : List (Nat × Nat × Nat)), s.fabOn = true → s.sync.window = (key, op, v) :: rest →
      homeNode key = node → exec (.syncOpApply node true) s = .next (windowApply key op v (s.setSync { s.sync with window := rest }))) ∧
    (∀ (s : State) (i : Nat) (w : Wait), s.sync.waits[i]? = some w →
      (w.deadline ≤ s.T → exec (.waitTimeout i) s = .next (answer (homeNode w.key) w.src w.tag 3 true 0
        ((s.setSync { s.sync with waits := s.sync.waits.eraseIdx i }).inc F.SYNC_WAIT_TO))) ∧
      (s.T < w.deadline → exec (.waitTimeout i) s = .next s)) ∧
    (∀ (s : State) (h : Nat), s.Ok → let t := badHandle h 5 s
      t.get F.SYNC_BADH = min (2 ^ 32 - 1) (s.get F.SYNC_BADH + 1) ∧ t.get F.SYNC_BADH_LAST = h % 2 ^ 32 ∧ t.get F.SYNC_BADH_SRC_NODE = 5 ∧
      t.flag F.SYNC_BADH_SRC_VALID = true ∧ t.sync = s.sync)) ∧
  ((∀ (s : State) (n i : Nat) (v : Word), s.fabOn = true → i < 32768 → n < s.cfg.tiles → n < 192 →
      let queued := fun (key op : Nat) => s.setSync { s.sync with window := s.sync.window ++ [(key, op, v.toNat)] }
      exec (.globalSetWindowWrite .bench i v) s = .next (queued i 0) ∧ exec (.globalAddWindowWrite .bench i v) s = .next (queued i 1) ∧
      (∀ l < 512, exec (.localSetWindowWrite .bench n l v) s = .next (queued (0x10000 + n * 512 + l) 0) ∧
        exec (.localAddWindowWrite .bench n l v) s = .next (queued (0x10000 + n * 512 + l) 1) ∧
        (s.hstOn = true → reachAll s = true → s.flag F.SYNC_HOSTWR_LOCAL_EN = false → exec (.localSetWindowWrite .host n l v) s = .next (s.inc F.SYNC_HOST_DENY))) ∧
      (s.hstOn = true → reachAll s = true → (s.get F.SYNC_HOSTWR_LO ≤ i ∧ i ≤ s.get F.SYNC_HOSTWR_HI) → exec (.globalSetWindowWrite .host i v) s = .next (queued i 0)) ∧
      (s.hstOn = true → reachAll s = true → ¬(s.get F.SYNC_HOSTWR_LO ≤ i ∧ i ≤ s.get F.SYNC_HOSTWR_HI) →
        exec (.globalSetWindowWrite .host i v) s = .next (s.inc F.SYNC_HOST_DENY) ∧
        exec (.globalAddWindowWrite .host i v) s = .next (s.inc F.SYNC_HOST_DENY))) ∧
    (∀ (s : State) (k key : Nat), s.Ok → s.fabOn = true → k < 64 → s.reg (F.SYNC_WATCH_HANDLE_IDX k).off = BitVec.ofNat 32 (2 ^ 31 + key) →
      key < 32768 → s.sync.poison.contains key = false →
      ends (exec (.watchArm .bench k) s) (fun t => t.sync = s.sync ∧
        t.flag (F.SYNC_WATCH_CTL_ARM k) = !meets (ctrOf s key) (s.get (F.SYNC_WATCH_THR k)) ∧
        (meets (ctrOf s key) (s.get (F.SYNC_WATCH_THR k)) = true → t.flag (F.SYNC_WATCH_CTL_HIT k) = true))) ∧
    (∀ (s : State) (k n len : Nat), s.Ok → s.fabOn = true → k < 4096 → n < 192 → (s.slot k).writer = some (n, len) → (s.slot k).held = none →
      ((s.slot k).tail = false → exec (.mailboxHeaderWrite k) s = .next s) ∧
      ((s.slot k).tail = true → ends (exec (.mailboxHeaderWrite k) s) (fun t => let x := t.slot k
        x.seq = ((s.slot k).seq + 1) % 2 ^ 24 ∧ x.ready = true ∧ x.len = len ∧ x.epoch = s.get F.TSB_EPOCH_NUM ∧ x.overrun = (s.slot k).lost ∧
        x.lost = false ∧ x.writer = none ∧ (t.seq n).unacked = (s.seq n).unacked - 1 ∧ t.mem.lp = s.mem.lp ∧
        ∀ j, j ≠ k → t.slot j = s.slot j))) ∧
    (∀ (s : State) (k : Nat) (v : Word), s.hstOn = true → reachAll s = true → s.fabOn = true → k < 4096 →
      ((s.slot k).ready = true ∧ v.toNat = (s.slot k).seq →
        exec (.mailboxAck k v) s = .next (s.setSlot k { s.slot k with ready := false, ack := (s.slot k).seq })) ∧
      (((s.slot k).ready = false ∨ v.toNat ≠ (s.slot k).seq) → exec (.mailboxAck k v) s = .next (s.inc F.SYNC_ACK_BAD))))

/-- 15 R591 to R601, R630: the Ladle. Enabled, its pointer starts at the first target epoch. A descriptor in reach issues into a slot, or
fails with its cause, or waits at the pointer; a decision of the program chooses among staged variants; a transfer whose gate is open
writes its words and is counted DONE; a wait that the reported value meets opens its gate. -/
def Obligations.LadleTransfers : Prop :=
  (∀ (s : State), s.Ok → s.fabOn = true → s.flag F.LDL_CTL_EN = false → ends (exec (.ladleEnable .bench) s) (fun t =>
    t.flag F.LDL_CTL_EN = true ∧ t.ladle.pos = 0 ∧ t.ladle.xfers = s.ladle.xfers ∧
    t.ladle.target = if (s.get F.LDL_E0 + 2 ^ 32 - s.epochNum) % 2 ^ 32 < 2 ^ 31 then s.get F.LDL_E0 else s.epochNum)) ∧
  (∀ (s : State), s.Ok → s.fabOn = true → ends (exec (.ladleDisable .bench) s) (fun t => t.flag F.LDL_CTL_EN = false ∧ t.ladle = s.ladle)) ∧
  (∀ (s : State), s.fabOn = true → s.flag F.LDL_CTL_EN = true → s.ladle.pos < (segmentOf s s.ladle.target).2 →
    let tgt := s.ladle.target; let idx := ((segmentOf s tgt).1 + s.ladle.pos) % 65536; let d := descOf s idx
    let next := ldlCount .issued 1 (s.setLadle { s.ladle with pos := s.ladle.pos + 1, stopped := false })
    let inReach := ahead s tgt ≤ s.get F.LDL_CTL_RUNAHEAD ∧ ahead s tgt ≤ dLead d
    (¬inReach → exec .ladleIssue s = .next s) ∧
    (inReach → s.ladle.xfers.length < 512 → ∀ c, descCause s d = some c → exec .ladleIssue s = .next (ldlFail idx tgt c next)) ∧
    (inReach → s.ladle.xfers.length < 512 → descCause s d = none → dVen d = false → ∀ a b,
      locOf s (dSrc d) (srcSize d) = some a → locOf s (dDst d) (dstSize d) = some b →
      (∀ c, pathCause s a b = some c → exec .ladleIssue s = .next (ldlFail idx tgt c next)) ∧
      (pathCause s a b = none → exec .ladleIssue s = .next (takeSlot { idx := idx, target := tgt, desc := d } next)))) ∧
  (∀ (s : State) (i : Nat) (x : Xfer) (a b : Nat), s.Ok → s.fabOn = true → s.ladle.xfers[i]? = some x → x.phase = .direct →
    dOp x.desc = 0 → dDoneEn x.desc = false → locOf s (dSrc x.desc) (dLen x.desc) = some (.pool a) →
    locOf s (dDst x.desc) (dLen x.desc) = some (.pool b) → s.mem.poolBad = [] → (a + dLen x.desc ≤ b ∨ b + dLen x.desc ≤ a) → dLen x.desc % 64 = 0 →
    (x.gate = false → exec (.transferComplete i none) s = .next s) ∧
    (x.gate = true → ends (exec (.transferComplete i none) s) (fun t => t.ladle.xfers = s.ladle.xfers.eraseIdx i ∧
      t.get (F.LDL_CNT 1) = min (2 ^ 32 - 1) (s.get (F.LDL_CNT 1) + 1) ∧ t.mem.lp = s.mem.lp ∧ t.tiles = s.tiles ∧
      ∀ k, memByte t.mem.pool k = if b ≤ k ∧ k < b + dLen x.desc then memByte s.mem.pool (a + (k - b)) else memByte s.mem.pool k))) ∧
  (∀ (s : State) (i key : Nat) (x : Xfer), s.fabOn = true → s.ladle.xfers[i]? = some x →
    ((x.gate = true ∨ x.desc.getD 6 0 / 2 ^ 31 % 2 = 1) → exec (.ladleWaitPoll i) s = .next s) ∧
    (x.gate = false → x.desc.getD 6 0 / 2 ^ 31 % 2 = 0 → dWaitEn x.desc = true → handleKey s (x.desc.getD 6 0) none true = some key →
      s.sync.poison.contains key = false → exec (.ladleWaitPoll i) s =
        .next (setXfer i { x with gate := meets (ctrOf s key) (x.desc.getD 7 0) } s))) ∧
  (∀ (s : State) (key v k : Nat) (rest : List (Nat × Nat)), s.Ok → s.sync.changed = (key, v) :: rest → s.ladle.xfers = [] → k < 64 →
    s.flag (F.LDL_VP_VALID k) = true → s.get (F.LDL_VP_GIDX k) = key →
    (∀ j < 64, j ≠ k → s.flag (F.LDL_VP_VALID j) = false ∨ s.get (F.LDL_VP_GIDX j) ≠ key) →
    exec .counterChangeReport s = .next (decision k v (s.setSync { s.sync with changed := rest }))) ∧
  (∀ (s : State) (k v : Nat),
    (targetOf s (v / 4) = none → decision k v s = ldlCount .decBad 1 s) ∧
    (∀ d, targetOf s (v / 4) = some d → (decisionOf s k d).isSome = true → decision k v s = ldlCount .decDup 1 s) ∧
    (∀ d, targetOf s (v / 4) = some d → decisionOf s k d = none → (decisionOf (decision k v s) k d) = some (v % 4) ∧
      ∀ x ∈ s.ladle.xfers, dVen x.desc = true → dPoint x.desc = k → x.target = d → x.phase = .staged →
        dVar x.desc = v % 4 → { x with phase := .commit } ∈ (decision k v s).ladle.xfers))

/-- 15 R602: ZFILL undoes ZSPILL: unpacking what the spill wrote gives every word of a clean source, for a length of whole blocks. -/
def Obligations.SpillRoundTrip : Prop :=
  ∀ (free blocks : Nat) (src : Nat → LWord), (∀ o, (src o).val < 2 ^ 64 ∧ (src o).bad = false) →
    let len := 256 * blocks; let spilled := zspillOut free src len
    let place := fun o => ((spilled.find? (fun w => w.off == o)).map (·.w)).getD ⟨0, false⟩
    zfillOut place len = copyOut src len

/-! ### Host interface (19) and the commands of Bench (17, 18) -/

/-- 19 R751, R752, R736, R744, R749, R724: PCIE_PERST_N resets the HST domain alone; a reset of function 0 clears the rings, the apertures
and its MSI-X table, one of function 1 the mailboxes' control registers and its table, and answers to requests in progress are discarded.
EN going to 1 zeroes every head and tail and sets the expected PHASE to 1; an error on a ring's DMA clears EN. The link shows what it
trained.
19 R733, R734, R731, R726: an aperture maps 16 MiB of BAR4 onto LPDDR5X below the usable capacity or onto the pool, and a base beyond
them is discarded with cause BAD_MAP. A host read returns the bytes behind it, poisoned where a word is; bytes with nothing behind them
read as zero; a write changes the bytes it covers and no other. -/
def Obligations.HostInterface : Prop :=
  ((∀ (s : State), s.hstOn = true → ends (exec .pciePerstN s) (fun t => t.hst = {} ∧ t.pins.pcieUp = false ∧
      (∀ k, t.reg k = if domKey [.hst] k = true then regReset k else s.reg k) ∧ (∀ e ∈ t.fw.reqs, e.2 = false) ∧
      (∀ e ∈ t.touch.reqs, e.2 = false) ∧ t.fw.plan = s.fw.plan ∧ t.fw.job = s.fw.job ∧ t.tb = s.tb ∧ t.sw = s.sw ∧ t.tiles = s.tiles ∧
      t.mem = s.mem ∧ t.out = s.out)) ∧
    (∀ (s : State), s.hstOn = true → ends (exec .flrPf0 s) (fun t => t.hst = {} ∧ t.fw = s.fw ∧ t.mem = s.mem ∧ t.tiles = s.tiles ∧
      ∀ k, t.reg k = if (0x1700010 ≤ k ∧ k < 0x1700080) ∨ (0x1700100 ≤ k ∧ k < 0x1700140) ∨ (0x1780000 ≤ k ∧ k < 0x1785000) then regReset k
        else s.reg k)) ∧
    (∀ (s : State), s.hstOn = true → ends (exec .flrPf1 s) (fun t => t.hst = s.hst ∧ t.mem = s.mem ∧ t.tiles = s.tiles ∧
      t.fw.reqs = s.fw.reqs.map (fun e => (e.1, false)) ∧ t.touch.reqs = s.touch.reqs.map (fun e => (e.1, false)) ∧
      ∀ k, t.reg k = if (0x10010000 ≤ k ∧ k < 0x10011000) ∨ (0x10020000 ≤ k ∧ k < 0x10021000) ∨ 0x100F0000 ≤ k then regReset k
        else s.reg k)) ∧
    (∀ (s : State), s.Ok → s.hstOn = true → ends (exec .pcieLinkDown s) (fun t => t.flag F.HST_LINK_UP = false ∧ t.pins.pcieUp = false ∧
      t.hst = s.hst ∧ t.fw = s.fw ∧ t.touch = s.touch ∧ ∀ k, k ≠ F.HST_LINK_UP.off → t.reg k = s.reg k)) ∧
    (∀ (s : State) (w sp : Nat) (tag : Bool), s.Ok → s.hstOn = true → (w = 4 ∨ w = 8) → (sp = 4 ∨ sp = 5) →
      ends (exec (.pcieLinkUp w sp tag) s) (fun t => t.flag F.HST_LINK_UP = true ∧ t.get F.HST_LINK_WIDTH = w ∧ t.get F.HST_LINK_SPEED = sp ∧
        t.flag F.HST_LINK_TAG10 = tag ∧ t.pins.pcieUp = true ∧ t.hst = s.hst ∧ t.fw = s.fw)) ∧
    (∀ (s : State), s.Ok → s.hstOn = true → ringsServe s = true → s.flag F.HST_RING_CTL_EN = false →
      ends (exec (.ringEnable .host) s) (fun t => t.flag F.HST_RING_CTL_EN = true ∧ t.get F.HST_CMDQ_HEAD = 0 ∧ t.get F.HST_CMDQ_TAIL = 0 ∧
        t.get F.HST_CPLQ_HEAD = 0 ∧ t.get F.HST_CPLQ_TAIL = 0 ∧ t.get F.HST_NTFQ_HEAD = 0 ∧ t.get F.HST_NTFQ_TAIL = 0 ∧
        t.hst.cplPhase = true ∧ t.hst.ntfPhase = true ∧ t.flag F.HST_RING_CTL_NTF_EN = s.flag F.HST_RING_CTL_NTF_EN ∧
        t.get F.HST_CMDQ_BASE_LO = s.get F.HST_CMDQ_BASE_LO ∧ t.get F.HST_CMDQ_SIZE = s.get F.HST_CMDQ_SIZE)) ∧
    (∀ (s : State), s.Ok → s.hstOn = true → ringsServe s = true → ends (exec (.ringDisable .host) s) (fun t =>
      t.flag F.HST_RING_CTL_EN = false ∧ t.hst = s.hst ∧ t.flag F.HST_RING_CTL_NTF_EN = s.flag F.HST_RING_CTL_NTF_EN ∧
      ∀ k, k ≠ F.HST_RING_CTL_EN.off → t.reg k = s.reg k)) ∧
    (∀ (s : State), s.hstOn = true → ringsServe s = false →
      exec (.ringEnable .host) s = .next (s.logErr .host 0 0 F.HST_RING_CTL_EN.off true .notReady) ∧
      exec (.ringDisable .host) s = .next (s.logErr .host 0 0 F.HST_RING_CTL_EN.off true .notReady)) ∧
    (∀ (s : State), s.Ok → s.hstOn = true → benchRuns s = true → s.flag F.HST_RING_CTL_EN = true →
      ends (exec .ringDmaError s) (fun t => t.flag F.HST_RING_CTL_DMA_ERR = true ∧ t.flag F.HST_RING_CTL_EN = false ∧ t.fw = s.fw ∧
        t.hst = s.hst))) ∧
  ((∀ (s : State) (k : Nat) (b : BitVec 24) (v : Bool), s.Ok → s.hstOn = true → k < 16 →
      (b.toNat = 0x100000 ∨ b.toNat * 2 ^ 24 < lpBytes s → ends (exec (.apertureMap .host k b v) s) (fun t =>
        t.get (F.HST_AP_BASE k) = b.toNat ∧ t.flag (F.HST_AP_VALID k) = v ∧ t.mem = s.mem ∧ t.hst = s.hst ∧
        ∀ j < 16, j ≠ k → t.get (F.HST_AP_BASE j) = s.get (F.HST_AP_BASE j) ∧ t.flag (F.HST_AP_VALID j) = s.flag (F.HST_AP_VALID j))) ∧
      (b.toNat ≠ 0x100000 → lpBytes s ≤ b.toNat * 2 ^ 24 →
        exec (.apertureMap .host k b v) s = .next (s.logErr .host 0 0 (F.HST_AP_BASE k).off true .badMap))) ∧
    (∀ (s : State) (o k : Nat), reachAll s = true → k < 16 → o / 2 ^ 24 = k → s.flag (F.HST_AP_VALID k) = true →
      (s.get (F.HST_AP_BASE k) = 0x100000 → s.fabOn = true → bar4At s o = .pool (o % 2 ^ 24)) ∧
      (s.get (F.HST_AP_BASE k) ≠ 0x100000 → s.flag F.MEM_STAT_READY = true → s.flag F.MEM_STAT_SR = false →
        s.get (F.HST_AP_BASE k) * 2 ^ 24 + o % 2 ^ 24 < lpBytes s → bar4At s o = .lp (s.get (F.HST_AP_BASE k) * 2 ^ 24 + o % 2 ^ 24))) ∧
    (∀ (s : State) (o a n : Nat), s.hstOn = true → (∀ i < n, bar4At s (o + i) = .lp (a + i)) → exec (.bar4Access o n false []) s =
      .next (s.emit (.bar4 o (memBytes s.mem.lp a n) ((List.range n).any (fun i => s.mem.lpBad.contains ((a + i) / 8)))))) ∧
    (∀ (s : State) (o n : Nat), s.hstOn = true → reachAll s = true → 0 < n → (∀ i < n, bar4At s (o + i) = .unbacked) →
      exec (.bar4Access o n false []) s =
        .next ((s.logErr .host 0 4 o false .unmapped).emit (.bar4 o (List.replicate n 0) false))) ∧
    (∀ (s : State) (o a : Nat) (d : List Byte), s.Ok → s.hstOn = true → (∀ i < d.length, bar4At s (o + i) = .pool (a + i)) →
      ends (exec (.bar4Access o 0 true d) s) (fun t => t.mem.lp = s.mem.lp ∧ t.out = s.out ∧ t.regs = s.regs ∧
        ∀ x, memByte t.mem.pool x = if a ≤ x ∧ x < a + d.length then d.getD (x - a) 0 else memByte s.mem.pool x)))

/-- 19 R737, R738, R739, R741: the rows of the command ring. An entry is taken only in its turn, with the ring enabled and room for its
completion; a long command that finds another running completes with BUSY, a non-zero byte that is marked as zero gives PARAM, a command
that needs a plan gives NOT_READY without one, an unknown OPCODE gives BAD_OPCODE, and NOP gives OK.
19 R740, R742 to R744, R751: the oldest completion owed goes to the ring at the tail with the present PHASE, which alternates on a wrap,
and vector 0 is signalled; with the rings disabled it is discarded. A notification goes likewise; a masked one is dropped, one that finds
the ring full is lost and counted, and the loss is told by an OVERFLOW entry once there is room. -/
def Obligations.HostCommands : Prop :=
  (let rows := fun (e : List Byte) (f : Option (Nat × Nat)) => [(Instr.nop e, 0, false), (.planLoad e f, 1, true), (.planReplace e f, 2, true),
      (.cancel e, 3, false), (.planStop e, 4, true), (.tileMove e, 0x10, true), (.tileReload e, 0x11, true), (.cimUpdate e, 0x12, true),
      (if leAt e 8 1 = 1 then .portCycleCamera e else .portCycleFronthaul e, 0x13, true), (.benchActivate e, 0x14, true),
      (.oppSet e, 0x20, false)];
    (∀ (s : State) (e : List Byte) (f : Option (Nat × Nat)), ∀ x ∈ rows e f, e.length = 64 → leAt e 0 2 = x.2.1 →
      (mayTake s = false → exec x.1 s = .next s) ∧
      (mayTake s = true → x.2.2 = true → s.fw.job.isSome = true →
        exec x.1 s = .next (oweDone (leAt e 2 2) x.2.1 1 (if x.2.1 ≤ 2 then 1 else 0) (taken s))) ∧
      (mayTake s = true → (x.2.2 = false ∨ s.fw.job = none) → zerosOk e = false →
        exec x.1 s = .next (oweDone (leAt e 2 2) x.2.1 2 0 (taken s))) ∧
      (mayTake s = true → s.fw.job = none → zerosOk e = true → s.fw.plan = none → x.2.1 ∈ [2, 0x10, 0x11, 0x12] →
        exec x.1 s = .next (oweDone (leAt e 2 2) x.2.1 12 0 (taken s))) ∧
      (mayTake s = true → zerosOk e = true → x.2.1 = 0 → exec x.1 s = .next (oweDone (leAt e 2 2) 0 0 0 (taken s)))) ∧
    (∀ (s : State) (e : List Byte), e.length = 64 → mayTake s = true → leAt e 0 2 ∉ [0, 1, 2, 3, 4, 0x10, 0x11, 0x12, 0x13, 0x14, 0x20] →
      exec (.badOpcode e) s = .next (oweDone (leAt e 2 2) (leAt e 0 2) 10 0 (taken s))) ∧
    (∀ (s : State), mayTake s = true → s.flag F.HST_RING_CTL_EN = true ∧ s.get F.HST_CMDQ_HEAD ≠ s.get F.HST_CMDQ_TAIL ∧
      ringsServe s = true ∧ cplUsed s + cplOwed s + 1 < 2 ^ s.get F.HST_CPLQ_SIZE) ∧
    (∀ (s : State), s.Ok → s.get F.HST_CMDQ_SIZE ≤ 12 → (taken s).get F.HST_CMDQ_HEAD =
      (s.get F.HST_CMDQ_HEAD + 1) % 2 ^ s.get F.HST_CMDQ_SIZE ∧ (taken s).hst = s.hst ∧ (taken s).fw = s.fw) ∧
    (∀ e : List Byte, zerosOk e = true → ∀ i < 64, 4 ≤ i → e.getD i 0 ≠ 0 →
      (leAt e 0 2 ∈ [1, 2, 0x12] ∧ 8 ≤ i ∧ i < 20) ∨ (leAt e 0 2 = 0x10 ∧ (i = 8 ∨ i = 9 ∨ (16 ≤ i ∧ i < 48 ∧ i % 8 < 4))) ∨
      (leAt e 0 2 = 0x11 ∧ (i = 8 ∨ i = 10 ∨ i = 11)) ∨ (leAt e 0 2 ∈ [0x13, 0x20] ∧ (i = 8 ∨ i = 9)))) ∧
  ((∀ (s : State) (d : Done) (rest : List Done), s.Ok → s.hst.done = d :: rest → benchRuns s = true → paused s = false → s.hstOn = true →
      s.get F.HST_CPLQ_SIZE ≤ 12 →
      (s.flag F.HST_RING_CTL_EN = false → exec .completionWrite s = .next (s.setHst { s.hst with done := rest })) ∧
      (s.flag F.HST_RING_CTL_EN = true → 2 ^ s.get F.HST_CPLQ_SIZE ≤ cplUsed s + 1 → exec .completionWrite s = .next s) ∧
      (s.flag F.HST_RING_CTL_EN = true → cplUsed s + 1 < 2 ^ s.get F.HST_CPLQ_SIZE → s.flag (F.HST_MSIX_CTL 0) = false →
        let tail := s.get F.HST_CPLQ_TAIL; let next := (tail + 1) % 2 ^ s.get F.HST_CPLQ_SIZE
        ends (exec .completionWrite s) (fun t => t.hst.done = rest ∧ t.get F.HST_CPLQ_TAIL = next ∧
          t.hst.cplPhase = (if next = 0 then !s.hst.cplPhase else s.hst.cplPhase) ∧ t.hst.notes = s.hst.notes ∧
          t.out = .msix 0 0 :: .dma (s.get64 F.HST_CPLQ_BASE_LO F.HST_CPLQ_BASE_HI + 16 * tail) (leBytes 2 d.cid ++ leBytes 2 d.op ++
            leBytes 4 d.result ++ leBytes 4 d.detail ++ [0, 0, 0] ++ [if s.hst.cplPhase = true then 1 else 0]) :: s.out))) ∧
    (∀ (s : State) (m : Note) (rest : List Note), s.Ok → s.hst.notes = m :: rest → benchRuns s = true → paused s = false → s.hstOn = true →
      s.hst.lost = 0 → s.get F.HST_NTFQ_SIZE ≤ 12 → s.flag (F.HST_MSIX_CTL 1) = false → 1 ≤ m.source →
      let dropped := s.setHst { s.hst with notes := rest }
      (s.flag F.HST_RING_CTL_NTF_EN = false ∨ s.get F.HST_NTF_MASK / 2 ^ (m.source - 1) % 2 = 0 → exec .notify s = .next dropped) ∧
      (s.flag F.HST_RING_CTL_NTF_EN = true → s.get F.HST_NTF_MASK / 2 ^ (m.source - 1) % 2 = 1 →
        (2 ^ s.get F.HST_NTFQ_SIZE ≤ ntfUsed s + 1 → ends (exec .notify s) (fun t => t.hst.lost = 1 ∧ t.hst.notes = rest ∧
          t.get F.HST_NTF_LOST = min (2 ^ (F.HST_NTF_LOST.hi + 1) - 1) (s.get F.HST_NTF_LOST + 1) ∧ t.out = s.out)) ∧
        (ntfUsed s + 1 < 2 ^ s.get F.HST_NTFQ_SIZE →
          let tail := s.get F.HST_NTFQ_TAIL
          ends (exec .notify s) (fun t => t.hst.notes = rest ∧ t.get F.HST_NTFQ_TAIL = (tail + 1) % 2 ^ s.get F.HST_NTFQ_SIZE ∧
            t.out = .msix 0 1 :: .dma (s.get64 F.HST_NTFQ_BASE_LO F.HST_NTFQ_BASE_HI + 16 * tail) (leBytes 2 m.source ++ leBytes 2 m.index ++
              leBytes 4 m.data ++ leBytes 4 m.epoch ++ [0, 0, 0] ++ [if s.hst.ntfPhase = true then 1 else 0]) :: s.out)))) ∧
    (∀ (s : State), s.Ok → benchRuns s = true → paused s = false → s.hstOn = true → 0 < s.hst.lost → s.get F.HST_NTFQ_SIZE ≤ 12 →
      s.flag F.HST_RING_CTL_NTF_EN = true → ntfUsed s + 1 < 2 ^ s.get F.HST_NTFQ_SIZE → s.flag (F.HST_MSIX_CTL 1) = false →
      ends (exec .notify s) (fun t => t.hst.lost = 0 ∧ t.hst.notes = s.hst.notes ∧
        t.out = .msix 0 1 :: .dma (s.get64 F.HST_NTFQ_BASE_LO F.HST_NTFQ_BASE_HI + 16 * s.get F.HST_NTFQ_TAIL) (leBytes 2 0x0F ++ leBytes 2 0 ++
          leBytes 4 s.hst.lost ++ leBytes 4 s.epochNum ++ [0, 0, 0] ++ [if s.hst.ntfPhase = true then 1 else 0]) :: s.out)))

/-- 17 R661, R662, R670, R677, 18 R704, R712, 19 R739, 20 R797: what a command that Bench takes does. A load that a check refuses shows its
code and ends in SAFE RUNTIME; one that passes shows LOADING and asks for its clusters, and CANCEL ends it. A refused replacement leaves the
running plan. PLAN_STOP ends the plan. OPP_SET asks for a point; a fallback ends a handover. -/
def Obligations.PlanCommands : Prop :=
  (∀ (s : State) (e : List Byte) (f : Option (Nat × Nat)), s.Ok → s.Sized → e.length = 64 → leAt e 0 2 = 1 → mayTake s = true →
    s.fw.job = none → zerosOk e = true → planThere s = false → s.flag F.PMU_QUENCH_ACTIVE = false →
    let u : State := setPlanState 1 ((taken s).setJob (some { op := 1, cid := leAt e 2 2 })); let addr := leAt e 8 8; let len := leAt e 16 4
    ends (exec (.planLoad e f) s) (fun t =>
      (∀ r, planCheck u addr len f = some r → lpPoisoned s addr len = false → t.fw.plan = none ∧ t.fw.next = none ∧ t.fw.job = none ∧
        t.get F.GLB_PLAN_STAT_STATE = 4 ∧ t.stage = 5 ∧ t.get F.GLB_BOOT_SAFE_SRC = 2 ∧ t.running = false ∧
        (r.1 < 256 → t.get F.GLB_PLAN_REASON_REASON = r.1) ∧ (r.2 < 65536 → t.get F.GLB_PLAN_REASON_DETAIL = r.2) ∧
        (∀ g < 32, t.flag (F.ADM_GATE_CFG_EN g) = false) ∧
        t.hst.done = s.hst.done ++ [{ cid := leAt e 2 2, op := 1, result := 5, detail := (t.reg F.GLB_PLAN_REASON_REASON.off).toNat }]) ∧
      (planCheck u addr len f = none → lpPoisoned s addr len = false →
        let p := planOf (lpRead s addr len); p.clusters u ≠ [] →
        (∀ k ∈ p.clusters u, k < 12 ∧ s.get (F.PMU_CLU_STATE k) = 0 ∧ seqOf s (7 + k) = none ∧ 0 < stepTicks s (7 + k) false 0) →
        t.fw.next = some p ∧ t.fw.job = some { op := 1, cid := leAt e 2 2, step := 3 } ∧ t.get F.GLB_PLAN_STAT_STATE = 1 ∧
        t.hst.done = s.hst.done ∧ ∀ k ∈ p.clusters u, t.get (F.PMU_CLU_REQ k) = 2 ∧ (seqOf t (7 + k)).any (·.wake) = true))) ∧
  (∀ (s : State) (e : List Byte) (f : Option (Nat × Nat)) (p : Plan), s.Ok → e.length = 64 → leAt e 0 2 = 2 → mayTake s = true →
    s.fw.job = none → zerosOk e = true → planThere s = true → s.fw.plan = some p → ends (exec (.planReplace e f) s) (fun t =>
      t.fw.plan = some p ∧ ∀ r, planCheck (procBegin 2 ((taken s).setJob (some { op := 2, cid := leAt e 2 2 }))) (leAt e 8 8) (leAt e 16 4) f = some r →
        lpPoisoned s (leAt e 8 8) (leAt e 16 4) = false → t.tiles = s.tiles ∧ t.fw.job = none ∧ t.fw.next = none ∧
        t.get F.GLB_PLAN_STAT_STATE = s.get F.GLB_PLAN_STAT_STATE ∧ t.flag F.GLB_CHG_STAT_BUSY = false ∧ t.get F.GLB_CHG_STAT_RESULT = 5 ∧
        t.hst.done = s.hst.done ++ [{ cid := leAt e 2 2, op := 2, result := 5, detail := (t.reg F.GLB_PLAN_REASON_REASON.off).toNat }])) ∧
  (∀ (s : State) (e : List Byte), s.Ok → e.length = 64 → leAt e 0 2 = 3 → mayTake s = true → zerosOk e = true →
    (s.fw.job.all (fun j => j.op != 1) = true → exec (.cancel e) s = .next (oweDone (leAt e 2 2) 3 11 0 (taken s))) ∧
    (∀ j, s.fw.job = some j → j.op = 1 → j.host = true → ends (exec (.cancel e) s) (fun t => t.fw.job = none ∧ t.fw.plan = none ∧ t.stage = 5 ∧
      t.hst.done = s.hst.done ++ [{ cid := j.cid, op := 1, result := 5, detail := (t.reg F.GLB_PLAN_REASON_REASON.off).toNat },
        { cid := leAt e 2 2, op := 3, result := 0, detail := 0 }]))) ∧
  (∀ (s : State) (e : List Byte), s.Ok → s.Sized → e.length = 64 → leAt e 0 2 = 4 → mayTake s = true → s.fw.job = none → zerosOk e = true →
    ends (exec (.planStop e) s) (fun t => t.fw.plan = none ∧ t.get F.GLB_PLAN_STAT_STATE = 0 ∧ t.running = false ∧ t.stage = s.stage ∧
      (∀ n < 192, s.tileOn n = true → t.get (F.TILE_SEQ_STAT_STATE n) = 0) ∧ (∀ n < 192, t.get (F.tileRole n) = 0) ∧
      t.flag F.LDL_CTL_EN = false ∧ t.hst.done = s.hst.done ++ [{ cid := leAt e 2 2, op := 4, result := 0, detail := 0 }])) ∧
  (∀ (s : State) (e : List Byte), e.length = 64 → leAt e 0 2 = 0x20 → mayTake s = true → zerosOk e = true →
    let k := leAt e 8 1; let o := leAt e 9 1; let done := fun (r : Nat) => oweDone (leAt e 2 2) 0x20 r 0
    (s.clusters ≤ k ∨ 3 < o → exec (.oppSet e) s = .next (done 2 (taken s))) ∧
    (k < s.clusters → o ≤ 3 →
      (oppVerdict k o (taken s) = 0 → exec (.oppSet e) s = .next (done 0 (oppRequest k o (taken s)))) ∧
      (oppVerdict k o (taken s) = 1 → exec (.oppSet e) s = .next (done 13 ((taken s).owe 0x07 k o))) ∧
      (oppVerdict k o (taken s) = 2 → exec (.oppSet e) s = .next (done 1 (oppRequest k o (taken s)))))) ∧
  (∀ (s : State) (e : List Byte), s.Ok → e.length = 64 → leAt e 0 2 = 0x14 → mayTake s = true → s.fw.job = none → zerosOk e = true →
    s.get F.GLB_BOOT_SLOT ≤ 1 → let c := 1 - s.get F.GLB_BOOT_SLOT; let r := benchReason s [] c
    ends (exec (.benchActivate e) s) (fun t =>
      t.touch = s.touch ∧ t.tiles = s.tiles ∧ t.fw.plan = s.fw.plan ∧
      (accepted r = true → abiServes s (slotHdr s 3 c) = true → paused t = true ∧ t.get F.GLB_CHG_STAT_PROC = 6 ∧
        t.get F.GLB_CHG_STAT_STEP = 3 ∧ t.flag F.GLB_CHG_STAT_BUSY = true ∧ t.hst.done = s.hst.done) ∧
      (accepted r = false ∨ abiServes s (slotHdr s 3 c) = false → t.fw.job = none ∧ t.get F.GLB_CHG_STAT_RESULT = 7 ∧
        t.hst.done = s.hst.done ++ [{ cid := leAt e 2 2, op := 0x14, result := 7, detail := 0 }]))) ∧
  (∀ (s : State) (j : Job), s.Ok → s.fw.job = some j → j.op = 0x14 → j.host = true → ends (exec .handoverFallback s) (fun t =>
    t.fw.job = none ∧ t.get F.GLB_CHG_STAT_RESULT = 8 ∧ t.flag F.GLB_CHG_STAT_BUSY = false ∧ t.touch = s.touch ∧ t.tiles = s.tiles ∧
    t.hst.done = s.hst.done ++ [{ cid := j.cid, op := 0x14, result := 8, detail := 0 }]))

/-- 18 R685, R695, R700, R702, R708, R709, R714: the procedures begin. A move onto an ACTIVE spare without weights loads it, holds its
engine and stages the lists, and the old tile runs on; a reload resets and reloads the tile in place, with its memories kept, and starts it
at the next boundary; an update of arrays that have no weights or no swap point is turned away; a port cycle disables the port and enables
it again. -/
def Obligations.ProceduresBegin : Prop :=
  (∀ (s : State) (e : List Byte) (p : Plan), s.Ok → s.Sized → e.length = 64 → leAt e 0 2 = 0x10 → mayTake s = true → s.fw.job = none →
    zerosOk e = true → planThere s = true → s.fw.plan = some p →
    (moveParamOk p e = false → exec (.tileMove e) s = .next (oweDone (leAt e 2 2) 0x10 2 0 (taken s))) ∧
    (leAt e 8 1 = 1 → moveParamOk p e = true → goldenUsable s p (leAt e 16 1) = true →
      let i := leAt e 16 1; let n := leAt e 17 1; let old := runTile s i
      (s.cfg.tiles ≤ n ∨ s.get (F.tileRole n) ≠ 0 → exec (.tileMove e) s = .next (oweDone (leAt e 2 2) 0x10 3 0 (taken s))) ∧
      (s.tileOn n = true → s.get (F.tileRole n) = 0 → old ≠ n → old < 192 → p.ofTy 9 = [] → s.fw.tasks = [] → s.flag F.PMU_QUENCH_ACTIVE = false →
        p.oppMin.getD (old / 16) 0 ≤ s.get (F.PMU_CLU_FLOOR (n / 16)) → s.get (F.PMU_CLU_FLOOR (n / 16)) ≤ s.get (F.PMU_CLU_OPP (n / 16)) →
        s.get (F.PMU_CLU_FLOOR (n / 16)) ≤ s.get (F.PMU_CLU_OPP_REQ (n / 16)) →
        ends (exec (.tileMove e) s) (fun t => t.get (F.tileRole n) = 3 ∧ t.tile old = s.tile old ∧ t.seq old = s.seq old ∧
          t.flag (F.TILE_CHG_CTL_HOLD n) = true ∧ t.flag F.EVF_CTL_ARM = true ∧ t.get F.GLB_CHG_STAT_PROC = 1 ∧ t.get F.GLB_CHG_STAT_STEP = 2 ∧
          t.flag F.GLB_CHG_STAT_BUSY = true ∧ t.fw.job.any (fun j => j.step == 2 && j.due == (s.epochNum + 2) % 2 ^ 32) = true ∧
          t.hst.done = s.hst.done)))) ∧
  (∀ (s : State) (e : List Byte) (p : Plan), s.Ok → s.Sized → e.length = 64 → leAt e 0 2 = 0x11 → mayTake s = true → s.fw.job = none →
    zerosOk e = true → planThere s = true → s.fw.plan = some p → let i := leAt e 8 1; let n := runTile s i
    (p.tiles.contains i = false ∨ mayReload s n = false → exec (.tileReload e) s = .next (oweDone (leAt e 2 2) 0x11 2 0 (taken s))) ∧
    (p.tiles.contains i = true → mayReload s n = true → goldenUsable s p i = true → n < 192 → p.ofTy 10 = [] → p.ofTy 7 = [] →
      ends (exec (.tileReload e) s) (fun t => (t.tile n).mem = (s.tile n).mem ∧ t.get (F.TILE_SEQ_STAT_STATE n) = 3 ∧
        t.get (F.TILE_SEQ_BOOT n) = leAt e 10 2 / 4 ∧ t.get F.GLB_CHG_STAT_PROC = 2 ∧ t.flag F.GLB_CHG_STAT_BUSY = true ∧
        t.fw.job.any (fun j => j.due == (s.epochNum + 1) % 2 ^ 32) = true ∧ t.hst.done = s.hst.done ∧
        (∀ m, m ≠ n → t.tile m = s.tile m)))) ∧
  (∀ (s : State) (e : List Byte) (p : Plan), s.Ok → e.length = 64 → leAt e 0 2 = 0x12 → mayTake s = true → s.fw.job = none →
    zerosOk e = true → planThere s = true → s.fw.plan = some p →
    let b := lpRead s (leAt e 8 8) (leAt e 16 4); let xs := (planOf b).sects; let done := fun (r : Nat) => oweDone (leAt e 2 2) 0x12 r 0 (taken s)
    ends (exec (.cimUpdate e) s) (fun t => t.fw.plan = some p ∧ t.get F.GLB_PLAN_REASON_REASON = s.get F.GLB_PLAN_REASON_REASON ∧
      ((updateCheck (taken s) b (leAt e 16 4)).isSome = true → t = done 5) ∧
      (updateCheck (taken s) b (leAt e 16 4) = none → lpPoisoned s (leAt e 8 8) (leAt e 16 4) = false →
        ((∃ x ∈ xs, ∀ y ∈ p.ofTy 9, y.target ≠ x.target) → t = done 2) ∧
        ((∀ x ∈ xs, ∃ y ∈ p.ofTy 9, y.target = x.target) → (∃ x ∈ xs, swapPoint p x.tile = false) → t = done 4) ∧
        ((∀ x ∈ xs, (∃ y ∈ p.ofTy 9, y.target = x.target) ∧ swapPoint p x.tile = true) →
          t.fw.job.any (fun j => j.op == 0x12 && j.sects == xs) = true ∧ t.get F.GLB_CHG_STAT_PROC = 3)))) ∧
  (∀ (s : State) (e : List Byte), s.Ok → s.Sized → e.length = 64 → leAt e 0 2 = 0x13 → mayTake s = true → s.fw.job = none → zerosOk e = true →
    let n := leAt e 9 1; let done := fun (r : Nat) => [({ cid := leAt e 2 2, op := 0x13, result := r, detail := 0 } : Done)]
    (leAt e 8 1 = 0 → present s n = true → ends (exec (.portCycleFronthaul e) s) (fun t => t.flag (F.NET_P_CFG_EN n) = true ∧
      t.get F.GLB_CHG_STAT_PROC = 5 ∧ t.get F.GLB_CHG_STAT_RESULT = 0 ∧ t.flag F.GLB_CHG_STAT_BUSY = false ∧ t.fw.job = none ∧
      (∀ x ∈ t.sw.mac, x.static = true ∨ x.ports ≠ 2 ^ n) ∧ t.hst.done = s.hst.done ++ done 0)) ∧
    (leAt e 8 1 = 0 → present s n = false → ends (exec (.portCycleFronthaul e) s) (fun t => t.sw = s.sw ∧ t.hst.done = s.hst.done ++ done 2)) ∧
    (leAt e 8 1 = 1 → 16 ≤ n → ends (exec (.portCycleCamera e) s) (fun t => t.jxl = s.jxl ∧ t.hst.done = s.hst.done ++ done 2)) ∧
    (leAt e 8 1 = 1 → n < 16 → s.ingOn = true → s.chState n = 5 → ends (exec (.portCycleCamera e) s) (fun t => t.chState n = 6 ∧
      t.flag (F.JXL_P_CFG_EN n) = false ∧ (t.jp n).buf = [] ∧ t.flag F.GLB_CHG_STAT_BUSY = true ∧ t.hst.done = s.hst.done)))

/-! ### The mailboxes of Touchmark and Bench (19, 22) -/

/-- 19 R745, R746, R752, 22 R845, R855, R866, R867: each row answers the request in front of its mailbox if it carries the row's message:
SCRAPPED in SCRAP, ROM_ONLY where the ROM does not serve it, BAD_ARG for a byte that is not zero. A response is written with its length,
sets RESP_READY, clears BUSY and signals its vector; one that is not wanted is discarded. Bench answers GET_INFO, GET_LOG and, with the
console open to a debug session, CONSOLE.
22 R866, R868, R880: GET_STATUS gives four registers, GET_NONCE 32 free bytes that are then the nonce, ATTEST a signed report of the
life cycle and of what runs, GET_CERT the certificate; random bytes that fail their health tests give ENTROPY. -/
def Obligations.Mailbox : Prop :=
  ((∀ (i : Instr) (msg : Nat) (s : State), tmRow i = some msg →
      (s.touch.reqs = [] → exec i s = .next s) ∧
      (∀ (r : List Byte) (w : Bool) (rest : List (List Byte × Bool)), s.touch.reqs = (r, w) :: rest →
        let u := s.setTouch { s.touch with reqs := rest }
        (leAt r 0 2 ≠ msg ∨ tmPresent s = false → exec i s = .next s) ∧
        (leAt r 0 2 = msg → tmPresent s = true → w = true →
          (s.lc = 4 → tmGives s i msg .scrapped [] u) ∧
          (s.lc ≠ 4 → s.stage = 0 → romServes r = false → tmGives s i msg .romOnly [] u) ∧
          (s.lc ≠ 4 → s.stage ≠ 0 → leAt r 2 2 ≠ 0 → tmGives s i msg .badArg [] u)))) ∧
    (∀ (s : State) (r : List Byte) (rest : List (List Byte × Bool)), s.touch.reqs = (r, false) :: rest → tmPresent s = true → leAt r 0 2 = 4 →
      exec .getCert s = .next (s.setTouch { s.touch with reqs := rest })) ∧
    (∀ (s : State) (msg : Nat) (st : Status) (data : List Byte), s.Ok → s.hstOn = true → data.length ≤ 4092 →
      (s.flag (F.PF1_MSIX_CTL 1) = false → let t := tmRespond msg st data s
        t.get F.PF1_TM_RESP_LEN = 4 + data.length ∧ t.flag F.PF1_TM_CTL_RESP_READY = true ∧ t.flag F.PF1_TM_CTL_BUSY = false ∧
        getWords t (F.PF1_TM_RESP 0).off (4 + data.length) = leBytes 2 msg ++ leBytes 2 st.code ++ data ∧ t.out = .msix 1 1 :: s.out ∧
        t.touch = s.touch ∧ t.fw = s.fw ∧ t.hst = s.hst) ∧
      (s.flag (F.PF1_MSIX_CTL 0) = false → let t := benchRespond msg st data s
        t.get F.PF1_BENCH_RESP_LEN = 4 + data.length ∧ t.flag F.PF1_BENCH_CTL_RESP_READY = true ∧ t.flag F.PF1_BENCH_CTL_BUSY = false ∧
        getWords t (F.PF1_BENCH_RESP 0).off (4 + data.length) = leBytes 2 msg ++ leBytes 2 st.code ++ data ∧ t.out = .msix 1 0 :: s.out ∧
        t.touch = s.touch ∧ t.fw = s.fw ∧ t.hst = s.hst)) ∧
    (∀ (s : State) (r : List Byte) (rest : List (List Byte × Bool)) (text : List Byte), s.fw.reqs = (r, true) :: rest → benchRuns s = true →
      paused s = false → leAt r 2 2 = 0 → let u := s.setFw { s.fw with reqs := rest }
      (leAt r 0 2 = 0x101 → ∀ i, s.touch.bench = some i → exec .getInfo s = .next (benchRespond 0x101 .ok (slice i.hdr 0x10 8 ++
        leBytes 1 i.slot ++ slice i.hdr 0x1A 4 ++ slice i.hdr 0x20 16 ++ leBytes 1 (s.get F.GLB_BOOT_UNTESTED)) u)) ∧
      (leAt r 0 2 = 0x102 → text.length ≤ 4000 → exec (.getLog text) s = .next (benchRespond 0x102 .ok text u)) ∧
      (leAt r 0 2 = 0x103 → exec (.console text) s = .next (if s.get F.GLB_LC_DBG_SCOPE / 4 % 2 = 1 then benchRespond 0x103 .ok text u
        else benchRespond 0x103 .state [] u)))) ∧
  ((∀ (s : State) (r : List Byte) (rest : List (List Byte × Bool)), tmAsked s 1 r rest → tmGives s .getStatus 1 .ok
      (leBytes 4 (s.reg 0xC).toNat ++ leBytes 4 (s.reg F.GLB_BOOT_STAGE.off).toNat ++ leBytes 4 (s.reg 0x18).toNat ++
        leBytes 4 (s.reg F.GLB_FW_BENCH_REASON_A.off).toNat) (s.setTouch { s.touch with reqs := rest })) ∧
    (∀ (s : State) (r : List Byte) (rest : List (List Byte × Bool)), tmAsked s 2 r rest → let u := s.setTouch { s.touch with reqs := rest }
      (s.touch.trngBad = false → let v := leBytes 32 (Config.freeNat s.freeCtr)
        tmGives s .getNonce 2 .ok v ((u.setFreeCtr (s.freeCtr + 1)).setTouch { u.touch with nonce := some v })) ∧
      (s.touch.trngBad = true → tmGives s .getNonce 2 .entropy [] u)) ∧
    (∀ (s : State) (r : List Byte) (rest : List (List Byte × Bool)), tmAsked s 3 r rest → let u := s.setTouch { s.touch with reqs := rest }
      (s.touch.trngBad = true → tmGives s .attest 3 .entropy [] u) ∧
      (s.touch.trngBad = false → r.length < 36 → tmGives s .attest 3 .badArg [] u) ∧
      (s.touch.trngBad = false → 36 ≤ r.length → ∃ b : List Byte, tmGives s .attest 3 .ok (b ++ (Config.deviceSign b).take 96) u ∧
        leAt b 0 4 = 1 ∧ leAt b 8 1 = s.get F.GLB_STEP ∧ leAt b 9 1 = s.lc ∧ leAt b 16 4 = s.get F.GLB_DEVID_LO ∧
        leAt b 20 4 = s.get F.GLB_DEVID_HI ∧ leAt b 11 1 % 2 = s.get F.GLB_BOOT_UNTESTED ∧
        (b.drop (b.length - 48)).take 32 = slice r 4 32 ∧ leAt b (b.length - 16) 8 = s.tb.sec % 2 ^ 64)) ∧
    (∀ (s : State) (r : List Byte) (rest : List (List Byte × Bool)), tmAsked s 4 r rest →
      tmGives s .getCert 4 .ok Config.deviceCert (s.setTouch { s.touch with reqs := rest })) ∧
    (∀ (s : State), s.secOn = true → exec .trngHealthFailure s = .next (s.setTouch { s.touch with trngBad := true })))

/-- 22 R852, R866, R869 to R872: UPDATE_BEGIN opens a slot that is not in use and erases its first 4 KiB; UPDATE_DATA takes bytes in order,
holds the first 4 KiB and writes the rest; UPDATE_END writes the first 4 KiB last, closes the update, and answers by the slot's
verification; UPDATE_ABORT closes it; SELECT makes a slot that verifies the preferred one. -/
def Obligations.FirmwareUpdates : Prop :=
  (∀ (s : State) (r : List Byte) (rest : List (List Byte × Bool)), s.Ok → tmAsked s 0x10 r rest → 11 ≤ r.length → 1 ≤ leAt r 4 2 →
    leAt r 4 2 ≤ 3 → leAt r 6 1 ≤ 1 → leAt r 7 4 ≤ flashSize (leAt r 4 2) → let kind := leAt r 4 2; let slot := leAt r 6 1
    let u := s.setTouch { s.touch with reqs := rest }
    ((inUse s kind).any (fun i => i.slot == slot) = true → tmGives s (.updateBegin true) 0x10 .state [] u) ∧
    ((inUse s kind).any (fun i => i.slot == slot) = false → s.touch.update.isSome = true → tmGives s (.updateBegin true) 0x10 .busy [] u) ∧
    ((inUse s kind).any (fun i => i.slot == slot) = false → s.touch.update = none → paused s = false →
      ends (exec (.updateBegin true) s) (fun t => t.touch.update = some { kind := kind, slot := slot, len := leAt r 7 4 } ∧
        t.flag F.GLB_FW_SLOTS_UPD_OPEN = true ∧ t.get F.GLB_FW_SLOTS_UPD_KIND = kind - 1 ∧ t.touch.otp = s.touch.otp ∧ t.touch.reqs = rest ∧
        leAt (getWords t (F.PF1_TM_RESP 0).off 4) 2 2 = 0 ∧
        ∀ x, flashBytes t x 1 = if flashBase kind slot ≤ x ∧ x < flashBase kind slot + 4096 then [0xFF] else flashBytes s x 1) ∧
      tmGives s (.updateBegin false) 0x10 .flash [] u)) ∧
  (∀ (s : State) (r : List Byte) (rest : List (List Byte × Bool)) (up : Update), s.Ok → tmAsked s 0x11 r rest → s.touch.update = some up →
    8 ≤ r.length → r.length ≤ 4008 → 1 ≤ up.kind → up.kind ≤ 3 → up.slot ≤ 1 → up.len ≤ flashSize up.kind →
    let d := r.drop 8; let base := flashBase up.kind up.slot; let u := s.setTouch { s.touch with reqs := rest }
    (leAt r 4 4 ≠ up.got → tmGives s (.updateData true) 0x11 .order [] u) ∧
    (leAt r 4 4 = up.got → up.len < up.got + d.length → tmGives s (.updateData true) 0x11 .badArg [] u) ∧
    (leAt r 4 4 = up.got → up.got + d.length ≤ up.len → ends (exec (.updateData true) s) (fun t =>
      t.touch.update = some { up with got := up.got + d.length, held := up.held ++ d.take (4096 - up.got) } ∧
      (∀ j < d.length, 4096 ≤ up.got + j → flashBytes t (base + up.got + j) 1 = [d.getD j 0]) ∧
      (∀ x, (x < base + 4096 ∨ base + flashSize up.kind ≤ x) → flashBytes t x 1 = flashBytes s x 1)))) ∧
  (∀ (s : State) (r : List Byte) (rest : List (List Byte × Bool)), s.Ok → tmAsked s 0x12 r rest →
    (s.touch.update = none → tmGives s (.updateEnd true) 0x12 .state [] (s.setTouch { s.touch with reqs := rest })) ∧
    (∀ up, s.touch.update = some up → up.held.length ≤ 4096 → ends (exec (.updateEnd true) s) (fun t => t.touch.update = none ∧
      t.flag F.GLB_FW_SLOTS_UPD_OPEN = false ∧ flashBytes t (flashBase up.kind up.slot) up.held.length = up.held ∧
      leAt (getWords t (F.PF1_TM_RESP 0).off 5) 2 2 = (if verify t [] up.kind up.slot = 0 then 0 else 7) ∧
      (verify t [] up.kind up.slot ≠ 0 → leAt (getWords t (F.PF1_TM_RESP 0).off 5) 4 1 = verify t [] up.kind up.slot)))) ∧
  (∀ (s : State) (r : List Byte) (rest : List (List Byte × Bool)), s.Ok → tmAsked s 0x13 r rest →
    (s.touch.update = none → tmGives s .updateAbort 0x13 .state [] (s.setTouch { s.touch with reqs := rest })) ∧
    (s.touch.update.isSome = true → ends (exec .updateAbort s) (fun t => t.touch = { s.touch with reqs := rest, update := none } ∧
      t.flag F.GLB_FW_SLOTS_UPD_OPEN = false ∧ leAt (getWords t (F.PF1_TM_RESP 0).off 4) 2 2 = 0))) ∧
  (∀ (s : State) (r : List Byte) (rest : List (List Byte × Bool)), s.Ok → tmAsked s 0x14 r rest → 7 ≤ r.length → 1 ≤ leAt r 4 2 →
    leAt r 4 2 ≤ 3 → leAt r 6 1 ≤ 1 → let kind := leAt r 4 2; let slot := leAt r 6 1; let v := verify s [] kind slot
    let u := s.setTouch { s.touch with reqs := rest }
    tmGives s (.select true) 0x14 (if v = 0 then .ok else .image) (if v = 0 then [] else [BitVec.ofNat 8 v])
      (if v = 0 then setPref kind slot u else u) ∧ prefSlot (setPref kind slot u) kind = slot ∧
    ∀ k, 1 ≤ k → k ≤ 3 → k ≠ kind → prefSlot (setPref kind slot u) k = prefSlot s k)

/-- 22 R842 to R848, R862, R865, R866: what needs authority. Without a nonce a signed request gives NONCE, and with a signature that does not
verify AUTH; a signed one has its effect and uses the nonce. A floor only rises. A debug session has the scopes that the life cycle
allows, and ends by DEBUG_LOCK or by time. A life-cycle transition burns its bit and resets the device, as RESET does. -/
def Obligations.AuthorityAndLifeCycle : Prop :=
  (∀ (s : State) (r : List Byte) (rest : List (List Byte × Bool)), tmAsked s 0x15 r rest → 102 ≤ r.length → 1 ≤ leAt r 4 2 → leAt r 4 2 ≤ 4 →
    let kind := leAt r 4 2; let u := s.setTouch { s.touch with reqs := rest }
    (s.touch.nonce = none → tmGives s .svnCommit 0x15 .nonce [] u) ∧
    (∀ n i, s.touch.nonce = some n → inUse s kind = some i →
      let signed := if s.touch.otp.ownerHash.isSome = true then ownerSigned s n r 6 else makerSigned s n r 6
      let v := max (floorOf s kind) (min 64 (leAt i.hdr 12 4))
      let o : Otp := { u.touch.otp with floors := u.touch.otp.floors.set (kind - 1) v }
      exec .svnCommit s = .next (if signed = true then tmRespond 0x15 .ok [] (u.setTouch { u.touch with nonce := none, otp := o })
        else tmRespond 0x15 .auth [] u))) ∧
  (∀ (s : State) (r : List Byte) (rest : List (List Byte × Bool)), s.Ok → tmAsked s 0x20 r rest → 516 ≤ r.length →
    256 ≤ (slice r 260 (min (leAt r 12 4) 65280)).length → let h := slice r 4 256; let body := slice r 260 (min (leAt r 12 4) 65280)
    (verifyBytes s 4 0x10000 h body false ≠ 0 → tmGives s (.policySet true) 0x20 .auth [] (s.setTouch { s.touch with reqs := rest })) ∧
    ends (exec (.policySet true) s) (fun t => verifyBytes s 4 0x10000 h body false = 0 →
      flashBytes t 0x20000 (256 + body.length) = h ++ body ∧ flashBytes t 0x30000 (256 + body.length) = h ++ body ∧
      leAt (getWords t (F.PF1_TM_RESP 0).off 4) 2 2 = 0)) ∧
  (∀ (s : State) (r : List Byte) (rest : List (List Byte × Bool)), tmAsked s 0x30 r rest → s.touch.trngBad = false → 103 ≤ r.length →
    leAt r 5 2 ≠ 0 → let u := s.setTouch { s.touch with reqs := rest }
    (s.touch.nonce = none → tmGives s .debugUnlock 0x30 .nonce [] u) ∧
    (∀ n, s.touch.nonce = some n → let maker := makerSigned s n r 7
      let g := leAt r 4 1 &&& (if maker = true then (if s.lc = 2 ∨ s.lc = 4 then 0 else 31) else if s.lc = 2 ∧ policyFlag s 1 = true then 16 else 0)
      let w := u.setTouch { u.touch with nonce := none }
      exec .debugUnlock s = .next (if maker = false ∧ ownerSigned s n r 7 = false then tmRespond 0x30 .auth [] u
        else if g = 0 then tmRespond 0x30 .state [] w
        else tmRespond 0x30 .ok [] ((w.set F.GLB_LC_DBG_SCOPE g).set F.GLB_LC_DBG_LEFT (leAt r 5 2))))) ∧
  (∀ (s : State) (r : List Byte) (rest : List (List Byte × Bool)), tmAsked s 0x31 r rest → tmGives s .debugLock 0x31 .ok []
    (((s.setTouch { s.touch with reqs := rest }).clear F.GLB_LC_DBG_SCOPE).clear F.GLB_LC_DBG_LEFT)) ∧
  (∀ (s : State), exec .debugSessionExpire s = .next ((s.clear F.GLB_LC_DBG_SCOPE).clear F.GLB_LC_DBG_LEFT)) ∧
  (∀ (s : State) (r : List Byte) (rest : List (List Byte × Bool)) (f : List Nat) (b : List (Nat × Nat)), tmAsked s 0x40 r rest →
    s.touch.trngBad = false → let target := leAt r 4 1; let u := s.setTouch { s.touch with reqs := rest }
    (lcAuthority s target = none → tmGives s (.lcTransition f b) 0x40 .state [] u) ∧
    (lcAuthority s target ≠ none → s.touch.nonce = none → tmGives s (.lcTransition f b) 0x40 .nonce [] u) ∧
    (∀ n need, s.touch.nonce = some n → lcAuthority s target = some need →
      exec (.lcTransition f b) s = .next (if lcSigned s n r need = true then rebootDevice f b (lcActions target s)
        else tmRespond 0x40 .state [] u))) ∧
  (∀ (s : State) (target : Nat), (lcAuthority s target).isSome = true → lcOf (lcActions target s).touch.otp = target ∧ s.lc < target ∧
    (target = 4 → (lcActions target s).touch.otp.idGone = true ∧ (lcActions target s).touch.otp.revoked = 15)) ∧
  (∀ (s : State) (r : List Byte) (rest : List (List Byte × Bool)) (f : List Nat) (b : List (Nat × Nat)), tmAsked s 0x50 r rest →
    exec (.reset f b) s = .next (rebootDevice f b (tmRespond 0x50 .ok [] (s.setTouch { s.touch with reqs := rest }))))

/-! ### Power, operating points, Quench (20) -/

/-- 20 R762 to R764, R777, R800, R214: a request for a device state that is not allowed sets REFUSED and nothing else; an allowed one
begins the transition. Bench and Touchmark may ask for a sleep state while no plan is loaded and no procedure runs, the host only with
HOST_EN. A wake source wakes a sleeping device; in ON it has no effect, and during a transition it waits.
20 R771 to R776, R806: the steps of a sequence end one by one; the last wake step leaves a domain ON or a cluster ACTIVE, the last
entry step leaves it OFF, and a pending request starts then. A wake that fails in HANDSHAKE mode sets WAKE_FAIL and enters off again. The
end of MEM's entry ends the transition to STANDBY, with LPDDR5X kept. -/
def Obligations.DeviceStates : Prop :=
  ((∀ (s : State) (a : Agent), s.inReset = false → (a = .host → s.hstOn = true ∧ reachAll s = true) →
      (devAllowed a 0 s = false → exec (.deviceReqOn a) s = .next (s.raise F.PMU_DEV_CTL_REFUSED)) ∧
      (devAllowed a 1 s = false → exec (.deviceReqStandby a) s = .next (s.raise F.PMU_DEV_CTL_REFUSED)) ∧
      (devAllowed a 2 s = false → exec (.deviceReqDormant a) s = .next (s.raise F.PMU_DEV_CTL_REFUSED)) ∧
      (devAllowed a 3 s = false → exec (.deviceReqOff a) s = .next (s.raise F.PMU_DEV_CTL_REFUSED)) ∧
      (∀ v < 4, devAllowed a v s = true → s.pmu.dev = none ∧ s.get F.PMU_DEV_CTL_STATE ≠ v ∧
        (1 ≤ v → s.get F.GLB_PLAN_STAT_STATE = 0 ∧ s.fw.job = none) ∧ (a = .host → s.flag F.PMU_DEV_CFG_HOST_EN = true ∧ v ≤ 1))) ∧
    (∀ (s : State), s.Ok → s.Sized → s.inReset = false → s.pmu.dev = none → s.pmu.seqs = [] → s.get F.PMU_DEV_CTL_STATE = 0 → s.fw.job = none →
      s.get F.GLB_PLAN_STAT_STATE = 0 → (∀ n < 192, s.tileOn n = false) → (∀ k < 12, s.get (F.PMU_CLU_STATE k) = 0) → s.memOn = true →
      s.flag F.PMU_DEV_CTL_WAKE_PEND = false →
      ends (exec (.deviceReqStandby .bench) s) (fun t => t.get F.PMU_DEV_CTL_REQ = 1 ∧ t.flag F.PMU_DEV_CTL_BUSY = true ∧
        t.get F.PMU_DEV_CTL_STATE = 0 ∧ t.flag F.MEM_STAT_SR = true ∧ t.pmu.dev = some 1 ∧ t.get (F.domState 4) = 3 ∧
        seqOf t 4 = some { wake := false, steps := [3, 2, 1, 0] } ∧ (∀ d < 7, d ≠ 4 → t.get (F.domState d) = s.get (F.domState d)) ∧ t.mem = s.mem) ∧
      ((∀ n < 17, s.chState n = 0) → (∀ d < 7, s.domOn d = true) →
        ends (exec (.deviceReqDormant .bench) s) (fun t => t.get F.PMU_DEV_CTL_REQ = 2 ∧ t.flag F.PMU_DEV_CTL_BUSY = true ∧ t.pmu.dev = some 2 ∧
          (∀ d < 7, t.get (F.domState d) = if 2 ≤ d then 3 else 2)) ∧
        ends (exec (.deviceReqOff .bench) s) (fun t => t.get F.PMU_DEV_CTL_REQ = 3 ∧ t.flag F.PMU_DEV_CTL_BUSY = true ∧ t.pmu.dev = some 3 ∧
          ∀ d < 7, t.get (F.domState d) = 3))) ∧
    (∀ (s : State), s.Ok → s.inReset = false → s.pmu.dev = none → s.pmu.seqs = [] → s.get F.PMU_DEV_CTL_STATE = 1 →
      s.flag F.PMU_DEV_CTL_WAKE_PEND = false → wakeSeq s 4 false ≠ { wakeSeq s 4 false with steps := [] } →
      let asked := fun (t : State) => t.pmu.dev = some 0 ∧ t.flag F.PMU_DEV_CTL_BUSY = true ∧ t.get F.PMU_DEV_CTL_REQ = 0 ∧
        t.get (F.domState 4) = 1 ∧ seqOf t 4 = some (wakeSeq s 4 false);
      ends (exec (.deviceReqOn .bench) s) asked ∧
      (s.flag F.PMU_AO_ALARM_HI_ARM = true → s.flag F.PMU_WAKE_EN_TIMER = true →
        s.aoCount ≤ s.get64 F.PMU_AO_ALARM_LO F.PMU_AO_ALARM_HI_ALARM → ends (exec .aoAlarm s) (fun t => asked t ∧
          t.get F.PMU_WAKE_CAUSE = s.get F.PMU_WAKE_CAUSE ||| 4 ∧ t.flag F.PMU_AO_ALARM_HI_ARM = false ∧
          t.aoCount = s.get64 F.PMU_AO_ALARM_LO F.PMU_AO_ALARM_HI_ALARM))) ∧
    (∀ (s : State) (c : Nat), s.inReset = false →
      (s.pmu.dev = none → s.get F.PMU_DEV_CTL_STATE = 0 → devWake c s = s) ∧
      (s.Ok → c < 5 → s.pmu.dev.isSome = true → (devWake c s).flag F.PMU_DEV_CTL_WAKE_PEND = true ∧
        (devWake c s).get F.PMU_WAKE_CAUSE = s.get F.PMU_WAKE_CAUSE ||| 2 ^ c ∧ (devWake c s).pmu = s.pmu))) ∧
  ((∀ (s : State) (d : Nat) (q : DSeq) (f : List Nat) (b : List (Nat × Nat)), s.Ok → s.pmu.dev = none → s.flag F.PMU_DEV_CTL_WAKE_PEND = false →
      d < 7 → s.pmu.seqs = [(d, q)] →
      (q.wake = true → 2 ≤ q.steps.length → exec (.domainWakeStepEnd d f b) s =
        .next (s.setPmu { s.pmu with seqs := [(d, { q with steps := q.steps.drop 1 })] })) ∧
      (q.wake = true → q.steps.length ≤ 1 → ends (exec (.domainWakeStepEnd d f b) s) (fun t => t.get (F.domState d) = 2 ∧ t.pmu.seqs = [] ∧
        t.tiles = s.tiles ∧ t.mem = s.mem ∧ ∀ e < 7, e ≠ d → t.get (F.domState e) = s.get (F.domState e))) ∧
      (q.wake = true → exec (.domainEntryStepEnd d f b) s = .next s) ∧ (q.wake = false → exec (.domainWakeStepEnd d f b) s = .next s) ∧
      (q.wake = false → 2 ≤ q.steps.length → exec (.domainEntryStepEnd d f b) s =
        .next (s.setPmu { s.pmu with seqs := [(d, { q with steps := q.steps.drop 1 })] })) ∧
      (q.wake = false → q.steps.length ≤ 1 → ends (exec (.domainEntryStepEnd d f b) s) (fun t => t.get (F.domState d) = 0 ∧ t.pmu.seqs = [])) ∧
      (q.wake = true → q.hs = true → ends (exec (.wakeFail d) s) (fun t => t.flag (F.domWakeFail d) = true ∧ t.get (F.domState d) = 3 ∧
        t.pmu.seqs = [(d, { wake := false, steps := [3, 2, 1, 0], pend := q.pend })] ∧
        (d = 1 → t.flag F.GLB_BOOT_NET_FAIL = true))) ∧
      (q.wake = false ∨ q.hs = false → exec (.wakeFail d) s = .next s)) ∧
    (∀ (s : State) (q : DSeq) (f : List Nat) (b : List (Nat × Nat)), s.Ok → s.pmu.dev = some 1 → s.pmu.devOff = true → s.pmu.seqs = [(4, q)] →
      q.wake = false → q.steps.length ≤ 1 → s.flag F.PMU_DEV_CTL_WAKE_PEND = false →
      ends (exec (.domainEntryStepEnd 4 f b) s) (fun t => t.get F.PMU_DEV_CTL_STATE = 1 ∧ t.flag F.PMU_DEV_CTL_BUSY = false ∧ t.pmu.dev = none ∧
        t.get (F.domState 4) = 0 ∧ t.flag F.MEM_STAT_READY = false ∧ t.mem = s.mem)) ∧
    (∀ (s : State) (k : Nat) (q : DSeq), s.Ok → s.Sized → k < 12 → s.pmu.dev = none → s.flag F.PMU_DEV_CTL_WAKE_PEND = false →
      s.pmu.seqs = [(7 + k, q)] → q.steps.length ≤ 1 → q.pend = none → s.cfg.tiles = 192 → s.fw.plan = none →
      (q.wake = true → ends (exec (.domainWakeStepEnd (7 + k) [] []) s) (fun t => t.get (F.PMU_CLU_STATE k) = 2 ∧ t.pmu.seqs = [] ∧
        t.flag (F.PMU_CLU_BUSY k) = false ∧ ∀ n, n / 16 = k → t.get (F.TILE_SEQ_STAT_STATE n) = 0 ∧
          (q.retain = true → (t.tile n).mem = (s.tile n).mem ∧ (t.tile n).imem = (s.tile n).imem) ∧
          (q.retain = false → (t.tile n).mem = [] ∧ (t.tile n).imem = []))) ∧
      (q.wake = false → ends (exec (.domainEntryStepEnd (7 + k) [] []) s) (fun t =>
        t.get (F.PMU_CLU_STATE k) = (if q.retain = true then 1 else 0) ∧ t.pmu.seqs = [] ∧ t.get (F.PMU_NAP_STATE k) = 0 ∧
        t.flag (F.PMU_CLU_BUSY k) = false ∧ t.tiles = s.tiles))))

/-- 20 R766 to R770, R776, R790: Bench's requests to clusters and tiles. A cluster leaves ACTIVE only with every tile halted or in NAP, and
does not wake during Quench; a request during a sequence waits. A tile takes NAP halted with its engine disabled, keeps its memories and loses
its registers.
20 R778 to R785, R798, R802: a request below the floor sets REFUSED. A change of an ACTIVE cluster's point commands the rail first and
switches the clock afterwards, with AVS_WAIT only if the read-back is within 10 mV; the rail then is the highest voltage that an ACTIVE
cluster needs. Direct writes of VSET and FDIR are held to that order, and break into ORDER_ERR. -/
def Obligations.Clusters : Prop :=
  ((∀ (s : State) (k : Nat), s.Ok → s.Sized → s.pins.porst = false → k < s.clusters → k < 12 → seqOf s (7 + k) = none →
      (s.get (F.PMU_CLU_STATE k) = 0 → s.flag F.PMU_QUENCH_ACTIVE = false → 0 < stepTicks s (7 + k) false 0 →
        ends (exec (.clusterReqActive .bench k) s) (fun t => seqOf t (7 + k) = some (wakeSeq s (7 + k) false) ∧ t.flag (F.PMU_CLU_BUSY k) = true ∧
          t.get (F.PMU_CLU_STATE k) = 0 ∧ t.get (F.PMU_CLU_REQ k) = 2 ∧ t.tiles = s.tiles)) ∧
      (s.flag F.PMU_QUENCH_ACTIVE = true → exec (.clusterReqActive .bench k) s = .next (s.raise (F.PMU_CLU_REFUSED k))) ∧
      (s.get (F.PMU_CLU_STATE k) = 2 → cluQuiet s k = true →
        ends (exec (.clusterReqOff .bench k) s) (fun t => seqOf t (7 + k) = some { wake := false, steps := [3, 2, 1, 0] } ∧
          t.flag (F.PMU_CLU_BUSY k) = true ∧ t.get (F.PMU_CLU_STATE k) = 2 ∧ t.get (F.PMU_CLU_REQ k) = 0 ∧ t.tiles = s.tiles) ∧
        ends (exec (.clusterReqRetain .bench k) s) (fun t => seqOf t (7 + k) = some { wake := false, retain := true, steps := [3, 2, 1, 0] } ∧
          t.flag (F.PMU_CLU_BUSY k) = true ∧ t.get (F.PMU_CLU_REQ k) = 1 ∧ t.tiles = s.tiles)) ∧
      (s.get (F.PMU_CLU_STATE k) = 2 → cluQuiet s k = false →
        exec (.clusterReqOff .bench k) s = .next (s.raise (F.PMU_CLU_REFUSED k)) ∧
        exec (.clusterReqRetain .bench k) s = .next (s.raise (F.PMU_CLU_REFUSED k))) ∧
      (s.get (F.PMU_CLU_STATE k) = 0 → exec (.clusterReqRetain .bench k) s = .next (s.raise (F.PMU_CLU_REFUSED k)))) ∧
    (∀ (s : State) (k : Nat) (q : DSeq), s.Ok → s.Sized → s.pins.porst = false → k < s.clusters → k < 12 → s.pmu.seqs = [(7 + k, q)] → q.wake = true →
      s.get (F.PMU_CLU_STATE k) = 0 → ends (exec (.clusterReqOff .bench k) s) (fun t => t.pmu.seqs = [(7 + k, { q with pend := some 0 })] ∧
        t.flag (F.PMU_CLU_PEND k) = true ∧ t.get (F.PMU_CLU_STATE k) = 0)) ∧
    (∀ (s : State) (n : Nat), s.Ok → s.Sized → s.pins.porst = false → n < s.cfg.tiles → n < 192 →
      (s.tileOn n = true → tileHalted s n = true → s.flag (F.NE_CTL_EN n) = false →
        ends (exec (.napRequest .bench n) s) (fun t => t.inNap n = true ∧ (∀ m, m ≠ n → t.inNap m = s.inNap m) ∧ t.tiles = s.tiles)) ∧
      (s.inNap n = false → (tileHalted s n = false ∨ s.flag (F.NE_CTL_EN n) = true) →
        exec (.napRequest .bench n) s = .next (s.raise (F.PMU_CLU_REFUSED (n / 16)))) ∧
      (s.inNap n = true → s.fw.plan = none → s.flag F.PMU_QUENCH_ACTIVE = false → ends (exec (.napExit .bench n) s) (fun t => t.inNap n = false ∧
        (t.tile n).mem = (s.tile n).mem ∧ (t.tile n).imem = (s.tile n).imem ∧ (t.seq n).pc = 0 ∧ (∀ i < 32, (t.seq n).g.getD i 0 = 0) ∧
        t.get (F.TILE_SEQ_STAT_STATE n) = 0 ∧ t.flag (F.NE_CTL_EN n) = false ∧ ∀ m, m ≠ n → t.tile m = s.tile m)) ∧
      (s.inNap n = false → exec (.napExit .bench n) s = .next s))) ∧
  ((∀ (s : State) (k : Nat) (o : BitVec 2), s.Ok → s.Sized → s.pins.porst = false → k < s.clusters → k < 12 → (s.clock k).next = none →
      (o.toNat < s.get (F.PMU_CLU_FLOOR k) →
        exec (.oppReqWrite .bench k o) s = .next ((s.raise (F.PMU_CLU_REFUSED k)).bench .dvfsRefused k)) ∧
      (s.get (F.PMU_CLU_FLOOR k) ≤ o.toNat → s.flag F.PMU_QUENCH_ACTIVE = false → s.cluOn k = true → s.get (F.PMU_CLU_OPP k) ≠ o.toNat →
        ends (exec (.oppReqWrite .bench k o) s) (fun t => (t.clock k).next = some o.toNat ∧ t.get (F.PMU_CLU_OPP k) = s.get (F.PMU_CLU_OPP k) ∧
          t.get (F.PMU_CLU_OPP_REQ k) = o.toNat ∧ t.flag F.PMU_DVFS_STAT_BUSY = true ∧
          550 + 100 * max o.toNat (s.get (F.PMU_CLU_OPP k)) ≤ t.get F.PMU_DVFS_STAT_VRAIL)) ∧
      (s.get (F.PMU_CLU_FLOOR k) ≤ o.toNat → s.flag F.PMU_QUENCH_ACTIVE = false → s.get (F.PMU_CLU_STATE k) ≠ 2 →
        ends (exec (.oppReqWrite .bench k o) s) (fun t => t.get (F.PMU_CLU_OPP k) = o.toNat ∧ t.get (F.PMU_CLU_OPP_REQ k) = o.toNat ∧
          t.pmu = s.pmu))) ∧
    (∀ (s : State) (k o rb : Nat), s.Ok → s.Sized → k < 12 → (s.clock k).next = some o → (s.clock k).kept = none → o ≤ 3 →
      let rail := fun (t : State) => (List.range 12).foldl (fun m j => if t.get (F.PMU_CLU_STATE j) = 2 then
        max m (550 + 100 * max (t.get (F.PMU_CLU_OPP j)) ((t.clock j).next.getD 0)) else m) 550;
      (s.flag F.PMU_DVFS_CFG_AVS_WAIT = false → ends (exec (.oppClockSwitch k rb) s) (fun t => t.get (F.PMU_CLU_OPP k) = o ∧
        (t.clock k).next = none ∧ t.get F.PMU_DVFS_STAT_VRAIL = rail t ∧ t.get (F.PMU_CLU_STATE k) = s.get (F.PMU_CLU_STATE k) ∧
        ∀ j < 12, j ≠ k → t.get (F.PMU_CLU_OPP j) = s.get (F.PMU_CLU_OPP j))) ∧
      (s.flag F.PMU_DVFS_CFG_AVS_WAIT = true → rb < 1024 → s.get (F.PMU_CLU_OPP k) < o →
        (rb + 10 < s.get F.PMU_DVFS_STAT_VRAIL ∨ s.get F.PMU_DVFS_STAT_VRAIL + 10 < rb) →
        ends (exec (.oppClockSwitch k rb) s) (fun t => t.get (F.PMU_CLU_OPP k) = s.get (F.PMU_CLU_OPP k) ∧ t.pmu = s.pmu ∧
          t.get F.PMU_DVFS_STAT_VREAD = rb))) ∧
    (∀ (s : State) (k rb : Nat), (s.clock k).next = none → exec (.oppClockSwitch k rb) s = .next s) ∧
    (∀ (s : State) (v : BitVec 10), s.Ok → s.pins.porst = false →
      (v.toNat < 550 ∨ 850 < v.toNat → exec (.avsVset .bench v) s = .next (s.raise F.PMU_DEV_CTL_REFUSED)) ∧
      (550 ≤ v.toNat → v.toNat ≤ 850 → ((∃ k < 12, s.get (F.PMU_CLU_STATE k) = 2 ∧ v.toNat < 550 + 100 * s.get (F.PMU_CLU_OPP k)) ∨
        s.flag F.PMU_DVFS_STAT_BUSY = true) → exec (.avsVset .bench v) s = .next ((s.raise F.PMU_DVFS_STAT_ORDER_ERR).bench .dvfsError 0)) ∧
      (550 ≤ v.toNat → v.toNat ≤ 850 → (∀ k < 12, s.get (F.PMU_CLU_STATE k) = 2 → 550 + 100 * s.get (F.PMU_CLU_OPP k) ≤ v.toNat) →
        s.flag F.PMU_DVFS_STAT_BUSY = false → ends (exec (.avsVset .bench v) s) (fun t => t.get F.PMU_AVS_VSET = v.toNat ∧
          t.get F.PMU_DVFS_STAT_VRAIL = v.toNat ∧ t.pmu = s.pmu ∧ t.out = s.out))) ∧
    (∀ (s : State) (k : BitVec 4) (f : BitVec 2), s.Ok → s.Sized → s.pins.porst = false → k.toNat < s.clusters → k.toNat < 12 →
      let mv := 550 + 100 * f.toNat
      let fails := s.get F.PMU_DVFS_STAT_VREAD < mv ∨ f.toNat < s.get (F.PMU_CLU_FLOOR k.toNat) ∨
        s.flag F.PMU_DVFS_STAT_BUSY = true;
      (fails → ends (exec (.fdirGo .bench k f) s) (fun t => t.flag F.PMU_DVFS_STAT_ORDER_ERR = true ∧ t.pmu = s.pmu ∧
        t.out = .bench .dvfsError 0 :: s.out)) ∧
      (¬fails → s.flag F.PMU_QUENCH_ACTIVE = false → s.cluOn k.toNat = true → s.get (F.PMU_CLU_OPP k.toNat) ≠ f.toNat →
        ends (exec (.fdirGo .bench k f) s) (fun t => (t.clock k.toNat).next = some f.toNat ∧ t.flag F.PMU_DVFS_STAT_BUSY = true ∧ t.out = s.out))))

/-- 20 R786 to R793, R803, R805, 23 R903: two samples in a row above 115 °C, an alert of the power brick, under-voltage and a failing AVS bus
each begin Quench, which halts every tile with HALT_REASON QUENCH and counts; CLR ends it once Tj is at or below QREL. A hardware trip
resets and powers off every domain but AO. The crystal's loss and start show in DEV_CFG. -/
def Obligations.ThermalAndQuench : Prop :=
  (∀ (s : State), s.Ok → s.Sized → s.inReset = false → s.flag F.PMU_QUENCH_ACTIVE = false → s.fw.job = none →
    (s.get F.GLB_PLAN_STAT_STATE = 0 ∨ s.get F.GLB_PLAN_STAT_STATE = 3) →
    let q := fun (c : Nat) (t : State) => t.flag F.PMU_QUENCH_ACTIVE = true ∧ t.get F.PMU_QUENCH_CAUSE = c ∧
      t.get F.PMU_QCNT = min (2 ^ 32 - 1) (s.get F.PMU_QCNT + 1) ∧ t.fw.tasks = [] ∧ t.fw.plan = s.fw.plan ∧
      (s.get F.GLB_PLAN_STAT_STATE = 3 → t.get F.GLB_PLAN_STAT_STATE = 5) ∧ t.out.head? = some (.bench .quench c) ∧
      ∀ n < 192, s.tileOn n = true → t.get (F.TILE_SEQ_STAT_STATE n) = 0 ∧ t.get (F.TILE_SEQ_STAT_HALT_REASON n) = 5;
    ends (exec .pmbAlert s) (q 2) ∧ ends (exec .vddTileUv s) (q 3) ∧
    ends (exec .avsbusFailure s) (fun t => q 4 t ∧ t.flag F.PMU_DVFS_STAT_AVS_ERR = true) ∧
    (s.flag F.PMU_DVFS_CFG_AVS_WAIT = true → s.flag F.PMU_DVFS_STAT_BUSY = true → ends (exec .avsReadbackTimeout s) (q 4)) ∧
    (∀ (r : List Int) (k : Nat), k < 16 → sensorOn s k = true → 920 < r.getD k 0 → r.getD k 0 ≤ 1200 → 1 ≤ s.pmu.hot →
      s.flag F.PMU_THERM_CFG_WARN_IE = false → ends (exec (.thermalSample r) s) (fun t => q 1 t ∧ t.flag (F.PMU_TS_VALID k) = true ∧
        t.geti (F.PMU_TS_T k) = r.getD k 0))) ∧
  (∀ (s : State) (r : List Int), s.Ok → s.inReset = false → (∀ k < 16, r.getD k 0 ≤ 920) → (∀ k < 16, -320 ≤ r.getD k 0) →
    (∃ k < 16, sensorOn s k = true) → ends (exec (.thermalSample r) s) (fun t => t.pmu.hot = 0 ∧ t.tiles = s.tiles ∧
      t.flag F.PMU_QUENCH_ACTIVE = s.flag F.PMU_QUENCH_ACTIVE ∧ sensorOn s (t.get F.PMU_THERM_STAT_HOT) = true ∧
      t.geti F.PMU_THERM_STAT_TJ = r.getD (t.get F.PMU_THERM_STAT_HOT) 0 ∧
      (∀ k < 16, t.flag (F.PMU_TS_VALID k) = sensorOn s k ∧ (sensorOn s k = true → t.geti (F.PMU_TS_T k) = r.getD k 0 ∧
        r.getD k 0 ≤ t.geti F.PMU_THERM_STAT_TJ)))) ∧
  (∀ (s : State), s.inReset = false → s.flag F.PMU_QUENCH_ACTIVE = true → exec .pmbAlert s = .next s ∧ exec .vddTileUv s = .next s) ∧
  (∀ (s : State) (c : Bool), s.pins.porst = false → s.flag F.PMU_QUENCH_ACTIVE = true →
    (c = false → s.geti F.PMU_THERM_STAT_TJ ≤ (s.get F.PMU_THERM_CFG_QREL * 8 : Nat) →
      exec (.quenchClr .bench c) s = .next (s.clear F.PMU_QUENCH_ACTIVE)) ∧
    (c = true ∨ (s.get F.PMU_THERM_CFG_QREL * 8 : Nat) < s.geti F.PMU_THERM_STAT_TJ →
      exec (.quenchClr .bench c) s = .next (s.raise F.PMU_QUENCH_CLR_REFUSED))) ∧
  (∀ (s : State), s.Ok → s.Sized → s.inReset = false → ends (exec .thermalTrip s) (fun t => t.pins.trip = true ∧ t.pins.pcieUp = false ∧
    t.flag F.PMU_QUENCH_TRIP = true ∧ t.get F.PMU_QUENCH_TRIP_CNT = min (2 ^ (F.PMU_QUENCH_TRIP_CNT.hi - F.PMU_QUENCH_TRIP_CNT.lo + 1) - 1)
      (s.get F.PMU_QUENCH_TRIP_CNT + 1) ∧
    t.flag F.PMU_QUENCH_ACTIVE = false ∧ (∀ d < 7, t.get (F.domState d) = 0) ∧ (∀ k < 12, t.get (F.PMU_CLU_STATE k) = 0) ∧ t.fw = {} ∧
    t.touch.otp = s.touch.otp ∧ t.touch.flash = s.touch.flash ∧ t.aoCount = s.aoCount ∧ t.get F.PMU_THERM_CFG_QREL = s.get F.PMU_THERM_CFG_QREL)) ∧
  (∀ (s : State), s.pins.porst = false →
    exec .aoCrystalLoss s = .next ((s.clear F.PMU_DEV_CFG_XTAL_OK).raise F.PMU_DEV_CFG_RC_MODE) ∧
    exec .aoCrystalStart s = .next ((s.raise F.PMU_DEV_CFG_XTAL_OK).clear F.PMU_DEV_CFG_RC_MODE))

/-! ### Errors (21), resets and boot (20, 22, 23), register access (00_scope, 19) -/

/-- 21 R811, R813, R815, R817, R820, R824 to R828: a corrected error is counted, and logged with LOG_CE; an uncorrectable one is counted and
logged, and its word is poisoned with the action of its region. A log entry holds region, source, kind, place and epoch; a full ring loses
it. A storm or a degraded link is shown and told.
21 R818, R821 to R823, R829, 22 R881: with AUTO_RELOAD a tile that an instruction-memory error halted is reloaded without its memories
changing; the static entries that errors took are written again; Bench and Touchmark are restarted, the latter without transition, update,
nonce or debug session; a PCIe error is counted under region 18. -/
def Obligations.ErrorsAndRepairs : Prop :=
  ((∀ (s : State) (region : Nat) (src : RasSrc) (node unit a : Nat), s.Ok → s.mgtOn = true → region < 19 → node < 4096 → unit < 16 → a < 2 ^ 48 →
      (s.ras.unread < 64 → let w := s.get F.RAS_LOG_WR; let t := rasUe region src node unit a s
        t.get (F.RAS_UE region) = min (2 ^ 32 - 1) (s.get (F.RAS_UE region) + 1) ∧ t.ras.unread = s.ras.unread + 1 ∧
        t.get (F.RAS_LOG w 0) = region + 32 * src.code + 128 + 256 * node + 2 ^ 20 * unit + 2 ^ 31 ∧ t.get (F.RAS_LOG w 1) = a % 2 ^ 32 ∧
        t.get (F.RAS_LOG w 2) = a / 2 ^ 32 ∧ t.get (F.RAS_LOG w 3) = s.get F.TSB_EPOCH_NUM ∧ t.get F.RAS_LOG_WR = (w + 1) % 64 ∧
        t.flag F.RAS_STAT_LOG_PEND = true ∧ t.out = .bench .rasLog region :: s.out) ∧
      (64 ≤ s.ras.unread → let t := rasUe region src node unit a s
        t.get F.RAS_LOG_LOST = min (2 ^ 32 - 1) (s.get F.RAS_LOG_LOST + 1) ∧ t.ras = s.ras ∧ t.out = s.out)) ∧
    (∀ (s : State) (w : ScrubAt), scrubThere s w = true → scrubPoisoned s w = false → (s.mgtOn = false ∨ s.flag F.RAS_CTL_SCRUB_EN = true) →
      exec (.scrubRead w .clean) s = .next s) ∧
    (∀ (s : State) (n a : Nat), s.Ok → s.Sized → s.mgtOn = true → s.flag F.RAS_CTL_SCRUB_EN = true → s.tileOn n = true → n < 192 → a < 0x4000 →
      (s.tile n).ipoison.contains (a / 8) = false →
      ends (exec (.scrubRead (.imem n a) .uncorrectable) s) (fun t => a / 8 ∈ (t.tile n).ipoison ∧ (t.seq n).haltPend = true ∧
        (t.tile n).imem = (s.tile n).imem ∧ t.get (F.RAS_UE 0) = min (2 ^ 32 - 1) (s.get (F.RAS_UE 0) + 1)) ∧
      (s.flag F.RAS_CTL_LOG_CE = false → ends (exec (.scrubRead (.imem n a) .corrected) s) (fun t => t.tiles = s.tiles ∧
        t.get (F.RAS_CE 0) = min (2 ^ 32 - 1) (s.get (F.RAS_CE 0) + 1) ∧ t.ras.ceSec.getD 0 0 = s.ras.ceSec.getD 0 0 + 1 ∧ t.out = s.out))) ∧
    (∀ (s : State) (k a : Nat), s.Ok → s.mgtOn = true → s.flag F.RAS_CTL_SCRUB_EN = true → s.fabOn = true →
      (k < 0x10000 → s.sync.poison.contains k = false → ends (exec (.scrubRead (.counter k) .uncorrectable) s) (fun t =>
        k ∈ t.sync.poison ∧ t.sync.ctr = s.sync.ctr ∧ t.get (F.RAS_UE 13) = min (2 ^ 32 - 1) (s.get (F.RAS_UE 13) + 1))) ∧
      (a < 2 ^ 24 → s.mem.poolBad.contains (a / 8) = false → ends (exec (.scrubRead (.pool a 0) .uncorrectable) s) (fun t =>
        a / 8 ∈ t.mem.poolBad ∧ t.mem.pool = s.mem.pool ∧ t.get F.MEM_POOL_UE = min (2 ^ 32 - 1) (s.get F.MEM_POOL_UE + 1)))) ∧
    (∀ (s : State) (r : Nat), s.Ok → s.mgtOn = true → s.flag F.RAS_CTL_SCRUB_EN = true → r ∈ [0, 1, 3, 4, 7, 8, 9, 12, 13, 14, 15] →
      exec (.scrubPassLate r) s = .next (s.inc (F.RAS_LATE r))) ∧
    (∀ (s : State) (r : Nat), s.Ok → s.mgtOn = true → r < 19 → bitOf (s.get F.RAS_HOST_MASK) r = false →
      (s.get F.RAS_CE_THR ≤ s.ras.ceSec.getD r 0 → ends (exec (.ceStorm r) s) (fun t => t.flag F.RAS_STAT_CE_STORM = true ∧
        t.get F.RAS_STAT_CE_REGION = r ∧ t.out = .bench .ceStorm r :: s.out ∧ t.ras = s.ras)) ∧
      (s.ras.ceSec.getD r 0 < s.get F.RAS_CE_THR → exec (.ceStorm r) s = .next s)) ∧
    (∀ (s : State) (n p : Nat), s.Ok → s.mgtOn = true → n < 192 → p < 6 →
      (s.get F.RAS_LINK_LINK_THR ≤ sparseGet (fun _ => 0) s.ras.links (n * 6 + p) → ends (exec (.linkDegraded n p) s) (fun t =>
        t.flag F.RAS_STAT_LINK_DEGRADED = true ∧ t.get F.RAS_LINK_NODE = n ∧ t.get F.RAS_LINK_PORT = p ∧
        t.get F.RAS_LINK_LINK_THR = s.get F.RAS_LINK_LINK_THR ∧ t.out = .bench .linkDegraded n :: s.out)) ∧
      (sparseGet (fun _ => 0) s.ras.links (n * 6 + p) < s.get F.RAS_LINK_LINK_THR → exec (.linkDegraded n p) s = .next s) ∧
      sparseGet (fun _ => 0) (rasLink n p s).ras.links (n * 6 + p) = sparseGet (fun _ => 0) s.ras.links (n * 6 + p) + 1)) ∧
  ((∀ (s : State) (n r : Nat) (p : Plan), s.Ok → s.Sized → s.fw.plan = some p → benchRuns s = true → s.flag F.RAS_CTL_AUTO_RELOAD = true →
      planThere s = true → s.fw.job = none → s.tileOn n = true → n < 192 → tileHalted s n = true → s.get (F.TILE_SEQ_STAT_HALT_REASON n) = 4 →
      p.tiles.contains (logicalOf s n) = true → runTile s (logicalOf s n) = n → goldenUsable s p (logicalOf s n) = true →
      p.ofTy 7 = [] → p.ofTy 10 = [] → r < 0x4000 →
      ends (exec (.autoReloadStart n r) s) (fun t => (t.tile n).mem = (s.tile n).mem ∧ t.get (F.TILE_SEQ_STAT_STATE n) = 3 ∧
        t.get (F.TILE_SEQ_BOOT n) = r / 4 ∧ t.fw.job.any (fun j => !j.host && j.due == (s.epochNum + 1) % 2 ^ 32) = true ∧ t.hst.done = s.hst.done)) ∧
    (∀ (s : State) (n r : Nat), s.flag F.RAS_CTL_AUTO_RELOAD = false ∨ s.fw.job.isSome = true ∨ s.fw.plan = none →
      exec (.autoReloadStart n r) s = .next s) ∧
    (∀ (s : State) (e : MacEntry) (v : Nat) (x : VlanEntry), s.Ok → s.netOn = true → touchmarkRuns s = true → s.ras.lostMac = [e] →
      s.ras.lostVlan = [(v, x)] → ends (exec .nbrTableRewrite s) (fun t => e ∈ t.sw.mac ∧ t.vlan v = x ∧ t.ras.lostMac = [] ∧ t.ras.lostVlan = [] ∧
        (∀ y ∈ s.sw.mac, (y.vid ≠ e.vid ∨ y.mac ≠ e.mac) → y ∈ t.sw.mac) ∧ (∀ u, u ≠ v → t.vlan u = s.vlan u) ∧ t.regs = s.regs)) ∧
    (∀ (s : State), s.fw.stopped = true → exec (.benchRestart true) s = .next (s.setFw { s.fw with stopped := false })) ∧
    (∀ (s : State), s.fw.stopped = true → s.get F.GLB_BOOT_SLOT ≤ 1 → accepted (benchReason s [] (1 - s.get F.GLB_BOOT_SLOT)) = false →
      exec (.benchRestart false) s = .next (s.setFw { s.fw with stopped := false })) ∧
    (∀ (s : State), s.Ok → touchmarkRuns s = true → s.mgtOn = false → exec .touchmarkRestart s = .next
      ((((s.setTouch { s.touch with update := none, nonce := none }).clear F.GLB_FW_SLOTS_UPD_OPEN).clear F.GLB_LC_DBG_SCOPE).clear
        F.GLB_LC_DBG_LEFT)) ∧
    (∀ (s : State), s.Ok → touchmarkRuns s = true → s.mgtOn = true → ends (exec .touchmarkRestart s) (fun t => t.touch.update = none ∧
      t.touch.nonce = none ∧ t.touch.reqs = s.touch.reqs ∧ t.touch.flash = s.touch.flash ∧ t.flag F.GLB_FW_SLOTS_UPD_OPEN = false ∧
      t.get F.GLB_LC_DBG_SCOPE = 0 ∧ t.get (F.RAS_UE 15) = min (2 ^ 32 - 1) (s.get (F.RAS_UE 15) + 1))) ∧
    (∀ (s : State) (w : Word), s.hstOn = true → exec (.pcieAerError false w) s = .next (rasUe 18 .link 0xFFF 0 w.toNat s) ∧
      exec (.pcieAerError true w) s = .next (rasCe 18 .link 0xFFF 0 w.toNat s)))

/-- 20 R792, R793, R807, R808, 22 R854, R855, R874, R882, R887, 23 R888: PORST_N asserted resets every register and memory but OTP, flash and
the touchstone cells; released, AO runs from the internal oscillator, SEC and HST wake, and the ROM starts: it stays in ROM with reason 2 in
SCRAP and with reason 1 without a Touchmark that verifies. WARM_N leaves NET, its tables and site time as they are. -/
def Obligations.ResetsAndBoot : Prop :=
  (∀ (s : State), s.Ok → s.Sized → ends (exec .porstNAssert s) (fun t => t.pins.porst = true ∧ t.pins.trip = false ∧ t.pins.pcieUp = false ∧
    (∀ k, k ∉ [0, 4, 0x10, 0x14] → t.reg k = regReset k) ∧ t.fw = {} ∧ t.hst = {} ∧ t.sw = {} ∧ t.sync = {} ∧ t.mem = {} ∧
    t.touch = { otp := s.touch.otp, flash := s.touch.flash, trngBad := s.touch.trngBad } ∧ t.tb = { refclk := s.tb.refclk } ∧
    t.pmu = {} ∧ t.cfg = s.cfg ∧ t.jxl = State.reset.jxl ∧ t.gates = State.reset.gates ∧
    (∀ n < 192, (t.tile n).mem = [] ∧ (t.tile n).imem = [] ∧ (t.seq n).pc = 0 ∧
      ∀ a < 4, (t.arr n a).a.cells = (s.arr n a).a.cells ∧ (t.arr n a).a.tag = (s.arr n a).a.tag))) ∧
  (∀ (s : State) (f : List Nat) (b : List (Nat × Nat)), s.Ok → s.Sized → s.pins.porst = true → 5 ∉ f →
    ends (exec (.porstNRelease f b) s) (fun t => t.pins.porst = false ∧ t.flag F.PMU_DEV_CFG_RC_MODE = true ∧ t.get F.PMU_DEV_CTL_STATE = 0 ∧
      t.get (F.domState 0) = 2 ∧ t.get (F.domState 5) = 2 ∧ t.get F.GLB_LC_LC = s.lc ∧
      (s.lc = 4 → t.get F.GLB_BOOT_FW_REASON = 2 ∧ t.stage = s.stage ∧ t.touch.otp.idGone = true) ∧
      (s.lc ≠ 4 → chooseSlot s b 1 = none → t.get F.GLB_BOOT_FW_REASON = 1 ∧ t.stage = s.stage ∧ t.touch.flash = s.touch.flash))) ∧
  (∀ (s : State) (f : List Nat) (b : List (Nat × Nat)), s.pins.porst = false → exec (.porstNRelease f b) s = .next s) ∧
  (∀ (s : State) (f : List Nat) (b : List (Nat × Nat)), s.Ok → s.Sized → s.pins.porst = false → s.pins.trip = true → 5 ∉ f →
    ends (exec (.tripRecovery f b) s) (fun t => t.pins.trip = false ∧ t.get F.PMU_DEV_CTL_STATE = 0 ∧ t.get (F.domState 0) = 2 ∧
      t.get (F.domState 5) = 2 ∧ t.get F.GLB_LC_LC = s.lc)) ∧
  (∀ (s : State) (f : List Nat) (b : List (Nat × Nat)), s.inReset = true ∨ s.stage < 2 → exec (.warmN f b) s = .next s) ∧
  (∀ (s : State) (f : List Nat) (b : List (Nat × Nat)), s.Ok → s.Sized → s.inReset = false → 2 ≤ s.stage → s.hstOn = true →
    ends (exec (.warmN f b) s) (fun t => t.sw = s.sw ∧ t.tb.sec = s.tb.sec ∧ t.T = s.T ∧ t.touch.otp = s.touch.otp ∧ t.touch.flash = s.touch.flash ∧
      t.fw.plan = none ∧ t.fw.job = none ∧ t.mem.lp = [] ∧ (∀ k < 12, t.get (F.PMU_CLU_STATE k) = 0) ∧ t.flag F.HST_RING_CTL_EN = false ∧
      t.get (F.domState 1) = s.get (F.domState 1) ∧ t.get F.PMU_DEV_CTL_STATE = 0 ∧ t.running = false ∧
      (accepted (benchReason s b 0) = false → accepted (benchReason s b 1) = false → t.stage = 5 ∧ t.get F.GLB_BOOT_SAFE_SRC = 1 ∧
        t.get (F.domState 6) = 0)))
end

