-- ==== Sys2Proof/Laws/Operands.lean ====
section
/-!
SUPPORT. Sys2Proof/Laws/Operands.lean: bit fields read back as written and leave their neighbours alone; sparse lists read back
as written and stay in canonical form.
-/

namespace Sys2Proof.Machine

/-! ### Bit fields -/

theorem bitsOf_lt (n hi lo : Nat) : bitsOf n hi lo < 2 ^ (hi + 1 - lo) := Nat.mod_lt _ (Nat.two_pow_pos _)

theorem putBits_lt {n hi lo v k : Nat} (hn : n < 2 ^ k) (hh : hi < k) (hl : lo ≤ hi) : putBits n hi lo v < 2 ^ k := by
  unfold putBits
  have h1 : v % 2 ^ (hi + 1 - lo) < 2 ^ (hi + 1 - lo) := Nat.mod_lt _ (Nat.two_pow_pos _)
  have h2 : n % 2 ^ lo < 2 ^ lo := Nat.mod_lt _ (Nat.two_pow_pos _)
  have h3 : n / 2 ^ (hi + 1) < 2 ^ (k - (hi + 1)) := by
    rw [Nat.div_lt_iff_lt_mul (Nat.two_pow_pos _), ← pow_add]; rwa [show k - (hi + 1) + (hi + 1) = k by omega]
  have e1 : 2 ^ (hi + 1 - lo) * 2 ^ lo = 2 ^ (hi + 1) := by rw [← pow_add]; congr 1; omega
  have e2 : 2 ^ (k - (hi + 1)) * 2 ^ (hi + 1) = 2 ^ k := by rw [← pow_add]; congr 1; omega
  have a1 : v % 2 ^ (hi + 1 - lo) * 2 ^ lo + n % 2 ^ lo < 2 ^ (hi + 1) := by
    calc v % 2 ^ (hi + 1 - lo) * 2 ^ lo + n % 2 ^ lo < v % 2 ^ (hi + 1 - lo) * 2 ^ lo + 2 ^ lo := by omega
      _ = (v % 2 ^ (hi + 1 - lo) + 1) * 2 ^ lo := by ring
      _ ≤ 2 ^ (hi + 1 - lo) * 2 ^ lo := Nat.mul_le_mul_right _ h1
      _ = _ := e1
  calc _ < n / 2 ^ (hi + 1) * 2 ^ (hi + 1) + 2 ^ (hi + 1) := by omega
    _ = (n / 2 ^ (hi + 1) + 1) * 2 ^ (hi + 1) := by ring
    _ ≤ 2 ^ (k - (hi + 1)) * 2 ^ (hi + 1) := Nat.mul_le_mul_right _ h3
    _ = _ := e2

theorem bitsOf_testBit (n hi lo i : Nat) : (bitsOf n hi lo).testBit i = (decide (i < hi + 1 - lo) && n.testBit (lo + i)) := by
  unfold bitsOf
  rw [Nat.testBit_mod_two_pow, Nat.testBit_div_two_pow, Nat.add_comm i lo]

theorem putBits_testBit {n hi lo v : Nat} (hl : lo ≤ hi) (i : Nat) :
    (putBits n hi lo v).testBit i = if lo ≤ i ∧ i ≤ hi then v.testBit (i - lo) else n.testBit i := by
  unfold putBits
  have h2 : n % 2 ^ lo < 2 ^ lo := Nat.mod_lt _ (Nat.two_pow_pos _)
  have h1 : v % 2 ^ (hi + 1 - lo) < 2 ^ (hi + 1 - lo) := Nat.mod_lt _ (Nat.two_pow_pos _)
  have e : n / 2 ^ (hi + 1) * 2 ^ (hi + 1) + v % 2 ^ (hi + 1 - lo) * 2 ^ lo + n % 2 ^ lo
      = 2 ^ lo * (2 ^ (hi + 1 - lo) * (n / 2 ^ (hi + 1)) + v % 2 ^ (hi + 1 - lo)) + n % 2 ^ lo := by
    have e1 : 2 ^ (hi + 1) = 2 ^ lo * 2 ^ (hi + 1 - lo) := by rw [← pow_add]; congr 1; omega
    rw [e1]; ring
  rw [e, Nat.testBit_two_pow_mul_add _ h2, Nat.testBit_two_pow_mul_add _ h1]
  by_cases c1 : i < lo
  · have : ¬ (lo ≤ i ∧ i ≤ hi) := by omega
    simp [c1, this, Nat.testBit_mod_two_pow]
  · by_cases c2 : i ≤ hi
    · have h : lo ≤ i ∧ i ≤ hi := by omega
      have h' : i - lo < hi + 1 - lo := by omega
      simp [c1, h, h', Nat.testBit_mod_two_pow]
    · have h : ¬ (lo ≤ i ∧ i ≤ hi) := by omega
      have h' : ¬ (i - lo < hi + 1 - lo) := by omega
      simp only [c1, h, h', if_false, Nat.testBit_div_two_pow]
      congr 1; omega

/-- A field reads back as written. -/
theorem bitsOf_putBits_same {n hi lo v : Nat} (hl : lo ≤ hi) : bitsOf (putBits n hi lo v) hi lo = v % 2 ^ (hi + 1 - lo) := by
  apply Nat.eq_of_testBit_eq; intro i
  rw [bitsOf_testBit, putBits_testBit hl, Nat.testBit_mod_two_pow]
  by_cases h : i < hi + 1 - lo
  · have : lo ≤ lo + i ∧ lo + i ≤ hi := by omega
    simp [h, this]
  · simp [h]

/-- A field that does not overlap the one written keeps its value. -/
theorem bitsOf_putBits_ne {n hi lo v hi' lo' : Nat} (hl : lo ≤ hi) (h : hi' < lo ∨ hi < lo') :
    bitsOf (putBits n hi lo v) hi' lo' = bitsOf n hi' lo' := by
  apply Nat.eq_of_testBit_eq; intro i
  rw [bitsOf_testBit, bitsOf_testBit, putBits_testBit hl]
  by_cases c : i < hi' + 1 - lo'
  · have : ¬ (lo ≤ lo' + i ∧ lo' + i ≤ hi) := by omega
    simp [c, this]
  · simp [c]

/-! ### Sparse lists -/

/-- Every key of the list is greater than `k`. -/
def Above (k : Nat) (l : List (Nat × α)) : Prop := ∀ e ∈ l, k < e.1

theorem sparseWf_cons [DecidableEq α] {d : Nat → α} {k : Nat} {v : α} {l : List (Nat × α)} :
    sparseWf d ((k, v) :: l) = true ↔ v ≠ d k ∧ Above k l ∧ sparseWf d l = true := by
  simp [sparseWf, Above, and_assoc]

theorem sparseGet_above {d : Nat → α} {l : List (Nat × α)} {k : Nat} (h : Above k l) : sparseGet d l k = d k := by
  induction l with
  | nil => rfl
  | cons e l ih =>
    obtain ⟨a, v⟩ := e
    have h1 : k < a := h (a, v) (by simp)
    have h2 : Above k l := fun e he => h e (by simp [he])
    simp [sparseGet, show a ≠ k by omega, ih h2]

theorem sparseDel_mem {l : List (Nat × α)} {k : Nat} {e : Nat × α} (h : e ∈ sparseDel l k) : e ∈ l := by
  induction l with
  | nil => simp [sparseDel] at h
  | cons x l ih =>
    obtain ⟨a, v⟩ := x
    unfold sparseDel at h
    split at h
    · exact List.mem_cons_of_mem _ h
    · rcases List.mem_cons.1 h with h | h
      · exact h ▸ List.mem_cons_self
      · exact List.mem_cons_of_mem _ (ih h)

theorem sparseIns_mem {l : List (Nat × α)} {k : Nat} {v : α} {e : Nat × α} (h : e ∈ sparseIns l k v) : e = (k, v) ∨ e ∈ l := by
  induction l with
  | nil => simp [sparseIns] at h; exact .inl h
  | cons x l ih =>
    obtain ⟨a, w⟩ := x
    unfold sparseIns at h
    split at h
    · simpa using h
    · split at h
      · rcases List.mem_cons.1 h with h | h
        · exact .inl h
        · exact .inr (List.mem_cons_of_mem _ h)
      · rcases List.mem_cons.1 h with h | h
        · exact .inr (h ▸ List.mem_cons_self)
        · rcases ih h with h | h
          · exact .inl h
          · exact .inr (List.mem_cons_of_mem _ h)

theorem sparseDel_wf [DecidableEq α] {d : Nat → α} {l : List (Nat × α)} (k : Nat) (h : sparseWf d l = true) :
    sparseWf d (sparseDel l k) = true := by
  induction l with
  | nil => rfl
  | cons e l ih =>
    obtain ⟨a, v⟩ := e
    obtain ⟨h1, h2, h3⟩ := sparseWf_cons.1 h
    unfold sparseDel
    split
    · exact h3
    · exact sparseWf_cons.2 ⟨h1, fun e he => h2 e (sparseDel_mem he), ih h3⟩

theorem sparseIns_wf [DecidableEq α] {d : Nat → α} {l : List (Nat × α)} {k : Nat} {v : α} (hv : v ≠ d k)
    (h : sparseWf d l = true) : sparseWf d (sparseIns l k v) = true := by
  induction l with
  | nil => exact sparseWf_cons.2 ⟨hv, by simp [Above], rfl⟩
  | cons e l ih =>
    obtain ⟨a, w⟩ := e
    obtain ⟨h1, h2, h3⟩ := sparseWf_cons.1 h
    unfold sparseIns
    split
    · rename_i c
      refine sparseWf_cons.2 ⟨hv, ?_, h⟩
      intro e he
      rcases List.mem_cons.1 he with rfl | he
      · exact c
      · exact Nat.lt_trans c (h2 e he)
    · split
      · rename_i c c'
        subst c'
        exact sparseWf_cons.2 ⟨hv, h2, h3⟩
      · refine sparseWf_cons.2 ⟨h1, ?_, ih h3⟩
        intro e he
        rcases sparseIns_mem he with rfl | he
        · show a < k; omega
        · exact h2 e he

/-- A write keeps the canonical form. -/
theorem sparsePut_wf [DecidableEq α] {d : Nat → α} {l : List (Nat × α)} (k : Nat) (v : α) (h : sparseWf d l = true) :
    sparseWf d (sparsePut d l k v) = true := by
  unfold sparsePut
  split
  · exact sparseDel_wf k h
  · exact sparseIns_wf (by assumption) h

/-- Entries may be left out. -/
theorem sparse_filter_wf [DecidableEq α] {d : Nat → α} {l : List (Nat × α)} (p : Nat × α → Bool) (h : sparseWf d l = true) :
    sparseWf d (l.filter p) = true := by
  induction l with
  | nil => rfl
  | cons e l ih =>
    obtain ⟨a, v⟩ := e
    obtain ⟨h1, h2, h3⟩ := sparseWf_cons.1 h
    rw [List.filter_cons]
    split
    · exact sparseWf_cons.2 ⟨h1, fun e he => h2 e (List.mem_of_mem_filter he), ih h3⟩
    · exact ih h3

theorem sparseGet_del [DecidableEq α] {d : Nat → α} {l : List (Nat × α)} (h : sparseWf d l = true) (k j : Nat) :
    sparseGet d (sparseDel l k) j = if j = k then d k else sparseGet d l j := by
  induction l with
  | nil => simp [sparseDel, sparseGet]; rintro rfl; rfl
  | cons e l ih =>
    obtain ⟨a, v⟩ := e
    obtain ⟨h1, h2, h3⟩ := sparseWf_cons.1 h
    unfold sparseDel
    split
    · rename_i c; subst c
      split
      · rename_i c; subst c; exact sparseGet_above h2
      · rename_i c; simp [sparseGet, show a ≠ j from fun h => c h.symm]
    · rename_i c
      simp only [sparseGet, ih h3]
      by_cases c1 : a = j
      · subst c1; simp [c]
      · simp [c1]

theorem sparseGet_ins {d : Nat → α} (l : List (Nat × α)) (k : Nat) (v : α) (j : Nat) :
    sparseGet d (sparseIns l k v) j = if j = k then v else sparseGet d l j := by
  induction l with
  | nil => simp [sparseIns, sparseGet, eq_comm]
  | cons e l ih =>
    obtain ⟨a, w⟩ := e
    unfold sparseIns
    split
    · simp [sparseGet, eq_comm]
    · split
      · rename_i c c'; subst c'
        by_cases c1 : j = k
        · simp [sparseGet, c1]
        · simp [sparseGet, c1, show k ≠ j from fun h => c1 h.symm]
      · rename_i c c'
        simp only [sparseGet, ih]
        by_cases c1 : a = j
        · subst c1; simp [show a ≠ k from fun h => c' h.symm]
        · simp [c1]

/-- A read after a write: the written key gives the value written, every other key what it gave. -/
theorem sparseGet_put [DecidableEq α] {d : Nat → α} {l : List (Nat × α)} (h : sparseWf d l = true) (k : Nat) (v : α) (j : Nat) :
    sparseGet d (sparsePut d l k v) j = if j = k then v else sparseGet d l j := by
  unfold sparsePut
  split
  · rename_i c; rw [sparseGet_del h, c]
  · exact sparseGet_ins l k v j

/-! ### Byte memories -/

theorem memPut_wf {m : Mem} (a : Nat) (b : Byte) (h : Memory.wf m = true) : Memory.wf (memPut m a b) = true := sparsePut_wf a b h

theorem memPutBytes_wf (l : List Byte) : ∀ (m : Mem) (a : Nat), Memory.wf m = true → Memory.wf (memPutBytes m a l) = true := by
  induction l with
  | nil => intro m a h; exact h
  | cons b l ih => intro m a h; exact ih _ _ (memPut_wf a b h)

theorem memPutNat_wf {m : Mem} (a n v : Nat) (h : Memory.wf m = true) : Memory.wf (memPutNat m a n v) = true :=
  memPutBytes_wf _ _ _ h

theorem memByte_put {m : Mem} (h : Memory.wf m = true) (a : Nat) (b : Byte) (j : Nat) :
    memByte (memPut m a b) j = if j = a then b else memByte m j := sparseGet_put h a b j

/-- Stored bytes read back; every other byte keeps its value. -/
theorem memByte_putBytes (l : List Byte) : ∀ (m : Mem) (a : Nat), Memory.wf m = true → ∀ j,
    memByte (memPutBytes m a l) j = if a ≤ j ∧ j < a + l.length then l.getD (j - a) 0 else memByte m j := by
  induction l with
  | nil => intro m a h j; simp [memPutBytes, show ¬ (a ≤ j ∧ j < a) by omega]
  | cons b l ih =>
    intro m a h j
    rw [memPutBytes, ih _ _ (memPut_wf a b h), memByte_put h]
    by_cases c : j = a
    · subst c; simp
    · by_cases c1 : a + 1 ≤ j ∧ j < a + 1 + l.length
      · have c2 : a ≤ j ∧ j < a + (l.length + 1) := by omega
        simp only [c1, List.length_cons, c2, and_self, if_true]
        rw [show j - a = (j - (a + 1)) + 1 by omega, List.getD_cons_succ]
      · have c2 : ¬ (a ≤ j ∧ j < a + (l.length + 1)) := by omega
        simp only [c1, c2, c, List.length_cons, if_false]

end Sys2Proof.Machine
end

