-- ==== Sys2Proof/Laws/State.lean ====
section
/-!
SUPPORT. Sys2Proof/Laws/State.lean: what each named update of State leaves unchanged, field by field; a register, field or flag read
after an update that touches no register. The proofs are written (rfl) so that simp uses the lemmas as equations: the kernel then never
compares two whole states.
-/

namespace Sys2Proof.Machine

/-! setCfg -/

@[simp] theorem State.setCfg_cfg (s : State) (x : Part) : (s.setCfg x).cfg = x := (rfl)
@[simp] theorem State.setCfg_pins (s : State) (x : Part) : (s.setCfg x).pins = s.pins := (rfl)
@[simp] theorem State.setCfg_regs (s : State) (x : Part) : (s.setCfg x).regs = s.regs := (rfl)
@[simp] theorem State.setCfg_tb (s : State) (x : Part) : (s.setCfg x).tb = s.tb := (rfl)
@[simp] theorem State.setCfg_hst (s : State) (x : Part) : (s.setCfg x).hst = s.hst := (rfl)
@[simp] theorem State.setCfg_act (s : State) (x : Part) : (s.setCfg x).act = s.act := (rfl)
@[simp] theorem State.setCfg_late (s : State) (x : Part) : (s.setCfg x).late = s.late := (rfl)
@[simp] theorem State.setCfg_sw (s : State) (x : Part) : (s.setCfg x).sw = s.sw := (rfl)
@[simp] theorem State.setCfg_see (s : State) (x : Part) : (s.setCfg x).see = s.see := (rfl)
@[simp] theorem State.setCfg_jxl (s : State) (x : Part) : (s.setCfg x).jxl = s.jxl := (rfl)
@[simp] theorem State.setCfg_csi (s : State) (x : Part) : (s.setCfg x).csi = s.csi := (rfl)
@[simp] theorem State.setCfg_ppc (s : State) (x : Part) : (s.setCfg x).ppc = s.ppc := (rfl)
@[simp] theorem State.setCfg_ald (s : State) (x : Part) : (s.setCfg x).ald = s.ald := (rfl)
@[simp] theorem State.setCfg_gates (s : State) (x : Part) : (s.setCfg x).gates = s.gates := (rfl)
@[simp] theorem State.setCfg_fab (s : State) (x : Part) : (s.setCfg x).fab = s.fab := (rfl)
@[simp] theorem State.setCfg_tiles (s : State) (x : Part) : (s.setCfg x).tiles = s.tiles := (rfl)
@[simp] theorem State.setCfg_cimq (s : State) (x : Part) : (s.setCfg x).cimq = s.cimq := (rfl)
@[simp] theorem State.setCfg_sync (s : State) (x : Part) : (s.setCfg x).sync = s.sync := (rfl)
@[simp] theorem State.setCfg_fw (s : State) (x : Part) : (s.setCfg x).fw = s.fw := (rfl)
@[simp] theorem State.setCfg_pmu (s : State) (x : Part) : (s.setCfg x).pmu = s.pmu := (rfl)
@[simp] theorem State.setCfg_touch (s : State) (x : Part) : (s.setCfg x).touch = s.touch := (rfl)
@[simp] theorem State.setCfg_ras (s : State) (x : Part) : (s.setCfg x).ras = s.ras := (rfl)
@[simp] theorem State.setCfg_mem (s : State) (x : Part) : (s.setCfg x).mem = s.mem := (rfl)
@[simp] theorem State.setCfg_ladle (s : State) (x : Part) : (s.setCfg x).ladle = s.ladle := (rfl)
@[simp] theorem State.setCfg_freeCtr (s : State) (x : Part) : (s.setCfg x).freeCtr = s.freeCtr := (rfl)
@[simp] theorem State.setCfg_out (s : State) (x : Part) : (s.setCfg x).out = s.out := (rfl)
@[simp] theorem State.setCfg_pending (s : State) (x : Part) : (s.setCfg x).pending = s.pending := (rfl)

/-! setPins -/

@[simp] theorem State.setPins_cfg (s : State) (x : Pins) : (s.setPins x).cfg = s.cfg := (rfl)
@[simp] theorem State.setPins_pins (s : State) (x : Pins) : (s.setPins x).pins = x := (rfl)
@[simp] theorem State.setPins_regs (s : State) (x : Pins) : (s.setPins x).regs = s.regs := (rfl)
@[simp] theorem State.setPins_tb (s : State) (x : Pins) : (s.setPins x).tb = s.tb := (rfl)
@[simp] theorem State.setPins_hst (s : State) (x : Pins) : (s.setPins x).hst = s.hst := (rfl)
@[simp] theorem State.setPins_act (s : State) (x : Pins) : (s.setPins x).act = s.act := (rfl)
@[simp] theorem State.setPins_late (s : State) (x : Pins) : (s.setPins x).late = s.late := (rfl)
@[simp] theorem State.setPins_sw (s : State) (x : Pins) : (s.setPins x).sw = s.sw := (rfl)
@[simp] theorem State.setPins_see (s : State) (x : Pins) : (s.setPins x).see = s.see := (rfl)
@[simp] theorem State.setPins_jxl (s : State) (x : Pins) : (s.setPins x).jxl = s.jxl := (rfl)
@[simp] theorem State.setPins_csi (s : State) (x : Pins) : (s.setPins x).csi = s.csi := (rfl)
@[simp] theorem State.setPins_ppc (s : State) (x : Pins) : (s.setPins x).ppc = s.ppc := (rfl)
@[simp] theorem State.setPins_ald (s : State) (x : Pins) : (s.setPins x).ald = s.ald := (rfl)
@[simp] theorem State.setPins_gates (s : State) (x : Pins) : (s.setPins x).gates = s.gates := (rfl)
@[simp] theorem State.setPins_fab (s : State) (x : Pins) : (s.setPins x).fab = s.fab := (rfl)
@[simp] theorem State.setPins_tiles (s : State) (x : Pins) : (s.setPins x).tiles = s.tiles := (rfl)
@[simp] theorem State.setPins_cimq (s : State) (x : Pins) : (s.setPins x).cimq = s.cimq := (rfl)
@[simp] theorem State.setPins_sync (s : State) (x : Pins) : (s.setPins x).sync = s.sync := (rfl)
@[simp] theorem State.setPins_fw (s : State) (x : Pins) : (s.setPins x).fw = s.fw := (rfl)
@[simp] theorem State.setPins_pmu (s : State) (x : Pins) : (s.setPins x).pmu = s.pmu := (rfl)
@[simp] theorem State.setPins_touch (s : State) (x : Pins) : (s.setPins x).touch = s.touch := (rfl)
@[simp] theorem State.setPins_ras (s : State) (x : Pins) : (s.setPins x).ras = s.ras := (rfl)
@[simp] theorem State.setPins_mem (s : State) (x : Pins) : (s.setPins x).mem = s.mem := (rfl)
@[simp] theorem State.setPins_ladle (s : State) (x : Pins) : (s.setPins x).ladle = s.ladle := (rfl)
@[simp] theorem State.setPins_freeCtr (s : State) (x : Pins) : (s.setPins x).freeCtr = s.freeCtr := (rfl)
@[simp] theorem State.setPins_out (s : State) (x : Pins) : (s.setPins x).out = s.out := (rfl)
@[simp] theorem State.setPins_pending (s : State) (x : Pins) : (s.setPins x).pending = s.pending := (rfl)

/-! setRegs -/

@[simp] theorem State.setRegs_cfg (s : State) (x : List (Nat × Word)) : (s.setRegs x).cfg = s.cfg := (rfl)
@[simp] theorem State.setRegs_pins (s : State) (x : List (Nat × Word)) : (s.setRegs x).pins = s.pins := (rfl)
@[simp] theorem State.setRegs_regs (s : State) (x : List (Nat × Word)) : (s.setRegs x).regs = x := (rfl)
@[simp] theorem State.setRegs_tb (s : State) (x : List (Nat × Word)) : (s.setRegs x).tb = s.tb := (rfl)
@[simp] theorem State.setRegs_hst (s : State) (x : List (Nat × Word)) : (s.setRegs x).hst = s.hst := (rfl)
@[simp] theorem State.setRegs_act (s : State) (x : List (Nat × Word)) : (s.setRegs x).act = s.act := (rfl)
@[simp] theorem State.setRegs_late (s : State) (x : List (Nat × Word)) : (s.setRegs x).late = s.late := (rfl)
@[simp] theorem State.setRegs_sw (s : State) (x : List (Nat × Word)) : (s.setRegs x).sw = s.sw := (rfl)
@[simp] theorem State.setRegs_see (s : State) (x : List (Nat × Word)) : (s.setRegs x).see = s.see := (rfl)
@[simp] theorem State.setRegs_jxl (s : State) (x : List (Nat × Word)) : (s.setRegs x).jxl = s.jxl := (rfl)
@[simp] theorem State.setRegs_csi (s : State) (x : List (Nat × Word)) : (s.setRegs x).csi = s.csi := (rfl)
@[simp] theorem State.setRegs_ppc (s : State) (x : List (Nat × Word)) : (s.setRegs x).ppc = s.ppc := (rfl)
@[simp] theorem State.setRegs_ald (s : State) (x : List (Nat × Word)) : (s.setRegs x).ald = s.ald := (rfl)
@[simp] theorem State.setRegs_gates (s : State) (x : List (Nat × Word)) : (s.setRegs x).gates = s.gates := (rfl)
@[simp] theorem State.setRegs_fab (s : State) (x : List (Nat × Word)) : (s.setRegs x).fab = s.fab := (rfl)
@[simp] theorem State.setRegs_tiles (s : State) (x : List (Nat × Word)) : (s.setRegs x).tiles = s.tiles := (rfl)
@[simp] theorem State.setRegs_cimq (s : State) (x : List (Nat × Word)) : (s.setRegs x).cimq = s.cimq := (rfl)
@[simp] theorem State.setRegs_sync (s : State) (x : List (Nat × Word)) : (s.setRegs x).sync = s.sync := (rfl)
@[simp] theorem State.setRegs_fw (s : State) (x : List (Nat × Word)) : (s.setRegs x).fw = s.fw := (rfl)
@[simp] theorem State.setRegs_pmu (s : State) (x : List (Nat × Word)) : (s.setRegs x).pmu = s.pmu := (rfl)
@[simp] theorem State.setRegs_touch (s : State) (x : List (Nat × Word)) : (s.setRegs x).touch = s.touch := (rfl)
@[simp] theorem State.setRegs_ras (s : State) (x : List (Nat × Word)) : (s.setRegs x).ras = s.ras := (rfl)
@[simp] theorem State.setRegs_mem (s : State) (x : List (Nat × Word)) : (s.setRegs x).mem = s.mem := (rfl)
@[simp] theorem State.setRegs_ladle (s : State) (x : List (Nat × Word)) : (s.setRegs x).ladle = s.ladle := (rfl)
@[simp] theorem State.setRegs_freeCtr (s : State) (x : List (Nat × Word)) : (s.setRegs x).freeCtr = s.freeCtr := (rfl)
@[simp] theorem State.setRegs_out (s : State) (x : List (Nat × Word)) : (s.setRegs x).out = s.out := (rfl)
@[simp] theorem State.setRegs_pending (s : State) (x : List (Nat × Word)) : (s.setRegs x).pending = s.pending := (rfl)

/-! setTb -/

@[simp] theorem State.setTb_cfg (s : State) (x : TimeBase) : (s.setTb x).cfg = s.cfg := (rfl)
@[simp] theorem State.setTb_pins (s : State) (x : TimeBase) : (s.setTb x).pins = s.pins := (rfl)
@[simp] theorem State.setTb_regs (s : State) (x : TimeBase) : (s.setTb x).regs = s.regs := (rfl)
@[simp] theorem State.setTb_tb (s : State) (x : TimeBase) : (s.setTb x).tb = x := (rfl)
@[simp] theorem State.setTb_hst (s : State) (x : TimeBase) : (s.setTb x).hst = s.hst := (rfl)
@[simp] theorem State.setTb_act (s : State) (x : TimeBase) : (s.setTb x).act = s.act := (rfl)
@[simp] theorem State.setTb_late (s : State) (x : TimeBase) : (s.setTb x).late = s.late := (rfl)
@[simp] theorem State.setTb_sw (s : State) (x : TimeBase) : (s.setTb x).sw = s.sw := (rfl)
@[simp] theorem State.setTb_see (s : State) (x : TimeBase) : (s.setTb x).see = s.see := (rfl)
@[simp] theorem State.setTb_jxl (s : State) (x : TimeBase) : (s.setTb x).jxl = s.jxl := (rfl)
@[simp] theorem State.setTb_csi (s : State) (x : TimeBase) : (s.setTb x).csi = s.csi := (rfl)
@[simp] theorem State.setTb_ppc (s : State) (x : TimeBase) : (s.setTb x).ppc = s.ppc := (rfl)
@[simp] theorem State.setTb_ald (s : State) (x : TimeBase) : (s.setTb x).ald = s.ald := (rfl)
@[simp] theorem State.setTb_gates (s : State) (x : TimeBase) : (s.setTb x).gates = s.gates := (rfl)
@[simp] theorem State.setTb_fab (s : State) (x : TimeBase) : (s.setTb x).fab = s.fab := (rfl)
@[simp] theorem State.setTb_tiles (s : State) (x : TimeBase) : (s.setTb x).tiles = s.tiles := (rfl)
@[simp] theorem State.setTb_cimq (s : State) (x : TimeBase) : (s.setTb x).cimq = s.cimq := (rfl)
@[simp] theorem State.setTb_sync (s : State) (x : TimeBase) : (s.setTb x).sync = s.sync := (rfl)
@[simp] theorem State.setTb_fw (s : State) (x : TimeBase) : (s.setTb x).fw = s.fw := (rfl)
@[simp] theorem State.setTb_pmu (s : State) (x : TimeBase) : (s.setTb x).pmu = s.pmu := (rfl)
@[simp] theorem State.setTb_touch (s : State) (x : TimeBase) : (s.setTb x).touch = s.touch := (rfl)
@[simp] theorem State.setTb_ras (s : State) (x : TimeBase) : (s.setTb x).ras = s.ras := (rfl)
@[simp] theorem State.setTb_mem (s : State) (x : TimeBase) : (s.setTb x).mem = s.mem := (rfl)
@[simp] theorem State.setTb_ladle (s : State) (x : TimeBase) : (s.setTb x).ladle = s.ladle := (rfl)
@[simp] theorem State.setTb_freeCtr (s : State) (x : TimeBase) : (s.setTb x).freeCtr = s.freeCtr := (rfl)
@[simp] theorem State.setTb_out (s : State) (x : TimeBase) : (s.setTb x).out = s.out := (rfl)
@[simp] theorem State.setTb_pending (s : State) (x : TimeBase) : (s.setTb x).pending = s.pending := (rfl)
@[simp] theorem State.setTb_reg (s : State) (x : TimeBase) (k : Nat) : (s.setTb x).reg k = s.reg k := (rfl)
@[simp] theorem State.setTb_get (s : State) (x : TimeBase) (g : Fld) : (s.setTb x).get g = s.get g := (rfl)
@[simp] theorem State.setTb_flag (s : State) (x : TimeBase) (g : Fld) : (s.setTb x).flag g = s.flag g := (rfl)
@[simp] theorem State.setTb_geti (s : State) (x : TimeBase) (g : Fld) : (s.setTb x).geti g = s.geti g := (rfl)
@[simp] theorem State.setTb_domOn (s : State) (x : TimeBase) (d : Nat) : (s.setTb x).domOn d = s.domOn d := (rfl)

/-! setHst -/

@[simp] theorem State.setHst_cfg (s : State) (x : HostIf) : (s.setHst x).cfg = s.cfg := (rfl)
@[simp] theorem State.setHst_pins (s : State) (x : HostIf) : (s.setHst x).pins = s.pins := (rfl)
@[simp] theorem State.setHst_regs (s : State) (x : HostIf) : (s.setHst x).regs = s.regs := (rfl)
@[simp] theorem State.setHst_tb (s : State) (x : HostIf) : (s.setHst x).tb = s.tb := (rfl)
@[simp] theorem State.setHst_hst (s : State) (x : HostIf) : (s.setHst x).hst = x := (rfl)
@[simp] theorem State.setHst_act (s : State) (x : HostIf) : (s.setHst x).act = s.act := (rfl)
@[simp] theorem State.setHst_late (s : State) (x : HostIf) : (s.setHst x).late = s.late := (rfl)
@[simp] theorem State.setHst_sw (s : State) (x : HostIf) : (s.setHst x).sw = s.sw := (rfl)
@[simp] theorem State.setHst_see (s : State) (x : HostIf) : (s.setHst x).see = s.see := (rfl)
@[simp] theorem State.setHst_jxl (s : State) (x : HostIf) : (s.setHst x).jxl = s.jxl := (rfl)
@[simp] theorem State.setHst_csi (s : State) (x : HostIf) : (s.setHst x).csi = s.csi := (rfl)
@[simp] theorem State.setHst_ppc (s : State) (x : HostIf) : (s.setHst x).ppc = s.ppc := (rfl)
@[simp] theorem State.setHst_ald (s : State) (x : HostIf) : (s.setHst x).ald = s.ald := (rfl)
@[simp] theorem State.setHst_gates (s : State) (x : HostIf) : (s.setHst x).gates = s.gates := (rfl)
@[simp] theorem State.setHst_fab (s : State) (x : HostIf) : (s.setHst x).fab = s.fab := (rfl)
@[simp] theorem State.setHst_tiles (s : State) (x : HostIf) : (s.setHst x).tiles = s.tiles := (rfl)
@[simp] theorem State.setHst_cimq (s : State) (x : HostIf) : (s.setHst x).cimq = s.cimq := (rfl)
@[simp] theorem State.setHst_sync (s : State) (x : HostIf) : (s.setHst x).sync = s.sync := (rfl)
@[simp] theorem State.setHst_fw (s : State) (x : HostIf) : (s.setHst x).fw = s.fw := (rfl)
@[simp] theorem State.setHst_pmu (s : State) (x : HostIf) : (s.setHst x).pmu = s.pmu := (rfl)
@[simp] theorem State.setHst_touch (s : State) (x : HostIf) : (s.setHst x).touch = s.touch := (rfl)
@[simp] theorem State.setHst_ras (s : State) (x : HostIf) : (s.setHst x).ras = s.ras := (rfl)
@[simp] theorem State.setHst_mem (s : State) (x : HostIf) : (s.setHst x).mem = s.mem := (rfl)
@[simp] theorem State.setHst_ladle (s : State) (x : HostIf) : (s.setHst x).ladle = s.ladle := (rfl)
@[simp] theorem State.setHst_freeCtr (s : State) (x : HostIf) : (s.setHst x).freeCtr = s.freeCtr := (rfl)
@[simp] theorem State.setHst_out (s : State) (x : HostIf) : (s.setHst x).out = s.out := (rfl)
@[simp] theorem State.setHst_pending (s : State) (x : HostIf) : (s.setHst x).pending = s.pending := (rfl)
@[simp] theorem State.setHst_reg (s : State) (x : HostIf) (k : Nat) : (s.setHst x).reg k = s.reg k := (rfl)
@[simp] theorem State.setHst_get (s : State) (x : HostIf) (g : Fld) : (s.setHst x).get g = s.get g := (rfl)
@[simp] theorem State.setHst_flag (s : State) (x : HostIf) (g : Fld) : (s.setHst x).flag g = s.flag g := (rfl)
@[simp] theorem State.setHst_geti (s : State) (x : HostIf) (g : Fld) : (s.setHst x).geti g = s.geti g := (rfl)
@[simp] theorem State.setHst_domOn (s : State) (x : HostIf) (d : Nat) : (s.setHst x).domOn d = s.domOn d := (rfl)

/-! setAct -/

@[simp] theorem State.setAct_cfg (s : State) (x : List (Nat × Word)) : (s.setAct x).cfg = s.cfg := (rfl)
@[simp] theorem State.setAct_pins (s : State) (x : List (Nat × Word)) : (s.setAct x).pins = s.pins := (rfl)
@[simp] theorem State.setAct_regs (s : State) (x : List (Nat × Word)) : (s.setAct x).regs = s.regs := (rfl)
@[simp] theorem State.setAct_tb (s : State) (x : List (Nat × Word)) : (s.setAct x).tb = s.tb := (rfl)
@[simp] theorem State.setAct_hst (s : State) (x : List (Nat × Word)) : (s.setAct x).hst = s.hst := (rfl)
@[simp] theorem State.setAct_act (s : State) (x : List (Nat × Word)) : (s.setAct x).act = x := (rfl)
@[simp] theorem State.setAct_late (s : State) (x : List (Nat × Word)) : (s.setAct x).late = s.late := (rfl)
@[simp] theorem State.setAct_sw (s : State) (x : List (Nat × Word)) : (s.setAct x).sw = s.sw := (rfl)
@[simp] theorem State.setAct_see (s : State) (x : List (Nat × Word)) : (s.setAct x).see = s.see := (rfl)
@[simp] theorem State.setAct_jxl (s : State) (x : List (Nat × Word)) : (s.setAct x).jxl = s.jxl := (rfl)
@[simp] theorem State.setAct_csi (s : State) (x : List (Nat × Word)) : (s.setAct x).csi = s.csi := (rfl)
@[simp] theorem State.setAct_ppc (s : State) (x : List (Nat × Word)) : (s.setAct x).ppc = s.ppc := (rfl)
@[simp] theorem State.setAct_ald (s : State) (x : List (Nat × Word)) : (s.setAct x).ald = s.ald := (rfl)
@[simp] theorem State.setAct_gates (s : State) (x : List (Nat × Word)) : (s.setAct x).gates = s.gates := (rfl)
@[simp] theorem State.setAct_fab (s : State) (x : List (Nat × Word)) : (s.setAct x).fab = s.fab := (rfl)
@[simp] theorem State.setAct_tiles (s : State) (x : List (Nat × Word)) : (s.setAct x).tiles = s.tiles := (rfl)
@[simp] theorem State.setAct_cimq (s : State) (x : List (Nat × Word)) : (s.setAct x).cimq = s.cimq := (rfl)
@[simp] theorem State.setAct_sync (s : State) (x : List (Nat × Word)) : (s.setAct x).sync = s.sync := (rfl)
@[simp] theorem State.setAct_fw (s : State) (x : List (Nat × Word)) : (s.setAct x).fw = s.fw := (rfl)
@[simp] theorem State.setAct_pmu (s : State) (x : List (Nat × Word)) : (s.setAct x).pmu = s.pmu := (rfl)
@[simp] theorem State.setAct_touch (s : State) (x : List (Nat × Word)) : (s.setAct x).touch = s.touch := (rfl)
@[simp] theorem State.setAct_ras (s : State) (x : List (Nat × Word)) : (s.setAct x).ras = s.ras := (rfl)
@[simp] theorem State.setAct_mem (s : State) (x : List (Nat × Word)) : (s.setAct x).mem = s.mem := (rfl)
@[simp] theorem State.setAct_ladle (s : State) (x : List (Nat × Word)) : (s.setAct x).ladle = s.ladle := (rfl)
@[simp] theorem State.setAct_freeCtr (s : State) (x : List (Nat × Word)) : (s.setAct x).freeCtr = s.freeCtr := (rfl)
@[simp] theorem State.setAct_out (s : State) (x : List (Nat × Word)) : (s.setAct x).out = s.out := (rfl)
@[simp] theorem State.setAct_pending (s : State) (x : List (Nat × Word)) : (s.setAct x).pending = s.pending := (rfl)
@[simp] theorem State.setAct_reg (s : State) (x : List (Nat × Word)) (k : Nat) : (s.setAct x).reg k = s.reg k := (rfl)
@[simp] theorem State.setAct_get (s : State) (x : List (Nat × Word)) (g : Fld) : (s.setAct x).get g = s.get g := (rfl)
@[simp] theorem State.setAct_flag (s : State) (x : List (Nat × Word)) (g : Fld) : (s.setAct x).flag g = s.flag g := (rfl)
@[simp] theorem State.setAct_geti (s : State) (x : List (Nat × Word)) (g : Fld) : (s.setAct x).geti g = s.geti g := (rfl)
@[simp] theorem State.setAct_domOn (s : State) (x : List (Nat × Word)) (d : Nat) : (s.setAct x).domOn d = s.domOn d := (rfl)

/-! setLate -/

@[simp] theorem State.setLate_cfg (s : State) (x : List (Fld × Nat)) : (s.setLate x).cfg = s.cfg := (rfl)
@[simp] theorem State.setLate_pins (s : State) (x : List (Fld × Nat)) : (s.setLate x).pins = s.pins := (rfl)
@[simp] theorem State.setLate_regs (s : State) (x : List (Fld × Nat)) : (s.setLate x).regs = s.regs := (rfl)
@[simp] theorem State.setLate_tb (s : State) (x : List (Fld × Nat)) : (s.setLate x).tb = s.tb := (rfl)
@[simp] theorem State.setLate_hst (s : State) (x : List (Fld × Nat)) : (s.setLate x).hst = s.hst := (rfl)
@[simp] theorem State.setLate_act (s : State) (x : List (Fld × Nat)) : (s.setLate x).act = s.act := (rfl)
@[simp] theorem State.setLate_late (s : State) (x : List (Fld × Nat)) : (s.setLate x).late = x := (rfl)
@[simp] theorem State.setLate_sw (s : State) (x : List (Fld × Nat)) : (s.setLate x).sw = s.sw := (rfl)
@[simp] theorem State.setLate_see (s : State) (x : List (Fld × Nat)) : (s.setLate x).see = s.see := (rfl)
@[simp] theorem State.setLate_jxl (s : State) (x : List (Fld × Nat)) : (s.setLate x).jxl = s.jxl := (rfl)
@[simp] theorem State.setLate_csi (s : State) (x : List (Fld × Nat)) : (s.setLate x).csi = s.csi := (rfl)
@[simp] theorem State.setLate_ppc (s : State) (x : List (Fld × Nat)) : (s.setLate x).ppc = s.ppc := (rfl)
@[simp] theorem State.setLate_ald (s : State) (x : List (Fld × Nat)) : (s.setLate x).ald = s.ald := (rfl)
@[simp] theorem State.setLate_gates (s : State) (x : List (Fld × Nat)) : (s.setLate x).gates = s.gates := (rfl)
@[simp] theorem State.setLate_fab (s : State) (x : List (Fld × Nat)) : (s.setLate x).fab = s.fab := (rfl)
@[simp] theorem State.setLate_tiles (s : State) (x : List (Fld × Nat)) : (s.setLate x).tiles = s.tiles := (rfl)
@[simp] theorem State.setLate_cimq (s : State) (x : List (Fld × Nat)) : (s.setLate x).cimq = s.cimq := (rfl)
@[simp] theorem State.setLate_sync (s : State) (x : List (Fld × Nat)) : (s.setLate x).sync = s.sync := (rfl)
@[simp] theorem State.setLate_fw (s : State) (x : List (Fld × Nat)) : (s.setLate x).fw = s.fw := (rfl)
@[simp] theorem State.setLate_pmu (s : State) (x : List (Fld × Nat)) : (s.setLate x).pmu = s.pmu := (rfl)
@[simp] theorem State.setLate_touch (s : State) (x : List (Fld × Nat)) : (s.setLate x).touch = s.touch := (rfl)
@[simp] theorem State.setLate_ras (s : State) (x : List (Fld × Nat)) : (s.setLate x).ras = s.ras := (rfl)
@[simp] theorem State.setLate_mem (s : State) (x : List (Fld × Nat)) : (s.setLate x).mem = s.mem := (rfl)
@[simp] theorem State.setLate_ladle (s : State) (x : List (Fld × Nat)) : (s.setLate x).ladle = s.ladle := (rfl)
@[simp] theorem State.setLate_freeCtr (s : State) (x : List (Fld × Nat)) : (s.setLate x).freeCtr = s.freeCtr := (rfl)
@[simp] theorem State.setLate_out (s : State) (x : List (Fld × Nat)) : (s.setLate x).out = s.out := (rfl)
@[simp] theorem State.setLate_pending (s : State) (x : List (Fld × Nat)) : (s.setLate x).pending = s.pending := (rfl)
@[simp] theorem State.setLate_reg (s : State) (x : List (Fld × Nat)) (k : Nat) : (s.setLate x).reg k = s.reg k := (rfl)
@[simp] theorem State.setLate_get (s : State) (x : List (Fld × Nat)) (g : Fld) : (s.setLate x).get g = s.get g := (rfl)
@[simp] theorem State.setLate_flag (s : State) (x : List (Fld × Nat)) (g : Fld) : (s.setLate x).flag g = s.flag g := (rfl)
@[simp] theorem State.setLate_geti (s : State) (x : List (Fld × Nat)) (g : Fld) : (s.setLate x).geti g = s.geti g := (rfl)
@[simp] theorem State.setLate_domOn (s : State) (x : List (Fld × Nat)) (d : Nat) : (s.setLate x).domOn d = s.domOn d := (rfl)

/-! setSw -/

@[simp] theorem State.setSw_cfg (s : State) (x : Switch) : (s.setSw x).cfg = s.cfg := (rfl)
@[simp] theorem State.setSw_pins (s : State) (x : Switch) : (s.setSw x).pins = s.pins := (rfl)
@[simp] theorem State.setSw_regs (s : State) (x : Switch) : (s.setSw x).regs = s.regs := (rfl)
@[simp] theorem State.setSw_tb (s : State) (x : Switch) : (s.setSw x).tb = s.tb := (rfl)
@[simp] theorem State.setSw_hst (s : State) (x : Switch) : (s.setSw x).hst = s.hst := (rfl)
@[simp] theorem State.setSw_act (s : State) (x : Switch) : (s.setSw x).act = s.act := (rfl)
@[simp] theorem State.setSw_late (s : State) (x : Switch) : (s.setSw x).late = s.late := (rfl)
@[simp] theorem State.setSw_sw (s : State) (x : Switch) : (s.setSw x).sw = x := (rfl)
@[simp] theorem State.setSw_see (s : State) (x : Switch) : (s.setSw x).see = s.see := (rfl)
@[simp] theorem State.setSw_jxl (s : State) (x : Switch) : (s.setSw x).jxl = s.jxl := (rfl)
@[simp] theorem State.setSw_csi (s : State) (x : Switch) : (s.setSw x).csi = s.csi := (rfl)
@[simp] theorem State.setSw_ppc (s : State) (x : Switch) : (s.setSw x).ppc = s.ppc := (rfl)
@[simp] theorem State.setSw_ald (s : State) (x : Switch) : (s.setSw x).ald = s.ald := (rfl)
@[simp] theorem State.setSw_gates (s : State) (x : Switch) : (s.setSw x).gates = s.gates := (rfl)
@[simp] theorem State.setSw_fab (s : State) (x : Switch) : (s.setSw x).fab = s.fab := (rfl)
@[simp] theorem State.setSw_tiles (s : State) (x : Switch) : (s.setSw x).tiles = s.tiles := (rfl)
@[simp] theorem State.setSw_cimq (s : State) (x : Switch) : (s.setSw x).cimq = s.cimq := (rfl)
@[simp] theorem State.setSw_sync (s : State) (x : Switch) : (s.setSw x).sync = s.sync := (rfl)
@[simp] theorem State.setSw_fw (s : State) (x : Switch) : (s.setSw x).fw = s.fw := (rfl)
@[simp] theorem State.setSw_pmu (s : State) (x : Switch) : (s.setSw x).pmu = s.pmu := (rfl)
@[simp] theorem State.setSw_touch (s : State) (x : Switch) : (s.setSw x).touch = s.touch := (rfl)
@[simp] theorem State.setSw_ras (s : State) (x : Switch) : (s.setSw x).ras = s.ras := (rfl)
@[simp] theorem State.setSw_mem (s : State) (x : Switch) : (s.setSw x).mem = s.mem := (rfl)
@[simp] theorem State.setSw_ladle (s : State) (x : Switch) : (s.setSw x).ladle = s.ladle := (rfl)
@[simp] theorem State.setSw_freeCtr (s : State) (x : Switch) : (s.setSw x).freeCtr = s.freeCtr := (rfl)
@[simp] theorem State.setSw_out (s : State) (x : Switch) : (s.setSw x).out = s.out := (rfl)
@[simp] theorem State.setSw_pending (s : State) (x : Switch) : (s.setSw x).pending = s.pending := (rfl)
@[simp] theorem State.setSw_reg (s : State) (x : Switch) (k : Nat) : (s.setSw x).reg k = s.reg k := (rfl)
@[simp] theorem State.setSw_get (s : State) (x : Switch) (g : Fld) : (s.setSw x).get g = s.get g := (rfl)
@[simp] theorem State.setSw_flag (s : State) (x : Switch) (g : Fld) : (s.setSw x).flag g = s.flag g := (rfl)
@[simp] theorem State.setSw_geti (s : State) (x : Switch) (g : Fld) : (s.setSw x).geti g = s.geti g := (rfl)
@[simp] theorem State.setSw_domOn (s : State) (x : Switch) (d : Nat) : (s.setSw x).domOn d = s.domOn d := (rfl)

/-! setSee -/

@[simp] theorem State.setSee_cfg (s : State) (x : Encoder) : (s.setSee x).cfg = s.cfg := (rfl)
@[simp] theorem State.setSee_pins (s : State) (x : Encoder) : (s.setSee x).pins = s.pins := (rfl)
@[simp] theorem State.setSee_regs (s : State) (x : Encoder) : (s.setSee x).regs = s.regs := (rfl)
@[simp] theorem State.setSee_tb (s : State) (x : Encoder) : (s.setSee x).tb = s.tb := (rfl)
@[simp] theorem State.setSee_hst (s : State) (x : Encoder) : (s.setSee x).hst = s.hst := (rfl)
@[simp] theorem State.setSee_act (s : State) (x : Encoder) : (s.setSee x).act = s.act := (rfl)
@[simp] theorem State.setSee_late (s : State) (x : Encoder) : (s.setSee x).late = s.late := (rfl)
@[simp] theorem State.setSee_sw (s : State) (x : Encoder) : (s.setSee x).sw = s.sw := (rfl)
@[simp] theorem State.setSee_see (s : State) (x : Encoder) : (s.setSee x).see = x := (rfl)
@[simp] theorem State.setSee_jxl (s : State) (x : Encoder) : (s.setSee x).jxl = s.jxl := (rfl)
@[simp] theorem State.setSee_csi (s : State) (x : Encoder) : (s.setSee x).csi = s.csi := (rfl)
@[simp] theorem State.setSee_ppc (s : State) (x : Encoder) : (s.setSee x).ppc = s.ppc := (rfl)
@[simp] theorem State.setSee_ald (s : State) (x : Encoder) : (s.setSee x).ald = s.ald := (rfl)
@[simp] theorem State.setSee_gates (s : State) (x : Encoder) : (s.setSee x).gates = s.gates := (rfl)
@[simp] theorem State.setSee_fab (s : State) (x : Encoder) : (s.setSee x).fab = s.fab := (rfl)
@[simp] theorem State.setSee_tiles (s : State) (x : Encoder) : (s.setSee x).tiles = s.tiles := (rfl)
@[simp] theorem State.setSee_cimq (s : State) (x : Encoder) : (s.setSee x).cimq = s.cimq := (rfl)
@[simp] theorem State.setSee_sync (s : State) (x : Encoder) : (s.setSee x).sync = s.sync := (rfl)
@[simp] theorem State.setSee_fw (s : State) (x : Encoder) : (s.setSee x).fw = s.fw := (rfl)
@[simp] theorem State.setSee_pmu (s : State) (x : Encoder) : (s.setSee x).pmu = s.pmu := (rfl)
@[simp] theorem State.setSee_touch (s : State) (x : Encoder) : (s.setSee x).touch = s.touch := (rfl)
@[simp] theorem State.setSee_ras (s : State) (x : Encoder) : (s.setSee x).ras = s.ras := (rfl)
@[simp] theorem State.setSee_mem (s : State) (x : Encoder) : (s.setSee x).mem = s.mem := (rfl)
@[simp] theorem State.setSee_ladle (s : State) (x : Encoder) : (s.setSee x).ladle = s.ladle := (rfl)
@[simp] theorem State.setSee_freeCtr (s : State) (x : Encoder) : (s.setSee x).freeCtr = s.freeCtr := (rfl)
@[simp] theorem State.setSee_out (s : State) (x : Encoder) : (s.setSee x).out = s.out := (rfl)
@[simp] theorem State.setSee_pending (s : State) (x : Encoder) : (s.setSee x).pending = s.pending := (rfl)
@[simp] theorem State.setSee_reg (s : State) (x : Encoder) (k : Nat) : (s.setSee x).reg k = s.reg k := (rfl)
@[simp] theorem State.setSee_get (s : State) (x : Encoder) (g : Fld) : (s.setSee x).get g = s.get g := (rfl)
@[simp] theorem State.setSee_flag (s : State) (x : Encoder) (g : Fld) : (s.setSee x).flag g = s.flag g := (rfl)
@[simp] theorem State.setSee_geti (s : State) (x : Encoder) (g : Fld) : (s.setSee x).geti g = s.geti g := (rfl)
@[simp] theorem State.setSee_domOn (s : State) (x : Encoder) (d : Nat) : (s.setSee x).domOn d = s.domOn d := (rfl)

/-! setJxl -/

@[simp] theorem State.setJxl_cfg (s : State) (x : List JPort) : (s.setJxl x).cfg = s.cfg := (rfl)
@[simp] theorem State.setJxl_pins (s : State) (x : List JPort) : (s.setJxl x).pins = s.pins := (rfl)
@[simp] theorem State.setJxl_regs (s : State) (x : List JPort) : (s.setJxl x).regs = s.regs := (rfl)
@[simp] theorem State.setJxl_tb (s : State) (x : List JPort) : (s.setJxl x).tb = s.tb := (rfl)
@[simp] theorem State.setJxl_hst (s : State) (x : List JPort) : (s.setJxl x).hst = s.hst := (rfl)
@[simp] theorem State.setJxl_act (s : State) (x : List JPort) : (s.setJxl x).act = s.act := (rfl)
@[simp] theorem State.setJxl_late (s : State) (x : List JPort) : (s.setJxl x).late = s.late := (rfl)
@[simp] theorem State.setJxl_sw (s : State) (x : List JPort) : (s.setJxl x).sw = s.sw := (rfl)
@[simp] theorem State.setJxl_see (s : State) (x : List JPort) : (s.setJxl x).see = s.see := (rfl)
@[simp] theorem State.setJxl_jxl (s : State) (x : List JPort) : (s.setJxl x).jxl = x := (rfl)
@[simp] theorem State.setJxl_csi (s : State) (x : List JPort) : (s.setJxl x).csi = s.csi := (rfl)
@[simp] theorem State.setJxl_ppc (s : State) (x : List JPort) : (s.setJxl x).ppc = s.ppc := (rfl)
@[simp] theorem State.setJxl_ald (s : State) (x : List JPort) : (s.setJxl x).ald = s.ald := (rfl)
@[simp] theorem State.setJxl_gates (s : State) (x : List JPort) : (s.setJxl x).gates = s.gates := (rfl)
@[simp] theorem State.setJxl_fab (s : State) (x : List JPort) : (s.setJxl x).fab = s.fab := (rfl)
@[simp] theorem State.setJxl_tiles (s : State) (x : List JPort) : (s.setJxl x).tiles = s.tiles := (rfl)
@[simp] theorem State.setJxl_cimq (s : State) (x : List JPort) : (s.setJxl x).cimq = s.cimq := (rfl)
@[simp] theorem State.setJxl_sync (s : State) (x : List JPort) : (s.setJxl x).sync = s.sync := (rfl)
@[simp] theorem State.setJxl_fw (s : State) (x : List JPort) : (s.setJxl x).fw = s.fw := (rfl)
@[simp] theorem State.setJxl_pmu (s : State) (x : List JPort) : (s.setJxl x).pmu = s.pmu := (rfl)
@[simp] theorem State.setJxl_touch (s : State) (x : List JPort) : (s.setJxl x).touch = s.touch := (rfl)
@[simp] theorem State.setJxl_ras (s : State) (x : List JPort) : (s.setJxl x).ras = s.ras := (rfl)
@[simp] theorem State.setJxl_mem (s : State) (x : List JPort) : (s.setJxl x).mem = s.mem := (rfl)
@[simp] theorem State.setJxl_ladle (s : State) (x : List JPort) : (s.setJxl x).ladle = s.ladle := (rfl)
@[simp] theorem State.setJxl_freeCtr (s : State) (x : List JPort) : (s.setJxl x).freeCtr = s.freeCtr := (rfl)
@[simp] theorem State.setJxl_out (s : State) (x : List JPort) : (s.setJxl x).out = s.out := (rfl)
@[simp] theorem State.setJxl_pending (s : State) (x : List JPort) : (s.setJxl x).pending = s.pending := (rfl)
@[simp] theorem State.setJxl_reg (s : State) (x : List JPort) (k : Nat) : (s.setJxl x).reg k = s.reg k := (rfl)
@[simp] theorem State.setJxl_get (s : State) (x : List JPort) (g : Fld) : (s.setJxl x).get g = s.get g := (rfl)
@[simp] theorem State.setJxl_flag (s : State) (x : List JPort) (g : Fld) : (s.setJxl x).flag g = s.flag g := (rfl)
@[simp] theorem State.setJxl_geti (s : State) (x : List JPort) (g : Fld) : (s.setJxl x).geti g = s.geti g := (rfl)
@[simp] theorem State.setJxl_domOn (s : State) (x : List JPort) (d : Nat) : (s.setJxl x).domOn d = s.domOn d := (rfl)

/-! setCsi -/

@[simp] theorem State.setCsi_cfg (s : State) (x : List CsiPort) : (s.setCsi x).cfg = s.cfg := (rfl)
@[simp] theorem State.setCsi_pins (s : State) (x : List CsiPort) : (s.setCsi x).pins = s.pins := (rfl)
@[simp] theorem State.setCsi_regs (s : State) (x : List CsiPort) : (s.setCsi x).regs = s.regs := (rfl)
@[simp] theorem State.setCsi_tb (s : State) (x : List CsiPort) : (s.setCsi x).tb = s.tb := (rfl)
@[simp] theorem State.setCsi_hst (s : State) (x : List CsiPort) : (s.setCsi x).hst = s.hst := (rfl)
@[simp] theorem State.setCsi_act (s : State) (x : List CsiPort) : (s.setCsi x).act = s.act := (rfl)
@[simp] theorem State.setCsi_late (s : State) (x : List CsiPort) : (s.setCsi x).late = s.late := (rfl)
@[simp] theorem State.setCsi_sw (s : State) (x : List CsiPort) : (s.setCsi x).sw = s.sw := (rfl)
@[simp] theorem State.setCsi_see (s : State) (x : List CsiPort) : (s.setCsi x).see = s.see := (rfl)
@[simp] theorem State.setCsi_jxl (s : State) (x : List CsiPort) : (s.setCsi x).jxl = s.jxl := (rfl)
@[simp] theorem State.setCsi_csi (s : State) (x : List CsiPort) : (s.setCsi x).csi = x := (rfl)
@[simp] theorem State.setCsi_ppc (s : State) (x : List CsiPort) : (s.setCsi x).ppc = s.ppc := (rfl)
@[simp] theorem State.setCsi_ald (s : State) (x : List CsiPort) : (s.setCsi x).ald = s.ald := (rfl)
@[simp] theorem State.setCsi_gates (s : State) (x : List CsiPort) : (s.setCsi x).gates = s.gates := (rfl)
@[simp] theorem State.setCsi_fab (s : State) (x : List CsiPort) : (s.setCsi x).fab = s.fab := (rfl)
@[simp] theorem State.setCsi_tiles (s : State) (x : List CsiPort) : (s.setCsi x).tiles = s.tiles := (rfl)
@[simp] theorem State.setCsi_cimq (s : State) (x : List CsiPort) : (s.setCsi x).cimq = s.cimq := (rfl)
@[simp] theorem State.setCsi_sync (s : State) (x : List CsiPort) : (s.setCsi x).sync = s.sync := (rfl)
@[simp] theorem State.setCsi_fw (s : State) (x : List CsiPort) : (s.setCsi x).fw = s.fw := (rfl)
@[simp] theorem State.setCsi_pmu (s : State) (x : List CsiPort) : (s.setCsi x).pmu = s.pmu := (rfl)
@[simp] theorem State.setCsi_touch (s : State) (x : List CsiPort) : (s.setCsi x).touch = s.touch := (rfl)
@[simp] theorem State.setCsi_ras (s : State) (x : List CsiPort) : (s.setCsi x).ras = s.ras := (rfl)
@[simp] theorem State.setCsi_mem (s : State) (x : List CsiPort) : (s.setCsi x).mem = s.mem := (rfl)
@[simp] theorem State.setCsi_ladle (s : State) (x : List CsiPort) : (s.setCsi x).ladle = s.ladle := (rfl)
@[simp] theorem State.setCsi_freeCtr (s : State) (x : List CsiPort) : (s.setCsi x).freeCtr = s.freeCtr := (rfl)
@[simp] theorem State.setCsi_out (s : State) (x : List CsiPort) : (s.setCsi x).out = s.out := (rfl)
@[simp] theorem State.setCsi_pending (s : State) (x : List CsiPort) : (s.setCsi x).pending = s.pending := (rfl)
@[simp] theorem State.setCsi_reg (s : State) (x : List CsiPort) (k : Nat) : (s.setCsi x).reg k = s.reg k := (rfl)
@[simp] theorem State.setCsi_get (s : State) (x : List CsiPort) (g : Fld) : (s.setCsi x).get g = s.get g := (rfl)
@[simp] theorem State.setCsi_flag (s : State) (x : List CsiPort) (g : Fld) : (s.setCsi x).flag g = s.flag g := (rfl)
@[simp] theorem State.setCsi_geti (s : State) (x : List CsiPort) (g : Fld) : (s.setCsi x).geti g = s.geti g := (rfl)
@[simp] theorem State.setCsi_domOn (s : State) (x : List CsiPort) (d : Nat) : (s.setCsi x).domOn d = s.domOn d := (rfl)

/-! setPpc -/

@[simp] theorem State.setPpc_cfg (s : State) (x : List Chan) : (s.setPpc x).cfg = s.cfg := (rfl)
@[simp] theorem State.setPpc_pins (s : State) (x : List Chan) : (s.setPpc x).pins = s.pins := (rfl)
@[simp] theorem State.setPpc_regs (s : State) (x : List Chan) : (s.setPpc x).regs = s.regs := (rfl)
@[simp] theorem State.setPpc_tb (s : State) (x : List Chan) : (s.setPpc x).tb = s.tb := (rfl)
@[simp] theorem State.setPpc_hst (s : State) (x : List Chan) : (s.setPpc x).hst = s.hst := (rfl)
@[simp] theorem State.setPpc_act (s : State) (x : List Chan) : (s.setPpc x).act = s.act := (rfl)
@[simp] theorem State.setPpc_late (s : State) (x : List Chan) : (s.setPpc x).late = s.late := (rfl)
@[simp] theorem State.setPpc_sw (s : State) (x : List Chan) : (s.setPpc x).sw = s.sw := (rfl)
@[simp] theorem State.setPpc_see (s : State) (x : List Chan) : (s.setPpc x).see = s.see := (rfl)
@[simp] theorem State.setPpc_jxl (s : State) (x : List Chan) : (s.setPpc x).jxl = s.jxl := (rfl)
@[simp] theorem State.setPpc_csi (s : State) (x : List Chan) : (s.setPpc x).csi = s.csi := (rfl)
@[simp] theorem State.setPpc_ppc (s : State) (x : List Chan) : (s.setPpc x).ppc = x := (rfl)
@[simp] theorem State.setPpc_ald (s : State) (x : List Chan) : (s.setPpc x).ald = s.ald := (rfl)
@[simp] theorem State.setPpc_gates (s : State) (x : List Chan) : (s.setPpc x).gates = s.gates := (rfl)
@[simp] theorem State.setPpc_fab (s : State) (x : List Chan) : (s.setPpc x).fab = s.fab := (rfl)
@[simp] theorem State.setPpc_tiles (s : State) (x : List Chan) : (s.setPpc x).tiles = s.tiles := (rfl)
@[simp] theorem State.setPpc_cimq (s : State) (x : List Chan) : (s.setPpc x).cimq = s.cimq := (rfl)
@[simp] theorem State.setPpc_sync (s : State) (x : List Chan) : (s.setPpc x).sync = s.sync := (rfl)
@[simp] theorem State.setPpc_fw (s : State) (x : List Chan) : (s.setPpc x).fw = s.fw := (rfl)
@[simp] theorem State.setPpc_pmu (s : State) (x : List Chan) : (s.setPpc x).pmu = s.pmu := (rfl)
@[simp] theorem State.setPpc_touch (s : State) (x : List Chan) : (s.setPpc x).touch = s.touch := (rfl)
@[simp] theorem State.setPpc_ras (s : State) (x : List Chan) : (s.setPpc x).ras = s.ras := (rfl)
@[simp] theorem State.setPpc_mem (s : State) (x : List Chan) : (s.setPpc x).mem = s.mem := (rfl)
@[simp] theorem State.setPpc_ladle (s : State) (x : List Chan) : (s.setPpc x).ladle = s.ladle := (rfl)
@[simp] theorem State.setPpc_freeCtr (s : State) (x : List Chan) : (s.setPpc x).freeCtr = s.freeCtr := (rfl)
@[simp] theorem State.setPpc_out (s : State) (x : List Chan) : (s.setPpc x).out = s.out := (rfl)
@[simp] theorem State.setPpc_pending (s : State) (x : List Chan) : (s.setPpc x).pending = s.pending := (rfl)
@[simp] theorem State.setPpc_reg (s : State) (x : List Chan) (k : Nat) : (s.setPpc x).reg k = s.reg k := (rfl)
@[simp] theorem State.setPpc_get (s : State) (x : List Chan) (g : Fld) : (s.setPpc x).get g = s.get g := (rfl)
@[simp] theorem State.setPpc_flag (s : State) (x : List Chan) (g : Fld) : (s.setPpc x).flag g = s.flag g := (rfl)
@[simp] theorem State.setPpc_geti (s : State) (x : List Chan) (g : Fld) : (s.setPpc x).geti g = s.geti g := (rfl)
@[simp] theorem State.setPpc_domOn (s : State) (x : List Chan) (d : Nat) : (s.setPpc x).domOn d = s.domOn d := (rfl)

/-! setAld -/

@[simp] theorem State.setAld_cfg (s : State) (x : Ald) : (s.setAld x).cfg = s.cfg := (rfl)
@[simp] theorem State.setAld_pins (s : State) (x : Ald) : (s.setAld x).pins = s.pins := (rfl)
@[simp] theorem State.setAld_regs (s : State) (x : Ald) : (s.setAld x).regs = s.regs := (rfl)
@[simp] theorem State.setAld_tb (s : State) (x : Ald) : (s.setAld x).tb = s.tb := (rfl)
@[simp] theorem State.setAld_hst (s : State) (x : Ald) : (s.setAld x).hst = s.hst := (rfl)
@[simp] theorem State.setAld_act (s : State) (x : Ald) : (s.setAld x).act = s.act := (rfl)
@[simp] theorem State.setAld_late (s : State) (x : Ald) : (s.setAld x).late = s.late := (rfl)
@[simp] theorem State.setAld_sw (s : State) (x : Ald) : (s.setAld x).sw = s.sw := (rfl)
@[simp] theorem State.setAld_see (s : State) (x : Ald) : (s.setAld x).see = s.see := (rfl)
@[simp] theorem State.setAld_jxl (s : State) (x : Ald) : (s.setAld x).jxl = s.jxl := (rfl)
@[simp] theorem State.setAld_csi (s : State) (x : Ald) : (s.setAld x).csi = s.csi := (rfl)
@[simp] theorem State.setAld_ppc (s : State) (x : Ald) : (s.setAld x).ppc = s.ppc := (rfl)
@[simp] theorem State.setAld_ald (s : State) (x : Ald) : (s.setAld x).ald = x := (rfl)
@[simp] theorem State.setAld_gates (s : State) (x : Ald) : (s.setAld x).gates = s.gates := (rfl)
@[simp] theorem State.setAld_fab (s : State) (x : Ald) : (s.setAld x).fab = s.fab := (rfl)
@[simp] theorem State.setAld_tiles (s : State) (x : Ald) : (s.setAld x).tiles = s.tiles := (rfl)
@[simp] theorem State.setAld_cimq (s : State) (x : Ald) : (s.setAld x).cimq = s.cimq := (rfl)
@[simp] theorem State.setAld_sync (s : State) (x : Ald) : (s.setAld x).sync = s.sync := (rfl)
@[simp] theorem State.setAld_fw (s : State) (x : Ald) : (s.setAld x).fw = s.fw := (rfl)
@[simp] theorem State.setAld_pmu (s : State) (x : Ald) : (s.setAld x).pmu = s.pmu := (rfl)
@[simp] theorem State.setAld_touch (s : State) (x : Ald) : (s.setAld x).touch = s.touch := (rfl)
@[simp] theorem State.setAld_ras (s : State) (x : Ald) : (s.setAld x).ras = s.ras := (rfl)
@[simp] theorem State.setAld_mem (s : State) (x : Ald) : (s.setAld x).mem = s.mem := (rfl)
@[simp] theorem State.setAld_ladle (s : State) (x : Ald) : (s.setAld x).ladle = s.ladle := (rfl)
@[simp] theorem State.setAld_freeCtr (s : State) (x : Ald) : (s.setAld x).freeCtr = s.freeCtr := (rfl)
@[simp] theorem State.setAld_out (s : State) (x : Ald) : (s.setAld x).out = s.out := (rfl)
@[simp] theorem State.setAld_pending (s : State) (x : Ald) : (s.setAld x).pending = s.pending := (rfl)
@[simp] theorem State.setAld_reg (s : State) (x : Ald) (k : Nat) : (s.setAld x).reg k = s.reg k := (rfl)
@[simp] theorem State.setAld_get (s : State) (x : Ald) (g : Fld) : (s.setAld x).get g = s.get g := (rfl)
@[simp] theorem State.setAld_flag (s : State) (x : Ald) (g : Fld) : (s.setAld x).flag g = s.flag g := (rfl)
@[simp] theorem State.setAld_geti (s : State) (x : Ald) (g : Fld) : (s.setAld x).geti g = s.geti g := (rfl)
@[simp] theorem State.setAld_domOn (s : State) (x : Ald) (d : Nat) : (s.setAld x).domOn d = s.domOn d := (rfl)

/-! setGates -/

@[simp] theorem State.setGates_cfg (s : State) (x : List Gate) : (s.setGates x).cfg = s.cfg := (rfl)
@[simp] theorem State.setGates_pins (s : State) (x : List Gate) : (s.setGates x).pins = s.pins := (rfl)
@[simp] theorem State.setGates_regs (s : State) (x : List Gate) : (s.setGates x).regs = s.regs := (rfl)
@[simp] theorem State.setGates_tb (s : State) (x : List Gate) : (s.setGates x).tb = s.tb := (rfl)
@[simp] theorem State.setGates_hst (s : State) (x : List Gate) : (s.setGates x).hst = s.hst := (rfl)
@[simp] theorem State.setGates_act (s : State) (x : List Gate) : (s.setGates x).act = s.act := (rfl)
@[simp] theorem State.setGates_late (s : State) (x : List Gate) : (s.setGates x).late = s.late := (rfl)
@[simp] theorem State.setGates_sw (s : State) (x : List Gate) : (s.setGates x).sw = s.sw := (rfl)
@[simp] theorem State.setGates_see (s : State) (x : List Gate) : (s.setGates x).see = s.see := (rfl)
@[simp] theorem State.setGates_jxl (s : State) (x : List Gate) : (s.setGates x).jxl = s.jxl := (rfl)
@[simp] theorem State.setGates_csi (s : State) (x : List Gate) : (s.setGates x).csi = s.csi := (rfl)
@[simp] theorem State.setGates_ppc (s : State) (x : List Gate) : (s.setGates x).ppc = s.ppc := (rfl)
@[simp] theorem State.setGates_ald (s : State) (x : List Gate) : (s.setGates x).ald = s.ald := (rfl)
@[simp] theorem State.setGates_gates (s : State) (x : List Gate) : (s.setGates x).gates = x := (rfl)
@[simp] theorem State.setGates_fab (s : State) (x : List Gate) : (s.setGates x).fab = s.fab := (rfl)
@[simp] theorem State.setGates_tiles (s : State) (x : List Gate) : (s.setGates x).tiles = s.tiles := (rfl)
@[simp] theorem State.setGates_cimq (s : State) (x : List Gate) : (s.setGates x).cimq = s.cimq := (rfl)
@[simp] theorem State.setGates_sync (s : State) (x : List Gate) : (s.setGates x).sync = s.sync := (rfl)
@[simp] theorem State.setGates_fw (s : State) (x : List Gate) : (s.setGates x).fw = s.fw := (rfl)
@[simp] theorem State.setGates_pmu (s : State) (x : List Gate) : (s.setGates x).pmu = s.pmu := (rfl)
@[simp] theorem State.setGates_touch (s : State) (x : List Gate) : (s.setGates x).touch = s.touch := (rfl)
@[simp] theorem State.setGates_ras (s : State) (x : List Gate) : (s.setGates x).ras = s.ras := (rfl)
@[simp] theorem State.setGates_mem (s : State) (x : List Gate) : (s.setGates x).mem = s.mem := (rfl)
@[simp] theorem State.setGates_ladle (s : State) (x : List Gate) : (s.setGates x).ladle = s.ladle := (rfl)
@[simp] theorem State.setGates_freeCtr (s : State) (x : List Gate) : (s.setGates x).freeCtr = s.freeCtr := (rfl)
@[simp] theorem State.setGates_out (s : State) (x : List Gate) : (s.setGates x).out = s.out := (rfl)
@[simp] theorem State.setGates_pending (s : State) (x : List Gate) : (s.setGates x).pending = s.pending := (rfl)
@[simp] theorem State.setGates_reg (s : State) (x : List Gate) (k : Nat) : (s.setGates x).reg k = s.reg k := (rfl)
@[simp] theorem State.setGates_get (s : State) (x : List Gate) (g : Fld) : (s.setGates x).get g = s.get g := (rfl)
@[simp] theorem State.setGates_flag (s : State) (x : List Gate) (g : Fld) : (s.setGates x).flag g = s.flag g := (rfl)
@[simp] theorem State.setGates_geti (s : State) (x : List Gate) (g : Fld) : (s.setGates x).geti g = s.geti g := (rfl)
@[simp] theorem State.setGates_domOn (s : State) (x : List Gate) (d : Nat) : (s.setGates x).domOn d = s.domOn d := (rfl)

/-! setFab -/

@[simp] theorem State.setFab_cfg (s : State) (x : Fabric) : (s.setFab x).cfg = s.cfg := (rfl)
@[simp] theorem State.setFab_pins (s : State) (x : Fabric) : (s.setFab x).pins = s.pins := (rfl)
@[simp] theorem State.setFab_regs (s : State) (x : Fabric) : (s.setFab x).regs = s.regs := (rfl)
@[simp] theorem State.setFab_tb (s : State) (x : Fabric) : (s.setFab x).tb = s.tb := (rfl)
@[simp] theorem State.setFab_hst (s : State) (x : Fabric) : (s.setFab x).hst = s.hst := (rfl)
@[simp] theorem State.setFab_act (s : State) (x : Fabric) : (s.setFab x).act = s.act := (rfl)
@[simp] theorem State.setFab_late (s : State) (x : Fabric) : (s.setFab x).late = s.late := (rfl)
@[simp] theorem State.setFab_sw (s : State) (x : Fabric) : (s.setFab x).sw = s.sw := (rfl)
@[simp] theorem State.setFab_see (s : State) (x : Fabric) : (s.setFab x).see = s.see := (rfl)
@[simp] theorem State.setFab_jxl (s : State) (x : Fabric) : (s.setFab x).jxl = s.jxl := (rfl)
@[simp] theorem State.setFab_csi (s : State) (x : Fabric) : (s.setFab x).csi = s.csi := (rfl)
@[simp] theorem State.setFab_ppc (s : State) (x : Fabric) : (s.setFab x).ppc = s.ppc := (rfl)
@[simp] theorem State.setFab_ald (s : State) (x : Fabric) : (s.setFab x).ald = s.ald := (rfl)
@[simp] theorem State.setFab_gates (s : State) (x : Fabric) : (s.setFab x).gates = s.gates := (rfl)
@[simp] theorem State.setFab_fab (s : State) (x : Fabric) : (s.setFab x).fab = x := (rfl)
@[simp] theorem State.setFab_tiles (s : State) (x : Fabric) : (s.setFab x).tiles = s.tiles := (rfl)
@[simp] theorem State.setFab_cimq (s : State) (x : Fabric) : (s.setFab x).cimq = s.cimq := (rfl)
@[simp] theorem State.setFab_sync (s : State) (x : Fabric) : (s.setFab x).sync = s.sync := (rfl)
@[simp] theorem State.setFab_fw (s : State) (x : Fabric) : (s.setFab x).fw = s.fw := (rfl)
@[simp] theorem State.setFab_pmu (s : State) (x : Fabric) : (s.setFab x).pmu = s.pmu := (rfl)
@[simp] theorem State.setFab_touch (s : State) (x : Fabric) : (s.setFab x).touch = s.touch := (rfl)
@[simp] theorem State.setFab_ras (s : State) (x : Fabric) : (s.setFab x).ras = s.ras := (rfl)
@[simp] theorem State.setFab_mem (s : State) (x : Fabric) : (s.setFab x).mem = s.mem := (rfl)
@[simp] theorem State.setFab_ladle (s : State) (x : Fabric) : (s.setFab x).ladle = s.ladle := (rfl)
@[simp] theorem State.setFab_freeCtr (s : State) (x : Fabric) : (s.setFab x).freeCtr = s.freeCtr := (rfl)
@[simp] theorem State.setFab_out (s : State) (x : Fabric) : (s.setFab x).out = s.out := (rfl)
@[simp] theorem State.setFab_pending (s : State) (x : Fabric) : (s.setFab x).pending = s.pending := (rfl)
@[simp] theorem State.setFab_reg (s : State) (x : Fabric) (k : Nat) : (s.setFab x).reg k = s.reg k := (rfl)
@[simp] theorem State.setFab_get (s : State) (x : Fabric) (g : Fld) : (s.setFab x).get g = s.get g := (rfl)
@[simp] theorem State.setFab_flag (s : State) (x : Fabric) (g : Fld) : (s.setFab x).flag g = s.flag g := (rfl)
@[simp] theorem State.setFab_geti (s : State) (x : Fabric) (g : Fld) : (s.setFab x).geti g = s.geti g := (rfl)
@[simp] theorem State.setFab_domOn (s : State) (x : Fabric) (d : Nat) : (s.setFab x).domOn d = s.domOn d := (rfl)

/-! setTiles -/

@[simp] theorem State.setTiles_cfg (s : State) (x : List Tile) : (s.setTiles x).cfg = s.cfg := (rfl)
@[simp] theorem State.setTiles_pins (s : State) (x : List Tile) : (s.setTiles x).pins = s.pins := (rfl)
@[simp] theorem State.setTiles_regs (s : State) (x : List Tile) : (s.setTiles x).regs = s.regs := (rfl)
@[simp] theorem State.setTiles_tb (s : State) (x : List Tile) : (s.setTiles x).tb = s.tb := (rfl)
@[simp] theorem State.setTiles_hst (s : State) (x : List Tile) : (s.setTiles x).hst = s.hst := (rfl)
@[simp] theorem State.setTiles_act (s : State) (x : List Tile) : (s.setTiles x).act = s.act := (rfl)
@[simp] theorem State.setTiles_late (s : State) (x : List Tile) : (s.setTiles x).late = s.late := (rfl)
@[simp] theorem State.setTiles_sw (s : State) (x : List Tile) : (s.setTiles x).sw = s.sw := (rfl)
@[simp] theorem State.setTiles_see (s : State) (x : List Tile) : (s.setTiles x).see = s.see := (rfl)
@[simp] theorem State.setTiles_jxl (s : State) (x : List Tile) : (s.setTiles x).jxl = s.jxl := (rfl)
@[simp] theorem State.setTiles_csi (s : State) (x : List Tile) : (s.setTiles x).csi = s.csi := (rfl)
@[simp] theorem State.setTiles_ppc (s : State) (x : List Tile) : (s.setTiles x).ppc = s.ppc := (rfl)
@[simp] theorem State.setTiles_ald (s : State) (x : List Tile) : (s.setTiles x).ald = s.ald := (rfl)
@[simp] theorem State.setTiles_gates (s : State) (x : List Tile) : (s.setTiles x).gates = s.gates := (rfl)
@[simp] theorem State.setTiles_fab (s : State) (x : List Tile) : (s.setTiles x).fab = s.fab := (rfl)
@[simp] theorem State.setTiles_tiles (s : State) (x : List Tile) : (s.setTiles x).tiles = x := (rfl)
@[simp] theorem State.setTiles_cimq (s : State) (x : List Tile) : (s.setTiles x).cimq = s.cimq := (rfl)
@[simp] theorem State.setTiles_sync (s : State) (x : List Tile) : (s.setTiles x).sync = s.sync := (rfl)
@[simp] theorem State.setTiles_fw (s : State) (x : List Tile) : (s.setTiles x).fw = s.fw := (rfl)
@[simp] theorem State.setTiles_pmu (s : State) (x : List Tile) : (s.setTiles x).pmu = s.pmu := (rfl)
@[simp] theorem State.setTiles_touch (s : State) (x : List Tile) : (s.setTiles x).touch = s.touch := (rfl)
@[simp] theorem State.setTiles_ras (s : State) (x : List Tile) : (s.setTiles x).ras = s.ras := (rfl)
@[simp] theorem State.setTiles_mem (s : State) (x : List Tile) : (s.setTiles x).mem = s.mem := (rfl)
@[simp] theorem State.setTiles_ladle (s : State) (x : List Tile) : (s.setTiles x).ladle = s.ladle := (rfl)
@[simp] theorem State.setTiles_freeCtr (s : State) (x : List Tile) : (s.setTiles x).freeCtr = s.freeCtr := (rfl)
@[simp] theorem State.setTiles_out (s : State) (x : List Tile) : (s.setTiles x).out = s.out := (rfl)
@[simp] theorem State.setTiles_pending (s : State) (x : List Tile) : (s.setTiles x).pending = s.pending := (rfl)
@[simp] theorem State.setTiles_reg (s : State) (x : List Tile) (k : Nat) : (s.setTiles x).reg k = s.reg k := (rfl)
@[simp] theorem State.setTiles_get (s : State) (x : List Tile) (g : Fld) : (s.setTiles x).get g = s.get g := (rfl)
@[simp] theorem State.setTiles_flag (s : State) (x : List Tile) (g : Fld) : (s.setTiles x).flag g = s.flag g := (rfl)
@[simp] theorem State.setTiles_geti (s : State) (x : List Tile) (g : Fld) : (s.setTiles x).geti g = s.geti g := (rfl)
@[simp] theorem State.setTiles_domOn (s : State) (x : List Tile) (d : Nat) : (s.setTiles x).domOn d = s.domOn d := (rfl)

/-! setCimq -/

@[simp] theorem State.setCimq_cfg (s : State) (x : List (Nat × Nat)) : (s.setCimq x).cfg = s.cfg := (rfl)
@[simp] theorem State.setCimq_pins (s : State) (x : List (Nat × Nat)) : (s.setCimq x).pins = s.pins := (rfl)
@[simp] theorem State.setCimq_regs (s : State) (x : List (Nat × Nat)) : (s.setCimq x).regs = s.regs := (rfl)
@[simp] theorem State.setCimq_tb (s : State) (x : List (Nat × Nat)) : (s.setCimq x).tb = s.tb := (rfl)
@[simp] theorem State.setCimq_hst (s : State) (x : List (Nat × Nat)) : (s.setCimq x).hst = s.hst := (rfl)
@[simp] theorem State.setCimq_act (s : State) (x : List (Nat × Nat)) : (s.setCimq x).act = s.act := (rfl)
@[simp] theorem State.setCimq_late (s : State) (x : List (Nat × Nat)) : (s.setCimq x).late = s.late := (rfl)
@[simp] theorem State.setCimq_sw (s : State) (x : List (Nat × Nat)) : (s.setCimq x).sw = s.sw := (rfl)
@[simp] theorem State.setCimq_see (s : State) (x : List (Nat × Nat)) : (s.setCimq x).see = s.see := (rfl)
@[simp] theorem State.setCimq_jxl (s : State) (x : List (Nat × Nat)) : (s.setCimq x).jxl = s.jxl := (rfl)
@[simp] theorem State.setCimq_csi (s : State) (x : List (Nat × Nat)) : (s.setCimq x).csi = s.csi := (rfl)
@[simp] theorem State.setCimq_ppc (s : State) (x : List (Nat × Nat)) : (s.setCimq x).ppc = s.ppc := (rfl)
@[simp] theorem State.setCimq_ald (s : State) (x : List (Nat × Nat)) : (s.setCimq x).ald = s.ald := (rfl)
@[simp] theorem State.setCimq_gates (s : State) (x : List (Nat × Nat)) : (s.setCimq x).gates = s.gates := (rfl)
@[simp] theorem State.setCimq_fab (s : State) (x : List (Nat × Nat)) : (s.setCimq x).fab = s.fab := (rfl)
@[simp] theorem State.setCimq_tiles (s : State) (x : List (Nat × Nat)) : (s.setCimq x).tiles = s.tiles := (rfl)
@[simp] theorem State.setCimq_cimq (s : State) (x : List (Nat × Nat)) : (s.setCimq x).cimq = x := (rfl)
@[simp] theorem State.setCimq_sync (s : State) (x : List (Nat × Nat)) : (s.setCimq x).sync = s.sync := (rfl)
@[simp] theorem State.setCimq_fw (s : State) (x : List (Nat × Nat)) : (s.setCimq x).fw = s.fw := (rfl)
@[simp] theorem State.setCimq_pmu (s : State) (x : List (Nat × Nat)) : (s.setCimq x).pmu = s.pmu := (rfl)
@[simp] theorem State.setCimq_touch (s : State) (x : List (Nat × Nat)) : (s.setCimq x).touch = s.touch := (rfl)
@[simp] theorem State.setCimq_ras (s : State) (x : List (Nat × Nat)) : (s.setCimq x).ras = s.ras := (rfl)
@[simp] theorem State.setCimq_mem (s : State) (x : List (Nat × Nat)) : (s.setCimq x).mem = s.mem := (rfl)
@[simp] theorem State.setCimq_ladle (s : State) (x : List (Nat × Nat)) : (s.setCimq x).ladle = s.ladle := (rfl)
@[simp] theorem State.setCimq_freeCtr (s : State) (x : List (Nat × Nat)) : (s.setCimq x).freeCtr = s.freeCtr := (rfl)
@[simp] theorem State.setCimq_out (s : State) (x : List (Nat × Nat)) : (s.setCimq x).out = s.out := (rfl)
@[simp] theorem State.setCimq_pending (s : State) (x : List (Nat × Nat)) : (s.setCimq x).pending = s.pending := (rfl)
@[simp] theorem State.setCimq_reg (s : State) (x : List (Nat × Nat)) (k : Nat) : (s.setCimq x).reg k = s.reg k := (rfl)
@[simp] theorem State.setCimq_get (s : State) (x : List (Nat × Nat)) (g : Fld) : (s.setCimq x).get g = s.get g := (rfl)
@[simp] theorem State.setCimq_flag (s : State) (x : List (Nat × Nat)) (g : Fld) : (s.setCimq x).flag g = s.flag g := (rfl)
@[simp] theorem State.setCimq_geti (s : State) (x : List (Nat × Nat)) (g : Fld) : (s.setCimq x).geti g = s.geti g := (rfl)
@[simp] theorem State.setCimq_domOn (s : State) (x : List (Nat × Nat)) (d : Nat) : (s.setCimq x).domOn d = s.domOn d := (rfl)

/-! setSync -/

@[simp] theorem State.setSync_cfg (s : State) (x : Sync) : (s.setSync x).cfg = s.cfg := (rfl)
@[simp] theorem State.setSync_pins (s : State) (x : Sync) : (s.setSync x).pins = s.pins := (rfl)
@[simp] theorem State.setSync_regs (s : State) (x : Sync) : (s.setSync x).regs = s.regs := (rfl)
@[simp] theorem State.setSync_tb (s : State) (x : Sync) : (s.setSync x).tb = s.tb := (rfl)
@[simp] theorem State.setSync_hst (s : State) (x : Sync) : (s.setSync x).hst = s.hst := (rfl)
@[simp] theorem State.setSync_act (s : State) (x : Sync) : (s.setSync x).act = s.act := (rfl)
@[simp] theorem State.setSync_late (s : State) (x : Sync) : (s.setSync x).late = s.late := (rfl)
@[simp] theorem State.setSync_sw (s : State) (x : Sync) : (s.setSync x).sw = s.sw := (rfl)
@[simp] theorem State.setSync_see (s : State) (x : Sync) : (s.setSync x).see = s.see := (rfl)
@[simp] theorem State.setSync_jxl (s : State) (x : Sync) : (s.setSync x).jxl = s.jxl := (rfl)
@[simp] theorem State.setSync_csi (s : State) (x : Sync) : (s.setSync x).csi = s.csi := (rfl)
@[simp] theorem State.setSync_ppc (s : State) (x : Sync) : (s.setSync x).ppc = s.ppc := (rfl)
@[simp] theorem State.setSync_ald (s : State) (x : Sync) : (s.setSync x).ald = s.ald := (rfl)
@[simp] theorem State.setSync_gates (s : State) (x : Sync) : (s.setSync x).gates = s.gates := (rfl)
@[simp] theorem State.setSync_fab (s : State) (x : Sync) : (s.setSync x).fab = s.fab := (rfl)
@[simp] theorem State.setSync_tiles (s : State) (x : Sync) : (s.setSync x).tiles = s.tiles := (rfl)
@[simp] theorem State.setSync_cimq (s : State) (x : Sync) : (s.setSync x).cimq = s.cimq := (rfl)
@[simp] theorem State.setSync_sync (s : State) (x : Sync) : (s.setSync x).sync = x := (rfl)
@[simp] theorem State.setSync_fw (s : State) (x : Sync) : (s.setSync x).fw = s.fw := (rfl)
@[simp] theorem State.setSync_pmu (s : State) (x : Sync) : (s.setSync x).pmu = s.pmu := (rfl)
@[simp] theorem State.setSync_touch (s : State) (x : Sync) : (s.setSync x).touch = s.touch := (rfl)
@[simp] theorem State.setSync_ras (s : State) (x : Sync) : (s.setSync x).ras = s.ras := (rfl)
@[simp] theorem State.setSync_mem (s : State) (x : Sync) : (s.setSync x).mem = s.mem := (rfl)
@[simp] theorem State.setSync_ladle (s : State) (x : Sync) : (s.setSync x).ladle = s.ladle := (rfl)
@[simp] theorem State.setSync_freeCtr (s : State) (x : Sync) : (s.setSync x).freeCtr = s.freeCtr := (rfl)
@[simp] theorem State.setSync_out (s : State) (x : Sync) : (s.setSync x).out = s.out := (rfl)
@[simp] theorem State.setSync_pending (s : State) (x : Sync) : (s.setSync x).pending = s.pending := (rfl)
@[simp] theorem State.setSync_reg (s : State) (x : Sync) (k : Nat) : (s.setSync x).reg k = s.reg k := (rfl)
@[simp] theorem State.setSync_get (s : State) (x : Sync) (g : Fld) : (s.setSync x).get g = s.get g := (rfl)
@[simp] theorem State.setSync_flag (s : State) (x : Sync) (g : Fld) : (s.setSync x).flag g = s.flag g := (rfl)
@[simp] theorem State.setSync_geti (s : State) (x : Sync) (g : Fld) : (s.setSync x).geti g = s.geti g := (rfl)
@[simp] theorem State.setSync_domOn (s : State) (x : Sync) (d : Nat) : (s.setSync x).domOn d = s.domOn d := (rfl)

/-! setFw -/

@[simp] theorem State.setFw_cfg (s : State) (x : Bench) : (s.setFw x).cfg = s.cfg := (rfl)
@[simp] theorem State.setFw_pins (s : State) (x : Bench) : (s.setFw x).pins = s.pins := (rfl)
@[simp] theorem State.setFw_regs (s : State) (x : Bench) : (s.setFw x).regs = s.regs := (rfl)
@[simp] theorem State.setFw_tb (s : State) (x : Bench) : (s.setFw x).tb = s.tb := (rfl)
@[simp] theorem State.setFw_hst (s : State) (x : Bench) : (s.setFw x).hst = s.hst := (rfl)
@[simp] theorem State.setFw_act (s : State) (x : Bench) : (s.setFw x).act = s.act := (rfl)
@[simp] theorem State.setFw_late (s : State) (x : Bench) : (s.setFw x).late = s.late := (rfl)
@[simp] theorem State.setFw_sw (s : State) (x : Bench) : (s.setFw x).sw = s.sw := (rfl)
@[simp] theorem State.setFw_see (s : State) (x : Bench) : (s.setFw x).see = s.see := (rfl)
@[simp] theorem State.setFw_jxl (s : State) (x : Bench) : (s.setFw x).jxl = s.jxl := (rfl)
@[simp] theorem State.setFw_csi (s : State) (x : Bench) : (s.setFw x).csi = s.csi := (rfl)
@[simp] theorem State.setFw_ppc (s : State) (x : Bench) : (s.setFw x).ppc = s.ppc := (rfl)
@[simp] theorem State.setFw_ald (s : State) (x : Bench) : (s.setFw x).ald = s.ald := (rfl)
@[simp] theorem State.setFw_gates (s : State) (x : Bench) : (s.setFw x).gates = s.gates := (rfl)
@[simp] theorem State.setFw_fab (s : State) (x : Bench) : (s.setFw x).fab = s.fab := (rfl)
@[simp] theorem State.setFw_tiles (s : State) (x : Bench) : (s.setFw x).tiles = s.tiles := (rfl)
@[simp] theorem State.setFw_cimq (s : State) (x : Bench) : (s.setFw x).cimq = s.cimq := (rfl)
@[simp] theorem State.setFw_sync (s : State) (x : Bench) : (s.setFw x).sync = s.sync := (rfl)
@[simp] theorem State.setFw_fw (s : State) (x : Bench) : (s.setFw x).fw = x := (rfl)
@[simp] theorem State.setFw_pmu (s : State) (x : Bench) : (s.setFw x).pmu = s.pmu := (rfl)
@[simp] theorem State.setFw_touch (s : State) (x : Bench) : (s.setFw x).touch = s.touch := (rfl)
@[simp] theorem State.setFw_ras (s : State) (x : Bench) : (s.setFw x).ras = s.ras := (rfl)
@[simp] theorem State.setFw_mem (s : State) (x : Bench) : (s.setFw x).mem = s.mem := (rfl)
@[simp] theorem State.setFw_ladle (s : State) (x : Bench) : (s.setFw x).ladle = s.ladle := (rfl)
@[simp] theorem State.setFw_freeCtr (s : State) (x : Bench) : (s.setFw x).freeCtr = s.freeCtr := (rfl)
@[simp] theorem State.setFw_out (s : State) (x : Bench) : (s.setFw x).out = s.out := (rfl)
@[simp] theorem State.setFw_pending (s : State) (x : Bench) : (s.setFw x).pending = s.pending := (rfl)
@[simp] theorem State.setFw_reg (s : State) (x : Bench) (k : Nat) : (s.setFw x).reg k = s.reg k := (rfl)
@[simp] theorem State.setFw_get (s : State) (x : Bench) (g : Fld) : (s.setFw x).get g = s.get g := (rfl)
@[simp] theorem State.setFw_flag (s : State) (x : Bench) (g : Fld) : (s.setFw x).flag g = s.flag g := (rfl)
@[simp] theorem State.setFw_geti (s : State) (x : Bench) (g : Fld) : (s.setFw x).geti g = s.geti g := (rfl)
@[simp] theorem State.setFw_domOn (s : State) (x : Bench) (d : Nat) : (s.setFw x).domOn d = s.domOn d := (rfl)

/-! setPmu -/

@[simp] theorem State.setPmu_cfg (s : State) (x : Pmu) : (s.setPmu x).cfg = s.cfg := (rfl)
@[simp] theorem State.setPmu_pins (s : State) (x : Pmu) : (s.setPmu x).pins = s.pins := (rfl)
@[simp] theorem State.setPmu_regs (s : State) (x : Pmu) : (s.setPmu x).regs = s.regs := (rfl)
@[simp] theorem State.setPmu_tb (s : State) (x : Pmu) : (s.setPmu x).tb = s.tb := (rfl)
@[simp] theorem State.setPmu_hst (s : State) (x : Pmu) : (s.setPmu x).hst = s.hst := (rfl)
@[simp] theorem State.setPmu_act (s : State) (x : Pmu) : (s.setPmu x).act = s.act := (rfl)
@[simp] theorem State.setPmu_late (s : State) (x : Pmu) : (s.setPmu x).late = s.late := (rfl)
@[simp] theorem State.setPmu_sw (s : State) (x : Pmu) : (s.setPmu x).sw = s.sw := (rfl)
@[simp] theorem State.setPmu_see (s : State) (x : Pmu) : (s.setPmu x).see = s.see := (rfl)
@[simp] theorem State.setPmu_jxl (s : State) (x : Pmu) : (s.setPmu x).jxl = s.jxl := (rfl)
@[simp] theorem State.setPmu_csi (s : State) (x : Pmu) : (s.setPmu x).csi = s.csi := (rfl)
@[simp] theorem State.setPmu_ppc (s : State) (x : Pmu) : (s.setPmu x).ppc = s.ppc := (rfl)
@[simp] theorem State.setPmu_ald (s : State) (x : Pmu) : (s.setPmu x).ald = s.ald := (rfl)
@[simp] theorem State.setPmu_gates (s : State) (x : Pmu) : (s.setPmu x).gates = s.gates := (rfl)
@[simp] theorem State.setPmu_fab (s : State) (x : Pmu) : (s.setPmu x).fab = s.fab := (rfl)
@[simp] theorem State.setPmu_tiles (s : State) (x : Pmu) : (s.setPmu x).tiles = s.tiles := (rfl)
@[simp] theorem State.setPmu_cimq (s : State) (x : Pmu) : (s.setPmu x).cimq = s.cimq := (rfl)
@[simp] theorem State.setPmu_sync (s : State) (x : Pmu) : (s.setPmu x).sync = s.sync := (rfl)
@[simp] theorem State.setPmu_fw (s : State) (x : Pmu) : (s.setPmu x).fw = s.fw := (rfl)
@[simp] theorem State.setPmu_pmu (s : State) (x : Pmu) : (s.setPmu x).pmu = x := (rfl)
@[simp] theorem State.setPmu_touch (s : State) (x : Pmu) : (s.setPmu x).touch = s.touch := (rfl)
@[simp] theorem State.setPmu_ras (s : State) (x : Pmu) : (s.setPmu x).ras = s.ras := (rfl)
@[simp] theorem State.setPmu_mem (s : State) (x : Pmu) : (s.setPmu x).mem = s.mem := (rfl)
@[simp] theorem State.setPmu_ladle (s : State) (x : Pmu) : (s.setPmu x).ladle = s.ladle := (rfl)
@[simp] theorem State.setPmu_freeCtr (s : State) (x : Pmu) : (s.setPmu x).freeCtr = s.freeCtr := (rfl)
@[simp] theorem State.setPmu_out (s : State) (x : Pmu) : (s.setPmu x).out = s.out := (rfl)
@[simp] theorem State.setPmu_pending (s : State) (x : Pmu) : (s.setPmu x).pending = s.pending := (rfl)

/-! setTouch -/

@[simp] theorem State.setTouch_cfg (s : State) (x : Touch) : (s.setTouch x).cfg = s.cfg := (rfl)
@[simp] theorem State.setTouch_pins (s : State) (x : Touch) : (s.setTouch x).pins = s.pins := (rfl)
@[simp] theorem State.setTouch_regs (s : State) (x : Touch) : (s.setTouch x).regs = s.regs := (rfl)
@[simp] theorem State.setTouch_tb (s : State) (x : Touch) : (s.setTouch x).tb = s.tb := (rfl)
@[simp] theorem State.setTouch_hst (s : State) (x : Touch) : (s.setTouch x).hst = s.hst := (rfl)
@[simp] theorem State.setTouch_act (s : State) (x : Touch) : (s.setTouch x).act = s.act := (rfl)
@[simp] theorem State.setTouch_late (s : State) (x : Touch) : (s.setTouch x).late = s.late := (rfl)
@[simp] theorem State.setTouch_sw (s : State) (x : Touch) : (s.setTouch x).sw = s.sw := (rfl)
@[simp] theorem State.setTouch_see (s : State) (x : Touch) : (s.setTouch x).see = s.see := (rfl)
@[simp] theorem State.setTouch_jxl (s : State) (x : Touch) : (s.setTouch x).jxl = s.jxl := (rfl)
@[simp] theorem State.setTouch_csi (s : State) (x : Touch) : (s.setTouch x).csi = s.csi := (rfl)
@[simp] theorem State.setTouch_ppc (s : State) (x : Touch) : (s.setTouch x).ppc = s.ppc := (rfl)
@[simp] theorem State.setTouch_ald (s : State) (x : Touch) : (s.setTouch x).ald = s.ald := (rfl)
@[simp] theorem State.setTouch_gates (s : State) (x : Touch) : (s.setTouch x).gates = s.gates := (rfl)
@[simp] theorem State.setTouch_fab (s : State) (x : Touch) : (s.setTouch x).fab = s.fab := (rfl)
@[simp] theorem State.setTouch_tiles (s : State) (x : Touch) : (s.setTouch x).tiles = s.tiles := (rfl)
@[simp] theorem State.setTouch_cimq (s : State) (x : Touch) : (s.setTouch x).cimq = s.cimq := (rfl)
@[simp] theorem State.setTouch_sync (s : State) (x : Touch) : (s.setTouch x).sync = s.sync := (rfl)
@[simp] theorem State.setTouch_fw (s : State) (x : Touch) : (s.setTouch x).fw = s.fw := (rfl)
@[simp] theorem State.setTouch_pmu (s : State) (x : Touch) : (s.setTouch x).pmu = s.pmu := (rfl)
@[simp] theorem State.setTouch_touch (s : State) (x : Touch) : (s.setTouch x).touch = x := (rfl)
@[simp] theorem State.setTouch_ras (s : State) (x : Touch) : (s.setTouch x).ras = s.ras := (rfl)
@[simp] theorem State.setTouch_mem (s : State) (x : Touch) : (s.setTouch x).mem = s.mem := (rfl)
@[simp] theorem State.setTouch_ladle (s : State) (x : Touch) : (s.setTouch x).ladle = s.ladle := (rfl)
@[simp] theorem State.setTouch_freeCtr (s : State) (x : Touch) : (s.setTouch x).freeCtr = s.freeCtr := (rfl)
@[simp] theorem State.setTouch_out (s : State) (x : Touch) : (s.setTouch x).out = s.out := (rfl)
@[simp] theorem State.setTouch_pending (s : State) (x : Touch) : (s.setTouch x).pending = s.pending := (rfl)
@[simp] theorem State.setTouch_reg (s : State) (x : Touch) (k : Nat) : (s.setTouch x).reg k = s.reg k := (rfl)
@[simp] theorem State.setTouch_get (s : State) (x : Touch) (g : Fld) : (s.setTouch x).get g = s.get g := (rfl)
@[simp] theorem State.setTouch_flag (s : State) (x : Touch) (g : Fld) : (s.setTouch x).flag g = s.flag g := (rfl)
@[simp] theorem State.setTouch_geti (s : State) (x : Touch) (g : Fld) : (s.setTouch x).geti g = s.geti g := (rfl)
@[simp] theorem State.setTouch_domOn (s : State) (x : Touch) (d : Nat) : (s.setTouch x).domOn d = s.domOn d := (rfl)

/-! setRas -/

@[simp] theorem State.setRas_cfg (s : State) (x : Ras) : (s.setRas x).cfg = s.cfg := (rfl)
@[simp] theorem State.setRas_pins (s : State) (x : Ras) : (s.setRas x).pins = s.pins := (rfl)
@[simp] theorem State.setRas_regs (s : State) (x : Ras) : (s.setRas x).regs = s.regs := (rfl)
@[simp] theorem State.setRas_tb (s : State) (x : Ras) : (s.setRas x).tb = s.tb := (rfl)
@[simp] theorem State.setRas_hst (s : State) (x : Ras) : (s.setRas x).hst = s.hst := (rfl)
@[simp] theorem State.setRas_act (s : State) (x : Ras) : (s.setRas x).act = s.act := (rfl)
@[simp] theorem State.setRas_late (s : State) (x : Ras) : (s.setRas x).late = s.late := (rfl)
@[simp] theorem State.setRas_sw (s : State) (x : Ras) : (s.setRas x).sw = s.sw := (rfl)
@[simp] theorem State.setRas_see (s : State) (x : Ras) : (s.setRas x).see = s.see := (rfl)
@[simp] theorem State.setRas_jxl (s : State) (x : Ras) : (s.setRas x).jxl = s.jxl := (rfl)
@[simp] theorem State.setRas_csi (s : State) (x : Ras) : (s.setRas x).csi = s.csi := (rfl)
@[simp] theorem State.setRas_ppc (s : State) (x : Ras) : (s.setRas x).ppc = s.ppc := (rfl)
@[simp] theorem State.setRas_ald (s : State) (x : Ras) : (s.setRas x).ald = s.ald := (rfl)
@[simp] theorem State.setRas_gates (s : State) (x : Ras) : (s.setRas x).gates = s.gates := (rfl)
@[simp] theorem State.setRas_fab (s : State) (x : Ras) : (s.setRas x).fab = s.fab := (rfl)
@[simp] theorem State.setRas_tiles (s : State) (x : Ras) : (s.setRas x).tiles = s.tiles := (rfl)
@[simp] theorem State.setRas_cimq (s : State) (x : Ras) : (s.setRas x).cimq = s.cimq := (rfl)
@[simp] theorem State.setRas_sync (s : State) (x : Ras) : (s.setRas x).sync = s.sync := (rfl)
@[simp] theorem State.setRas_fw (s : State) (x : Ras) : (s.setRas x).fw = s.fw := (rfl)
@[simp] theorem State.setRas_pmu (s : State) (x : Ras) : (s.setRas x).pmu = s.pmu := (rfl)
@[simp] theorem State.setRas_touch (s : State) (x : Ras) : (s.setRas x).touch = s.touch := (rfl)
@[simp] theorem State.setRas_ras (s : State) (x : Ras) : (s.setRas x).ras = x := (rfl)
@[simp] theorem State.setRas_mem (s : State) (x : Ras) : (s.setRas x).mem = s.mem := (rfl)
@[simp] theorem State.setRas_ladle (s : State) (x : Ras) : (s.setRas x).ladle = s.ladle := (rfl)
@[simp] theorem State.setRas_freeCtr (s : State) (x : Ras) : (s.setRas x).freeCtr = s.freeCtr := (rfl)
@[simp] theorem State.setRas_out (s : State) (x : Ras) : (s.setRas x).out = s.out := (rfl)
@[simp] theorem State.setRas_pending (s : State) (x : Ras) : (s.setRas x).pending = s.pending := (rfl)
@[simp] theorem State.setRas_reg (s : State) (x : Ras) (k : Nat) : (s.setRas x).reg k = s.reg k := (rfl)
@[simp] theorem State.setRas_get (s : State) (x : Ras) (g : Fld) : (s.setRas x).get g = s.get g := (rfl)
@[simp] theorem State.setRas_flag (s : State) (x : Ras) (g : Fld) : (s.setRas x).flag g = s.flag g := (rfl)
@[simp] theorem State.setRas_geti (s : State) (x : Ras) (g : Fld) : (s.setRas x).geti g = s.geti g := (rfl)
@[simp] theorem State.setRas_domOn (s : State) (x : Ras) (d : Nat) : (s.setRas x).domOn d = s.domOn d := (rfl)

/-! setMem -/

@[simp] theorem State.setMem_cfg (s : State) (x : Memories) : (s.setMem x).cfg = s.cfg := (rfl)
@[simp] theorem State.setMem_pins (s : State) (x : Memories) : (s.setMem x).pins = s.pins := (rfl)
@[simp] theorem State.setMem_regs (s : State) (x : Memories) : (s.setMem x).regs = s.regs := (rfl)
@[simp] theorem State.setMem_tb (s : State) (x : Memories) : (s.setMem x).tb = s.tb := (rfl)
@[simp] theorem State.setMem_hst (s : State) (x : Memories) : (s.setMem x).hst = s.hst := (rfl)
@[simp] theorem State.setMem_act (s : State) (x : Memories) : (s.setMem x).act = s.act := (rfl)
@[simp] theorem State.setMem_late (s : State) (x : Memories) : (s.setMem x).late = s.late := (rfl)
@[simp] theorem State.setMem_sw (s : State) (x : Memories) : (s.setMem x).sw = s.sw := (rfl)
@[simp] theorem State.setMem_see (s : State) (x : Memories) : (s.setMem x).see = s.see := (rfl)
@[simp] theorem State.setMem_jxl (s : State) (x : Memories) : (s.setMem x).jxl = s.jxl := (rfl)
@[simp] theorem State.setMem_csi (s : State) (x : Memories) : (s.setMem x).csi = s.csi := (rfl)
@[simp] theorem State.setMem_ppc (s : State) (x : Memories) : (s.setMem x).ppc = s.ppc := (rfl)
@[simp] theorem State.setMem_ald (s : State) (x : Memories) : (s.setMem x).ald = s.ald := (rfl)
@[simp] theorem State.setMem_gates (s : State) (x : Memories) : (s.setMem x).gates = s.gates := (rfl)
@[simp] theorem State.setMem_fab (s : State) (x : Memories) : (s.setMem x).fab = s.fab := (rfl)
@[simp] theorem State.setMem_tiles (s : State) (x : Memories) : (s.setMem x).tiles = s.tiles := (rfl)
@[simp] theorem State.setMem_cimq (s : State) (x : Memories) : (s.setMem x).cimq = s.cimq := (rfl)
@[simp] theorem State.setMem_sync (s : State) (x : Memories) : (s.setMem x).sync = s.sync := (rfl)
@[simp] theorem State.setMem_fw (s : State) (x : Memories) : (s.setMem x).fw = s.fw := (rfl)
@[simp] theorem State.setMem_pmu (s : State) (x : Memories) : (s.setMem x).pmu = s.pmu := (rfl)
@[simp] theorem State.setMem_touch (s : State) (x : Memories) : (s.setMem x).touch = s.touch := (rfl)
@[simp] theorem State.setMem_ras (s : State) (x : Memories) : (s.setMem x).ras = s.ras := (rfl)
@[simp] theorem State.setMem_mem (s : State) (x : Memories) : (s.setMem x).mem = x := (rfl)
@[simp] theorem State.setMem_ladle (s : State) (x : Memories) : (s.setMem x).ladle = s.ladle := (rfl)
@[simp] theorem State.setMem_freeCtr (s : State) (x : Memories) : (s.setMem x).freeCtr = s.freeCtr := (rfl)
@[simp] theorem State.setMem_out (s : State) (x : Memories) : (s.setMem x).out = s.out := (rfl)
@[simp] theorem State.setMem_pending (s : State) (x : Memories) : (s.setMem x).pending = s.pending := (rfl)
@[simp] theorem State.setMem_reg (s : State) (x : Memories) (k : Nat) : (s.setMem x).reg k = s.reg k := (rfl)
@[simp] theorem State.setMem_get (s : State) (x : Memories) (g : Fld) : (s.setMem x).get g = s.get g := (rfl)
@[simp] theorem State.setMem_flag (s : State) (x : Memories) (g : Fld) : (s.setMem x).flag g = s.flag g := (rfl)
@[simp] theorem State.setMem_geti (s : State) (x : Memories) (g : Fld) : (s.setMem x).geti g = s.geti g := (rfl)
@[simp] theorem State.setMem_domOn (s : State) (x : Memories) (d : Nat) : (s.setMem x).domOn d = s.domOn d := (rfl)

/-! setLadle -/

@[simp] theorem State.setLadle_cfg (s : State) (x : Ladle) : (s.setLadle x).cfg = s.cfg := (rfl)
@[simp] theorem State.setLadle_pins (s : State) (x : Ladle) : (s.setLadle x).pins = s.pins := (rfl)
@[simp] theorem State.setLadle_regs (s : State) (x : Ladle) : (s.setLadle x).regs = s.regs := (rfl)
@[simp] theorem State.setLadle_tb (s : State) (x : Ladle) : (s.setLadle x).tb = s.tb := (rfl)
@[simp] theorem State.setLadle_hst (s : State) (x : Ladle) : (s.setLadle x).hst = s.hst := (rfl)
@[simp] theorem State.setLadle_act (s : State) (x : Ladle) : (s.setLadle x).act = s.act := (rfl)
@[simp] theorem State.setLadle_late (s : State) (x : Ladle) : (s.setLadle x).late = s.late := (rfl)
@[simp] theorem State.setLadle_sw (s : State) (x : Ladle) : (s.setLadle x).sw = s.sw := (rfl)
@[simp] theorem State.setLadle_see (s : State) (x : Ladle) : (s.setLadle x).see = s.see := (rfl)
@[simp] theorem State.setLadle_jxl (s : State) (x : Ladle) : (s.setLadle x).jxl = s.jxl := (rfl)
@[simp] theorem State.setLadle_csi (s : State) (x : Ladle) : (s.setLadle x).csi = s.csi := (rfl)
@[simp] theorem State.setLadle_ppc (s : State) (x : Ladle) : (s.setLadle x).ppc = s.ppc := (rfl)
@[simp] theorem State.setLadle_ald (s : State) (x : Ladle) : (s.setLadle x).ald = s.ald := (rfl)
@[simp] theorem State.setLadle_gates (s : State) (x : Ladle) : (s.setLadle x).gates = s.gates := (rfl)
@[simp] theorem State.setLadle_fab (s : State) (x : Ladle) : (s.setLadle x).fab = s.fab := (rfl)
@[simp] theorem State.setLadle_tiles (s : State) (x : Ladle) : (s.setLadle x).tiles = s.tiles := (rfl)
@[simp] theorem State.setLadle_cimq (s : State) (x : Ladle) : (s.setLadle x).cimq = s.cimq := (rfl)
@[simp] theorem State.setLadle_sync (s : State) (x : Ladle) : (s.setLadle x).sync = s.sync := (rfl)
@[simp] theorem State.setLadle_fw (s : State) (x : Ladle) : (s.setLadle x).fw = s.fw := (rfl)
@[simp] theorem State.setLadle_pmu (s : State) (x : Ladle) : (s.setLadle x).pmu = s.pmu := (rfl)
@[simp] theorem State.setLadle_touch (s : State) (x : Ladle) : (s.setLadle x).touch = s.touch := (rfl)
@[simp] theorem State.setLadle_ras (s : State) (x : Ladle) : (s.setLadle x).ras = s.ras := (rfl)
@[simp] theorem State.setLadle_mem (s : State) (x : Ladle) : (s.setLadle x).mem = s.mem := (rfl)
@[simp] theorem State.setLadle_ladle (s : State) (x : Ladle) : (s.setLadle x).ladle = x := (rfl)
@[simp] theorem State.setLadle_freeCtr (s : State) (x : Ladle) : (s.setLadle x).freeCtr = s.freeCtr := (rfl)
@[simp] theorem State.setLadle_out (s : State) (x : Ladle) : (s.setLadle x).out = s.out := (rfl)
@[simp] theorem State.setLadle_pending (s : State) (x : Ladle) : (s.setLadle x).pending = s.pending := (rfl)
@[simp] theorem State.setLadle_reg (s : State) (x : Ladle) (k : Nat) : (s.setLadle x).reg k = s.reg k := (rfl)
@[simp] theorem State.setLadle_get (s : State) (x : Ladle) (g : Fld) : (s.setLadle x).get g = s.get g := (rfl)
@[simp] theorem State.setLadle_flag (s : State) (x : Ladle) (g : Fld) : (s.setLadle x).flag g = s.flag g := (rfl)
@[simp] theorem State.setLadle_geti (s : State) (x : Ladle) (g : Fld) : (s.setLadle x).geti g = s.geti g := (rfl)
@[simp] theorem State.setLadle_domOn (s : State) (x : Ladle) (d : Nat) : (s.setLadle x).domOn d = s.domOn d := (rfl)

/-! setFreeCtr -/

@[simp] theorem State.setFreeCtr_cfg (s : State) (x : Nat) : (s.setFreeCtr x).cfg = s.cfg := (rfl)
@[simp] theorem State.setFreeCtr_pins (s : State) (x : Nat) : (s.setFreeCtr x).pins = s.pins := (rfl)
@[simp] theorem State.setFreeCtr_regs (s : State) (x : Nat) : (s.setFreeCtr x).regs = s.regs := (rfl)
@[simp] theorem State.setFreeCtr_tb (s : State) (x : Nat) : (s.setFreeCtr x).tb = s.tb := (rfl)
@[simp] theorem State.setFreeCtr_hst (s : State) (x : Nat) : (s.setFreeCtr x).hst = s.hst := (rfl)
@[simp] theorem State.setFreeCtr_act (s : State) (x : Nat) : (s.setFreeCtr x).act = s.act := (rfl)
@[simp] theorem State.setFreeCtr_late (s : State) (x : Nat) : (s.setFreeCtr x).late = s.late := (rfl)
@[simp] theorem State.setFreeCtr_sw (s : State) (x : Nat) : (s.setFreeCtr x).sw = s.sw := (rfl)
@[simp] theorem State.setFreeCtr_see (s : State) (x : Nat) : (s.setFreeCtr x).see = s.see := (rfl)
@[simp] theorem State.setFreeCtr_jxl (s : State) (x : Nat) : (s.setFreeCtr x).jxl = s.jxl := (rfl)
@[simp] theorem State.setFreeCtr_csi (s : State) (x : Nat) : (s.setFreeCtr x).csi = s.csi := (rfl)
@[simp] theorem State.setFreeCtr_ppc (s : State) (x : Nat) : (s.setFreeCtr x).ppc = s.ppc := (rfl)
@[simp] theorem State.setFreeCtr_ald (s : State) (x : Nat) : (s.setFreeCtr x).ald = s.ald := (rfl)
@[simp] theorem State.setFreeCtr_gates (s : State) (x : Nat) : (s.setFreeCtr x).gates = s.gates := (rfl)
@[simp] theorem State.setFreeCtr_fab (s : State) (x : Nat) : (s.setFreeCtr x).fab = s.fab := (rfl)
@[simp] theorem State.setFreeCtr_tiles (s : State) (x : Nat) : (s.setFreeCtr x).tiles = s.tiles := (rfl)
@[simp] theorem State.setFreeCtr_cimq (s : State) (x : Nat) : (s.setFreeCtr x).cimq = s.cimq := (rfl)
@[simp] theorem State.setFreeCtr_sync (s : State) (x : Nat) : (s.setFreeCtr x).sync = s.sync := (rfl)
@[simp] theorem State.setFreeCtr_fw (s : State) (x : Nat) : (s.setFreeCtr x).fw = s.fw := (rfl)
@[simp] theorem State.setFreeCtr_pmu (s : State) (x : Nat) : (s.setFreeCtr x).pmu = s.pmu := (rfl)
@[simp] theorem State.setFreeCtr_touch (s : State) (x : Nat) : (s.setFreeCtr x).touch = s.touch := (rfl)
@[simp] theorem State.setFreeCtr_ras (s : State) (x : Nat) : (s.setFreeCtr x).ras = s.ras := (rfl)
@[simp] theorem State.setFreeCtr_mem (s : State) (x : Nat) : (s.setFreeCtr x).mem = s.mem := (rfl)
@[simp] theorem State.setFreeCtr_ladle (s : State) (x : Nat) : (s.setFreeCtr x).ladle = s.ladle := (rfl)
@[simp] theorem State.setFreeCtr_freeCtr (s : State) (x : Nat) : (s.setFreeCtr x).freeCtr = x := (rfl)
@[simp] theorem State.setFreeCtr_out (s : State) (x : Nat) : (s.setFreeCtr x).out = s.out := (rfl)
@[simp] theorem State.setFreeCtr_pending (s : State) (x : Nat) : (s.setFreeCtr x).pending = s.pending := (rfl)
@[simp] theorem State.setFreeCtr_reg (s : State) (x : Nat) (k : Nat) : (s.setFreeCtr x).reg k = s.reg k := (rfl)
@[simp] theorem State.setFreeCtr_get (s : State) (x : Nat) (g : Fld) : (s.setFreeCtr x).get g = s.get g := (rfl)
@[simp] theorem State.setFreeCtr_flag (s : State) (x : Nat) (g : Fld) : (s.setFreeCtr x).flag g = s.flag g := (rfl)
@[simp] theorem State.setFreeCtr_geti (s : State) (x : Nat) (g : Fld) : (s.setFreeCtr x).geti g = s.geti g := (rfl)
@[simp] theorem State.setFreeCtr_domOn (s : State) (x : Nat) (d : Nat) : (s.setFreeCtr x).domOn d = s.domOn d := (rfl)

/-! setOut -/

@[simp] theorem State.setOut_cfg (s : State) (x : List Out) : (s.setOut x).cfg = s.cfg := (rfl)
@[simp] theorem State.setOut_pins (s : State) (x : List Out) : (s.setOut x).pins = s.pins := (rfl)
@[simp] theorem State.setOut_regs (s : State) (x : List Out) : (s.setOut x).regs = s.regs := (rfl)
@[simp] theorem State.setOut_tb (s : State) (x : List Out) : (s.setOut x).tb = s.tb := (rfl)
@[simp] theorem State.setOut_hst (s : State) (x : List Out) : (s.setOut x).hst = s.hst := (rfl)
@[simp] theorem State.setOut_act (s : State) (x : List Out) : (s.setOut x).act = s.act := (rfl)
@[simp] theorem State.setOut_late (s : State) (x : List Out) : (s.setOut x).late = s.late := (rfl)
@[simp] theorem State.setOut_sw (s : State) (x : List Out) : (s.setOut x).sw = s.sw := (rfl)
@[simp] theorem State.setOut_see (s : State) (x : List Out) : (s.setOut x).see = s.see := (rfl)
@[simp] theorem State.setOut_jxl (s : State) (x : List Out) : (s.setOut x).jxl = s.jxl := (rfl)
@[simp] theorem State.setOut_csi (s : State) (x : List Out) : (s.setOut x).csi = s.csi := (rfl)
@[simp] theorem State.setOut_ppc (s : State) (x : List Out) : (s.setOut x).ppc = s.ppc := (rfl)
@[simp] theorem State.setOut_ald (s : State) (x : List Out) : (s.setOut x).ald = s.ald := (rfl)
@[simp] theorem State.setOut_gates (s : State) (x : List Out) : (s.setOut x).gates = s.gates := (rfl)
@[simp] theorem State.setOut_fab (s : State) (x : List Out) : (s.setOut x).fab = s.fab := (rfl)
@[simp] theorem State.setOut_tiles (s : State) (x : List Out) : (s.setOut x).tiles = s.tiles := (rfl)
@[simp] theorem State.setOut_cimq (s : State) (x : List Out) : (s.setOut x).cimq = s.cimq := (rfl)
@[simp] theorem State.setOut_sync (s : State) (x : List Out) : (s.setOut x).sync = s.sync := (rfl)
@[simp] theorem State.setOut_fw (s : State) (x : List Out) : (s.setOut x).fw = s.fw := (rfl)
@[simp] theorem State.setOut_pmu (s : State) (x : List Out) : (s.setOut x).pmu = s.pmu := (rfl)
@[simp] theorem State.setOut_touch (s : State) (x : List Out) : (s.setOut x).touch = s.touch := (rfl)
@[simp] theorem State.setOut_ras (s : State) (x : List Out) : (s.setOut x).ras = s.ras := (rfl)
@[simp] theorem State.setOut_mem (s : State) (x : List Out) : (s.setOut x).mem = s.mem := (rfl)
@[simp] theorem State.setOut_ladle (s : State) (x : List Out) : (s.setOut x).ladle = s.ladle := (rfl)
@[simp] theorem State.setOut_freeCtr (s : State) (x : List Out) : (s.setOut x).freeCtr = s.freeCtr := (rfl)
@[simp] theorem State.setOut_out (s : State) (x : List Out) : (s.setOut x).out = x := (rfl)
@[simp] theorem State.setOut_pending (s : State) (x : List Out) : (s.setOut x).pending = s.pending := (rfl)
@[simp] theorem State.setOut_reg (s : State) (x : List Out) (k : Nat) : (s.setOut x).reg k = s.reg k := (rfl)
@[simp] theorem State.setOut_get (s : State) (x : List Out) (g : Fld) : (s.setOut x).get g = s.get g := (rfl)
@[simp] theorem State.setOut_flag (s : State) (x : List Out) (g : Fld) : (s.setOut x).flag g = s.flag g := (rfl)
@[simp] theorem State.setOut_geti (s : State) (x : List Out) (g : Fld) : (s.setOut x).geti g = s.geti g := (rfl)
@[simp] theorem State.setOut_domOn (s : State) (x : List Out) (d : Nat) : (s.setOut x).domOn d = s.domOn d := (rfl)

/-! setReg -/

@[simp] theorem State.setReg_cfg (s : State) (a : Nat) (v : Word) : (s.setReg a v).cfg = s.cfg := (rfl)
@[simp] theorem State.setReg_pins (s : State) (a : Nat) (v : Word) : (s.setReg a v).pins = s.pins := (rfl)
@[simp] theorem State.setReg_tb (s : State) (a : Nat) (v : Word) : (s.setReg a v).tb = s.tb := (rfl)
@[simp] theorem State.setReg_hst (s : State) (a : Nat) (v : Word) : (s.setReg a v).hst = s.hst := (rfl)
@[simp] theorem State.setReg_act (s : State) (a : Nat) (v : Word) : (s.setReg a v).act = s.act := (rfl)
@[simp] theorem State.setReg_late (s : State) (a : Nat) (v : Word) : (s.setReg a v).late = s.late := (rfl)
@[simp] theorem State.setReg_sw (s : State) (a : Nat) (v : Word) : (s.setReg a v).sw = s.sw := (rfl)
@[simp] theorem State.setReg_see (s : State) (a : Nat) (v : Word) : (s.setReg a v).see = s.see := (rfl)
@[simp] theorem State.setReg_jxl (s : State) (a : Nat) (v : Word) : (s.setReg a v).jxl = s.jxl := (rfl)
@[simp] theorem State.setReg_csi (s : State) (a : Nat) (v : Word) : (s.setReg a v).csi = s.csi := (rfl)
@[simp] theorem State.setReg_ppc (s : State) (a : Nat) (v : Word) : (s.setReg a v).ppc = s.ppc := (rfl)
@[simp] theorem State.setReg_ald (s : State) (a : Nat) (v : Word) : (s.setReg a v).ald = s.ald := (rfl)
@[simp] theorem State.setReg_gates (s : State) (a : Nat) (v : Word) : (s.setReg a v).gates = s.gates := (rfl)
@[simp] theorem State.setReg_fab (s : State) (a : Nat) (v : Word) : (s.setReg a v).fab = s.fab := (rfl)
@[simp] theorem State.setReg_tiles (s : State) (a : Nat) (v : Word) : (s.setReg a v).tiles = s.tiles := (rfl)
@[simp] theorem State.setReg_cimq (s : State) (a : Nat) (v : Word) : (s.setReg a v).cimq = s.cimq := (rfl)
@[simp] theorem State.setReg_sync (s : State) (a : Nat) (v : Word) : (s.setReg a v).sync = s.sync := (rfl)
@[simp] theorem State.setReg_fw (s : State) (a : Nat) (v : Word) : (s.setReg a v).fw = s.fw := (rfl)
@[simp] theorem State.setReg_pmu (s : State) (a : Nat) (v : Word) : (s.setReg a v).pmu = s.pmu := (rfl)
@[simp] theorem State.setReg_touch (s : State) (a : Nat) (v : Word) : (s.setReg a v).touch = s.touch := (rfl)
@[simp] theorem State.setReg_ras (s : State) (a : Nat) (v : Word) : (s.setReg a v).ras = s.ras := (rfl)
@[simp] theorem State.setReg_mem (s : State) (a : Nat) (v : Word) : (s.setReg a v).mem = s.mem := (rfl)
@[simp] theorem State.setReg_ladle (s : State) (a : Nat) (v : Word) : (s.setReg a v).ladle = s.ladle := (rfl)
@[simp] theorem State.setReg_freeCtr (s : State) (a : Nat) (v : Word) : (s.setReg a v).freeCtr = s.freeCtr := (rfl)
@[simp] theorem State.setReg_out (s : State) (a : Nat) (v : Word) : (s.setReg a v).out = s.out := (rfl)
@[simp] theorem State.setReg_pending (s : State) (a : Nat) (v : Word) : (s.setReg a v).pending = s.pending := (rfl)

/-! set -/

@[simp] theorem State.set_cfg (s : State) (f : Fld) (v : Nat) : (s.set f v).cfg = s.cfg := (rfl)
@[simp] theorem State.set_pins (s : State) (f : Fld) (v : Nat) : (s.set f v).pins = s.pins := (rfl)
@[simp] theorem State.set_tb (s : State) (f : Fld) (v : Nat) : (s.set f v).tb = s.tb := (rfl)
@[simp] theorem State.set_hst (s : State) (f : Fld) (v : Nat) : (s.set f v).hst = s.hst := (rfl)
@[simp] theorem State.set_act (s : State) (f : Fld) (v : Nat) : (s.set f v).act = s.act := (rfl)
@[simp] theorem State.set_late (s : State) (f : Fld) (v : Nat) : (s.set f v).late = s.late := (rfl)
@[simp] theorem State.set_sw (s : State) (f : Fld) (v : Nat) : (s.set f v).sw = s.sw := (rfl)
@[simp] theorem State.set_see (s : State) (f : Fld) (v : Nat) : (s.set f v).see = s.see := (rfl)
@[simp] theorem State.set_jxl (s : State) (f : Fld) (v : Nat) : (s.set f v).jxl = s.jxl := (rfl)
@[simp] theorem State.set_csi (s : State) (f : Fld) (v : Nat) : (s.set f v).csi = s.csi := (rfl)
@[simp] theorem State.set_ppc (s : State) (f : Fld) (v : Nat) : (s.set f v).ppc = s.ppc := (rfl)
@[simp] theorem State.set_ald (s : State) (f : Fld) (v : Nat) : (s.set f v).ald = s.ald := (rfl)
@[simp] theorem State.set_gates (s : State) (f : Fld) (v : Nat) : (s.set f v).gates = s.gates := (rfl)
@[simp] theorem State.set_fab (s : State) (f : Fld) (v : Nat) : (s.set f v).fab = s.fab := (rfl)
@[simp] theorem State.set_tiles (s : State) (f : Fld) (v : Nat) : (s.set f v).tiles = s.tiles := (rfl)
@[simp] theorem State.set_cimq (s : State) (f : Fld) (v : Nat) : (s.set f v).cimq = s.cimq := (rfl)
@[simp] theorem State.set_sync (s : State) (f : Fld) (v : Nat) : (s.set f v).sync = s.sync := (rfl)
@[simp] theorem State.set_fw (s : State) (f : Fld) (v : Nat) : (s.set f v).fw = s.fw := (rfl)
@[simp] theorem State.set_pmu (s : State) (f : Fld) (v : Nat) : (s.set f v).pmu = s.pmu := (rfl)
@[simp] theorem State.set_touch (s : State) (f : Fld) (v : Nat) : (s.set f v).touch = s.touch := (rfl)
@[simp] theorem State.set_ras (s : State) (f : Fld) (v : Nat) : (s.set f v).ras = s.ras := (rfl)
@[simp] theorem State.set_mem (s : State) (f : Fld) (v : Nat) : (s.set f v).mem = s.mem := (rfl)
@[simp] theorem State.set_ladle (s : State) (f : Fld) (v : Nat) : (s.set f v).ladle = s.ladle := (rfl)
@[simp] theorem State.set_freeCtr (s : State) (f : Fld) (v : Nat) : (s.set f v).freeCtr = s.freeCtr := (rfl)
@[simp] theorem State.set_out (s : State) (f : Fld) (v : Nat) : (s.set f v).out = s.out := (rfl)
@[simp] theorem State.set_pending (s : State) (f : Fld) (v : Nat) : (s.set f v).pending = s.pending := (rfl)

/-! raise -/

@[simp] theorem State.raise_cfg (s : State) (f : Fld) : (s.raise f).cfg = s.cfg := (rfl)
@[simp] theorem State.raise_pins (s : State) (f : Fld) : (s.raise f).pins = s.pins := (rfl)
@[simp] theorem State.raise_tb (s : State) (f : Fld) : (s.raise f).tb = s.tb := (rfl)
@[simp] theorem State.raise_hst (s : State) (f : Fld) : (s.raise f).hst = s.hst := (rfl)
@[simp] theorem State.raise_act (s : State) (f : Fld) : (s.raise f).act = s.act := (rfl)
@[simp] theorem State.raise_late (s : State) (f : Fld) : (s.raise f).late = s.late := (rfl)
@[simp] theorem State.raise_sw (s : State) (f : Fld) : (s.raise f).sw = s.sw := (rfl)
@[simp] theorem State.raise_see (s : State) (f : Fld) : (s.raise f).see = s.see := (rfl)
@[simp] theorem State.raise_jxl (s : State) (f : Fld) : (s.raise f).jxl = s.jxl := (rfl)
@[simp] theorem State.raise_csi (s : State) (f : Fld) : (s.raise f).csi = s.csi := (rfl)
@[simp] theorem State.raise_ppc (s : State) (f : Fld) : (s.raise f).ppc = s.ppc := (rfl)
@[simp] theorem State.raise_ald (s : State) (f : Fld) : (s.raise f).ald = s.ald := (rfl)
@[simp] theorem State.raise_gates (s : State) (f : Fld) : (s.raise f).gates = s.gates := (rfl)
@[simp] theorem State.raise_fab (s : State) (f : Fld) : (s.raise f).fab = s.fab := (rfl)
@[simp] theorem State.raise_tiles (s : State) (f : Fld) : (s.raise f).tiles = s.tiles := (rfl)
@[simp] theorem State.raise_cimq (s : State) (f : Fld) : (s.raise f).cimq = s.cimq := (rfl)
@[simp] theorem State.raise_sync (s : State) (f : Fld) : (s.raise f).sync = s.sync := (rfl)
@[simp] theorem State.raise_fw (s : State) (f : Fld) : (s.raise f).fw = s.fw := (rfl)
@[simp] theorem State.raise_pmu (s : State) (f : Fld) : (s.raise f).pmu = s.pmu := (rfl)
@[simp] theorem State.raise_touch (s : State) (f : Fld) : (s.raise f).touch = s.touch := (rfl)
@[simp] theorem State.raise_ras (s : State) (f : Fld) : (s.raise f).ras = s.ras := (rfl)
@[simp] theorem State.raise_mem (s : State) (f : Fld) : (s.raise f).mem = s.mem := (rfl)
@[simp] theorem State.raise_ladle (s : State) (f : Fld) : (s.raise f).ladle = s.ladle := (rfl)
@[simp] theorem State.raise_freeCtr (s : State) (f : Fld) : (s.raise f).freeCtr = s.freeCtr := (rfl)
@[simp] theorem State.raise_out (s : State) (f : Fld) : (s.raise f).out = s.out := (rfl)
@[simp] theorem State.raise_pending (s : State) (f : Fld) : (s.raise f).pending = s.pending := (rfl)

/-! clear -/

@[simp] theorem State.clear_cfg (s : State) (f : Fld) : (s.clear f).cfg = s.cfg := (rfl)
@[simp] theorem State.clear_pins (s : State) (f : Fld) : (s.clear f).pins = s.pins := (rfl)
@[simp] theorem State.clear_tb (s : State) (f : Fld) : (s.clear f).tb = s.tb := (rfl)
@[simp] theorem State.clear_hst (s : State) (f : Fld) : (s.clear f).hst = s.hst := (rfl)
@[simp] theorem State.clear_act (s : State) (f : Fld) : (s.clear f).act = s.act := (rfl)
@[simp] theorem State.clear_late (s : State) (f : Fld) : (s.clear f).late = s.late := (rfl)
@[simp] theorem State.clear_sw (s : State) (f : Fld) : (s.clear f).sw = s.sw := (rfl)
@[simp] theorem State.clear_see (s : State) (f : Fld) : (s.clear f).see = s.see := (rfl)
@[simp] theorem State.clear_jxl (s : State) (f : Fld) : (s.clear f).jxl = s.jxl := (rfl)
@[simp] theorem State.clear_csi (s : State) (f : Fld) : (s.clear f).csi = s.csi := (rfl)
@[simp] theorem State.clear_ppc (s : State) (f : Fld) : (s.clear f).ppc = s.ppc := (rfl)
@[simp] theorem State.clear_ald (s : State) (f : Fld) : (s.clear f).ald = s.ald := (rfl)
@[simp] theorem State.clear_gates (s : State) (f : Fld) : (s.clear f).gates = s.gates := (rfl)
@[simp] theorem State.clear_fab (s : State) (f : Fld) : (s.clear f).fab = s.fab := (rfl)
@[simp] theorem State.clear_tiles (s : State) (f : Fld) : (s.clear f).tiles = s.tiles := (rfl)
@[simp] theorem State.clear_cimq (s : State) (f : Fld) : (s.clear f).cimq = s.cimq := (rfl)
@[simp] theorem State.clear_sync (s : State) (f : Fld) : (s.clear f).sync = s.sync := (rfl)
@[simp] theorem State.clear_fw (s : State) (f : Fld) : (s.clear f).fw = s.fw := (rfl)
@[simp] theorem State.clear_pmu (s : State) (f : Fld) : (s.clear f).pmu = s.pmu := (rfl)
@[simp] theorem State.clear_touch (s : State) (f : Fld) : (s.clear f).touch = s.touch := (rfl)
@[simp] theorem State.clear_ras (s : State) (f : Fld) : (s.clear f).ras = s.ras := (rfl)
@[simp] theorem State.clear_mem (s : State) (f : Fld) : (s.clear f).mem = s.mem := (rfl)
@[simp] theorem State.clear_ladle (s : State) (f : Fld) : (s.clear f).ladle = s.ladle := (rfl)
@[simp] theorem State.clear_freeCtr (s : State) (f : Fld) : (s.clear f).freeCtr = s.freeCtr := (rfl)
@[simp] theorem State.clear_out (s : State) (f : Fld) : (s.clear f).out = s.out := (rfl)
@[simp] theorem State.clear_pending (s : State) (f : Fld) : (s.clear f).pending = s.pending := (rfl)

/-! seti -/

@[simp] theorem State.seti_cfg (s : State) (f : Fld) (v : Int) : (s.seti f v).cfg = s.cfg := (rfl)
@[simp] theorem State.seti_pins (s : State) (f : Fld) (v : Int) : (s.seti f v).pins = s.pins := (rfl)
@[simp] theorem State.seti_tb (s : State) (f : Fld) (v : Int) : (s.seti f v).tb = s.tb := (rfl)
@[simp] theorem State.seti_hst (s : State) (f : Fld) (v : Int) : (s.seti f v).hst = s.hst := (rfl)
@[simp] theorem State.seti_act (s : State) (f : Fld) (v : Int) : (s.seti f v).act = s.act := (rfl)
@[simp] theorem State.seti_late (s : State) (f : Fld) (v : Int) : (s.seti f v).late = s.late := (rfl)
@[simp] theorem State.seti_sw (s : State) (f : Fld) (v : Int) : (s.seti f v).sw = s.sw := (rfl)
@[simp] theorem State.seti_see (s : State) (f : Fld) (v : Int) : (s.seti f v).see = s.see := (rfl)
@[simp] theorem State.seti_jxl (s : State) (f : Fld) (v : Int) : (s.seti f v).jxl = s.jxl := (rfl)
@[simp] theorem State.seti_csi (s : State) (f : Fld) (v : Int) : (s.seti f v).csi = s.csi := (rfl)
@[simp] theorem State.seti_ppc (s : State) (f : Fld) (v : Int) : (s.seti f v).ppc = s.ppc := (rfl)
@[simp] theorem State.seti_ald (s : State) (f : Fld) (v : Int) : (s.seti f v).ald = s.ald := (rfl)
@[simp] theorem State.seti_gates (s : State) (f : Fld) (v : Int) : (s.seti f v).gates = s.gates := (rfl)
@[simp] theorem State.seti_fab (s : State) (f : Fld) (v : Int) : (s.seti f v).fab = s.fab := (rfl)
@[simp] theorem State.seti_tiles (s : State) (f : Fld) (v : Int) : (s.seti f v).tiles = s.tiles := (rfl)
@[simp] theorem State.seti_cimq (s : State) (f : Fld) (v : Int) : (s.seti f v).cimq = s.cimq := (rfl)
@[simp] theorem State.seti_sync (s : State) (f : Fld) (v : Int) : (s.seti f v).sync = s.sync := (rfl)
@[simp] theorem State.seti_fw (s : State) (f : Fld) (v : Int) : (s.seti f v).fw = s.fw := (rfl)
@[simp] theorem State.seti_pmu (s : State) (f : Fld) (v : Int) : (s.seti f v).pmu = s.pmu := (rfl)
@[simp] theorem State.seti_touch (s : State) (f : Fld) (v : Int) : (s.seti f v).touch = s.touch := (rfl)
@[simp] theorem State.seti_ras (s : State) (f : Fld) (v : Int) : (s.seti f v).ras = s.ras := (rfl)
@[simp] theorem State.seti_mem (s : State) (f : Fld) (v : Int) : (s.seti f v).mem = s.mem := (rfl)
@[simp] theorem State.seti_ladle (s : State) (f : Fld) (v : Int) : (s.seti f v).ladle = s.ladle := (rfl)
@[simp] theorem State.seti_freeCtr (s : State) (f : Fld) (v : Int) : (s.seti f v).freeCtr = s.freeCtr := (rfl)
@[simp] theorem State.seti_out (s : State) (f : Fld) (v : Int) : (s.seti f v).out = s.out := (rfl)
@[simp] theorem State.seti_pending (s : State) (f : Fld) (v : Int) : (s.seti f v).pending = s.pending := (rfl)

/-! incBy -/

@[simp] theorem State.incBy_cfg (s : State) (f : Fld) (n : Nat) : (s.incBy f n).cfg = s.cfg := (rfl)
@[simp] theorem State.incBy_pins (s : State) (f : Fld) (n : Nat) : (s.incBy f n).pins = s.pins := (rfl)
@[simp] theorem State.incBy_tb (s : State) (f : Fld) (n : Nat) : (s.incBy f n).tb = s.tb := (rfl)
@[simp] theorem State.incBy_hst (s : State) (f : Fld) (n : Nat) : (s.incBy f n).hst = s.hst := (rfl)
@[simp] theorem State.incBy_act (s : State) (f : Fld) (n : Nat) : (s.incBy f n).act = s.act := (rfl)
@[simp] theorem State.incBy_late (s : State) (f : Fld) (n : Nat) : (s.incBy f n).late = s.late := (rfl)
@[simp] theorem State.incBy_sw (s : State) (f : Fld) (n : Nat) : (s.incBy f n).sw = s.sw := (rfl)
@[simp] theorem State.incBy_see (s : State) (f : Fld) (n : Nat) : (s.incBy f n).see = s.see := (rfl)
@[simp] theorem State.incBy_jxl (s : State) (f : Fld) (n : Nat) : (s.incBy f n).jxl = s.jxl := (rfl)
@[simp] theorem State.incBy_csi (s : State) (f : Fld) (n : Nat) : (s.incBy f n).csi = s.csi := (rfl)
@[simp] theorem State.incBy_ppc (s : State) (f : Fld) (n : Nat) : (s.incBy f n).ppc = s.ppc := (rfl)
@[simp] theorem State.incBy_ald (s : State) (f : Fld) (n : Nat) : (s.incBy f n).ald = s.ald := (rfl)
@[simp] theorem State.incBy_gates (s : State) (f : Fld) (n : Nat) : (s.incBy f n).gates = s.gates := (rfl)
@[simp] theorem State.incBy_fab (s : State) (f : Fld) (n : Nat) : (s.incBy f n).fab = s.fab := (rfl)
@[simp] theorem State.incBy_tiles (s : State) (f : Fld) (n : Nat) : (s.incBy f n).tiles = s.tiles := (rfl)
@[simp] theorem State.incBy_cimq (s : State) (f : Fld) (n : Nat) : (s.incBy f n).cimq = s.cimq := (rfl)
@[simp] theorem State.incBy_sync (s : State) (f : Fld) (n : Nat) : (s.incBy f n).sync = s.sync := (rfl)
@[simp] theorem State.incBy_fw (s : State) (f : Fld) (n : Nat) : (s.incBy f n).fw = s.fw := (rfl)
@[simp] theorem State.incBy_pmu (s : State) (f : Fld) (n : Nat) : (s.incBy f n).pmu = s.pmu := (rfl)
@[simp] theorem State.incBy_touch (s : State) (f : Fld) (n : Nat) : (s.incBy f n).touch = s.touch := (rfl)
@[simp] theorem State.incBy_ras (s : State) (f : Fld) (n : Nat) : (s.incBy f n).ras = s.ras := (rfl)
@[simp] theorem State.incBy_mem (s : State) (f : Fld) (n : Nat) : (s.incBy f n).mem = s.mem := (rfl)
@[simp] theorem State.incBy_ladle (s : State) (f : Fld) (n : Nat) : (s.incBy f n).ladle = s.ladle := (rfl)
@[simp] theorem State.incBy_freeCtr (s : State) (f : Fld) (n : Nat) : (s.incBy f n).freeCtr = s.freeCtr := (rfl)
@[simp] theorem State.incBy_out (s : State) (f : Fld) (n : Nat) : (s.incBy f n).out = s.out := (rfl)
@[simp] theorem State.incBy_pending (s : State) (f : Fld) (n : Nat) : (s.incBy f n).pending = s.pending := (rfl)

/-! inc -/

@[simp] theorem State.inc_cfg (s : State) (f : Fld) : (s.inc f).cfg = s.cfg := (rfl)
@[simp] theorem State.inc_pins (s : State) (f : Fld) : (s.inc f).pins = s.pins := (rfl)
@[simp] theorem State.inc_tb (s : State) (f : Fld) : (s.inc f).tb = s.tb := (rfl)
@[simp] theorem State.inc_hst (s : State) (f : Fld) : (s.inc f).hst = s.hst := (rfl)
@[simp] theorem State.inc_act (s : State) (f : Fld) : (s.inc f).act = s.act := (rfl)
@[simp] theorem State.inc_late (s : State) (f : Fld) : (s.inc f).late = s.late := (rfl)
@[simp] theorem State.inc_sw (s : State) (f : Fld) : (s.inc f).sw = s.sw := (rfl)
@[simp] theorem State.inc_see (s : State) (f : Fld) : (s.inc f).see = s.see := (rfl)
@[simp] theorem State.inc_jxl (s : State) (f : Fld) : (s.inc f).jxl = s.jxl := (rfl)
@[simp] theorem State.inc_csi (s : State) (f : Fld) : (s.inc f).csi = s.csi := (rfl)
@[simp] theorem State.inc_ppc (s : State) (f : Fld) : (s.inc f).ppc = s.ppc := (rfl)
@[simp] theorem State.inc_ald (s : State) (f : Fld) : (s.inc f).ald = s.ald := (rfl)
@[simp] theorem State.inc_gates (s : State) (f : Fld) : (s.inc f).gates = s.gates := (rfl)
@[simp] theorem State.inc_fab (s : State) (f : Fld) : (s.inc f).fab = s.fab := (rfl)
@[simp] theorem State.inc_tiles (s : State) (f : Fld) : (s.inc f).tiles = s.tiles := (rfl)
@[simp] theorem State.inc_cimq (s : State) (f : Fld) : (s.inc f).cimq = s.cimq := (rfl)
@[simp] theorem State.inc_sync (s : State) (f : Fld) : (s.inc f).sync = s.sync := (rfl)
@[simp] theorem State.inc_fw (s : State) (f : Fld) : (s.inc f).fw = s.fw := (rfl)
@[simp] theorem State.inc_pmu (s : State) (f : Fld) : (s.inc f).pmu = s.pmu := (rfl)
@[simp] theorem State.inc_touch (s : State) (f : Fld) : (s.inc f).touch = s.touch := (rfl)
@[simp] theorem State.inc_ras (s : State) (f : Fld) : (s.inc f).ras = s.ras := (rfl)
@[simp] theorem State.inc_mem (s : State) (f : Fld) : (s.inc f).mem = s.mem := (rfl)
@[simp] theorem State.inc_ladle (s : State) (f : Fld) : (s.inc f).ladle = s.ladle := (rfl)
@[simp] theorem State.inc_freeCtr (s : State) (f : Fld) : (s.inc f).freeCtr = s.freeCtr := (rfl)
@[simp] theorem State.inc_out (s : State) (f : Fld) : (s.inc f).out = s.out := (rfl)
@[simp] theorem State.inc_pending (s : State) (f : Fld) : (s.inc f).pending = s.pending := (rfl)

/-! incWrap -/

@[simp] theorem State.incWrap_cfg (s : State) (f : Fld) (n : Nat) : (s.incWrap f n).cfg = s.cfg := (rfl)
@[simp] theorem State.incWrap_pins (s : State) (f : Fld) (n : Nat) : (s.incWrap f n).pins = s.pins := (rfl)
@[simp] theorem State.incWrap_tb (s : State) (f : Fld) (n : Nat) : (s.incWrap f n).tb = s.tb := (rfl)
@[simp] theorem State.incWrap_hst (s : State) (f : Fld) (n : Nat) : (s.incWrap f n).hst = s.hst := (rfl)
@[simp] theorem State.incWrap_act (s : State) (f : Fld) (n : Nat) : (s.incWrap f n).act = s.act := (rfl)
@[simp] theorem State.incWrap_late (s : State) (f : Fld) (n : Nat) : (s.incWrap f n).late = s.late := (rfl)
@[simp] theorem State.incWrap_sw (s : State) (f : Fld) (n : Nat) : (s.incWrap f n).sw = s.sw := (rfl)
@[simp] theorem State.incWrap_see (s : State) (f : Fld) (n : Nat) : (s.incWrap f n).see = s.see := (rfl)
@[simp] theorem State.incWrap_jxl (s : State) (f : Fld) (n : Nat) : (s.incWrap f n).jxl = s.jxl := (rfl)
@[simp] theorem State.incWrap_csi (s : State) (f : Fld) (n : Nat) : (s.incWrap f n).csi = s.csi := (rfl)
@[simp] theorem State.incWrap_ppc (s : State) (f : Fld) (n : Nat) : (s.incWrap f n).ppc = s.ppc := (rfl)
@[simp] theorem State.incWrap_ald (s : State) (f : Fld) (n : Nat) : (s.incWrap f n).ald = s.ald := (rfl)
@[simp] theorem State.incWrap_gates (s : State) (f : Fld) (n : Nat) : (s.incWrap f n).gates = s.gates := (rfl)
@[simp] theorem State.incWrap_fab (s : State) (f : Fld) (n : Nat) : (s.incWrap f n).fab = s.fab := (rfl)
@[simp] theorem State.incWrap_tiles (s : State) (f : Fld) (n : Nat) : (s.incWrap f n).tiles = s.tiles := (rfl)
@[simp] theorem State.incWrap_cimq (s : State) (f : Fld) (n : Nat) : (s.incWrap f n).cimq = s.cimq := (rfl)
@[simp] theorem State.incWrap_sync (s : State) (f : Fld) (n : Nat) : (s.incWrap f n).sync = s.sync := (rfl)
@[simp] theorem State.incWrap_fw (s : State) (f : Fld) (n : Nat) : (s.incWrap f n).fw = s.fw := (rfl)
@[simp] theorem State.incWrap_pmu (s : State) (f : Fld) (n : Nat) : (s.incWrap f n).pmu = s.pmu := (rfl)
@[simp] theorem State.incWrap_touch (s : State) (f : Fld) (n : Nat) : (s.incWrap f n).touch = s.touch := (rfl)
@[simp] theorem State.incWrap_ras (s : State) (f : Fld) (n : Nat) : (s.incWrap f n).ras = s.ras := (rfl)
@[simp] theorem State.incWrap_mem (s : State) (f : Fld) (n : Nat) : (s.incWrap f n).mem = s.mem := (rfl)
@[simp] theorem State.incWrap_ladle (s : State) (f : Fld) (n : Nat) : (s.incWrap f n).ladle = s.ladle := (rfl)
@[simp] theorem State.incWrap_freeCtr (s : State) (f : Fld) (n : Nat) : (s.incWrap f n).freeCtr = s.freeCtr := (rfl)
@[simp] theorem State.incWrap_out (s : State) (f : Fld) (n : Nat) : (s.incWrap f n).out = s.out := (rfl)
@[simp] theorem State.incWrap_pending (s : State) (f : Fld) (n : Nat) : (s.incWrap f n).pending = s.pending := (rfl)

/-! set64 -/

@[simp] theorem State.set64_cfg (s : State) (lo hi : Fld) (v : Nat) : (s.set64 lo hi v).cfg = s.cfg := (rfl)
@[simp] theorem State.set64_pins (s : State) (lo hi : Fld) (v : Nat) : (s.set64 lo hi v).pins = s.pins := (rfl)
@[simp] theorem State.set64_tb (s : State) (lo hi : Fld) (v : Nat) : (s.set64 lo hi v).tb = s.tb := (rfl)
@[simp] theorem State.set64_hst (s : State) (lo hi : Fld) (v : Nat) : (s.set64 lo hi v).hst = s.hst := (rfl)
@[simp] theorem State.set64_act (s : State) (lo hi : Fld) (v : Nat) : (s.set64 lo hi v).act = s.act := (rfl)
@[simp] theorem State.set64_late (s : State) (lo hi : Fld) (v : Nat) : (s.set64 lo hi v).late = s.late := (rfl)
@[simp] theorem State.set64_sw (s : State) (lo hi : Fld) (v : Nat) : (s.set64 lo hi v).sw = s.sw := (rfl)
@[simp] theorem State.set64_see (s : State) (lo hi : Fld) (v : Nat) : (s.set64 lo hi v).see = s.see := (rfl)
@[simp] theorem State.set64_jxl (s : State) (lo hi : Fld) (v : Nat) : (s.set64 lo hi v).jxl = s.jxl := (rfl)
@[simp] theorem State.set64_csi (s : State) (lo hi : Fld) (v : Nat) : (s.set64 lo hi v).csi = s.csi := (rfl)
@[simp] theorem State.set64_ppc (s : State) (lo hi : Fld) (v : Nat) : (s.set64 lo hi v).ppc = s.ppc := (rfl)
@[simp] theorem State.set64_ald (s : State) (lo hi : Fld) (v : Nat) : (s.set64 lo hi v).ald = s.ald := (rfl)
@[simp] theorem State.set64_gates (s : State) (lo hi : Fld) (v : Nat) : (s.set64 lo hi v).gates = s.gates := (rfl)
@[simp] theorem State.set64_fab (s : State) (lo hi : Fld) (v : Nat) : (s.set64 lo hi v).fab = s.fab := (rfl)
@[simp] theorem State.set64_tiles (s : State) (lo hi : Fld) (v : Nat) : (s.set64 lo hi v).tiles = s.tiles := (rfl)
@[simp] theorem State.set64_cimq (s : State) (lo hi : Fld) (v : Nat) : (s.set64 lo hi v).cimq = s.cimq := (rfl)
@[simp] theorem State.set64_sync (s : State) (lo hi : Fld) (v : Nat) : (s.set64 lo hi v).sync = s.sync := (rfl)
@[simp] theorem State.set64_fw (s : State) (lo hi : Fld) (v : Nat) : (s.set64 lo hi v).fw = s.fw := (rfl)
@[simp] theorem State.set64_pmu (s : State) (lo hi : Fld) (v : Nat) : (s.set64 lo hi v).pmu = s.pmu := (rfl)
@[simp] theorem State.set64_touch (s : State) (lo hi : Fld) (v : Nat) : (s.set64 lo hi v).touch = s.touch := (rfl)
@[simp] theorem State.set64_ras (s : State) (lo hi : Fld) (v : Nat) : (s.set64 lo hi v).ras = s.ras := (rfl)
@[simp] theorem State.set64_mem (s : State) (lo hi : Fld) (v : Nat) : (s.set64 lo hi v).mem = s.mem := (rfl)
@[simp] theorem State.set64_ladle (s : State) (lo hi : Fld) (v : Nat) : (s.set64 lo hi v).ladle = s.ladle := (rfl)
@[simp] theorem State.set64_freeCtr (s : State) (lo hi : Fld) (v : Nat) : (s.set64 lo hi v).freeCtr = s.freeCtr := (rfl)
@[simp] theorem State.set64_out (s : State) (lo hi : Fld) (v : Nat) : (s.set64 lo hi v).out = s.out := (rfl)
@[simp] theorem State.set64_pending (s : State) (lo hi : Fld) (v : Nat) : (s.set64 lo hi v).pending = s.pending := (rfl)

/-! dropRegs -/

@[simp] theorem State.dropRegs_cfg (s : State) (p : Nat → Bool) : (s.dropRegs p).cfg = s.cfg := (rfl)
@[simp] theorem State.dropRegs_pins (s : State) (p : Nat → Bool) : (s.dropRegs p).pins = s.pins := (rfl)
@[simp] theorem State.dropRegs_tb (s : State) (p : Nat → Bool) : (s.dropRegs p).tb = s.tb := (rfl)
@[simp] theorem State.dropRegs_hst (s : State) (p : Nat → Bool) : (s.dropRegs p).hst = s.hst := (rfl)
@[simp] theorem State.dropRegs_act (s : State) (p : Nat → Bool) : (s.dropRegs p).act = s.act := (rfl)
@[simp] theorem State.dropRegs_late (s : State) (p : Nat → Bool) : (s.dropRegs p).late = s.late := (rfl)
@[simp] theorem State.dropRegs_sw (s : State) (p : Nat → Bool) : (s.dropRegs p).sw = s.sw := (rfl)
@[simp] theorem State.dropRegs_see (s : State) (p : Nat → Bool) : (s.dropRegs p).see = s.see := (rfl)
@[simp] theorem State.dropRegs_jxl (s : State) (p : Nat → Bool) : (s.dropRegs p).jxl = s.jxl := (rfl)
@[simp] theorem State.dropRegs_csi (s : State) (p : Nat → Bool) : (s.dropRegs p).csi = s.csi := (rfl)
@[simp] theorem State.dropRegs_ppc (s : State) (p : Nat → Bool) : (s.dropRegs p).ppc = s.ppc := (rfl)
@[simp] theorem State.dropRegs_ald (s : State) (p : Nat → Bool) : (s.dropRegs p).ald = s.ald := (rfl)
@[simp] theorem State.dropRegs_gates (s : State) (p : Nat → Bool) : (s.dropRegs p).gates = s.gates := (rfl)
@[simp] theorem State.dropRegs_fab (s : State) (p : Nat → Bool) : (s.dropRegs p).fab = s.fab := (rfl)
@[simp] theorem State.dropRegs_tiles (s : State) (p : Nat → Bool) : (s.dropRegs p).tiles = s.tiles := (rfl)
@[simp] theorem State.dropRegs_cimq (s : State) (p : Nat → Bool) : (s.dropRegs p).cimq = s.cimq := (rfl)
@[simp] theorem State.dropRegs_sync (s : State) (p : Nat → Bool) : (s.dropRegs p).sync = s.sync := (rfl)
@[simp] theorem State.dropRegs_fw (s : State) (p : Nat → Bool) : (s.dropRegs p).fw = s.fw := (rfl)
@[simp] theorem State.dropRegs_pmu (s : State) (p : Nat → Bool) : (s.dropRegs p).pmu = s.pmu := (rfl)
@[simp] theorem State.dropRegs_touch (s : State) (p : Nat → Bool) : (s.dropRegs p).touch = s.touch := (rfl)
@[simp] theorem State.dropRegs_ras (s : State) (p : Nat → Bool) : (s.dropRegs p).ras = s.ras := (rfl)
@[simp] theorem State.dropRegs_mem (s : State) (p : Nat → Bool) : (s.dropRegs p).mem = s.mem := (rfl)
@[simp] theorem State.dropRegs_ladle (s : State) (p : Nat → Bool) : (s.dropRegs p).ladle = s.ladle := (rfl)
@[simp] theorem State.dropRegs_freeCtr (s : State) (p : Nat → Bool) : (s.dropRegs p).freeCtr = s.freeCtr := (rfl)
@[simp] theorem State.dropRegs_out (s : State) (p : Nat → Bool) : (s.dropRegs p).out = s.out := (rfl)
@[simp] theorem State.dropRegs_pending (s : State) (p : Nat → Bool) : (s.dropRegs p).pending = s.pending := (rfl)

/-! aset -/

@[simp] theorem State.aset_cfg (s : State) (f : Fld) (v : Nat) : (s.aset f v).cfg = s.cfg := (rfl)
@[simp] theorem State.aset_pins (s : State) (f : Fld) (v : Nat) : (s.aset f v).pins = s.pins := (rfl)
@[simp] theorem State.aset_regs (s : State) (f : Fld) (v : Nat) : (s.aset f v).regs = s.regs := (rfl)
@[simp] theorem State.aset_tb (s : State) (f : Fld) (v : Nat) : (s.aset f v).tb = s.tb := (rfl)
@[simp] theorem State.aset_hst (s : State) (f : Fld) (v : Nat) : (s.aset f v).hst = s.hst := (rfl)
@[simp] theorem State.aset_late (s : State) (f : Fld) (v : Nat) : (s.aset f v).late = s.late := (rfl)
@[simp] theorem State.aset_sw (s : State) (f : Fld) (v : Nat) : (s.aset f v).sw = s.sw := (rfl)
@[simp] theorem State.aset_see (s : State) (f : Fld) (v : Nat) : (s.aset f v).see = s.see := (rfl)
@[simp] theorem State.aset_jxl (s : State) (f : Fld) (v : Nat) : (s.aset f v).jxl = s.jxl := (rfl)
@[simp] theorem State.aset_csi (s : State) (f : Fld) (v : Nat) : (s.aset f v).csi = s.csi := (rfl)
@[simp] theorem State.aset_ppc (s : State) (f : Fld) (v : Nat) : (s.aset f v).ppc = s.ppc := (rfl)
@[simp] theorem State.aset_ald (s : State) (f : Fld) (v : Nat) : (s.aset f v).ald = s.ald := (rfl)
@[simp] theorem State.aset_gates (s : State) (f : Fld) (v : Nat) : (s.aset f v).gates = s.gates := (rfl)
@[simp] theorem State.aset_fab (s : State) (f : Fld) (v : Nat) : (s.aset f v).fab = s.fab := (rfl)
@[simp] theorem State.aset_tiles (s : State) (f : Fld) (v : Nat) : (s.aset f v).tiles = s.tiles := (rfl)
@[simp] theorem State.aset_cimq (s : State) (f : Fld) (v : Nat) : (s.aset f v).cimq = s.cimq := (rfl)
@[simp] theorem State.aset_sync (s : State) (f : Fld) (v : Nat) : (s.aset f v).sync = s.sync := (rfl)
@[simp] theorem State.aset_fw (s : State) (f : Fld) (v : Nat) : (s.aset f v).fw = s.fw := (rfl)
@[simp] theorem State.aset_pmu (s : State) (f : Fld) (v : Nat) : (s.aset f v).pmu = s.pmu := (rfl)
@[simp] theorem State.aset_touch (s : State) (f : Fld) (v : Nat) : (s.aset f v).touch = s.touch := (rfl)
@[simp] theorem State.aset_ras (s : State) (f : Fld) (v : Nat) : (s.aset f v).ras = s.ras := (rfl)
@[simp] theorem State.aset_mem (s : State) (f : Fld) (v : Nat) : (s.aset f v).mem = s.mem := (rfl)
@[simp] theorem State.aset_ladle (s : State) (f : Fld) (v : Nat) : (s.aset f v).ladle = s.ladle := (rfl)
@[simp] theorem State.aset_freeCtr (s : State) (f : Fld) (v : Nat) : (s.aset f v).freeCtr = s.freeCtr := (rfl)
@[simp] theorem State.aset_out (s : State) (f : Fld) (v : Nat) : (s.aset f v).out = s.out := (rfl)
@[simp] theorem State.aset_pending (s : State) (f : Fld) (v : Nat) : (s.aset f v).pending = s.pending := (rfl)
@[simp] theorem State.aset_reg (s : State) (f : Fld) (v : Nat) (k : Nat) : (s.aset f v).reg k = s.reg k := (rfl)
@[simp] theorem State.aset_get (s : State) (f : Fld) (v : Nat) (g : Fld) : (s.aset f v).get g = s.get g := (rfl)
@[simp] theorem State.aset_flag (s : State) (f : Fld) (v : Nat) (g : Fld) : (s.aset f v).flag g = s.flag g := (rfl)
@[simp] theorem State.aset_geti (s : State) (f : Fld) (v : Nat) (g : Fld) : (s.aset f v).geti g = s.geti g := (rfl)
@[simp] theorem State.aset_domOn (s : State) (f : Fld) (v : Nat) (d : Nat) : (s.aset f v).domOn d = s.domOn d := (rfl)

/-! emit -/

@[simp] theorem State.emit_cfg (s : State) (o : Out) : (s.emit o).cfg = s.cfg := (rfl)
@[simp] theorem State.emit_pins (s : State) (o : Out) : (s.emit o).pins = s.pins := (rfl)
@[simp] theorem State.emit_regs (s : State) (o : Out) : (s.emit o).regs = s.regs := (rfl)
@[simp] theorem State.emit_tb (s : State) (o : Out) : (s.emit o).tb = s.tb := (rfl)
@[simp] theorem State.emit_hst (s : State) (o : Out) : (s.emit o).hst = s.hst := (rfl)
@[simp] theorem State.emit_act (s : State) (o : Out) : (s.emit o).act = s.act := (rfl)
@[simp] theorem State.emit_late (s : State) (o : Out) : (s.emit o).late = s.late := (rfl)
@[simp] theorem State.emit_sw (s : State) (o : Out) : (s.emit o).sw = s.sw := (rfl)
@[simp] theorem State.emit_see (s : State) (o : Out) : (s.emit o).see = s.see := (rfl)
@[simp] theorem State.emit_jxl (s : State) (o : Out) : (s.emit o).jxl = s.jxl := (rfl)
@[simp] theorem State.emit_csi (s : State) (o : Out) : (s.emit o).csi = s.csi := (rfl)
@[simp] theorem State.emit_ppc (s : State) (o : Out) : (s.emit o).ppc = s.ppc := (rfl)
@[simp] theorem State.emit_ald (s : State) (o : Out) : (s.emit o).ald = s.ald := (rfl)
@[simp] theorem State.emit_gates (s : State) (o : Out) : (s.emit o).gates = s.gates := (rfl)
@[simp] theorem State.emit_fab (s : State) (o : Out) : (s.emit o).fab = s.fab := (rfl)
@[simp] theorem State.emit_tiles (s : State) (o : Out) : (s.emit o).tiles = s.tiles := (rfl)
@[simp] theorem State.emit_cimq (s : State) (o : Out) : (s.emit o).cimq = s.cimq := (rfl)
@[simp] theorem State.emit_sync (s : State) (o : Out) : (s.emit o).sync = s.sync := (rfl)
@[simp] theorem State.emit_fw (s : State) (o : Out) : (s.emit o).fw = s.fw := (rfl)
@[simp] theorem State.emit_pmu (s : State) (o : Out) : (s.emit o).pmu = s.pmu := (rfl)
@[simp] theorem State.emit_touch (s : State) (o : Out) : (s.emit o).touch = s.touch := (rfl)
@[simp] theorem State.emit_ras (s : State) (o : Out) : (s.emit o).ras = s.ras := (rfl)
@[simp] theorem State.emit_mem (s : State) (o : Out) : (s.emit o).mem = s.mem := (rfl)
@[simp] theorem State.emit_ladle (s : State) (o : Out) : (s.emit o).ladle = s.ladle := (rfl)
@[simp] theorem State.emit_freeCtr (s : State) (o : Out) : (s.emit o).freeCtr = s.freeCtr := (rfl)
@[simp] theorem State.emit_pending (s : State) (o : Out) : (s.emit o).pending = s.pending := (rfl)
@[simp] theorem State.emit_reg (s : State) (o : Out) (k : Nat) : (s.emit o).reg k = s.reg k := (rfl)
@[simp] theorem State.emit_get (s : State) (o : Out) (g : Fld) : (s.emit o).get g = s.get g := (rfl)
@[simp] theorem State.emit_flag (s : State) (o : Out) (g : Fld) : (s.emit o).flag g = s.flag g := (rfl)
@[simp] theorem State.emit_geti (s : State) (o : Out) (g : Fld) : (s.emit o).geti g = s.geti g := (rfl)
@[simp] theorem State.emit_domOn (s : State) (o : Out) (d : Nat) : (s.emit o).domOn d = s.domOn d := (rfl)

/-! bench -/

@[simp] theorem State.bench_cfg (s : State) (n : Notice) (i : Nat) : (s.bench n i).cfg = s.cfg := (rfl)
@[simp] theorem State.bench_pins (s : State) (n : Notice) (i : Nat) : (s.bench n i).pins = s.pins := (rfl)
@[simp] theorem State.bench_regs (s : State) (n : Notice) (i : Nat) : (s.bench n i).regs = s.regs := (rfl)
@[simp] theorem State.bench_tb (s : State) (n : Notice) (i : Nat) : (s.bench n i).tb = s.tb := (rfl)
@[simp] theorem State.bench_hst (s : State) (n : Notice) (i : Nat) : (s.bench n i).hst = s.hst := (rfl)
@[simp] theorem State.bench_act (s : State) (n : Notice) (i : Nat) : (s.bench n i).act = s.act := (rfl)
@[simp] theorem State.bench_late (s : State) (n : Notice) (i : Nat) : (s.bench n i).late = s.late := (rfl)
@[simp] theorem State.bench_sw (s : State) (n : Notice) (i : Nat) : (s.bench n i).sw = s.sw := (rfl)
@[simp] theorem State.bench_see (s : State) (n : Notice) (i : Nat) : (s.bench n i).see = s.see := (rfl)
@[simp] theorem State.bench_jxl (s : State) (n : Notice) (i : Nat) : (s.bench n i).jxl = s.jxl := (rfl)
@[simp] theorem State.bench_csi (s : State) (n : Notice) (i : Nat) : (s.bench n i).csi = s.csi := (rfl)
@[simp] theorem State.bench_ppc (s : State) (n : Notice) (i : Nat) : (s.bench n i).ppc = s.ppc := (rfl)
@[simp] theorem State.bench_ald (s : State) (n : Notice) (i : Nat) : (s.bench n i).ald = s.ald := (rfl)
@[simp] theorem State.bench_gates (s : State) (n : Notice) (i : Nat) : (s.bench n i).gates = s.gates := (rfl)
@[simp] theorem State.bench_fab (s : State) (n : Notice) (i : Nat) : (s.bench n i).fab = s.fab := (rfl)
@[simp] theorem State.bench_tiles (s : State) (n : Notice) (i : Nat) : (s.bench n i).tiles = s.tiles := (rfl)
@[simp] theorem State.bench_cimq (s : State) (n : Notice) (i : Nat) : (s.bench n i).cimq = s.cimq := (rfl)
@[simp] theorem State.bench_sync (s : State) (n : Notice) (i : Nat) : (s.bench n i).sync = s.sync := (rfl)
@[simp] theorem State.bench_fw (s : State) (n : Notice) (i : Nat) : (s.bench n i).fw = s.fw := (rfl)
@[simp] theorem State.bench_pmu (s : State) (n : Notice) (i : Nat) : (s.bench n i).pmu = s.pmu := (rfl)
@[simp] theorem State.bench_touch (s : State) (n : Notice) (i : Nat) : (s.bench n i).touch = s.touch := (rfl)
@[simp] theorem State.bench_ras (s : State) (n : Notice) (i : Nat) : (s.bench n i).ras = s.ras := (rfl)
@[simp] theorem State.bench_mem (s : State) (n : Notice) (i : Nat) : (s.bench n i).mem = s.mem := (rfl)
@[simp] theorem State.bench_ladle (s : State) (n : Notice) (i : Nat) : (s.bench n i).ladle = s.ladle := (rfl)
@[simp] theorem State.bench_freeCtr (s : State) (n : Notice) (i : Nat) : (s.bench n i).freeCtr = s.freeCtr := (rfl)
@[simp] theorem State.bench_pending (s : State) (n : Notice) (i : Nat) : (s.bench n i).pending = s.pending := (rfl)
@[simp] theorem State.bench_reg (s : State) (n : Notice) (i : Nat) (k : Nat) : (s.bench n i).reg k = s.reg k := (rfl)
@[simp] theorem State.bench_get (s : State) (n : Notice) (i : Nat) (g : Fld) : (s.bench n i).get g = s.get g := (rfl)
@[simp] theorem State.bench_flag (s : State) (n : Notice) (i : Nat) (g : Fld) : (s.bench n i).flag g = s.flag g := (rfl)
@[simp] theorem State.bench_geti (s : State) (n : Notice) (i : Nat) (g : Fld) : (s.bench n i).geti g = s.geti g := (rfl)
@[simp] theorem State.bench_domOn (s : State) (n : Notice) (i : Nat) (d : Nat) : (s.bench n i).domOn d = s.domOn d := (rfl)

/-! tick -/

@[simp] theorem State.tick_cfg (s : State) : (s.tick).cfg = s.cfg := (rfl)
@[simp] theorem State.tick_pins (s : State) : (s.tick).pins = s.pins := (rfl)
@[simp] theorem State.tick_regs (s : State) : (s.tick).regs = s.regs := (rfl)
@[simp] theorem State.tick_tb (s : State) : (s.tick).tb = s.tb := (rfl)
@[simp] theorem State.tick_hst (s : State) : (s.tick).hst = s.hst := (rfl)
@[simp] theorem State.tick_act (s : State) : (s.tick).act = s.act := (rfl)
@[simp] theorem State.tick_late (s : State) : (s.tick).late = s.late := (rfl)
@[simp] theorem State.tick_sw (s : State) : (s.tick).sw = s.sw := (rfl)
@[simp] theorem State.tick_see (s : State) : (s.tick).see = s.see := (rfl)
@[simp] theorem State.tick_jxl (s : State) : (s.tick).jxl = s.jxl := (rfl)
@[simp] theorem State.tick_csi (s : State) : (s.tick).csi = s.csi := (rfl)
@[simp] theorem State.tick_ppc (s : State) : (s.tick).ppc = s.ppc := (rfl)
@[simp] theorem State.tick_ald (s : State) : (s.tick).ald = s.ald := (rfl)
@[simp] theorem State.tick_gates (s : State) : (s.tick).gates = s.gates := (rfl)
@[simp] theorem State.tick_fab (s : State) : (s.tick).fab = s.fab := (rfl)
@[simp] theorem State.tick_tiles (s : State) : (s.tick).tiles = s.tiles := (rfl)
@[simp] theorem State.tick_cimq (s : State) : (s.tick).cimq = s.cimq := (rfl)
@[simp] theorem State.tick_sync (s : State) : (s.tick).sync = s.sync := (rfl)
@[simp] theorem State.tick_fw (s : State) : (s.tick).fw = s.fw := (rfl)
@[simp] theorem State.tick_pmu (s : State) : (s.tick).pmu = s.pmu := (rfl)
@[simp] theorem State.tick_touch (s : State) : (s.tick).touch = s.touch := (rfl)
@[simp] theorem State.tick_ras (s : State) : (s.tick).ras = s.ras := (rfl)
@[simp] theorem State.tick_mem (s : State) : (s.tick).mem = s.mem := (rfl)
@[simp] theorem State.tick_ladle (s : State) : (s.tick).ladle = s.ladle := (rfl)
@[simp] theorem State.tick_out (s : State) : (s.tick).out = s.out := (rfl)
@[simp] theorem State.tick_pending (s : State) : (s.tick).pending = s.pending := (rfl)
@[simp] theorem State.tick_reg (s : State) (k : Nat) : (s.tick).reg k = s.reg k := (rfl)
@[simp] theorem State.tick_get (s : State) (g : Fld) : (s.tick).get g = s.get g := (rfl)
@[simp] theorem State.tick_flag (s : State) (g : Fld) : (s.tick).flag g = s.flag g := (rfl)
@[simp] theorem State.tick_geti (s : State) (g : Fld) : (s.tick).geti g = s.geti g := (rfl)
@[simp] theorem State.tick_domOn (s : State) (d : Nat) : (s.tick).domOn d = s.domOn d := (rfl)

/-! setTile -/

@[simp] theorem State.setTile_cfg (s : State) (n : Nat) (t : Tile) : (s.setTile n t).cfg = s.cfg := (rfl)
@[simp] theorem State.setTile_pins (s : State) (n : Nat) (t : Tile) : (s.setTile n t).pins = s.pins := (rfl)
@[simp] theorem State.setTile_regs (s : State) (n : Nat) (t : Tile) : (s.setTile n t).regs = s.regs := (rfl)
@[simp] theorem State.setTile_tb (s : State) (n : Nat) (t : Tile) : (s.setTile n t).tb = s.tb := (rfl)
@[simp] theorem State.setTile_hst (s : State) (n : Nat) (t : Tile) : (s.setTile n t).hst = s.hst := (rfl)
@[simp] theorem State.setTile_act (s : State) (n : Nat) (t : Tile) : (s.setTile n t).act = s.act := (rfl)
@[simp] theorem State.setTile_late (s : State) (n : Nat) (t : Tile) : (s.setTile n t).late = s.late := (rfl)
@[simp] theorem State.setTile_sw (s : State) (n : Nat) (t : Tile) : (s.setTile n t).sw = s.sw := (rfl)
@[simp] theorem State.setTile_see (s : State) (n : Nat) (t : Tile) : (s.setTile n t).see = s.see := (rfl)
@[simp] theorem State.setTile_jxl (s : State) (n : Nat) (t : Tile) : (s.setTile n t).jxl = s.jxl := (rfl)
@[simp] theorem State.setTile_csi (s : State) (n : Nat) (t : Tile) : (s.setTile n t).csi = s.csi := (rfl)
@[simp] theorem State.setTile_ppc (s : State) (n : Nat) (t : Tile) : (s.setTile n t).ppc = s.ppc := (rfl)
@[simp] theorem State.setTile_ald (s : State) (n : Nat) (t : Tile) : (s.setTile n t).ald = s.ald := (rfl)
@[simp] theorem State.setTile_gates (s : State) (n : Nat) (t : Tile) : (s.setTile n t).gates = s.gates := (rfl)
@[simp] theorem State.setTile_fab (s : State) (n : Nat) (t : Tile) : (s.setTile n t).fab = s.fab := (rfl)
@[simp] theorem State.setTile_cimq (s : State) (n : Nat) (t : Tile) : (s.setTile n t).cimq = s.cimq := (rfl)
@[simp] theorem State.setTile_sync (s : State) (n : Nat) (t : Tile) : (s.setTile n t).sync = s.sync := (rfl)
@[simp] theorem State.setTile_fw (s : State) (n : Nat) (t : Tile) : (s.setTile n t).fw = s.fw := (rfl)
@[simp] theorem State.setTile_pmu (s : State) (n : Nat) (t : Tile) : (s.setTile n t).pmu = s.pmu := (rfl)
@[simp] theorem State.setTile_touch (s : State) (n : Nat) (t : Tile) : (s.setTile n t).touch = s.touch := (rfl)
@[simp] theorem State.setTile_ras (s : State) (n : Nat) (t : Tile) : (s.setTile n t).ras = s.ras := (rfl)
@[simp] theorem State.setTile_mem (s : State) (n : Nat) (t : Tile) : (s.setTile n t).mem = s.mem := (rfl)
@[simp] theorem State.setTile_ladle (s : State) (n : Nat) (t : Tile) : (s.setTile n t).ladle = s.ladle := (rfl)
@[simp] theorem State.setTile_freeCtr (s : State) (n : Nat) (t : Tile) : (s.setTile n t).freeCtr = s.freeCtr := (rfl)
@[simp] theorem State.setTile_out (s : State) (n : Nat) (t : Tile) : (s.setTile n t).out = s.out := (rfl)
@[simp] theorem State.setTile_pending (s : State) (n : Nat) (t : Tile) : (s.setTile n t).pending = s.pending := (rfl)
@[simp] theorem State.setTile_reg (s : State) (n : Nat) (t : Tile) (k : Nat) : (s.setTile n t).reg k = s.reg k := (rfl)
@[simp] theorem State.setTile_get (s : State) (n : Nat) (t : Tile) (g : Fld) : (s.setTile n t).get g = s.get g := (rfl)
@[simp] theorem State.setTile_flag (s : State) (n : Nat) (t : Tile) (g : Fld) : (s.setTile n t).flag g = s.flag g := (rfl)
@[simp] theorem State.setTile_geti (s : State) (n : Nat) (t : Tile) (g : Fld) : (s.setTile n t).geti g = s.geti g := (rfl)
@[simp] theorem State.setTile_domOn (s : State) (n : Nat) (t : Tile) (d : Nat) : (s.setTile n t).domOn d = s.domOn d := (rfl)

/-! setSeq -/

@[simp] theorem State.setSeq_cfg (s : State) (n : Nat) (q : Seq) : (s.setSeq n q).cfg = s.cfg := (rfl)
@[simp] theorem State.setSeq_pins (s : State) (n : Nat) (q : Seq) : (s.setSeq n q).pins = s.pins := (rfl)
@[simp] theorem State.setSeq_regs (s : State) (n : Nat) (q : Seq) : (s.setSeq n q).regs = s.regs := (rfl)
@[simp] theorem State.setSeq_tb (s : State) (n : Nat) (q : Seq) : (s.setSeq n q).tb = s.tb := (rfl)
@[simp] theorem State.setSeq_hst (s : State) (n : Nat) (q : Seq) : (s.setSeq n q).hst = s.hst := (rfl)
@[simp] theorem State.setSeq_act (s : State) (n : Nat) (q : Seq) : (s.setSeq n q).act = s.act := (rfl)
@[simp] theorem State.setSeq_late (s : State) (n : Nat) (q : Seq) : (s.setSeq n q).late = s.late := (rfl)
@[simp] theorem State.setSeq_sw (s : State) (n : Nat) (q : Seq) : (s.setSeq n q).sw = s.sw := (rfl)
@[simp] theorem State.setSeq_see (s : State) (n : Nat) (q : Seq) : (s.setSeq n q).see = s.see := (rfl)
@[simp] theorem State.setSeq_jxl (s : State) (n : Nat) (q : Seq) : (s.setSeq n q).jxl = s.jxl := (rfl)
@[simp] theorem State.setSeq_csi (s : State) (n : Nat) (q : Seq) : (s.setSeq n q).csi = s.csi := (rfl)
@[simp] theorem State.setSeq_ppc (s : State) (n : Nat) (q : Seq) : (s.setSeq n q).ppc = s.ppc := (rfl)
@[simp] theorem State.setSeq_ald (s : State) (n : Nat) (q : Seq) : (s.setSeq n q).ald = s.ald := (rfl)
@[simp] theorem State.setSeq_gates (s : State) (n : Nat) (q : Seq) : (s.setSeq n q).gates = s.gates := (rfl)
@[simp] theorem State.setSeq_fab (s : State) (n : Nat) (q : Seq) : (s.setSeq n q).fab = s.fab := (rfl)
@[simp] theorem State.setSeq_cimq (s : State) (n : Nat) (q : Seq) : (s.setSeq n q).cimq = s.cimq := (rfl)
@[simp] theorem State.setSeq_sync (s : State) (n : Nat) (q : Seq) : (s.setSeq n q).sync = s.sync := (rfl)
@[simp] theorem State.setSeq_fw (s : State) (n : Nat) (q : Seq) : (s.setSeq n q).fw = s.fw := (rfl)
@[simp] theorem State.setSeq_pmu (s : State) (n : Nat) (q : Seq) : (s.setSeq n q).pmu = s.pmu := (rfl)
@[simp] theorem State.setSeq_touch (s : State) (n : Nat) (q : Seq) : (s.setSeq n q).touch = s.touch := (rfl)
@[simp] theorem State.setSeq_ras (s : State) (n : Nat) (q : Seq) : (s.setSeq n q).ras = s.ras := (rfl)
@[simp] theorem State.setSeq_mem (s : State) (n : Nat) (q : Seq) : (s.setSeq n q).mem = s.mem := (rfl)
@[simp] theorem State.setSeq_ladle (s : State) (n : Nat) (q : Seq) : (s.setSeq n q).ladle = s.ladle := (rfl)
@[simp] theorem State.setSeq_freeCtr (s : State) (n : Nat) (q : Seq) : (s.setSeq n q).freeCtr = s.freeCtr := (rfl)
@[simp] theorem State.setSeq_out (s : State) (n : Nat) (q : Seq) : (s.setSeq n q).out = s.out := (rfl)
@[simp] theorem State.setSeq_pending (s : State) (n : Nat) (q : Seq) : (s.setSeq n q).pending = s.pending := (rfl)
@[simp] theorem State.setSeq_reg (s : State) (n : Nat) (q : Seq) (k : Nat) : (s.setSeq n q).reg k = s.reg k := (rfl)
@[simp] theorem State.setSeq_get (s : State) (n : Nat) (q : Seq) (g : Fld) : (s.setSeq n q).get g = s.get g := (rfl)
@[simp] theorem State.setSeq_flag (s : State) (n : Nat) (q : Seq) (g : Fld) : (s.setSeq n q).flag g = s.flag g := (rfl)
@[simp] theorem State.setSeq_geti (s : State) (n : Nat) (q : Seq) (g : Fld) : (s.setSeq n q).geti g = s.geti g := (rfl)
@[simp] theorem State.setSeq_domOn (s : State) (n : Nat) (q : Seq) (d : Nat) : (s.setSeq n q).domOn d = s.domOn d := (rfl)

/-! setNe -/

@[simp] theorem State.setNe_cfg (s : State) (n : Nat) (x : Neuron) : (s.setNe n x).cfg = s.cfg := (rfl)
@[simp] theorem State.setNe_pins (s : State) (n : Nat) (x : Neuron) : (s.setNe n x).pins = s.pins := (rfl)
@[simp] theorem State.setNe_regs (s : State) (n : Nat) (x : Neuron) : (s.setNe n x).regs = s.regs := (rfl)
@[simp] theorem State.setNe_tb (s : State) (n : Nat) (x : Neuron) : (s.setNe n x).tb = s.tb := (rfl)
@[simp] theorem State.setNe_hst (s : State) (n : Nat) (x : Neuron) : (s.setNe n x).hst = s.hst := (rfl)
@[simp] theorem State.setNe_act (s : State) (n : Nat) (x : Neuron) : (s.setNe n x).act = s.act := (rfl)
@[simp] theorem State.setNe_late (s : State) (n : Nat) (x : Neuron) : (s.setNe n x).late = s.late := (rfl)
@[simp] theorem State.setNe_sw (s : State) (n : Nat) (x : Neuron) : (s.setNe n x).sw = s.sw := (rfl)
@[simp] theorem State.setNe_see (s : State) (n : Nat) (x : Neuron) : (s.setNe n x).see = s.see := (rfl)
@[simp] theorem State.setNe_jxl (s : State) (n : Nat) (x : Neuron) : (s.setNe n x).jxl = s.jxl := (rfl)
@[simp] theorem State.setNe_csi (s : State) (n : Nat) (x : Neuron) : (s.setNe n x).csi = s.csi := (rfl)
@[simp] theorem State.setNe_ppc (s : State) (n : Nat) (x : Neuron) : (s.setNe n x).ppc = s.ppc := (rfl)
@[simp] theorem State.setNe_ald (s : State) (n : Nat) (x : Neuron) : (s.setNe n x).ald = s.ald := (rfl)
@[simp] theorem State.setNe_gates (s : State) (n : Nat) (x : Neuron) : (s.setNe n x).gates = s.gates := (rfl)
@[simp] theorem State.setNe_fab (s : State) (n : Nat) (x : Neuron) : (s.setNe n x).fab = s.fab := (rfl)
@[simp] theorem State.setNe_cimq (s : State) (n : Nat) (x : Neuron) : (s.setNe n x).cimq = s.cimq := (rfl)
@[simp] theorem State.setNe_sync (s : State) (n : Nat) (x : Neuron) : (s.setNe n x).sync = s.sync := (rfl)
@[simp] theorem State.setNe_fw (s : State) (n : Nat) (x : Neuron) : (s.setNe n x).fw = s.fw := (rfl)
@[simp] theorem State.setNe_pmu (s : State) (n : Nat) (x : Neuron) : (s.setNe n x).pmu = s.pmu := (rfl)
@[simp] theorem State.setNe_touch (s : State) (n : Nat) (x : Neuron) : (s.setNe n x).touch = s.touch := (rfl)
@[simp] theorem State.setNe_ras (s : State) (n : Nat) (x : Neuron) : (s.setNe n x).ras = s.ras := (rfl)
@[simp] theorem State.setNe_mem (s : State) (n : Nat) (x : Neuron) : (s.setNe n x).mem = s.mem := (rfl)
@[simp] theorem State.setNe_ladle (s : State) (n : Nat) (x : Neuron) : (s.setNe n x).ladle = s.ladle := (rfl)
@[simp] theorem State.setNe_freeCtr (s : State) (n : Nat) (x : Neuron) : (s.setNe n x).freeCtr = s.freeCtr := (rfl)
@[simp] theorem State.setNe_out (s : State) (n : Nat) (x : Neuron) : (s.setNe n x).out = s.out := (rfl)
@[simp] theorem State.setNe_pending (s : State) (n : Nat) (x : Neuron) : (s.setNe n x).pending = s.pending := (rfl)
@[simp] theorem State.setNe_reg (s : State) (n : Nat) (x : Neuron) (k : Nat) : (s.setNe n x).reg k = s.reg k := (rfl)
@[simp] theorem State.setNe_get (s : State) (n : Nat) (x : Neuron) (g : Fld) : (s.setNe n x).get g = s.get g := (rfl)
@[simp] theorem State.setNe_flag (s : State) (n : Nat) (x : Neuron) (g : Fld) : (s.setNe n x).flag g = s.flag g := (rfl)
@[simp] theorem State.setNe_geti (s : State) (n : Nat) (x : Neuron) (g : Fld) : (s.setNe n x).geti g = s.geti g := (rfl)
@[simp] theorem State.setNe_domOn (s : State) (n : Nat) (x : Neuron) (d : Nat) : (s.setNe n x).domOn d = s.domOn d := (rfl)

/-! setCim -/

@[simp] theorem State.setCim_cfg (s : State) (n : Nat) (c : Cim) : (s.setCim n c).cfg = s.cfg := (rfl)
@[simp] theorem State.setCim_pins (s : State) (n : Nat) (c : Cim) : (s.setCim n c).pins = s.pins := (rfl)
@[simp] theorem State.setCim_regs (s : State) (n : Nat) (c : Cim) : (s.setCim n c).regs = s.regs := (rfl)
@[simp] theorem State.setCim_tb (s : State) (n : Nat) (c : Cim) : (s.setCim n c).tb = s.tb := (rfl)
@[simp] theorem State.setCim_hst (s : State) (n : Nat) (c : Cim) : (s.setCim n c).hst = s.hst := (rfl)
@[simp] theorem State.setCim_act (s : State) (n : Nat) (c : Cim) : (s.setCim n c).act = s.act := (rfl)
@[simp] theorem State.setCim_late (s : State) (n : Nat) (c : Cim) : (s.setCim n c).late = s.late := (rfl)
@[simp] theorem State.setCim_sw (s : State) (n : Nat) (c : Cim) : (s.setCim n c).sw = s.sw := (rfl)
@[simp] theorem State.setCim_see (s : State) (n : Nat) (c : Cim) : (s.setCim n c).see = s.see := (rfl)
@[simp] theorem State.setCim_jxl (s : State) (n : Nat) (c : Cim) : (s.setCim n c).jxl = s.jxl := (rfl)
@[simp] theorem State.setCim_csi (s : State) (n : Nat) (c : Cim) : (s.setCim n c).csi = s.csi := (rfl)
@[simp] theorem State.setCim_ppc (s : State) (n : Nat) (c : Cim) : (s.setCim n c).ppc = s.ppc := (rfl)
@[simp] theorem State.setCim_ald (s : State) (n : Nat) (c : Cim) : (s.setCim n c).ald = s.ald := (rfl)
@[simp] theorem State.setCim_gates (s : State) (n : Nat) (c : Cim) : (s.setCim n c).gates = s.gates := (rfl)
@[simp] theorem State.setCim_fab (s : State) (n : Nat) (c : Cim) : (s.setCim n c).fab = s.fab := (rfl)
@[simp] theorem State.setCim_cimq (s : State) (n : Nat) (c : Cim) : (s.setCim n c).cimq = s.cimq := (rfl)
@[simp] theorem State.setCim_sync (s : State) (n : Nat) (c : Cim) : (s.setCim n c).sync = s.sync := (rfl)
@[simp] theorem State.setCim_fw (s : State) (n : Nat) (c : Cim) : (s.setCim n c).fw = s.fw := (rfl)
@[simp] theorem State.setCim_pmu (s : State) (n : Nat) (c : Cim) : (s.setCim n c).pmu = s.pmu := (rfl)
@[simp] theorem State.setCim_touch (s : State) (n : Nat) (c : Cim) : (s.setCim n c).touch = s.touch := (rfl)
@[simp] theorem State.setCim_ras (s : State) (n : Nat) (c : Cim) : (s.setCim n c).ras = s.ras := (rfl)
@[simp] theorem State.setCim_mem (s : State) (n : Nat) (c : Cim) : (s.setCim n c).mem = s.mem := (rfl)
@[simp] theorem State.setCim_ladle (s : State) (n : Nat) (c : Cim) : (s.setCim n c).ladle = s.ladle := (rfl)
@[simp] theorem State.setCim_freeCtr (s : State) (n : Nat) (c : Cim) : (s.setCim n c).freeCtr = s.freeCtr := (rfl)
@[simp] theorem State.setCim_out (s : State) (n : Nat) (c : Cim) : (s.setCim n c).out = s.out := (rfl)
@[simp] theorem State.setCim_pending (s : State) (n : Nat) (c : Cim) : (s.setCim n c).pending = s.pending := (rfl)
@[simp] theorem State.setCim_reg (s : State) (n : Nat) (c : Cim) (k : Nat) : (s.setCim n c).reg k = s.reg k := (rfl)
@[simp] theorem State.setCim_get (s : State) (n : Nat) (c : Cim) (g : Fld) : (s.setCim n c).get g = s.get g := (rfl)
@[simp] theorem State.setCim_flag (s : State) (n : Nat) (c : Cim) (g : Fld) : (s.setCim n c).flag g = s.flag g := (rfl)
@[simp] theorem State.setCim_geti (s : State) (n : Nat) (c : Cim) (g : Fld) : (s.setCim n c).geti g = s.geti g := (rfl)
@[simp] theorem State.setCim_domOn (s : State) (n : Nat) (c : Cim) (d : Nat) : (s.setCim n c).domOn d = s.domOn d := (rfl)

/-! setArr -/

@[simp] theorem State.setArr_cfg (s : State) (n a : Nat) (x : CimArray) : (s.setArr n a x).cfg = s.cfg := (rfl)
@[simp] theorem State.setArr_pins (s : State) (n a : Nat) (x : CimArray) : (s.setArr n a x).pins = s.pins := (rfl)
@[simp] theorem State.setArr_regs (s : State) (n a : Nat) (x : CimArray) : (s.setArr n a x).regs = s.regs := (rfl)
@[simp] theorem State.setArr_tb (s : State) (n a : Nat) (x : CimArray) : (s.setArr n a x).tb = s.tb := (rfl)
@[simp] theorem State.setArr_hst (s : State) (n a : Nat) (x : CimArray) : (s.setArr n a x).hst = s.hst := (rfl)
@[simp] theorem State.setArr_act (s : State) (n a : Nat) (x : CimArray) : (s.setArr n a x).act = s.act := (rfl)
@[simp] theorem State.setArr_late (s : State) (n a : Nat) (x : CimArray) : (s.setArr n a x).late = s.late := (rfl)
@[simp] theorem State.setArr_sw (s : State) (n a : Nat) (x : CimArray) : (s.setArr n a x).sw = s.sw := (rfl)
@[simp] theorem State.setArr_see (s : State) (n a : Nat) (x : CimArray) : (s.setArr n a x).see = s.see := (rfl)
@[simp] theorem State.setArr_jxl (s : State) (n a : Nat) (x : CimArray) : (s.setArr n a x).jxl = s.jxl := (rfl)
@[simp] theorem State.setArr_csi (s : State) (n a : Nat) (x : CimArray) : (s.setArr n a x).csi = s.csi := (rfl)
@[simp] theorem State.setArr_ppc (s : State) (n a : Nat) (x : CimArray) : (s.setArr n a x).ppc = s.ppc := (rfl)
@[simp] theorem State.setArr_ald (s : State) (n a : Nat) (x : CimArray) : (s.setArr n a x).ald = s.ald := (rfl)
@[simp] theorem State.setArr_gates (s : State) (n a : Nat) (x : CimArray) : (s.setArr n a x).gates = s.gates := (rfl)
@[simp] theorem State.setArr_fab (s : State) (n a : Nat) (x : CimArray) : (s.setArr n a x).fab = s.fab := (rfl)
@[simp] theorem State.setArr_cimq (s : State) (n a : Nat) (x : CimArray) : (s.setArr n a x).cimq = s.cimq := (rfl)
@[simp] theorem State.setArr_sync (s : State) (n a : Nat) (x : CimArray) : (s.setArr n a x).sync = s.sync := (rfl)
@[simp] theorem State.setArr_fw (s : State) (n a : Nat) (x : CimArray) : (s.setArr n a x).fw = s.fw := (rfl)
@[simp] theorem State.setArr_pmu (s : State) (n a : Nat) (x : CimArray) : (s.setArr n a x).pmu = s.pmu := (rfl)
@[simp] theorem State.setArr_touch (s : State) (n a : Nat) (x : CimArray) : (s.setArr n a x).touch = s.touch := (rfl)
@[simp] theorem State.setArr_ras (s : State) (n a : Nat) (x : CimArray) : (s.setArr n a x).ras = s.ras := (rfl)
@[simp] theorem State.setArr_mem (s : State) (n a : Nat) (x : CimArray) : (s.setArr n a x).mem = s.mem := (rfl)
@[simp] theorem State.setArr_ladle (s : State) (n a : Nat) (x : CimArray) : (s.setArr n a x).ladle = s.ladle := (rfl)
@[simp] theorem State.setArr_freeCtr (s : State) (n a : Nat) (x : CimArray) : (s.setArr n a x).freeCtr = s.freeCtr := (rfl)
@[simp] theorem State.setArr_out (s : State) (n a : Nat) (x : CimArray) : (s.setArr n a x).out = s.out := (rfl)
@[simp] theorem State.setArr_pending (s : State) (n a : Nat) (x : CimArray) : (s.setArr n a x).pending = s.pending := (rfl)
@[simp] theorem State.setArr_reg (s : State) (n a : Nat) (x : CimArray) (k : Nat) : (s.setArr n a x).reg k = s.reg k := (rfl)
@[simp] theorem State.setArr_get (s : State) (n a : Nat) (x : CimArray) (g : Fld) : (s.setArr n a x).get g = s.get g := (rfl)
@[simp] theorem State.setArr_flag (s : State) (n a : Nat) (x : CimArray) (g : Fld) : (s.setArr n a x).flag g = s.flag g := (rfl)
@[simp] theorem State.setArr_geti (s : State) (n a : Nat) (x : CimArray) (g : Fld) : (s.setArr n a x).geti g = s.geti g := (rfl)
@[simp] theorem State.setArr_domOn (s : State) (n a : Nat) (x : CimArray) (d : Nat) : (s.setArr n a x).domOn d = s.domOn d := (rfl)

/-! setJp -/

@[simp] theorem State.setJp_cfg (s : State) (n : Nat) (j : JPort) : (s.setJp n j).cfg = s.cfg := (rfl)
@[simp] theorem State.setJp_pins (s : State) (n : Nat) (j : JPort) : (s.setJp n j).pins = s.pins := (rfl)
@[simp] theorem State.setJp_regs (s : State) (n : Nat) (j : JPort) : (s.setJp n j).regs = s.regs := (rfl)
@[simp] theorem State.setJp_tb (s : State) (n : Nat) (j : JPort) : (s.setJp n j).tb = s.tb := (rfl)
@[simp] theorem State.setJp_hst (s : State) (n : Nat) (j : JPort) : (s.setJp n j).hst = s.hst := (rfl)
@[simp] theorem State.setJp_act (s : State) (n : Nat) (j : JPort) : (s.setJp n j).act = s.act := (rfl)
@[simp] theorem State.setJp_late (s : State) (n : Nat) (j : JPort) : (s.setJp n j).late = s.late := (rfl)
@[simp] theorem State.setJp_sw (s : State) (n : Nat) (j : JPort) : (s.setJp n j).sw = s.sw := (rfl)
@[simp] theorem State.setJp_see (s : State) (n : Nat) (j : JPort) : (s.setJp n j).see = s.see := (rfl)
@[simp] theorem State.setJp_csi (s : State) (n : Nat) (j : JPort) : (s.setJp n j).csi = s.csi := (rfl)
@[simp] theorem State.setJp_ppc (s : State) (n : Nat) (j : JPort) : (s.setJp n j).ppc = s.ppc := (rfl)
@[simp] theorem State.setJp_ald (s : State) (n : Nat) (j : JPort) : (s.setJp n j).ald = s.ald := (rfl)
@[simp] theorem State.setJp_gates (s : State) (n : Nat) (j : JPort) : (s.setJp n j).gates = s.gates := (rfl)
@[simp] theorem State.setJp_fab (s : State) (n : Nat) (j : JPort) : (s.setJp n j).fab = s.fab := (rfl)
@[simp] theorem State.setJp_tiles (s : State) (n : Nat) (j : JPort) : (s.setJp n j).tiles = s.tiles := (rfl)
@[simp] theorem State.setJp_cimq (s : State) (n : Nat) (j : JPort) : (s.setJp n j).cimq = s.cimq := (rfl)
@[simp] theorem State.setJp_sync (s : State) (n : Nat) (j : JPort) : (s.setJp n j).sync = s.sync := (rfl)
@[simp] theorem State.setJp_fw (s : State) (n : Nat) (j : JPort) : (s.setJp n j).fw = s.fw := (rfl)
@[simp] theorem State.setJp_pmu (s : State) (n : Nat) (j : JPort) : (s.setJp n j).pmu = s.pmu := (rfl)
@[simp] theorem State.setJp_touch (s : State) (n : Nat) (j : JPort) : (s.setJp n j).touch = s.touch := (rfl)
@[simp] theorem State.setJp_ras (s : State) (n : Nat) (j : JPort) : (s.setJp n j).ras = s.ras := (rfl)
@[simp] theorem State.setJp_mem (s : State) (n : Nat) (j : JPort) : (s.setJp n j).mem = s.mem := (rfl)
@[simp] theorem State.setJp_ladle (s : State) (n : Nat) (j : JPort) : (s.setJp n j).ladle = s.ladle := (rfl)
@[simp] theorem State.setJp_freeCtr (s : State) (n : Nat) (j : JPort) : (s.setJp n j).freeCtr = s.freeCtr := (rfl)
@[simp] theorem State.setJp_out (s : State) (n : Nat) (j : JPort) : (s.setJp n j).out = s.out := (rfl)
@[simp] theorem State.setJp_pending (s : State) (n : Nat) (j : JPort) : (s.setJp n j).pending = s.pending := (rfl)
@[simp] theorem State.setJp_reg (s : State) (n : Nat) (j : JPort) (k : Nat) : (s.setJp n j).reg k = s.reg k := (rfl)
@[simp] theorem State.setJp_get (s : State) (n : Nat) (j : JPort) (g : Fld) : (s.setJp n j).get g = s.get g := (rfl)
@[simp] theorem State.setJp_flag (s : State) (n : Nat) (j : JPort) (g : Fld) : (s.setJp n j).flag g = s.flag g := (rfl)
@[simp] theorem State.setJp_geti (s : State) (n : Nat) (j : JPort) (g : Fld) : (s.setJp n j).geti g = s.geti g := (rfl)
@[simp] theorem State.setJp_domOn (s : State) (n : Nat) (j : JPort) (d : Nat) : (s.setJp n j).domOn d = s.domOn d := (rfl)

/-! setCp -/

@[simp] theorem State.setCp_cfg (s : State) (n : Nat) (c : CsiPort) : (s.setCp n c).cfg = s.cfg := (rfl)
@[simp] theorem State.setCp_pins (s : State) (n : Nat) (c : CsiPort) : (s.setCp n c).pins = s.pins := (rfl)
@[simp] theorem State.setCp_regs (s : State) (n : Nat) (c : CsiPort) : (s.setCp n c).regs = s.regs := (rfl)
@[simp] theorem State.setCp_tb (s : State) (n : Nat) (c : CsiPort) : (s.setCp n c).tb = s.tb := (rfl)
@[simp] theorem State.setCp_hst (s : State) (n : Nat) (c : CsiPort) : (s.setCp n c).hst = s.hst := (rfl)
@[simp] theorem State.setCp_act (s : State) (n : Nat) (c : CsiPort) : (s.setCp n c).act = s.act := (rfl)
@[simp] theorem State.setCp_late (s : State) (n : Nat) (c : CsiPort) : (s.setCp n c).late = s.late := (rfl)
@[simp] theorem State.setCp_sw (s : State) (n : Nat) (c : CsiPort) : (s.setCp n c).sw = s.sw := (rfl)
@[simp] theorem State.setCp_see (s : State) (n : Nat) (c : CsiPort) : (s.setCp n c).see = s.see := (rfl)
@[simp] theorem State.setCp_jxl (s : State) (n : Nat) (c : CsiPort) : (s.setCp n c).jxl = s.jxl := (rfl)
@[simp] theorem State.setCp_ppc (s : State) (n : Nat) (c : CsiPort) : (s.setCp n c).ppc = s.ppc := (rfl)
@[simp] theorem State.setCp_ald (s : State) (n : Nat) (c : CsiPort) : (s.setCp n c).ald = s.ald := (rfl)
@[simp] theorem State.setCp_gates (s : State) (n : Nat) (c : CsiPort) : (s.setCp n c).gates = s.gates := (rfl)
@[simp] theorem State.setCp_fab (s : State) (n : Nat) (c : CsiPort) : (s.setCp n c).fab = s.fab := (rfl)
@[simp] theorem State.setCp_tiles (s : State) (n : Nat) (c : CsiPort) : (s.setCp n c).tiles = s.tiles := (rfl)
@[simp] theorem State.setCp_cimq (s : State) (n : Nat) (c : CsiPort) : (s.setCp n c).cimq = s.cimq := (rfl)
@[simp] theorem State.setCp_sync (s : State) (n : Nat) (c : CsiPort) : (s.setCp n c).sync = s.sync := (rfl)
@[simp] theorem State.setCp_fw (s : State) (n : Nat) (c : CsiPort) : (s.setCp n c).fw = s.fw := (rfl)
@[simp] theorem State.setCp_pmu (s : State) (n : Nat) (c : CsiPort) : (s.setCp n c).pmu = s.pmu := (rfl)
@[simp] theorem State.setCp_touch (s : State) (n : Nat) (c : CsiPort) : (s.setCp n c).touch = s.touch := (rfl)
@[simp] theorem State.setCp_ras (s : State) (n : Nat) (c : CsiPort) : (s.setCp n c).ras = s.ras := (rfl)
@[simp] theorem State.setCp_mem (s : State) (n : Nat) (c : CsiPort) : (s.setCp n c).mem = s.mem := (rfl)
@[simp] theorem State.setCp_ladle (s : State) (n : Nat) (c : CsiPort) : (s.setCp n c).ladle = s.ladle := (rfl)
@[simp] theorem State.setCp_freeCtr (s : State) (n : Nat) (c : CsiPort) : (s.setCp n c).freeCtr = s.freeCtr := (rfl)
@[simp] theorem State.setCp_out (s : State) (n : Nat) (c : CsiPort) : (s.setCp n c).out = s.out := (rfl)
@[simp] theorem State.setCp_pending (s : State) (n : Nat) (c : CsiPort) : (s.setCp n c).pending = s.pending := (rfl)
@[simp] theorem State.setCp_reg (s : State) (n : Nat) (c : CsiPort) (k : Nat) : (s.setCp n c).reg k = s.reg k := (rfl)
@[simp] theorem State.setCp_get (s : State) (n : Nat) (c : CsiPort) (g : Fld) : (s.setCp n c).get g = s.get g := (rfl)
@[simp] theorem State.setCp_flag (s : State) (n : Nat) (c : CsiPort) (g : Fld) : (s.setCp n c).flag g = s.flag g := (rfl)
@[simp] theorem State.setCp_geti (s : State) (n : Nat) (c : CsiPort) (g : Fld) : (s.setCp n c).geti g = s.geti g := (rfl)
@[simp] theorem State.setCp_domOn (s : State) (n : Nat) (c : CsiPort) (d : Nat) : (s.setCp n c).domOn d = s.domOn d := (rfl)

/-! setCh -/

@[simp] theorem State.setCh_cfg (s : State) (n : Nat) (c : Chan) : (s.setCh n c).cfg = s.cfg := (rfl)
@[simp] theorem State.setCh_pins (s : State) (n : Nat) (c : Chan) : (s.setCh n c).pins = s.pins := (rfl)
@[simp] theorem State.setCh_regs (s : State) (n : Nat) (c : Chan) : (s.setCh n c).regs = s.regs := (rfl)
@[simp] theorem State.setCh_tb (s : State) (n : Nat) (c : Chan) : (s.setCh n c).tb = s.tb := (rfl)
@[simp] theorem State.setCh_hst (s : State) (n : Nat) (c : Chan) : (s.setCh n c).hst = s.hst := (rfl)
@[simp] theorem State.setCh_act (s : State) (n : Nat) (c : Chan) : (s.setCh n c).act = s.act := (rfl)
@[simp] theorem State.setCh_late (s : State) (n : Nat) (c : Chan) : (s.setCh n c).late = s.late := (rfl)
@[simp] theorem State.setCh_sw (s : State) (n : Nat) (c : Chan) : (s.setCh n c).sw = s.sw := (rfl)
@[simp] theorem State.setCh_see (s : State) (n : Nat) (c : Chan) : (s.setCh n c).see = s.see := (rfl)
@[simp] theorem State.setCh_jxl (s : State) (n : Nat) (c : Chan) : (s.setCh n c).jxl = s.jxl := (rfl)
@[simp] theorem State.setCh_csi (s : State) (n : Nat) (c : Chan) : (s.setCh n c).csi = s.csi := (rfl)
@[simp] theorem State.setCh_ald (s : State) (n : Nat) (c : Chan) : (s.setCh n c).ald = s.ald := (rfl)
@[simp] theorem State.setCh_gates (s : State) (n : Nat) (c : Chan) : (s.setCh n c).gates = s.gates := (rfl)
@[simp] theorem State.setCh_fab (s : State) (n : Nat) (c : Chan) : (s.setCh n c).fab = s.fab := (rfl)
@[simp] theorem State.setCh_tiles (s : State) (n : Nat) (c : Chan) : (s.setCh n c).tiles = s.tiles := (rfl)
@[simp] theorem State.setCh_cimq (s : State) (n : Nat) (c : Chan) : (s.setCh n c).cimq = s.cimq := (rfl)
@[simp] theorem State.setCh_sync (s : State) (n : Nat) (c : Chan) : (s.setCh n c).sync = s.sync := (rfl)
@[simp] theorem State.setCh_fw (s : State) (n : Nat) (c : Chan) : (s.setCh n c).fw = s.fw := (rfl)
@[simp] theorem State.setCh_pmu (s : State) (n : Nat) (c : Chan) : (s.setCh n c).pmu = s.pmu := (rfl)
@[simp] theorem State.setCh_touch (s : State) (n : Nat) (c : Chan) : (s.setCh n c).touch = s.touch := (rfl)
@[simp] theorem State.setCh_ras (s : State) (n : Nat) (c : Chan) : (s.setCh n c).ras = s.ras := (rfl)
@[simp] theorem State.setCh_mem (s : State) (n : Nat) (c : Chan) : (s.setCh n c).mem = s.mem := (rfl)
@[simp] theorem State.setCh_ladle (s : State) (n : Nat) (c : Chan) : (s.setCh n c).ladle = s.ladle := (rfl)
@[simp] theorem State.setCh_freeCtr (s : State) (n : Nat) (c : Chan) : (s.setCh n c).freeCtr = s.freeCtr := (rfl)
@[simp] theorem State.setCh_out (s : State) (n : Nat) (c : Chan) : (s.setCh n c).out = s.out := (rfl)
@[simp] theorem State.setCh_pending (s : State) (n : Nat) (c : Chan) : (s.setCh n c).pending = s.pending := (rfl)
@[simp] theorem State.setCh_reg (s : State) (n : Nat) (c : Chan) (k : Nat) : (s.setCh n c).reg k = s.reg k := (rfl)
@[simp] theorem State.setCh_get (s : State) (n : Nat) (c : Chan) (g : Fld) : (s.setCh n c).get g = s.get g := (rfl)
@[simp] theorem State.setCh_flag (s : State) (n : Nat) (c : Chan) (g : Fld) : (s.setCh n c).flag g = s.flag g := (rfl)
@[simp] theorem State.setCh_geti (s : State) (n : Nat) (c : Chan) (g : Fld) : (s.setCh n c).geti g = s.geti g := (rfl)
@[simp] theorem State.setCh_domOn (s : State) (n : Nat) (c : Chan) (d : Nat) : (s.setCh n c).domOn d = s.domOn d := (rfl)

/-! setGate -/

@[simp] theorem State.setGate_cfg (s : State) (n : Nat) (x : Gate) : (s.setGate n x).cfg = s.cfg := (rfl)
@[simp] theorem State.setGate_pins (s : State) (n : Nat) (x : Gate) : (s.setGate n x).pins = s.pins := (rfl)
@[simp] theorem State.setGate_regs (s : State) (n : Nat) (x : Gate) : (s.setGate n x).regs = s.regs := (rfl)
@[simp] theorem State.setGate_tb (s : State) (n : Nat) (x : Gate) : (s.setGate n x).tb = s.tb := (rfl)
@[simp] theorem State.setGate_hst (s : State) (n : Nat) (x : Gate) : (s.setGate n x).hst = s.hst := (rfl)
@[simp] theorem State.setGate_act (s : State) (n : Nat) (x : Gate) : (s.setGate n x).act = s.act := (rfl)
@[simp] theorem State.setGate_late (s : State) (n : Nat) (x : Gate) : (s.setGate n x).late = s.late := (rfl)
@[simp] theorem State.setGate_sw (s : State) (n : Nat) (x : Gate) : (s.setGate n x).sw = s.sw := (rfl)
@[simp] theorem State.setGate_see (s : State) (n : Nat) (x : Gate) : (s.setGate n x).see = s.see := (rfl)
@[simp] theorem State.setGate_jxl (s : State) (n : Nat) (x : Gate) : (s.setGate n x).jxl = s.jxl := (rfl)
@[simp] theorem State.setGate_csi (s : State) (n : Nat) (x : Gate) : (s.setGate n x).csi = s.csi := (rfl)
@[simp] theorem State.setGate_ppc (s : State) (n : Nat) (x : Gate) : (s.setGate n x).ppc = s.ppc := (rfl)
@[simp] theorem State.setGate_ald (s : State) (n : Nat) (x : Gate) : (s.setGate n x).ald = s.ald := (rfl)
@[simp] theorem State.setGate_fab (s : State) (n : Nat) (x : Gate) : (s.setGate n x).fab = s.fab := (rfl)
@[simp] theorem State.setGate_tiles (s : State) (n : Nat) (x : Gate) : (s.setGate n x).tiles = s.tiles := (rfl)
@[simp] theorem State.setGate_cimq (s : State) (n : Nat) (x : Gate) : (s.setGate n x).cimq = s.cimq := (rfl)
@[simp] theorem State.setGate_sync (s : State) (n : Nat) (x : Gate) : (s.setGate n x).sync = s.sync := (rfl)
@[simp] theorem State.setGate_fw (s : State) (n : Nat) (x : Gate) : (s.setGate n x).fw = s.fw := (rfl)
@[simp] theorem State.setGate_pmu (s : State) (n : Nat) (x : Gate) : (s.setGate n x).pmu = s.pmu := (rfl)
@[simp] theorem State.setGate_touch (s : State) (n : Nat) (x : Gate) : (s.setGate n x).touch = s.touch := (rfl)
@[simp] theorem State.setGate_ras (s : State) (n : Nat) (x : Gate) : (s.setGate n x).ras = s.ras := (rfl)
@[simp] theorem State.setGate_mem (s : State) (n : Nat) (x : Gate) : (s.setGate n x).mem = s.mem := (rfl)
@[simp] theorem State.setGate_ladle (s : State) (n : Nat) (x : Gate) : (s.setGate n x).ladle = s.ladle := (rfl)
@[simp] theorem State.setGate_freeCtr (s : State) (n : Nat) (x : Gate) : (s.setGate n x).freeCtr = s.freeCtr := (rfl)
@[simp] theorem State.setGate_out (s : State) (n : Nat) (x : Gate) : (s.setGate n x).out = s.out := (rfl)
@[simp] theorem State.setGate_pending (s : State) (n : Nat) (x : Gate) : (s.setGate n x).pending = s.pending := (rfl)
@[simp] theorem State.setGate_reg (s : State) (n : Nat) (x : Gate) (k : Nat) : (s.setGate n x).reg k = s.reg k := (rfl)
@[simp] theorem State.setGate_get (s : State) (n : Nat) (x : Gate) (g : Fld) : (s.setGate n x).get g = s.get g := (rfl)
@[simp] theorem State.setGate_flag (s : State) (n : Nat) (x : Gate) (g : Fld) : (s.setGate n x).flag g = s.flag g := (rfl)
@[simp] theorem State.setGate_geti (s : State) (n : Nat) (x : Gate) (g : Fld) : (s.setGate n x).geti g = s.geti g := (rfl)
@[simp] theorem State.setGate_domOn (s : State) (n : Nat) (x : Gate) (d : Nat) : (s.setGate n x).domOn d = s.domOn d := (rfl)

/-! setFlow -/

@[simp] theorem State.setFlow_cfg (s : State) (n : Nat) (f : Flow) : (s.setFlow n f).cfg = s.cfg := (rfl)
@[simp] theorem State.setFlow_pins (s : State) (n : Nat) (f : Flow) : (s.setFlow n f).pins = s.pins := (rfl)
@[simp] theorem State.setFlow_regs (s : State) (n : Nat) (f : Flow) : (s.setFlow n f).regs = s.regs := (rfl)
@[simp] theorem State.setFlow_tb (s : State) (n : Nat) (f : Flow) : (s.setFlow n f).tb = s.tb := (rfl)
@[simp] theorem State.setFlow_hst (s : State) (n : Nat) (f : Flow) : (s.setFlow n f).hst = s.hst := (rfl)
@[simp] theorem State.setFlow_act (s : State) (n : Nat) (f : Flow) : (s.setFlow n f).act = s.act := (rfl)
@[simp] theorem State.setFlow_late (s : State) (n : Nat) (f : Flow) : (s.setFlow n f).late = s.late := (rfl)
@[simp] theorem State.setFlow_sw (s : State) (n : Nat) (f : Flow) : (s.setFlow n f).sw = s.sw := (rfl)
@[simp] theorem State.setFlow_jxl (s : State) (n : Nat) (f : Flow) : (s.setFlow n f).jxl = s.jxl := (rfl)
@[simp] theorem State.setFlow_csi (s : State) (n : Nat) (f : Flow) : (s.setFlow n f).csi = s.csi := (rfl)
@[simp] theorem State.setFlow_ppc (s : State) (n : Nat) (f : Flow) : (s.setFlow n f).ppc = s.ppc := (rfl)
@[simp] theorem State.setFlow_ald (s : State) (n : Nat) (f : Flow) : (s.setFlow n f).ald = s.ald := (rfl)
@[simp] theorem State.setFlow_gates (s : State) (n : Nat) (f : Flow) : (s.setFlow n f).gates = s.gates := (rfl)
@[simp] theorem State.setFlow_fab (s : State) (n : Nat) (f : Flow) : (s.setFlow n f).fab = s.fab := (rfl)
@[simp] theorem State.setFlow_tiles (s : State) (n : Nat) (f : Flow) : (s.setFlow n f).tiles = s.tiles := (rfl)
@[simp] theorem State.setFlow_cimq (s : State) (n : Nat) (f : Flow) : (s.setFlow n f).cimq = s.cimq := (rfl)
@[simp] theorem State.setFlow_sync (s : State) (n : Nat) (f : Flow) : (s.setFlow n f).sync = s.sync := (rfl)
@[simp] theorem State.setFlow_fw (s : State) (n : Nat) (f : Flow) : (s.setFlow n f).fw = s.fw := (rfl)
@[simp] theorem State.setFlow_pmu (s : State) (n : Nat) (f : Flow) : (s.setFlow n f).pmu = s.pmu := (rfl)
@[simp] theorem State.setFlow_touch (s : State) (n : Nat) (f : Flow) : (s.setFlow n f).touch = s.touch := (rfl)
@[simp] theorem State.setFlow_ras (s : State) (n : Nat) (f : Flow) : (s.setFlow n f).ras = s.ras := (rfl)
@[simp] theorem State.setFlow_mem (s : State) (n : Nat) (f : Flow) : (s.setFlow n f).mem = s.mem := (rfl)
@[simp] theorem State.setFlow_ladle (s : State) (n : Nat) (f : Flow) : (s.setFlow n f).ladle = s.ladle := (rfl)
@[simp] theorem State.setFlow_freeCtr (s : State) (n : Nat) (f : Flow) : (s.setFlow n f).freeCtr = s.freeCtr := (rfl)
@[simp] theorem State.setFlow_out (s : State) (n : Nat) (f : Flow) : (s.setFlow n f).out = s.out := (rfl)
@[simp] theorem State.setFlow_pending (s : State) (n : Nat) (f : Flow) : (s.setFlow n f).pending = s.pending := (rfl)
@[simp] theorem State.setFlow_reg (s : State) (n : Nat) (f : Flow) (k : Nat) : (s.setFlow n f).reg k = s.reg k := (rfl)
@[simp] theorem State.setFlow_get (s : State) (n : Nat) (f : Flow) (g : Fld) : (s.setFlow n f).get g = s.get g := (rfl)
@[simp] theorem State.setFlow_flag (s : State) (n : Nat) (f : Flow) (g : Fld) : (s.setFlow n f).flag g = s.flag g := (rfl)
@[simp] theorem State.setFlow_geti (s : State) (n : Nat) (f : Flow) (g : Fld) : (s.setFlow n f).geti g = s.geti g := (rfl)
@[simp] theorem State.setFlow_domOn (s : State) (n : Nat) (f : Flow) (d : Nat) : (s.setFlow n f).domOn d = s.domOn d := (rfl)

end Sys2Proof.Machine
end

