-- ==== Sys2Proof/Laws/Ops.lean ====
section
/-!
SUPPORT. Sys2Proof/Laws/Ops.lean: registers and fields read back as written; every other register and field keeps its value; the
list updates of tiles, ports, channels and gates.
-/

namespace Sys2Proof.Machine

/-- The register file in canonical form. -/
def State.regsWf (s : State) : Prop := sparseWf regReset s.regs = true

theorem State.setReg_regsWf {s : State} (h : s.regsWf) (a : Nat) (v : Word) : (s.setReg a v).regsWf := sparsePut_wf a v h

theorem State.set_regsWf {s : State} (h : s.regsWf) (f : Fld) (v : Nat) : (s.set f v).regsWf := setReg_regsWf h _ _

theorem State.raise_regsWf {s : State} (h : s.regsWf) (f : Fld) : (s.raise f).regsWf := set_regsWf h _ _

theorem State.clear_regsWf {s : State} (h : s.regsWf) (f : Fld) : (s.clear f).regsWf := set_regsWf h _ _

theorem State.seti_regsWf {s : State} (h : s.regsWf) (f : Fld) (v : Int) : (s.seti f v).regsWf := set_regsWf h _ _

theorem State.inc_regsWf {s : State} (h : s.regsWf) (f : Fld) : (s.inc f).regsWf := set_regsWf h _ _

theorem State.incWrap_regsWf {s : State} (h : s.regsWf) (f : Fld) (n : Nat) : (s.incWrap f n).regsWf := set_regsWf h _ _

theorem State.set64_regsWf {s : State} (h : s.regsWf) (lo hi : Fld) (v : Nat) : (s.set64 lo hi v).regsWf :=
  set_regsWf (set_regsWf h _ _) _ _

theorem State.dropRegs_regsWf {s : State} (h : s.regsWf) (p : Nat → Bool) : (s.dropRegs p).regsWf := sparse_filter_wf _ h

/-- A register reads back as written; every other one keeps its word. -/
theorem State.reg_setReg {s : State} (h : s.regsWf) (a : Nat) (v : Word) (k : Nat) :
    (s.setReg a v).reg k = if k = a then v else s.reg k := sparseGet_put h a v k

theorem State.reg_set_ne {s : State} (h : s.regsWf) (f : Fld) (v : Nat) (k : Nat) (hk : k ≠ f.off) :
    (s.set f v).reg k = s.reg k := by
  rw [State.set, State.reg_setReg h, if_neg hk]

/-- A field reads back as written, modulo its width. -/
theorem State.get_set_same {s : State} (h : s.regsWf) (f : Fld) (v : Nat) (hf : f.ok) :
    (s.set f v).get f = v % 2 ^ (f.hi + 1 - f.lo) := by
  obtain ⟨h1, h2⟩ := hf
  rw [State.get, State.set, State.reg_setReg h, if_pos rfl, BitVec.toNat_ofNat,
    Nat.mod_eq_of_lt (putBits_lt (s.reg f.off).isLt h2 h1), bitsOf_putBits_same h1]

/-- A field that shares no bit with the one written keeps its value. -/
theorem State.get_set_ne {s : State} (h : s.regsWf) (f g : Fld) (v : Nat) (hf : f.ok) (a : f.apart g) :
    (s.set f v).get g = s.get g := by
  obtain ⟨h1, h2⟩ := hf
  rw [State.get, State.set, State.reg_setReg h]
  split
  · rename_i c
    rw [BitVec.toNat_ofNat, Nat.mod_eq_of_lt (putBits_lt (s.reg f.off).isLt h2 h1), State.get, ← c,
      bitsOf_putBits_ne h1 (by rcases a with a | a | a <;> omega)]
  · rfl

theorem State.get_raise_same {s : State} (h : s.regsWf) (f : Fld) (hf : f.ok) : (s.raise f).get f = 1 := by
  rw [State.raise, State.get_set_same h f 1 hf]
  exact Nat.mod_eq_of_lt (Nat.one_lt_two_pow (by have := hf.1; omega))

theorem State.get_clear_same {s : State} (h : s.regsWf) (f : Fld) (hf : f.ok) : (s.clear f).get f = 0 := by
  rw [State.clear, State.get_set_same h f 0 hf, Nat.zero_mod]

theorem State.flag_raise {s : State} (h : s.regsWf) (f : Fld) (hf : f.ok) : (s.raise f).flag f = true := by
  simp [State.flag, State.get_raise_same h f hf]

theorem State.flag_clear {s : State} (h : s.regsWf) (f : Fld) (hf : f.ok) : (s.clear f).flag f = false := by
  simp [State.flag, State.get_clear_same h f hf]

theorem State.flag_set_ne {s : State} (h : s.regsWf) (f g : Fld) (v : Nat) (hf : f.ok) (a : f.apart g) :
    (s.set f v).flag g = s.flag g := by rw [State.flag, State.flag, State.get_set_ne h f g v hf a]

/-! ### Lists of tiles, ports, channels and gates -/

theorem getD_set_same (l : List α) (n : Nat) (x d : α) (h : n < l.length) : (l.set n x).getD n d = x := by
  simp [List.getD_eq_getElem?_getD, h]

theorem getD_set_ne (l : List α) (n m : Nat) (x d : α) (h : n ≠ m) : (l.set n x).getD m d = l.getD m d := by
  simp [List.getD_eq_getElem?_getD, List.getElem?_set_ne h]

theorem State.tile_setTile_same (s : State) (n : Nat) (t : Tile) (h : n < s.tiles.length) : (s.setTile n t).tile n = t :=
  getD_set_same _ _ _ _ h

theorem State.tile_setTile_ne (s : State) (n m : Nat) (t : Tile) (h : n ≠ m) : (s.setTile n t).tile m = s.tile m :=
  getD_set_ne _ _ _ _ _ h

theorem State.seq_setSeq_same (s : State) (n : Nat) (q : Seq) (h : n < s.tiles.length) : (s.setSeq n q).seq n = q := by
  rw [State.seq, State.setSeq, State.tile_setTile_same _ _ _ h]

theorem State.seq_setSeq_ne (s : State) (n m : Nat) (q : Seq) (h : n ≠ m) : (s.setSeq n q).seq m = s.seq m := by
  rw [State.seq, State.setSeq, State.tile_setTile_ne _ _ _ _ h, State.seq]

@[simp] theorem State.setTile_tiles_length (s : State) (n : Nat) (t : Tile) : (s.setTile n t).tiles.length = s.tiles.length :=
  List.length_set

@[simp] theorem State.setSeq_tiles_length (s : State) (n : Nat) (q : Seq) : (s.setSeq n q).tiles.length = s.tiles.length :=
  List.length_set

end Sys2Proof.Machine
end

