-- ==== Sys2Proof/Laws/Keeps.lean ====
section
/-!
SUPPORT. Sys2Proof/Laws/Keeps.lean: one relation, `State.Kept s t`, says that what holds of `s` by the invariants of the step holds of
`t`; it is reflexive and transitive, and every shared operation has a lemma with it. A command's invariant proof chains them.
-/

namespace Sys2Proof.Machine

theorem Otp.Follows.refl (a : Otp) : a.Follows a := ⟨Nat.le_refl _, fun _ _ h => h, fun _ => Nat.le_refl _, id, id, id⟩

theorem Otp.Follows.trans {a b c : Otp} (h : a.Follows b) (g : b.Follows c) : a.Follows c :=
  ⟨Nat.le_trans h.lc g.lc, fun k hk e => g.revoked k hk (h.revoked k hk e), fun k => Nat.le_trans (h.floors k) (g.floors k),
   g.owner ∘ h.owner, g.erased ∘ h.erased, g.identity ∘ h.identity⟩

/-- `t` keeps the invariants of `s`. -/
structure State.Kept (s t : State) : Prop where
  ok : s.Ok → t.Ok
  sized : s.Sized → t.Sized
  otp : s.touch.otp.Follows t.touch.otp

theorem State.Kept.refl (s : State) : s.Kept s := ⟨id, id, .refl _⟩

theorem State.Kept.trans {s t u : State} (h : s.Kept t) (g : t.Kept u) : s.Kept u :=
  ⟨g.ok ∘ h.ok, g.sized ∘ h.sized, h.otp.trans g.otp⟩

theorem State.kept_ite {s t u : State} {p : Prop} [Decidable p] (h : p → s.Kept t) (g : ¬p → s.Kept u) : s.Kept (if p then t else u) := by
  split
  · exact h ‹_›
  · exact g ‹_›

/-- A fold of kept operations is kept. -/
theorem State.kept_foldl {f : State → α → State} (h : ∀ (s : State) (a : α), s.Kept (f s a)) (l : List α) : ∀ s : State, s.Kept (l.foldl f s) := by
  induction l with
  | nil => exact fun s => .refl s
  | cons a l ih => exact fun s => (h s a).trans (ih _)

/-! ### Registers -/

/-- An update of the register file that keeps its form. -/
theorem State.kept_setRegs {s : State} {x : List (Nat × Word)} (h : s.regsWf → sparseWf regReset x = true) : s.Kept (s.setRegs x) :=
  ⟨fun k => ⟨h k.regs, k.act, k.lp, k.pool, k.tiles, k.tile, k.vlan, k.ctr, k.slots, k.bufs, k.rx, k.links, k.flash⟩,
   fun k => ⟨k.maps, k.jxl, k.csi, k.csiV, k.ppc, k.addrs, k.gates, k.flows, k.clocks, k.ceSec, k.tiles, k.tile⟩, .refl _⟩

theorem State.kept_setReg (s : State) (a : Nat) (v : Word) : s.Kept (s.setReg a v) := kept_setRegs (sparsePut_wf a v)
theorem State.kept_set (s : State) (f : Fld) (v : Nat) : s.Kept (s.set f v) := kept_setReg _ _ _
theorem State.kept_raise (s : State) (f : Fld) : s.Kept (s.raise f) := kept_set _ _ _
theorem State.kept_clear (s : State) (f : Fld) : s.Kept (s.clear f) := kept_set _ _ _
theorem State.kept_seti (s : State) (f : Fld) (v : Int) : s.Kept (s.seti f v) := kept_set _ _ _
theorem State.kept_incBy (s : State) (f : Fld) (n : Nat) : s.Kept (s.incBy f n) := kept_set _ _ _
theorem State.kept_inc (s : State) (f : Fld) : s.Kept (s.inc f) := kept_set _ _ _
theorem State.kept_incWrap (s : State) (f : Fld) (n : Nat) : s.Kept (s.incWrap f n) := kept_set _ _ _
theorem State.kept_set64 (s : State) (lo hi : Fld) (v : Nat) : s.Kept (s.set64 lo hi v) := (kept_set _ _ _).trans (kept_set _ _ _)
theorem State.kept_dropRegs (s : State) (p : Nat → Bool) : s.Kept (s.dropRegs p) := kept_setRegs (sparse_filter_wf _)

theorem State.kept_typed (s : State) (a v : Nat) : s.Kept (s.typed a v) := by
  unfold State.typed
  split
  · exact kept_setReg _ _ _
  · exact .refl _

theorem State.kept_typedAll (s : State) (a : Nat) (ws : List Nat) : s.Kept (s.typedAll a ws) := kept_foldl (fun _ _ => kept_typed _ _ _) _ s

/-- An update of the registers in force that keeps their form. -/
theorem State.kept_setAct {s : State} {x : List (Nat × Word)} (h : s.regsWf → sparseWf regReset s.act = true → sparseWf regReset x = true) :
    s.Kept (s.setAct x) :=
  ⟨fun k => ⟨k.regs, h k.regs k.act, k.lp, k.pool, k.tiles, k.tile, k.vlan, k.ctr, k.slots, k.bufs, k.rx, k.links, k.flash⟩,
   fun k => ⟨k.maps, k.jxl, k.csi, k.csiV, k.ppc, k.addrs, k.gates, k.flows, k.clocks, k.ceSec, k.tiles, k.tile⟩, .refl _⟩

theorem State.kept_aset (s : State) (f : Fld) (v : Nat) : s.Kept (s.aset f v) := kept_setAct (fun _ h => sparsePut_wf _ _ h)
theorem State.kept_activate (s : State) : s.Kept s.activate := kept_setAct (fun h _ => sparse_filter_wf _ h)

/-! ### Parts of the state that no invariant names -/

theorem State.kept_setCfg (s : State) (x : Part) : s.Kept (s.setCfg x) :=
  ⟨fun k => ⟨k.regs, k.act, k.lp, k.pool, k.tiles, k.tile, k.vlan, k.ctr, k.slots, k.bufs, k.rx, k.links, k.flash⟩,
   fun k => ⟨k.maps, k.jxl, k.csi, k.csiV, k.ppc, k.addrs, k.gates, k.flows, k.clocks, k.ceSec, k.tiles, k.tile⟩, .refl _⟩

theorem State.kept_setPins (s : State) (x : Pins) : s.Kept (s.setPins x) :=
  ⟨fun k => ⟨k.regs, k.act, k.lp, k.pool, k.tiles, k.tile, k.vlan, k.ctr, k.slots, k.bufs, k.rx, k.links, k.flash⟩,
   fun k => ⟨k.maps, k.jxl, k.csi, k.csiV, k.ppc, k.addrs, k.gates, k.flows, k.clocks, k.ceSec, k.tiles, k.tile⟩, .refl _⟩

theorem State.kept_setHst (s : State) (x : HostIf) : s.Kept (s.setHst x) :=
  ⟨fun k => ⟨k.regs, k.act, k.lp, k.pool, k.tiles, k.tile, k.vlan, k.ctr, k.slots, k.bufs, k.rx, k.links, k.flash⟩,
   fun k => ⟨k.maps, k.jxl, k.csi, k.csiV, k.ppc, k.addrs, k.gates, k.flows, k.clocks, k.ceSec, k.tiles, k.tile⟩, .refl _⟩

theorem State.kept_setLate (s : State) (x : List (Fld × Nat)) : s.Kept (s.setLate x) :=
  ⟨fun k => ⟨k.regs, k.act, k.lp, k.pool, k.tiles, k.tile, k.vlan, k.ctr, k.slots, k.bufs, k.rx, k.links, k.flash⟩,
   fun k => ⟨k.maps, k.jxl, k.csi, k.csiV, k.ppc, k.addrs, k.gates, k.flows, k.clocks, k.ceSec, k.tiles, k.tile⟩, .refl _⟩

theorem State.kept_setCimq (s : State) (x : List (Nat × Nat)) : s.Kept (s.setCimq x) :=
  ⟨fun k => ⟨k.regs, k.act, k.lp, k.pool, k.tiles, k.tile, k.vlan, k.ctr, k.slots, k.bufs, k.rx, k.links, k.flash⟩,
   fun k => ⟨k.maps, k.jxl, k.csi, k.csiV, k.ppc, k.addrs, k.gates, k.flows, k.clocks, k.ceSec, k.tiles, k.tile⟩, .refl _⟩

theorem State.kept_setFw (s : State) (x : Bench) : s.Kept (s.setFw x) :=
  ⟨fun k => ⟨k.regs, k.act, k.lp, k.pool, k.tiles, k.tile, k.vlan, k.ctr, k.slots, k.bufs, k.rx, k.links, k.flash⟩,
   fun k => ⟨k.maps, k.jxl, k.csi, k.csiV, k.ppc, k.addrs, k.gates, k.flows, k.clocks, k.ceSec, k.tiles, k.tile⟩, .refl _⟩

theorem State.kept_setLadle (s : State) (x : Ladle) : s.Kept (s.setLadle x) :=
  ⟨fun k => ⟨k.regs, k.act, k.lp, k.pool, k.tiles, k.tile, k.vlan, k.ctr, k.slots, k.bufs, k.rx, k.links, k.flash⟩,
   fun k => ⟨k.maps, k.jxl, k.csi, k.csiV, k.ppc, k.addrs, k.gates, k.flows, k.clocks, k.ceSec, k.tiles, k.tile⟩, .refl _⟩

theorem State.kept_setFreeCtr (s : State) (x : Nat) : s.Kept (s.setFreeCtr x) :=
  ⟨fun k => ⟨k.regs, k.act, k.lp, k.pool, k.tiles, k.tile, k.vlan, k.ctr, k.slots, k.bufs, k.rx, k.links, k.flash⟩,
   fun k => ⟨k.maps, k.jxl, k.csi, k.csiV, k.ppc, k.addrs, k.gates, k.flows, k.clocks, k.ceSec, k.tiles, k.tile⟩, .refl _⟩

theorem State.kept_setOut (s : State) (x : List Out) : s.Kept (s.setOut x) :=
  ⟨fun k => ⟨k.regs, k.act, k.lp, k.pool, k.tiles, k.tile, k.vlan, k.ctr, k.slots, k.bufs, k.rx, k.links, k.flash⟩,
   fun k => ⟨k.maps, k.jxl, k.csi, k.csiV, k.ppc, k.addrs, k.gates, k.flows, k.clocks, k.ceSec, k.tiles, k.tile⟩, .refl _⟩

theorem State.kept_tick (s : State) : s.Kept s.tick := kept_setFreeCtr _ _
theorem State.kept_emit (s : State) (x : Out) : s.Kept (s.emit x) := kept_setOut _ _
theorem State.kept_bench (s : State) (n : Notice) (i : Nat) : s.Kept (s.bench n i) := kept_emit _ _

/-! ### Parts with a table of fixed size or a sparse list: what the update must keep -/

theorem State.kept_setTb {s : State} {x : TimeBase} (h : x.maps.length = s.tb.maps.length) : s.Kept (s.setTb x) :=
  ⟨fun k => ⟨k.regs, k.act, k.lp, k.pool, k.tiles, k.tile, k.vlan, k.ctr, k.slots, k.bufs, k.rx, k.links, k.flash⟩,
   fun k => ⟨(h ▸ k.maps), k.jxl, k.csi, k.csiV, k.ppc, k.addrs, k.gates, k.flows, k.clocks, k.ceSec, k.tiles, k.tile⟩, .refl _⟩

theorem State.kept_setSw {s : State} {x : Switch} (h : sparseWf (fun _ => ({} : VlanEntry)) s.sw.vlan = true → sparseWf (fun _ => ({} : VlanEntry)) x.vlan = true) : s.Kept (s.setSw x) :=
  ⟨fun k => ⟨k.regs, k.act, k.lp, k.pool, k.tiles, k.tile, (h k.vlan), k.ctr, k.slots, k.bufs, k.rx, k.links, k.flash⟩,
   fun k => ⟨k.maps, k.jxl, k.csi, k.csiV, k.ppc, k.addrs, k.gates, k.flows, k.clocks, k.ceSec, k.tiles, k.tile⟩, .refl _⟩

theorem State.kept_setSee {s : State} {x : Encoder} (h : x.flows.length = s.see.flows.length) : s.Kept (s.setSee x) :=
  ⟨fun k => ⟨k.regs, k.act, k.lp, k.pool, k.tiles, k.tile, k.vlan, k.ctr, k.slots, k.bufs, k.rx, k.links, k.flash⟩,
   fun k => ⟨k.maps, k.jxl, k.csi, k.csiV, k.ppc, k.addrs, k.gates, (h ▸ k.flows), k.clocks, k.ceSec, k.tiles, k.tile⟩, .refl _⟩

theorem State.kept_setJxl {s : State} {x : List JPort} (h : x.length = s.jxl.length) : s.Kept (s.setJxl x) :=
  ⟨fun k => ⟨k.regs, k.act, k.lp, k.pool, k.tiles, k.tile, k.vlan, k.ctr, k.slots, k.bufs, k.rx, k.links, k.flash⟩,
   fun k => ⟨k.maps, (h ▸ k.jxl), k.csi, k.csiV, k.ppc, k.addrs, k.gates, k.flows, k.clocks, k.ceSec, k.tiles, k.tile⟩, .refl _⟩

theorem State.kept_setCsi {s : State} {x : List CsiPort} (h : x.length = s.csi.length) (g : (∀ c ∈ s.csi, c.v.length = 8) → ∀ c ∈ x, c.v.length = 8) : s.Kept (s.setCsi x) :=
  ⟨fun k => ⟨k.regs, k.act, k.lp, k.pool, k.tiles, k.tile, k.vlan, k.ctr, k.slots, k.bufs, k.rx, k.links, k.flash⟩,
   fun k => ⟨k.maps, k.jxl, (h ▸ k.csi), (g k.csiV), k.ppc, k.addrs, k.gates, k.flows, k.clocks, k.ceSec, k.tiles, k.tile⟩, .refl _⟩

theorem State.kept_setPpc {s : State} {x : List Chan} (h : x.length = s.ppc.length) : s.Kept (s.setPpc x) :=
  ⟨fun k => ⟨k.regs, k.act, k.lp, k.pool, k.tiles, k.tile, k.vlan, k.ctr, k.slots, k.bufs, k.rx, k.links, k.flash⟩,
   fun k => ⟨k.maps, k.jxl, k.csi, k.csiV, (h ▸ k.ppc), k.addrs, k.gates, k.flows, k.clocks, k.ceSec, k.tiles, k.tile⟩, .refl _⟩

theorem State.kept_setAld {s : State} {x : Ald} (h : x.addrs.length = s.ald.addrs.length) : s.Kept (s.setAld x) :=
  ⟨fun k => ⟨k.regs, k.act, k.lp, k.pool, k.tiles, k.tile, k.vlan, k.ctr, k.slots, k.bufs, k.rx, k.links, k.flash⟩,
   fun k => ⟨k.maps, k.jxl, k.csi, k.csiV, k.ppc, (h ▸ k.addrs), k.gates, k.flows, k.clocks, k.ceSec, k.tiles, k.tile⟩, .refl _⟩

theorem State.kept_setGates {s : State} {x : List Gate} (h : x.length = s.gates.length) : s.Kept (s.setGates x) :=
  ⟨fun k => ⟨k.regs, k.act, k.lp, k.pool, k.tiles, k.tile, k.vlan, k.ctr, k.slots, k.bufs, k.rx, k.links, k.flash⟩,
   fun k => ⟨k.maps, k.jxl, k.csi, k.csiV, k.ppc, k.addrs, (h ▸ k.gates), k.flows, k.clocks, k.ceSec, k.tiles, k.tile⟩, .refl _⟩

theorem State.kept_setFab {s : State} {x : Fabric} (h : sparseWf (fun _ => ([] : List Item)) s.fab.bufs = true → sparseWf (fun _ => ([] : List Item)) x.bufs = true)
    (g : sparseWf (fun _ => ([] : List Item)) s.fab.rx = true → sparseWf (fun _ => ([] : List Item)) x.rx = true) : s.Kept (s.setFab x) :=
  ⟨fun k => ⟨k.regs, k.act, k.lp, k.pool, k.tiles, k.tile, k.vlan, k.ctr, k.slots, (h k.bufs), (g k.rx), k.links, k.flash⟩,
   fun k => ⟨k.maps, k.jxl, k.csi, k.csiV, k.ppc, k.addrs, k.gates, k.flows, k.clocks, k.ceSec, k.tiles, k.tile⟩, .refl _⟩

theorem State.kept_setSync {s : State} {x : Sync} (h : sparseWf (fun _ => 0) s.sync.ctr = true → sparseWf (fun _ => 0) x.ctr = true)
    (g : sparseWf (fun _ => ({} : Slot)) s.sync.slots = true → sparseWf (fun _ => ({} : Slot)) x.slots = true) : s.Kept (s.setSync x) :=
  ⟨fun k => ⟨k.regs, k.act, k.lp, k.pool, k.tiles, k.tile, k.vlan, (h k.ctr), (g k.slots), k.bufs, k.rx, k.links, k.flash⟩,
   fun k => ⟨k.maps, k.jxl, k.csi, k.csiV, k.ppc, k.addrs, k.gates, k.flows, k.clocks, k.ceSec, k.tiles, k.tile⟩, .refl _⟩

theorem State.kept_setPmu {s : State} {x : Pmu} (h : x.clocks.length = s.pmu.clocks.length) : s.Kept (s.setPmu x) :=
  ⟨fun k => ⟨k.regs, k.act, k.lp, k.pool, k.tiles, k.tile, k.vlan, k.ctr, k.slots, k.bufs, k.rx, k.links, k.flash⟩,
   fun k => ⟨k.maps, k.jxl, k.csi, k.csiV, k.ppc, k.addrs, k.gates, k.flows, (h ▸ k.clocks), k.ceSec, k.tiles, k.tile⟩, .refl _⟩

theorem State.kept_setRas {s : State} {x : Ras} (h : sparseWf (fun _ => 0) s.ras.links = true → sparseWf (fun _ => 0) x.links = true) (g : x.ceSec.length = s.ras.ceSec.length) : s.Kept (s.setRas x) :=
  ⟨fun k => ⟨k.regs, k.act, k.lp, k.pool, k.tiles, k.tile, k.vlan, k.ctr, k.slots, k.bufs, k.rx, (h k.links), k.flash⟩,
   fun k => ⟨k.maps, k.jxl, k.csi, k.csiV, k.ppc, k.addrs, k.gates, k.flows, k.clocks, (g ▸ k.ceSec), k.tiles, k.tile⟩, .refl _⟩

theorem State.kept_setMem {s : State} {x : Memories} (h : Memory.wf s.mem.lp = true → Memory.wf x.lp = true) (g : Memory.wf s.mem.pool = true → Memory.wf x.pool = true) : s.Kept (s.setMem x) :=
  ⟨fun k => ⟨k.regs, k.act, (h k.lp), (g k.pool), k.tiles, k.tile, k.vlan, k.ctr, k.slots, k.bufs, k.rx, k.links, k.flash⟩,
   fun k => ⟨k.maps, k.jxl, k.csi, k.csiV, k.ppc, k.addrs, k.gates, k.flows, k.clocks, k.ceSec, k.tiles, k.tile⟩, .refl _⟩

theorem State.kept_setTouch {s : State} {x : Touch} (h : s.touch.otp.Follows x.otp)
    (g : sparseWf (fun _ => (0xFF : Byte)) s.touch.flash = true → sparseWf (fun _ => (0xFF : Byte)) x.flash = true) : s.Kept (s.setTouch x) :=
  ⟨fun k => ⟨k.regs, k.act, k.lp, k.pool, k.tiles, k.tile, k.vlan, k.ctr, k.slots, k.bufs, k.rx, k.links, g k.flash⟩,
   fun k => ⟨k.maps, k.jxl, k.csi, k.csiV, k.ppc, k.addrs, k.gates, k.flows, k.clocks, k.ceSec, k.tiles, k.tile⟩, h⟩

/-! ### Tiles -/

/-- What a tile must keep. -/
structure Tile.Kept (a b : Tile) : Prop where
  mem : Memory.wf a.mem = true → Memory.wf b.mem = true
  imem : Memory.wf a.imem = true → Memory.wf b.imem = true
  acc : sparseWf (fun _ => 0) a.cim.acc = true → sparseWf (fun _ => 0) b.cim.acc = true
  g : b.seq.g.length = a.seq.g.length
  p : b.seq.p.length = a.seq.p.length
  arrays : b.cim.arrays.length = a.cim.arrays.length

theorem Tile.Kept.refl (a : Tile) : a.Kept a := ⟨id, id, id, rfl, rfl, rfl⟩

theorem Tile.Kept.trans {a b c : Tile} (h : a.Kept b) (k : b.Kept c) : a.Kept c :=
  ⟨k.mem ∘ h.mem, k.imem ∘ h.imem, k.acc ∘ h.acc, k.g.trans h.g, k.p.trans h.p, k.arrays.trans h.arrays⟩

/-- A member of a list with one place replaced is a member of the list or the new value of that place. -/
theorem mem_set_cases {l : List α} {n : Nat} {x a d : α} (h : a ∈ l.set n x) : a ∈ l ∨ (a = x ∧ l.getD n d ∈ l) := by
  induction l generalizing n with
  | nil => simp at h
  | cons b l ih =>
    cases n with
    | zero =>
      rcases List.mem_cons.1 h with rfl | h
      · exact .inr ⟨rfl, by simp⟩
      · exact .inl (List.mem_cons_of_mem _ h)
    | succ n =>
      rcases List.mem_cons.1 h with rfl | h
      · exact .inl List.mem_cons_self
      · rcases ih h with h | ⟨h, g⟩
        · exact .inl (List.mem_cons_of_mem _ h)
        · exact .inr ⟨h, List.mem_cons_of_mem _ (by simpa using g)⟩

theorem State.kept_setTile {s : State} {n : Nat} {t : Tile} (h : (s.tile n).Kept t) : s.Kept (s.setTile n t) := by
  refine ⟨fun k => ⟨k.regs, k.act, k.lp, k.pool, ?_, ?_, k.vlan, k.ctr, k.slots, k.bufs, k.rx, k.links, k.flash⟩,
    fun k => ⟨k.maps, k.jxl, k.csi, k.csiV, k.ppc, k.addrs, k.gates, k.flows, k.clocks, k.ceSec, ?_, ?_⟩, .refl _⟩
  · rw [setTile_tiles_length]; exact k.tiles
  · intro u hu
    rcases mem_set_cases (d := ({} : Tile)) hu with hu | ⟨rfl, hm⟩
    · exact k.tile u hu
    · have hk := k.tile _ hm
      exact ⟨h.mem hk.1, h.imem hk.2.1, h.acc hk.2.2⟩
  · rw [setTile_tiles_length]; exact k.tiles
  · intro u hu
    rcases mem_set_cases (d := ({} : Tile)) hu with hu | ⟨rfl, hm⟩
    · exact k.tile u hu
    · have hk := k.tile _ hm
      exact ⟨h.g.trans hk.1, h.p.trans hk.2.1, h.arrays.trans hk.2.2⟩

/-- A sequencer with the same numbers of registers and predicates. -/
abbrev Seq.Same (a b : Seq) : Prop := b.g.length = a.g.length ∧ b.p.length = a.p.length

theorem State.kept_setSeq {s : State} {n : Nat} {q : Seq} (h : (s.seq n).Same q) : s.Kept (s.setSeq n q) :=
  kept_setTile ⟨id, id, id, h.1, h.2, rfl⟩

theorem State.kept_setNe (s : State) (n : Nat) (x : Neuron) : s.Kept (s.setNe n x) := kept_setTile ⟨id, id, id, rfl, rfl, rfl⟩

theorem State.kept_setCim {s : State} {n : Nat} {c : Cim} (h : sparseWf (fun _ => 0) (s.tile n).cim.acc = true → sparseWf (fun _ => 0) c.acc = true)
    (g : c.arrays.length = (s.tile n).cim.arrays.length) : s.Kept (s.setCim n c) := kept_setTile ⟨id, id, h, rfl, rfl, g⟩

theorem State.kept_setArr (s : State) (n a : Nat) (x : CimArray) : s.Kept (s.setArr n a x) := kept_setCim id (List.length_set ..)

theorem Tile.kept_store (t : Tile) (a : Nat) (b : List Byte) : t.Kept (t.store a b) := ⟨memPutBytes_wf b _ a, id, id, rfl, rfl, rfl⟩

theorem Seq.same_wr (q : Seq) (i : Nat) (v : Word) : q.Same (q.wr i v) := by
  unfold Seq.wr; split <;> simp [Seq.Same]

theorem Seq.same_wrP (q : Seq) (i : Nat) (v : Bool) : q.Same (q.wrP i v) := by
  unfold Seq.wrP; split <;> simp [Seq.Same]

theorem Seq.same_land (q : Seq) (c : Nat) (v : Word) : q.Same (q.land c v) := by
  unfold Seq.land; split
  · exact same_wr _ _ _
  · exact same_wrP _ _ _

theorem loopEnd_same (q : Seq) (fuel k : Nat) : q.Same (loopEnd q fuel k).1 := by
  induction fuel generalizing q k with
  | zero => exact ⟨rfl, rfl⟩
  | succ fuel ih =>
    unfold loopEnd; split
    · split
      · exact ⟨rfl, rfl⟩
      · exact ih _ _
    · exact ih _ _

theorem Seq.same_advance (q : Seq) : q.Same q.advance := by
  unfold Seq.advance; split
  · exact ⟨rfl, rfl⟩
  · split
    · exact ⟨rfl, rfl⟩
    · exact loopEnd_same q 3 0

theorem Seq.same_shadow (q : Seq) : q.Same q.shadow := by
  unfold Seq.shadow; split
  · split <;> exact ⟨rfl, rfl⟩
  · exact ⟨rfl, rfl⟩

/-! ### Shared operations -/

theorem State.kept_owe (s : State) (source index data : Nat) : s.Kept (s.owe source index data) := kept_setHst _ _

theorem State.kept_msix (s : State) (pf vec : Nat) : s.Kept (s.msix pf vec) := by
  unfold State.msix; split
  · exact .refl _
  · split
    · split
      · exact kept_set _ _ _
      · exact kept_emit _ _
    · split
      · exact kept_set _ _ _
      · exact kept_emit _ _

theorem State.kept_logErr (s : State) (a : Agent) (pf bar off : Nat) (w : Bool) (c : ErrCause) : s.Kept (s.logErr a pf bar off w c) := by
  unfold State.logErr; split
  · exact ((kept_inc _ _).trans (kept_set _ _ _)).trans (kept_setReg _ _ _)
  · exact .refl _

/-- A guarded write keeps what its effect keeps. -/
theorem State.kept_guardWrite {s : State} {on : Bool} {w : Writers} {a : Agent} {off : Nat} {f : State → State} (h : s.Kept (f s)) :
    s.Kept (s.guardWrite on w a off f) := by
  unfold State.guardWrite; split
  · exact kept_logErr _ _ _ _ _ _ _
  · split
    · exact h
    · exact kept_logErr _ _ _ _ _ _ _

theorem State.kept_guardTile {s : State} {n : Nat} {a : Agent} {off : Nat} {f : State → State} (h : s.Kept (f s)) :
    s.Kept (s.guardTile n a off f) := by
  unfold State.guardTile; split
  · exact kept_logErr _ _ _ _ _ _ _
  · exact kept_guardWrite h

theorem kept_setPlanState (v : Nat) (s : State) : s.Kept (setPlanState v s) := by
  unfold setPlanState; split
  · exact .refl _
  · exact (State.kept_set _ _ _).trans (State.kept_owe _ _ _ _)

theorem kept_tileHalt (n reason : Nat) (s : State) : s.Kept (tileHalt n reason s) := by
  unfold tileHalt; dsimp only; split
  · exact ((State.kept_clear _ _).trans (State.kept_set _ _ _)).trans (kept_setPlanState _ _)
  · exact (State.kept_clear _ _).trans (State.kept_set _ _ _)

theorem kept_tileHaltNotify (n reason : Nat) (s : State) : s.Kept (tileHaltNotify n reason s) :=
  (kept_tileHalt _ _ _).trans (State.kept_bench _ _ _)

theorem kept_enter (n cause : Nat) (dests : List Nat) (s : State) : s.Kept (enter n cause dests s) := by
  unfold enter; dsimp only
  refine State.Kept.trans (State.kept_setSeq ?_) (State.kept_incWrap _ _ _)
  exact ⟨rfl, rfl⟩

theorem kept_raiseExc (n cause : Nat) (ebad : Word) (dests : List Nat) (s : State) : s.Kept (raiseExc n cause ebad dests s) := by
  unfold raiseExc
  have h : s.Kept (if cause = 1 then s.setSeq n { s.seq n with haltPend := true } else s) :=
    State.kept_ite (fun _ => State.kept_setSeq ⟨rfl, rfl⟩) (fun _ => .refl _)
  refine h.trans ?_
  generalize (if cause = 1 then s.setSeq n { s.seq n with haltPend := true } else s) = u
  dsimp only
  split
  · exact kept_tileHaltNotify _ _ _
  · refine State.Kept.trans (State.kept_setSeq ?_) (kept_enter _ _ _ _)
    exact ⟨rfl, rfl⟩

theorem kept_retire (n : Nat) (s : State) : s.Kept (retire n s) := by
  have h := Seq.same_advance (s.seq n); have g := Seq.same_shadow (s.seq n).advance
  exact (State.kept_setSeq ⟨g.1.trans h.1, g.2.trans h.2⟩).trans (State.kept_incWrap _ _ _)

theorem kept_retireBranch (n : Nat) (target : Option Nat) (reads : List Nat) (s : State) : s.Kept (retireBranch n target reads s) := by
  unfold retireBranch countRetired; dsimp only
  refine (State.kept_setSeq ?_).trans (State.kept_incWrap _ _ _)
  exact Seq.same_shadow { s.seq n with delay := some ⟨target, (s.seq n).pc, reads⟩, pc := ((s.seq n).pc + 4) % 0x4000 }

/-- The state that a body leaves. -/
def Act.state (s : State) : Act → State
  | .done t => t
  | .exc t _ _ => t
  | .stall => s
  | .placed t => t

/-- One instruction keeps what its body keeps. -/
theorem kept_instr {n : Nat} {gd : Guard} {reads dests : List Nat} {illegal : Option Word} {unguarded : Seq → Seq} {body : State → Act}
    {s : State} (hu : (s.seq n).Same (unguarded (s.seq n))) (hb : s.Kept ((body s).state s)) :
    s.Kept (instr n gd reads dests illegal unguarded body s) := by
  unfold instr; split
  · exact .refl _
  dsimp only; split
  · exact kept_raiseExc _ _ _ _ _
  split
  · exact kept_raiseExc _ _ _ _ _
  split
  · exact kept_raiseExc _ _ _ _ _
  split
  · exact .refl _
  split
  · exact (State.kept_setSeq hu).trans (kept_retire _ _)
  split
  · next h => rw [h] at hb; exact hb.trans (kept_retire _ _)
  · next h => rw [h] at hb; exact hb.trans (kept_raiseExc _ _ _ _ _)
  · exact .refl _
  · next h => rw [h] at hb; exact hb

/-! ### Memory, counters, mailboxes, fabric, errors -/

theorem kept_lpStore (a : Nat) (b : List Byte) (s : State) : s.Kept (lpStore a b s) := State.kept_setMem (memPutBytes_wf b _ a) id
theorem kept_setCtr (key v : Nat) (s : State) : s.Kept (setCtr key v s) := State.kept_setSync (sparsePut_wf _ _) id
theorem State.kept_setSlot (s : State) (k : Nat) (x : Slot) : s.Kept (s.setSlot k x) := kept_setSync id (sparsePut_wf _ _)
theorem State.kept_setBuf (s : State) (k : Nat) (l : List Item) : s.Kept (s.setBuf k l) := kept_setFab (sparsePut_wf _ _) id
theorem State.kept_setRx (s : State) (n : Nat) (l : List Item) : s.Kept (s.setRx n l) := kept_setFab id (sparsePut_wf _ _)
theorem State.kept_setJp (s : State) (n : Nat) (j : JPort) : s.Kept (s.setJp n j) := kept_setJxl (List.length_set ..)
theorem State.kept_setCh (s : State) (n : Nat) (c : Chan) : s.Kept (s.setCh n c) := kept_setPpc (List.length_set ..)
theorem State.kept_setGate (s : State) (g : Nat) (x : Gate) : s.Kept (s.setGate g x) := kept_setGates (List.length_set ..)
theorem State.kept_setFlow (s : State) (n : Nat) (f : Flow) : s.Kept (s.setFlow n f) := kept_setSee (List.length_set ..)
theorem State.kept_setAa (s : State) (i : Nat) (a : AldAddr) : s.Kept (s.setAa i a) := kept_setAld (List.length_set ..)

theorem kept_rasLog (region : Nat) (src : RasSrc) (ue : Bool) (node unit addr : Nat) (s : State) :
    s.Kept (rasLog region src ue node unit addr s) := by
  unfold rasLog; split
  · exact .refl _
  split
  · exact State.kept_inc _ _
  dsimp only
  have h1 (w : Nat) (w0 : Nat) := ((State.kept_set s (F.RAS_LOG w 0) w0).trans (State.kept_set _ (F.RAS_LOG w 1) addr)).trans
    (State.kept_set _ (F.RAS_LOG w 2) (addr / 2 ^ 32 % 2 ^ 16))
  refine State.kept_ite (fun _ => State.Kept.trans ?_ (State.kept_owe _ _ _ _)) (fun _ => ?_) <;>
  · refine State.Kept.trans ?_ ((State.kept_raise _ _).trans (State.kept_bench _ _ _))
    refine State.Kept.trans ?_ (State.kept_setRas id rfl)
    exact (h1 _ _).trans ((State.kept_set _ _ _).trans (State.kept_set _ _ _))

theorem kept_rasUe (region : Nat) (src : RasSrc) (node unit addr : Nat) (s : State) : s.Kept (rasUe region src node unit addr s) :=
  (State.kept_ite (fun _ => State.kept_inc _ _) (fun _ => .refl _)).trans (kept_rasLog _ _ _ _ _ _ _)

theorem kept_rasCe (region : Nat) (src : RasSrc) (node unit addr : Nat) (s : State) : s.Kept (rasCe region src node unit addr s) := by
  unfold rasCe; split
  · exact .refl _
  dsimp only
  have h : s.Kept ((s.inc (F.RAS_CE region)).setRas { (s.inc (F.RAS_CE region)).ras with
      ceSec := (s.inc (F.RAS_CE region)).ras.ceSec.set region ((s.inc (F.RAS_CE region)).ras.ceSec.getD region 0 + 1) }) :=
    (State.kept_inc _ _).trans (State.kept_setRas id (List.length_set ..))
  exact State.kept_ite (fun _ => h.trans (kept_rasLog _ _ _ _ _ _ _)) (fun _ => h)

theorem kept_rasLink (tile unit : Nat) (s : State) : s.Kept (rasLink tile unit s) := by
  unfold rasLink; dsimp only
  refine (kept_rasUe 16 .link tile unit 0 s).trans ?_
  generalize rasUe 16 .link tile unit 0 s = u
  exact State.kept_setRas (fun h => by dsimp only; exact sparsePut_wf _ _ h) rfl

theorem kept_deliver (n tag : Nat) (ret wait : Bool) (v : Word) (s : State) : s.Kept (deliver n tag ret wait v s) := by
  unfold deliver; dsimp only; split
  · exact State.kept_setSeq ⟨rfl, rfl⟩
  split
  · exact State.kept_setSeq ⟨rfl, rfl⟩
  · exact State.kept_setSeq ⟨(Seq.same_land _ _ _).1, (Seq.same_land _ _ _).2⟩

theorem kept_badHandle (h src : Nat) (s : State) : s.Kept (badHandle h src s) :=
  ((State.kept_inc _ _).trans (State.kept_set _ _ _)).trans ((State.kept_set _ _ _).trans (State.kept_raise _ _))

end Sys2Proof.Machine
end

