-- ==== Sys2Proof/Tests/Slice0.lean ====
section
/-!
SUPPORT. Sys2Proof/Tests/Slice0.lean: tests of the model against the spec's worked examples, the smoke test of WellFormed, and witnesses
of the statements' hypotheses.
-/

namespace Sys2Proof
/-! ### Ill-formed commands: every check of `Instr.wf` refuses the first value beyond its range. -/

theorem test_wf_refuses_1 : ([.registerWrite .host false 0x4000000 false 0,
    .ppsInEdge false 32,
    .ptpSamplePush .host 256,
    .beaconSend 16,
    .beaconResp 16 0 0 0 0,
    .beaconResp 0 (2 ^ 16) 0 0 0,
    .beaconResp 0 0 (2 ^ 16) 0 0,
    .beaconResp 0 0 0 (2 ^ 64) 0,
    .beaconResp 0 0 0 0 (2 ^ 64),
    .beaconTimeout 16,
    .frameRx 8 [] false 0,
    .frameRx 0 [] false 64,
    .frameTx 8 0,
    .frameTx 0 64,
    .pdelayRespSend 8 0,
    .pdelayRespSend 0 64,
    .macAgeOut 4096 0,
    .macAgeOut 0 (2 ^ 48),
    .macFlushLearned .host 16,
    .vlanWrite .host 4096,
    .vlanRead .host 4096,
    .groupModeSet .host 2 false,
    .portEnable .host 8,
    .portDisable .host 8,
    .fhLinkUp 8,
    .fhLinkDown 8,
    .portCalibrationDone 8 0 0,
    .portCalibrationDone 0 (2 ^ 32) 0,
    .portCalibrationDone 0 0 (2 ^ 32),
    .events 16 0 [],
    .events 0 (2 ^ 16) [],
    .anchor 16 0 0,
    .anchor 0 (2 ^ 16) 0,
    .anchor 0 0 (2 ^ 32),
    .hello 16 0 0 0 0 0 0 0,
    .hello 0 (2 ^ 16) 0 0 0 0 0 0,
    .hello 0 0 256 0 0 0 0 0,
    .hello 0 0 0 (2 ^ 16) 0 0 0 0,
    .hello 0 0 0 0 (2 ^ 16) 0 0 0,
    .hello 0 0 0 0 0 (2 ^ 16) 0 0,
    .hello 0 0 0 0 0 0 (2 ^ 16) 0,
    .hello 0 0 0 0 0 0 0 (2 ^ 32),
    .keepalive 16 0 0 0,
    .keepalive 0 (2 ^ 16) 0 0,
    .keepalive 0 0 (2 ^ 16) 0,
    .keepalive 0 0 0 (2 ^ 16),
    .pwrReq 16 0 0,
    .pwrReq 0 (2 ^ 16) 0,
    .pwrReq 0 0 256,
    .cfgAck 16 0 0,
    .cfgAck 0 (2 ^ 16) 0,
    .cfgAck 0 0 (2 ^ 16),
    .regresp 16 0 0 0 0,
    .regresp 0 (2 ^ 16) 0 0 0,
    .regresp 0 0 256 0 0,
    .regresp 0 0 0 256 0,
    .corruptPacket 16 false,
    .crcBurst 16,
    .jxlLos 16,
    .jxlKeepaliveTimeout 16] : List Instr).all (fun i => !i.wf) = true := by decide +kernel

theorem test_wf_refuses_2 : ([.trainTimeout 16,
    .cfgAckTimeout 16,
    .pwrReqTimeout 16,
    .configResend 16,
    .resetHeadSend 16,
    .lostRetry 16,
    .backchannelKeepaliveSend 16,
    .flowSend 16,
    .jxlEnable .host 16,
    .jxlDisable .host 16,
    .regRequestGo .host 16 0 0 false,
    .regRequestGo .host 0 4 0 false,
    .regRequestGo .host 0 0 (2 ^ 16) false,
    .regRequestTimeout 16 0,
    .regRequestTimeout 0 4,
    .csiFrameStart 4 0,
    .csiFrameStart 0 4,
    .csiFrameEnd 4 0,
    .csiFrameEnd 0 4,
    .csiLineStart 4 0,
    .csiLineStart 0 4,
    .csiLineEnd 4 0,
    .csiLineEnd 0 4,
    .csiLongPacket 4 0 0 [] .good false,
    .csiLongPacket 0 4 0 [] .good false,
    .csiLongPacket 0 0 64 [] .good false,
    .parserProgramStart 4,
    .parserEnd 4,
    .parserLd 4,
    .parserSkip 4,
    .parserLdi 4,
    .parserAdd 4,
    .parserExt 4,
    .parserBeq 4,
    .parserBne 4,
    .parserJmp 4,
    .parserEmit 4,
    .parserEmitResume 4,
    .parserUnusedOpcode 4,
    .parserWatchdog 4,
    .ppcEnable .host 17,
    .ppcDisable .host 17,
    .detectPointEnd 17 0 0,
    .detectRetry 17,
    .ramp1End 17 0,
    .stepComplete 17 0,
    .currentLimit 17 0,
    .hardShort 17,
    .overload 17,
    .rampFail 17,
    .undervolt 17,
    .backoffEnd 17,
    .attemptClear 17,
    .stepAbort 17,
    .disconnect 17,
    .cooldownEnd 17,
    .ppcClr .host 17,
    .aldICommand .host 32 0,
    .aldICommand .host 0 256,
    .aldRawCommand .host 32 0] : List Instr).all (fun i => !i.wf) = true := by decide +kernel

theorem test_wf_refuses_3 : ([.aldRawCommand .host 0 256,
    .aldResponseTimeout 32,
    .gpioInterrupt 24 false,
    .alarmChange 8 false,
    .gateAdmit 32,
    .futureHoldEnd 32,
    .mergeEntryClose 32 0,
    .ingressInject 256,
    .symbolCloseTimeout 16 0,
    .symbolProcess 16,
    .flowDisable .host 16,
    .flitForward 192 0 false false,
    .flitForward 0 6 false false,
    .evwDelivery 192,
    .ebFlitRxTile 192,
    .ebFlitRxEdge 256,
    .spEbEmit 2,
    .fanoutSend 192,
    .spanGroupRx 2 0 [] false,
    .spanGroupRx 0 1024 [] false,
    .spanGroupRx 0 0 [(256, List.replicate 8 0)] false,
    .spanGroupRx 0 0 [(0, [1])] false,
    .spanPortUp 2 0 0 false false,
    .spanPortUp 0 256 0 false false,
    .spanPortUp 0 0 2 false false,
    .spanPortDown 2,
    .fabricStallDetect 256 0 0,
    .fabricStallDetect 0 6 0,
    .fabricStallDetect 0 0 4,
    .fenceRx 192 false,
    .aluAdd 192 {} 0 0 0,
    .aluAdd 0 { p := 8 } 0 0 0,
    .aluAdd 0 {} 32 0 0,
    .aluAdd 0 {} 0 32 0,
    .aluAdd 0 {} 0 0 32,
    .aluSub 192 {} 0 0 0,
    .aluSub 0 { p := 8 } 0 0 0,
    .aluSub 0 {} 32 0 0,
    .aluSub 0 {} 0 32 0,
    .aluSub 0 {} 0 0 32,
    .aluAnd 192 {} 0 0 0,
    .aluAnd 0 { p := 8 } 0 0 0,
    .aluAnd 0 {} 32 0 0,
    .aluAnd 0 {} 0 32 0,
    .aluAnd 0 {} 0 0 32,
    .aluOr 192 {} 0 0 0,
    .aluOr 0 { p := 8 } 0 0 0,
    .aluOr 0 {} 32 0 0,
    .aluOr 0 {} 0 32 0,
    .aluOr 0 {} 0 0 32,
    .aluXor 192 {} 0 0 0,
    .aluXor 0 { p := 8 } 0 0 0,
    .aluXor 0 {} 32 0 0,
    .aluXor 0 {} 0 32 0,
    .aluXor 0 {} 0 0 32,
    .aluAndn 192 {} 0 0 0,
    .aluAndn 0 { p := 8 } 0 0 0,
    .aluAndn 0 {} 32 0 0,
    .aluAndn 0 {} 0 32 0,
    .aluAndn 0 {} 0 0 32] : List Instr).all (fun i => !i.wf) = true := by decide +kernel

theorem test_wf_refuses_4 : ([.aluSll 192 {} 0 0 0,
    .aluSll 0 { p := 8 } 0 0 0,
    .aluSll 0 {} 32 0 0,
    .aluSll 0 {} 0 32 0,
    .aluSll 0 {} 0 0 32,
    .aluSrl 192 {} 0 0 0,
    .aluSrl 0 { p := 8 } 0 0 0,
    .aluSrl 0 {} 32 0 0,
    .aluSrl 0 {} 0 32 0,
    .aluSrl 0 {} 0 0 32,
    .aluSra 192 {} 0 0 0,
    .aluSra 0 { p := 8 } 0 0 0,
    .aluSra 0 {} 32 0 0,
    .aluSra 0 {} 0 32 0,
    .aluSra 0 {} 0 0 32,
    .aluSlt 192 {} 0 0 0,
    .aluSlt 0 { p := 8 } 0 0 0,
    .aluSlt 0 {} 32 0 0,
    .aluSlt 0 {} 0 32 0,
    .aluSlt 0 {} 0 0 32,
    .aluSltu 192 {} 0 0 0,
    .aluSltu 0 { p := 8 } 0 0 0,
    .aluSltu 0 {} 32 0 0,
    .aluSltu 0 {} 0 32 0,
    .aluSltu 0 {} 0 0 32,
    .aluMin 192 {} 0 0 0,
    .aluMin 0 { p := 8 } 0 0 0,
    .aluMin 0 {} 32 0 0,
    .aluMin 0 {} 0 32 0,
    .aluMin 0 {} 0 0 32,
    .aluMax 192 {} 0 0 0,
    .aluMax 0 { p := 8 } 0 0 0,
    .aluMax 0 {} 32 0 0,
    .aluMax 0 {} 0 32 0,
    .aluMax 0 {} 0 0 32,
    .aluMinu 192 {} 0 0 0,
    .aluMinu 0 { p := 8 } 0 0 0,
    .aluMinu 0 {} 32 0 0,
    .aluMinu 0 {} 0 32 0,
    .aluMinu 0 {} 0 0 32,
    .aluMaxu 192 {} 0 0 0,
    .aluMaxu 0 { p := 8 } 0 0 0,
    .aluMaxu 0 {} 32 0 0,
    .aluMaxu 0 {} 0 32 0,
    .aluMaxu 0 {} 0 0 32,
    .aluAdds 192 {} 0 0 0,
    .aluAdds 0 { p := 8 } 0 0 0,
    .aluAdds 0 {} 32 0 0,
    .aluAdds 0 {} 0 32 0,
    .aluAdds 0 {} 0 0 32,
    .aluSubs 192 {} 0 0 0,
    .aluSubs 0 { p := 8 } 0 0 0,
    .aluSubs 0 {} 32 0 0,
    .aluSubs 0 {} 0 32 0,
    .aluSubs 0 {} 0 0 32,
    .aluClz 192 {} 0 0,
    .aluClz 0 { p := 8 } 0 0,
    .aluClz 0 {} 32 0,
    .aluClz 0 {} 0 32,
    .aluPopc 192 {} 0 0] : List Instr).all (fun i => !i.wf) = true := by decide +kernel

theorem test_wf_refuses_5 : ([.aluPopc 0 { p := 8 } 0 0,
    .aluPopc 0 {} 32 0,
    .aluPopc 0 {} 0 32,
    .aluSextb 192 {} 0 0,
    .aluSextb 0 { p := 8 } 0 0,
    .aluSextb 0 {} 32 0,
    .aluSextb 0 {} 0 32,
    .aluSexth 192 {} 0 0,
    .aluSexth 0 { p := 8 } 0 0,
    .aluSexth 0 {} 32 0,
    .aluSexth 0 {} 0 32,
    .aluMul 192 {} 0 0 0,
    .aluMul 0 { p := 8 } 0 0 0,
    .aluMul 0 {} 32 0 0,
    .aluMul 0 {} 0 32 0,
    .aluMul 0 {} 0 0 32,
    .aluMulh 192 {} 0 0 0,
    .aluMulh 0 { p := 8 } 0 0 0,
    .aluMulh 0 {} 32 0 0,
    .aluMulh 0 {} 0 32 0,
    .aluMulh 0 {} 0 0 32,
    .aluMulhu 192 {} 0 0 0,
    .aluMulhu 0 { p := 8 } 0 0 0,
    .aluMulhu 0 {} 32 0 0,
    .aluMulhu 0 {} 0 32 0,
    .aluMulhu 0 {} 0 0 32,
    .aluDiv 192 {} 0 0 0,
    .aluDiv 0 { p := 8 } 0 0 0,
    .aluDiv 0 {} 32 0 0,
    .aluDiv 0 {} 0 32 0,
    .aluDiv 0 {} 0 0 32,
    .aluDivu 192 {} 0 0 0,
    .aluDivu 0 { p := 8 } 0 0 0,
    .aluDivu 0 {} 32 0 0,
    .aluDivu 0 {} 0 32 0,
    .aluDivu 0 {} 0 0 32,
    .aluRem 192 {} 0 0 0,
    .aluRem 0 { p := 8 } 0 0 0,
    .aluRem 0 {} 32 0 0,
    .aluRem 0 {} 0 32 0,
    .aluRem 0 {} 0 0 32,
    .aluRemu 192 {} 0 0 0,
    .aluRemu 0 { p := 8 } 0 0 0,
    .aluRemu 0 {} 32 0 0,
    .aluRemu 0 {} 0 32 0,
    .aluRemu 0 {} 0 0 32,
    .addi 192 {} 0 0 0,
    .addi 0 { p := 8 } 0 0 0,
    .addi 0 {} 32 0 0,
    .addi 0 {} 0 32 0,
    .andi 192 {} 0 0 0,
    .andi 0 { p := 8 } 0 0 0,
    .andi 0 {} 32 0 0,
    .andi 0 {} 0 32 0,
    .ori 192 {} 0 0 0,
    .ori 0 { p := 8 } 0 0 0,
    .ori 0 {} 32 0 0,
    .ori 0 {} 0 32 0,
    .xori 192 {} 0 0 0,
    .xori 0 { p := 8 } 0 0 0] : List Instr).all (fun i => !i.wf) = true := by decide +kernel

theorem test_wf_refuses_6 : ([.xori 0 {} 32 0 0,
    .xori 0 {} 0 32 0,
    .shiSll 192 {} 0 0 0,
    .shiSll 0 { p := 8 } 0 0 0,
    .shiSll 0 {} 32 0 0,
    .shiSll 0 {} 0 32 0,
    .shiSrl 192 {} 0 0 0,
    .shiSrl 0 { p := 8 } 0 0 0,
    .shiSrl 0 {} 32 0 0,
    .shiSrl 0 {} 0 32 0,
    .shiSra 192 {} 0 0 0,
    .shiSra 0 { p := 8 } 0 0 0,
    .shiSra 0 {} 32 0 0,
    .shiSra 0 {} 0 32 0,
    .li 192 {} 0 0,
    .li 0 { p := 8 } 0 0,
    .li 0 {} 32 0,
    .lih 192 {} 0 0,
    .lih 0 { p := 8 } 0 0,
    .lih 0 {} 32 0,
    .cmp 192 {} 0 0 0 0,
    .cmp 0 { p := 8 } 0 0 0 0,
    .cmp 0 {} 8 0 0 0,
    .cmp 0 {} 0 16 0 0,
    .cmp 0 {} 0 0 32 0,
    .cmp 0 {} 0 0 0 32,
    .cmpi 192 {} 0 0 0 0,
    .cmpi 0 { p := 8 } 0 0 0 0,
    .cmpi 0 {} 8 0 0 0,
    .cmpi 0 {} 0 16 0 0,
    .cmpi 0 {} 0 0 32 0,
    .plogAnd 192 {} 0 0 0 false false,
    .plogAnd 0 { p := 8 } 0 0 0 false false,
    .plogAnd 0 {} 8 0 0 false false,
    .plogAnd 0 {} 0 8 0 false false,
    .plogAnd 0 {} 0 0 8 false false,
    .plogOr 192 {} 0 0 0 false false,
    .plogOr 0 { p := 8 } 0 0 0 false false,
    .plogOr 0 {} 8 0 0 false false,
    .plogOr 0 {} 0 8 0 false false,
    .plogOr 0 {} 0 0 8 false false,
    .plogXor 192 {} 0 0 0 false false,
    .plogXor 0 { p := 8 } 0 0 0 false false,
    .plogXor 0 {} 8 0 0 false false,
    .plogXor 0 {} 0 8 0 false false,
    .plogXor 0 {} 0 0 8 false false,
    .plogSet 192 {} 0 false,
    .plogSet 0 { p := 8 } 0 false,
    .plogSet 0 {} 8 false,
    .mfp 192 {} 0,
    .mfp 0 { p := 8 } 0,
    .mfp 0 {} 32,
    .mtp 192 {} 0 0,
    .mtp 0 { p := 8 } 0 0,
    .mtp 0 {} 32 0,
    .lb 192 {} 0 0 0,
    .lb 0 { p := 8 } 0 0 0,
    .lb 0 {} 32 0 0,
    .lb 0 {} 0 32 0,
    .lbu 192 {} 0 0 0] : List Instr).all (fun i => !i.wf) = true := by decide +kernel

theorem test_wf_refuses_7 : ([.lbu 0 { p := 8 } 0 0 0,
    .lbu 0 {} 32 0 0,
    .lbu 0 {} 0 32 0,
    .lh 192 {} 0 0 0,
    .lh 0 { p := 8 } 0 0 0,
    .lh 0 {} 32 0 0,
    .lh 0 {} 0 32 0,
    .lhu 192 {} 0 0 0,
    .lhu 0 { p := 8 } 0 0 0,
    .lhu 0 {} 32 0 0,
    .lhu 0 {} 0 32 0,
    .lw 192 {} 0 0 0,
    .lw 0 { p := 8 } 0 0 0,
    .lw 0 {} 32 0 0,
    .lw 0 {} 0 32 0,
    .sb 192 {} 0 0 0,
    .sb 0 { p := 8 } 0 0 0,
    .sb 0 {} 32 0 0,
    .sb 0 {} 0 32 0,
    .sh 192 {} 0 0 0,
    .sh 0 { p := 8 } 0 0 0,
    .sh 0 {} 32 0 0,
    .sh 0 {} 0 32 0,
    .sw 192 {} 0 0 0,
    .sw 0 { p := 8 } 0 0 0,
    .sw 0 {} 32 0 0,
    .sw 0 {} 0 32 0,
    .rdi 192 {} 0 0 0,
    .rdi 0 { p := 8 } 0 0 0,
    .rdi 0 {} 32 0 0,
    .rdi 0 {} 0 32 0,
    .sti 192 {} 0 0 0 false,
    .sti 0 { p := 8 } 0 0 0 false,
    .sti 0 {} 32 0 0 false,
    .sti 0 {} 0 32 0 false,
    .beq 192 {} 0 0 0,
    .beq 0 { p := 8 } 0 0 0,
    .beq 0 {} 32 0 0,
    .beq 0 {} 0 32 0,
    .bne 192 {} 0 0 0,
    .bne 0 { p := 8 } 0 0 0,
    .bne 0 {} 32 0 0,
    .bne 0 {} 0 32 0,
    .blt 192 {} 0 0 0,
    .blt 0 { p := 8 } 0 0 0,
    .blt 0 {} 32 0 0,
    .blt 0 {} 0 32 0,
    .bge 192 {} 0 0 0,
    .bge 0 { p := 8 } 0 0 0,
    .bge 0 {} 32 0 0,
    .bge 0 {} 0 32 0,
    .bltu 192 {} 0 0 0,
    .bltu 0 { p := 8 } 0 0 0,
    .bltu 0 {} 32 0 0,
    .bltu 0 {} 0 32 0,
    .bgeu 192 {} 0 0 0,
    .bgeu 0 { p := 8 } 0 0 0,
    .bgeu 0 {} 32 0 0,
    .bgeu 0 {} 0 32 0,
    .br 192 {} 0] : List Instr).all (fun i => !i.wf) = true := by decide +kernel

theorem test_wf_refuses_8 : ([.br 0 { p := 8 } 0,
    .j 192 {} 0,
    .j 0 { p := 8 } 0,
    .call 192 {} 0 0,
    .call 0 { p := 8 } 0 0,
    .call 0 {} 32 0,
    .jr 192 {} 0,
    .jr 0 { p := 8 } 0,
    .jr 0 {} 32,
    .callr 192 {} 0 0,
    .callr 0 { p := 8 } 0 0,
    .callr 0 {} 32 0,
    .callr 0 {} 0 32,
    .loop 192 {} 0 0 0,
    .loop 0 { p := 8 } 0 0 0,
    .loop 0 {} 4 0 0,
    .loop 0 {} 0 32 0,
    .trap 192 {} 0,
    .trap 0 { p := 8 } 0,
    .illegalInstruction 192 0,
    .mfs 192 {} 0 0,
    .mfs 0 { p := 8 } 0 0,
    .mfs 0 {} 32 0,
    .mfs 0 {} 0 4096,
    .mts 192 {} 0 0,
    .mts 0 { p := 8 } 0 0,
    .mts 0 {} 32 0,
    .mts 0 {} 0 4096,
    .mode 192 {} 0 false 0,
    .mode 0 { p := 8 } 0 false 0,
    .mode 0 {} 32 false 0,
    .syncI 192 {},
    .syncI 0 { p := 8 },
    .eret 192 {},
    .eret 0 { p := 8 },
    .wfe 192 {},
    .wfe 0 { p := 8 },
    .halt 192 {},
    .halt 0 { p := 8 },
    .fence 192 {},
    .fence 0 { p := 8 },
    .synSet 192 {} 0 0,
    .synSet 0 { p := 8 } 0 0,
    .synSet 0 {} 32 0,
    .synSet 0 {} 0 32,
    .synAdd 192 {} 0 0 0 false,
    .synAdd 0 { p := 8 } 0 0 0 false,
    .synAdd 0 {} 32 0 0 false,
    .synAdd 0 {} 0 32 0 false,
    .synAdd 0 {} 0 0 32 false,
    .synSub 192 {} 0 0 0 false,
    .synSub 0 { p := 8 } 0 0 0 false,
    .synSub 0 {} 32 0 0 false,
    .synSub 0 {} 0 32 0 false,
    .synSub 0 {} 0 0 32 false,
    .synWaitge 192 {} 0 0 0 0,
    .synWaitge 0 { p := 8 } 0 0 0 0,
    .synWaitge 0 {} 32 0 0 0,
    .synWaitge 0 {} 0 32 0 0,
    .synWaitge 0 {} 0 0 32 0] : List Instr).all (fun i => !i.wf) = true := by decide +kernel

theorem test_wf_refuses_9 : ([.synWaitge 0 {} 0 0 0 8,
    .synSig 192 {} 0,
    .synSig 0 { p := 8 } 0,
    .synSig 0 {} 32,
    .synRead 192 {} 0 0,
    .synRead 0 { p := 8 } 0 0,
    .synRead 0 {} 32 0,
    .synRead 0 {} 0 32,
    .sigmAdd 192 {} 0 0 0,
    .sigmAdd 0 { p := 8 } 0 0 0,
    .sigmAdd 0 {} 32 0 0,
    .sigmAdd 0 {} 0 32 0,
    .sigmSig 192 {} 0 0,
    .sigmSig 0 { p := 8 } 0 0,
    .sigmSig 0 {} 32 0,
    .evs 192 {} 0 0,
    .evs 0 { p := 8 } 0 0,
    .evs 0 {} 32 0,
    .evs 0 {} 0 32,
    .evsw 192 {} 0 0 0,
    .evsw 0 { p := 8 } 0 0 0,
    .evsw 0 {} 32 0 0,
    .evsw 0 {} 0 32 0,
    .evsw 0 {} 0 0 32,
    .evm 192 {} 0,
    .evm 0 { p := 8 } 0,
    .evm 0 {} 32,
    .evsnd 192 {} 0 0 0,
    .evsnd 0 { p := 8 } 0 0 0,
    .evsnd 0 {} 32 0 0,
    .evsnd 0 {} 0 32 0,
    .cimx 192 {} 0 0,
    .cimx 0 { p := 8 } 0 0,
    .cimx 0 {} 32 0,
    .banksw 192 {} 0 false 0,
    .banksw 0 { p := 8 } 0 false 0,
    .banksw 0 {} 8 false 0,
    .tmov 192 {} 0 0,
    .tmov 0 { p := 8 } 0 0,
    .tmov 0 {} 32 0,
    .tmovMailbox 192 {} 0 0,
    .tmovMailbox 0 { p := 8 } 0 0,
    .tmovMailbox 0 {} 32 0,
    .tmovResultFrame 192 {} 0 0,
    .tmovResultFrame 0 { p := 8 } 0 0,
    .tmovResultFrame 0 {} 32 0,
    .nupd 192 {} 0 0 0,
    .nupd 0 { p := 8 } 0 0 0,
    .nupd 0 {} 32 0 0,
    .nupd 0 {} 0 32 0,
    .dlyxDrain 192 {} 0 0,
    .dlyxDrain 0 { p := 8 } 0 0,
    .dlyxDrain 0 {} 32 0,
    .dlyxInsert 192 {} 0 0 0,
    .dlyxInsert 0 { p := 8 } 0 0 0,
    .dlyxInsert 0 {} 32 0 0,
    .dlyxInsert 0 {} 0 32 0,
    .dlyxClear 192 {} 0,
    .dlyxClear 0 { p := 8 } 0,
    .voprMov 192 {} 0 0 0 0] : List Instr).all (fun i => !i.wf) = true := by decide +kernel

theorem test_wf_refuses_10 : ([.voprMov 0 { p := 8 } 0 0 0 0,
    .voprMov 0 {} 16 0 0 0,
    .voprMov 0 {} 0 16 0 0,
    .voprMov 0 {} 0 0 8 0,
    .voprMov 0 {} 0 0 0 8,
    .voprAdd 192 {} 0 0 0 0 0,
    .voprAdd 0 { p := 8 } 0 0 0 0 0,
    .voprAdd 0 {} 16 0 0 0 0,
    .voprAdd 0 {} 0 16 0 0 0,
    .voprAdd 0 {} 0 0 16 0 0,
    .voprAdd 0 {} 0 0 0 8 0,
    .voprAdd 0 {} 0 0 0 0 8,
    .voprSub 192 {} 0 0 0 0 0,
    .voprSub 0 { p := 8 } 0 0 0 0 0,
    .voprSub 0 {} 16 0 0 0 0,
    .voprSub 0 {} 0 16 0 0 0,
    .voprSub 0 {} 0 0 16 0 0,
    .voprSub 0 {} 0 0 0 8 0,
    .voprSub 0 {} 0 0 0 0 8,
    .voprMul 192 {} 0 0 0 0 0,
    .voprMul 0 { p := 8 } 0 0 0 0 0,
    .voprMul 0 {} 16 0 0 0 0,
    .voprMul 0 {} 0 16 0 0 0,
    .voprMul 0 {} 0 0 16 0 0,
    .voprMul 0 {} 0 0 0 8 0,
    .voprMul 0 {} 0 0 0 0 8,
    .voprMac 192 {} 0 0 0 0 0,
    .voprMac 0 { p := 8 } 0 0 0 0 0,
    .voprMac 0 {} 16 0 0 0 0,
    .voprMac 0 {} 0 16 0 0 0,
    .voprMac 0 {} 0 0 16 0 0,
    .voprMac 0 {} 0 0 0 8 0,
    .voprMac 0 {} 0 0 0 0 8,
    .voprMin 192 {} 0 0 0 0 0,
    .voprMin 0 { p := 8 } 0 0 0 0 0,
    .voprMin 0 {} 16 0 0 0 0,
    .voprMin 0 {} 0 16 0 0 0,
    .voprMin 0 {} 0 0 16 0 0,
    .voprMin 0 {} 0 0 0 8 0,
    .voprMin 0 {} 0 0 0 0 8,
    .voprMax 192 {} 0 0 0 0 0,
    .voprMax 0 { p := 8 } 0 0 0 0 0,
    .voprMax 0 {} 16 0 0 0 0,
    .voprMax 0 {} 0 16 0 0 0,
    .voprMax 0 {} 0 0 16 0 0,
    .voprMax 0 {} 0 0 0 8 0,
    .voprMax 0 {} 0 0 0 0 8,
    .voprAbs 192 {} 0 0 0 0,
    .voprAbs 0 { p := 8 } 0 0 0 0,
    .voprAbs 0 {} 16 0 0 0,
    .voprAbs 0 {} 0 16 0 0,
    .voprAbs 0 {} 0 0 8 0,
    .voprAbs 0 {} 0 0 0 8,
    .voprNeg 192 {} 0 0 0 0,
    .voprNeg 0 { p := 8 } 0 0 0 0,
    .voprNeg 0 {} 16 0 0 0,
    .voprNeg 0 {} 0 16 0 0,
    .voprNeg 0 {} 0 0 8 0,
    .voprNeg 0 {} 0 0 0 8,
    .voprAnd 192 {} 0 0 0 0 0] : List Instr).all (fun i => !i.wf) = true := by decide +kernel

theorem test_wf_refuses_11 : ([.voprAnd 0 { p := 8 } 0 0 0 0 0,
    .voprAnd 0 {} 16 0 0 0 0,
    .voprAnd 0 {} 0 16 0 0 0,
    .voprAnd 0 {} 0 0 16 0 0,
    .voprAnd 0 {} 0 0 0 8 0,
    .voprAnd 0 {} 0 0 0 0 8,
    .voprOr 192 {} 0 0 0 0 0,
    .voprOr 0 { p := 8 } 0 0 0 0 0,
    .voprOr 0 {} 16 0 0 0 0,
    .voprOr 0 {} 0 16 0 0 0,
    .voprOr 0 {} 0 0 16 0 0,
    .voprOr 0 {} 0 0 0 8 0,
    .voprOr 0 {} 0 0 0 0 8,
    .voprXor 192 {} 0 0 0 0 0,
    .voprXor 0 { p := 8 } 0 0 0 0 0,
    .voprXor 0 {} 16 0 0 0 0,
    .voprXor 0 {} 0 16 0 0 0,
    .voprXor 0 {} 0 0 16 0 0,
    .voprXor 0 {} 0 0 0 8 0,
    .voprXor 0 {} 0 0 0 0 8,
    .voprShl 192 {} 0 0 0 0 0,
    .voprShl 0 { p := 8 } 0 0 0 0 0,
    .voprShl 0 {} 16 0 0 0 0,
    .voprShl 0 {} 0 16 0 0 0,
    .voprShl 0 {} 0 0 16 0 0,
    .voprShl 0 {} 0 0 0 8 0,
    .voprShl 0 {} 0 0 0 0 8,
    .voprShr 192 {} 0 0 0 0 0,
    .voprShr 0 { p := 8 } 0 0 0 0 0,
    .voprShr 0 {} 16 0 0 0 0,
    .voprShr 0 {} 0 16 0 0 0,
    .voprShr 0 {} 0 0 16 0 0,
    .voprShr 0 {} 0 0 0 8 0,
    .voprShr 0 {} 0 0 0 0 8,
    .voprCmpeq 192 {} 0 0 0 0 0,
    .voprCmpeq 0 { p := 8 } 0 0 0 0 0,
    .voprCmpeq 0 {} 16 0 0 0 0,
    .voprCmpeq 0 {} 0 16 0 0 0,
    .voprCmpeq 0 {} 0 0 16 0 0,
    .voprCmpeq 0 {} 0 0 0 8 0,
    .voprCmpeq 0 {} 0 0 0 0 8,
    .voprCmplt 192 {} 0 0 0 0 0,
    .voprCmplt 0 { p := 8 } 0 0 0 0 0,
    .voprCmplt 0 {} 16 0 0 0 0,
    .voprCmplt 0 {} 0 16 0 0 0,
    .voprCmplt 0 {} 0 0 16 0 0,
    .voprCmplt 0 {} 0 0 0 8 0,
    .voprCmplt 0 {} 0 0 0 0 8,
    .voprCmple 192 {} 0 0 0 0 0,
    .voprCmple 0 { p := 8 } 0 0 0 0 0,
    .voprCmple 0 {} 16 0 0 0 0,
    .voprCmple 0 {} 0 16 0 0 0,
    .voprCmple 0 {} 0 0 16 0 0,
    .voprCmple 0 {} 0 0 0 8 0,
    .voprCmple 0 {} 0 0 0 0 8,
    .voprSel 192 {} 0 0 0 0 0,
    .voprSel 0 { p := 8 } 0 0 0 0 0,
    .voprSel 0 {} 16 0 0 0 0,
    .voprSel 0 {} 0 16 0 0 0,
    .voprSel 0 {} 0 0 16 0 0] : List Instr).all (fun i => !i.wf) = true := by decide +kernel

theorem test_wf_refuses_12 : ([.voprSel 0 {} 0 0 0 8 0,
    .voprSel 0 {} 0 0 0 0 8,
    .voprCvt 192 {} 0 0 0 0 0,
    .voprCvt 0 { p := 8 } 0 0 0 0 0,
    .voprCvt 0 {} 16 0 0 0 0,
    .voprCvt 0 {} 0 16 0 0 0,
    .voprCvt 0 {} 0 0 16 0 0,
    .voprCvt 0 {} 0 0 0 8 0,
    .voprCvt 0 {} 0 0 0 0 8,
    .voprExp2 192 {} 0 0 0 0,
    .voprExp2 0 { p := 8 } 0 0 0 0,
    .voprExp2 0 {} 16 0 0 0,
    .voprExp2 0 {} 0 16 0 0,
    .voprExp2 0 {} 0 0 8 0,
    .voprExp2 0 {} 0 0 0 8,
    .voprLog2 192 {} 0 0 0 0,
    .voprLog2 0 { p := 8 } 0 0 0 0,
    .voprLog2 0 {} 16 0 0 0,
    .voprLog2 0 {} 0 16 0 0,
    .voprLog2 0 {} 0 0 8 0,
    .voprLog2 0 {} 0 0 0 8,
    .voprRcp 192 {} 0 0 0 0,
    .voprRcp 0 { p := 8 } 0 0 0 0,
    .voprRcp 0 {} 16 0 0 0,
    .voprRcp 0 {} 0 16 0 0,
    .voprRcp 0 {} 0 0 8 0,
    .voprRcp 0 {} 0 0 0 8,
    .voprRsqrt 192 {} 0 0 0 0,
    .voprRsqrt 0 { p := 8 } 0 0 0 0,
    .voprRsqrt 0 {} 16 0 0 0,
    .voprRsqrt 0 {} 0 16 0 0,
    .voprRsqrt 0 {} 0 0 8 0,
    .voprRsqrt 0 {} 0 0 0 8,
    .voprVcmpr 192 {} 0 0 0 0,
    .voprVcmpr 0 { p := 8 } 0 0 0 0,
    .voprVcmpr 0 {} 16 0 0 0,
    .voprVcmpr 0 {} 0 16 0 0,
    .voprVcmpr 0 {} 0 0 8 0,
    .voprVcmpr 0 {} 0 0 0 8,
    .voprVexpd 192 {} 0 0 0 0,
    .voprVexpd 0 { p := 8 } 0 0 0 0,
    .voprVexpd 0 {} 16 0 0 0,
    .voprVexpd 0 {} 0 16 0 0,
    .voprVexpd 0 {} 0 0 8 0,
    .voprVexpd 0 {} 0 0 0 8,
    .voprRsum 192 {} 0 0 0 0,
    .voprRsum 0 { p := 8 } 0 0 0 0,
    .voprRsum 0 {} 16 0 0 0,
    .voprRsum 0 {} 0 16 0 0,
    .voprRsum 0 {} 0 0 8 0,
    .voprRsum 0 {} 0 0 0 8,
    .voptMov 192 {} 0 0,
    .voptMov 0 { p := 8 } 0 0,
    .voptMov 0 {} 32 0,
    .voptAdd 192 {} 0 0,
    .voptAdd 0 { p := 8 } 0 0,
    .voptAdd 0 {} 32 0,
    .voptSub 192 {} 0 0,
    .voptSub 0 { p := 8 } 0 0,
    .voptSub 0 {} 32 0] : List Instr).all (fun i => !i.wf) = true := by decide +kernel

theorem test_wf_refuses_13 : ([.voptMul 192 {} 0 0,
    .voptMul 0 { p := 8 } 0 0,
    .voptMul 0 {} 32 0,
    .voptMac 192 {} 0 0,
    .voptMac 0 { p := 8 } 0 0,
    .voptMac 0 {} 32 0,
    .voptMin 192 {} 0 0,
    .voptMin 0 { p := 8 } 0 0,
    .voptMin 0 {} 32 0,
    .voptMax 192 {} 0 0,
    .voptMax 0 { p := 8 } 0 0,
    .voptMax 0 {} 32 0,
    .voptAbs 192 {} 0 0,
    .voptAbs 0 { p := 8 } 0 0,
    .voptAbs 0 {} 32 0,
    .voptNeg 192 {} 0 0,
    .voptNeg 0 { p := 8 } 0 0,
    .voptNeg 0 {} 32 0,
    .voptAnd 192 {} 0 0,
    .voptAnd 0 { p := 8 } 0 0,
    .voptAnd 0 {} 32 0,
    .voptOr 192 {} 0 0,
    .voptOr 0 { p := 8 } 0 0,
    .voptOr 0 {} 32 0,
    .voptXor 192 {} 0 0,
    .voptXor 0 { p := 8 } 0 0,
    .voptXor 0 {} 32 0,
    .voptShl 192 {} 0 0,
    .voptShl 0 { p := 8 } 0 0,
    .voptShl 0 {} 32 0,
    .voptShr 192 {} 0 0,
    .voptShr 0 { p := 8 } 0 0,
    .voptShr 0 {} 32 0,
    .voptCmpeq 192 {} 0 0,
    .voptCmpeq 0 { p := 8 } 0 0,
    .voptCmpeq 0 {} 32 0,
    .voptCmplt 192 {} 0 0,
    .voptCmplt 0 { p := 8 } 0 0,
    .voptCmplt 0 {} 32 0,
    .voptCmple 192 {} 0 0,
    .voptCmple 0 { p := 8 } 0 0,
    .voptCmple 0 {} 32 0,
    .voptSel 192 {} 0 0,
    .voptSel 0 { p := 8 } 0 0,
    .voptSel 0 {} 32 0,
    .voptCvt 192 {} 0 0,
    .voptCvt 0 { p := 8 } 0 0,
    .voptCvt 0 {} 32 0,
    .voptExp2 192 {} 0 0,
    .voptExp2 0 { p := 8 } 0 0,
    .voptExp2 0 {} 32 0,
    .voptLog2 192 {} 0 0,
    .voptLog2 0 { p := 8 } 0 0,
    .voptLog2 0 {} 32 0,
    .voptRcp 192 {} 0 0,
    .voptRcp 0 { p := 8 } 0 0,
    .voptRcp 0 {} 32 0,
    .voptRsqrt 192 {} 0 0,
    .voptRsqrt 0 { p := 8 } 0 0,
    .voptRsqrt 0 {} 32 0] : List Instr).all (fun i => !i.wf) = true := by decide +kernel

theorem test_wf_refuses_14 : ([.voptVcmpr 192 {} 0 0,
    .voptVcmpr 0 { p := 8 } 0 0,
    .voptVcmpr 0 {} 32 0,
    .voptVexpd 192 {} 0 0,
    .voptVexpd 0 { p := 8 } 0 0,
    .voptVexpd 0 {} 32 0,
    .voptRsum 192 {} 0 0,
    .voptRsum 0 { p := 8 } 0 0,
    .voptRsum 0 {} 32 0,
    .interruptEntry 192 [],
    .interruptEntry 0 [256],
    .scoreboardComplete 192 0,
    .tileGo .host 192 false,
    .tileStop .host 192,
    .tileReset .host 192,
    .softirq .host 192,
    .drain .host 192 false,
    .veWindowAccess 192 0 false 0,
    .veWindowAccess 0 (2 ^ 16) false 0,
    .neBatch 192,
    .sweepPassStart 192,
    .sweepVisit 192,
    .sweepOverdue 192 0,
    .sweepOverdue 0 8,
    .resetPassEnd 192,
    .neEnable .host 192,
    .neDisable .host 192,
    .cimPgmStart .host 192 0 false,
    .cimPgmStart .host 0 4 false,
    .cimPgmGo .host 192 0 false 0,
    .cimPgmGo .host 0 4 false 0,
    .cimPgmFinish .host 192 0,
    .cimPgmFinish .host 0 4,
    .cimPgmAbort .host 192 0,
    .cimPgmAbort .host 0 4,
    .cimRowDone 192 0 0 [],
    .cimRowDone 0 4 0 [],
    .cimRowDone 0 0 256 [],
    .cimRowDone 0 0 0 [0, 268],
    .calWindowClose 192 0,
    .calWindowClose 0 4,
    .calBurstStart 192 0 0,
    .calBurstStart 0 4 0,
    .assayWindowEnd 192,
    .marginScanStart .host 192 0 false 0,
    .marginScanStart .host 0 4 false 0,
    .marginScanDone 192 0 [],
    .marginScanDone 0 4 [],
    .marginScanDone 0 0 [0, 268],
    .spareProgramStart .host 192 0 0 0,
    .spareProgramStart .host 0 4 0 0,
    .spareProgramDone 192 0 false,
    .spareProgramDone 0 4 false,
    .retentionRefreshDue 192 0 false false,
    .retentionRefreshDue 0 4 false false,
    .retentionExpired 192 0 false,
    .retentionExpired 0 4 false,
    .syncQueueIssue 192,
    .syncOpApply 256 false,
    .syncReply 256] : List Instr).all (fun i => !i.wf) = true := by decide +kernel

theorem test_wf_refuses_15 : ([.globalSetWindowWrite .host 0x8000 0,
    .globalAddWindowWrite .host 0x8000 0,
    .localSetWindowWrite .host 192 0 0,
    .localSetWindowWrite .host 0 512 0,
    .localAddWindowWrite .host 192 0 0,
    .localAddWindowWrite .host 0 512 0,
    .watchArm .host 64,
    .mailboxAck 4096 0,
    .mailboxHeaderWrite 4096,
    .mailboxHoldTimeout 192,
    .nop (List.replicate 63 0),
    .planLoad (List.replicate 63 0) none,
    .planReplace (List.replicate 63 0) none,
    .cancel (List.replicate 63 0),
    .planStop (List.replicate 63 0),
    .tileMove (List.replicate 63 0),
    .tileReload (List.replicate 63 0),
    .cimUpdate (List.replicate 63 0),
    .portCycleFronthaul (List.replicate 63 0),
    .portCycleCamera (List.replicate 63 0),
    .benchActivate (List.replicate 63 0),
    .oppSet (List.replicate 63 0),
    .badOpcode (List.replicate 63 0),
    .tileHold .host 192,
    .tileQuiesce .host 192,
    .tileResume .host 192 false,
    .fenceLate 192,
    .apertureMap .host 16 0 false,
    .bar4Access 0x10000000 0 false [],
    .bar4Access 0 4097 false [],
    .domainWakeStepEnd 19 [] [],
    .domainEntryStepEnd 19 [] [],
    .wakeFail 19,
    .clusterReqOff .host 12,
    .clusterReqRetain .host 12,
    .clusterReqActive .host 12,
    .napRequest .host 192,
    .napExit .host 192,
    .oppReqWrite .host 12 0,
    .oppClockSwitch 12 0,
    .oppClockSwitch 0 2048,
    .scrubRead (.imem 192 0) .clean,
    .scrubRead (.imem 0 0x4000) .clean,
    .scrubRead (.data 192 0) .clean,
    .scrubRead (.dyn 0 576) .clean,
    .scrubRead (.dyn 192 0) .clean,
    .scrubRead (.pool 0 16) .clean,
    .scrubRead (.lp 0 8 []) .clean,
    .scrubRead (.nrt 208 false) .clean,
    .scrubRead (.gateMap 32 0) .clean,
    .scrubRead (.gateMap 0 32) .clean,
    .scrubRead (.merge 32 0) .clean,
    .scrubRead (.vlan 4096) .clean,
    .scrubRead (.header 4096) .clean,
    .scrubPassLate 19,
    .ceStorm 19,
    .linkDegraded 192 0,
    .linkDegraded 0 6,
    .autoReloadStart 192 0,
    .autoReloadStart 0 4096] : List Instr).all (fun i => !i.wf) = true := by decide +kernel

theorem test_wf_refuses_16 : ([.registerRead .host false 0x4000000 false,
    .time10mInEdge false 32,
    .pcieLinkUp 32 0 false,
    .pcieLinkUp 0 8 false] : List Instr).all (fun i => !i.wf) = true := by decide +kernel

/-! ### The last value of every range is well-formed. -/

theorem test_wf_takes_1 : ([.registerWrite .host false (0x4000000 - 1) false 0,
    .ppsInEdge false (32 - 1),
    .ptpSamplePush .host (256 - 1),
    .beaconSend (16 - 1),
    .beaconResp (16 - 1) ((2 ^ 16) - 1) ((2 ^ 16) - 1) ((2 ^ 64) - 1) ((2 ^ 64) - 1),
    .beaconTimeout (16 - 1),
    .frameRx (8 - 1) [] false (64 - 1),
    .frameTx (8 - 1) (64 - 1),
    .pdelayRespSend (8 - 1) (64 - 1),
    .macAgeOut (4096 - 1) ((2 ^ 48) - 1),
    .macFlushLearned .host (16 - 1),
    .vlanWrite .host (4096 - 1),
    .vlanRead .host (4096 - 1),
    .groupModeSet .host (2 - 1) false,
    .portEnable .host (8 - 1),
    .portDisable .host (8 - 1),
    .fhLinkUp (8 - 1),
    .fhLinkDown (8 - 1),
    .portCalibrationDone (8 - 1) ((2 ^ 32) - 1) ((2 ^ 32) - 1),
    .events (16 - 1) ((2 ^ 16) - 1) [],
    .anchor (16 - 1) ((2 ^ 16) - 1) ((2 ^ 32) - 1),
    .hello (16 - 1) ((2 ^ 16) - 1) (256 - 1) ((2 ^ 16) - 1) ((2 ^ 16) - 1) ((2 ^ 16) - 1) ((2 ^ 16) - 1) ((2 ^ 32) - 1),
    .keepalive (16 - 1) ((2 ^ 16) - 1) ((2 ^ 16) - 1) ((2 ^ 16) - 1),
    .pwrReq (16 - 1) ((2 ^ 16) - 1) (256 - 1),
    .cfgAck (16 - 1) ((2 ^ 16) - 1) ((2 ^ 16) - 1),
    .regresp (16 - 1) ((2 ^ 16) - 1) (256 - 1) (256 - 1) 0,
    .corruptPacket (16 - 1) false,
    .crcBurst (16 - 1),
    .jxlLos (16 - 1),
    .jxlKeepaliveTimeout (16 - 1),
    .trainTimeout (16 - 1),
    .cfgAckTimeout (16 - 1),
    .pwrReqTimeout (16 - 1),
    .configResend (16 - 1),
    .resetHeadSend (16 - 1),
    .lostRetry (16 - 1),
    .backchannelKeepaliveSend (16 - 1),
    .flowSend (16 - 1),
    .jxlEnable .host (16 - 1),
    .jxlDisable .host (16 - 1),
    .regRequestGo .host (16 - 1) (4 - 1) ((2 ^ 16) - 1) false,
    .regRequestTimeout (16 - 1) (4 - 1),
    .csiFrameStart (4 - 1) (4 - 1),
    .csiFrameEnd (4 - 1) (4 - 1),
    .csiLineStart (4 - 1) (4 - 1),
    .csiLineEnd (4 - 1) (4 - 1),
    .csiLongPacket (4 - 1) (4 - 1) (64 - 1) [] .good false,
    .parserProgramStart (4 - 1),
    .parserEnd (4 - 1),
    .parserLd (4 - 1),
    .parserSkip (4 - 1),
    .parserLdi (4 - 1),
    .parserAdd (4 - 1),
    .parserExt (4 - 1),
    .parserBeq (4 - 1),
    .parserBne (4 - 1),
    .parserJmp (4 - 1),
    .parserEmit (4 - 1),
    .parserEmitResume (4 - 1),
    .parserUnusedOpcode (4 - 1)] : List Instr).all (fun i => i.wf) = true := by decide +kernel

theorem test_wf_takes_2 : ([.parserWatchdog (4 - 1),
    .ppcEnable .host (17 - 1),
    .ppcDisable .host (17 - 1),
    .detectPointEnd (17 - 1) 0 0,
    .detectRetry (17 - 1),
    .ramp1End (17 - 1) 0,
    .stepComplete (17 - 1) 0,
    .currentLimit (17 - 1) 0,
    .hardShort (17 - 1),
    .overload (17 - 1),
    .rampFail (17 - 1),
    .undervolt (17 - 1),
    .backoffEnd (17 - 1),
    .attemptClear (17 - 1),
    .stepAbort (17 - 1),
    .disconnect (17 - 1),
    .cooldownEnd (17 - 1),
    .ppcClr .host (17 - 1),
    .aldICommand .host (32 - 1) (256 - 1),
    .aldRawCommand .host (32 - 1) (256 - 1),
    .aldResponseTimeout (32 - 1),
    .gpioInterrupt (24 - 1) false,
    .alarmChange (8 - 1) false,
    .gateAdmit (32 - 1),
    .futureHoldEnd (32 - 1),
    .mergeEntryClose (32 - 1) 0,
    .ingressInject (256 - 1),
    .symbolCloseTimeout (16 - 1) 0,
    .symbolProcess (16 - 1),
    .flowDisable .host (16 - 1),
    .flitForward (192 - 1) (6 - 1) false false,
    .evwDelivery (192 - 1),
    .ebFlitRxTile (192 - 1),
    .ebFlitRxEdge (256 - 1),
    .spEbEmit (2 - 1),
    .fanoutSend (192 - 1),
    .spanGroupRx (2 - 1) (1024 - 1) [(255, List.replicate 8 0)] false,
    .spanPortUp (2 - 1) (256 - 1) (2 - 1) false false,
    .spanPortDown (2 - 1),
    .fabricStallDetect (256 - 1) (6 - 1) (4 - 1),
    .fenceRx (192 - 1) false,
    .aluAdd (192 - 1) { p := 7 } (32 - 1) (32 - 1) (32 - 1),
    .aluSub (192 - 1) { p := 7 } (32 - 1) (32 - 1) (32 - 1),
    .aluAnd (192 - 1) { p := 7 } (32 - 1) (32 - 1) (32 - 1),
    .aluOr (192 - 1) { p := 7 } (32 - 1) (32 - 1) (32 - 1),
    .aluXor (192 - 1) { p := 7 } (32 - 1) (32 - 1) (32 - 1),
    .aluAndn (192 - 1) { p := 7 } (32 - 1) (32 - 1) (32 - 1),
    .aluSll (192 - 1) { p := 7 } (32 - 1) (32 - 1) (32 - 1),
    .aluSrl (192 - 1) { p := 7 } (32 - 1) (32 - 1) (32 - 1),
    .aluSra (192 - 1) { p := 7 } (32 - 1) (32 - 1) (32 - 1),
    .aluSlt (192 - 1) { p := 7 } (32 - 1) (32 - 1) (32 - 1),
    .aluSltu (192 - 1) { p := 7 } (32 - 1) (32 - 1) (32 - 1),
    .aluMin (192 - 1) { p := 7 } (32 - 1) (32 - 1) (32 - 1),
    .aluMax (192 - 1) { p := 7 } (32 - 1) (32 - 1) (32 - 1),
    .aluMinu (192 - 1) { p := 7 } (32 - 1) (32 - 1) (32 - 1),
    .aluMaxu (192 - 1) { p := 7 } (32 - 1) (32 - 1) (32 - 1),
    .aluAdds (192 - 1) { p := 7 } (32 - 1) (32 - 1) (32 - 1),
    .aluSubs (192 - 1) { p := 7 } (32 - 1) (32 - 1) (32 - 1),
    .aluClz (192 - 1) { p := 7 } (32 - 1) (32 - 1),
    .aluPopc (192 - 1) { p := 7 } (32 - 1) (32 - 1)] : List Instr).all (fun i => i.wf) = true := by decide +kernel

theorem test_wf_takes_3 : ([.aluSextb (192 - 1) { p := 7 } (32 - 1) (32 - 1),
    .aluSexth (192 - 1) { p := 7 } (32 - 1) (32 - 1),
    .aluMul (192 - 1) { p := 7 } (32 - 1) (32 - 1) (32 - 1),
    .aluMulh (192 - 1) { p := 7 } (32 - 1) (32 - 1) (32 - 1),
    .aluMulhu (192 - 1) { p := 7 } (32 - 1) (32 - 1) (32 - 1),
    .aluDiv (192 - 1) { p := 7 } (32 - 1) (32 - 1) (32 - 1),
    .aluDivu (192 - 1) { p := 7 } (32 - 1) (32 - 1) (32 - 1),
    .aluRem (192 - 1) { p := 7 } (32 - 1) (32 - 1) (32 - 1),
    .aluRemu (192 - 1) { p := 7 } (32 - 1) (32 - 1) (32 - 1),
    .addi (192 - 1) { p := 7 } (32 - 1) (32 - 1) 0,
    .andi (192 - 1) { p := 7 } (32 - 1) (32 - 1) 0,
    .ori (192 - 1) { p := 7 } (32 - 1) (32 - 1) 0,
    .xori (192 - 1) { p := 7 } (32 - 1) (32 - 1) 0,
    .shiSll (192 - 1) { p := 7 } (32 - 1) (32 - 1) 0,
    .shiSrl (192 - 1) { p := 7 } (32 - 1) (32 - 1) 0,
    .shiSra (192 - 1) { p := 7 } (32 - 1) (32 - 1) 0,
    .li (192 - 1) { p := 7 } (32 - 1) 0,
    .lih (192 - 1) { p := 7 } (32 - 1) 0,
    .cmp (192 - 1) { p := 7 } (8 - 1) (16 - 1) (32 - 1) (32 - 1),
    .cmpi (192 - 1) { p := 7 } (8 - 1) (16 - 1) (32 - 1) 0,
    .plogAnd (192 - 1) { p := 7 } (8 - 1) (8 - 1) (8 - 1) false false,
    .plogOr (192 - 1) { p := 7 } (8 - 1) (8 - 1) (8 - 1) false false,
    .plogXor (192 - 1) { p := 7 } (8 - 1) (8 - 1) (8 - 1) false false,
    .plogSet (192 - 1) { p := 7 } (8 - 1) false,
    .mfp (192 - 1) { p := 7 } (32 - 1),
    .mtp (192 - 1) { p := 7 } (32 - 1) 0,
    .lb (192 - 1) { p := 7 } (32 - 1) (32 - 1) 0,
    .lbu (192 - 1) { p := 7 } (32 - 1) (32 - 1) 0,
    .lh (192 - 1) { p := 7 } (32 - 1) (32 - 1) 0,
    .lhu (192 - 1) { p := 7 } (32 - 1) (32 - 1) 0,
    .lw (192 - 1) { p := 7 } (32 - 1) (32 - 1) 0,
    .sb (192 - 1) { p := 7 } (32 - 1) (32 - 1) 0,
    .sh (192 - 1) { p := 7 } (32 - 1) (32 - 1) 0,
    .sw (192 - 1) { p := 7 } (32 - 1) (32 - 1) 0,
    .rdi (192 - 1) { p := 7 } (32 - 1) (32 - 1) 0,
    .sti (192 - 1) { p := 7 } (32 - 1) (32 - 1) 0 false,
    .beq (192 - 1) { p := 7 } (32 - 1) (32 - 1) 0,
    .bne (192 - 1) { p := 7 } (32 - 1) (32 - 1) 0,
    .blt (192 - 1) { p := 7 } (32 - 1) (32 - 1) 0,
    .bge (192 - 1) { p := 7 } (32 - 1) (32 - 1) 0,
    .bltu (192 - 1) { p := 7 } (32 - 1) (32 - 1) 0,
    .bgeu (192 - 1) { p := 7 } (32 - 1) (32 - 1) 0,
    .br (192 - 1) { p := 7 } 0,
    .j (192 - 1) { p := 7 } 0,
    .call (192 - 1) { p := 7 } (32 - 1) 0,
    .jr (192 - 1) { p := 7 } (32 - 1),
    .callr (192 - 1) { p := 7 } (32 - 1) (32 - 1),
    .loop (192 - 1) { p := 7 } (4 - 1) (32 - 1) 0,
    .trap (192 - 1) { p := 7 } 0,
    .illegalInstruction (192 - 1) 0,
    .mfs (192 - 1) { p := 7 } (32 - 1) (4096 - 1),
    .mts (192 - 1) { p := 7 } (32 - 1) (4096 - 1),
    .mode (192 - 1) { p := 7 } (32 - 1) false 0,
    .syncI (192 - 1) { p := 7 },
    .eret (192 - 1) { p := 7 },
    .wfe (192 - 1) { p := 7 },
    .halt (192 - 1) { p := 7 },
    .fence (192 - 1) { p := 7 },
    .synSet (192 - 1) { p := 7 } (32 - 1) (32 - 1),
    .synAdd (192 - 1) { p := 7 } (32 - 1) (32 - 1) (32 - 1) false] : List Instr).all (fun i => i.wf) = true := by decide +kernel

theorem test_wf_takes_4 : ([.synSub (192 - 1) { p := 7 } (32 - 1) (32 - 1) (32 - 1) false,
    .synWaitge (192 - 1) { p := 7 } (32 - 1) (32 - 1) (32 - 1) (8 - 1),
    .synSig (192 - 1) { p := 7 } (32 - 1),
    .synRead (192 - 1) { p := 7 } (32 - 1) (32 - 1),
    .sigmAdd (192 - 1) { p := 7 } (32 - 1) (32 - 1) 0,
    .sigmSig (192 - 1) { p := 7 } (32 - 1) 0,
    .evs (192 - 1) { p := 7 } (32 - 1) (32 - 1),
    .evsw (192 - 1) { p := 7 } (32 - 1) (32 - 1) (32 - 1),
    .evm (192 - 1) { p := 7 } (32 - 1),
    .evsnd (192 - 1) { p := 7 } (32 - 1) (32 - 1) 0,
    .cimx (192 - 1) { p := 7 } (32 - 1) 0,
    .banksw (192 - 1) { p := 7 } (8 - 1) false 0,
    .tmov (192 - 1) { p := 7 } (32 - 1) 0,
    .tmovMailbox (192 - 1) { p := 7 } (32 - 1) 0,
    .tmovResultFrame (192 - 1) { p := 7 } (32 - 1) 0,
    .nupd (192 - 1) { p := 7 } (32 - 1) (32 - 1) 0,
    .dlyxDrain (192 - 1) { p := 7 } (32 - 1) 0,
    .dlyxInsert (192 - 1) { p := 7 } (32 - 1) (32 - 1) 0,
    .dlyxClear (192 - 1) { p := 7 } 0,
    .voprMov (192 - 1) { p := 7 } (16 - 1) (16 - 1) (8 - 1) (8 - 1),
    .voprAdd (192 - 1) { p := 7 } (16 - 1) (16 - 1) (16 - 1) (8 - 1) (8 - 1),
    .voprSub (192 - 1) { p := 7 } (16 - 1) (16 - 1) (16 - 1) (8 - 1) (8 - 1),
    .voprMul (192 - 1) { p := 7 } (16 - 1) (16 - 1) (16 - 1) (8 - 1) (8 - 1),
    .voprMac (192 - 1) { p := 7 } (16 - 1) (16 - 1) (16 - 1) (8 - 1) (8 - 1),
    .voprMin (192 - 1) { p := 7 } (16 - 1) (16 - 1) (16 - 1) (8 - 1) (8 - 1),
    .voprMax (192 - 1) { p := 7 } (16 - 1) (16 - 1) (16 - 1) (8 - 1) (8 - 1),
    .voprAbs (192 - 1) { p := 7 } (16 - 1) (16 - 1) (8 - 1) (8 - 1),
    .voprNeg (192 - 1) { p := 7 } (16 - 1) (16 - 1) (8 - 1) (8 - 1),
    .voprAnd (192 - 1) { p := 7 } (16 - 1) (16 - 1) (16 - 1) (8 - 1) (8 - 1),
    .voprOr (192 - 1) { p := 7 } (16 - 1) (16 - 1) (16 - 1) (8 - 1) (8 - 1),
    .voprXor (192 - 1) { p := 7 } (16 - 1) (16 - 1) (16 - 1) (8 - 1) (8 - 1),
    .voprShl (192 - 1) { p := 7 } (16 - 1) (16 - 1) (16 - 1) (8 - 1) (8 - 1),
    .voprShr (192 - 1) { p := 7 } (16 - 1) (16 - 1) (16 - 1) (8 - 1) (8 - 1),
    .voprCmpeq (192 - 1) { p := 7 } (16 - 1) (16 - 1) (16 - 1) (8 - 1) (8 - 1),
    .voprCmplt (192 - 1) { p := 7 } (16 - 1) (16 - 1) (16 - 1) (8 - 1) (8 - 1),
    .voprCmple (192 - 1) { p := 7 } (16 - 1) (16 - 1) (16 - 1) (8 - 1) (8 - 1),
    .voprSel (192 - 1) { p := 7 } (16 - 1) (16 - 1) (16 - 1) (8 - 1) (8 - 1),
    .voprCvt (192 - 1) { p := 7 } (16 - 1) (16 - 1) (16 - 1) (8 - 1) (8 - 1),
    .voprExp2 (192 - 1) { p := 7 } (16 - 1) (16 - 1) (8 - 1) (8 - 1),
    .voprLog2 (192 - 1) { p := 7 } (16 - 1) (16 - 1) (8 - 1) (8 - 1),
    .voprRcp (192 - 1) { p := 7 } (16 - 1) (16 - 1) (8 - 1) (8 - 1),
    .voprRsqrt (192 - 1) { p := 7 } (16 - 1) (16 - 1) (8 - 1) (8 - 1),
    .voprVcmpr (192 - 1) { p := 7 } (16 - 1) (16 - 1) (8 - 1) (8 - 1),
    .voprVexpd (192 - 1) { p := 7 } (16 - 1) (16 - 1) (8 - 1) (8 - 1),
    .voprRsum (192 - 1) { p := 7 } (16 - 1) (16 - 1) (8 - 1) (8 - 1),
    .voptMov (192 - 1) { p := 7 } (32 - 1) 0,
    .voptAdd (192 - 1) { p := 7 } (32 - 1) 0,
    .voptSub (192 - 1) { p := 7 } (32 - 1) 0,
    .voptMul (192 - 1) { p := 7 } (32 - 1) 0,
    .voptMac (192 - 1) { p := 7 } (32 - 1) 0,
    .voptMin (192 - 1) { p := 7 } (32 - 1) 0,
    .voptMax (192 - 1) { p := 7 } (32 - 1) 0,
    .voptAbs (192 - 1) { p := 7 } (32 - 1) 0,
    .voptNeg (192 - 1) { p := 7 } (32 - 1) 0,
    .voptAnd (192 - 1) { p := 7 } (32 - 1) 0,
    .voptOr (192 - 1) { p := 7 } (32 - 1) 0,
    .voptXor (192 - 1) { p := 7 } (32 - 1) 0,
    .voptShl (192 - 1) { p := 7 } (32 - 1) 0,
    .voptShr (192 - 1) { p := 7 } (32 - 1) 0,
    .voptCmpeq (192 - 1) { p := 7 } (32 - 1) 0] : List Instr).all (fun i => i.wf) = true := by decide +kernel

theorem test_wf_takes_5 : ([.voptCmplt (192 - 1) { p := 7 } (32 - 1) 0,
    .voptCmple (192 - 1) { p := 7 } (32 - 1) 0,
    .voptSel (192 - 1) { p := 7 } (32 - 1) 0,
    .voptCvt (192 - 1) { p := 7 } (32 - 1) 0,
    .voptExp2 (192 - 1) { p := 7 } (32 - 1) 0,
    .voptLog2 (192 - 1) { p := 7 } (32 - 1) 0,
    .voptRcp (192 - 1) { p := 7 } (32 - 1) 0,
    .voptRsqrt (192 - 1) { p := 7 } (32 - 1) 0,
    .voptVcmpr (192 - 1) { p := 7 } (32 - 1) 0,
    .voptVexpd (192 - 1) { p := 7 } (32 - 1) 0,
    .voptRsum (192 - 1) { p := 7 } (32 - 1) 0,
    .interruptEntry (192 - 1) [255],
    .scoreboardComplete (192 - 1) 0,
    .tileGo .host (192 - 1) false,
    .tileStop .host (192 - 1),
    .tileReset .host (192 - 1),
    .softirq .host (192 - 1),
    .drain .host (192 - 1) false,
    .veWindowAccess (192 - 1) ((2 ^ 16) - 1) false 0,
    .neBatch (192 - 1),
    .sweepPassStart (192 - 1),
    .sweepVisit (192 - 1),
    .sweepOverdue (192 - 1) (8 - 1),
    .resetPassEnd (192 - 1),
    .neEnable .host (192 - 1),
    .neDisable .host (192 - 1),
    .cimPgmStart .host (192 - 1) (4 - 1) false,
    .cimPgmGo .host (192 - 1) (4 - 1) false 0,
    .cimPgmFinish .host (192 - 1) (4 - 1),
    .cimPgmAbort .host (192 - 1) (4 - 1),
    .cimRowDone (192 - 1) (4 - 1) (256 - 1) [267],
    .calWindowClose (192 - 1) (4 - 1),
    .calBurstStart (192 - 1) (4 - 1) 0,
    .assayWindowEnd (192 - 1),
    .marginScanStart .host (192 - 1) (4 - 1) false 0,
    .marginScanDone (192 - 1) (4 - 1) [267],
    .spareProgramStart .host (192 - 1) (4 - 1) 0 0,
    .spareProgramDone (192 - 1) (4 - 1) false,
    .retentionRefreshDue (192 - 1) (4 - 1) false false,
    .retentionExpired (192 - 1) (4 - 1) false,
    .syncQueueIssue (192 - 1),
    .syncOpApply (256 - 1) false,
    .syncReply (256 - 1),
    .globalSetWindowWrite .host (0x8000 - 1) 0,
    .globalAddWindowWrite .host (0x8000 - 1) 0,
    .localSetWindowWrite .host (192 - 1) (512 - 1) 0,
    .localAddWindowWrite .host (192 - 1) (512 - 1) 0,
    .watchArm .host (64 - 1),
    .mailboxAck (4096 - 1) 0,
    .mailboxHeaderWrite (4096 - 1),
    .mailboxHoldTimeout (192 - 1),
    .tileHold .host (192 - 1),
    .tileQuiesce .host (192 - 1),
    .tileResume .host (192 - 1) false,
    .fenceLate (192 - 1),
    .apertureMap .host (16 - 1) 0 false,
    .bar4Access (0x10000000 - 1) (4097 - 1) false [],
    .domainWakeStepEnd (19 - 1) [] [],
    .domainEntryStepEnd (19 - 1) [] [],
    .wakeFail (19 - 1)] : List Instr).all (fun i => i.wf) = true := by decide +kernel

theorem test_wf_takes_6 : ([.clusterReqOff .host (12 - 1),
    .clusterReqRetain .host (12 - 1),
    .clusterReqActive .host (12 - 1),
    .napRequest .host (192 - 1),
    .napExit .host (192 - 1),
    .oppReqWrite .host (12 - 1) 0,
    .oppClockSwitch (12 - 1) (2048 - 1),
    .scrubPassLate (19 - 1),
    .ceStorm (19 - 1),
    .linkDegraded (192 - 1) (6 - 1),
    .autoReloadStart (192 - 1) (4096 - 1),
    .registerRead .host false (0x4000000 - 1) false,
    .time10mInEdge false (32 - 1),
    .pcieLinkUp (32 - 1) (8 - 1) false] : List Instr).all (fun i => i.wf) = true := by decide +kernel

theorem test_wf_refuses_bar4 (d : List Byte) (h : 4096 < d.length) : (Instr.bar4Access 0 0 true d).wf = false := by
  show (below 0x10000000 0 && below 4097 0 && decide (d.length ≤ 4096)) = false
  rw [decide_eq_false (by omega : ¬ d.length ≤ 4096), Bool.and_false]

end Sys2Proof

namespace Sys2Proof.Machine

section Witnesses
set_option Elab.async false

/-! ### States for tests -/

/-- Fields set on a state out of reset with the seven domains on. -/
def mk (l : List (Fld × Nat)) : State :=
  l.foldl (fun s e => s.set e.1 e.2) ((List.range 7).foldl (fun s d => s.set (F.domState d) 2) (State.reset.setPins { porst := false }))
def okB (s : State) : Bool :=
  sparseWf regReset s.regs && sparseWf regReset s.act && Memory.wf s.mem.lp && Memory.wf s.mem.pool && s.tiles.length == 192
  && s.tiles.all (fun t => Memory.wf t.mem && Memory.wf t.imem && sparseWf (fun _ => 0) t.cim.acc && t.seq.g.length == 32
    && t.seq.p.length == 8 && t.cim.arrays.length == 4)
  && sparseWf (fun _ => ({} : VlanEntry)) s.sw.vlan && sparseWf (fun _ => 0) s.sync.ctr && sparseWf (fun _ => ({} : Slot)) s.sync.slots
  && sparseWf (fun _ => ([] : List Item)) s.fab.bufs && sparseWf (fun _ => ([] : List Item)) s.fab.rx
  && sparseWf (fun _ => 0) s.ras.links && sparseWf (fun _ => (0xFF : Byte)) s.touch.flash
  && s.tb.maps.length == 16 && s.jxl.length == 16 && s.csi.length == 4 && s.csi.all (fun c => c.v.length == 8) && s.ppc.length == 17
  && s.ald.addrs.length == 32 && s.gates.length == 32 && s.see.flows.length == 16 && s.pmu.clocks.length == 12
  && s.ras.ceSec.length == 19
theorem ok_of {s : State} (h : okB s = true) : s.Ok ∧ s.Sized := by
  simp only [okB, Bool.and_eq_true, List.all_eq_true, beq_iff_eq] at h
  obtain ⟨⟨⟨⟨⟨⟨⟨⟨⟨⟨⟨⟨⟨⟨⟨⟨⟨⟨⟨⟨⟨⟨h1, h2⟩, h3⟩, h4⟩, h5⟩, h6⟩, h7⟩, h8⟩, h9⟩, h10⟩, h11⟩, h12⟩, h13⟩, h14⟩, h15⟩, h16⟩, h17⟩, h18⟩, h19⟩, h20⟩, h21⟩, h22⟩, h23⟩ := h
  exact ⟨⟨h1, h2, h3, h4, h5, fun t m => by have := h6 t m; simp_all, h7, h8, h9, h10, h11, h12, h13⟩,
    ⟨h14, h15, h16, h17, h18, h19, h20, h21, h22, h23, h5, fun t m => by have := h6 t m; simp_all⟩⟩

def sets (s : State) (l : List (Fld × Nat)) : State := l.foldl (fun s e => s.set e.1 e.2) s
def st0 : State := mk [(F.GLB_BOOT_STAGE, 4)]
def stRun : State := mk [(F.TSB_EPOCH_CTL_RUN, 1)]
def stPps : State := (mk [(F.TSB_PPS_IN_CFG_EN, 1), (F.TSB_PPS_IN_CFG_CABLE_DLY, 40), (F.TSB_TEN_CFG_EN, 1)]).setTb
  { sec := 5, ns := 999999000, ptpDelay := 3, ptp := { present := true } }
def stLock : State := (mk [(F.TSB_STAT_STATE, 2), (F.TSB_CTL_SERVO_EN, 1), (F.TSB_STAT_ACTIVE_SRC, 1), (F.TSB_SRC_CTL_PRI0, 1),
  (F.TSB_SERVO_INT, 300), (F.TSB_PTP_DLY, 3)]).setTb { pps := { present := true, weight := 255, theta := 50 } }
def stPtp : State := mk [(F.TSB_STAT_STATE, 2), (F.TSB_CTL_SERVO_EN, 1), (F.TSB_STAT_ACTIVE_SRC, 1), (F.TSB_SRC_CTL_PRI0, 2),
  (F.TSB_SRC_CTL_PRI1, 0), (F.TSB_SRC_CTL_PRI2, 0), (F.TSB_SERVO_INT, 300)]
def stMap (o : Bool) : State := (mk [(F.TSB_PT_STAT_MISS 3, 7), (F.TSB_PT_STAT_STATE 3, 2), (F.JXL_P_STAT_STATE 3, 4), (F.TSB_PT_CFG_EN 3, 1),
  (F.JXL_P_CFG_EN 3, 1)]).setTb { maps := (List.replicate 16 {}).set 3 { outstanding := if o then some (4, 100) else none, bseq := 5 } }
def stArm : State := mk [(F.TSB_EPOCH_CTL_ARM, 1), (F.TSB_EPOCH_NEXT, 5000)]
def stFlip : State := let s := mk []; s.setFab { s.fab with flipDue := true }
def stIdle : State := State.reset.setPins { porst := false }
def stFuture : State := mk [(F.TSB_EPOCH_ORIGIN_LO, 900), (F.TSB_EPOCH_LEN, 5000)]
def swS : State := mk [(F.NET_MAC_AGE, 300), (F.NET_MAC_DATA0, 0x55667788), (F.NET_MAC_DATA1_MAC, 0x3344), (F.NET_MAC_DATA1_VID, 7),
  (F.NET_MAC_DATA2_PORTS, 0x155)]
def swMac (st : Bool) : MacEntry := ⟨(macKey swS).1, (macKey swS).2, 0x155, st, true, 5⟩
def swMacs (st : Bool) : State := swS.setSw { swS.sw with mac := [⟨9, 77, 2 ^ 3, false, false, 5⟩, swMac st] }
def swFull : State := swS.setSw { swS.sw with mac := [2055, 2767, 7338, 7778].map (fun i => ⟨7, i, 1, true, false, 5⟩) }
def swFrame : List Byte := List.replicate 12 2 ++ [0x81, 0, 0x20, 5, 8, 0] ++ List.replicate 60 1
def swPtp (ty : Byte) : List Byte := List.replicate 12 2 ++ [0x88, 0xF7] ++ [ty, 2, 0, 54] ++ List.replicate 60 1
def swQ (p : Nat) : QFrame := ⟨p, 3, 1, swFrame, 0, 0, false, false, false⟩
def swUp (l : List (Fld × Nat)) : State := mk (l ++ [(F.NET_P_CFG_EN 1, 1), (F.NET_P_STAT_LINK 1, 1), (F.NET_P_CFG_EN 2, 1),
  (F.NET_P_STAT_LINK 2, 1)])
def swQueue : State := let s := swUp []; s.setSw { s.sw with queue := [swQ 1, swQ 2, swQ 1], pdelay := [(1, swPtp 2, 100)], results := [swFrame] }
def swVlan : State := vlanWrite 5 (swUp [(F.NET_VLAN_DATA_MEMBER, 6), (F.NET_VLAN_DATA_UNTAG, 0x1FF), (F.NET_VLAN_DATA_FLOOD, 1),
  (F.NET_VLAN_DATA_VALID, 1), (F.NET_P_BUF_MAX_CELLS 2, 100), (F.NET_FH_CFG, 0)])
def swStamp : QFrame := ⟨2, 3, 1, swPtp 0, -50, 1, false, true, false⟩
def pb (l : List (Fld × Nat)) : State := mk (l ++ [(F.JXL_P_CFG_EN 3, 1), (F.JXL_P_CFG_MAX_CLASS 3, 3), (F.PPC_CH_CTL_EN 3, 1)])
def pbAct (y : Nat) (limit : Nat) : State := (pb [(F.JXL_P_STAT_STATE 3, 4), (F.JXL_P_STAT_SYNCED 3, y), (F.TSB_PT_STAT_STATE 3, 2),
  (F.JXL_P_GEOM_WIDTH1 3, 1279), (F.JXL_P_GEOM_HEIGHT1 3, 719)]).setJp 3 { limit := limit, p := 70000000, seq := 9 }
def pbTrain : State := (pb [(F.JXL_P_STAT_STATE 3, 1)]).setJp 3 { hellos := 2, seq := 9 }
def pbClass : State := (pb [(F.JXL_P_STAT_STATE 3, 3), (F.PPC_CH_STAT_STATE 3, 3)]).setJp 3 { seq := 9 }
def pbIdent : State := (pb [(F.JXL_P_STAT_STATE 3, 2), (F.JXL_P_REQ_BUSY 3 2, 1)]).setJp 3 { seq := 9 }
def pbLoss (l c : Nat) : State := pb [(F.JXL_P_STAT_STATE 3, l), (F.JXL_P_REQ_BUSY 3 2, 1), (F.PPC_CH_STAT_STATE 3, c)]
def pbLost (c k : Nat) : State := (pb [(F.JXL_P_STAT_STATE 3, 5), (F.JXL_P_STAT_CAUSE 3, c), (F.PPC_CH_STAT_STATE 3, 3)]).setJp 3
  { resets := k, retries := k }
def pbCsi (l : List (Fld × Nat)) : State := mk (l ++ [(F.JXL_P_CFG_EN 3, 1), (F.JXL_P_CFG_MODE 3, 1), (F.JXL_P_CSI_CFG_VC 3, 2),
  (F.JXL_P_CSI_CFG_DT_EN 3, 0xFF)])
def pbRun (word : Nat) : State := (pbCsi [(F.JXL_UCODE 3 5, word)]).setCp 3
  { running := true, pc := 5, payload := [0xFF, 0x12, 0x34], ptr := 4, v := [1, 2, 3, 4, 5, 6, 7, 8], idle := 9 }
def pbOp (op : Nat) : State := pbRun (op * 2 ^ 27 + 2 * 2 ^ 24 + 3 * 2 ^ 21)
def pbFifo : State := (pbCsi []).setCp 3 { fifo := [.long 0x35 [1, 2]] }
def pp (st : Nat) (l : List (Fld × Nat)) : State := mk ([(F.JXL_P_CFG_EN 3, 1), (F.PPC_CH_CTL_EN 3, 1), (F.PPC_CH_STAT_STATE 3, st)] ++ l)
def ppWait : State := (pp 3 [(F.PPC_CH_STAT_CLASS 3, 2)]).setCh 3 { waiting := true }
def al (l : List (Fld × Nat)) : State := mk ([(F.SITE_ALD_CFG_EN, 1), (F.SITE_ALD_AVALID, 3), (F.SITE_ALD_ADDR 0, 0x0705),
  (F.SITE_ALD_LSTATE 0, 2), (F.SITE_ALD_TXBUF 0, 0x11223344), (F.SITE_ALD_CFG_WINDOW, 3)] ++ l)
def alFrame (a : Byte) : List Byte := let b : List Byte := [a, 0x11, 9]; b ++ leBytes 2 (fcs16 b)
def gEv : Ev := ⟨20, 9, false, 33, 6000, false⟩
def gs (tok pol en : Nat) (e : Ev) : State :=
  let s := mk [(F.TSB_EPOCH_CTL_RUN, 1), (F.ADM_GATE_CFG_EN 17, en), (F.ADM_GATE_CFG_POLICY 17, pol), (F.ADM_GATE_CFG_BIN 17, 1),
    (F.ADM_GATE_FUT 17, 50), (F.ADM_GATE_STAT_TOKENS 17, tok), (F.ADM_MAP_ACTIVE 17 4, 2 ^ 31 + 100 * 2 ^ 16 + 2),
    (F.ADM_MAP_ACTIVE 17 5, 100 * 2 ^ 16 + 1), (F.ADM_MAP_ACTIVE 17 6, 5), (F.ADM_MAP_ACTIVE 17 7, 7 * 2 ^ 16 + 1000)]
  let s := s.activate.setTb { s.tb with ns := 80000, start := 5000, next := 20000 }
  s.setFlow 1 { s.flow 1 with evq := [e, e] }
def gOn : State := gs 5 0 1 gEv
def gMerge : MergeEntry := ⟨10, 4, [[1, 2, 3, 4]], 5, 6000, false, false, false⟩
def gEvw : Evw := ⟨5, 7, 3, 9, 2, false, false, false, none⟩
def enCfg (n : Nat) : FlowCfg := ⟨1, 4, n, 0, 100, 0, 50⟩
def enSym (n : Nat) : Sym := { t := 77, cfg := enCfg n, gen := 0, energy := [(1, 1000000)], got := [(1, 15)], lastJoin := 5 }
def enFlow (refs : List (Nat × Int)) (n : Nat) : State := gOn.setFlow 1 { gOn.flow 1 with refs := refs, closed := [enSym n], opens := [enSym n] }
def enSect (bad : Bool) (m : Nat) : Section := ⟨1, 5, 1000, 3, 0, 0, m, 0, 8, false, 0, 4, 100, List.replicate 96 1, bad, false⟩
def enFifo (x : Section) : State := gOn.setSee { gOn.see with fifo := [x] }
def fbNrt : List (Fld × Nat) := (List.range 192).map (fun i => (F.EVF_NRT_ACTIVE i, i))
def fbEv : Evw := ⟨40, 7, 3, 9, 2, false, false, false, none⟩
def fbBuf (d : Nat) : State := (mk [(F.PMU_CLU_STATE 0, 2)]).setBuf (bufKey 5 3 false) [⟨d, 2, .evw fbEv⟩]
def fbRx (st route : Nat) (b : Body) (l : List (Fld × Nat)) : State := (mk ([(F.PMU_CLU_STATE 0, 2), (F.NE_CTL_EN 5, 1), (F.TILE_SEQ_STAT_STATE 5, st),
  (F.NE_ROUTE 5, route * 16)] ++ l)).setRx 5 [⟨5, 2, b⟩]
def fbEdge (n : Nat) : State := (mk [(F.EVF_SPAN_CFG_RING, 3)]).setRx n [⟨n, 2, .eb 9⟩]
def fbList (w : Nat) : State := let s := mk ([(F.PMU_CLU_STATE 0, 2), (F.TILE_SEQ_STAT_STATE 5, 1), (F.EVF_T_FAN_CFG0_NLIST 5, 2),
    (F.EVF_T_FAN_CFG0_SIZE 5, 8), (F.EVF_T_FAN_BASE0 5, 0x100), (F.EVF_SPAN_CFG_RING, 3), (F.EVF_SPAN_CFG_DEV_ID, 1)] ++ fbNrt)
  s.setTile 5 ((s.tile 5).store 0x100 (leBytes 4 (2 ^ 11 + 3) ++ leBytes 4 0 ++ leBytes 4 0 ++ leBytes 4 w))
def fbOut (q : Bool) : State := let s := mk [(F.PMU_CLU_STATE 0, 2)]
  if q then s.setSeq 5 { s.seq 5 with sendq := [.marker 3] } else s.setNe 5 { s.ne 5 with outq := [.marker 3] }
def fbSpan (l : List (Fld × Nat)) : State := (mk ([(F.EVF_SPAN_CFG_EN0, 1), (F.EVF_SPAN_CFG_EN1, 1), (F.EVF_SPAN_CFG_RING, 3),
  (F.EVF_SPAN_CFG_DEV_ID, 1), (F.EVF_CTL_STALL_LIM, 9)] ++ l))
def run5 (q : Seq → Seq) : State := let s := mk [(F.PMU_CLU_STATE 0, 2), (F.TILE_SEQ_STAT_STATE 5, 1)]; s.setSeq 5 (q (s.seq 5))
def run0 : State := run5 id
def rLoop (c : Nat) : State := run5 (fun q => { q with pc := 0x20, lc := [c, 0, 0], le := [0x20, 0, 0], la := [0x10, 0, 0] })
def rDelay (t : Option Nat) : State := run5 (fun q => { q with pc := 0x24, delay := some ⟨t, 0x20, [2]⟩ })
def rMem (base : Word) (po : List Nat) : State := let s := run5 (fun q => { q with g := (q.g.set 2 base).set 3 0x89ABCDEF })
  s.setTile 5 { (s.tile 5).store 0x100 [0x81, 0x92, 0x7F, 0xF3] with poison := po, ipoison := po }
def rOwed (k dst : Nat) : State := run5 (fun q => { q with sb := List.replicate k ⟨3, dst, some 7, true, true⟩ })
def rNoGuard : State := let s := rMem 0x104 []; s.setSeq 5 { s.seq 5 with p := (s.seq 5).p.set 3 false }
def blk (l : List (Nat × Nat)) : State := let s := mk [(F.PMU_CLU_STATE 0, 2), (F.TILE_SEQ_STAT_STATE 5, 1), (F.MEM_STAT_READY, 1),
    (F.SYNC_MB_CFG_VALID 7, 1), (F.SYNC_MB_CFG_OWNER 7, 5), (F.tileRole 5, 1), (F.NE_RING4_VALID 5 1, 1), (F.NE_RING0_CNT 5 1, 20)]
  let s := s.setSeq 5 { s.seq 5 with g := ((s.seq 5).g.set 2 0x100).set 3 2 }
  l.foldl (fun s e => s.setTile 5 ((s.tile 5).store e.1 (leBytes 4 e.2))) s
def blkAt (a c : Word) : State := run5 (fun q => { q with g := (q.g.set 2 a).set 3 c })
def blkCim : State := let s := blk [(0x100, 0x400 + 200 * 2 ^ 16), (0x104, 2 ^ 16 + 4 * 2 ^ 24), (0x108, 3 * 2 ^ 8)]; s.setArr 5 0 { s.arr 5 0 with a := { state := .valid } }
def blkTensor : State := blk ([(0x100, 1 + 4 * 256)] ++ (List.flatten ([0x1000, 0x2000, 0x3000].map (fun b => [b, 299, 2 ^ 8, 0]))).mapIdx
  (fun i x => (0x110 + 4 * i, x)))
def blkMbx : State := blk [(0x100, 2 + 3 * 16 + 7 * 2 ^ 16), (0x104, 200), (0x108, 0x10000), (0x10010, 0x55)]
def blkFrm : State := blk [(0x100, 2 + 4 * 16 + 7 * 2 ^ 16), (0x104, 200), (0x108, 0x10000), (0x10010, 0x55)]
def blkReady : State := blkMbx.setSlot 7 { blkMbx.slot 7 with ready := true }
def blkOther : State := blkMbx.set (F.SYNC_MB_CFG_OWNER 7) 6
def blkHold : State := let s := (run5 (fun q => { q with mprog := 0x80330000, hold := some (0, 3, q.pc) })).setSlot 3 { ready := true }
  s.setTb { s.tb with sec := 100 }
def vecBad : State := run5 (fun q => { q with badReg := [0x402 * 0x200] })
def ts (st reason : Nat) (l : List (Fld × Nat)) : State := mk ([(F.PMU_CLU_STATE 0, 2), (F.TILE_SEQ_STAT_STATE 5, st),
  (F.TILE_SEQ_STAT_HALT_REASON 5, reason)] ++ l)
def nrReg : List (Fld × Nat) := [(F.NE_CTL_EN 5, 1), (F.NE_REG4_VALID 5 0, 1), (F.NE_REG0_CNT 5 0, 9), (F.NE_REG4_FMT 5 0, 2)]
def nrIn (t : Nat) (p : Bool) : NeIn := ⟨⟨5, t, 3, 9, 0, false, false, p, none⟩, 7⟩
def nrQ (i : NeIn) : State := let s := ts 1 0 nrReg; s.setNe 5 { s.ne 5 with queue := [i] }
def nrR : Region := (regionOf (ts 1 0 nrReg) 5 0).getD ⟨0, 0, 0, 0, 0, 0, 0, 0⟩
def nrNe (f : Neuron → Neuron) : State := let s := ts 1 0 nrReg; (s.setNe 5 (f (s.ne 5))).setTb { s.tb with sec := 100 }
def nrRec : Rec := ⟨[1, 2, 3, 4], 5, 6, 7⟩
def cm (f : CimArray → CimArray) : State := let s := ts 0 0 [(F.GLB_CIM_PGM, 2)]; s.setArr 5 3 (f (s.arr 5 3))
def cmB (f : CimArray → CimArray) : State := (cm f).set (F.CIM_A_PGM_BANK 5 3) 1
def cmWin (g : Int) : Window := { n := 4096, sumN := 40960, gain := g, lim := 100, par := 4 * 2 ^ 5 }
def cmCal (f : CimArray → CimArray) : State := (cmB f).raise (F.CIM_TS_CTL_INJECT 5 3)
def syCtr (v : Nat) : State := setCtr 0x10005 v (mk (fbNrt ++ [(F.PMU_CLU_STATE 0, 2)]))
def syBad : State := let s := syCtr 9; s.setSync { s.sync with poison := [0x10005] }
def syWait (d : Nat) : State := let s := syCtr 9; (s.setSync { s.sync with waits := [⟨0x10005, 5, 3, 20, d⟩] }).setTb { s.tb with sec := 1 }
def syQ (h op : Nat) : State := let s := syCtr 9; s.setSeq 5 { s.seq 5 with syncq := [{ handle := h, op := op, value := 1 }] }
def syR (h op : Nat) : SyncReq := { handle := h, op := op, value := 1 }
def syFull : State := (syQ (6 * 2 ^ 12) 1).setBuf (bufKey 5 (entryPort 5) true) (List.replicate 8 ⟨6, 5, .fence 9 true⟩)
def syRx (op : Nat) : State := (syCtr 9).setRx 5 [⟨5, 2, .sync { op := op, index := 1 }⟩]
def syWin : State := let s := syCtr 9; s.setSync { s.sync with window := [(0x10005, 1, 3)] }
def syHost (l : List (Fld × Nat)) : State := mk ([(F.SYNC_HOSTWR_LO, 5), (F.SYNC_HOSTWR_HI, 5), (F.GLB_BOOT_STAGE, 4)] ++ l)
def sySlot (t : Bool) : State := (mk []).setSlot 4095 { writer := some (191, 8), tail := t }
def syReady : State := (mk [(F.GLB_BOOT_STAGE, 4)]).setSlot 4095 { ready := true, seq := 3 }
def ldDesc (op dst : Nat) : List Nat := [op, 0x1000, 0x10001000, dst, 0x40]
def ldS (op dst first : Nat) : State := let s := mk (fbNrt ++ [(F.LDL_CTL_EN, 1), (F.LDL_PROG, 1), (F.LDL_CTL_RUNAHEAD, 4), (F.LDL_CTL_PERIOD, 0)])
  s.setMem { s.mem with pool := memPutBytes (memPutBytes [] 64 (leBytes 4 (first + 3 * 65536))) 96 ((ldDesc op dst).flatMap (leBytes 4)) }
def ldFar : State := let s := ldS 0 0x2000 0; s.setLadle { target := 5 }
def ldX (g : Bool) : Xfer := { idx := 0, target := 0, desc := ldDesc 0 0x2000, gate := g }
def ldXs (g : Bool) : State := let s := ldS 0 0x2000 0; s.setLadle { xfers := [ldX g] }
def ldW : Xfer := { idx := 0, target := 0, desc := [2 ^ 24, 0, 0, 0, 0, 0, 6 * 2 ^ 12 + 5, 7] }
def ldV : Xfer := { idx := 0, target := 1, desc := [2 ^ 20 + 3 * 2 ^ 14 + 2 * 2 ^ 21, 0, 0, 0, 0, 0, 0, 0], phase := .staged }
def ldDec (l : List (Nat × Nat × Nat)) : State := (mk []).setLadle { xfers := [ldV], decided := l }
def ldChg : State := let s := mk [(F.LDL_VP_VALID 3, 1), (F.LDL_VP_GIDX 3, 77)]; s.setSync { s.sync with changed := [(77, 6)] }
def ldLp : State := let s := ldS 0 0x2000 0; s.setMem { s.mem with pool := memPutBytes s.mem.pool 96 ([0, 0x1000, 0x1000, 0x2000, 0x40].flatMap (leBytes 4)) }
def hr : State := let s := mk [(F.GLB_BOOT_STAGE, 4), (F.HST_MSIX_CTL 0, 0), (F.HST_MSIX_CTL 1, 0), (F.HST_RING_CTL_EN, 1), (F.HST_RING_CTL_NTF_EN, 1), (F.HST_CMDQ_SIZE, 4), (F.HST_CPLQ_SIZE, 4), (F.HST_NTFQ_SIZE, 4), (F.HST_CMDQ_TAIL, 3), (F.HST_CPLQ_TAIL, 15), (F.HST_CPLQ_HEAD, 10), (F.HST_NTF_MASK, 255), (F.MEM_STAT_READY, 1), (F.MEM_CAP, 14336)]; s.setHst { s.hst with done := [⟨7, 2, 1, 5⟩], notes := [⟨3, 4, 5, 6⟩] }
def hrFull : State := sets hr [(F.HST_CPLQ_HEAD, 0), (F.HST_NTFQ_TAIL, 15)]
def hrStop : State := hr.clear F.HST_RING_CTL_EN
def hrLost : State := hr.setHst { hr.hst with lost := 2 }
def hrAp : State := (sets hr [(F.HST_AP_BASE 1, 2), (F.HST_AP_VALID 1, 1), (F.HST_AP_BASE 2, 0x100000), (F.HST_AP_VALID 2, 1)]).setMem { hr.mem with pool := [(5, 7)], lp := [(0x2000004, 3)], lpBad := [0x2000000 / 8] }
def ent (op : Nat) (l : List (Nat × Byte)) : List Byte := l.foldl (fun e x => e.set x.1 x.2) (leBytes 2 op ++ [9, 0] ++ List.replicate 60 0)
def hrJob : State := hr.setJob (some { op := 1, cid := 5 })
def pl : Plan := { sects := [⟨0, 5, 20, [0x10, 0, 0, 0, 1, 2, 3, 4]⟩], oppMin := [0, 1] }
def p1 : State := sets (hr.setFw { hr.fw with plan := some pl }) [(F.GLB_PLAN_STAT_STATE, 3), (F.PMU_CLU_STATE 1, 2), (F.PMU_CLU_STATE 2, 2), (F.TILE_SEQ_STAT_HALT_REASON 20, 2), (F.tileRole 20, 1), (F.PMU_CLU_FLOOR 2, 1), (F.PMU_CLU_OPP 2, 2), (F.PMU_CLU_OPP_REQ 2, 2), (F.TSB_EPOCH_NUM, 77), (F.TSB_EPOCH_CTL_RUN, 1), (F.PMU_CLU_FLOOR 1, 1), (F.LDL_CTL_EN, 1), (F.NET_P_STAT_PRESENT 3, 1), (F.NET_P_CFG_EN 3, 1), (F.PPC_CH_STAT_STATE 3, 5)]
def p3 : State := sets (p1.setJob (some { op := 1, cid := 5 })) [(F.GLB_PLAN_STAT_STATE, 1)]
def p4 : State := p1.setJob (some { op := 0x14, cid := 5 })
def rq (msg : Nat) (l : List Byte) : List Byte := leBytes 4 msg ++ l
def b0 (r : List Byte) : State := let s := mk [(F.GLB_BOOT_STAGE, 4), (F.GLB_LC_DBG_SCOPE, 4)]; (s.setTouch { s.touch with reqs := [(r, true), ([9], false)], bench := some ⟨1, leBytes 256 (7 + 2 ^ 96 * 9 + 2 ^ 300 * 12345)⟩, tm := some ⟨0, []⟩ }).setFw { s.fw with reqs := [(r, true)] }
def bBad (r : List Byte) : State := let s := b0 r; s.setTouch { s.touch with nonce := some (leBytes 32 77), trngBad := true }
def bNon (r : List Byte) : State := let s := b0 r; s.setTouch { s.touch with nonce := some (leBytes 32 77) }
def upd : Update := { kind := 2, slot := 0, len := 9000, got := 40, held := List.replicate 40 3 }
def bUpd (r : List Byte) : State := let s := b0 r; s.setTouch { s.touch with update := some upd }
def rsvd : List (List Byte × Bool) := [([9], false)]
def R10 (k slot : Nat) : List Byte := rq 0x10 (leBytes 2 k ++ leBytes 1 slot ++ leBytes 4 0x3000)
def R11 (at' n : Nat) : List Byte := rq 0x11 (leBytes 4 at' ++ leBytes n (2 ^ 159 - 7))
def R15 : List Byte := rq 0x15 (leBytes 2 3 ++ leBytes 96 5)
def R20 : List Byte := rq 0x20 (leBytes 256 (2 ^ 64 * 256 + 0x0001000444) ++ leBytes 256 5)
def R30 : List Byte := rq 0x30 ([4, 5, 0] ++ leBytes 96 5)
def R40 (t : Byte) : List Byte := rq 0x40 ([t] ++ leBytes 200 5)
def lcS (lc : Nat) (r : List Byte) (n : Bool) : State := let s := if n then bNon r else b0 r; s.setTouch { s.touch with otp := { s.touch.otp with lc := lc } }
def d0 : State := mk [(F.GLB_BOOT_STAGE, 4)]
def dPlan : State := d0.set F.GLB_PLAN_STAT_STATE 3
def dBusy : State := d0.setPmu { d0.pmu with dev := some 1 }
def dSb : State := sets d0 [(F.PMU_DEV_CTL_STATE, 1), (F.domState 4, 0), (F.PMU_AO_ALARM_HI_ARM, 1), (F.PMU_WAKE_EN_TIMER, 1), (F.PMU_AO_ALARM_LO, 99)]
def withQ (d : Nat) (q : DSeq) (s : State := d0) : State := s.setPmu { s.pmu with seqs := [(d, q)] }
def qW3 : DSeq := { wake := true, steps := [0, 2, 3], hs := true }
def qW1 : DSeq := { wake := true, steps := [3] }
def qE4 : DSeq := { wake := false, steps := [3, 2, 1, 0] }
def qE1 : DSeq := { wake := false, steps := [0] }
def stby (q : DSeq) : State := let s := withQ 4 q; s.setPmu { s.pmu with dev := some 1, devOff := true }
def c0 : State := sets d0 [(F.PMU_CLU_STATE 1, 2), (F.PMU_CLU_OPP 1, 1), (F.PMU_CLU_FLOOR 1, 1), (F.TILE_SEQ_STAT_STATE 20, 1), (F.PMU_DVFS_STAT_VREAD, 700)]
def c1 : State := sets c0 [(F.TILE_SEQ_STAT_STATE 20, 0)]
def cNap : State := sets c1 [(F.PMU_NAP_STATE 1, 16), (F.PMU_NAP_REQ 1, 16)]
def cClk (l : List (Fld × Nat)) : State := sets (c1.setClock 1 { next := some 3 }) ((F.PMU_DVFS_STAT_VRAIL, 850) :: l)
def thm : State := let s := sets c0 [(F.PMU_DVFS_CFG_AVS_WAIT, 1), (F.PMU_DVFS_STAT_BUSY, 1), (F.PMU_THERM_CFG_WARN_IE, 0)]; s.setPmu { s.pmu with hot := 1 }
def ra (l : List (Fld × Nat)) : State := mk ([(F.GLB_BOOT_STAGE, 4), (F.RAS_CTL_SCRUB_EN, 1), (F.RAS_LOG_WR, 63), (F.PMU_CLU_STATE 1, 2), (F.TSB_EPOCH_NUM, 78), (F.RAS_LINK_LINK_THR, 1), (F.RAS_CE_THR, 3), (F.RAS_CTL_LOG_CE, 0), (F.RAS_HOST_MASK, 0)] ++ l)
def raFull : State := let s := ra []; s.setRas { s.ras with unread := 64, links := [(123, 2)], ceSec := s.ras.ceSec.set 8 4 }
def rpS (l : List (Fld × Nat)) : State := let s := ra ([(F.GLB_PLAN_STAT_STATE, 5), (F.TILE_SEQ_STAT_HALT_REASON 20, 4), (F.RAS_CTL_AUTO_RELOAD, 1)] ++ l); s.setFw { s.fw with plan := some pl }
def rpMac : MacEntry := ⟨5, 77, 3, true, false, 0⟩
def rpNet : State := let s := ra []; (s.setRas { s.ras with lostMac := [rpMac], lostVlan := [(3, { valid := true, member := 7 })] }).setSw { s.sw with mac := [⟨5, 77, 1, false, false, 0⟩, ⟨6, 77, 1, false, false, 0⟩] }
def rpStop : State := let s := ra []; s.setFw { s.fw with stopped := true }
def rpTm (m : Nat) : State := let s := ra [(F.domState 6, m), (F.GLB_LC_DBG_SCOPE, 3)]; s.setTouch { s.touch with nonce := some [], reqs := [([1], true)] }
def rbPor (lc : Nat) : State := let s := (ra [(F.GLB_BOOT_STAGE, 0)]).setPins { porst := true }; s.setTouch { s.touch with otp := { s.touch.otp with lc := lc } }
def rbTrip : State := (ra []).setPins { porst := false, trip := true }
def acq (l : List (Fld × Nat)) : State := ra ([(F.PF1_TM_REQ_LEN, 4), (F.PF1_TM_REQ 0, 2)] ++ l)
def raCt (f : State → State) : State := f (ra [])

/-! ### The spec's worked examples -/

/-- The next state of a command. -/
def tstNext : Res → State
  | .next t => t
  | _ => State.reset

def tstServo : State := servoLoop (120 * 256 * 255) (mk [(F.TSB_SERVO_KP, 0x3000), (F.TSB_SERVO_KI, 0x0800),
  (F.TSB_SERVO_CFG_PERIOD_LOG2, 4), (F.TSB_SERVO_CFG_LIMIT, 10000), (F.TSB_SERVO_INT, 35 * 256)])

/-- 02, worked example of the servo: θ 120 ns of weight 255 gives an integral of 49.94 ppb and INCR 0x800_0012_BC47; the example forms
INCR from y rounded to 139.59 ppb, the equations from y itself, which lies 2 lower. -/
theorem test_servo : tstServo.geti F.TSB_SERVO_INT = 12785 ∧ tstServo.incr + 2 = 0x8000012BC47 := by decide +kernel

def tstMap : State := mapExchange 5 1250100000 (10000800 * 256 + 128) (10000900 * 256 + 128) 1250112850
  ((mk []).setMap 5 { started := true, o := 100 * 65536, cfg := 30 * 2 ^ 24 + 4 * 2 ^ 16 + 0x40 * 256 + 10 * 2 + 1 })

/-- 02, worked example of a port map: O becomes 103.125 ticks, R gains 0.000019531 ticks/µs, and port time 10,000,860 µs is stamped
1,250,107,798. -/
theorem test_port_map : (tstMap.pmap 5).o = 103 * 65536 + 8192 ∧ (tstMap.pmap 5).r = 125 * 2 ^ 24 + 328 ∧
    (tstMap.pmap 5).stamp 10000860 = 1250107798 := by decide +kernel

/-- 02, worked example of O-RAN placement: frameId 37 at .375 412 s of PTP second 1,734,000,019 is the frame that starts at .370 000 s,
and symbol 9 of slot 1 in subframe 4 starts 46,852,701 ticks into the second. -/
theorem test_symbol_time : frameNs 0 (frameCount 0 0 37 1734000019375412000) = 1734000019370000000 ∧
    symbolTick 1 (frameNs 0 (frameCount 0 0 37 1734000019375412000)) 4 1 9 - 1734000019 * 125000000 = 46852701 := by decide +kernel

def tstCsi (w : Nat) : State :=
  let s := mk [(F.JXL_UCODE 2 3, w), (F.JXL_P_CFG_EN 2, 1), (F.JXL_P_CFG_MODE 2, 1)]
  s.setCp 2 { s.cp 2 with running := true, pc := 3, v := [0x3A07, 0, 0, 0, 0, 0, 0, 1200] }

/-- 04, worked example of the microcode: EXT v4, v0, 0, 11 gives 519, EXT v1, v0, 12, 4 gives 3. -/
theorem test_parser_ext : 
    ((tstNext (execParserExt 2 (tstCsi 0x2C00000A))).cp 2).v.getD 4 0 = 519 ∧
    ((tstNext (execParserExt 2 (tstCsi 0x2C00000A))).cp 2).pc = 4 ∧ ((tstNext (execParserExt 2 (tstCsi 0x290C0003))).cp 2).v.getD 1 0 = 3 := by decide +kernel

def tstGate : State := mk [
  (F.ADM_MAP_ACTIVE 2 4, 2 ^ 31 + 639 * 2 ^ 16), (F.ADM_MAP_ACTIVE 2 5, 182 * 2 ^ 16 + 87), (F.ADM_MAP_ACTIVE 2 6, 0x011),
  (F.ADM_MAP_ACTIVE 2 7, 640 * 2 ^ 16), (F.ADM_MAP_ACTIVE 2 8, 2 ^ 31 + 639 * 2 ^ 16), (F.ADM_MAP_ACTIVE 2 9, 272 * 2 ^ 16 + 177),
  (F.ADM_MAP_ACTIVE 2 10, 0x012), (F.ADM_MAP_ACTIVE 2 11, 640 * 2 ^ 16)]

/-- 06, worked example of the mapping table: the pixel (515, 201) matches entry 2 with TARGET 15,875; (515, 180) matches entries 1 and 2. -/
theorem test_gate_map : (mapMatch tstGate 2 515 201).map (fun m => (mapEvw tstGate 2 m 515 201 1 0 false false).map (·.target)) = [some 15875] ∧
    (mapMatch tstGate 2 515 180).map (fun m => (mapEvw tstGate 2 m 515 180 1 0 false false).map (fun e => (e.node, e.target)))
      = [some (0x011, 60035), some (0x012, 2435)] := by decide +kernel

def tstFan (w : Nat) : State := fanCopy 0x053 w 0x0F42 ⟨0, 0, 1, 0, 0, false, false, false, none⟩
  (mk (fbNrt ++ [(F.EVF_SPAN_CFG_RING, 3), (F.EVF_SPAN_CFG_DEV_ID, 0), (F.EVF_NRT_ACTIVE 0x0A3, 0x0A4)]))

/-- What the injection buffer of tile 0x053 holds: node and target of each item. -/
def tstSent (s : State) : List (Nat × Nat × Nat) := (s.buf (bufKey 0x053 4 false)).map (fun i =>
  match i.body with | .evw e => (i.dst, e.node, e.target) | .remote d e => (i.dst, d, e.target) | _ => (i.dst, 0, 0))

/-- 08, worked example of a send: the three entries give TARGET 0x1042 on 0x058, and DEV 1 with TARGET 0x0F42 through SP0; tile 0x053
at (3, 5) sends east. -/
theorem test_fanout : tstSent (tstFan 0x01000058) = [(0x058, 0x058, 0x1042)] ∧ tstSent (tstFan 0x00006053) = [(0xF0E, 1, 0x0F42)] ∧
    routeOut 0x053 0x058 = 1 ∧ attach 0xF0E = 15 := by decide +kernel

def tstNe : State := mk [(F.NE_TAB 5 0 2, 23612 * 0 + 25212 + 23612 * 65536)]

/-- 11, worked example of the leak: stamps 565 and 3,026; e = 2,461 gives f = 23,921; 32,512 leaks to 23,734. -/
theorem test_leak : stampOf 4 9040 = 565 ∧ stampOf 4 (31250 + 17177) = 3026 ∧ decay tstNe 5 0 9 2461 = 23921 ∧
    leakVar 1 0 23921 32512 = 23734 ∧ leakVar 1 0 23921 20000 = 14600 := by decide +kernel

/-- 12, worked example of a conversion: 22 rows fall in band 3, the step is 8 at RES 7 of 64 rows, and 47 + 1.6 converts to 6, that is 48. -/
theorem test_conversion : bandOf 22 = 3 ∧ rawCode 47 104858 8 = 6 ∧ codeOf 63 47 104858 8 * 8 = 48 := by decide +kernel

/-- 14, worked example: MUL of 4 by -1.5; 80² and its MAC with 40²; RCP(8,000) is 0x0819; 0x0819 by 20 rounds to 0x191F, and 80 by that
to 0x3267; RSUM adds the products of a row. -/
theorem test_vector_chain :
    let m : VMode := ⟨0, false, false⟩
    (elemOp .mul m 3 0 0x4400 0xBE00).1 = 0xC600 ∧ (elemOp .mul m 3 0 0x5500 0x5500).1 = 0x6E40 ∧
    (elemOp .mac m 3 0x6E40 0xD100 0xD100).1 = 0x6FD0 ∧ (elemOp .rcp m 3 0 0x6FD0 0).1 = 0x0819 ∧
    (elemOp .mul m 3 0 0x0819 0x4D00).1 = 0x191F ∧ (elemOp .mul m 3 0 0x5500 0x191F).1 = 0x3267 ∧
    (elemOp .mul m 3 0 0xD100 0x191F).1 = 0xAE67 ∧ (rowSum m 3 [0x4400, 0xBE00, 0x3800]).1 = 0x4200 := by decide +kernel

/-- 16 R624: a counter meets a threshold at a signed difference of 0 or more, also across the wrap. -/
theorem test_counter_wrap : meets 3 0xFFFFFFFE = true ∧ meets 0xFFFFFFFE 3 = false ∧ meets 7 7 = true ∧ meets 0x80000000 0 = false := by
  decide +kernel

/-- 16 R638 and the worked example of a mailbox: word +0x00 of a ready slot at SEQ 41 is 0x0100_0029, and 0x0300_002A with an overrun. -/
theorem test_slot_word : Slot.word { ready := true, seq := 41 } = 0x01000029 ∧ Slot.word { ready := true, overrun := true, seq := 42 } = 0x0300002A := by
  decide +kernel

/-! ### Witnesses -/


/-- The hypotheses of `StepIdle` are met. -/
theorem wit_stepIdle :
    (let s : State := State.reset; (s.pending = []) ∧ (s.pins.porst = true)) ∧
    (let s : State := stIdle; (s.pending = []) ∧ (s.pins.porst = false) ∧ (s.netOn = false)) ∧
    (let s : State := st0; (s.pending = []) ∧ (s.pins.porst = false) ∧ (s.netOn = true) ∧ (s.fab.flipDue = false)) :=
  ⟨by decide +kernel,
    by decide +kernel,
    by decide +kernel⟩

theorem wok_1 : okB (st0) = true := by decide +kernel

/-- The hypotheses of `RegisterAccess`, part FieldWrites are met. -/
theorem wit_registerAccess_fieldWrites :
    (okB (st0) = true ∧ True) ∧
    (okB (st0) = true ∧ (let f : Fld := F.TSB_EPOCH_CTL_ARM; let g : Fld := F.TSB_EPOCH_CTL_RUN; (f.ok) ∧ (f.apart g))) :=
  ⟨⟨wok_1, trivial⟩,
    ⟨wok_1, by decide +kernel⟩⟩


/-- The hypotheses of `RegisterAccess`, part RefusedWrites are met. -/
theorem wit_registerAccess_refusedWrites :
    (let i : Instr := .epochArm .bench; let s : State := State.reset; let on : Bool := false; let w : Writers := .bench; let a : Agent := .bench; let off : Nat := F.TSB_EPOCH_CTL_ARM.off; (writeRow i s = some (on, w, a, off)) ∧ (s.takesWrite on a off = false)) ∧
    (let i : Instr := .epochArm .host; let s : State := st0; let on : Bool := true; let w : Writers := .bench; let a : Agent := .host; let off : Nat := F.TSB_EPOCH_CTL_ARM.off; (writeRow i s = some (on, w, a, off)) ∧ (s.takesWrite on a off = true) ∧ (w.allows a = false)) :=
  ⟨by decide +kernel,
    by decide +kernel⟩


/-- The hypotheses of `EpochGrid`, part EpochGridWrites are met. -/
theorem wit_epochGrid_epochGridWrites :
    (let s : State := st0; (s.netOn = true)) ∧
    (let s : State := stRun; (s.netOn = true) ∧ (s.running = true)) ∧
    (let s : State := st0; let v : Word := 4000#32; (s.netOn = true) ∧ (s.running = false) ∧ (4000 ≤ v.toNat) ∧ (v.toNat ≤ 1000000)) ∧
    (let s : State := st0; let v : Word := 3999#32; (s.netOn = true) ∧ (s.running = false) ∧ (v.toNat % 2 ^ 20 < 4000 ∨ 1000000 < v.toNat % 2 ^ 20)) :=
  ⟨by decide +kernel,
    by decide +kernel,
    by decide +kernel,
    by decide +kernel⟩


/-- The hypotheses of `EpochGrid`, part RegridPlacesBoundary are met. -/
theorem wit_epochGrid_regridPlacesBoundary :
    (let s : State := stFuture; (0 < s.get F.TSB_EPOCH_LEN) ∧ (s.T < s.origin)) ∧
    (let s : State := st0; (0 < s.get F.TSB_EPOCH_LEN) ∧ (s.origin ≤ s.T)) :=
  ⟨by decide +kernel,
    by decide +kernel⟩


/-- The hypotheses of `SiteTime`, part TimeSteps are met. -/
theorem wit_siteTime_timeSteps :
    (let s : State := stRun; (s.netOn = true) ∧ (s.running = true)) ∧
    (okB (st0) = true ∧ (let s : State := st0; (s.netOn = true) ∧ (s.running = false))) :=
  ⟨by decide +kernel,
    ⟨wok_1, by decide +kernel⟩⟩


/-- The hypotheses of `RunAndBoundaries`, part RunBit are met. -/
theorem wit_runAndBoundaries_runBit :
    (let s : State := st0; (s.netOn = true) ∧ (s.running = false)) ∧
    (let s : State := stRun; (s.netOn = true) ∧ (s.running = true)) ∧
    (okB (st0) = true ∧ (let n := 15; (n < 16))) :=
  ⟨by decide +kernel,
    by decide +kernel,
    ⟨wok_1, by decide +kernel⟩⟩

theorem wok_2 : okB (stArm) = true := by decide +kernel

/-- The hypotheses of `RunAndBoundaries`, part BoundaryCounts are met. -/
theorem wit_runAndBoundaries_boundaryCounts :
    (okB (st0) = true ∧ (let s : State := st0; (s.flag F.TSB_EPOCH_CTL_ARM = false))) ∧
    (okB (stArm) = true ∧ (let s : State := stArm; (s.flag F.TSB_EPOCH_CTL_ARM = true) ∧ (s.tb.next < 2 ^ 64))) :=
  ⟨⟨wok_1, by decide +kernel⟩,
    ⟨wok_2, by decide +kernel⟩⟩


/-- The hypotheses of `RunAndBoundaries`, part BoundaryAndFlip are met. -/
theorem wit_runAndBoundaries_boundaryAndFlip :
    (let s : State := st0; (s.netOn = true) ∧ (s.fab.flipDue = false)) ∧
    (let s : State := stFlip; (s.fabOn = true) ∧ (s.fab.flipDue = true)) ∧
    (let s : State := st0; (s.fabOn = true) ∧ (s.fab.flipDue = false)) :=
  ⟨by decide +kernel,
    by decide +kernel,
    by decide +kernel⟩

theorem wok_3 : okB (stPps) = true := by decide +kernel

/-- The hypotheses of `SiteTime`, part TimeInputs are met. -/
theorem wit_siteTime_timeInputs :
    (let s : State := stPps; let q := 3; let n : Nat := 6; (s.netOn = true) ∧ (s.flag F.TSB_PPS_IN_CFG_EN = true) ∧ (s.flag F.TSB_PPS_IN_CFG_EDGE = false) ∧ (s.servo ≠ .locked) ∧ (((s.quarters q : Int) - s.get F.TSB_PPS_IN_CFG_CABLE_DLY + 2000000000) / 4000000000 = n) ∧ (s.tb.ppsSecond ≠ some n)) ∧
    (okB (st0) = true ∧ (let s : State := st0; let w := 255; (s.netOn = true) ∧ (w < 256) ∧ (s.tb.ptp.present = false))) ∧
    (let s : State := stPps.set F.TSB_PTP_DLY 3; (s.netOn = true) ∧ (s.tb.ptp.present = true) ∧ (s.tb.ptpDelay ≤ s.geti F.TSB_PTP_DLY)) ∧
    (let s : State := stPps; (s.netOn = true) ∧ (s.flag F.TSB_TEN_CFG_EN = true)) ∧
    (okB (stPps) = true ∧ (let s : State := stPps; (s.netOn = true) ∧ (s.tb.sec < 2 ^ 48) ∧ (s.tb.ns < 1000000000) ∧ (s.tb.frac < 2 ^ 40))) ∧
    (let s : State := st0; (s.netOn = true)) :=
  ⟨by decide +kernel,
    ⟨wok_1, by decide +kernel⟩,
    by decide +kernel,
    by decide +kernel,
    ⟨wok_3, by decide +kernel⟩,
    by decide +kernel⟩

theorem wok_4 : okB (mk [(F.TSB_SERVO_CFG_LIMIT, 1)]) = true := by decide +kernel

/-- The hypotheses of `Servo`, part ServoLoop are met. -/
theorem wit_servo_servoLoop :
    (okB (st0) = true ∧ (let s : State := st0; let e : Int := 1000; let pl := s.get F.TSB_SERVO_CFG_PERIOD_LOG2; let lim : Int := s.get F.TSB_SERVO_CFG_LIMIT; let i := s.geti F.TSB_SERVO_INT + roundDiv (s.get F.TSB_SERVO_KI * e * 256) (2 ^ (26 + pl)); let y := s.get F.TSB_SERVO_KP * e + i * 2 ^ (18 + pl); (-lim * 256 ≤ i) ∧ (i ≤ lim * 256) ∧ (-lim * 2 ^ (26 + pl) ≤ y) ∧ (y ≤ lim * 2 ^ (26 + pl)))) ∧
    (okB (mk [(F.TSB_SERVO_CFG_LIMIT, 1)]) = true ∧ (let s : State := mk [(F.TSB_SERVO_CFG_LIMIT, 1)]; let e : Int := 1000000000000; let pl := s.get F.TSB_SERVO_CFG_PERIOD_LOG2; let lim : Int := s.get F.TSB_SERVO_CFG_LIMIT; let i := s.geti F.TSB_SERVO_INT + roundDiv (s.get F.TSB_SERVO_KI * e * 256) (2 ^ (26 + pl)); (lim * 256 < i))) ∧
    (okB (mk [(F.TSB_SERVO_CFG_LIMIT, 1)]) = true ∧ (let s : State := mk [(F.TSB_SERVO_CFG_LIMIT, 1)]; let e : Int := -1000000000000; let pl := s.get F.TSB_SERVO_CFG_PERIOD_LOG2; let lim : Int := s.get F.TSB_SERVO_CFG_LIMIT; let i := s.geti F.TSB_SERVO_INT + roundDiv (s.get F.TSB_SERVO_KI * e * 256) (2 ^ (26 + pl)); (i < -lim * 256))) :=
  ⟨⟨wok_1, by decide +kernel⟩,
    ⟨wok_4, by decide +kernel⟩,
    ⟨wok_4, by decide +kernel⟩⟩

theorem wok_5 : okB (stLock) = true := by decide +kernel
theorem wok_6 : okB (stPtp) = true := by decide +kernel

/-- The hypotheses of `Servo`, part ServoStates are met. -/
theorem wit_servo_servoStates :
    (let s : State := st0; (s.netOn = true) ∧ (s.flag F.TSB_CTL_SERVO_EN = false)) ∧
    (okB (stLock) = true ∧ (let s : State := stLock; (s.netOn = true) ∧ (s.flag F.TSB_CTL_SERVO_EN = true) ∧ (s.flag F.TSB_CTL_HOLD_FORCE = false) ∧ (s.servo = .locked) ∧ (s.tb.tenCount = 0) ∧ (s.tb.pps.present = true) ∧ (s.tb.pps.weight ≠ 0) ∧ (s.get F.TSB_STAT_ACTIVE_SRC = 1) ∧ (s.get F.TSB_SRC_CTL_PRI0 = 1) ∧ (0 < s.get F.TSB_SRC_CTL_TIMEOUT))) ∧
    (okB (stLock) = true ∧ (let s : State := stLock; let a := Agent.touchmark; (a = .bench ∨ a = .touchmark) ∧ (s.netOn = true) ∧ (s.flag F.TSB_CTL_SERVO_EN = true))) ∧
    (okB (stPtp) = true ∧ (let s : State := stPtp; let src := .ptp; (s.netOn = true) ∧ (s.flag F.TSB_CTL_SERVO_EN = true) ∧ (s.servo = .locked) ∧ (s.get F.TSB_SRC_CTL_PRI0 = srcCode src) ∧ (s.get F.TSB_SRC_CTL_PRI1 = 0) ∧ (s.get F.TSB_SRC_CTL_PRI2 = 0) ∧ ((s.tb.source (srcCode src)).present = false))) :=
  ⟨by decide +kernel,
    ⟨wok_5, by decide +kernel⟩,
    ⟨wok_5, by decide +kernel⟩,
    ⟨wok_6, by decide +kernel⟩⟩

theorem wok_7 : okB (stMap true) = true := by decide +kernel

/-- The hypotheses of `Servo`, part PortMapExchanges are met. -/
theorem wit_servo_portMapExchanges :
    (let s : State := stMap false; let n := 3; (s.ingOn = true) ∧ (n < 16) ∧ (s.link n = 4) ∧ (s.flag (F.TSB_PT_CFG_EN n) = true) ∧ ((s.pmap n).outstanding = none)) ∧
    (let s : State := stMap true; let n := 3; let q := 4; let t1 := 100; let t2 := 51200; let t3 := 51300; (takesPackets s n = true) ∧ ((s.pmap n).outstanding = some (q, t1)) ∧ (t2 < 2 ^ 56) ∧ (t3 < 2 ^ 56)) ∧
    (okB (stMap true) = true ∧ (let s : State := stMap true; let n := 3; (n < 16) ∧ ((s.pmap n).started = false) ∧ ((s.pmap n).delays = []))) ∧
    (okB (stMap true) = true ∧ (let s : State := stMap true; let n := 3; (s.ingOn = true) ∧ (n < 16) ∧ ((s.pmap n).outstanding.isSome = true))) :=
  ⟨by decide +kernel,
    by decide +kernel,
    ⟨wok_7, by decide +kernel⟩,
    ⟨wok_7, by decide +kernel⟩⟩

theorem wok_8 : okB (swMacs true) = true := by decide +kernel
theorem wok_9 : okB (swS) = true := by decide +kernel
theorem wok_10 : okB (swFull) = true := by decide +kernel

/-- The hypotheses of `SwitchTablesAndPorts`, part MacTable are met. -/
theorem wit_switchTablesAndPorts_macTable :
    (okB (swMacs true) = true ∧ (let s : State := swMacs true; let a := Agent.touchmark; let e := swMac true; (a = .bench ∨ a = .touchmark) ∧ (s.netOn = true) ∧ (macFind s (macKey s).1 (macKey s).2 = some e))) ∧
    (okB (swS) = true ∧ (let s : State := swS; let a := Agent.bench; (a = .bench ∨ a = .touchmark) ∧ (s.netOn = true) ∧ ((bucketOf s (macKey s).1 (macKey s).2).length < 4))) ∧
    (okB (swFull) = true ∧ (let s : State := swFull; let a := Agent.bench; (a = .bench ∨ a = .touchmark) ∧ (s.netOn = true) ∧ (macFind s (macKey s).1 (macKey s).2 = none) ∧ (4 ≤ (bucketOf s (macKey s).1 (macKey s).2).length) ∧ ((∀ e ∈ bucketOf s (macKey s).1 (macKey s).2, e.static = true)))) ∧
    (let s : State := swMacs false; let a := Agent.touchmark; (a = .bench ∨ a = .touchmark) ∧ (s.netOn = true)) ∧
    (let s : State := swMacs false; let v := 9; let m := 77; let e := ⟨9, 77, 2 ^ 3, false, false, 5⟩; (s.netOn = true) ∧ (macFind s v m = some e) ∧ (e.static = false)) ∧
    (let s : State := swMacs true; let v := (macKey swS).1; let m := (macKey swS).2; let e := swMac true; (macFind s v m = some e) ∧ (e.static = true)) ∧
    (let s : State := swS; let a := Agent.bench; (a = .bench ∨ a = .touchmark) ∧ (s.netOn = true)) ∧
    (let s : State := swS; let v := 9; let m := 77; (s.get F.NET_MAC_AGE ≠ 0) ∧ (macFind s v m = none) ∧ ((bucketOf s v m).length < 4) ∧ (let v' := 9; let m' := 78; ((v', m') ≠ (v, m)))) :=
  ⟨⟨wok_8, by decide +kernel⟩,
    ⟨wok_9, by decide +kernel⟩,
    ⟨wok_10, by decide +kernel⟩,
    by decide +kernel,
    by decide +kernel,
    by decide +kernel,
    by decide +kernel,
    by decide +kernel⟩


/-- The hypotheses of `SwitchTablesAndPorts`, part VlanTable are met. -/
theorem wit_switchTablesAndPorts_vlanTable :
    (okB (swS) = true ∧ (let s : State := swS; let a := Agent.bench; let v := 4095; (a = .bench ∨ a = .touchmark) ∧ (s.netOn = true) ∧ (v < 4096))) :=
  ⟨wok_9, by decide +kernel⟩

theorem wok_11 : okB (swUp []) = true := by decide +kernel
theorem wok_12 : okB (swQueue) = true := by decide +kernel

/-- The hypotheses of `SwitchTablesAndPorts`, part SwitchPorts are met. -/
theorem wit_switchTablesAndPorts_switchPorts :
    (let s : State := swUp []; let a := Agent.bench; let g := 0; let h := true; (a = .bench ∨ a = .touchmark) ∧ (s.netOn = true) ∧ (g < 2) ∧ (s.flag (if g = 0 then F.NET_GRP_CFG_G0_MODE else F.NET_GRP_CFG_G1_MODE) ≠ h) ∧ ((∃ i, i < 4 ∧ s.flag (F.NET_P_CFG_EN (4 * g + i)) = true))) ∧
    (okB (swUp []) = true ∧ (let s : State := swUp []; let a := Agent.bench; let g := 1; let h := true; (a = .bench ∨ a = .touchmark) ∧ (s.netOn = true) ∧ (g < 2) ∧ (s.flag (if g = 0 then F.NET_GRP_CFG_G0_MODE else F.NET_GRP_CFG_G1_MODE) ≠ h) ∧ ((∀ i, i < 4 → s.flag (F.NET_P_CFG_EN (4 * g + i)) = false)))) ∧
    (let s : State := swQueue; let a := Agent.touchmark; let p := 1; (a = .bench ∨ a = .touchmark) ∧ (s.netOn = true) ∧ (present s p = true)) ∧
    (okB (swQueue) = true ∧ (let s : State := swQueue; let a := Agent.touchmark; let p := 1; (a = .bench ∨ a = .touchmark) ∧ (s.netOn = true) ∧ (p < 8) ∧ (present s p = true))) ∧
    (okB (swS) = true ∧ (let s : State := swS; let p := 7; (s.netOn = true) ∧ (p < 8) ∧ (present s p = true))) ∧
    (let s : State := swQueue; let p := 1; (s.netOn = true) ∧ (p < 8) ∧ (s.flag (F.NET_P_STAT_LINK p) = true) ∧ (s.flag (F.NET_P_STAT_CAL_DONE p) = false)) :=
  ⟨by decide +kernel,
    ⟨wok_11, by decide +kernel⟩,
    by decide +kernel,
    ⟨wok_12, by decide +kernel⟩,
    ⟨wok_9, by decide +kernel⟩,
    by decide +kernel⟩

theorem wok_13 : okB (swVlan) = true := by decide +kernel

/-- The hypotheses of `FrameReception` are met. -/
theorem wit_frameReception :
    (okB (swVlan) = true ∧ (let s : State := swVlan; let p := 1; let fr := swFrame; let fine := 3; let e := 2; (s.netOn = true) ∧ (p < 8) ∧ (portUp s p = true) ∧ (s.running = false) ∧ (60 ≤ fr.length) ∧ (fr.length ≤ 9212) ∧ ((s.vlan (vidPcp s p fr).1).valid = true) ∧ (bitOf (s.vlan (vidPcp s p fr).1).member p = true) ∧ (ptpOf fr = none) ∧ (ptpSkipped fr = false) ∧ (destinations s p (vidPcp s p fr).1 (beAt fr 0 6) fr = [e]) ∧ (e < 8) ∧ (portUp s e = true) ∧ (s.flag (F.NET_P_CFG_LEARN p) = false) ∧ (bitOf (s.get F.NET_FH_CFG) (vidPcp s p fr).2 = false) ∧ ((macFind s (vidPcp s p fr).1 (beAt fr 0 6) = none)) ∧ (let q : QFrame := ⟨e, queueOf s p (vidPcp s p fr).2 false, p, egressForm s e (vidPcp s p fr).1 (vidPcp s p fr).2 fr, ingressStamp s p (s.resid + fine * 8192 : Nat), s.get F.NET_TC_CFG_MODE, false, false, false⟩; (occupancy s e + cells q ≤ s.get (F.NET_P_BUF_MAX_CELLS e) - s.get (F.NET_P_BUF_RSV7 e)) ∧ ((s.sw.queue.map cells).sum + cells q ≤ 24576)))) ∧
    (let s : State := swVlan; let p := 1; let fr := swFrame.take 59; (s.netOn = true) ∧ (p < 8) ∧ (portUp s p = true) ∧ (fr.length < 60 ∨ 9212 < fr.length)) ∧
    (okB (swUp []) = true ∧ (let s : State := swUp []; let p := 1; let fr := swFrame; (s.netOn = true) ∧ (p < 8) ∧ (portUp s p = true) ∧ (s.running = false) ∧ (60 ≤ fr.length) ∧ (fr.length ≤ 9212) ∧ (bitOf (s.vlan (vidPcp s p fr).1).member p = false))) :=
  ⟨⟨wok_13, by decide +kernel⟩,
    by decide +kernel,
    ⟨wok_11, by decide +kernel⟩⟩


/-- The hypotheses of `TransparentClock` are met. -/
theorem wit_transparentClock :
    (let s : State := swUp [(F.NET_TC_CFG_MODE, 1), (F.NET_P_ASYM 1, 0xfff0)]; let q : QFrame := ⟨2, 3, 1, swPtp 0, -50, 1, false, false, false⟩; let meas : Nat := 77; let m : Ptp := ⟨14, 0⟩; (ptpOf q.data = some m) ∧ (m.transport = 0) ∧ (ptpType q.data m = 0) ∧ (q.tc = 1) ∧ (q.inPort < 8) ∧ (q.port < 8) ∧ (q.origin = false) ∧ (q.fromBench = false) ∧ (m.off + 34 ≤ q.data.length) ∧ (let a : Int := egressStamp s q.port meas - q.tIn + s.geti (F.NET_P_ASYM q.inPort) * 256; (sx 64 (beAt q.data (m.off + 8) 8) + a < 2 ^ 63) ∧ (-(2 ^ 63) ≤ sx 64 (beAt q.data (m.off + 8) 8) + a))) :=
  by decide +kernel


/-- The hypotheses of `FrameTransmission` are met. -/
theorem wit_frameTransmission :
    (let s : State := swQueue; let p := 1; let f := swQ 1; let d := ((schedule swQueue 1).getD (0,[],0)).2.1; let ptr := ((schedule swQueue 1).getD (0,[],0)).2.2; (s.netOn = true) ∧ (p < 8) ∧ (portUp s p = true) ∧ (f ∈ s.sw.queue) ∧ (f.port = p) ∧ (ptpOf f.data = none) ∧ (f.poison = false) ∧ (schedule s p = some (f.queue, d, ptr)) ∧ (s.sw.queue.find? (fun g => g.port == p && g.queue == f.queue) = some f)) ∧
    (let s : State := swQueue; let p := 1; let fr := swPtp 2; let tIn := 100; let m := ⟨14, 0⟩; (s.netOn = true) ∧ (p < 8) ∧ (portUp s p = true) ∧ (s.sw.pdelay.find? (·.1 = p) = some (p, fr, tIn)) ∧ (ptpOf fr = some m)) ∧
    (let s : State := st0; (s.netOn = true)) ∧
    (let s : State := swQueue; let f := swFrame; let l := []; (s.netOn = true) ∧ (s.sw.results = f :: l)) ∧
    (let q := swStamp; let m := ⟨14, 0⟩; (q.fromBench = true) ∧ (ptpOf q.data = some m) ∧ (ptpEvent q.data m = true)) :=
  ⟨by decide +kernel,
    by decide +kernel,
    by decide +kernel,
    by decide +kernel,
    by decide +kernel⟩

theorem wok_14 : okB (pbAct 1 512) = true := by decide +kernel
theorem wok_15 : okB (pbAct 1 0) = true := by decide +kernel
theorem wok_16 : okB (pbAct 0 512) = true := by decide +kernel
theorem wok_17 : okB (pbTrain) = true := by decide +kernel
theorem wok_18 : okB (pbClass) = true := by decide +kernel
theorem wok_19 : okB (pbIdent) = true := by decide +kernel

/-- The hypotheses of `JexlinkPackets` are met. -/
theorem wit_jexlinkPackets :
    (okB (pbAct 1 512) = true ∧ (let s : State := pbAct 1 512; let n := 3; let w : Word := BitVec.ofNat 32 (1279 * 2 ^ 21 + 719 * 2 ^ 11); (takesPackets s n = true) ∧ (s.link n = 4) ∧ (s.flag (F.JXL_P_STAT_SYNCED n) = true) ∧ ((s.get (F.TSB_PT_STAT_STATE n) = 2 ∨ s.get (F.TSB_PT_STAT_STATE n) = 3)) ∧ (w.toNat / 2 ^ 21 ≤ s.get (F.JXL_P_GEOM_WIDTH1 n)) ∧ (w.toNat / 2 ^ 11 % 1024 ≤ s.get (F.JXL_P_GEOM_HEIGHT1 n)) ∧ (1 ≤ ((s.jp n).limit + 65536 - (s.jp n).spent) % 65536) ∧ ((s.jp n).buf.length < 32768))) ∧
    (okB (pbAct 1 0) = true ∧ (let s : State := pbAct 1 0; let n := 3; let ws := [1]; (takesPackets s n = true) ∧ (s.link n = 4) ∧ (ws.length ≤ 512) ∧ (((s.jp n).limit + 65536 - (s.jp n).spent) % 65536 < ceilDiv ws.length 64))) ∧
    (okB (pbAct 0 512) = true ∧ (let s : State := pbAct 0 512; let n := 3; (takesPackets s n = true) ∧ (s.link n = 4) ∧ (s.flag (F.JXL_P_STAT_SYNCED n) = false) ∧ (1 ≤ ((s.jp n).limit + 65536 - (s.jp n).spent) % 65536) ∧ ((s.jp n).buf.length ≤ 32768))) ∧
    (okB (pbAct 1 512) = true ∧ (let s : State := pbAct 1 512; let n := 3; let a := 68999999; (takesPackets s n = true) ∧ (s.link n = 4) ∧ (s.flag (F.JXL_P_STAT_SYNCED n) = true) ∧ (a + 1000000 < (s.jp n).p) ∧ (1 ≤ ((s.jp n).limit + 65536 - (s.jp n).spent) % 65536) ∧ ((s.jp n).buf.length ≤ 32768))) ∧
    (okB (pbTrain) = true ∧ (let s : State := pbTrain; let n := 3; let vendor := 5; let model := 6; let w := 2047; let h := 1023; (takesPackets s n = true) ∧ (s.link n = 1) ∧ ((s.jp n).hellos = 2) ∧ (w < 2048) ∧ (h < 1024) ∧ (vendor < 2 ^ 16) ∧ (model < 2 ^ 16))) ∧
    (okB (pbTrain) = true ∧ (let s : State := pbTrain; let n := 3; let version := 2; (takesPackets s n = true) ∧ (s.link n = 1) ∧ ((s.jp n).hellos = 2) ∧ (version ≠ 1) ∧ (s.chState n ≠ 4))) ∧
    (okB (pbAct 1 512) = true ∧ (let s : State := pbAct 1 512; let n := 3; (takesPackets s n = true))) ∧
    (okB (pbClass) = true ∧ (let s : State := pbClass; let n := 3; let c := 3; (takesPackets s n = true) ∧ (s.link n = 3) ∧ ((s.jp n).granted = false) ∧ (1 ≤ c) ∧ (c ≤ 3) ∧ (c ≤ s.get (F.JXL_P_CFG_MAX_CLASS n)) ∧ (s.get F.PPC_GLB_STAT + classWatts c ≤ s.get F.PPC_GLB_CFG_BUDGET_W) ∧ (s.chState n = 3))) ∧
    (okB (pbClass) = true ∧ (let s : State := pbClass; let n := 3; let c := 4; (takesPackets s n = true) ∧ (s.link n = 3) ∧ ((s.jp n).granted = false) ∧ (s.chState n = 3) ∧ ((c = 0 ∨ 3 < c ∨ s.get (F.JXL_P_CFG_MAX_CLASS n) < c ∨ s.get F.PPC_GLB_CFG_BUDGET_W < s.get F.PPC_GLB_STAT + classWatts c)))) ∧
    (okB (pbIdent) = true ∧ (let s : State := pbIdent; let n := 3; (takesPackets s n = true) ∧ (s.link n = 2))) ∧
    (okB (pbIdent) = true ∧ (let s : State := pbIdent; let n := 3; let tag := 2; (takesPackets s n = true) ∧ (tag < 4) ∧ (s.flag (F.JXL_P_REQ_BUSY n tag) = true))) :=
  ⟨⟨wok_14, by decide +kernel⟩,
    ⟨wok_15, by decide +kernel⟩,
    ⟨wok_16, by decide +kernel⟩,
    ⟨wok_14, by decide +kernel⟩,
    ⟨wok_17, by decide +kernel⟩,
    ⟨wok_17, by decide +kernel⟩,
    ⟨wok_14, by decide +kernel⟩,
    ⟨wok_18, by decide +kernel⟩,
    ⟨wok_18, by decide +kernel⟩,
    ⟨wok_19, by decide +kernel⟩,
    ⟨wok_19, by decide +kernel⟩⟩

theorem wok_20 : okB (pbLoss 4 3) = true := by decide +kernel
theorem wok_21 : okB (pbLoss 4 4) = true := by decide +kernel

/-- The hypotheses of `JexlinkLinks`, part JexlinkLosses are met. -/
theorem wit_jexlinkLinks_jexlinkLosses :
    (okB (pbLoss 4 3) = true ∧ (let s : State := pbLoss 4 3; let n := 3; let r := (.jxlLos 3, [1, 2, 3, 4], 2); (s.ingOn = true) ∧ (n < 16) ∧ ((s.jp n).granted = false) ∧ (r ∈ lossRows n) ∧ (s.link n ∈ r.2.1) ∧ (s.chState n ≠ 4))) ∧
    (okB (pbLoss 4 4) = true ∧ (let s : State := pbLoss 4 4; let n := 3; let r := (.jxlLos 3, [1, 2, 3, 4], 2); (s.ingOn = true) ∧ (n < 16) ∧ ((s.jp n).granted = false) ∧ (r ∈ lossRows n) ∧ (s.link n ∈ r.2.1) ∧ (s.chState n = 4))) ∧
    (let s : State := pbLoss 5 3; let n := 3; let r := (.jxlLos 3, [1, 2, 3, 4], 2); (s.link n ∉ r.2.1) ∧ (r ∈ lossRows n)) :=
  ⟨⟨wok_20, by decide +kernel⟩,
    ⟨wok_21, by decide +kernel⟩,
    by decide +kernel⟩

theorem wok_22 : okB (pbLost 5 1) = true := by decide +kernel
theorem wok_23 : okB (pbLost 4 1) = true := by decide +kernel
theorem wok_24 : okB (pbLost 4 3) = true := by decide +kernel

/-- The hypotheses of `JexlinkLinks`, part JexlinkUpkeep are met. -/
theorem wit_jexlinkLinks_jexlinkUpkeep :
    (okB (pbAct 1 512) = true ∧ (let s : State := pbAct 1 512; let n := 3; (takesPackets s n = true))) ∧
    (let s : State := pbIdent; let n := 3; (s.ingOn = true) ∧ (s.link n = 2)) ∧
    (let s : State := pbAct 1 512; let n := 3; (s.ingOn = true) ∧ (1 ≤ s.link n) ∧ (s.link n ≤ 4)) ∧
    (let s : State := pbAct 1 512; let n := 3; (s.ingOn = true) ∧ (s.link n = 4)) ∧
    (let s : State := pbLost 5 2; let n := 3; (s.ingOn = true) ∧ (s.link n = 5) ∧ (1 < (s.jp n).resets)) ∧
    (okB (pbLost 5 1) = true ∧ (let s : State := pbLost 5 1; let n := 3; (n < 16) ∧ (s.ingOn = true) ∧ (s.link n = 5) ∧ ((s.jp n).resets = 1) ∧ ((s.get (F.JXL_P_STAT_CAUSE n) = 5 ∨ s.get (F.JXL_P_STAT_CAUSE n) = 6)))) ∧
    (okB (pbLost 4 1) = true ∧ (let s : State := pbLost 4 1; let n := 3; (n < 16) ∧ (s.ingOn = true) ∧ (s.link n = 5) ∧ (1 ≤ s.get (F.JXL_P_STAT_CAUSE n)) ∧ (s.get (F.JXL_P_STAT_CAUSE n) ≤ 4) ∧ ((s.jp n).retries < s.get (F.JXL_P_CFG_RETRY_MAX n)))) ∧
    (okB (pbLost 4 3) = true ∧ (let s : State := pbLost 4 3; let n := 3; (n < 16) ∧ (s.ingOn = true) ∧ (s.link n = 5) ∧ (1 ≤ s.get (F.JXL_P_STAT_CAUSE n)) ∧ (s.get (F.JXL_P_STAT_CAUSE n) ≤ 4) ∧ (s.get (F.JXL_P_CFG_RETRY_MAX n) ≤ (s.jp n).retries))) :=
  ⟨⟨wok_14, by decide +kernel⟩,
    by decide +kernel,
    by decide +kernel,
    by decide +kernel,
    by decide +kernel,
    ⟨wok_22, by decide +kernel⟩,
    ⟨wok_23, by decide +kernel⟩,
    ⟨wok_24, by decide +kernel⟩⟩

theorem wok_25 : okB (mk [(F.PPC_CH_CTL_EN 3, 1)]) = true := by decide +kernel
theorem wok_26 : okB (mk [(F.PPC_CH_CTL_EN 3, 1), (F.PPC_CH_STAT_STATE 3, 3)]) = true := by decide +kernel

/-- The hypotheses of `JexlinkLinks`, part JexlinkControl are met. -/
theorem wit_jexlinkLinks_jexlinkControl :
    (okB (mk [(F.PPC_CH_CTL_EN 3, 1)]) = true ∧ (let s : State := mk [(F.PPC_CH_CTL_EN 3, 1)]; let n := 3; (s.ingOn = true) ∧ (n < 16) ∧ (s.flag (F.JXL_P_CFG_MODE n) = false) ∧ (s.flag (F.PPC_CH_CTL_EN n) = true) ∧ (s.chState n = 0))) ∧
    (okB (mk [(F.PPC_CH_CTL_EN 3, 1), (F.PPC_CH_STAT_STATE 3, 3)]) = true ∧ (let s : State := mk [(F.PPC_CH_CTL_EN 3, 1), (F.PPC_CH_STAT_STATE 3, 3)]; let n := 3; (s.ingOn = true) ∧ (n < 16) ∧ (s.flag (F.JXL_P_CFG_MODE n) = false) ∧ (3 ≤ s.chState n) ∧ (s.chState n ≤ 5) ∧ (s.link n = 0))) ∧
    (okB (pbLoss 4 3) = true ∧ (let s : State := pbLoss 4 3; let n := 3; (s.ingOn = true) ∧ (n < 16) ∧ (s.flag (F.JXL_P_CFG_EN n) = true) ∧ (s.flag (F.JXL_P_CFG_MODE n) = false) ∧ (s.link n ≠ 0) ∧ (s.chState n ≠ 0))) ∧
    (let s : State := pbLoss 4 3; let n := 3; let k := 2; (s.ingOn = true) ∧ (n < 16) ∧ (k < 4) ∧ (s.flag (F.JXL_P_REQ_BUSY n k) = true)) ∧
    (okB (pbLost 5 1) = true ∧ (let s : State := pbLost 5 1; let n := 3; let k := 2; (s.ingOn = true) ∧ (n < 16) ∧ (k < 4) ∧ (s.flag (F.JXL_P_REQ_BUSY n k) = false) ∧ ((s.link n = 0 ∨ s.link n = 5)))) ∧
    (okB (pbClass) = true ∧ (let s : State := pbClass; let n := 3; let k := 2; (s.ingOn = true) ∧ (n < 16) ∧ (k < 4) ∧ (s.flag (F.JXL_P_REQ_BUSY n k) = false) ∧ (1 ≤ s.link n) ∧ (s.link n ≤ 4))) ∧
    (let s : State := pbLoss 4 3; let n := 3; let k := 2; (s.ingOn = true) ∧ (s.flag (F.JXL_P_REQ_BUSY n k) = true)) :=
  ⟨⟨wok_25, by decide +kernel⟩,
    ⟨wok_26, by decide +kernel⟩,
    ⟨wok_20, by decide +kernel⟩,
    by decide +kernel,
    ⟨wok_22, by decide +kernel⟩,
    ⟨wok_18, by decide +kernel⟩,
    by decide +kernel⟩

theorem wok_27 : okB (pbCsi []) = true := by decide +kernel
theorem wok_28 : okB (pbOp 1) = true := by decide +kernel

/-- The hypotheses of `CsiPackets` are met. -/
theorem wit_csiPackets :
    (okB (pbCsi []) = true ∧ (let s : State := pbCsi []; let n := 3; (csiOn s n = true) ∧ ((s.cp n).running = false) ∧ ((s.cp n).fifo = []))) ∧
    (okB (pbCsi []) = true ∧ (let s : State := pbCsi []; let n := 3; let c := Instr.csiLineEnd 3 (s.get (F.JXL_P_CSI_CFG_VC 3)); (c ∈ [Instr.csiFrameEnd n (s.get (F.JXL_P_CSI_CFG_VC n)), .csiLineStart n (s.get (F.JXL_P_CSI_CFG_VC n)), .csiLineEnd n (s.get (F.JXL_P_CSI_CFG_VC n))]) ∧ (csiOn s n = true) ∧ ((s.cp n).running = false) ∧ ((s.cp n).fifo = []))) ∧
    (okB (pbOp 1) = true ∧ (let s : State := pbOp 1; let n := 3; let c := Instr.csiLineEnd 3 (s.get (F.JXL_P_CSI_CFG_VC 3)); (c ∈ [Instr.csiFrameEnd n (s.get (F.JXL_P_CSI_CFG_VC n)), .csiLineStart n (s.get (F.JXL_P_CSI_CFG_VC n)), .csiLineEnd n (s.get (F.JXL_P_CSI_CFG_VC n))]) ∧ (csiOn s n = true) ∧ ((s.cp n).running = true))) ∧
    (let s : State := pbOp 1; let n := 3; (csiOn s n = true) ∧ ((s.cp n).running = true)) ∧
    (let s : State := pbCsi []; let n := 3; let vc := 1; (csiOn s n = true) ∧ (vc ≠ s.get (F.JXL_P_CSI_CFG_VC n)) ∧ (let c := Instr.csiFrameStart 3 1; (c ∈ [Instr.csiFrameStart n vc, .csiFrameEnd n vc, .csiLineStart n vc, .csiLineEnd n vc]))) ∧
    (let s : State := pbCsi []; let n := 3; (csiOn s n = true)) ∧
    (let s : State := pbCsi []; let n := 3; let k := 7; let pay := List.replicate 16385 0; (csiOn s n = true) ∧ (k < 8) ∧ (bitOf (s.get (F.JXL_P_CSI_CFG_DT_EN n)) k = true) ∧ (s.flag (F.JXL_P_CSI_STAT n) = false) ∧ (16384 < pay.length)) ∧
    (let s : State := pbCsi []; let n := 3; let k := 7; let pay := [1, 2, 3]; (csiOn s n = true) ∧ (k < 8) ∧ (bitOf (s.get (F.JXL_P_CSI_CFG_DT_EN n)) k = true) ∧ (s.flag (F.JXL_P_CSI_STAT n) = false) ∧ (pay.length ≤ 16384)) ∧
    (let s : State := pbCsi []; let n := 3; let k := 7; let pay := [1, 2, 3]; (csiOn s n = true) ∧ (k < 8) ∧ (bitOf (s.get (F.JXL_P_CSI_CFG_DT_EN n)) k = true) ∧ (s.flag (F.JXL_P_CSI_STAT n) = false) ∧ (csiBytes (s.cp n).fifo + pay.length ≤ 16384)) :=
  ⟨⟨wok_27, by decide +kernel⟩,
    ⟨wok_27, by decide +kernel⟩,
    ⟨wok_28, by decide +kernel⟩,
    by decide +kernel,
    by decide +kernel,
    by decide +kernel,
    by decide +kernel,
    by decide +kernel,
    by decide +kernel⟩

theorem wok_29 : okB (pbRun (2 ^ 27 + 20 * 2 ^ 16)) = true := by decide +kernel
theorem wok_30 : okB (pbOp 2) = true := by decide +kernel
theorem wok_31 : okB (pbRun (2 * 2 ^ 27 + 21)) = true := by decide +kernel
theorem wok_32 : okB (pbOp 3) = true := by decide +kernel
theorem wok_33 : okB (pbOp 4) = true := by decide +kernel
theorem wok_34 : okB (pbOp 5) = true := by decide +kernel
theorem wok_35 : okB (pbOp 6) = true := by decide +kernel
theorem wok_36 : okB (pbOp 7) = true := by decide +kernel
theorem wok_37 : okB (pbOp 8) = true := by decide +kernel

/-- The hypotheses of `Parser`, part ParserInstructions are met. -/
theorem wit_parser_parserInstructions :
    (okB (pbOp 1) = true ∧ (let s : State := pbOp 1; let n := 3; let c := s.cp n; let w := parserWord s n; (parserAt s n 1 = true) ∧ (c.ptr + (w / 2 ^ 16 % 32 + 1) ≤ c.payload.length * 8))) ∧
    (okB (pbRun (2 ^ 27 + 20 * 2 ^ 16)) = true ∧ (let s : State := pbRun (2 ^ 27 + 20 * 2 ^ 16); let n := 3; let c := s.cp n; let w := parserWord s n; (parserAt s n 1 = true) ∧ (c.payload.length * 8 < c.ptr + (w / 2 ^ 16 % 32 + 1)))) ∧
    (okB (pbOp 2) = true ∧ (let s : State := pbOp 2; let n := 3; let c := s.cp n; let w := parserWord s n; (parserAt s n 2 = true) ∧ (c.ptr + w % 65536 ≤ c.payload.length * 8))) ∧
    (okB (pbRun (2 * 2 ^ 27 + 21)) = true ∧ (let s : State := pbRun (2 * 2 ^ 27 + 21); let n := 3; let c := s.cp n; let w := parserWord s n; (parserAt s n 2 = true) ∧ (c.payload.length * 8 < c.ptr + w % 65536))) ∧
    (okB (pbOp 3) = true ∧ (let s : State := pbOp 3; let n := 3; (parserAt s n 3 = true))) ∧
    (okB (pbOp 4) = true ∧ (let s : State := pbOp 4; let n := 3; (parserAt s n 4 = true))) ∧
    (okB (pbOp 5) = true ∧ (let s : State := pbOp 5; let n := 3; (parserAt s n 5 = true))) ∧
    (okB (pbOp 6) = true ∧ (let s : State := pbOp 6; let n := 3; (parserAt s n 6 = true))) ∧
    (okB (pbOp 7) = true ∧ (let s : State := pbOp 7; let n := 3; (parserAt s n 7 = true))) ∧
    (okB (pbOp 8) = true ∧ (let s : State := pbOp 8; let n := 3; (parserAt s n 8 = true))) :=
  ⟨⟨wok_28, by decide +kernel⟩,
    ⟨wok_29, by decide +kernel⟩,
    ⟨wok_30, by decide +kernel⟩,
    ⟨wok_31, by decide +kernel⟩,
    ⟨wok_32, by decide +kernel⟩,
    ⟨wok_33, by decide +kernel⟩,
    ⟨wok_34, by decide +kernel⟩,
    ⟨wok_35, by decide +kernel⟩,
    ⟨wok_36, by decide +kernel⟩,
    ⟨wok_37, by decide +kernel⟩⟩

theorem wok_38 : okB (pbOp 0) = true := by decide +kernel
theorem wok_39 : okB (pbOp 9) = true := by decide +kernel
theorem wok_40 : okB ((pbOp 9).setJp 3 { buf := List.replicate 32768 ⟨1, 1, true, 0, 5, false⟩ }) = true := by decide +kernel
theorem wok_41 : okB ((pbOp 9).setCp 3 { (pbOp 9).cp 3 with v := [0, 0, 0, 0, 2048, 0, 0, 0] }) = true := by decide +kernel
theorem wok_42 : okB ((pbOp 9).setCp 3 { (pbOp 9).cp 3 with stalled := true }) = true := by decide +kernel
theorem wok_43 : okB ((pbOp 9).setCp 3 { (pbOp 9).cp 3 with idle := 4096 }) = true := by decide +kernel

/-- The hypotheses of `Parser`, part ParserPrograms are met. -/
theorem wit_parser_parserPrograms :
    (let s : State := pbFifo; let n := 3; let dt := 0x35; let pay := [1, 2]; let l := []; (csiOn s n = true) ∧ ((s.cp n).running = false) ∧ (s.flag (F.JXL_P_CSI_STAT n) = false) ∧ ((s.cp n).fifo = .long dt pay :: l)) ∧
    (okB (pbOp 0) = true ∧ (let s : State := pbOp 0; let n := 3; (parserAt s n 0 = true) ∧ ((s.cp n).fifo = []))) ∧
    (okB (pbOp 9) = true ∧ (let s : State := pbOp 9; let n := 3; (parserAt s n 9 = true) ∧ ((s.cp n).v.getD 4 0 < 2048) ∧ ((s.cp n).v.getD 5 0 < 1024) ∧ ((s.cp n).v.getD 7 0 < 2 ^ 24) ∧ ((s.jp n).buf.length < 32768))) ∧
    (okB ((pbOp 9).setJp 3 { buf := List.replicate 32768 ⟨1, 1, true, 0, 5, false⟩ }) = true ∧ (let s : State := (pbOp 9).setJp 3 { buf := List.replicate 32768 ⟨1, 1, true, 0, 5, false⟩ }; let n := 3; (parserAt s n 9 = true) ∧ ((s.cp n).v.getD 4 0 < 2048) ∧ ((s.cp n).v.getD 5 0 < 1024) ∧ ((s.cp n).v.getD 7 0 < 2 ^ 24) ∧ (32768 ≤ (s.jp n).buf.length))) ∧
    (okB ((pbOp 9).setCp 3 { (pbOp 9).cp 3 with v := [0, 0, 0, 0, 2048, 0, 0, 0] }) = true ∧ (let s : State := (pbOp 9).setCp 3 { (pbOp 9).cp 3 with v := [0, 0, 0, 0, 2048, 0, 0, 0] }; let n := 3; (parserAt s n 9 = true) ∧ ((2048 ≤ (s.cp n).v.getD 4 0 ∨ 1024 ≤ (s.cp n).v.getD 5 0 ∨ 2 ^ 24 ≤ (s.cp n).v.getD 7 0)))) ∧
    (okB ((pbOp 9).setCp 3 { (pbOp 9).cp 3 with stalled := true }) = true ∧ (let s : State := (pbOp 9).setCp 3 { (pbOp 9).cp 3 with stalled := true }; let n := 3; (csiOn s n = true) ∧ ((s.cp n).running = true) ∧ ((s.cp n).stalled = true) ∧ ((s.jp n).buf.length < 32768))) ∧
    (let s : State := pbOp 10; let n := 3; (parserAt s n 10 = true)) ∧
    (okB ((pbOp 9).setCp 3 { (pbOp 9).cp 3 with idle := 4096 }) = true ∧ (let s : State := (pbOp 9).setCp 3 { (pbOp 9).cp 3 with idle := 4096 }; let n := 3; (csiOn s n = true) ∧ ((s.cp n).running = true) ∧ (4096 ≤ (s.cp n).idle))) :=
  ⟨by decide +kernel,
    ⟨wok_38, by decide +kernel⟩,
    ⟨wok_39, by decide +kernel⟩,
    ⟨wok_40, by decide +kernel⟩,
    ⟨wok_41, by decide +kernel⟩,
    ⟨wok_42, by decide +kernel⟩,
    by decide +kernel,
    ⟨wok_43, by decide +kernel⟩⟩

theorem wok_44 : okB (pp 0 []) = true := by decide +kernel
theorem wok_45 : okB (mk []) = true := by decide +kernel
theorem wok_46 : okB (pp 4 []) = true := by decide +kernel
theorem wok_47 : okB (pp 8 []) = true := by decide +kernel
theorem wok_48 : okB (pp 1 []) = true := by decide +kernel
theorem wok_49 : okB ((pp 1 []).setCh 3 { points := [(4000, 160000)] }) = true := by decide +kernel
theorem wok_50 : okB (pp 1 [(F.PPC_CH_STAT_SIG 3, 2)]) = true := by decide +kernel
theorem wok_51 : okB (pp 2 []) = true := by decide +kernel

/-- The hypotheses of `PortPower`, part PowerDetection are met. -/
theorem wit_portPower_powerDetection :
    (let s : State := mk [(F.JXL_P_CFG_MODE 3, 1)]; let n := 3; (s.ingOn = true) ∧ (n < 16) ∧ (s.flag (F.JXL_P_CFG_MODE n) = true)) ∧
    (okB (pp 0 []) = true ∧ (let s : State := pp 0 []; let n := 3; (s.ingOn = true) ∧ (n < 16) ∧ (s.flag (F.JXL_P_CFG_MODE n) = false) ∧ (s.flag (F.JXL_P_CFG_EN n) = true) ∧ (s.chState n = 0))) ∧
    (okB (mk []) = true ∧ (let s : State := mk []; (s.ingOn = true) ∧ (s.chState 16 = 0))) ∧
    (okB (pp 4 []) = true ∧ (let s : State := pp 4 []; let n := 3; (s.ingOn = true) ∧ (n < 17) ∧ (s.chState n ≠ 0))) ∧
    (okB (pp 8 []) = true ∧ (let s : State := pp 8 []; let n := 3; (s.ingOn = true) ∧ (n < 16) ∧ (s.chState n = 8 ∨ s.chState n = 9) ∧ (mayPower s n = true))) ∧
    (okB (pp 1 []) = true ∧ (let s : State := pp 1 []; let n := 3; let mv := 3599; let na := 5; (s.ingOn = true) ∧ (n < 16) ∧ (s.chState n = 1) ∧ (s.get (F.PPC_CH_STAT_SIG n) = 0) ∧ (mv < 2 ^ 16) ∧ (let target := if (s.ch n).points = [] then 4000 else 8000; (mv * 10 < target * 9 ∨ target * 11 < mv * 10 ∨ 5000000 ≤ na)))) ∧
    (okB (pp 1 []) = true ∧ (let s : State := pp 1 []; let n := 3; let mv := 4400; let na := 4999999; (s.ingOn = true) ∧ (n < 16) ∧ (s.chState n = 1) ∧ (s.get (F.PPC_CH_STAT_SIG n) = 0) ∧ (mv < 2 ^ 16) ∧ (let target := if (s.ch n).points = [] then 4000 else 8000; (target * 9 ≤ mv * 10) ∧ (mv * 10 ≤ target * 11) ∧ (na < 5000000) ∧ ((s.ch n).points = [])))) ∧
    (okB ((pp 1 []).setCh 3 { points := [(4000, 160000)] }) = true ∧ (let s : State := (pp 1 []).setCh 3 { points := [(4000, 160000)] }; let n := 3; let mv := 8000; let na := 320000; (s.ingOn = true) ∧ (n < 16) ∧ (s.chState n = 1) ∧ (s.get (F.PPC_CH_STAT_SIG n) = 0) ∧ (mv < 2 ^ 16) ∧ (let target := if (s.ch n).points = [] then 4000 else 8000; let v1 := 4000; let i1 := 160000; ((s.ch n).points = [(v1, i1)]) ∧ (target * 9 ≤ mv * 10) ∧ (mv * 10 ≤ target * 11) ∧ (na < 5000000) ∧ (v1 ≤ mv) ∧ (i1 < na) ∧ (19000 * (na - i1) ≤ (mv - v1) * 1000000) ∧ ((mv - v1) * 1000000 ≤ 26500 * (na - i1))))) ∧
    (okB (pp 1 [(F.PPC_CH_STAT_SIG 3, 2)]) = true ∧ (let s : State := pp 1 [(F.PPC_CH_STAT_SIG 3, 2)]; let n := 3; (s.ingOn = true) ∧ (n < 16) ∧ (s.chState n = 1) ∧ (s.get (F.PPC_CH_STAT_SIG n) ≠ 0) ∧ (mayPower s n = true))) ∧
    (okB (pp 2 []) = true ∧ (let s : State := pp 2 []; let n := 3; let mv := 21600; (s.ingOn = true) ∧ (n < 16) ∧ (s.chState n = 2) ∧ (21600 ≤ mv) ∧ (s.link n = 0) ∧ (s.flag (F.JXL_P_CFG_EN n) = true) ∧ (s.flag (F.JXL_P_CFG_MODE n) = false))) :=
  ⟨by decide +kernel,
    ⟨wok_44, by decide +kernel⟩,
    ⟨wok_45, by decide +kernel⟩,
    ⟨wok_46, by decide +kernel⟩,
    ⟨wok_47, by decide +kernel⟩,
    ⟨wok_48, by decide +kernel⟩,
    ⟨wok_48, by decide +kernel⟩,
    ⟨wok_49, by decide +kernel⟩,
    ⟨wok_50, by decide +kernel⟩,
    ⟨wok_51, by decide +kernel⟩⟩

theorem wok_52 : okB (ppWait) = true := by decide +kernel
theorem wok_53 : okB (pp 5 []) = true := by decide +kernel
theorem wok_54 : okB ((pp 5 []).setCh 3 { holdEn := true }) = true := by decide +kernel
theorem wok_55 : okB (pp 6 []) = true := by decide +kernel
theorem wok_56 : okB (pp 7 []) = true := by decide +kernel

/-- The hypotheses of `PortPower`, part PowerSteps are met. -/
theorem wit_portPower_powerSteps :
    (okB (ppWait) = true ∧ (let s : State := ppWait; let n := 3; (s.ingOn = true) ∧ (stepping s < s.get F.PPC_GLB_CFG_STEP_MAX) ∧ (stepNext s = some n))) ∧
    (let s : State := mk []; (s.ingOn = true) ∧ (stepNext s = none ∨ s.get F.PPC_GLB_CFG_STEP_MAX ≤ stepping s)) ∧
    (let s : State := ppWait; let n := 3; (stepNext s = some n) ∧ (let m := 2; (m < n))) ∧
    (okB (pp 4 []) = true ∧ (let s : State := pp 4 []; let n := 3; let mv := 43200; (s.ingOn = true) ∧ (n < 16) ∧ (s.chState n = 4) ∧ (43200 ≤ mv))) ∧
    (okB (pp 5 []) = true ∧ (let s : State := pp 5 []; let n := 3; (s.ingOn = true) ∧ (n < 17) ∧ (1 ≤ s.chState n) ∧ (s.chState n ≤ 5))) ∧
    (okB (pp 4 []) = true ∧ (let s : State := pp 4 []; let n := 3; (s.ingOn = true) ∧ (n < 16) ∧ (s.chState n = 4))) ∧
    (okB ((pp 5 []).setCh 3 { holdEn := true }) = true ∧ (let s : State := (pp 5 []).setCh 3 { holdEn := true }; let n := 3; (s.ingOn = true) ∧ (n < 16) ∧ (s.chState n = 3 ∨ s.chState n = 5) ∧ ((s.ch n).holdEn = true))) ∧
    (okB (pp 6 []) = true ∧ (let s : State := pp 6 []; let n := 3; (s.ingOn = true) ∧ (n < 16) ∧ (s.chState n = 6) ∧ (mayPower s n = true) ∧ (s.fw.job = none) ∧ (s.pmu.dev = none) ∧ (s.flag F.PMU_DEV_CTL_WAKE_PEND = false))) ∧
    (okB (pp 7 []) = true ∧ (let s : State := pp 7 []; let n := 3; (s.ingOn = true) ∧ (n < 16) ∧ (s.chState n = 7) ∧ (mayPower s n = true))) ∧
    (let s : State := pp 5 []; let n := 3; (s.ingOn = true) ∧ (n < 17) ∧ (s.chState n = 3 ∨ s.chState n = 5)) :=
  ⟨⟨wok_52, by decide +kernel⟩,
    by decide +kernel,
    by decide +kernel,
    ⟨wok_46, by decide +kernel⟩,
    ⟨wok_53, by decide +kernel⟩,
    ⟨wok_46, by decide +kernel⟩,
    ⟨wok_54, by decide +kernel⟩,
    ⟨wok_55, by decide +kernel⟩,
    ⟨wok_56, by decide +kernel⟩,
    by decide +kernel⟩

theorem wok_57 : okB (pp 4 [(F.PPC_CH_STAT_LIMITING 3, 1)]) = true := by decide +kernel
theorem wok_58 : okB (pp 5 [(F.PPC_CH_STAT_LIMITING 3, 1)]) = true := by decide +kernel

/-- The hypotheses of `PortPower`, part PowerFaults are met. -/
theorem wit_portPower_powerFaults :
    (okB (pp 4 [(F.PPC_CH_STAT_LIMITING 3, 1)]) = true ∧ (let s : State := pp 4 [(F.PPC_CH_STAT_LIMITING 3, 1)]; let n := 3; let r := (.rampFail 3, [2, 4], 3); (s.ingOn = true) ∧ (n < 16) ∧ (r ∈ [(Instr.hardShort n, [2, 3, 4, 5], 1), (.overload n, [2, 3, 4, 5], 2), (.rampFail n, [2, 4], 3), (.undervolt n, [3, 5], 4)]) ∧ (s.flag (F.PPC_CH_STAT_LIMITING n) = true) ∧ (s.chState n ∈ r.2.1))) ∧
    (okB (pp 5 [(F.PPC_CH_STAT_LIMITING 3, 1)]) = true ∧ (let s : State := pp 5 [(F.PPC_CH_STAT_LIMITING 3, 1)]; let n := 3; let r := (.rampFail 3, [2, 4], 3); (s.ingOn = true) ∧ (n < 16) ∧ (r ∈ [(Instr.hardShort n, [2, 3, 4, 5], 1), (.overload n, [2, 3, 4, 5], 2), (.rampFail n, [2, 4], 3), (.undervolt n, [3, 5], 4)]) ∧ (s.flag (F.PPC_CH_STAT_LIMITING n) = true) ∧ (s.chState n ∉ r.2.1))) :=
  ⟨⟨wok_57, by decide +kernel⟩,
    ⟨wok_58, by decide +kernel⟩⟩

theorem wok_59 : okB (al []) = true := by decide +kernel
theorem wok_60 : okB ((al []).setAld { queue := [⟨0, true, 0, [1, 2]⟩] }) = true := by decide +kernel
theorem wok_61 : okB (al [(F.SITE_ALD_CFG_N2, 0)]) = true := by decide +kernel
theorem wok_62 : okB (al [(F.SITE_ALD_CFG_N2, 2)]) = true := by decide +kernel

/-- The hypotheses of `SiteControl`, part AntennaLine are met. -/
theorem wit_siteControl_antennaLine :
    (okB (al []) = true ∧ (let s : State := al []; let e := 0; let len := 5; (s.ingOn = true) ∧ (e < 32) ∧ (len < 2048) ∧ (aldState s e = 2) ∧ (s.ald.queue = []))) ∧
    (okB (al []) = true ∧ (let s : State := al []; let e := 1; let len := 5; (s.ingOn = true) ∧ (e < 32) ∧ (len < 2048) ∧ (aldState s e ≠ 2))) ∧
    (okB (al []) = true ∧ (let s : State := al []; let e := 31; let len := 2047; (s.ingOn = true) ∧ (e < 32) ∧ (0 < len) ∧ (len < 2048) ∧ (s.ald.queue = []))) ∧
    (let s : State := al []; let f := (⟨0, true, 0, List.replicate 2048 0⟩ : AldFrame); (2048 < (s.ald.queue.map AldFrame.size).sum + f.size)) ∧
    (okB ((al []).setAld { queue := [⟨0, true, 0, [1, 2]⟩] }) = true ∧ (let s : State := (al []).setAld { queue := [⟨0, true, 0, [1, 2]⟩] }; let e := 0; let p := [1, 2]; let l := []; (e < 32) ∧ (s.ingOn = true) ∧ (s.flag F.SITE_ALD_CFG_EN = true) ∧ (s.ald.queue = ⟨e, true, 0, p⟩ :: l) ∧ (aldState s e = 2) ∧ ((s.aa e).unacked.length < s.get F.SITE_ALD_CFG_WINDOW) ∧ ((s.aa e).vs < 8) ∧ ((s.aa e).vr < 8))) ∧
    (let s : State := al []; let fr := [1, 2, 3]; (s.ingOn = true) ∧ (s.flag F.SITE_ALD_CFG_EN = true) ∧ (fr.length < 4)) ∧
    (let s : State := al []; let fr := List.replicate 1537 0; (s.ingOn = true) ∧ (s.flag F.SITE_ALD_CFG_EN = true) ∧ (1536 < fr.length)) ∧
    (let s : State := al []; let fr := [5, 0x11, 0, 0]; (s.ingOn = true) ∧ (s.flag F.SITE_ALD_CFG_EN = true) ∧ (4 ≤ fr.length) ∧ (fr.length ≤ 1536) ∧ (fcs16 (fr.take (fr.length - 2)) ≠ leNat (fr.drop (fr.length - 2)))) ∧
    (let s : State := al []; let fr := alFrame 9; (s.ingOn = true) ∧ (s.flag F.SITE_ALD_CFG_EN = true) ∧ (4 ≤ fr.length) ∧ (fr.length ≤ 1536) ∧ (fcs16 (fr.take (fr.length - 2)) = leNat (fr.drop (fr.length - 2))) ∧ ((List.range 32).find? (fun i => aldValid s i && aldAddr s i == (fr.headD 0).toNat) = none) ∧ ((fr.headD 0).toNat ≠ 0xFF) ∧ (s.flag F.SITE_ALD_CFG_PROMISC = false)) ∧
    (let s : State := al []; let fr := alFrame 5; (s.ingOn = true) ∧ (s.flag F.SITE_ALD_CFG_EN = true) ∧ (4 ≤ fr.length) ∧ (fr.length ≤ 1536) ∧ (fcs16 (fr.take (fr.length - 2)) = leNat (fr.drop (fr.length - 2))) ∧ (let i := 0; ((List.range 32).find? (fun i => aldValid s i && aldAddr s i == (fr.headD 0).toNat) = some i))) ∧
    (okB (al [(F.SITE_ALD_CFG_N2, 0)]) = true ∧ (let s : State := al [(F.SITE_ALD_CFG_N2, 0)]; let e := 0; (s.ingOn = true) ∧ (s.flag F.SITE_ALD_CFG_EN = true) ∧ (e < 32) ∧ (aldState s e = 2) ∧ (s.get F.SITE_ALD_CFG_N2 ≤ (s.aa e).tries))) ∧
    (okB (al [(F.SITE_ALD_CFG_N2, 2)]) = true ∧ (let s : State := al [(F.SITE_ALD_CFG_N2, 2)]; let e := 0; (s.ingOn = true) ∧ (s.flag F.SITE_ALD_CFG_EN = true) ∧ (e < 32) ∧ (aldState s e = 2) ∧ ((s.aa e).tries < s.get F.SITE_ALD_CFG_N2) ∧ (s.ald.queue = []) ∧ ((s.aa e).unacked = []))) ∧
    (let s : State := al [(F.SITE_ALD_POLL, 10)]; (s.ingOn = true) ∧ (s.flag F.SITE_ALD_CFG_EN = true) ∧ (s.ald.queue = []) ∧ (s.get F.SITE_ALD_POLL ≠ 0)) :=
  ⟨⟨wok_59, by decide +kernel⟩,
    ⟨wok_59, by decide +kernel⟩,
    ⟨wok_59, by decide +kernel⟩,
    by decide +kernel,
    ⟨wok_60, by decide +kernel⟩,
    by decide +kernel,
    by decide +kernel,
    by decide +kernel,
    by decide +kernel,
    by decide +kernel,
    ⟨wok_61, by decide +kernel⟩,
    ⟨wok_62, by decide +kernel⟩,
    by decide +kernel⟩

theorem wok_63 : okB (mk [(F.SITE_GPIO_IMODE 1, 0x4000)]) = true := by decide +kernel

/-- The hypotheses of `SiteControl`, part SitePins are met. -/
theorem wit_siteControl_sitePins :
    (okB (mk [(F.SITE_GPIO_IMODE 1, 0x4000)]) = true ∧ (let s : State := mk [(F.SITE_GPIO_IMODE 1, 0x4000)]; let n := 23; let lvl := true; (n < 24) ∧ (s.pins.porst = false) ∧ (s.flag F.PMU_WAKE_EN_GPIO = false) ∧ (bitOf (s.get F.SITE_GPIO_DIR) n = false) ∧ (gpioHit (bitsOf (s.get (F.SITE_GPIO_IMODE (n / 16))) (2 * (n % 16) + 1) (2 * (n % 16))) (bitOf s.pins.gpio n) lvl = true))) ∧
    (okB (mk []) = true ∧ (let s : State := mk []; let n := 7; let lvl := !bitOf (mk []).pins.alarm 7; (n < 8) ∧ (s.pins.porst = false) ∧ (s.flag F.PMU_WAKE_EN_ALM = false) ∧ (bitOf s.pins.alarm n ≠ lvl))) ∧
    (let s : State := mk []; let n := 7; let lvl := bitOf (mk []).pins.alarm 7; (bitOf s.pins.alarm n = lvl)) :=
  ⟨⟨wok_63, by decide +kernel⟩,
    ⟨wok_45, by decide +kernel⟩,
    by decide +kernel⟩

theorem wok_64 : okB (gOn) = true := by decide +kernel

/-- The hypotheses of `GateAdmission` are met. -/
theorem wit_gateAdmission :
    (okB (gOn) = true ∧ (let s : State := gOn; let g : Nat := 17; let e : Ev := gEv; let m : List Nat := (mapMatch gOn 17 10 4).headD []; (s.ingOn = true) ∧ (g < 32) ∧ ((s.gate g).ready = []) ∧ (gateHead s g = some e) ∧ (s.running = true) ∧ (s.aflag (F.ADM_GATE_CFG_EN g) = true) ∧ (s.flag (F.ADM_GATE_STAT_HOLDING g) = false) ∧ (e.poisoned = false) ∧ (e.t ≤ s.T) ∧ (startBack s 0 ≤ e.t) ∧ (startBack s (gateLag s g) ≤ e.t) ∧ ((s.aget (F.ADM_GATE_CFG_POLICY g) = 0 ∨ s.aget (F.ADM_GATE_CFG_POLICY g) = 3)) ∧ (0 < s.get (F.ADM_GATE_STAT_TOKENS g)) ∧ (let x := e.x / 2 ^ s.aget (F.ADM_GATE_CFG_BIN g); let y := e.y / 2 ^ s.aget (F.ADM_GATE_CFG_BIN g); let w (k : Nat) := m.getD k 0; let target := bitsOf (w 3) 15 0 + (y - bitsOf (w 1) 9 0) * bitsOf (w 3) 31 16 + (x - bitsOf (w 0) 10 0); (mapMatch s g x y = [m]) ∧ (target ≤ 65535) ∧ (nodeOk s (bitsOf (w 2) 11 0) = true)))) :=
  ⟨wok_64, by decide +kernel⟩


/-- The hypotheses of `GateLimits`, part GateRefusals are met. -/
theorem wit_gateLimits_gateRefusals :
    (let s : State := gs 5 0 0 gEv; let g : Nat := 17; let e : Ev := gEv; (s.ingOn = true) ∧ (g < 32) ∧ ((s.gate g).ready = []) ∧ (gateHead s g = some e) ∧ (s.running = false ∨ s.aflag (F.ADM_GATE_CFG_EN g) = false)) ∧
    (let s : State := gOn.raise (F.ADM_GATE_STAT_HOLDING 17); let g : Nat := 17; let e : Ev := gEv; (s.ingOn = true) ∧ (g < 32) ∧ ((s.gate g).ready = []) ∧ (gateHead s g = some e) ∧ (s.running = true) ∧ (s.aflag (F.ADM_GATE_CFG_EN g) = true) ∧ (s.flag (F.ADM_GATE_STAT_HOLDING g) = true)) ∧
    (let s : State := gs 5 0 1 { gEv with poisoned := true }; let g : Nat := 17; let e : Ev := { gEv with poisoned := true }; (s.ingOn = true) ∧ (g < 32) ∧ ((s.gate g).ready = []) ∧ (gateHead s g = some e) ∧ (s.running = true) ∧ (s.aflag (F.ADM_GATE_CFG_EN g) = true) ∧ (s.flag (F.ADM_GATE_STAT_HOLDING g) = false) ∧ (e.poisoned = true)) ∧
    (let s : State := gs 5 0 1 { gEv with t := 10051 }; let g : Nat := 17; let e : Ev := { gEv with t := 10051 }; (s.ingOn = true) ∧ (g < 32) ∧ ((s.gate g).ready = []) ∧ (gateHead s g = some e) ∧ (s.running = true) ∧ (s.aflag (F.ADM_GATE_CFG_EN g) = true) ∧ (s.flag (F.ADM_GATE_STAT_HOLDING g) = false) ∧ (e.poisoned = false) ∧ ((s.T : Int) + s.aget (F.ADM_GATE_FUT g) < e.t)) ∧
    (let s : State := gs 5 0 1 { gEv with t := 10050 }; let g : Nat := 17; let e : Ev := { gEv with t := 10050 }; (s.ingOn = true) ∧ (g < 32) ∧ ((s.gate g).ready = []) ∧ (gateHead s g = some e) ∧ (s.running = true) ∧ (s.aflag (F.ADM_GATE_CFG_EN g) = true) ∧ (s.flag (F.ADM_GATE_STAT_HOLDING g) = false) ∧ (e.poisoned = false) ∧ (s.T < e.t) ∧ (e.t ≤ s.T + s.aget (F.ADM_GATE_FUT g)) ∧ (e.t < s.tb.next)) ∧
    (let s : State := gs 5 0 1 { gEv with t := -10020 }; let g : Nat := 17; let e : Ev := { gEv with t := -10020 }; (s.ingOn = true) ∧ (g < 32) ∧ ((s.gate g).ready = []) ∧ (gateHead s g = some e) ∧ (s.running = true) ∧ (s.aflag (F.ADM_GATE_CFG_EN g) = true) ∧ (s.flag (F.ADM_GATE_STAT_HOLDING g) = false) ∧ (e.poisoned = false) ∧ (e.t ≤ s.T) ∧ (e.t < startBack s (gateLag s g)) ∧ (s.aget (F.ADM_GATE_CFG_LATE_POL g) = 0)) ∧
    (let s : State := gs 5 0 1 { gEv with x := 1000 }; let g : Nat := 17; let e : Ev := { gEv with x := 1000 }; (s.ingOn = true) ∧ (g < 32) ∧ ((s.gate g).ready = []) ∧ (gateHead s g = some e) ∧ (s.running = true) ∧ (s.aflag (F.ADM_GATE_CFG_EN g) = true) ∧ (s.flag (F.ADM_GATE_STAT_HOLDING g) = false) ∧ (e.poisoned = false) ∧ (e.t ≤ s.T) ∧ (startBack s (gateLag s g) ≤ e.t) ∧ (mapMatch s g (e.x / 2 ^ s.aget (F.ADM_GATE_CFG_BIN g)) (e.y / 2 ^ s.aget (F.ADM_GATE_CFG_BIN g)) = [])) ∧
    (let s : State := gs 0 0 1 gEv; let g : Nat := 17; let e : Ev := gEv; (s.ingOn = true) ∧ (g < 32) ∧ ((s.gate g).ready = []) ∧ (gateHead s g = some e) ∧ (s.running = true) ∧ (s.aflag (F.ADM_GATE_CFG_EN g) = true) ∧ (s.flag (F.ADM_GATE_STAT_HOLDING g) = false) ∧ (e.poisoned = false) ∧ (e.t ≤ s.T) ∧ (startBack s (gateLag s g) ≤ e.t) ∧ (s.get (F.ADM_GATE_STAT_TOKENS g) = 0) ∧ (mapMatch s g (e.x / 2 ^ s.aget (F.ADM_GATE_CFG_BIN g)) (e.y / 2 ^ s.aget (F.ADM_GATE_CFG_BIN g)) ≠ []) ∧ (s.aget (F.ADM_GATE_CFG_POLICY g) = 0)) ∧
    (let s : State := gs 0 3 1 gEv; let g : Nat := 17; let e : Ev := gEv; (s.ingOn = true) ∧ (g < 32) ∧ ((s.gate g).ready = []) ∧ (gateHead s g = some e) ∧ (s.running = true) ∧ (s.aflag (F.ADM_GATE_CFG_EN g) = true) ∧ (s.flag (F.ADM_GATE_STAT_HOLDING g) = false) ∧ (e.poisoned = false) ∧ (e.t ≤ s.T) ∧ (startBack s (gateLag s g) ≤ e.t) ∧ (s.get (F.ADM_GATE_STAT_TOKENS g) = 0) ∧ (mapMatch s g (e.x / 2 ^ s.aget (F.ADM_GATE_CFG_BIN g)) (e.y / 2 ^ s.aget (F.ADM_GATE_CFG_BIN g)) ≠ []) ∧ (s.aget (F.ADM_GATE_CFG_POLICY g) = 3)) :=
  ⟨by decide +kernel,
    by decide +kernel,
    by decide +kernel,
    by decide +kernel,
    by decide +kernel,
    by decide +kernel,
    by decide +kernel,
    by decide +kernel,
    by decide +kernel⟩


/-- The hypotheses of `GateLimits`, part GateEpochs are met. -/
theorem wit_gateLimits_gateEpochs :
    (let s : State := gOn.setGate 17 { merge := [gMerge] }; let g : Nat := 17; let i : Nat := 0; let m : MergeEntry := gMerge; (s.ingOn = true) ∧ (g < 32) ∧ ((s.gate g).merge[i]? = some m) ∧ (m.t0 + s.aget (F.ADM_GATE_MERGE g) < s.T)) ∧
    (let s : State := gOn.setGate 17 { ready := [.evw gEvw] }; let k := 0; let i := 3; let e := gEvw; let rest := []; (s.ingOn = true) ∧ (s.fabOn = true) ∧ (k < 8) ∧ (hasCredit s (0xF00 + k) false = true) ∧ (roundRobin ((List.range 4).filter (fun i => gateReady s ((nodeGates k).getD i 0))) (s.fab.inPtr.getD k 0) 4 = some i) ∧ ((s.gate ((nodeGates k).getD i 0)).ready = .evw e :: rest) ∧ ((rest = []))) ∧
    (okB (gOn) = true ∧ (let s : State := gOn; let g := 31; (g < 32) ∧ ((s.gate g).merge = []) ∧ (let h := 0; (h ≠ g)))) ∧
    (okB (gOn) = true ∧ (let g := 31; (g < 32) ∧ (let k := 15; (k < 16)))) :=
  ⟨by decide +kernel,
    by decide +kernel,
    ⟨wok_64, by decide +kernel⟩,
    ⟨wok_64, by decide +kernel⟩⟩

theorem wok_65 : okB (enFlow [] 4) = true := by decide +kernel

/-- The hypotheses of `Encoder`, part EncoderSections are met. -/
theorem wit_encoder_encoderSections :
    (let s : State := enFifo (enSect true 0); let n := 1; let x := enSect true 0; (s.ingOn = true) ∧ (((List.range 16).map (fun i => (s.see.next + i) % 16)).find? (flowReady s) = some n) ∧ (s.see.fifo.find? (·.flow = n) = some x) ∧ (x.bad = true)) ∧
    (let s : State := enFifo (enSect false 14); let n := 1; let x := enSect false 14; (s.ingOn = true) ∧ (((List.range 16).map (fun i => (s.see.next + i) % 16)).find? (flowReady s) = some n) ∧ (s.see.fifo.find? (·.flow = n) = some x) ∧ (let u := (s.setSee { s.see with fifo := s.see.fifo.erase x, next := (n + 1) % 16 }).inc (F.SEE_F_SECT_IN x.flow); (x.bad = false) ∧ (placeable (u.aget (F.SEE_F_CFG_MU x.flow)) x = false))) ∧
    (let s : State := enFifo (enSect false 0); let n := 1; let x := enSect false 0; (s.ingOn = true) ∧ (((List.range 16).map (fun i => (s.see.next + i) % 16)).find? (flowReady s) = some n) ∧ (s.see.fifo.find? (·.flow = n) = some x) ∧ (let u := (s.setSee { s.see with fifo := s.see.fifo.erase x, next := (n + 1) % 16 }).inc (F.SEE_F_SECT_IN x.flow); (x.bad = false) ∧ (placeable (u.aget (F.SEE_F_CFG_MU x.flow)) x = true))) ∧
    (okB (enFlow [] 4) = true ∧ (let s : State := enFlow [] 4; let n := 1; let t := 77; let y := enSym 4; (n < 16) ∧ ((s.flow n).opens = [y]) ∧ (y.t = t))) ∧
    (okB (enFlow [] 4) = true ∧ (let s : State := enFlow [] 4; let n := 1; let i := 0; let y := enSym 4; (s.ingOn = true) ∧ (n < 16) ∧ ((s.flow n).opens[i]? = some y))) ∧
    (okB (enFlow [] 4) = true ∧ (let s : State := enFlow [] 4; let n := 15; (s.ingOn = true) ∧ (n < 16))) :=
  ⟨by decide +kernel,
    by decide +kernel,
    by decide +kernel,
    ⟨wok_65, by decide +kernel⟩,
    ⟨wok_65, by decide +kernel⟩,
    ⟨wok_65, by decide +kernel⟩⟩

theorem wok_66 : okB (enFlow [(1, 99)] 4) = true := by decide +kernel
theorem wok_67 : okB (enFlow [(1, 100)] 4) = true := by decide +kernel

/-- The hypotheses of `Encoder`, part EncoderLevels are met. -/
theorem wit_encoder_encoderLevels :
    (let e := 1; (0 < e)) ∧
    (okB (enFlow [(1, 99)] 4) = true ∧ (let s : State := enFlow [(1, 99)] 4; let n : Nat := 1; let g : Nat := 1; let y : Sym := { enSym 4 with energy := [] }; let r : Int := 99; (n < 16) ∧ (y.poisoned = []) ∧ ((s.flow n).badGroups = []) ∧ (groupValid y g = true) ∧ ((s.flow n).refs.any (·.1 = g) = true) ∧ (sparseGet (fun _ => 0) (s.flow n).refs g = r) ∧ (y.cfg.floorN = 0) ∧ (0 < y.cfg.thr) ∧ (let l : Int := level s.freeCtr (sparseGet (fun _ => 0) y.energy g); ((l - r).natAbs < y.cfg.thr)))) ∧
    (okB (enFlow [(1, 100)] 4) = true ∧ (let s : State := enFlow [(1, 100)] 4; let n : Nat := 1; let g : Nat := 1; let y : Sym := { enSym 4 with energy := [] }; let r : Int := 100; (n < 16) ∧ (y.poisoned = []) ∧ ((s.flow n).badGroups = []) ∧ (groupValid y g = true) ∧ ((s.flow n).refs.any (·.1 = g) = true) ∧ (sparseGet (fun _ => 0) (s.flow n).refs g = r) ∧ (y.cfg.floorN = 0) ∧ (0 < y.cfg.thr) ∧ (let l : Int := level s.freeCtr (sparseGet (fun _ => 0) y.energy g); (y.cfg.thr ≤ (l - r).natAbs)))) ∧
    (okB (enFlow [] 4) = true ∧ (let s : State := enFlow [] 4; let n : Nat := 1; let g : Nat := 1; let y : Sym := enSym 4; (n < 16) ∧ (y.poisoned = []) ∧ ((s.flow n).badGroups = []) ∧ (groupValid y g = true) ∧ ((s.flow n).refs.any (·.1 = g) = false) ∧ (0 < y.cfg.thr))) ∧
    (let s : State := enFlow [] 4; let n := 1; let y := enSym 4; let l := []; (s.ingOn = true) ∧ ((s.flow n).closed = y :: l)) ∧
    (let s : State := gOn; let n := 1; (s.ingOn = true) ∧ ((s.flow n).closed = [])) ∧
    (okB (enFlow [] 4) = true ∧ (let s : State := enFlow [] 4; let n := 1; let y := { enSym 0 with gen := ((enFlow [] 4).flow 1).refGen }; (n < 16) ∧ (y.cfg.ngrp = 0) ∧ ((s.flow n).refGen = y.gen))) :=
  ⟨by decide +kernel,
    ⟨wok_66, by decide +kernel⟩,
    ⟨wok_67, by decide +kernel⟩,
    ⟨wok_65, by decide +kernel⟩,
    by decide +kernel,
    by decide +kernel,
    ⟨wok_65, by decide +kernel⟩⟩

theorem wok_68 : okB (fbBuf 40) = true := by decide +kernel
theorem wok_69 : okB (fbBuf 5) = true := by decide +kernel

/-- The hypotheses of `FabricRouting` are met. -/
theorem wit_fabricRouting :
    (let r := 0; let dst := 0xF0F; (r < 192) ∧ (attach dst < 192) ∧ (r ≠ attach dst)) ∧
    (okB (fbBuf 40) = true ∧ (let s : State := fbBuf 40; let r := 5; let o := 1; let p := 3; let i := ⟨40, 2, .evw fbEv⟩; let l := []; (s.fabOn = true) ∧ (r < s.cfg.tiles) ∧ (r < 192) ∧ (o < 4) ∧ (contenders s r o true = []) ∧ (roundRobin (contenders s r o false) (sparseGet (fun _ => ({} : OutPort)) s.fab.outs (r * 6 + o)).ptrEv 6 = some p) ∧ (s.buf (bufKey r p false) = i :: l) ∧ (i.body.ct = false) ∧ (roomFor s r o i = true) ∧ (bufKey (neighbour r o).1 (neighbour r o).2 false ≠ bufKey r p false) ∧ (let e := fbEv; (i.body = .evw e)))) ∧
    (okB (fbBuf 5) = true ∧ (let s : State := fbBuf 5; let r := 5; let p := 3; let i := ⟨5, 2, .evw fbEv⟩; let l := []; (s.fabOn = true) ∧ (r < s.cfg.tiles) ∧ (contenders s r 5 true = []) ∧ (roundRobin (contenders s r 5 false) (sparseGet (fun _ => ({} : OutPort)) s.fab.outs (r * 6 + 5)).ptrEv 6 = some p) ∧ (s.buf (bufKey r p false) = i :: l) ∧ (i.body.ct = false) ∧ (roomFor s r 5 i = true))) :=
  ⟨by decide +kernel,
    ⟨wok_68, by decide +kernel⟩,
    ⟨wok_69, by decide +kernel⟩⟩

theorem wok_70 : okB (fbRx 0 0 (.evw fbEv) []) = true := by decide +kernel
theorem wok_71 : okB (fbRx 1 0 (.evw fbEv) []) = true := by decide +kernel
theorem wok_72 : okB (fbRx 1 1 (.evw fbEv) []) = true := by decide +kernel
theorem wok_73 : okB (fbRx 1 2 (.evw fbEv) []) = true := by decide +kernel
theorem wok_74 : okB (fbRx 1 0 (.evw { fbEv with wide := some 3 }) []) = true := by decide +kernel
theorem wok_75 : okB (fbRx 1 0 (.fence 9 false) []) = true := by decide +kernel

/-- The hypotheses of `TileArrivals` are met. -/
theorem wit_tileArrivals :
    (okB (fbRx 0 0 (.evw fbEv) []) = true ∧ (let s : State := fbRx 0 0 (.evw fbEv) []; let n := 5; let d := 5; let r := 2; let e := fbEv; let l := []; (ifaceOn s n = true) ∧ (n < 192) ∧ (s.rx n = ⟨d, r, .evw e⟩ :: l) ∧ (tileDrops s n = true))) ∧
    (okB (fbRx 1 0 (.evw fbEv) []) = true ∧ (let s : State := fbRx 1 0 (.evw fbEv) []; let n := 5; let d := 5; let r := 2; let e := fbEv; let l := []; (ifaceOn s n = true) ∧ (n < 192) ∧ (s.rx n = ⟨d, r, .evw e⟩ :: l) ∧ (tileDrops s n = false) ∧ (e.wide = none) ∧ (routeOf s n e.cls = 0) ∧ (s.flag (F.NE_CTL_EN n) = true) ∧ ((s.ne n).queue.length < 64))) ∧
    (okB (fbRx 1 1 (.evw fbEv) []) = true ∧ (let s : State := fbRx 1 1 (.evw fbEv) []; let n := 5; let d := 5; let r := 2; let e := fbEv; let l := []; (ifaceOn s n = true) ∧ (n < 192) ∧ (s.rx n = ⟨d, r, .evw e⟩ :: l) ∧ (tileDrops s n = false) ∧ (e.wide = none) ∧ (routeOf s n e.cls = 1))) ∧
    (okB (fbRx 1 2 (.evw fbEv) []) = true ∧ (let s : State := fbRx 1 2 (.evw fbEv) []; let n := 5; let d := 5; let r := 2; let e := fbEv; let l := []; (ifaceOn s n = true) ∧ (n < 192) ∧ (s.rx n = ⟨d, r, .evw e⟩ :: l) ∧ (tileDrops s n = false) ∧ (e.wide = none) ∧ (2 ≤ routeOf s n e.cls))) ∧
    (okB (fbRx 1 0 (.evw { fbEv with wide := some 3 }) []) = true ∧ (let s : State := fbRx 1 0 (.evw { fbEv with wide := some 3 }) []; let n := 5; let d := 5; let r := 2; let e := { fbEv with wide := some 3 }; let l := []; (ifaceOn s n = true) ∧ (n < 192) ∧ (s.rx n = ⟨d, r, .evw e⟩ :: l) ∧ (let p := 3; (tileDrops s n = false) ∧ (e.wide = some p)))) ∧
    (let s : State := fbRx 1 0 (.eb 9) [(F.TILE_CHG_CTL_EBF_EN 5, 1), (F.TILE_CHG_EBF 5, 10)]; let n := 5; let d := 5; let r := 2; let ep := 9; let l := []; (ifaceOn s n = true) ∧ (s.rx n = ⟨d, r, .eb ep⟩ :: l) ∧ (s.flag (F.TILE_CHG_CTL_EBF_EN n) = true) ∧ (sx 32 ((ep + 2 ^ 32 - s.get (F.TILE_CHG_EBF n)) % 2 ^ 32) < 0)) ∧
    (let s : State := fbRx 1 0 (.eb 9) []; let n := 5; let d := 5; let r := 2; let ep := 9; let l := []; (ifaceOn s n = true) ∧ (s.rx n = ⟨d, r, .eb ep⟩ :: l) ∧ (s.flag (F.TILE_CHG_CTL_EBF_EN n) = false)) ∧
    (okB (fbRx 1 0 (.fence 9 false) []) = true ∧ (let s : State := fbRx 1 0 (.fence 9 false) []; let n := 5; let d := 5; let r := 2; let ep := 9; let l := []; (ifaceOn s n = true) ∧ (n < 192) ∧ (s.rx n = ⟨d, r, .fence ep false⟩ :: l) ∧ (s.get (F.EVF_FENCE_RX_EV_CNT n) + 1 < s.cfg.tiles + 12) ∧ (s.cfg.tiles ≤ 192))) :=
  ⟨⟨wok_70, by decide +kernel⟩,
    ⟨wok_71, by decide +kernel⟩,
    ⟨wok_72, by decide +kernel⟩,
    ⟨wok_73, by decide +kernel⟩,
    ⟨wok_74, by decide +kernel⟩,
    by decide +kernel,
    by decide +kernel,
    ⟨wok_75, by decide +kernel⟩⟩


/-- The hypotheses of `FabricSends`, part FanoutSends are met. -/
theorem wit_fabricSends_fanoutSends :
    (let s : State := fbOut true; let n := 5; let p := .marker 3; let ps := []; (ifaceOn s n = true) ∧ (s.tileOn n = true) ∧ (hasCredit s n false = true) ∧ ((s.seq n).sendq = p :: ps) ∧ ((s.ne n).outq = [])) ∧
    (let s : State := fbOut false; let n := 5; let p := .marker 3; let ps := []; (ifaceOn s n = true) ∧ (s.tileOn n = true) ∧ (hasCredit s n false = true) ∧ ((s.seq n).sendq = []) ∧ ((s.ne n).outq = p :: ps)) ∧
    (let s : State := fbList 0; let n := 5; let l := 2; (s.flag F.EVF_CTL_ACTIVE = false) ∧ (s.get (F.EVF_T_FAN_CFG0_NLIST n) ≤ l)) ∧
    (let s : State := fbList (40 + 65535 * 2 ^ 16); let n := 5; let l := 0; let idx := 1; (s.flag F.EVF_CTL_ACTIVE = false) ∧ (let d := 2 ^ 11 + 3; let w := 40 + 65535 * 2 ^ 16; (l < s.get (F.EVF_T_FAN_CFG0_NLIST n)) ∧ (fanWord s n l = some d) ∧ (bitsOf d 16 11 = 1) ∧ (bitsOf d 10 0 < s.get (F.EVF_T_FAN_CFG0_SIZE n)) ∧ (fanWord s n (bitsOf d 10 0) = some w) ∧ (let target := if bitOf w 12 then bitsOf w 31 16 else idx + bitsOf w 31 16; (65535 < target)))) ∧
    (let s : State := fbList (40 + 2 ^ 12 + 65535 * 2 ^ 16); let n := 5; let l := 0; let idx := 9; (s.flag F.EVF_CTL_ACTIVE = false) ∧ (let d := 2 ^ 11 + 3; let w := 40 + 2 ^ 12 + 65535 * 2 ^ 16; (l < s.get (F.EVF_T_FAN_CFG0_NLIST n)) ∧ (fanWord s n l = some d) ∧ (bitsOf d 16 11 = 1) ∧ (bitsOf d 10 0 < s.get (F.EVF_T_FAN_CFG0_SIZE n)) ∧ (fanWord s n (bitsOf d 10 0) = some w) ∧ (let target := if bitOf w 12 then bitsOf w 31 16 else idx + bitsOf w 31 16; (target ≤ 65535) ∧ (bitOf w 13 = false)))) ∧
    (let s : State := fbList (40 + 2 ^ 12 + 2 ^ 13 + 7 * 2 ^ 16); let n := 5; let l := 0; let idx := 9; (s.flag F.EVF_CTL_ACTIVE = false) ∧ (let d := 2 ^ 11 + 3; let w := 40 + 2 ^ 12 + 2 ^ 13 + 7 * 2 ^ 16; (l < s.get (F.EVF_T_FAN_CFG0_NLIST n)) ∧ (fanWord s n l = some d) ∧ (bitsOf d 16 11 = 1) ∧ (bitsOf d 10 0 < s.get (F.EVF_T_FAN_CFG0_SIZE n)) ∧ (fanWord s n (bitsOf d 10 0) = some w) ∧ (let target := if bitOf w 12 then bitsOf w 31 16 else idx + bitsOf w 31 16; (target ≤ 65535) ∧ (bitOf w 13 = true) ∧ (bitsOf w 15 14 ≠ devId s) ∧ (bitsOf w 15 14 < ringSize s)))) ∧
    (let s : State := mk []; let e := { fbEv with node := 0xFFF }; (remap s e.node = none)) ∧
    (let s : State := fbList 0; let src := 3; let e := fbEv; let p := 40; (src < 0xF00) ∧ (remap s e.node = some p)) :=
  ⟨by decide +kernel,
    by decide +kernel,
    by decide +kernel,
    by decide +kernel,
    by decide +kernel,
    by decide +kernel,
    by decide +kernel,
    by decide +kernel⟩

theorem wok_76 : okB (fbSpan []) = true := by decide +kernel
theorem wok_77 : okB (fbSpan [(F.EVF_SPAN_STAT_UP 1, 1)]) = true := by decide +kernel

/-- The hypotheses of `FabricSends`, part FabricEdge are met. -/
theorem wit_fabricSends_fabricEdge :
    (let s : State := fbEdge 0xF0D; let e := 13; let d := 0xF0D; let r := 2; let ep := 9; let l := []; (s.fabOn = true) ∧ (e < 14) ∧ (s.rx (0xF00 + e) = ⟨d, r, .eb ep⟩ :: l)) ∧
    (let s : State := fbEdge 0xF0F; let p := 1; let d := 0xF0F; let r := 2; let ep := 9; let l := []; (s.fabOn = true) ∧ (p < 2) ∧ (s.rx (0xF0E + p) = ⟨d, r, .eb ep⟩ :: l)) ∧
    (let s : State := let s := fbSpan []; s.setFab { s.fab with rt := [((F.EVF_E_EB_CFG 14).off, 2)], spEb := [(2, 9), (0, 0)] }; let p := 0; let c := 2; let ep := 9; (s.fabOn = true) ∧ (p < 2) ∧ (s.fab.spEb.getD p (0, 0) = (c, ep)) ∧ (ebExpect s p ≠ 0) ∧ (ebExpect s p ≤ c)) ∧
    (let s : State := let s := fbSpan []; s.setFab { s.fab with rt := [((F.EVF_E_EB_CFG 14).off, 3)], spEb := [(2, 9), (0, 0)] }; let p := 0; let c := 2; let ep := 9; (s.fab.spEb.getD p (0, 0) = (c, ep)) ∧ (c < ebExpect s p)) ∧
    (let s : State := mk []; (s.fabOn = true)) ∧
    (okB (fbSpan []) = true ∧ (let s : State := fbSpan []; let p := 1; (s.fabOn = true) ∧ (p < 2) ∧ (s.fab.span.length = 2) ∧ (s.flag F.EVF_SPAN_CFG_EN0 = true) ∧ (s.flag F.EVF_SPAN_CFG_EN1 = true) ∧ (spanUp s p = false) ∧ (let peer := 3; let ring := 4; (peer ≠ spanPeer s p ∨ ring ≠ ringSize s)))) ∧
    (let s : State := fbSpan [(F.EVF_SPAN_STAT_UP 1, 1)]; let p := 1; (s.fabOn = true) ∧ (p < 2) ∧ (spanUp s p = true)) ∧
    (okB (fbSpan [(F.EVF_SPAN_STAT_UP 1, 1)]) = true ∧ (let s : State := fbSpan [(F.EVF_SPAN_STAT_UP 1, 1)]; let p := 1; (s.fabOn = true) ∧ (p < 2) ∧ (s.fab.span.length = 2) ∧ (spanUp s p = true) ∧ ((s.sp p).tx = []))) ∧
    (okB (fbSpan [(F.EVF_SPAN_STAT_UP 1, 1)]) = true ∧ (let s : State := fbSpan [(F.EVF_SPAN_STAT_UP 1, 1)]; let p := 1; (s.fabOn = true) ∧ (p < 2) ∧ (s.fab.span.length = 2) ∧ (spanUp s p = true))) ∧
    (let s : State := fbSpan []; (s.fabOn = true) ∧ (s.get F.EVF_CTL_STALL_LIM ≠ 0) ∧ (s.flag F.EVF_STALL_VALID = false)) ∧
    (let s : State := fbSpan [(F.EVF_STALL_VALID, 1)]; (s.fabOn = true) ∧ (s.get F.EVF_CTL_STALL_LIM ≠ 0) ∧ (s.flag F.EVF_STALL_VALID = true)) :=
  ⟨by decide +kernel,
    by decide +kernel,
    by decide +kernel,
    by decide +kernel,
    by decide +kernel,
    ⟨wok_76, by decide +kernel⟩,
    by decide +kernel,
    ⟨wok_77, by decide +kernel⟩,
    ⟨wok_77, by decide +kernel⟩,
    by decide +kernel,
    by decide +kernel⟩

theorem wok_78 : okB (run0) = true := by decide +kernel
theorem wok_79 : okB (rDelay (some 0x80)) = true := by decide +kernel
theorem wok_80 : okB (rDelay none) = true := by decide +kernel
theorem wok_81 : okB (rLoop 2) = true := by decide +kernel
theorem wok_82 : okB (rLoop 1) = true := by decide +kernel
theorem wok_83 : okB (run5 (fun q => { q with pending := some (3, 1) })) = true := by decide +kernel

/-- The hypotheses of `TileRetirement` are met. -/
theorem wit_tileRetirement :
    (okB (run0) = true ∧ (let n : Nat := 5; (n < 192) ∧ (let k := 0x140; (k ≠ (F.TILE_SEQ_RETIRED n).off)))) ∧
    (okB (rDelay (some 0x80)) = true ∧ (let s : State := rDelay (some 0x80); let n : Nat := 5; (n < 192) ∧ (let q := s.seq n; let target := 0x80; let branch := 0x20; let reads := [2]; (q.delay = some ⟨some target, branch, reads⟩)))) ∧
    (okB (rDelay none) = true ∧ (let s : State := rDelay none; let n : Nat := 5; (n < 192) ∧ (let q := s.seq n; ((∀ d ∈ q.delay, d.target = none)) ∧ ((q.exl = true ∨ q.atLoopEnd q.pc = false))))) ∧
    (okB (rLoop 2) = true ∧ (let s : State := rLoop 2; let n : Nat := 5; (n < 192) ∧ (let q := s.seq n; (q.delay = none) ∧ (q.exl = false) ∧ (let k := 0; (k < 3) ∧ ((∀ j < k, q.lc.getD j 0 = 0 ∨ q.le.getD j 0 ≠ q.pc)) ∧ (q.le.getD k 0 = q.pc) ∧ (1 < q.lc.getD k 0))))) ∧
    (okB (rLoop 1) = true ∧ (let s : State := rLoop 1; let n : Nat := 5; (n < 192) ∧ (let q := s.seq n; (q.delay = none) ∧ (q.exl = false) ∧ (let k := 0; (k < 3) ∧ ((∀ j < 3, j ≠ k → q.lc.getD j 0 = 0 ∨ q.le.getD j 0 ≠ q.pc)) ∧ (q.le.getD k 0 = q.pc) ∧ (q.lc.getD k 0 = 1))))) ∧
    (okB (run0) = true ∧ (let s : State := run0; let n : Nat := 5; (n < 192) ∧ (let q := s.seq n; (q.pending = none)))) ∧
    (okB (run5 (fun q => { q with pending := some (3, 1) })) = true ∧ (let s : State := run5 (fun q => { q with pending := some (3, 1) }); let n : Nat := 5; (n < 192) ∧ (let q := s.seq n; let v := 3; let k := 1; (q.pending = some (v, k))))) :=
  ⟨⟨wok_78, by decide +kernel⟩,
    ⟨wok_79, by decide +kernel⟩,
    ⟨wok_80, by decide +kernel⟩,
    ⟨wok_81, by decide +kernel⟩,
    ⟨wok_82, by decide +kernel⟩,
    ⟨wok_78, by decide +kernel⟩,
    ⟨wok_83, by decide +kernel⟩⟩


/-- The hypotheses of `ScalarArithmetic`, part ScalarAlu are met. -/
theorem wit_scalarArithmetic_scalarAlu :
    (let s : State := run0; let n : Nat := 5; let gd : Guard := {}; let d : Nat := 4; let a : Nat := 2; let b : Nat := 3; (True) ∧ (issues s n gd [a, b, d] = true)) ∧
    (let s : State := run0; let n : Nat := 5; let gd : Guard := {}; let d : Nat := 4; let a : Nat := 2; (issues s n gd [a, d] = true)) ∧
    (let s : State := run0; let n : Nat := 5; let gd : Guard := {}; let d : Nat := 4; let a : Nat := 2; (True) ∧ (issues s n gd [a, d] = true)) ∧
    (let s : State := run0; let n : Nat := 5; let gd : Guard := {}; let d : Nat := 4; (issues s n gd [d] = true)) ∧
    (let s : State := run0; let n : Nat := 5; let gd : Guard := {}; let d : Nat := 4; (issues s n gd [d, d] = true)) :=
  ⟨by decide +kernel,
    by decide +kernel,
    by decide +kernel,
    by decide +kernel,
    by decide +kernel⟩


/-- The hypotheses of `ScalarArithmetic`, part MultiplyDivide are met. -/
theorem wit_scalarArithmetic_multiplyDivide :
    (let s : State := run0; let n : Nat := 5; let gd : Guard := {}; let d : Nat := 4; let a : Nat := 2; let b : Nat := 3; let q := s.seq n; let r := ((.aluDivu 5 {} 4 2 3, true, 7) : Instr × Bool × Word); (True) ∧ (q.sb.length < 64) ∧ ((r.2.1 = true → ∀ e ∈ q.sb, e.isDiv = false)) ∧ (issues s n gd [a, b, d] = true)) ∧
    (let s : State := rOwed 64 9; let n : Nat := 5; let gd : Guard := {}; let d : Nat := 4; let a : Nat := 2; let b : Nat := 3; let q := s.seq n; let r := ((.aluDivu 5 {} 4 2 3, true, 7) : Instr × Bool × Word); (True) ∧ (issues s n gd [a, b, d] = true) ∧ (q.holds gd = true) ∧ ((64 ≤ q.sb.length ∨ (r.2.1 = true ∧ ∃ e ∈ q.sb, e.isDiv = true)))) ∧
    (let s : State := rOwed 1 4; let n : Nat := 5; let gd : Guard := {}; let d : Nat := 4; let a : Nat := 2; let b : Nat := 3; let q := s.seq n; (True) ∧ (issues s n gd [] = true) ∧ ((∃ c ∈ [a, b, d], q.owed c = true))) ∧
    (let s : State := rOwed 1 4; let n : Nat := 5; let i : Nat := 0; let d : Nat := 4; let tag : Nat := 3; let v : Word := 7; let isDiv : Bool := true; let isWait : Bool := true; ((s.seq n).sb[i]? = some ⟨tag, d, some v, isDiv, isWait⟩) ∧ (d < 32)) :=
  ⟨by decide +kernel,
    by decide +kernel,
    by decide +kernel,
    by decide +kernel⟩


/-- The hypotheses of `ScalarArithmetic`, part Predicates are met. -/
theorem wit_scalarArithmetic_predicates :
    (let s : State := run0; let n : Nat := 5; let gd : Guard := {}; let pd : Nat := 1; let cc : Nat := 7; let r := ((.cmp 5 {} 1 7 2 3, [2, 3], 0, 8, 3 * 2 ^ 5) : Instr × List Nat × Word × Nat × Nat); (True) ∧ (cc ≤ 7) ∧ (issues s n gd (r.2.1 ++ [pCode pd]) = true)) ∧
    (let s : State := run0; let n : Nat := 5; let gd : Guard := {}; let pd : Nat := 1; let cc : Nat := 8; let r := ((.cmp 5 {} 1 7 2 3, [2, 3], 0, 8, 3 * 2 ^ 5) : Instr × List Nat × Word × Nat × Nat); (True) ∧ (7 < cc) ∧ (issues s n gd (r.2.1 ++ [pCode pd]) = true)) ∧
    (let s : State := run0; let n : Nat := 5; let gd : Guard := {}; let pd : Nat := 1; let pa : Nat := 1; let pb : Nat := 2; let rs := [pCode pa, pCode pb, pCode pd]; (issues s n gd rs = true)) ∧
    (let s : State := run0; let n : Nat := 5; let gd : Guard := {}; let pd : Nat := 1; (issues s n gd [pCode pd] = true)) ∧
    (okB (run0) = true ∧ (let s : State := run0; let n : Nat := 5; let gd : Guard := {}; let r : Nat := 4; (n < 192) ∧ (issues s n gd ((List.range 8).map pCode ++ [r]) = true))) ∧
    (okB (run0) = true ∧ (let s : State := run0; let n : Nat := 5; let gd : Guard := {}; let r : Nat := 4; let mask : BitVec 7 := 1#7; (n < 192) ∧ (issues s n gd (r :: ((List.range 7).filter (fun i => mask.getLsbD i)).map (fun i => pCode (i + 1))) = true))) :=
  ⟨by decide +kernel,
    by decide +kernel,
    by decide +kernel,
    by decide +kernel,
    ⟨wok_78, by decide +kernel⟩,
    ⟨wok_78, by decide +kernel⟩⟩

theorem wok_84 : okB (rMem 0xC000 []) = true := by decide +kernel
theorem wok_85 : okB (rMem 0x105 []) = true := by decide +kernel
theorem wok_86 : okB (rMem 0xC004 []) = true := by decide +kernel
theorem wok_87 : okB (rNoGuard) = true := by decide +kernel
theorem wok_88 : okB (rMem 0x4000 []) = true := by decide +kernel
theorem wok_89 : okB (rMem 0x4004 []) = true := by decide +kernel

/-- The hypotheses of `LoadsStores` are met. -/
theorem wit_loadsStores :
    (let s : State := rMem 0x60000 []; let n : Nat := 5; let gd : Guard := {}; let d : Nat := 4; let a : Nat := 2; let imm : BitVec 12 := 0xFFC#12; let q := s.seq n; let w := BitVec.ofInt 32 ((q.rd a).toInt + imm.toInt); let ad := w.toNat; let r := ((.lw 5 {} 4 2 0xFFC, 4, 0) : Instr × Nat × Int); (True) ∧ (ad % r.2.1 = 0) ∧ ((ad < 0xC000 ∨ 0x10000 ≤ ad ∧ ad < 0x60000)) ∧ ((s.tile n).poison.contains (ad / 8) = false) ∧ (issues s n gd [a, d] = true)) ∧
    (let s : State := rMem 0x105 []; let n : Nat := 5; let gd : Guard := {}; let d : Nat := 4; let a : Nat := 2; let imm : BitVec 12 := 0xFFC#12; let q := s.seq n; let w := BitVec.ofInt 32 ((q.rd a).toInt + imm.toInt); let ad := w.toNat; let r := ((.lw 5 {} 4 2 0xFFC, 4, 0) : Instr × Nat × Int); (True) ∧ (ad % r.2.1 ≠ 0) ∧ (issues s n gd [a, d] = true) ∧ ((s.seq n).holds gd = true)) ∧
    (let s : State := rMem 0x60004 []; let n : Nat := 5; let gd : Guard := {}; let d : Nat := 4; let a : Nat := 2; let imm : BitVec 12 := 0xFFC#12; let q := s.seq n; let w := BitVec.ofInt 32 ((q.rd a).toInt + imm.toInt); let ad := w.toNat; let r := ((.lw 5 {} 4 2 0xFFC, 4, 0) : Instr × Nat × Int); (True) ∧ (ad % r.2.1 = 0) ∧ (¬(ad < 0xC000 ∨ 0x10000 ≤ ad ∧ ad < 0x60000)) ∧ (issues s n gd [a, d] = true) ∧ ((s.seq n).holds gd = true)) ∧
    (let s : State := rMem 0x104 [0x20]; let n : Nat := 5; let gd : Guard := {}; let d : Nat := 4; let a : Nat := 2; let imm : BitVec 12 := 0xFFC#12; let q := s.seq n; let w := BitVec.ofInt 32 ((q.rd a).toInt + imm.toInt); let ad := w.toNat; let r := ((.lw 5 {} 4 2 0xFFC, 4, 0) : Instr × Nat × Int); (True) ∧ (ad % r.2.1 = 0) ∧ ((ad < 0xC000 ∨ 0x10000 ≤ ad ∧ ad < 0x60000)) ∧ ((s.tile n).poison.contains (ad / 8) = true) ∧ (issues s n gd [a, d] = true) ∧ ((s.seq n).holds gd = true)) ∧
    (let s : State := rMem 0x4000 []; let n : Nat := 5; let gd : Guard := {}; let d : Nat := 4; let a : Nat := 2; let imm : BitVec 12 := 0xFFC#12; let q := s.seq n; let w := BitVec.ofInt 32 ((q.rd a).toInt + imm.toInt); let ad := w.toNat; (ad % 4 = 0) ∧ (ad < 0x4000) ∧ ((s.tile n).ipoison.contains (ad / 8) = false) ∧ (issues s n gd [a, d] = true)) ∧
    (let s : State := rMem 0x105 []; let n : Nat := 5; let gd : Guard := {}; let d : Nat := 4; let a : Nat := 2; let imm : BitVec 12 := 0xFFC#12; let q := s.seq n; let w := BitVec.ofInt 32 ((q.rd a).toInt + imm.toInt); let ad := w.toNat; (ad % 4 ≠ 0) ∧ (issues s n gd [a, d] = true) ∧ ((s.seq n).holds gd = true)) ∧
    (let s : State := rMem 0x4004 []; let n : Nat := 5; let gd : Guard := {}; let d : Nat := 4; let a : Nat := 2; let imm : BitVec 12 := 0xFFC#12; let q := s.seq n; let w := BitVec.ofInt 32 ((q.rd a).toInt + imm.toInt); let ad := w.toNat; (ad % 4 = 0) ∧ (0x4000 ≤ ad) ∧ (issues s n gd [a, d] = true) ∧ ((s.seq n).holds gd = true)) ∧
    (let s : State := rMem 0x104 [0x20]; let n : Nat := 5; let gd : Guard := {}; let d : Nat := 4; let a : Nat := 2; let imm : BitVec 12 := 0xFFC#12; let q := s.seq n; let w := BitVec.ofInt 32 ((q.rd a).toInt + imm.toInt); let ad := w.toNat; (ad % 4 = 0) ∧ (ad < 0x4000) ∧ ((s.tile n).ipoison.contains (ad / 8) = true) ∧ (issues s n gd [a, d] = true) ∧ ((s.seq n).holds gd = true)) ∧
    (okB (rMem 0xC000 []) = true ∧ (let s : State := rMem 0xC000 []; let n : Nat := 5; let gd : Guard := {}; let src : Nat := 3; let a : Nat := 2; let imm : BitVec 12 := 0xFFC#12; (n < 192) ∧ (let q := s.seq n; let w := BitVec.ofInt 32 ((q.rd a).toInt + imm.toInt); let ad := w.toNat; let r := ((.sw 5 {} 3 2 0xFFC, 4) : Instr × Nat); (True) ∧ (ad % r.2 = 0) ∧ ((ad < 0xC000 ∨ 0x10000 ≤ ad ∧ ad < 0x60000)) ∧ (issues s n gd [src, a] = true) ∧ (q.holds gd = true)))) ∧
    (okB (rMem 0x105 []) = true ∧ (let s : State := rMem 0x105 []; let n : Nat := 5; let gd : Guard := {}; let src : Nat := 3; let a : Nat := 2; let imm : BitVec 12 := 0xFFC#12; (n < 192) ∧ (let q := s.seq n; let w := BitVec.ofInt 32 ((q.rd a).toInt + imm.toInt); let ad := w.toNat; let r := ((.sw 5 {} 3 2 0xFFC, 4) : Instr × Nat); (True) ∧ (ad % r.2 ≠ 0) ∧ (issues s n gd [src, a] = true) ∧ ((s.seq n).holds gd = true)))) ∧
    (okB (rMem 0xC004 []) = true ∧ (let s : State := rMem 0xC004 []; let n : Nat := 5; let gd : Guard := {}; let src : Nat := 3; let a : Nat := 2; let imm : BitVec 12 := 0xFFC#12; (n < 192) ∧ (let q := s.seq n; let w := BitVec.ofInt 32 ((q.rd a).toInt + imm.toInt); let ad := w.toNat; let r := ((.sw 5 {} 3 2 0xFFC, 4) : Instr × Nat); (True) ∧ (ad % r.2 = 0) ∧ (¬(ad < 0xC000 ∨ 0x10000 ≤ ad ∧ ad < 0x60000)) ∧ (issues s n gd [src, a] = true) ∧ ((s.seq n).holds gd = true)))) ∧
    (okB (rNoGuard) = true ∧ (let s : State := rNoGuard; let n : Nat := 5; let gd : Guard := ⟨false, 3⟩; let src : Nat := 3; let a : Nat := 2; (n < 192) ∧ (let q := s.seq n; (True) ∧ (issues s n gd [src, a] = true) ∧ (q.holds gd = false)))) ∧
    (okB (rMem 0x4000 []) = true ∧ (let s : State := rMem 0x4000 []; let n : Nat := 5; let gd : Guard := {}; let src : Nat := 3; let a : Nat := 2; let imm : BitVec 12 := 0xFFC#12; (n < 192) ∧ (let q := s.seq n; let w := BitVec.ofInt 32 ((q.rd a).toInt + imm.toInt); let ad := w.toNat; (ad % 4 = 0) ∧ (ad < 0x4000) ∧ (issues s n gd [src, a] = true) ∧ (q.holds gd = true)))) ∧
    (okB (rMem 0x105 []) = true ∧ (let s : State := rMem 0x105 []; let n : Nat := 5; let gd : Guard := {}; let src : Nat := 3; let a : Nat := 2; let imm : BitVec 12 := 0xFFC#12; (n < 192) ∧ (let q := s.seq n; let w := BitVec.ofInt 32 ((q.rd a).toInt + imm.toInt); let ad := w.toNat; (ad % 4 ≠ 0) ∧ (issues s n gd [src, a] = true) ∧ ((s.seq n).holds gd = true)))) ∧
    (okB (rMem 0x4004 []) = true ∧ (let s : State := rMem 0x4004 []; let n : Nat := 5; let gd : Guard := {}; let src : Nat := 3; let a : Nat := 2; let imm : BitVec 12 := 0xFFC#12; (n < 192) ∧ (let q := s.seq n; let w := BitVec.ofInt 32 ((q.rd a).toInt + imm.toInt); let ad := w.toNat; (ad % 4 = 0) ∧ (0x4000 ≤ ad) ∧ (issues s n gd [src, a] = true) ∧ ((s.seq n).holds gd = true)))) :=
  ⟨by decide +kernel,
    by decide +kernel,
    by decide +kernel,
    by decide +kernel,
    by decide +kernel,
    by decide +kernel,
    by decide +kernel,
    by decide +kernel,
    ⟨wok_84, by decide +kernel⟩,
    ⟨wok_85, by decide +kernel⟩,
    ⟨wok_86, by decide +kernel⟩,
    ⟨wok_87, by decide +kernel⟩,
    ⟨wok_88, by decide +kernel⟩,
    ⟨wok_85, by decide +kernel⟩,
    ⟨wok_89, by decide +kernel⟩⟩


/-- The hypotheses of `BranchesAndLoops`, part Branches are met. -/
theorem wit_branchesAndLoops_branches :
    (let s : State := rDelay none; let n : Nat := 5; let q := s.seq n; ((q.delay.isSome = true ∨ q.atLoopEnd q.pc = true)) ∧ (issues s n {} [] = true)) ∧
    ((run0.seq 5).delay = none ∧ (run0.seq 5).atLoopEnd (run0.seq 5).pc = false ∧ issues run0 5 {} [2, 3, 4] = true) :=
  ⟨by decide +kernel,
    by decide +kernel⟩


/-- The hypotheses of `BranchesAndLoops`, part Loops are met. -/
theorem wit_branchesAndLoops_loops :
    (let s : State := run5 (fun q => { q with g := q.g.set 2 3, pc := 0x20 }); let n : Nat := 5; let gd : Guard := {}; let k : Nat := 2; let a : Nat := 2; let e : BitVec 12 := 0x11#12; let q := s.seq n; let count := (q.rd a).toNat; let ok := k < 3 ∧ q.delay = none ∧ q.exl = false ∧ (q.pc + 4) % 0x4000 ≤ 4 * e.toNat ∧ q.lc.getD k 0 = 0; (ok) ∧ (count ≠ 0) ∧ (issues s n gd [a] = true)) ∧
    (let s : State := run5 (fun q => { q with pc := 0x20 }); let n : Nat := 5; let gd : Guard := {}; let k : Nat := 2; let a : Nat := 2; let e : BitVec 12 := 0x11#12; let q := s.seq n; let count := (q.rd a).toNat; let ok := k < 3 ∧ q.delay = none ∧ q.exl = false ∧ (q.pc + 4) % 0x4000 ≤ 4 * e.toNat ∧ q.lc.getD k 0 = 0; (ok) ∧ (count = 0) ∧ (issues s n gd [a] = true) ∧ (q.holds gd = true)) ∧
    (let s : State := run5 (fun q => { q with pc := 0x20 }); let n : Nat := 5; let gd : Guard := {}; let k : Nat := 3; let a : Nat := 2; let e : BitVec 12 := 0x11#12; let q := s.seq n; let ok := k < 3 ∧ q.delay = none ∧ q.exl = false ∧ (q.pc + 4) % 0x4000 ≤ 4 * e.toNat ∧ q.lc.getD k 0 = 0; (¬ok) ∧ (issues s n gd [a] = true)) :=
  ⟨by decide +kernel,
    by decide +kernel,
    by decide +kernel⟩

theorem wok_90 : okB (run5 (fun q => { q with pending := some (3, 2) })) = true := by decide +kernel
theorem wok_91 : okB (run5 (fun q => { q with estat := 0x80 })) = true := by decide +kernel

/-- The hypotheses of `ExceptionsTaken` are met. -/
theorem wit_exceptionsTaken :
    (okB (run0) = true ∧ (let s : State := run0; let n : Nat := 5; let cause : Nat := 31; (n < 192) ∧ (cause ≠ 1) ∧ (cause < 32) ∧ (let q := s.seq n; (q.exl = false) ∧ (q.delay = none)))) ∧
    (okB (rDelay (some 0x80)) = true ∧ (let s : State := rDelay (some 0x80); let n : Nat := 5; let cause : Nat := 31; (n < 192) ∧ (cause ≠ 1) ∧ (cause < 32) ∧ (let q := s.seq n; (q.exl = false) ∧ (let target := some 0x80; let b := 0x20; let reads := [2]; (q.delay = some ⟨target, b, reads⟩))))) ∧
    (okB (run5 (fun q => { q with pending := some (3, 2) })) = true ∧ (let s : State := run5 (fun q => { q with pending := some (3, 2) }); let n : Nat := 5; let cause : Nat := 31; (n < 192) ∧ (cause ≠ 1) ∧ (cause < 32) ∧ (let q := s.seq n; (q.exl = false) ∧ (let v := 3; let k := 2; (q.pending = some (v, k)) ∧ (k ≤ 2) ∧ (q.delay = none))))) ∧
    (okB (run0) = true ∧ (let s : State := run0; let n : Nat := 5; let cause : Nat := 31; (n < 192) ∧ (cause ≠ 1) ∧ (cause < 32) ∧ (let q := s.seq n; (q.exl = false) ∧ (let k := 0x140; (k ≠ (F.TILE_SEQ_EXC n).off))))) ∧
    (okB (run5 (fun q => { q with estat := 0x80 })) = true ∧ (let s : State := run5 (fun q => { q with estat := 0x80 }); let n : Nat := 5; let cause : Nat := 31; (n < 192) ∧ (cause ≠ 1) ∧ (cause < 32) ∧ (let q := s.seq n; (q.exl = true)))) ∧
    (let s : State := run0; let n : Nat := 5; let gd : Guard := {}; ((s.seq n).delay = none) ∧ (issues s n gd [] = true) ∧ ((s.seq n).holds gd = true)) ∧
    (let s : State := run0; let n : Nat := 5; (issues s n {} [] = true)) ∧
    (let s : State := run5 (fun q => { q with imask := 16, ipSoft := true, mode := 16 }); let n : Nat := 5; let i : Nat := 4; (tileRuns s n = true) ∧ (enabledIrq s n = some i) ∧ ((s.seq n).ien = true) ∧ ((s.seq n).exl = false)) ∧
    (let s : State := run0; let n : Nat := 5; (tileRuns s n = true) ∧ (((s.seq n).ien = false ∨ (s.seq n).exl = true))) ∧
    (let i := 4; let j := 3; (j < i)) ∧
    (let s : State := run5 (fun q => { q with estat := 0x80 }); let n : Nat := 5; let gd : Guard := {}; let q := s.seq n; (q.exl = true) ∧ (q.delay = none) ∧ (issues s n gd [] = true) ∧ (q.holds gd = true)) ∧
    (let s : State := run0; let n : Nat := 5; let gd : Guard := {}; let q := s.seq n; ((q.exl = false ∨ q.delay.isSome = true)) ∧ (issues s n gd [] = true)) :=
  ⟨⟨wok_78, by decide +kernel⟩,
    ⟨wok_79, by decide +kernel⟩,
    ⟨wok_90, by decide +kernel⟩,
    ⟨wok_78, by decide +kernel⟩,
    ⟨wok_91, by decide +kernel⟩,
    by decide +kernel,
    by decide +kernel,
    by decide +kernel,
    by decide +kernel,
    by decide +kernel,
    by decide +kernel,
    by decide +kernel⟩


/-- The hypotheses of `SystemInstructions`, part SpecialRegisters are met. -/
theorem wit_systemInstructions_specialRegisters :
    (let s : State := run0; let n : Nat := 5; let gd : Guard := {}; let d : Nat := 4; (True) ∧ (issues s n gd [d] = true)) ∧
    (let s : State := run0; let n : Nat := 5; let gd : Guard := {}; let d : Nat := 4; let r := 31; (r ∈ [10, 11, 12, 13, 14, 15, 19, 23, 27, 28, 29, 30, 31]) ∧ (issues s n gd [d] = true)) ∧
    (let s : State := run0; let n : Nat := 5; let gd : Guard := {}; let d : Nat := 4; (issues s n gd [d] = true)) ∧
    (let s : State := run0; let n : Nat := 5; let gd : Guard := {}; let a : Nat := 2; (True) ∧ (issues s n gd [a] = true)) ∧
    (let s : State := run0; let n : Nat := 5; let gd : Guard := {}; let a : Nat := 2; (issues s n gd [a] = true)) ∧
    (let s : State := run0; let n : Nat := 5; let gd : Guard := {}; let a : Nat := 2; let r := 31; (r ∈ [0, 4, 7, 8, 9, 10, 11, 12, 13, 14, 15, 19, 23, 27, 28, 29, 30, 31]) ∧ (issues s n gd [a] = true)) :=
  ⟨by decide +kernel,
    by decide +kernel,
    by decide +kernel,
    by decide +kernel,
    by decide +kernel,
    by decide +kernel⟩


/-- The hypotheses of `SystemInstructions` are met. -/
theorem wit_systemInstructions :
    (let s : State := run0; let n : Nat := 5; let gd : Guard := {}; let a : Nat := 2; let q := s.seq n; (q.pending = none) ∧ (issues s n gd [a] = true)) ∧
    (let s : State := run0; let n : Nat := 5; let gd : Guard := {}; let q := s.seq n; (q.pending = none) ∧ (issues s n gd [] = true)) ∧
    (let s : State := run5 (fun q => { q with pending := some (3, 2) }); let n : Nat := 5; let gd : Guard := {}; let q := s.seq n; (q.pending.isSome = true) ∧ (issues s n gd [] = true)) ∧
    (let s : State := run0; let n : Nat := 5; let gd : Guard := {}; let q := s.seq n; (q.delay = none) ∧ (issues s n gd [] = true)) ∧
    (let s : State := rDelay none; let n : Nat := 5; let gd : Guard := {}; let q := s.seq n; (q.delay.isSome = true) ∧ (issues s n gd [] = true)) ∧
    (let s : State := run5 (fun q => { q with imask := 16, ipSoft := true }); let n : Nat := 5; let gd : Guard := {}; ((enabledIrq s n).isSome = true) ∧ (issues s n gd [] = true)) ∧
    (let s : State := run0; let n : Nat := 5; let gd : Guard := {}; let q := s.seq n; (enabledIrq s n = none) ∧ (issues s n gd [] = true) ∧ (q.holds gd = true)) ∧
    (let s : State := run0.set (F.TILE_SEQ_STAT_STATE 5) 2; let n : Nat := 5; (tileWaits s n = true)) ∧
    (okB (run0) = true ∧ (let s : State := run0; let n : Nat := 5; let gd : Guard := {}; let q := s.seq n; (n < 192) ∧ (issues s n gd [] = true) ∧ (q.holds gd = true))) ∧
    (let s : State := run0; let n : Nat := 5; let gd : Guard := {}; let q := s.seq n; (q.unacked = 0) ∧ (q.syncq = []) ∧ (q.sendq = []) ∧ (issues s n gd [] = true)) ∧
    (let s : State := run5 (fun q => { q with sendq := [.marker 3] }); let n : Nat := 5; let gd : Guard := {}; let q := s.seq n; ((q.unacked ≠ 0 ∨ q.syncq ≠ [] ∨ q.sendq ≠ [])) ∧ (issues s n gd [] = true) ∧ (q.holds gd = true)) :=
  ⟨by decide +kernel,
    by decide +kernel,
    by decide +kernel,
    by decide +kernel,
    by decide +kernel,
    by decide +kernel,
    by decide +kernel,
    by decide +kernel,
    ⟨wok_78, by decide +kernel⟩,
    by decide +kernel,
    by decide +kernel⟩


/-- The hypotheses of `SyncAndEvents`, part SyncIssue are met. -/
theorem wit_syncAndEvents_syncIssue :
    (let s : State := run5 (fun q => { q with syncq := List.replicate 64 { handle := 1, op := 0, value := 0 } }); let n : Nat := 5; let gd : Guard := {}; let a : Nat := 2; let b : Nat := 3; let q := s.seq n; (64 ≤ q.syncq.length) ∧ (issues s n gd [a, b] = true) ∧ (q.holds gd = true)) ∧
    (let s : State := rOwed 8 9; let n : Nat := 5; let gd : Guard := {}; let c : Nat := 4; let a : Nat := 2; let b : Nat := 3; let pd : Nat := 1; let q := s.seq n; ((q.sb.filter (·.isWait)).length = 8) ∧ (issues s n gd [a, b, c, pCode pd] = true) ∧ (q.holds gd = true)) ∧
    (let s : State := run5 (fun q => { q with g := q.g.set 2 0xBFFC }); let n : Nat := 5; let gd : Guard := {}; let a : Nat := 2; let b : Nat := 3; let count : BitVec 5 := 0#5; let q := s.seq n; let k := count.toNat + 1; let ad := (q.rd a).toNat; let clean := ∀ l ∈ (s.tile n).poison, l < ad / 8 ∨ ad + 4 * k ≤ l * 8; (q.syncq.length + k ≤ 64) ∧ (ad % 4 = 0) ∧ (ad + 4 * k ≤ 0xC000) ∧ (clean) ∧ (issues s n gd [a, b] = true)) ∧
    (let s : State := run5 (fun q => { q with g := q.g.set 2 0xBFFC }); let n : Nat := 5; let gd : Guard := {}; let a : Nat := 2; let count : BitVec 5 := 0#5; let q := s.seq n; let k := count.toNat + 1; let ad := (q.rd a).toNat; let clean := ∀ l ∈ (s.tile n).poison, l < ad / 8 ∨ ad + 4 * k ≤ l * 8; (q.syncq.length + k ≤ 64) ∧ (ad % 4 = 0) ∧ (ad + 4 * k ≤ 0xC000) ∧ (clean) ∧ (issues s n gd [a] = true)) ∧
    (let s : State := run5 (fun q => { q with syncq := List.replicate 64 { handle := 1, op := 0, value := 0 } }); let n : Nat := 5; let gd : Guard := {}; let a : Nat := 2; let count : BitVec 5 := 0#5; let q := s.seq n; let k := count.toNat + 1; (64 < q.syncq.length + k) ∧ (issues s n gd [a] = true) ∧ (q.holds gd = true)) ∧
    (let s : State := run5 (fun q => { q with g := q.g.set 2 0x101 }); let n : Nat := 5; let gd : Guard := {}; let a : Nat := 2; let count : BitVec 5 := 0#5; let q := s.seq n; let k := count.toNat + 1; let ad := (q.rd a).toNat; (q.syncq.length + k ≤ 64) ∧ (ad % 4 ≠ 0) ∧ (issues s n gd [a] = true) ∧ ((s.seq n).holds gd = true)) ∧
    (let s : State := run5 (fun q => { q with g := q.g.set 2 0xC000 }); let n : Nat := 5; let gd : Guard := {}; let a : Nat := 2; let count : BitVec 5 := 0#5; let q := s.seq n; let k := count.toNat + 1; let ad := (q.rd a).toNat; (q.syncq.length + k ≤ 64) ∧ (ad % 4 = 0) ∧ (0xC000 < ad + 4 * k) ∧ (issues s n gd [a] = true) ∧ ((s.seq n).holds gd = true)) ∧
    ((run0.seq 5).syncq.length < 64 ∧ (run0.seq 5).sb.length < 64 ∧ issues run0 5 {} [2, 3, 4, pCode 1] = true) :=
  ⟨by decide +kernel,
    by decide +kernel,
    by decide +kernel,
    by decide +kernel,
    by decide +kernel,
    by decide +kernel,
    by decide +kernel,
    by decide +kernel⟩


/-- The hypotheses of `SyncAndEvents`, part EventSends are met. -/
theorem wit_syncAndEvents_eventSends :
    (let s : State := run5 (fun q => { q with sendq := List.replicate 16 (.marker 3) }); let n : Nat := 5; let gd : Guard := {}; let a : Nat := 2; let b : Nat := 3; let c : Nat := 4; let q := s.seq n; (16 ≤ q.sendq.length) ∧ (issues s n gd [c, a, b] = true) ∧ (q.holds gd = true)) ∧
    ((run0.seq 5).sendq.length < 16 ∧ issues run0 5 {} [2, 3, 4] = true) :=
  ⟨by decide +kernel,
    by decide +kernel⟩


/-- The hypotheses of `RoutineProgress` are met. -/
theorem wit_routineProgress :
    (let s : State := blkAt 0xBFF8 1; let n : Nat := 5; let gd : Guard := {}; let a : Nat := 2; let b : Nat := 3; let q := s.seq n; let x := q.rd a; let ad : Nat := x.toNat; let cnt := (q.rd b).toNat % 65536; (ad % 8 = 0) ∧ (ad + 8 * cnt ≤ 0xC000) ∧ (issues s n gd ([a, b] ++ []) = true) ∧ ((s.seq n).holds gd = true)) ∧
    (let s : State := blkAt 0x104 2; let n : Nat := 5; let gd : Guard := {}; let a : Nat := 2; let b : Nat := 3; let groups : Nat := 2; let q := s.seq n; let x := q.rd a; let ad : Nat := x.toNat; let i := Instr.nupd 5 {} 2 3 2; (i ∈ [Instr.evsnd n gd a b groups, .nupd n gd a b groups, .dlyxInsert n gd a b groups]) ∧ (ad % 8 ≠ 0) ∧ (issues s n gd [a, b] = true) ∧ ((s.seq n).holds gd = true)) ∧
    (let s : State := blkAt 0xBFF8 2; let n : Nat := 5; let gd : Guard := {}; let a : Nat := 2; let b : Nat := 3; let groups : Nat := 2; let q := s.seq n; let x := q.rd a; let ad : Nat := x.toNat; let cnt := (q.rd b).toNat % 65536; let i := Instr.nupd 5 {} 2 3 2; (i ∈ [Instr.evsnd n gd a b groups, .nupd n gd a b groups, .dlyxInsert n gd a b groups]) ∧ (ad % 8 = 0) ∧ (0xC000 < ad + 8 * cnt) ∧ (issues s n gd [a, b] = true) ∧ ((s.seq n).holds gd = true)) ∧
    (let s : State := run0; let n : Nat := 5; let gd : Guard := {}; let b : Nat := 3; (issues s n gd ([b] ++ []) = true) ∧ ((s.seq n).holds gd = true)) ∧
    (let s : State := run0; let n : Nat := 5; let gd : Guard := {}; (issues s n gd ([] ++ []) = true) ∧ ((s.seq n).holds gd = true)) ∧
    (let s : State := blkCim; let n : Nat := 5; let gd : Guard := {}; let a : Nat := 2; let q := s.seq n; let t := s.tile n; let x := q.rd a; let ad : Nat := x.toNat; let d := cdesc t ad; (ad % 16 = 0) ∧ (ad + 16 ≤ 0xC000) ∧ (blockBad t ad 16 = none) ∧ (d.bad = false) ∧ ((∀ i ∈ d.arrays, (s.arr n i).cbank.state = .valid)) ∧ (inputBad t d = none) ∧ (issues s n gd ([a] ++ []) = true) ∧ ((s.seq n).holds gd = true)) ∧
    (let s : State := blkAt 0x108 0; let n : Nat := 5; let gd : Guard := {}; let a : Nat := 2; let q := s.seq n; let x := q.rd a; let ad : Nat := x.toNat; ((ad % 16 ≠ 0 ∨ 0xC000 < ad + 16)) ∧ (issues s n gd [a] = true) ∧ ((s.seq n).holds gd = true)) ∧
    (let s : State := blk [(0x100, 0x2A54), (0x104, 0x11223344)]; let n : Nat := 5; let gd : Guard := {}; let a : Nat := 2; let q := s.seq n; let t := s.tile n; let x := q.rd a; let ad : Nat := x.toNat; let d := cdesc t ad; (ad % 16 = 0) ∧ (ad + 16 ≤ 0xC000) ∧ (blockBad t ad 16 = none) ∧ ((d.bad = true ∨ ∃ i ∈ d.arrays, (s.arr n i).cbank.state ≠ .valid)) ∧ (issues s n gd [a] = true) ∧ ((s.seq n).holds gd = true)) ∧
    (let s : State := blk [(0x100, 2 + 2 * 16), (0x104, 600), (0x108, 0x10000), (0x10C, 0x20000)]; let n : Nat := 5; let gd : Guard := {}; let a : Nat := 2; let q := s.seq n; let t := s.tile n; let x := q.rd a; let ad : Nat := x.toNat; (ad % 16 = 0) ∧ (ad + 48 ≤ 0xC000) ∧ (blockBad t ad 48 = none) ∧ (tblockBad t ad = false) ∧ ((tblock t ad).dkind ≤ 2) ∧ (issues s n gd ([a] ++ []) = true) ∧ ((s.seq n).holds gd = true)) ∧
    (let s : State := blkTensor; let n : Nat := 5; let gd : Guard := {}; let a : Nat := 2; let q := s.seq n; let t := s.tile n; let x := q.rd a; let ad : Nat := x.toNat; let r := ((.voptAdd 5 {} 2 2, .add) : Instr × VOp); (True) ∧ (ad % 16 = 0) ∧ (ad + 64 ≤ 0xC000) ∧ (blockBad t ad 64 = none) ∧ (vblockBad t ad r.2 = false) ∧ (t.nat ad 4 % 32 = r.2.code) ∧ (issues s n gd ([a] ++ []) = true) ∧ ((s.seq n).holds gd = true)) :=
  ⟨by decide +kernel,
    by decide +kernel,
    by decide +kernel,
    by decide +kernel,
    by decide +kernel,
    by decide +kernel,
    by decide +kernel,
    by decide +kernel,
    by decide +kernel,
    by decide +kernel⟩

theorem wok_92 : okB (blkCim) = true := by decide +kernel

/-- The hypotheses of `RoutineResults`, part RoutineGroups are met. -/
theorem wit_routineResults_routineGroups :
    (okB (run0) = true ∧ (let s : State := run0; let n : Nat := 5; let g : Nat := 0; let d : CDesc := cdesc (run0.tile 5) 0x100; (n < 192) ∧ (d.active (s.tile n) g = []))) ∧
    (okB (run0) = true ∧ (let n : Nat := 5; (n < 192))) ∧
    (let s : State := blkMbx; let n : Nat := 5; let g : Nat := 0; let k : TBlock := tblock (blkMbx.tile 5) 0x100; let lo := 256 * g; let hi := min k.nbytes (256 * g + 256); (srcPoison s n k lo hi = none)) ∧
    (let s : State := blkMbx.setTile 5 { blkMbx.tile 5 with poison := [0x2000] }; let n : Nat := 5; let g : Nat := 0; let k : TBlock := tblock (blkMbx.tile 5) 0x100; let lo := 256 * g; let hi := min k.nbytes (256 * g + 256); let e := 0x10000; (srcPoison s n k lo hi = some e)) ∧
    (let s : State := run0; let n : Nat := 5; (s.flag (F.NE_CTL_EN n) = false)) ∧
    (okB (run0) = true ∧ (let n : Nat := 5; let i : Nat := 0; let j0 : Nat := 0; let chunks : List (RingSet × Nat) := [(⟨0, 0, 1, 0, 8, 1⟩, 0)]; let g : RingSet := ⟨0, 0, 1, 0, 8, 1⟩; (n < 192) ∧ (0 < g.slots) ∧ (chunks[i]? = some (g, j0)))) ∧
    (let s : State := blkCim; let n : Nat := 5; let pd : Nat := 1; let gd : Guard := {}; let isB : Bool := false; let amask : BitVec 4 := 1#4; let arrays := (List.range 4).filter (fun a => amask.getLsbD a); (amask ≠ 0) ∧ ((∀ a ∈ arrays, (s.arr n a).cb = isB ∨ ((s.arr n a).bank isB).state = .valid)) ∧ (issues s n gd [pCode pd] = true) ∧ ((s.seq n).holds gd = true)) ∧
    (let s : State := run0; let n : Nat := 5; let pd : Nat := 1; let gd : Guard := {}; let isB : Bool := true; let amask : BitVec 4 := 1#4; let arrays := (List.range 4).filter (fun a => amask.getLsbD a); (amask ≠ 0) ∧ (¬(∀ a ∈ arrays, (s.arr n a).cb = isB ∨ ((s.arr n a).bank isB).state = .valid)) ∧ (issues s n gd [pCode pd] = true)) ∧
    (let s : State := run0; let n : Nat := 5; let pd : Nat := 1; let gd : Guard := {}; let amask : BitVec 4 := 0#4; (amask = 0) ∧ (issues s n gd [pCode pd] = true)) ∧
    (okB (blkCim) = true ∧ (let n : Nat := 5; let a : Nat := 3; (n < 192) ∧ (a < 4) ∧ (let b := 0; (b < 4) ∧ (b ≠ a)))) ∧
    (okB (blkCim) = true ∧ (let s : State := blkCim; let n : Nat := 5; let a : Nat := 0; let isB : Bool := false; (n < 192) ∧ (a < 4) ∧ ((s.arr n a).cb = isB))) :=
  ⟨⟨wok_78, by decide +kernel⟩,
    ⟨wok_78, by decide +kernel⟩,
    by decide +kernel,
    by decide +kernel,
    by decide +kernel,
    ⟨wok_78, by decide +kernel⟩,
    by decide +kernel,
    by decide +kernel,
    by decide +kernel,
    ⟨wok_92, by decide +kernel⟩,
    ⟨wok_92, by decide +kernel⟩⟩

theorem wok_93 : okB (blkMbx) = true := by decide +kernel
theorem wok_94 : okB (blkReady) = true := by decide +kernel
theorem wok_95 : okB (blkOther) = true := by decide +kernel
theorem wok_96 : okB (blkFrm) = true := by decide +kernel

/-- The hypotheses of `RoutineResults` are met. -/
theorem wit_routineResults :
    (okB (blkMbx) = true ∧ (let s : State := blkMbx; let n : Nat := 5; let gd : Guard := {}; let a : Nat := 2; let groups : Nat := 2; let q := s.seq n; let t := s.tile n; let ad : Nat := (q.rd a).toNat; let k := tblock t ad; (n < 192) ∧ (issues s n gd [a] = true) ∧ (q.holds gd = true) ∧ (ad % 16 = 0) ∧ (ad + 48 ≤ 0xC000) ∧ (blockBad t ad 48 = none) ∧ (tblockBad t ad = false) ∧ (q.mprog.toNat < 2 ^ 31) ∧ (q.exl = false) ∧ (2 ≤ groups) ∧ (k.nbytes ≤ 256) ∧ (srcPoison s n k 0 k.nbytes = none) ∧ (k.dkind = 3) ∧ (mayResult s n k.slot = true) ∧ ((s.slot k.slot).writer = none) ∧ ((s.slot k.slot).ready = false) ∧ ((s.slot k.slot).held = none))) ∧
    (okB (blkReady) = true ∧ (let s : State := blkReady; let n : Nat := 5; let gd : Guard := {}; let a : Nat := 2; let groups : Nat := 2; let q := s.seq n; let t := s.tile n; let ad : Nat := (q.rd a).toNat; let k := tblock t ad; (n < 192) ∧ (issues s n gd [a] = true) ∧ (q.holds gd = true) ∧ (ad % 16 = 0) ∧ (ad + 48 ≤ 0xC000) ∧ (blockBad t ad 48 = none) ∧ (tblockBad t ad = false) ∧ (q.mprog.toNat < 2 ^ 31) ∧ (q.exl = false) ∧ (2 ≤ groups) ∧ (k.nbytes ≤ 256) ∧ (srcPoison s n k 0 k.nbytes = none) ∧ (k.dkind = 3) ∧ (mayResult s n k.slot = true) ∧ ((s.slot k.slot).ready = true) ∧ (s.flag (F.SYNC_MB_CFG_POLICY k.slot) = false) ∧ (q.hold = none))) ∧
    (okB (blkOther) = true ∧ (let s : State := blkOther; let n : Nat := 5; let gd : Guard := {}; let a : Nat := 2; let groups : Nat := 2; let q := s.seq n; let t := s.tile n; let ad : Nat := (q.rd a).toNat; let k := tblock t ad; (n < 192) ∧ (issues s n gd [a] = true) ∧ (q.holds gd = true) ∧ (ad % 16 = 0) ∧ (ad + 48 ≤ 0xC000) ∧ (blockBad t ad 48 = none) ∧ (tblockBad t ad = false) ∧ (q.mprog.toNat < 2 ^ 31) ∧ (q.exl = false) ∧ (2 ≤ groups) ∧ (k.nbytes ≤ 256) ∧ (srcPoison s n k 0 k.nbytes = none) ∧ (k.dkind = 3) ∧ (mayResult s n k.slot = false))) ∧
    (okB (blkFrm) = true ∧ (let s : State := blkFrm; let n : Nat := 5; let gd : Guard := {}; let a : Nat := 2; let groups : Nat := 2; let q := s.seq n; let t := s.tile n; let ad : Nat := (q.rd a).toNat; let k := tblock t ad; (n < 192) ∧ (issues s n gd [a] = true) ∧ (q.holds gd = true) ∧ (ad % 16 = 0) ∧ (ad + 48 ≤ 0xC000) ∧ (blockBad t ad 48 = none) ∧ (tblockBad t ad = false) ∧ (q.mprog.toNat < 2 ^ 31) ∧ (q.exl = false) ∧ (2 ≤ groups) ∧ (k.nbytes ≤ 256) ∧ (srcPoison s n k 0 k.nbytes = none) ∧ (k.dkind = 4) ∧ (k.slot < 64))) ∧
    (let s : State := blkHold; let n : Nat := 5; let k : Nat := 3; let since : Nat := 0; let q := s.seq n; let x := s.slot k; (q.hold = some (since, k, q.pc)) ∧ (tileRuns s n = true) ∧ ((q.exl = true ∨ resumes q = true)) ∧ (since + s.get (F.SYNC_MB_TO (s.get (F.SYNC_MB_CFG_TOSEL k))) ≤ s.T) ∧ ((x.writer.isSome = true ∨ x.ready = true))) :=
  ⟨⟨wok_93, by decide +kernel⟩,
    ⟨wok_94, by decide +kernel⟩,
    ⟨wok_95, by decide +kernel⟩,
    ⟨wok_96, by decide +kernel⟩,
    by decide +kernel⟩


/-- The hypotheses of `VectorRegisterOps` are met. -/
theorem wit_vectorRegisterOps :
    (let s : State := run0; let n : Nat := 5; let gd : Guard := {}; let d : Nat := 1; let a : Nat := 2; let b : Nat := 3; let m : Nat := 4; let t : Nat := 5; let r := ((.voprAdd 5 {} 1 2 3 4 2, .add, 3) : Instr × VOp × Nat); (True) ∧ (let o := r.2.1; let b := r.2.2; let src := if o = .cvt then b else t; let two := o.usesB; let dst := if o.isCmp = true then mCode d else tCode d; let legal := t ≤ 4 ∧ (o.intOnly = true → t < 3) ∧ (o.isApprox = true → 3 ≤ t) ∧ m ≤ 4 ∧ (o = .sel → m < 4) ∧ d < 8 ∧ (o.isCmp = true → d < 4) ∧ a < 12 ∧ (two = true → b < 12 ∧ (8 ≤ b → t = 2)) ∧ (o = .cvt → b ≤ 4) ∧ (8 ≤ a → src = 2); (issues s n gd [tCode a, dst] = true) ∧ (¬legal))) ∧
    (let s : State := run0; let n : Nat := 5; let gd : Guard := ⟨true, 0⟩; let d : Nat := 1; let a : Nat := 2; let b : Nat := 3; let m : Nat := 4; let t : Nat := 2; let q := s.seq n; let r := ((.voprAdd 5 {} 1 2 3 4 2, .add, 3) : Instr × VOp × Nat); (True) ∧ (let o := r.2.1; let b := r.2.2; let src := if o = .cvt then b else t; let two := o.usesB; let dst := if o.isCmp = true then mCode d else tCode d; let legal := t ≤ 4 ∧ (o.intOnly = true → t < 3) ∧ (o.isApprox = true → 3 ≤ t) ∧ m ≤ 4 ∧ (o = .sel → m < 4) ∧ d < 8 ∧ (o.isCmp = true → d < 4) ∧ a < 12 ∧ (two = true → b < 12 ∧ (8 ≤ b → t = 2)) ∧ (o = .cvt → b ≤ 4) ∧ (8 ≤ a → src = 2); (issues s n gd [tCode a, dst] = true) ∧ (legal) ∧ (q.holds gd = false))) ∧
    (let s : State := run0; let n : Nat := 5; let gd : Guard := {}; let d : Nat := 1; let a : Nat := 2; let b : Nat := 3; let m : Nat := 4; let t : Nat := 2; let q := s.seq n; let r := ((.voprAdd 5 {} 1 2 3 4 2, .add, 3) : Instr × VOp × Nat); (True) ∧ (let o := r.2.1; let b := r.2.2; let src := if o = .cvt then b else t; let two := o.usesB; let dst := if o.isCmp = true then mCode d else tCode d; let legal := t ≤ 4 ∧ (o.intOnly = true → t < 3) ∧ (o.isApprox = true → 3 ≤ t) ∧ m ≤ 4 ∧ (o = .sel → m < 4) ∧ d < 8 ∧ (o.isCmp = true → d < 4) ∧ a < 12 ∧ (two = true → b < 12 ∧ (8 ≤ b → t = 2)) ∧ (o = .cvt → b ≤ 4) ∧ (8 ≤ a → src = 2); let clean := srcBad s n a = none ∧ (two = true → srcBad s n b = none) ∧ (o = .mac → srcBad s n d = none) ∧ maskBad s n m = none; (issues s n gd [tCode a, dst] = true) ∧ (legal) ∧ (q.holds gd = true) ∧ ((startPoint q 0x3B).1 = 0) ∧ ((startPoint q 0x3B).2.1 = 0) ∧ (clean) ∧ (o.isCmp = false))) ∧
    (let s : State := run0; let n : Nat := 5; let gd : Guard := {}; let d : Nat := 1; let a : Nat := 2; let b : Nat := 3; let m : Nat := 4; let t : Nat := 2; let q := s.seq n; let r := ((.voprCmpeq 5 {} 1 2 3 4 2, .cmpeq, 3) : Instr × VOp × Nat); (True) ∧ (let o := r.2.1; let b := r.2.2; let src := if o = .cvt then b else t; let two := o.usesB; let dst := if o.isCmp = true then mCode d else tCode d; let legal := t ≤ 4 ∧ (o.intOnly = true → t < 3) ∧ (o.isApprox = true → 3 ≤ t) ∧ m ≤ 4 ∧ (o = .sel → m < 4) ∧ d < 8 ∧ (o.isCmp = true → d < 4) ∧ a < 12 ∧ (two = true → b < 12 ∧ (8 ≤ b → t = 2)) ∧ (o = .cvt → b ≤ 4) ∧ (8 ≤ a → src = 2); let clean := srcBad s n a = none ∧ (two = true → srcBad s n b = none) ∧ (o = .mac → srcBad s n d = none) ∧ maskBad s n m = none; (issues s n gd [tCode a, dst] = true) ∧ (legal) ∧ (q.holds gd = true) ∧ ((startPoint q 0x3B).1 = 0) ∧ ((startPoint q 0x3B).2.1 = 0) ∧ (clean) ∧ (o.isCmp = true))) ∧
    (let s : State := vecBad; let n : Nat := 5; let gd : Guard := {}; let d : Nat := 1; let a : Nat := 2; let b : Nat := 3; let m : Nat := 4; let t : Nat := 2; let q := s.seq n; let r := ((.voprAdd 5 {} 1 2 3 4 2, .add, 3) : Instr × VOp × Nat); (True) ∧ (let o := r.2.1; let b := r.2.2; let src := if o = .cvt then b else t; let two := o.usesB; let dst := if o.isCmp = true then mCode d else tCode d; let legal := t ≤ 4 ∧ (o.intOnly = true → t < 3) ∧ (o.isApprox = true → 3 ≤ t) ∧ m ≤ 4 ∧ (o = .sel → m < 4) ∧ d < 8 ∧ (o.isCmp = true → d < 4) ∧ a < 12 ∧ (two = true → b < 12 ∧ (8 ≤ b → t = 2)) ∧ (o = .cvt → b ≤ 4) ∧ (8 ≤ a → src = 2); let clean := srcBad s n a = none ∧ (two = true → srcBad s n b = none) ∧ (o = .mac → srcBad s n d = none) ∧ maskBad s n m = none; (issues s n gd [tCode a, dst] = true) ∧ (legal) ∧ (q.holds gd = true) ∧ ((startPoint q 0x3B).1 = 0) ∧ ((startPoint q 0x3B).2.1 = 0) ∧ (¬clean))) :=
  ⟨by decide +kernel,
    by decide +kernel,
    by decide +kernel,
    by decide +kernel,
    by decide +kernel⟩


/-- The hypotheses of `VectorElements` are met. -/
theorem wit_vectorElements :
    (let ty : Nat := 0; (ty < 3) ∧ (let w := tyBits ty; let r := ((.add, 0x7F) : VOp × Int); (True) ∧ (let fits := -2 ^ (w - 1) ≤ r.2 ∧ r.2 < 2 ^ (w - 1); (fits)))) ∧
    (let vm : VMode := (⟨0, true, false⟩ : VMode); let ty : Nat := 0; (ty < 3) ∧ (let w := tyBits ty; let r := ((.add, 0x80) : VOp × Int); (True) ∧ (let fits := -2 ^ (w - 1) ≤ r.2 ∧ r.2 < 2 ^ (w - 1); (¬fits) ∧ (vm.sat = true)))) ∧
    (let vm : VMode := (⟨0, false, false⟩ : VMode); let ty : Nat := 0; (ty < 3) ∧ (let w := tyBits ty; let r := ((.add, 0x80) : VOp × Int); (True) ∧ (let fits := -2 ^ (w - 1) ≤ r.2 ∧ r.2 < 2 ^ (w - 1); (¬fits) ∧ (vm.sat = false)))) ∧
    (let o : VOp := VOp.add; let e : Nat := 0; let d : List Nat := [5]; (e < d.length) ∧ (o ∉ [.sel, .cvt, .vcmpr, .vexpd, .rsum])) ∧
    (let o : VOp := VOp.sel; let e : Nat := 0; let d : List Nat := [5]; (e < d.length) ∧ (o = .sel)) ∧
    (let o : VOp := VOp.cvt; let e : Nat := 0; let d : List Nat := [5]; (e < d.length) ∧ (o = .cvt)) ∧
    (let o : VOp := VOp.rsum; let e : Nat := 0; let d : List Nat := [5]; (e < d.length) ∧ (o = .rsum)) ∧
    (let o : VOp := VOp.vcmpr; let e : Nat := 0; let d : List Nat := [5]; (e < d.length) ∧ (o = .vcmpr)) ∧
    (let o : VOp := VOp.vexpd; let e : Nat := 0; let d : List Nat := [5]; (e < d.length) ∧ (o = .vexpd)) :=
  ⟨by decide +kernel,
    by decide +kernel,
    by decide +kernel,
    by decide +kernel,
    by decide +kernel,
    by decide +kernel,
    by decide +kernel,
    by decide +kernel,
    by decide +kernel⟩


/-- The hypotheses of `FloatElements` are met. -/
theorem wit_floatElements :
    (let ty : Nat := 3; (ty = 3 ∨ ty = 4) ∧ (let f := tyFmt ty; let val := fun p => (f.dec false p).int; let finite := fun p => f.dec false p ≠ .nan ∧ ∀ neg, f.dec false p ≠ .inf neg; let a : Nat := 0x3C00; let b : Nat := 0x4000; (a < 65536) ∧ (b < 65536) ∧ (finite a) ∧ (finite b) ∧ (let u : Int := 2 ^ f.unit; let r := ((.add, 3 * 2 ^ 48) : VOp × Int); (True) ∧ ((finite 0x7BFF ∧ r.2.natAbs ≤ (val 0x7BFF * u).natAbs)) ∧ (let p := 0x7BFF; (p < 65536) ∧ (finite p))))) ∧
    (let ty : Nat := 3; (ty = 3 ∨ ty = 4) ∧ (let f := tyFmt ty; let vm : VMode := (⟨0, false, false⟩ : VMode); let a : Nat := 0x7E00; (f.dec vm.ftz a = .nan) ∧ (let o := VOp.mac; (o ∈ [VOp.add, .sub, .mul, .mac, .exp2, .log2, .rcp, .rsqrt])))) ∧
    (let ty : Nat := 3; (ty = 3 ∨ ty = 4) ∧ (let f := tyFmt ty; let vm : VMode := (⟨0, false, false⟩ : VMode); let a : Nat := 0x7E00; (f.dec vm.ftz a = .nan) ∧ (let dst := 2; (dst < 3)))) ∧
    (let ty : Nat := 3; (ty = 3 ∨ ty = 4) ∧ (let f := tyFmt ty; let vm : VMode := (⟨0, false, false⟩ : VMode); let a : Nat := 0x7E00; let b : Nat := 0x3C00; (a < 65536) ∧ (b < 65536) ∧ (f.dec false a = .nan) ∧ (vm.ftz = false) ∧ (f.dec false b ≠ .nan))) ∧
    (let ty : Nat := 3; (ty = 3 ∨ ty = 4) ∧ (let f := tyFmt ty; let finite := fun p => f.dec false p ≠ .nan ∧ ∀ neg, f.dec false p ≠ .inf neg; let dst : Nat := 2; let a : Nat := 0x7BFF; (dst < 3) ∧ (a < 65536) ∧ (finite a))) ∧
    (let ty : Nat := 3; (ty = 3 ∨ ty = 4)) :=
  ⟨by decide +kernel,
    by decide +kernel,
    by decide +kernel,
    by decide +kernel,
    by decide +kernel,
    by decide +kernel⟩


/-- The hypotheses of `TensorGroups` are met. -/
theorem wit_tensorGroups :
    (let x : Tensor := (⟨0, 0, 3, [1, 2, 3, 4], [1, 1, 1, 1]⟩ : Tensor); let z0 : Nat := 1; let z1 : Nat := 2; let z2 : Nat := 3; let z3 : Nat := 4; let i0 : Nat := 0; let i1 : Nat := 1; let i2 : Nat := 2; let i3 : Nat := 3; let k0 : Int := 1; let k1 : Int := 1; let k2 : Int := 1; let k3 : Int := 1; (x.sz = [z0, z1, z2, z3]) ∧ (x.st = [k0, k1, k2, k3]) ∧ (i0 < z0) ∧ (i1 < z1) ∧ (i2 < z2) ∧ (i3 < z3)) ∧
    (okB (run0) = true ∧ (let s : State := run0; let n : Nat := 5; (n < 192) ∧ (let t := s.tile n; let q := s.seq n; (t.poison = []) ∧ (q.badReg = [])))) :=
  ⟨by decide +kernel,
    ⟨wok_78, by decide +kernel⟩⟩

theorem wok_97 : okB (ts 0 1 []) = true := by decide +kernel
theorem wok_98 : okB (ts 0 5 []) = true := by decide +kernel
theorem wok_99 : okB (ts 2 0 []) = true := by decide +kernel
theorem wok_100 : okB (ts 1 0 []) = true := by decide +kernel

/-- The hypotheses of `TileControl` are met. -/
theorem wit_tileControl :
    (okB (ts 0 1 []) = true ∧ (let s : State := ts 0 1 []; let n : Nat := 5; (n < 192) ∧ (s.tileOn n = true) ∧ (tileHalted s n = true) ∧ (s.get (F.TILE_SEQ_STAT_HALT_REASON n) ≠ 5))) ∧
    (okB (ts 0 5 []) = true ∧ (let s : State := ts 0 5 []; let n : Nat := 5; (n < 192) ∧ (s.tileOn n = true) ∧ ((tileHalted s n = false ∨ s.get (F.TILE_SEQ_STAT_HALT_REASON n) = 5)))) ∧
    (okB (ts 2 0 []) = true ∧ (let s : State := ts 2 0 []; let n : Nat := 5; (n < 192) ∧ (s.tileOn n = true) ∧ (s.get (F.TILE_SEQ_STAT_STATE n) ≠ 0))) ∧
    (okB (ts 0 1 []) = true ∧ (let s : State := ts 0 1 []; let n : Nat := 5; (n < 192) ∧ (s.tileOn n = true) ∧ (s.get (F.TILE_SEQ_STAT_STATE n) = 0))) ∧
    (okB (ts 1 0 []) = true ∧ (let s : State := ts 1 0 []; let n : Nat := 5; (n < 192) ∧ (s.tileOn n = true) ∧ (tileHalted s n = false))) ∧
    (let s : State := ts 0 1 []; let n : Nat := 5; let i : Nat := 7; let k : Nat := 127; (n < 192) ∧ (s.tileOn n = true) ∧ (i < 8) ∧ (k < 128) ∧ (tileHalted s n = true)) ∧
    (let s : State := ts 1 0 []; let n : Nat := 5; let i : Nat := 7; let k : Nat := 127; (n < 192) ∧ (s.tileOn n = true) ∧ (i < 8) ∧ (k < 128) ∧ (tileHalted s n = false)) ∧
    (okB (ts 0 1 []) = true ∧ (let s : State := ts 0 1 []; let n : Nat := 5; let k : Nat := 1023; (n < 192) ∧ (s.tileOn n = true) ∧ (tileHalted s n = true) ∧ (k < 1024))) :=
  ⟨⟨wok_97, by decide +kernel⟩,
    ⟨wok_98, by decide +kernel⟩,
    ⟨wok_99, by decide +kernel⟩,
    ⟨wok_97, by decide +kernel⟩,
    ⟨wok_100, by decide +kernel⟩,
    by decide +kernel,
    by decide +kernel,
    ⟨wok_97, by decide +kernel⟩⟩

theorem wok_101 : okB (ts 1 0 [(F.TILE_CHG_CTL_QUIESCE 5, 1)]) = true := by decide +kernel
theorem wok_102 : okB (ts 1 0 [(F.NE_CTL_STAMP_INIT 5, 0), (F.NE_REG4_VALID 5 0, 1)]) = true := by decide +kernel
theorem wok_103 : okB (ts 1 0 nrReg) = true := by decide +kernel

/-- The hypotheses of `TileControl`, part EngineHold are met. -/
theorem wit_tileControl_engineHold :
    (okB (ts 1 0 []) = true ∧ (let s : State := ts 1 0 []; let n : Nat := 5; (n < 192) ∧ (s.tileOn n = true) ∧ (s.flag (F.TILE_CHG_CTL_HOLD n) = false))) ∧
    (okB (ts 1 0 [(F.TILE_CHG_CTL_QUIESCE 5, 1)]) = true ∧ (let s : State := ts 1 0 [(F.TILE_CHG_CTL_QUIESCE 5, 1)]; let n : Nat := 5; (n < 192) ∧ (s.tileOn n = true) ∧ ((s.flag (F.TILE_CHG_CTL_HOLD n) = true ∨ s.flag (F.TILE_CHG_CTL_QUIESCE n) = true)))) ∧
    (okB (ts 1 0 [(F.TILE_CHG_CTL_QUIESCE 5, 1)]) = true ∧ (let s : State := ts 1 0 [(F.TILE_CHG_CTL_QUIESCE 5, 1)]; let n : Nat := 5; (n < 192) ∧ (s.tileOn n = true) ∧ (s.flag (F.TILE_CHG_CTL_QUIESCE n) = true) ∧ (s.flag (F.EVF_FENCE_RX_DONE n) = false))) ∧
    (okB (ts 1 0 [(F.NE_CTL_STAMP_INIT 5, 0), (F.NE_REG4_VALID 5 0, 1)]) = true ∧ (let s : State := ts 1 0 [(F.NE_CTL_STAMP_INIT 5, 0), (F.NE_REG4_VALID 5 0, 1)]; let n : Nat := 5; (n < 192) ∧ (s.tileOn n = true) ∧ (s.flag (F.NE_CTL_EN n) = false) ∧ (s.flag (F.NE_CTL_STAMP_INIT n) = false) ∧ (let r := (regionOf (ts 1 0 [(F.NE_CTL_STAMP_INIT 5, 0), (F.NE_REG4_VALID 5 0, 1)]) 5 0).getD ⟨0, 0, 0, 0, 0, 0, 0, 0⟩; let rest := []; (regionsOf s n = r :: rest)))) ∧
    (okB (ts 1 0 nrReg) = true ∧ (let s : State := ts 1 0 nrReg; let n : Nat := 5; (n < 192) ∧ (s.tileOn n = true) ∧ (s.flag (F.NE_CTL_EN n) = true))) :=
  ⟨⟨wok_100, by decide +kernel⟩,
    ⟨wok_101, by decide +kernel⟩,
    ⟨wok_101, by decide +kernel⟩,
    ⟨wok_102, by decide +kernel⟩,
    ⟨wok_103, by decide +kernel⟩⟩


/-- The hypotheses of `NeuronEngine`, part NeuronRecords are met. -/
theorem wit_neuronEngine_neuronRecords :
    (okB (ts 1 0 nrReg) = true ∧ (let n : Nat := 5; let r : Region := nrR; let x : Rec := nrRec; (n < 192) ∧ ((∀ v ∈ x.v, v < 2 ^ 16)) ∧ (x.stamp < 2 ^ 16) ∧ (x.refr < 256) ∧ (x.user < 256) ∧ (let i := 3; (i < r.vars)))) ∧
    (okB (ts 1 0 nrReg) = true ∧ (let n : Nat := 5; let r : Region := nrR; let x : Rec := nrRec; (n < 192) ∧ ((∀ v ∈ x.v, v < 2 ^ 16)) ∧ (x.stamp < 2 ^ 16) ∧ (x.refr < 256) ∧ (x.user < 256) ∧ (r.fmt ≠ 0) ∧ (r.fmt ≠ 1))) ∧
    (okB (ts 1 0 nrReg) = true ∧ (let n : Nat := 5; let j : Nat := 9; let r : Region := nrR; let x : Rec := nrRec; (n < 192) ∧ ((∀ v ∈ x.v, v < 2 ^ 16)) ∧ (x.stamp < 2 ^ 16) ∧ (x.refr < 256) ∧ (x.user < 256) ∧ (let a := 0; ((a < r.addr j ∨ r.addr j + r.size ≤ a))))) ∧
    (let rest : Nat := 65535; let f : Nat := 32768; let v : Nat := 65535; (rest < 2 ^ 16) ∧ (v < 2 ^ 16) ∧ (f ≤ 2 ^ 15)) ∧
    (let ts : Nat := 15; let e : Nat := 63 * 2 ^ 15; (63 * 2 ^ ts ≤ e)) ∧
    (let ts : Nat := 15; let e : Nat := 63 * 2 ^ 15 - 1; (e < 63 * 2 ^ ts)) ∧
    (let s : State := ts 1 0 nrReg; let n : Nat := 5; let c : Nat := 65535; let r : Region := nrR; let x : Rec := nrRec; (r.vtype = 0) ∧ (x.v.length = 4) ∧ (x.stamp < 2 ^ 16) ∧ (c < 2 ^ 16) ∧ (let i := s.get (F.NE_CLS_00_IVAR n r.cls); let k := 1; (k ≠ i))) ∧
    (let s : State := ts 1 0 nrReg; let n : Nat := 5; let c : Nat := 65535; let r : Region := nrR; let x : Rec := nrRec; (r.vtype = 0) ∧ (x.v.length = 4) ∧ (x.stamp < 2 ^ 16) ∧ (c < 2 ^ 16) ∧ (let i := s.get (F.NE_CLS_00_IVAR n r.cls); (i < r.vars))) ∧
    (let s : State := ts 1 0 (nrReg ++ [(F.NE_CLS_00_IVAR 5 0, 3), (F.NE_REG4_FMT 5 0, 0)]); let n : Nat := 5; let c : Nat := 65535; let r : Region := (regionOf (ts 1 0 (nrReg ++ [(F.NE_REG4_FMT 5 0, 0)])) 5 0).getD nrR; let x : Rec := nrRec; (r.vtype = 0) ∧ (x.v.length = 4) ∧ (x.stamp < 2 ^ 16) ∧ (c < 2 ^ 16) ∧ (let i := s.get (F.NE_CLS_00_IVAR n r.cls); (r.vars ≤ i))) :=
  ⟨⟨wok_103, by decide +kernel⟩,
    ⟨wok_103, by decide +kernel⟩,
    ⟨wok_103, by decide +kernel⟩,
    by decide +kernel,
    by decide +kernel,
    by decide +kernel,
    by decide +kernel,
    by decide +kernel,
    by decide +kernel⟩

theorem wok_104 : okB (nrNe (fun x => { x with sweeping := true })) = true := by decide +kernel
theorem wok_105 : okB (nrNe (fun x => { x with resets := [⟨0, 1⟩] })) = true := by decide +kernel

/-- The hypotheses of `NeuronEngine`, part NeuronBatches are met. -/
theorem wit_neuronEngine_neuronBatches :
    (let s : State := ts 1 0 nrReg; let n : Nat := 5; (engineReady s n = true) ∧ ((s.ne n).queue = [])) ∧
    (let s : State := nrQ (nrIn 9 true); let n : Nat := 5; let i : NeIn := nrIn 9 true; (engineReady s n = true) ∧ ((s.ne n).queue = [i]) ∧ (i.evw.poisoned = true)) ∧
    (let s : State := nrQ (nrIn 10 false); let n : Nat := 5; let i : NeIn := nrIn 10 false; (engineReady s n = true) ∧ ((s.ne n).queue = [i]) ∧ (i.evw.poisoned = false) ∧ (targetRegion s n i.evw.target = none)) ∧
    (let s : State := let s := (nrQ (nrIn 9 false)).set (F.NE_CLS_1C_LEN 5 0) 3; s.setNe 5 { s.ne 5 with badWords := [0] }; let n : Nat := 5; let i : NeIn := nrIn 9 false; (engineReady s n = true) ∧ ((s.ne n).queue = [i]) ∧ (i.evw.poisoned = false) ∧ (let r := nrR; (targetRegion s n i.evw.target = some r) ∧ (inReset s n r = false) ∧ (classBad s n r = true))) ∧
    (let s : State := nrQ (nrIn 9 false); let n : Nat := 5; let i : NeIn := nrIn 9 false; (engineReady s n = true) ∧ ((s.ne n).queue = [i]) ∧ (i.evw.poisoned = false) ∧ (let r := nrR; (targetRegion s n i.evw.target = some r) ∧ (inReset s n r = false) ∧ (classBad s n r = false))) ∧
    (let s : State := let s := nrQ (nrIn 9 false); s.setNe 5 { s.ne 5 with resets := [⟨0, 1⟩] }; let n : Nat := 5; let i : NeIn := nrIn 9 false; (engineReady s n = true) ∧ ((s.ne n).queue = [i]) ∧ (i.evw.poisoned = false) ∧ (let r := nrR; (targetRegion s n i.evw.target = some r) ∧ (inReset s n r = true))) ∧
    (let s : State := nrQ (nrIn 9 false); let n : Nat := 5; let r : Region := nrR; let i : NeIn := nrIn 9 false; (s.flag (F.NE_CLS_00_STENCIL n r.cls) = false) ∧ (r.has i.evw.target = true)) ∧
    (let s : State := nrNe id; let n : Nat := 5; let r : Region := nrR; let rest : List Region := []; (engineRuns s n = true) ∧ ((s.ne n).sweeping = false) ∧ (regionsOf s n = r :: rest) ∧ ((s.ne n).passStart + 2 ^ (13 + kMin s n) ≤ s.T)) ∧
    (let s : State := nrNe (fun x => { x with sweeping := true, pos := 9 }); let n : Nat := 5; let r : Region := nrR; (engineRuns s n = true) ∧ ((s.ne n).sweeping = true) ∧ ((s.ne n).resets = []) ∧ (regionOf s n (s.ne n).region = some r) ∧ ((s.ne n).pos < r.inMemCount) ∧ (recBad (s.tile n) r (s.ne n).pos = none)) ∧
    (okB (nrNe (fun x => { x with sweeping := true })) = true ∧ (let s : State := nrNe (fun x => { x with sweeping := true }); let n : Nat := 5; let k : Nat := 0; let r : Region := nrR; (n < 192) ∧ (k < 8) ∧ (s.tileOn n = true) ∧ (s.flag (F.NE_CTL_EN n) = true) ∧ ((s.ne n).sweeping = true) ∧ (regionOf s n k = some r) ∧ ((s.ne n).passStart + 2 ^ (14 + r.k) ≤ s.T) ∧ (inReset s n r = false))) ∧
    (okB (nrNe (fun x => { x with resets := [⟨0, 1⟩] })) = true ∧ (let s : State := nrNe (fun x => { x with resets := [⟨0, 1⟩] }); let n : Nat := 5; let k : Nat := 0; let r : Region := nrR; let rest : List ResetPass := []; (n < 192) ∧ (k < 8) ∧ (engineRuns s n = true) ∧ ((s.ne n).resets = ⟨k, 1⟩ :: rest) ∧ (regionOf s n k = some r))) :=
  ⟨by decide +kernel,
    by decide +kernel,
    by decide +kernel,
    by decide +kernel,
    by decide +kernel,
    by decide +kernel,
    by decide +kernel,
    by decide +kernel,
    by decide +kernel,
    ⟨wok_104, by decide +kernel⟩,
    ⟨wok_105, by decide +kernel⟩⟩

theorem wok_106 : okB (cm id) = true := by decide +kernel
theorem wok_107 : okB (cmB (fun x => { x with session := true })) = true := by decide +kernel
theorem wok_108 : okB ((cm (fun x => { x with queued := some (511, 1) })).setCimq [(5, 3)]) = true := by decide +kernel
theorem wok_109 : okB (cm (fun x => { x with busy := some ⟨511, []⟩ })) = true := by decide +kernel

/-- The hypotheses of `CimPrograms` are met. -/
theorem wit_cimPrograms :
    (okB (cm id) = true ∧ (let s : State := cm id; let n : Nat := 5; let a : Nat := 3; let isB : Bool := true; (n < 192) ∧ (a < 4) ∧ (s.tileOn n = true) ∧ (let x := s.arr n a; (x.cb ≠ isB) ∧ (x.spare = none)))) ∧
    (okB (cm id) = true ∧ (let s : State := cm id; let n : Nat := 5; let a : Nat := 3; let isB : Bool := false; (n < 192) ∧ (a < 4) ∧ (s.tileOn n = true) ∧ (let x := s.arr n a; (x.cb = isB)))) ∧
    (okB (cmB (fun x => { x with session := true })) = true ∧ (let s : State := cmB (fun x => { x with session := true }); let n : Nat := 5; let a : Nat := 3; (n < 192) ∧ (a < 4) ∧ (s.tileOn n = true) ∧ (let x := s.arr n a; (x.session = true) ∧ (x.queued = none) ∧ (x.cb ≠ s.flag (F.CIM_A_PGM_BANK n a)) ∧ (s.cimq = [])))) ∧
    (okB (cm id) = true ∧ (let s : State := cm id; let n : Nat := 5; let a : Nat := 3; (n < 192) ∧ (a < 4) ∧ (s.tileOn n = true) ∧ (let x := s.arr n a; ((x.session = false ∨ x.queued.isSome = true))))) ∧
    (let s : State := cm id; ((s.get F.GLB_CIM_PGM ≤ slotsUsed s ∨ s.cimq = []))) ∧
    (okB ((cm (fun x => { x with queued := some (511, 1) })).setCimq [(5, 3)]) = true ∧ (let s : State := (cm (fun x => { x with queued := some (511, 1) })).setCimq [(5, 3)]; let n : Nat := 5; let a : Nat := 3; let row : Nat := 511; let buf : Nat := 1; let rest : List (Nat × Nat) := []; (n < 192) ∧ (a < 4) ∧ (slotsUsed s < s.get F.GLB_CIM_PGM) ∧ (s.cimq = (n, a) :: rest) ∧ ((s.arr n a).busy = none) ∧ ((s.arr n a).queued = some (row, buf)))) ∧
    (okB (cm (fun x => { x with busy := some ⟨511, []⟩ })) = true ∧ (let s : State := cm (fun x => { x with busy := some ⟨511, []⟩ }); let n : Nat := 5; let a : Nat := 3; let j : RowJob := ⟨511, []⟩; (n < 192) ∧ (a < 4) ∧ (s.tileOn n = true) ∧ ((s.arr n a).busy = some j) ∧ (s.cimq = []) ∧ (s.fw.tasks = []) ∧ (j.row < 512))) ∧
    (let b : Bank := ({} : Bank); let p : Nat := 267; (sparseWf (fun _ => (0 : Int)) b.cells = true) ∧ (p < 268)) ∧
    (okB (cmB (fun x => { x with session := true })) = true ∧ (let s : State := cmB (fun x => { x with session := true }); let n : Nat := 5; let a : Nat := 3; (n < 192) ∧ (a < 4) ∧ (s.tileOn n = true) ∧ (let x := s.arr n a; (x.session = true) ∧ (x.busy = none) ∧ (x.queued = none) ∧ (x.cb ≠ s.flag (F.CIM_A_PGM_BANK n a))))) ∧
    (okB (cm id) = true ∧ (let s : State := cm id; let n : Nat := 5; let a : Nat := 3; (n < 192) ∧ (a < 4) ∧ (s.tileOn n = true) ∧ (let x := s.arr n a; ((x.session = false ∨ x.busy.isSome = true ∨ x.queued.isSome = true))))) :=
  ⟨⟨wok_106, by decide +kernel⟩,
    ⟨wok_106, by decide +kernel⟩,
    ⟨wok_107, by decide +kernel⟩,
    ⟨wok_106, by decide +kernel⟩,
    by decide +kernel,
    ⟨wok_108, by decide +kernel⟩,
    ⟨wok_109, by decide +kernel⟩,
    by decide +kernel,
    ⟨wok_107, by decide +kernel⟩,
    ⟨wok_106, by decide +kernel⟩⟩

theorem wok_110 : okB (cm (fun x => { x with win := cmWin 0 })) = true := by decide +kernel
theorem wok_111 : okB (cm (fun x => { x with win := cmWin 10000000 })) = true := by decide +kernel
theorem wok_112 : okB (cmCal (fun x => { x with a := { state := .valid } })) = true := by decide +kernel
theorem wok_113 : okB (cmCal (fun x => { x with a := { state := .valid }, burst := 1 })) = true := by decide +kernel
theorem wok_114 : okB (let s := cm id; s.setCim 5 { (s.tile 5).cim with assay := [(F.ASSAY_CFG_EN 5).off, (F.ASSAY_CFG_ASSAY_EP 5).off].map (fun k => (k, 0xFFFF)) }) = true := by decide +kernel

/-- The hypotheses of `CimCalibration` are met. -/
theorem wit_cimCalibration :
    (okB (cm (fun x => { x with win := cmWin 0 })) = true ∧ (let s : State := cm (fun x => { x with win := cmWin 0 }); let n : Nat := 5; let a : Nat := 3; (n < 192) ∧ (a < 4) ∧ (s.tileOn n = true) ∧ (windowFull (s.arr n a).win = true) ∧ (let x := s.arr n a; let w := x.win; let bad := w.lim % 2 ^ 16 * (30 * (w.sumN : Int)) < w.gain.natAbs * 2 ^ 14 ∨ w.lim / 2 ^ 16 % 256 * (w.n : Int) < 4 * w.offs.natAbs ∨ w.lim / 2 ^ 24 % 256 * (w.n : Int) < 4 * w.lin; (¬bad)))) ∧
    (okB (cm (fun x => { x with win := cmWin 10000000 })) = true ∧ (let s : State := cm (fun x => { x with win := cmWin 10000000 }); let n : Nat := 5; let a : Nat := 3; (n < 192) ∧ (a < 4) ∧ (s.tileOn n = true) ∧ (windowFull (s.arr n a).win = true) ∧ (let x := s.arr n a; let w := x.win; let bad := w.lim % 2 ^ 16 * (30 * (w.sumN : Int)) < w.gain.natAbs * 2 ^ 14 ∨ w.lim / 2 ^ 16 % 256 * (w.n : Int) < 4 * w.offs.natAbs ∨ w.lim / 2 ^ 24 % 256 * (w.n : Int) < 4 * w.lin; (bad)))) ∧
    (let den : Nat := 2; (0 < den)) ∧
    (okB (cmCal (fun x => { x with a := { state := .valid } })) = true ∧ (let s : State := cmCal (fun x => { x with a := { state := .valid } }); let n : Nat := 5; let a : Nat := 3; (n < 192) ∧ (a < 4) ∧ (s.tileOn n = true) ∧ ((s.arr n a).burst = 0) ∧ ((s.arr n a).burstDone = false) ∧ (s.flag (F.CIM_TS_CTL_INJECT n a) = true) ∧ (inCalSlot s n = true) ∧ ((s.arr n a).cbank.state = .valid))) ∧
    (okB (cmCal (fun x => { x with a := { state := .valid }, burst := 1 })) = true ∧ (let s : State := cmCal (fun x => { x with a := { state := .valid }, burst := 1 }); let n : Nat := 5; let a : Nat := 3; (n < 192) ∧ (a < 4) ∧ (s.tileOn n = true) ∧ ((s.seq n).mprog.toNat < 2 ^ 31) ∧ ((s.arr n a).burst = 1))) ∧
    (okB (cm id) = true ∧ (let s : State := cm id; let n : Nat := 5; let a : Nat := 3; (n < 192) ∧ (a < 4) ∧ (n < s.cfg.tiles) ∧ (s.tileOn n = true) ∧ (s.mgtOn = true) ∧ ((s.arr n a).convSec < 2 ^ 32))) ∧
    (okB (cm id) = true ∧ (let s : State := cm id; let n : Nat := 5; (n < 192) ∧ (s.tileOn n = true) ∧ (assayOn s n = false) ∧ (s.epochNum % s.get (F.ASSAY_CFG_ASSAY_EP n) = 0))) ∧
    (okB (let s := cm id; s.setCim 5 { (s.tile 5).cim with assay := [(F.ASSAY_CFG_EN 5).off, (F.ASSAY_CFG_ASSAY_EP 5).off].map (fun k => (k, 0xFFFF)) }) = true ∧ (let s : State := let s := cm id; s.setCim 5 { (s.tile 5).cim with assay := [(F.ASSAY_CFG_EN 5).off, (F.ASSAY_CFG_ASSAY_EP 5).off].map (fun k => (k, 0xFFFF)) }; let n : Nat := 5; (n < 192) ∧ (s.tileOn n = true) ∧ (assayOn s n = true) ∧ (s.epochNum % assayGet s n (F.ASSAY_CFG_ASSAY_EP n) = 0))) :=
  ⟨⟨wok_110, by decide +kernel⟩,
    ⟨wok_111, by decide +kernel⟩,
    by decide +kernel,
    ⟨wok_112, by decide +kernel⟩,
    ⟨wok_113, by decide +kernel⟩,
    ⟨wok_106, by decide +kernel⟩,
    ⟨wok_106, by decide +kernel⟩,
    ⟨wok_114, by decide +kernel⟩⟩

theorem wok_115 : okB (cm (fun x => { x with scan := some true })) = true := by decide +kernel
theorem wok_116 : okB (cm (fun x => { x with spare := some (false, 7, 255) })) = true := by decide +kernel

/-- The hypotheses of `CimCalibration`, part MarginsAndSpares are met. -/
theorem wit_cimCalibration_marginsAndSpares :
    (okB (cm id) = true ∧ (let s : State := cm id; let n : Nat := 5; let a : Nat := 3; let margin : BitVec 4 := 6#4; (n < 192) ∧ (a < 4) ∧ (s.tileOn n = true) ∧ (6 ≤ margin.toNat) ∧ (margin.toNat ≤ 9))) ∧
    (okB (cm id) = true ∧ (let s : State := cm id; let n : Nat := 5; let a : Nat := 3; let margin : BitVec 4 := 5#4; (n < 192) ∧ (a < 4) ∧ (s.tileOn n = true) ∧ ((margin.toNat < 6 ∨ 9 < margin.toNat)))) ∧
    (okB (cm (fun x => { x with scan := some true })) = true ∧ (let s : State := cm (fun x => { x with scan := some true }); let n : Nat := 5; let a : Nat := 3; let failed : List Nat := [1, 2]; (n < 192) ∧ (a < 4) ∧ (s.tileOn n = true) ∧ ((s.arr n a).scan = some (!(s.arr n a).cb)) ∧ (s.fw.tasks = []) ∧ (failed.Nodup))) ∧
    (okB (cm id) = true ∧ (let s : State := cm id; let n : Nat := 5; let a : Nat := 3; let spare : BitVec 3 := 7#3; (n < 192) ∧ (a < 4) ∧ (s.tileOn n = true) ∧ (let x := s.arr n a; let st := (x.cbank.subst.getD spare.toNat (0, 0)).2; ((st = 0 ∨ st = 3)) ∧ (x.spare = none)))) ∧
    (okB (cm (fun x => { x with spare := some (false, 7, 255) })) = true ∧ (let s : State := cm (fun x => { x with spare := some (false, 7, 255) }); let n : Nat := 5; let a : Nat := 3; let spare : BitVec 3 := 7#3; (n < 192) ∧ (a < 4) ∧ (s.tileOn n = true) ∧ (let x := s.arr n a; let st := (x.cbank.subst.getD spare.toNat (0, 0)).2; ((st = 1 ∨ st = 2 ∨ x.spare.isSome = true))))) ∧
    (okB (cm (fun x => { x with spare := some (false, 7, 255) })) = true ∧ (let s : State := cm (fun x => { x with spare := some (false, 7, 255) }); let n : Nat := 5; let a : Nat := 3; let sp : Nat := 7; let pair : Nat := 255; let isB : Bool := false; (n < 192) ∧ (a < 4) ∧ (sp < 8) ∧ (s.tileOn n = true) ∧ (s.cimq = []) ∧ ((s.arr n a).spare = some (isB, sp, pair)) ∧ (((s.arr n a).bank isB).subst.length = 8))) ∧
    (okB (cm id) = true ∧ (let s : State := cm id; let n : Nat := 5; let a : Nat := 3; (n < 192) ∧ (a < 4) ∧ (s.tileOn n = true) ∧ (s.fw.plan = none))) ∧
    (okB (cm id) = true ∧ (let s : State := cm id; let n : Nat := 5; let a : Nat := 3; (n < 192) ∧ (a < 4) ∧ (n < s.cfg.tiles))) :=
  ⟨⟨wok_106, by decide +kernel⟩,
    ⟨wok_106, by decide +kernel⟩,
    ⟨wok_115, by decide +kernel⟩,
    ⟨wok_106, by decide +kernel⟩,
    ⟨wok_116, by decide +kernel⟩,
    ⟨wok_116, by decide +kernel⟩,
    ⟨wok_106, by decide +kernel⟩,
    ⟨wok_106, by decide +kernel⟩⟩

theorem wok_117 : okB (syCtr 9) = true := by decide +kernel
theorem wok_118 : okB (syBad) = true := by decide +kernel
theorem wok_119 : okB (syWait 50) = true := by decide +kernel

/-- The hypotheses of `CounterLaws` are met. -/
theorem wit_counterLaws :
    (let c : Nat := 0; let h : Nat := 2 ^ 32 - 1; (c < 2 ^ 32) ∧ (h < 2 ^ 32)) ∧
    (okB (syCtr 9) = true ∧ (let s : State := syCtr 9; let key : Nat := 0x10005; let op : Nat := 1; let v : Nat := 5; (op ≠ 3) ∧ (v < 2 ^ 32) ∧ (ctrOf s key < 2 ^ 32) ∧ (let k := 0; (k ≠ key)))) ∧
    (okB (syBad) = true ∧ (let s : State := syBad; let key : Nat := 0x10005; let op : Nat := 1; let v : Nat := 5; (op ≠ 3) ∧ (v < 2 ^ 32) ∧ (ctrOf s key < 2 ^ 32) ∧ (s.sync.poison.contains key = true) ∧ (op ≠ 0))) ∧
    (okB (syCtr 9) = true ∧ (let s : State := syCtr 9; let key : Nat := 0x10005; let op : Nat := 0; let v : Nat := 5; (op ≠ 3) ∧ (v < 2 ^ 32) ∧ (ctrOf s key < 2 ^ 32) ∧ (op = 0))) ∧
    (okB (syWait 50) = true ∧ (let s : State := syWait 50; let key : Nat := 0x10005; let op : Nat := 1; let v : Nat := 5; (op ≠ 3) ∧ (v < 2 ^ 32) ∧ (ctrOf s key < 2 ^ 32) ∧ ((s.sync.poison.contains key = false ∨ op = 0)) ∧ (let w := ⟨0x10005, 5, 3, 20, 50⟩; (w ∈ s.sync.waits)))) ∧
    (okB (syCtr 9) = true ∧ (let s : State := syCtr 9; let key : Nat := 0x10005; let v : Nat := 5; (s.sync.poison.contains key = false) ∧ (s.sync.waits = []) ∧ ((∀ k < 64, s.flag (F.SYNC_WATCH_CTL_ARM k) = false)) ∧ (meets (ctrOf s key) v = true))) ∧
    (okB (syCtr 9) = true ∧ (let s : State := syCtr 9; let key : Nat := 0x10005; let v : Nat := 10; let lim : Nat := 9; (s.sync.poison.contains key = false) ∧ (s.sync.waits = []) ∧ ((∀ k < 64, s.flag (F.SYNC_WATCH_CTL_ARM k) = false)) ∧ (meets (ctrOf s key) v = false) ∧ (0 < lim))) ∧
    (let s : State := run5 (fun q => { q with sb := [⟨3, 39, none, false, true⟩] }); let n : Nat := 5; let tag : Nat := 3; let e : SbEntry := ⟨3, 39, none, false, true⟩; (n < s.tiles.length) ∧ ((s.seq n).sb = [e]) ∧ (e.tag = tag) ∧ (e.value = none) ∧ (e.dst < 40)) :=
  ⟨by decide +kernel,
    ⟨wok_117, by decide +kernel⟩,
    ⟨wok_118, by decide +kernel⟩,
    ⟨wok_117, by decide +kernel⟩,
    ⟨wok_119, by decide +kernel⟩,
    ⟨wok_117, by decide +kernel⟩,
    ⟨wok_117, by decide +kernel⟩,
    by decide +kernel⟩


/-- The hypotheses of `CountersAndWindows`, part CounterTraffic are met. -/
theorem wit_countersAndWindows_counterTraffic :
    (let s : State := syQ (200 * 2 ^ 12) 1; let n : Nat := 5; let r : SyncReq := syR (200 * 2 ^ 12) 1; let rest : List SyncReq := []; (s.fabOn = true) ∧ (n < s.cfg.tiles) ∧ ((s.seq n).syncq = r :: rest) ∧ (handleKey s r.handle (some n) true = none)) ∧
    (let s : State := syQ (5 * 2 ^ 12 + 3) 1; let n : Nat := 5; let key : Nat := 0x10000 + 5 * 512 + 3; let r : SyncReq := syR (5 * 2 ^ 12 + 3) 1; let rest : List SyncReq := []; (s.fabOn = true) ∧ (n < s.cfg.tiles) ∧ ((s.seq n).syncq = r :: rest) ∧ (handleKey s r.handle (some n) true = some key) ∧ (homeNode key = n)) ∧
    (let s : State := syQ (6 * 2 ^ 12) 1; let n : Nat := 5; let key : Nat := 0x10000 + 6 * 512; let r : SyncReq := syR (6 * 2 ^ 12) 1; let rest : List SyncReq := []; (s.fabOn = true) ∧ (n < s.cfg.tiles) ∧ ((s.seq n).syncq = r :: rest) ∧ (handleKey s r.handle (some n) true = some key) ∧ (homeNode key ≠ n) ∧ ((r.op ≠ 3 ∨ key < 0x10000)) ∧ (hasCredit s n true = true)) ∧
    (let s : State := syFull; let n : Nat := 5; let key : Nat := 0x10000 + 6 * 512; let r : SyncReq := syR (6 * 2 ^ 12) 1; let rest : List SyncReq := []; (s.fabOn = true) ∧ (n < s.cfg.tiles) ∧ ((s.seq n).syncq = r :: rest) ∧ (handleKey s r.handle (some n) true = some key) ∧ (homeNode key ≠ n) ∧ ((r.op ≠ 3 ∨ key < 0x10000)) ∧ (hasCredit s n true = false)) ∧
    (let s : State := syQ (6 * 2 ^ 12) 3; let n : Nat := 5; let key : Nat := 0x10000 + 6 * 512; let r : SyncReq := syR (6 * 2 ^ 12) 3; let rest : List SyncReq := []; (s.fabOn = true) ∧ (n < s.cfg.tiles) ∧ ((s.seq n).syncq = r :: rest) ∧ (handleKey s r.handle (some n) true = some key) ∧ (homeNode key ≠ n) ∧ (r.op = 3) ∧ (0x10000 ≤ key)) ∧
    (let s : State := syRx 1; let n : Nat := 5; let d : Nat := 5; let src : Nat := 2; let f : SyncFlit := { op := 1, index := 1 }; let l : List Item := []; (s.fabOn = true) ∧ (s.rx n = ⟨d, src, .sync f⟩ :: l) ∧ (f.op ≠ 6)) ∧
    (let s : State := syRx 6; let n : Nat := 5; let d : Nat := 5; let src : Nat := 2; let f : SyncFlit := { op := 6, index := 1 }; let l : List Item := []; (s.fabOn = true) ∧ (s.rx n = ⟨d, src, .sync f⟩ :: l) ∧ (f.op = 6) ∧ (n < 0xF00)) ∧
    (let s : State := syWin; let node : Nat := 0; let key : Nat := 0x10005; let op : Nat := 1; let v : Nat := 3; let rest : List (Nat × Nat × Nat) := []; (s.fabOn = true) ∧ (s.sync.window = (key, op, v) :: rest) ∧ (homeNode key = node)) ∧
    (let s : State := syWait 50; let i : Nat := 0; let w : Wait := ⟨0x10005, 5, 3, 20, 50⟩; (s.sync.waits[i]? = some w) ∧ (w.deadline ≤ s.T)) ∧
    (let s : State := syWait 2000000000; let i : Nat := 0; let w : Wait := ⟨0x10005, 5, 3, 20, 2000000000⟩; (s.sync.waits[i]? = some w) ∧ (s.T < w.deadline)) ∧
    (okB (syCtr 9) = true ∧ True) :=
  ⟨by decide +kernel,
    by decide +kernel,
    by decide +kernel,
    by decide +kernel,
    by decide +kernel,
    by decide +kernel,
    by decide +kernel,
    by decide +kernel,
    by decide +kernel,
    by decide +kernel,
    ⟨wok_117, trivial⟩⟩

theorem wok_120 : okB ((mk []).setReg (F.SYNC_WATCH_HANDLE_IDX 63).off (BitVec.ofNat 32 (2 ^ 31 + 32767))) = true := by decide +kernel
theorem wok_121 : okB (sySlot false) = true := by decide +kernel
theorem wok_122 : okB (sySlot true) = true := by decide +kernel

/-- The hypotheses of `CountersAndWindows`, part WindowsAndMailboxes are met. -/
theorem wit_countersAndWindows_windowsAndMailboxes :
    (let s : State := syHost []; let n : Nat := 191; let i : Nat := 5; (s.fabOn = true) ∧ (i < 32768) ∧ (n < s.cfg.tiles) ∧ (n < 192) ∧ (let l := 511; (l < 512) ∧ (s.hstOn = true) ∧ (reachAll s = true) ∧ (s.flag F.SYNC_HOSTWR_LOCAL_EN = false))) ∧
    (let s : State := syHost []; let n : Nat := 191; let i : Nat := 5; (s.fabOn = true) ∧ (i < 32768) ∧ (n < s.cfg.tiles) ∧ (n < 192) ∧ (s.hstOn = true) ∧ (reachAll s = true) ∧ ((s.get F.SYNC_HOSTWR_LO ≤ i ∧ i ≤ s.get F.SYNC_HOSTWR_HI))) ∧
    (let s : State := syHost []; let n : Nat := 191; let i : Nat := 6; (s.fabOn = true) ∧ (i < 32768) ∧ (n < s.cfg.tiles) ∧ (n < 192) ∧ (s.hstOn = true) ∧ (reachAll s = true) ∧ (¬(s.get F.SYNC_HOSTWR_LO ≤ i ∧ i ≤ s.get F.SYNC_HOSTWR_HI))) ∧
    (okB ((mk []).setReg (F.SYNC_WATCH_HANDLE_IDX 63).off (BitVec.ofNat 32 (2 ^ 31 + 32767))) = true ∧ (let s : State := (mk []).setReg (F.SYNC_WATCH_HANDLE_IDX 63).off (BitVec.ofNat 32 (2 ^ 31 + 32767)); let k : Nat := 63; let key : Nat := 32767; (s.fabOn = true) ∧ (k < 64) ∧ (s.reg (F.SYNC_WATCH_HANDLE_IDX k).off = BitVec.ofNat 32 (2 ^ 31 + key)) ∧ (key < 32768) ∧ (s.sync.poison.contains key = false))) ∧
    (okB (sySlot false) = true ∧ (let s : State := sySlot false; let k : Nat := 4095; let n : Nat := 191; let len : Nat := 8; (s.fabOn = true) ∧ (k < 4096) ∧ (n < 192) ∧ ((s.slot k).writer = some (n, len)) ∧ ((s.slot k).held = none) ∧ ((s.slot k).tail = false))) ∧
    (okB (sySlot true) = true ∧ (let s : State := sySlot true; let k : Nat := 4095; let n : Nat := 191; let len : Nat := 8; (s.fabOn = true) ∧ (k < 4096) ∧ (n < 192) ∧ ((s.slot k).writer = some (n, len)) ∧ ((s.slot k).held = none) ∧ ((s.slot k).tail = true))) ∧
    (let s : State := syReady; let k : Nat := 4095; let v : Word := 3; (s.hstOn = true) ∧ (reachAll s = true) ∧ (s.fabOn = true) ∧ (k < 4096) ∧ ((s.slot k).ready = true ∧ v.toNat = (s.slot k).seq)) ∧
    (let s : State := syReady; let k : Nat := 4095; let v : Word := 2; (s.hstOn = true) ∧ (reachAll s = true) ∧ (s.fabOn = true) ∧ (k < 4096) ∧ (((s.slot k).ready = false ∨ v.toNat ≠ (s.slot k).seq))) :=
  ⟨by decide +kernel,
    by decide +kernel,
    by decide +kernel,
    ⟨wok_120, by decide +kernel⟩,
    ⟨wok_121, by decide +kernel⟩,
    ⟨wok_122, by decide +kernel⟩,
    by decide +kernel,
    by decide +kernel⟩

theorem wok_123 : okB (ldXs false) = true := by decide +kernel
theorem wok_124 : okB (ldXs true) = true := by decide +kernel
theorem wok_125 : okB (ldChg) = true := by decide +kernel

/-- The hypotheses of `LadleTransfers` are met. -/
theorem wit_ladleTransfers :
    (okB (mk []) = true ∧ (let s : State := mk []; (s.fabOn = true) ∧ (s.flag F.LDL_CTL_EN = false))) ∧
    (let s : State := ldFar; (s.fabOn = true) ∧ (s.flag F.LDL_CTL_EN = true) ∧ (s.ladle.pos < (segmentOf s s.ladle.target).2) ∧ (let tgt := s.ladle.target; let idx := ((segmentOf s tgt).1 + s.ladle.pos) % 65536; let d := descOf s idx; let inReach := ahead s tgt ≤ s.get F.LDL_CTL_RUNAHEAD ∧ ahead s tgt ≤ dLead d; (¬inReach))) ∧
    (let s : State := ldS 5 0x2000 0; (s.fabOn = true) ∧ (s.flag F.LDL_CTL_EN = true) ∧ (s.ladle.pos < (segmentOf s s.ladle.target).2) ∧ (let tgt := s.ladle.target; let idx := ((segmentOf s tgt).1 + s.ladle.pos) % 65536; let d := descOf s idx; let inReach := ahead s tgt ≤ s.get F.LDL_CTL_RUNAHEAD ∧ ahead s tgt ≤ dLead d; (inReach) ∧ (s.ladle.xfers.length < 512) ∧ (let c := 3; (descCause s d = some c)))) ∧
    (let s : State := ldLp; (s.fabOn = true) ∧ (s.flag F.LDL_CTL_EN = true) ∧ (s.ladle.pos < (segmentOf s s.ladle.target).2) ∧ (let tgt := s.ladle.target; let idx := ((segmentOf s tgt).1 + s.ladle.pos) % 65536; let d := descOf s idx; let inReach := ahead s tgt ≤ s.get F.LDL_CTL_RUNAHEAD ∧ ahead s tgt ≤ dLead d; (inReach) ∧ (s.ladle.xfers.length < 512) ∧ (descCause s d = none) ∧ (dVen d = false) ∧ (let a := .pool 0x1000; let b := .lp 0x2000; (locOf s (dSrc d) (srcSize d) = some a) ∧ (locOf s (dDst d) (dstSize d) = some b) ∧ (let c := 8; (pathCause s a b = some c))))) ∧
    (let s : State := ldS 0 0x2000 0; (s.fabOn = true) ∧ (s.flag F.LDL_CTL_EN = true) ∧ (s.ladle.pos < (segmentOf s s.ladle.target).2) ∧ (let tgt := s.ladle.target; let idx := ((segmentOf s tgt).1 + s.ladle.pos) % 65536; let d := descOf s idx; let inReach := ahead s tgt ≤ s.get F.LDL_CTL_RUNAHEAD ∧ ahead s tgt ≤ dLead d; (inReach) ∧ (s.ladle.xfers.length < 512) ∧ (descCause s d = none) ∧ (dVen d = false) ∧ (let a := .pool 0x1000; let b := .pool 0x2000; (locOf s (dSrc d) (srcSize d) = some a) ∧ (locOf s (dDst d) (dstSize d) = some b) ∧ (pathCause s a b = none)))) ∧
    (okB (ldXs false) = true ∧ (let s : State := ldXs false; let i : Nat := 0; let x : Xfer := ldX false; let a : Nat := 0x1000; let b : Nat := 0x2000; (s.fabOn = true) ∧ (s.ladle.xfers[i]? = some x) ∧ (x.phase = .direct) ∧ (dOp x.desc = 0) ∧ (dDoneEn x.desc = false) ∧ (locOf s (dSrc x.desc) (dLen x.desc) = some (.pool a)) ∧ (locOf s (dDst x.desc) (dLen x.desc) = some (.pool b)) ∧ (s.mem.poolBad = []) ∧ ((a + dLen x.desc ≤ b ∨ b + dLen x.desc ≤ a)) ∧ (dLen x.desc % 64 = 0) ∧ (x.gate = false))) ∧
    (okB (ldXs true) = true ∧ (let s : State := ldXs true; let i : Nat := 0; let x : Xfer := ldX true; let a : Nat := 0x1000; let b : Nat := 0x2000; (s.fabOn = true) ∧ (s.ladle.xfers[i]? = some x) ∧ (x.phase = .direct) ∧ (dOp x.desc = 0) ∧ (dDoneEn x.desc = false) ∧ (locOf s (dSrc x.desc) (dLen x.desc) = some (.pool a)) ∧ (locOf s (dDst x.desc) (dLen x.desc) = some (.pool b)) ∧ (s.mem.poolBad = []) ∧ ((a + dLen x.desc ≤ b ∨ b + dLen x.desc ≤ a)) ∧ (dLen x.desc % 64 = 0) ∧ (x.gate = true))) ∧
    (let s : State := ldXs true; let i : Nat := 0; let x : Xfer := ldX true; (s.fabOn = true) ∧ (s.ladle.xfers[i]? = some x) ∧ ((x.gate = true ∨ x.desc.getD 6 0 / 2 ^ 31 % 2 = 1))) ∧
    (let s : State := (mk fbNrt).setLadle { xfers := [ldW] }; let i : Nat := 0; let key : Nat := 0x10000 + 6 * 512 + 5; let x : Xfer := ldW; (s.fabOn = true) ∧ (s.ladle.xfers[i]? = some x) ∧ (x.gate = false) ∧ (x.desc.getD 6 0 / 2 ^ 31 % 2 = 0) ∧ (dWaitEn x.desc = true) ∧ (handleKey s (x.desc.getD 6 0) none true = some key) ∧ (s.sync.poison.contains key = false)) ∧
    (okB (ldChg) = true ∧ (let s : State := ldChg; let key : Nat := 77; let v : Nat := 6; let k : Nat := 3; let rest : List (Nat × Nat) := []; (s.sync.changed = (key, v) :: rest) ∧ (s.ladle.xfers = []) ∧ (k < 64) ∧ (s.flag (F.LDL_VP_VALID k) = true) ∧ (s.get (F.LDL_VP_GIDX k) = key) ∧ ((∀ j < 64, j ≠ k → s.flag (F.LDL_VP_VALID j) = false ∨ s.get (F.LDL_VP_GIDX j) ≠ key)))) ∧
    (let s : State := ldDec []; let v : Nat := 20; (targetOf s (v / 4) = none)) ∧
    (let s : State := ldDec [(3, 1, 2)]; let k : Nat := 3; let v : Nat := 6; let d := 1; (targetOf s (v / 4) = some d) ∧ ((decisionOf s k d).isSome = true)) ∧
    (let s : State := ldDec []; let k : Nat := 3; let v : Nat := 6; let d := 1; (targetOf s (v / 4) = some d) ∧ (decisionOf s k d = none) ∧ (let x := ldV; (x ∈ s.ladle.xfers) ∧ (dVen x.desc = true) ∧ (dPoint x.desc = k) ∧ (x.target = d) ∧ (x.phase = .staged) ∧ (dVar x.desc = v % 4))) :=
  ⟨⟨wok_45, by decide +kernel⟩,
    by decide +kernel,
    by decide +kernel,
    by decide +kernel,
    by decide +kernel,
    ⟨wok_123, by decide +kernel⟩,
    ⟨wok_124, by decide +kernel⟩,
    by decide +kernel,
    by decide +kernel,
    ⟨wok_125, by decide +kernel⟩,
    by decide +kernel,
    by decide +kernel,
    by decide +kernel⟩

theorem wok_126 : okB (hr) = true := by decide +kernel
theorem wok_127 : okB (hrStop) = true := by decide +kernel

/-- The hypotheses of `HostInterface`, part HostResetsAndRings are met. -/
theorem wit_hostInterface_hostResetsAndRings :
    (okB (hr) = true ∧ (let s : State := hr; let w : Nat := 8; let sp : Nat := 5; (s.hstOn = true) ∧ ((w = 4 ∨ w = 8)) ∧ ((sp = 4 ∨ sp = 5)))) ∧
    (okB (hrStop) = true ∧ (let s : State := hrStop; (s.hstOn = true) ∧ (ringsServe s = true) ∧ (s.flag F.HST_RING_CTL_EN = false))) ∧
    (let s : State := mk []; (s.hstOn = true) ∧ (ringsServe s = false)) ∧
    (okB (hr) = true ∧ (let s : State := hr; (s.hstOn = true) ∧ (benchRuns s = true) ∧ (s.flag F.HST_RING_CTL_EN = true))) :=
  ⟨⟨wok_126, by decide +kernel⟩,
    ⟨wok_127, by decide +kernel⟩,
    by decide +kernel,
    ⟨wok_126, by decide +kernel⟩⟩

theorem wok_128 : okB (hrAp) = true := by decide +kernel

/-- The hypotheses of `HostInterface`, part HostMemory are met. -/
theorem wit_hostInterface_hostMemory :
    (okB (hrAp) = true ∧ (let s : State := hrAp; let k : Nat := 15; let b : BitVec 24 := 0x37F#24; (s.hstOn = true) ∧ (k < 16) ∧ (b.toNat = 0x100000 ∨ b.toNat * 2 ^ 24 < lpBytes s))) ∧
    (okB (hrAp) = true ∧ (let s : State := hrAp; let k : Nat := 15; let b : BitVec 24 := 0x380#24; (s.hstOn = true) ∧ (k < 16) ∧ (b.toNat ≠ 0x100000) ∧ (lpBytes s ≤ b.toNat * 2 ^ 24))) ∧
    (let s : State := hrAp; let o : Nat := 0x2000005; let k : Nat := 2; (reachAll s = true) ∧ (k < 16) ∧ (o / 2 ^ 24 = k) ∧ (s.flag (F.HST_AP_VALID k) = true) ∧ (s.get (F.HST_AP_BASE k) = 0x100000) ∧ (s.fabOn = true)) ∧
    (let s : State := hrAp; let o : Nat := 0x1000005; let k : Nat := 1; (reachAll s = true) ∧ (k < 16) ∧ (o / 2 ^ 24 = k) ∧ (s.flag (F.HST_AP_VALID k) = true) ∧ (s.get (F.HST_AP_BASE k) ≠ 0x100000) ∧ (s.flag F.MEM_STAT_READY = true) ∧ (s.flag F.MEM_STAT_SR = false) ∧ (s.get (F.HST_AP_BASE k) * 2 ^ 24 + o % 2 ^ 24 < lpBytes s)) ∧
    (let s : State := hrAp; let o : Nat := 0x1000000; let a : Nat := 0x2000000; let n : Nat := 9; (s.hstOn = true) ∧ ((∀ i < n, bar4At s (o + i) = .lp (a + i)))) ∧
    (let s : State := hrAp; let o : Nat := 0x4000000; let n : Nat := 9; (s.hstOn = true) ∧ (reachAll s = true) ∧ (0 < n) ∧ ((∀ i < n, bar4At s (o + i) = .unbacked))) ∧
    (okB (hrAp) = true ∧ (let s : State := hrAp; let o : Nat := 0x2000003; let a : Nat := 3; let d : List Byte := [1, 2, 0, 4]; (s.hstOn = true) ∧ ((∀ i < d.length, bar4At s (o + i) = .pool (a + i))))) :=
  ⟨⟨wok_128, by decide +kernel⟩,
    ⟨wok_128, by decide +kernel⟩,
    by decide +kernel,
    by decide +kernel,
    by decide +kernel,
    by decide +kernel,
    ⟨wok_128, by decide +kernel⟩⟩


/-- The hypotheses of `HostCommands`, part CommandRing are met. -/
theorem wit_hostCommands_commandRing :
    (let s : State := mk []; let e : List Byte := ent 0 []; let x := (Instr.nop (ent 0 []), 0, false); (True) ∧ (e.length = 64) ∧ (leAt e 0 2 = x.2.1) ∧ (mayTake s = false)) ∧
    (let s : State := hrJob; let e : List Byte := ent 1 []; let x := (Instr.planLoad (ent 1 []) none, 1, true); (True) ∧ (e.length = 64) ∧ (leAt e 0 2 = x.2.1) ∧ (mayTake s = true) ∧ (x.2.2 = true) ∧ (s.fw.job.isSome = true)) ∧
    (let s : State := hr; let e : List Byte := ent 0 [(63, 1)]; let x := (Instr.nop (ent 0 [(63, 1)]), 0, false); (True) ∧ (e.length = 64) ∧ (leAt e 0 2 = x.2.1) ∧ (mayTake s = true) ∧ ((x.2.2 = false ∨ s.fw.job = none)) ∧ (zerosOk e = false)) ∧
    (let s : State := hr; let e : List Byte := ent 2 []; let x := (Instr.planReplace (ent 2 []) none, 2, true); (True) ∧ (e.length = 64) ∧ (leAt e 0 2 = x.2.1) ∧ (mayTake s = true) ∧ (s.fw.job = none) ∧ (zerosOk e = true) ∧ (s.fw.plan = none) ∧ (x.2.1 ∈ [2, 0x10, 0x11, 0x12])) ∧
    (let s : State := hr; let e : List Byte := ent 0 []; let x := (Instr.nop (ent 0 []), 0, false); (True) ∧ (e.length = 64) ∧ (leAt e 0 2 = x.2.1) ∧ (mayTake s = true) ∧ (zerosOk e = true) ∧ (x.2.1 = 0)) ∧
    (let s : State := hr; let e : List Byte := ent 9 []; (e.length = 64) ∧ (mayTake s = true) ∧ (leAt e 0 2 ∉ [0, 1, 2, 3, 4, 0x10, 0x11, 0x12, 0x13, 0x14, 0x20])) ∧
    (let s : State := hr; (mayTake s = true)) ∧
    (okB (hr) = true ∧ (let s : State := hr; (s.get F.HST_CMDQ_SIZE ≤ 12))) ∧
    (let e : List Byte := ent 2 [(8, 3)]; (zerosOk e = true) ∧ (let i := 8; (i < 64) ∧ (4 ≤ i) ∧ (e.getD i 0 ≠ 0))) :=
  ⟨by decide +kernel,
    by decide +kernel,
    by decide +kernel,
    by decide +kernel,
    by decide +kernel,
    by decide +kernel,
    by decide +kernel,
    ⟨wok_126, by decide +kernel⟩,
    by decide +kernel⟩

theorem wok_129 : okB (hrFull) = true := by decide +kernel
theorem wok_130 : okB (hr.clear F.HST_RING_CTL_NTF_EN) = true := by decide +kernel
theorem wok_131 : okB (hrLost) = true := by decide +kernel

/-- The hypotheses of `HostCommands`, part CompletionsAndNotifications are met. -/
theorem wit_hostCommands_completionsAndNotifications :
    (okB (hrStop) = true ∧ (let s : State := hrStop; let d : Done := ⟨7, 2, 1, 5⟩; let rest : List Done := []; (s.hst.done = d :: rest) ∧ (benchRuns s = true) ∧ (paused s = false) ∧ (s.hstOn = true) ∧ (s.get F.HST_CPLQ_SIZE ≤ 12) ∧ (s.flag F.HST_RING_CTL_EN = false))) ∧
    (okB (hrFull) = true ∧ (let s : State := hrFull; let d : Done := ⟨7, 2, 1, 5⟩; let rest : List Done := []; (s.hst.done = d :: rest) ∧ (benchRuns s = true) ∧ (paused s = false) ∧ (s.hstOn = true) ∧ (s.get F.HST_CPLQ_SIZE ≤ 12) ∧ (s.flag F.HST_RING_CTL_EN = true) ∧ (2 ^ s.get F.HST_CPLQ_SIZE ≤ cplUsed s + 1))) ∧
    (okB (hr) = true ∧ (let s : State := hr; let d : Done := ⟨7, 2, 1, 5⟩; let rest : List Done := []; (s.hst.done = d :: rest) ∧ (benchRuns s = true) ∧ (paused s = false) ∧ (s.hstOn = true) ∧ (s.get F.HST_CPLQ_SIZE ≤ 12) ∧ (s.flag F.HST_RING_CTL_EN = true) ∧ (cplUsed s + 1 < 2 ^ s.get F.HST_CPLQ_SIZE) ∧ (s.flag (F.HST_MSIX_CTL 0) = false))) ∧
    (okB (hr.clear F.HST_RING_CTL_NTF_EN) = true ∧ (let s : State := hr.clear F.HST_RING_CTL_NTF_EN; let m : Note := ⟨3, 4, 5, 6⟩; let rest : List Note := []; (s.hst.notes = m :: rest) ∧ (benchRuns s = true) ∧ (paused s = false) ∧ (s.hstOn = true) ∧ (s.hst.lost = 0) ∧ (s.get F.HST_NTFQ_SIZE ≤ 12) ∧ (s.flag (F.HST_MSIX_CTL 1) = false) ∧ (1 ≤ m.source) ∧ (s.flag F.HST_RING_CTL_NTF_EN = false ∨ s.get F.HST_NTF_MASK / 2 ^ (m.source - 1) % 2 = 0))) ∧
    (okB (hrFull) = true ∧ (let s : State := hrFull; let m : Note := ⟨3, 4, 5, 6⟩; let rest : List Note := []; (s.hst.notes = m :: rest) ∧ (benchRuns s = true) ∧ (paused s = false) ∧ (s.hstOn = true) ∧ (s.hst.lost = 0) ∧ (s.get F.HST_NTFQ_SIZE ≤ 12) ∧ (s.flag (F.HST_MSIX_CTL 1) = false) ∧ (1 ≤ m.source) ∧ (s.flag F.HST_RING_CTL_NTF_EN = true) ∧ (s.get F.HST_NTF_MASK / 2 ^ (m.source - 1) % 2 = 1) ∧ (2 ^ s.get F.HST_NTFQ_SIZE ≤ ntfUsed s + 1))) ∧
    (okB (hr) = true ∧ (let s : State := hr; let m : Note := ⟨3, 4, 5, 6⟩; let rest : List Note := []; (s.hst.notes = m :: rest) ∧ (benchRuns s = true) ∧ (paused s = false) ∧ (s.hstOn = true) ∧ (s.hst.lost = 0) ∧ (s.get F.HST_NTFQ_SIZE ≤ 12) ∧ (s.flag (F.HST_MSIX_CTL 1) = false) ∧ (1 ≤ m.source) ∧ (s.flag F.HST_RING_CTL_NTF_EN = true) ∧ (s.get F.HST_NTF_MASK / 2 ^ (m.source - 1) % 2 = 1) ∧ (ntfUsed s + 1 < 2 ^ s.get F.HST_NTFQ_SIZE))) ∧
    (okB (hrLost) = true ∧ (let s : State := hrLost; (benchRuns s = true) ∧ (paused s = false) ∧ (s.hstOn = true) ∧ (0 < s.hst.lost) ∧ (s.get F.HST_NTFQ_SIZE ≤ 12) ∧ (s.flag F.HST_RING_CTL_NTF_EN = true) ∧ (ntfUsed s + 1 < 2 ^ s.get F.HST_NTFQ_SIZE) ∧ (s.flag (F.HST_MSIX_CTL 1) = false))) :=
  ⟨⟨wok_127, by decide +kernel⟩,
    ⟨wok_129, by decide +kernel⟩,
    ⟨wok_126, by decide +kernel⟩,
    ⟨wok_130, by decide +kernel⟩,
    ⟨wok_129, by decide +kernel⟩,
    ⟨wok_126, by decide +kernel⟩,
    ⟨wok_131, by decide +kernel⟩⟩

theorem wok_132 : okB (p1) = true := by decide +kernel
theorem wok_133 : okB (p3) = true := by decide +kernel
theorem wok_134 : okB (p4) = true := by decide +kernel

/-- The hypotheses of `PlanCommands` are met. -/
theorem wit_planCommands :
    (okB (hr) = true ∧ (let s : State := hr; let e : List Byte := ent 1 [(16, 64)]; (e.length = 64) ∧ (leAt e 0 2 = 1) ∧ (mayTake s = true) ∧ (s.fw.job = none) ∧ (zerosOk e = true) ∧ (planThere s = false) ∧ (s.flag F.PMU_QUENCH_ACTIVE = false))) ∧
    (okB (p1) = true ∧ (let s : State := p1; let e : List Byte := ent 2 [(16, 64)]; let p : Plan := pl; (e.length = 64) ∧ (leAt e 0 2 = 2) ∧ (mayTake s = true) ∧ (s.fw.job = none) ∧ (zerosOk e = true) ∧ (planThere s = true) ∧ (s.fw.plan = some p))) ∧
    (okB (p1) = true ∧ (let s : State := p1; let e : List Byte := ent 3 []; (e.length = 64) ∧ (leAt e 0 2 = 3) ∧ (mayTake s = true) ∧ (zerosOk e = true) ∧ (s.fw.job.all (fun j => j.op != 1) = true))) ∧
    (okB (p3) = true ∧ (let s : State := p3; let e : List Byte := ent 3 []; (e.length = 64) ∧ (leAt e 0 2 = 3) ∧ (mayTake s = true) ∧ (zerosOk e = true) ∧ (let j := { op := 1, cid := 5 }; (s.fw.job = some j) ∧ (j.op = 1) ∧ (j.host = true)))) ∧
    (okB (p1) = true ∧ (let s : State := p1; let e : List Byte := ent 4 []; (e.length = 64) ∧ (leAt e 0 2 = 4) ∧ (mayTake s = true) ∧ (s.fw.job = none) ∧ (zerosOk e = true))) ∧
    (let s : State := p1; let e : List Byte := ent 0x20 [(8, 12), (9, 1)]; (e.length = 64) ∧ (leAt e 0 2 = 0x20) ∧ (mayTake s = true) ∧ (zerosOk e = true) ∧ (let k := leAt e 8 1; let o := leAt e 9 1; (s.clusters ≤ k ∨ 3 < o))) ∧
    (let s : State := p1; let e : List Byte := ent 0x20 [(8, 2), (9, 3)]; (e.length = 64) ∧ (leAt e 0 2 = 0x20) ∧ (mayTake s = true) ∧ (zerosOk e = true) ∧ (let k := leAt e 8 1; let o := leAt e 9 1; (k < s.clusters) ∧ (o ≤ 3) ∧ (oppVerdict k o (taken s) = 0))) ∧
    (let s : State := p1; let e : List Byte := ent 0x20 [(8, 2), (9, 0)]; (e.length = 64) ∧ (leAt e 0 2 = 0x20) ∧ (mayTake s = true) ∧ (zerosOk e = true) ∧ (let k := leAt e 8 1; let o := leAt e 9 1; (k < s.clusters) ∧ (o ≤ 3) ∧ (oppVerdict k o (taken s) = 1))) ∧
    (let s : State := p1.raise F.PMU_QUENCH_ACTIVE; let e : List Byte := ent 0x20 [(8, 2), (9, 3)]; (e.length = 64) ∧ (leAt e 0 2 = 0x20) ∧ (mayTake s = true) ∧ (zerosOk e = true) ∧ (let k := leAt e 8 1; let o := leAt e 9 1; (k < s.clusters) ∧ (o ≤ 3) ∧ (oppVerdict k o (taken s) = 2))) ∧
    (okB (p1) = true ∧ (let s : State := p1; let e : List Byte := ent 0x14 []; (e.length = 64) ∧ (leAt e 0 2 = 0x14) ∧ (mayTake s = true) ∧ (s.fw.job = none) ∧ (zerosOk e = true) ∧ (s.get F.GLB_BOOT_SLOT ≤ 1))) ∧
    (okB (p4) = true ∧ (let s : State := p4; let j : Job := { op := 0x14, cid := 5 }; (s.fw.job = some j) ∧ (j.op = 0x14) ∧ (j.host = true))) :=
  ⟨⟨wok_126, by decide +kernel⟩,
    ⟨wok_132, by decide +kernel⟩,
    ⟨wok_132, by decide +kernel⟩,
    ⟨wok_133, by decide +kernel⟩,
    ⟨wok_132, by decide +kernel⟩,
    by decide +kernel,
    by decide +kernel,
    by decide +kernel,
    by decide +kernel,
    ⟨wok_132, by decide +kernel⟩,
    ⟨wok_134, by decide +kernel⟩⟩


/-- The hypotheses of `ProceduresBegin` are met. -/
theorem wit_proceduresBegin :
    (okB (p1) = true ∧ (let s : State := p1; let e : List Byte := ent 0x10 [(8, 0)]; let p : Plan := pl; (e.length = 64) ∧ (leAt e 0 2 = 0x10) ∧ (mayTake s = true) ∧ (s.fw.job = none) ∧ (zerosOk e = true) ∧ (planThere s = true) ∧ (s.fw.plan = some p) ∧ (moveParamOk p e = false))) ∧
    (okB (p1) = true ∧ (let s : State := p1; let e : List Byte := ent 0x10 [(8, 1), (16, 20), (17, 192), (18, 8)]; let p : Plan := pl; (e.length = 64) ∧ (leAt e 0 2 = 0x10) ∧ (mayTake s = true) ∧ (s.fw.job = none) ∧ (zerosOk e = true) ∧ (planThere s = true) ∧ (s.fw.plan = some p) ∧ (leAt e 8 1 = 1) ∧ (moveParamOk p e = true) ∧ (goldenUsable s p (leAt e 16 1) = true) ∧ (let n := leAt e 17 1; (s.cfg.tiles ≤ n ∨ s.get (F.tileRole n) ≠ 0)))) ∧
    (okB (p1) = true ∧ (let s : State := p1; let e : List Byte := ent 0x10 [(8, 1), (16, 20), (17, 36), (18, 8)]; let p : Plan := pl; (e.length = 64) ∧ (leAt e 0 2 = 0x10) ∧ (mayTake s = true) ∧ (s.fw.job = none) ∧ (zerosOk e = true) ∧ (planThere s = true) ∧ (s.fw.plan = some p) ∧ (leAt e 8 1 = 1) ∧ (moveParamOk p e = true) ∧ (goldenUsable s p (leAt e 16 1) = true) ∧ (let i := leAt e 16 1; let n := leAt e 17 1; let old := runTile s i; (s.tileOn n = true) ∧ (s.get (F.tileRole n) = 0) ∧ (old ≠ n) ∧ (old < 192) ∧ (p.ofTy 9 = []) ∧ (s.fw.tasks = []) ∧ (s.flag F.PMU_QUENCH_ACTIVE = false) ∧ (p.oppMin.getD (old / 16) 0 ≤ s.get (F.PMU_CLU_FLOOR (n / 16))) ∧ (s.get (F.PMU_CLU_FLOOR (n / 16)) ≤ s.get (F.PMU_CLU_OPP (n / 16))) ∧ (s.get (F.PMU_CLU_FLOOR (n / 16)) ≤ s.get (F.PMU_CLU_OPP_REQ (n / 16)))))) ∧
    (okB (p1) = true ∧ (let s : State := p1; let e : List Byte := ent 0x11 [(8, 21)]; let p : Plan := pl; (e.length = 64) ∧ (leAt e 0 2 = 0x11) ∧ (mayTake s = true) ∧ (s.fw.job = none) ∧ (zerosOk e = true) ∧ (planThere s = true) ∧ (s.fw.plan = some p) ∧ (let i := leAt e 8 1; let n := runTile s i; (p.tiles.contains i = false ∨ mayReload s n = false)))) ∧
    (okB (p1) = true ∧ (let s : State := p1; let e : List Byte := ent 0x11 [(8, 20), (10, 8)]; let p : Plan := pl; (e.length = 64) ∧ (leAt e 0 2 = 0x11) ∧ (mayTake s = true) ∧ (s.fw.job = none) ∧ (zerosOk e = true) ∧ (planThere s = true) ∧ (s.fw.plan = some p) ∧ (let i := leAt e 8 1; let n := runTile s i; (p.tiles.contains i = true) ∧ (mayReload s n = true) ∧ (goldenUsable s p i = true) ∧ (n < 192) ∧ (p.ofTy 10 = []) ∧ (p.ofTy 7 = [])))) ∧
    (okB (p1) = true ∧ (let s : State := p1; let e : List Byte := ent 0x12 [(16, 64)]; let p : Plan := pl; (e.length = 64) ∧ (leAt e 0 2 = 0x12) ∧ (mayTake s = true) ∧ (s.fw.job = none) ∧ (zerosOk e = true) ∧ (planThere s = true) ∧ (s.fw.plan = some p))) ∧
    (okB (p1) = true ∧ (let s : State := p1; let e : List Byte := ent 0x13 [(8, 0), (9, 3)]; (e.length = 64) ∧ (leAt e 0 2 = 0x13) ∧ (mayTake s = true) ∧ (s.fw.job = none) ∧ (zerosOk e = true) ∧ (let n := leAt e 9 1; (leAt e 8 1 = 0) ∧ (present s n = true)))) ∧
    (okB (p1) = true ∧ (let s : State := p1; let e : List Byte := ent 0x13 [(8, 0), (9, 10)]; (e.length = 64) ∧ (leAt e 0 2 = 0x13) ∧ (mayTake s = true) ∧ (s.fw.job = none) ∧ (zerosOk e = true) ∧ (let n := leAt e 9 1; (leAt e 8 1 = 0) ∧ (present s n = false)))) ∧
    (okB (p1) = true ∧ (let s : State := p1; let e : List Byte := ent 0x13 [(8, 1), (9, 16)]; (e.length = 64) ∧ (leAt e 0 2 = 0x13) ∧ (mayTake s = true) ∧ (s.fw.job = none) ∧ (zerosOk e = true) ∧ (let n := leAt e 9 1; (leAt e 8 1 = 1) ∧ (16 ≤ n)))) ∧
    (okB (p1) = true ∧ (let s : State := p1; let e : List Byte := ent 0x13 [(8, 1), (9, 3)]; (e.length = 64) ∧ (leAt e 0 2 = 0x13) ∧ (mayTake s = true) ∧ (s.fw.job = none) ∧ (zerosOk e = true) ∧ (let n := leAt e 9 1; (leAt e 8 1 = 1) ∧ (n < 16) ∧ (s.ingOn = true) ∧ (s.chState n = 5)))) :=
  ⟨⟨wok_132, by decide +kernel⟩,
    ⟨wok_132, by decide +kernel⟩,
    ⟨wok_132, by decide +kernel⟩,
    ⟨wok_132, by decide +kernel⟩,
    ⟨wok_132, by decide +kernel⟩,
    ⟨wok_132, by decide +kernel⟩,
    ⟨wok_132, by decide +kernel⟩,
    ⟨wok_132, by decide +kernel⟩,
    ⟨wok_132, by decide +kernel⟩,
    ⟨wok_132, by decide +kernel⟩⟩

theorem wok_135 : okB ((mk []).clear (F.PF1_MSIX_CTL 1)) = true := by decide +kernel
theorem wok_136 : okB ((mk []).clear (F.PF1_MSIX_CTL 0)) = true := by decide +kernel

/-- The hypotheses of `Mailbox`, part MailboxProtocol are met. -/
theorem wit_mailbox_mailboxProtocol :
    (let s : State := mk []; (tmRow Instr.getStatus = some 1) ∧ (s.touch.reqs = [])) ∧
    (let msg : Nat := 1; let s : State := b0 (rq 2 []); (tmRow Instr.getStatus = some 1) ∧ (let r : List Byte := rq 2 []; let w : Bool := true; let rest : List (List Byte × Bool) := rsvd; (s.touch.reqs = (r, w) :: rest) ∧ (leAt r 0 2 ≠ msg ∨ tmPresent s = false))) ∧
    (let msg : Nat := 1; let s : State := lcS 15 (rq 1 []) false; (tmRow Instr.getStatus = some 1) ∧ (let r : List Byte := rq 1 []; let w : Bool := true; let rest : List (List Byte × Bool) := rsvd; (s.touch.reqs = (r, w) :: rest) ∧ (leAt r 0 2 = msg) ∧ (tmPresent s = true) ∧ (w = true) ∧ (s.lc = 4))) ∧
    (let msg : Nat := 3; let s : State := (b0 (rq 3 [])).set F.GLB_BOOT_STAGE 0; (tmRow Instr.getStatus = some 1) ∧ (let r : List Byte := rq 3 []; let w : Bool := true; let rest : List (List Byte × Bool) := rsvd; (s.touch.reqs = (r, w) :: rest) ∧ (leAt r 0 2 = msg) ∧ (tmPresent s = true) ∧ (w = true) ∧ (s.lc ≠ 4) ∧ (s.stage = 0) ∧ (romServes r = false))) ∧
    (let msg : Nat := 1; let s : State := b0 (leBytes 2 1 ++ [1, 0]); (tmRow Instr.getStatus = some 1) ∧ (let r : List Byte := leBytes 2 1 ++ [1, 0]; let w : Bool := true; let rest : List (List Byte × Bool) := rsvd; (s.touch.reqs = (r, w) :: rest) ∧ (leAt r 0 2 = msg) ∧ (tmPresent s = true) ∧ (w = true) ∧ (s.lc ≠ 4) ∧ (s.stage ≠ 0) ∧ (leAt r 2 2 ≠ 0))) ∧
    (let s : State := let s := b0 []; s.setTouch { s.touch with reqs := [(rq 4 [], false)] }; let r : List Byte := rq 4 []; let rest : List (List Byte × Bool) := []; (s.touch.reqs = (r, false) :: rest) ∧ (tmPresent s = true) ∧ (leAt r 0 2 = 4)) ∧
    (okB ((mk []).clear (F.PF1_MSIX_CTL 1)) = true ∧ (let s : State := (mk []).clear (F.PF1_MSIX_CTL 1); let data : List Byte := [1, 2, 3, 4, 5]; (s.hstOn = true) ∧ (data.length ≤ 4092) ∧ (s.flag (F.PF1_MSIX_CTL 1) = false))) ∧
    (okB ((mk []).clear (F.PF1_MSIX_CTL 0)) = true ∧ (let s : State := (mk []).clear (F.PF1_MSIX_CTL 0); let data : List Byte := [1, 2, 3, 4, 5]; (s.hstOn = true) ∧ (data.length ≤ 4092) ∧ (s.flag (F.PF1_MSIX_CTL 0) = false))) ∧
    (let s : State := b0 (rq 0x101 []); let r : List Byte := rq 0x101 []; let rest : List (List Byte × Bool) := []; (s.fw.reqs = (r, true) :: rest) ∧ (benchRuns s = true) ∧ (paused s = false) ∧ (leAt r 2 2 = 0) ∧ (leAt r 0 2 = 0x101) ∧ (let i := ⟨1, leBytes 256 (7 + 2 ^ 96 * 9 + 2 ^ 300 * 12345)⟩; (s.touch.bench = some i))) ∧
    (let s : State := b0 (rq 0x102 []); let r : List Byte := rq 0x102 []; let rest : List (List Byte × Bool) := []; let text : List Byte := [65]; (s.fw.reqs = (r, true) :: rest) ∧ (benchRuns s = true) ∧ (paused s = false) ∧ (leAt r 2 2 = 0) ∧ (leAt r 0 2 = 0x102) ∧ (text.length ≤ 4000)) ∧
    (let s : State := b0 (rq 0x103 []); let r : List Byte := rq 0x103 []; let rest : List (List Byte × Bool) := []; (s.fw.reqs = (r, true) :: rest) ∧ (benchRuns s = true) ∧ (paused s = false) ∧ (leAt r 2 2 = 0) ∧ (leAt r 0 2 = 0x103)) :=
  ⟨by decide +kernel,
    by decide +kernel,
    by decide +kernel,
    by decide +kernel,
    by decide +kernel,
    by decide +kernel,
    ⟨wok_135, by decide +kernel⟩,
    ⟨wok_136, by decide +kernel⟩,
    by decide +kernel,
    by decide +kernel,
    by decide +kernel⟩


/-- The hypotheses of `Mailbox`, part StatusAndAttestation are met. -/
theorem wit_mailbox_statusAndAttestation :
    (let s : State := b0 (rq 1 []); let r : List Byte := rq 1 []; let rest : List (List Byte × Bool) := rsvd; (tmAsked s 1 r rest)) ∧
    (let s : State := b0 (rq 2 []); let r : List Byte := rq 2 []; let rest : List (List Byte × Bool) := rsvd; (tmAsked s 2 r rest) ∧ (s.touch.trngBad = false)) ∧
    (let s : State := bBad (rq 2 []); let r : List Byte := rq 2 []; let rest : List (List Byte × Bool) := rsvd; (tmAsked s 2 r rest) ∧ (s.touch.trngBad = true)) ∧
    (let s : State := bBad (rq 3 []); let r : List Byte := rq 3 []; let rest : List (List Byte × Bool) := rsvd; (tmAsked s 3 r rest) ∧ (s.touch.trngBad = true)) ∧
    (let s : State := b0 (rq 3 (leBytes 31 0)); let r : List Byte := rq 3 (leBytes 31 0); let rest : List (List Byte × Bool) := rsvd; (tmAsked s 3 r rest) ∧ (s.touch.trngBad = false) ∧ (r.length < 36)) ∧
    (let s : State := b0 (rq 3 (leBytes 32 0)); let r : List Byte := rq 3 (leBytes 32 0); let rest : List (List Byte × Bool) := rsvd; (tmAsked s 3 r rest) ∧ (s.touch.trngBad = false) ∧ (36 ≤ r.length)) ∧
    (let s : State := b0 (rq 4 []); let r : List Byte := rq 4 []; let rest : List (List Byte × Bool) := rsvd; (tmAsked s 4 r rest)) ∧
    (let s : State := b0 []; (s.secOn = true)) :=
  ⟨by decide +kernel,
    by decide +kernel,
    by decide +kernel,
    by decide +kernel,
    by decide +kernel,
    by decide +kernel,
    by decide +kernel,
    by decide +kernel⟩

theorem wok_137 : okB (b0 (R10 3 1)) = true := by decide +kernel
theorem wok_138 : okB (bUpd (R10 2 0)) = true := by decide +kernel
theorem wok_139 : okB (b0 (R10 2 0)) = true := by decide +kernel
theorem wok_140 : okB (bUpd (R11 0 20)) = true := by decide +kernel
theorem wok_141 : okB (let s := bUpd (R11 40 20); s.setTouch { s.touch with update := some { upd with len := 50 } }) = true := by decide +kernel
theorem wok_142 : okB (bUpd (R11 40 20)) = true := by decide +kernel
theorem wok_143 : okB (b0 (rq 0x12 [])) = true := by decide +kernel
theorem wok_144 : okB (bUpd (rq 0x12 [])) = true := by decide +kernel
theorem wok_145 : okB (b0 (rq 0x13 [])) = true := by decide +kernel
theorem wok_146 : okB (bUpd (rq 0x13 [])) = true := by decide +kernel
theorem wok_147 : okB (b0 (rq 0x14 [3, 0, 1])) = true := by decide +kernel

/-- The hypotheses of `FirmwareUpdates` are met. -/
theorem wit_firmwareUpdates :
    (okB (b0 (R10 3 1)) = true ∧ (let s : State := b0 (R10 3 1); let r : List Byte := R10 3 1; let rest : List (List Byte × Bool) := rsvd; (tmAsked s 0x10 r rest) ∧ (11 ≤ r.length) ∧ (1 ≤ leAt r 4 2) ∧ (leAt r 4 2 ≤ 3) ∧ (leAt r 6 1 ≤ 1) ∧ (leAt r 7 4 ≤ flashSize (leAt r 4 2)) ∧ (let kind := leAt r 4 2; let slot := leAt r 6 1; ((inUse s kind).any (fun i => i.slot == slot) = true)))) ∧
    (okB (bUpd (R10 2 0)) = true ∧ (let s : State := bUpd (R10 2 0); let r : List Byte := R10 2 0; let rest : List (List Byte × Bool) := rsvd; (tmAsked s 0x10 r rest) ∧ (11 ≤ r.length) ∧ (1 ≤ leAt r 4 2) ∧ (leAt r 4 2 ≤ 3) ∧ (leAt r 6 1 ≤ 1) ∧ (leAt r 7 4 ≤ flashSize (leAt r 4 2)) ∧ (let kind := leAt r 4 2; let slot := leAt r 6 1; ((inUse s kind).any (fun i => i.slot == slot) = false) ∧ (s.touch.update.isSome = true)))) ∧
    (okB (b0 (R10 2 0)) = true ∧ (let s : State := b0 (R10 2 0); let r : List Byte := R10 2 0; let rest : List (List Byte × Bool) := rsvd; (tmAsked s 0x10 r rest) ∧ (11 ≤ r.length) ∧ (1 ≤ leAt r 4 2) ∧ (leAt r 4 2 ≤ 3) ∧ (leAt r 6 1 ≤ 1) ∧ (leAt r 7 4 ≤ flashSize (leAt r 4 2)) ∧ (let kind := leAt r 4 2; let slot := leAt r 6 1; ((inUse s kind).any (fun i => i.slot == slot) = false) ∧ (s.touch.update = none) ∧ (paused s = false)))) ∧
    (okB (bUpd (R11 0 20)) = true ∧ (let s : State := bUpd (R11 0 20); let r : List Byte := R11 0 20; let rest : List (List Byte × Bool) := rsvd; let up : Update := upd; (tmAsked s 0x11 r rest) ∧ (s.touch.update = some up) ∧ (8 ≤ r.length) ∧ (r.length ≤ 4008) ∧ (1 ≤ up.kind) ∧ (up.kind ≤ 3) ∧ (up.slot ≤ 1) ∧ (up.len ≤ flashSize up.kind) ∧ (leAt r 4 4 ≠ up.got))) ∧
    (okB (let s := bUpd (R11 40 20); s.setTouch { s.touch with update := some { upd with len := 50 } }) = true ∧ (let s : State := let s := bUpd (R11 40 20); s.setTouch { s.touch with update := some { upd with len := 50 } }; let r : List Byte := R11 40 20; let rest : List (List Byte × Bool) := rsvd; let up : Update := { upd with len := 50 }; (tmAsked s 0x11 r rest) ∧ (s.touch.update = some up) ∧ (8 ≤ r.length) ∧ (r.length ≤ 4008) ∧ (1 ≤ up.kind) ∧ (up.kind ≤ 3) ∧ (up.slot ≤ 1) ∧ (up.len ≤ flashSize up.kind) ∧ (let d := r.drop 8; (leAt r 4 4 = up.got) ∧ (up.len < up.got + d.length)))) ∧
    (okB (bUpd (R11 40 20)) = true ∧ (let s : State := bUpd (R11 40 20); let r : List Byte := R11 40 20; let rest : List (List Byte × Bool) := rsvd; let up : Update := upd; (tmAsked s 0x11 r rest) ∧ (s.touch.update = some up) ∧ (8 ≤ r.length) ∧ (r.length ≤ 4008) ∧ (1 ≤ up.kind) ∧ (up.kind ≤ 3) ∧ (up.slot ≤ 1) ∧ (up.len ≤ flashSize up.kind) ∧ (let d := r.drop 8; (leAt r 4 4 = up.got) ∧ (up.got + d.length ≤ up.len)))) ∧
    (okB (b0 (rq 0x12 [])) = true ∧ (let s : State := b0 (rq 0x12 []); let r : List Byte := rq 0x12 []; let rest : List (List Byte × Bool) := rsvd; (tmAsked s 0x12 r rest) ∧ (s.touch.update = none))) ∧
    (okB (bUpd (rq 0x12 [])) = true ∧ (let s : State := bUpd (rq 0x12 []); let r : List Byte := rq 0x12 []; let rest : List (List Byte × Bool) := rsvd; (tmAsked s 0x12 r rest) ∧ (let up := upd; (s.touch.update = some up) ∧ (up.held.length ≤ 4096)))) ∧
    (okB (b0 (rq 0x13 [])) = true ∧ (let s : State := b0 (rq 0x13 []); let r : List Byte := rq 0x13 []; let rest : List (List Byte × Bool) := rsvd; (tmAsked s 0x13 r rest) ∧ (s.touch.update = none))) ∧
    (okB (bUpd (rq 0x13 [])) = true ∧ (let s : State := bUpd (rq 0x13 []); let r : List Byte := rq 0x13 []; let rest : List (List Byte × Bool) := rsvd; (tmAsked s 0x13 r rest) ∧ (s.touch.update.isSome = true))) ∧
    (okB (b0 (rq 0x14 [3, 0, 1])) = true ∧ (let s : State := b0 (rq 0x14 [3, 0, 1]); let r : List Byte := rq 0x14 [3, 0, 1]; let rest : List (List Byte × Bool) := rsvd; (tmAsked s 0x14 r rest) ∧ (7 ≤ r.length) ∧ (1 ≤ leAt r 4 2) ∧ (leAt r 4 2 ≤ 3) ∧ (leAt r 6 1 ≤ 1) ∧ (let kind := leAt r 4 2; let k := 1; (1 ≤ k) ∧ (k ≤ 3) ∧ (k ≠ kind)))) :=
  ⟨⟨wok_137, by decide +kernel⟩,
    ⟨wok_138, by decide +kernel⟩,
    ⟨wok_139, by decide +kernel⟩,
    ⟨wok_140, by decide +kernel⟩,
    ⟨wok_141, by decide +kernel⟩,
    ⟨wok_142, by decide +kernel⟩,
    ⟨wok_143, by decide +kernel⟩,
    ⟨wok_144, by decide +kernel⟩,
    ⟨wok_145, by decide +kernel⟩,
    ⟨wok_146, by decide +kernel⟩,
    ⟨wok_147, by decide +kernel⟩⟩

theorem wok_148 : okB (b0 R20) = true := by decide +kernel

/-- The hypotheses of `AuthorityAndLifeCycle` are met. -/
theorem wit_authorityAndLifeCycle :
    (let s : State := b0 R15; let r : List Byte := R15; let rest : List (List Byte × Bool) := rsvd; (tmAsked s 0x15 r rest) ∧ (102 ≤ r.length) ∧ (1 ≤ leAt r 4 2) ∧ (leAt r 4 2 ≤ 4) ∧ (s.touch.nonce = none)) ∧
    (let s : State := bNon R15; let r : List Byte := R15; let rest : List (List Byte × Bool) := rsvd; (tmAsked s 0x15 r rest) ∧ (102 ≤ r.length) ∧ (1 ≤ leAt r 4 2) ∧ (leAt r 4 2 ≤ 4) ∧ (let kind := leAt r 4 2; let n := leBytes 32 77; let i := ⟨1, leBytes 256 (7 + 2 ^ 96 * 9 + 2 ^ 300 * 12345)⟩; (s.touch.nonce = some n) ∧ (inUse s kind = some i))) ∧
    (okB (b0 R20) = true ∧ (let s : State := b0 R20; let r : List Byte := R20; let rest : List (List Byte × Bool) := rsvd; (tmAsked s 0x20 r rest) ∧ (516 ≤ r.length) ∧ (256 ≤ (slice r 260 (min (leAt r 12 4) 65280)).length) ∧ (let h := slice r 4 256; let body := slice r 260 (min (leAt r 12 4) 65280); (verifyBytes s 4 0x10000 h body false ≠ 0)))) ∧
    (let s : State := b0 R30; let r : List Byte := R30; let rest : List (List Byte × Bool) := rsvd; (tmAsked s 0x30 r rest) ∧ (s.touch.trngBad = false) ∧ (103 ≤ r.length) ∧ (leAt r 5 2 ≠ 0) ∧ (s.touch.nonce = none)) ∧
    (let s : State := bNon R30; let r : List Byte := R30; let rest : List (List Byte × Bool) := rsvd; (tmAsked s 0x30 r rest) ∧ (s.touch.trngBad = false) ∧ (103 ≤ r.length) ∧ (leAt r 5 2 ≠ 0) ∧ (let n := leBytes 32 77; (s.touch.nonce = some n))) ∧
    (let s : State := b0 (rq 0x31 []); let r : List Byte := rq 0x31 []; let rest : List (List Byte × Bool) := rsvd; (tmAsked s 0x31 r rest)) ∧
    (let s : State := b0 (R40 7); let r : List Byte := R40 7; let rest : List (List Byte × Bool) := rsvd; (tmAsked s 0x40 r rest) ∧ (s.touch.trngBad = false) ∧ (let target := leAt r 4 1; (lcAuthority s target = none))) ∧
    (let s : State := b0 (R40 3); let r : List Byte := R40 3; let rest : List (List Byte × Bool) := rsvd; (tmAsked s 0x40 r rest) ∧ (s.touch.trngBad = false) ∧ (let target := leAt r 4 1; (lcAuthority s target ≠ none) ∧ (s.touch.nonce = none))) ∧
    (let s : State := bNon (R40 3); let r : List Byte := R40 3; let rest : List (List Byte × Bool) := rsvd; (tmAsked s 0x40 r rest) ∧ (s.touch.trngBad = false) ∧ (let target := leAt r 4 1; let n := leBytes 32 77; let need := ((lcAuthority (bNon (R40 3)) 3).getD default); (s.touch.nonce = some n) ∧ (lcAuthority s target = some need))) ∧
    (let s : State := b0 []; let target : Nat := 4; ((lcAuthority s target).isSome = true) ∧ (target = 4)) ∧
    (let s : State := b0 (rq 0x50 []); let r : List Byte := rq 0x50 []; let rest : List (List Byte × Bool) := rsvd; (tmAsked s 0x50 r rest)) :=
  ⟨by decide +kernel,
    by decide +kernel,
    ⟨wok_148, by decide +kernel⟩,
    by decide +kernel,
    by decide +kernel,
    by decide +kernel,
    by decide +kernel,
    by decide +kernel,
    by decide +kernel,
    by decide +kernel,
    by decide +kernel⟩

theorem wok_149 : okB (d0) = true := by decide +kernel
theorem wok_150 : okB (dSb) = true := by decide +kernel
theorem wok_151 : okB (dBusy) = true := by decide +kernel

/-- The hypotheses of `DeviceStates` are met. -/
theorem wit_deviceStates :
    (let s : State := dPlan; let a : Agent := .bench; (s.inReset = false) ∧ ((a = .host → s.hstOn = true ∧ reachAll s = true)) ∧ (devAllowed a 0 s = false)) ∧
    (let s : State := dPlan; let a : Agent := .bench; (s.inReset = false) ∧ ((a = .host → s.hstOn = true ∧ reachAll s = true)) ∧ (devAllowed a 1 s = false)) ∧
    (let s : State := dPlan; let a : Agent := .bench; (s.inReset = false) ∧ ((a = .host → s.hstOn = true ∧ reachAll s = true)) ∧ (devAllowed a 2 s = false)) ∧
    (let s : State := dPlan; let a : Agent := .bench; (s.inReset = false) ∧ ((a = .host → s.hstOn = true ∧ reachAll s = true)) ∧ (devAllowed a 3 s = false)) ∧
    (let s : State := d0; let a : Agent := .bench; (s.inReset = false) ∧ ((a = .host → s.hstOn = true ∧ reachAll s = true)) ∧ (let v := 2; (v < 4) ∧ (devAllowed a v s = true) ∧ (1 ≤ v))) ∧
    (let s : State := d0.raise F.PMU_DEV_CFG_HOST_EN; let a : Agent := .host; (s.inReset = false) ∧ ((a = .host → s.hstOn = true ∧ reachAll s = true)) ∧ (let v := 1; (v < 4) ∧ (devAllowed a v s = true) ∧ (a = .host))) ∧
    (okB (d0) = true ∧ (let s : State := d0; (s.inReset = false) ∧ (s.pmu.dev = none) ∧ (s.pmu.seqs = []) ∧ (s.get F.PMU_DEV_CTL_STATE = 0) ∧ (s.fw.job = none) ∧ (s.get F.GLB_PLAN_STAT_STATE = 0) ∧ ((∀ n < 192, s.tileOn n = false)) ∧ ((∀ k < 12, s.get (F.PMU_CLU_STATE k) = 0)) ∧ (s.memOn = true) ∧ (s.flag F.PMU_DEV_CTL_WAKE_PEND = false) ∧ ((∀ n < 17, s.chState n = 0)) ∧ ((∀ d < 7, s.domOn d = true)))) ∧
    (okB (dSb) = true ∧ (let s : State := dSb; (s.inReset = false) ∧ (s.pmu.dev = none) ∧ (s.pmu.seqs = []) ∧ (s.get F.PMU_DEV_CTL_STATE = 1) ∧ (s.flag F.PMU_DEV_CTL_WAKE_PEND = false) ∧ (wakeSeq s 4 false ≠ { wakeSeq s 4 false with steps := [] }) ∧ (s.flag F.PMU_AO_ALARM_HI_ARM = true) ∧ (s.flag F.PMU_WAKE_EN_TIMER = true) ∧ (s.aoCount ≤ s.get64 F.PMU_AO_ALARM_LO F.PMU_AO_ALARM_HI_ALARM))) ∧
    (let s : State := d0; (s.inReset = false) ∧ (s.pmu.dev = none) ∧ (s.get F.PMU_DEV_CTL_STATE = 0)) ∧
    (okB (dBusy) = true ∧ (let s : State := dBusy; let c : Nat := 2; (s.inReset = false) ∧ (c < 5) ∧ (s.pmu.dev.isSome = true))) :=
  ⟨by decide +kernel,
    by decide +kernel,
    by decide +kernel,
    by decide +kernel,
    by decide +kernel,
    by decide +kernel,
    ⟨wok_149, by decide +kernel⟩,
    ⟨wok_150, by decide +kernel⟩,
    by decide +kernel,
    ⟨wok_151, by decide +kernel⟩⟩

theorem wok_152 : okB (withQ 4 qW3) = true := by decide +kernel
theorem wok_153 : okB (withQ 4 qW1) = true := by decide +kernel
theorem wok_154 : okB (withQ 4 qE4) = true := by decide +kernel
theorem wok_155 : okB (withQ 4 qE1) = true := by decide +kernel
theorem wok_156 : okB (stby qE1) = true := by decide +kernel
theorem wok_157 : okB (withQ 8 qW1) = true := by decide +kernel
theorem wok_158 : okB (withQ 8 qE1 c1) = true := by decide +kernel

/-- The hypotheses of `DeviceStates`, part SequencesOfDomains are met. -/
theorem wit_deviceStates_sequencesOfDomains :
    (okB (withQ 4 qW3) = true ∧ (let s : State := withQ 4 qW3; let d : Nat := 4; let q : DSeq := qW3; (s.pmu.dev = none) ∧ (s.flag F.PMU_DEV_CTL_WAKE_PEND = false) ∧ (d < 7) ∧ (s.pmu.seqs = [(d, q)]) ∧ (q.wake = true) ∧ (2 ≤ q.steps.length))) ∧
    (okB (withQ 4 qW1) = true ∧ (let s : State := withQ 4 qW1; let d : Nat := 4; let q : DSeq := qW1; (s.pmu.dev = none) ∧ (s.flag F.PMU_DEV_CTL_WAKE_PEND = false) ∧ (d < 7) ∧ (s.pmu.seqs = [(d, q)]) ∧ (q.wake = true) ∧ (q.steps.length ≤ 1))) ∧
    (okB (withQ 4 qE4) = true ∧ (let s : State := withQ 4 qE4; let d : Nat := 4; let q : DSeq := qE4; (s.pmu.dev = none) ∧ (s.flag F.PMU_DEV_CTL_WAKE_PEND = false) ∧ (d < 7) ∧ (s.pmu.seqs = [(d, q)]) ∧ (q.wake = false) ∧ (2 ≤ q.steps.length))) ∧
    (okB (withQ 4 qE1) = true ∧ (let s : State := withQ 4 qE1; let d : Nat := 4; let q : DSeq := qE1; (s.pmu.dev = none) ∧ (s.flag F.PMU_DEV_CTL_WAKE_PEND = false) ∧ (d < 7) ∧ (s.pmu.seqs = [(d, q)]) ∧ (q.wake = false) ∧ (q.steps.length ≤ 1))) ∧
    (okB (withQ 4 qW3) = true ∧ (let s : State := withQ 4 qW3; let d : Nat := 4; let q : DSeq := qW3; (s.pmu.dev = none) ∧ (s.flag F.PMU_DEV_CTL_WAKE_PEND = false) ∧ (d < 7) ∧ (s.pmu.seqs = [(d, q)]) ∧ (q.wake = true) ∧ (q.hs = true))) ∧
    (okB (withQ 4 qE4) = true ∧ (let s : State := withQ 4 qE4; let d : Nat := 4; let q : DSeq := qE4; (s.pmu.dev = none) ∧ (s.flag F.PMU_DEV_CTL_WAKE_PEND = false) ∧ (d < 7) ∧ (s.pmu.seqs = [(d, q)]) ∧ (q.wake = false ∨ q.hs = false))) ∧
    (okB (stby qE1) = true ∧ (let s : State := stby qE1; let q : DSeq := qE1; (s.pmu.dev = some 1) ∧ (s.pmu.devOff = true) ∧ (s.pmu.seqs = [(4, q)]) ∧ (q.wake = false) ∧ (q.steps.length ≤ 1) ∧ (s.flag F.PMU_DEV_CTL_WAKE_PEND = false))) ∧
    (okB (withQ 8 qW1) = true ∧ (let s : State := withQ 8 qW1; let k : Nat := 1; let q : DSeq := qW1; (k < 12) ∧ (s.pmu.dev = none) ∧ (s.flag F.PMU_DEV_CTL_WAKE_PEND = false) ∧ (s.pmu.seqs = [(7 + k, q)]) ∧ (q.steps.length ≤ 1) ∧ (q.pend = none) ∧ (s.cfg.tiles = 192) ∧ (s.fw.plan = none) ∧ (q.wake = true))) ∧
    (okB (withQ 8 qE1 c1) = true ∧ (let s : State := withQ 8 qE1 c1; let k : Nat := 1; let q : DSeq := qE1; (k < 12) ∧ (s.pmu.dev = none) ∧ (s.flag F.PMU_DEV_CTL_WAKE_PEND = false) ∧ (s.pmu.seqs = [(7 + k, q)]) ∧ (q.steps.length ≤ 1) ∧ (q.pend = none) ∧ (s.cfg.tiles = 192) ∧ (s.fw.plan = none) ∧ (q.wake = false))) :=
  ⟨⟨wok_152, by decide +kernel⟩,
    ⟨wok_153, by decide +kernel⟩,
    ⟨wok_154, by decide +kernel⟩,
    ⟨wok_155, by decide +kernel⟩,
    ⟨wok_152, by decide +kernel⟩,
    ⟨wok_154, by decide +kernel⟩,
    ⟨wok_156, by decide +kernel⟩,
    ⟨wok_157, by decide +kernel⟩,
    ⟨wok_158, by decide +kernel⟩⟩

theorem wok_159 : okB (d0.raise F.PMU_QUENCH_ACTIVE) = true := by decide +kernel
theorem wok_160 : okB (c1) = true := by decide +kernel
theorem wok_161 : okB (c0) = true := by decide +kernel
theorem wok_162 : okB (withQ 8 qW3) = true := by decide +kernel
theorem wok_163 : okB (cNap) = true := by decide +kernel

/-- The hypotheses of `Clusters`, part ClusterRequests are met. -/
theorem wit_clusters_clusterRequests :
    (okB (d0) = true ∧ (let s : State := d0; let k : Nat := 1; (s.pins.porst = false) ∧ (k < s.clusters) ∧ (k < 12) ∧ (seqOf s (7 + k) = none) ∧ (s.get (F.PMU_CLU_STATE k) = 0) ∧ (s.flag F.PMU_QUENCH_ACTIVE = false) ∧ (0 < stepTicks s (7 + k) false 0))) ∧
    (okB (d0.raise F.PMU_QUENCH_ACTIVE) = true ∧ (let s : State := d0.raise F.PMU_QUENCH_ACTIVE; let k : Nat := 1; (s.pins.porst = false) ∧ (k < s.clusters) ∧ (k < 12) ∧ (seqOf s (7 + k) = none) ∧ (s.flag F.PMU_QUENCH_ACTIVE = true))) ∧
    (okB (c1) = true ∧ (let s : State := c1; let k : Nat := 1; (s.pins.porst = false) ∧ (k < s.clusters) ∧ (k < 12) ∧ (seqOf s (7 + k) = none) ∧ (s.get (F.PMU_CLU_STATE k) = 2) ∧ (cluQuiet s k = true))) ∧
    (okB (c0) = true ∧ (let s : State := c0; let k : Nat := 1; (s.pins.porst = false) ∧ (k < s.clusters) ∧ (k < 12) ∧ (seqOf s (7 + k) = none) ∧ (s.get (F.PMU_CLU_STATE k) = 2) ∧ (cluQuiet s k = false))) ∧
    (okB (withQ 8 qW3) = true ∧ (let s : State := withQ 8 qW3; let k : Nat := 1; let q : DSeq := qW3; (s.pins.porst = false) ∧ (k < s.clusters) ∧ (k < 12) ∧ (s.pmu.seqs = [(7 + k, q)]) ∧ (q.wake = true) ∧ (s.get (F.PMU_CLU_STATE k) = 0))) ∧
    (okB (c1) = true ∧ (let s : State := c1; let n : Nat := 20; (s.pins.porst = false) ∧ (n < s.cfg.tiles) ∧ (n < 192) ∧ (s.tileOn n = true) ∧ (tileHalted s n = true) ∧ (s.flag (F.NE_CTL_EN n) = false))) ∧
    (okB (c0) = true ∧ (let s : State := c0; let n : Nat := 20; (s.pins.porst = false) ∧ (n < s.cfg.tiles) ∧ (n < 192) ∧ (s.inNap n = false) ∧ ((tileHalted s n = false ∨ s.flag (F.NE_CTL_EN n) = true)))) ∧
    (okB (cNap) = true ∧ (let s : State := cNap; let n : Nat := 20; (s.pins.porst = false) ∧ (n < s.cfg.tiles) ∧ (n < 192) ∧ (s.inNap n = true) ∧ (s.fw.plan = none) ∧ (s.flag F.PMU_QUENCH_ACTIVE = false))) :=
  ⟨⟨wok_149, by decide +kernel⟩,
    ⟨wok_159, by decide +kernel⟩,
    ⟨wok_160, by decide +kernel⟩,
    ⟨wok_161, by decide +kernel⟩,
    ⟨wok_162, by decide +kernel⟩,
    ⟨wok_160, by decide +kernel⟩,
    ⟨wok_161, by decide +kernel⟩,
    ⟨wok_163, by decide +kernel⟩⟩

theorem wok_164 : okB (cClk [(F.PMU_DVFS_CFG_AVS_WAIT, 0)]) = true := by decide +kernel
theorem wok_165 : okB (cClk [(F.PMU_DVFS_CFG_AVS_WAIT, 1)]) = true := by decide +kernel
theorem wok_166 : okB (c1.set F.PMU_DVFS_STAT_VREAD 750) = true := by decide +kernel

/-- The hypotheses of `Clusters`, part OperatingPoints are met. -/
theorem wit_clusters_operatingPoints :
    (okB (c1) = true ∧ (let s : State := c1; let k : Nat := 1; let o : BitVec 2 := 0; (s.pins.porst = false) ∧ (k < s.clusters) ∧ (k < 12) ∧ ((s.clock k).next = none) ∧ (o.toNat < s.get (F.PMU_CLU_FLOOR k)))) ∧
    (okB (c1) = true ∧ (let s : State := c1; let k : Nat := 1; let o : BitVec 2 := 2; (s.pins.porst = false) ∧ (k < s.clusters) ∧ (k < 12) ∧ ((s.clock k).next = none) ∧ (s.get (F.PMU_CLU_FLOOR k) ≤ o.toNat) ∧ (s.flag F.PMU_QUENCH_ACTIVE = false) ∧ (s.cluOn k = true) ∧ (s.get (F.PMU_CLU_OPP k) ≠ o.toNat))) ∧
    (okB (d0) = true ∧ (let s : State := d0; let k : Nat := 1; let o : BitVec 2 := 2; (s.pins.porst = false) ∧ (k < s.clusters) ∧ (k < 12) ∧ ((s.clock k).next = none) ∧ (s.get (F.PMU_CLU_FLOOR k) ≤ o.toNat) ∧ (s.flag F.PMU_QUENCH_ACTIVE = false) ∧ (s.get (F.PMU_CLU_STATE k) ≠ 2))) ∧
    (okB (cClk [(F.PMU_DVFS_CFG_AVS_WAIT, 0)]) = true ∧ (let s : State := cClk [(F.PMU_DVFS_CFG_AVS_WAIT, 0)]; let k : Nat := 1; let o : Nat := 3; (k < 12) ∧ ((s.clock k).next = some o) ∧ ((s.clock k).kept = none) ∧ (o ≤ 3) ∧ (s.flag F.PMU_DVFS_CFG_AVS_WAIT = false))) ∧
    (okB (cClk [(F.PMU_DVFS_CFG_AVS_WAIT, 1)]) = true ∧ (let s : State := cClk [(F.PMU_DVFS_CFG_AVS_WAIT, 1)]; let k : Nat := 1; let o : Nat := 3; let rb : Nat := 839; (k < 12) ∧ ((s.clock k).next = some o) ∧ ((s.clock k).kept = none) ∧ (o ≤ 3) ∧ (s.flag F.PMU_DVFS_CFG_AVS_WAIT = true) ∧ (rb < 1024) ∧ (s.get (F.PMU_CLU_OPP k) < o) ∧ ((rb + 10 < s.get F.PMU_DVFS_STAT_VRAIL ∨ s.get F.PMU_DVFS_STAT_VRAIL + 10 < rb)))) ∧
    (let s : State := c1; let k : Nat := 1; ((s.clock k).next = none)) ∧
    (okB (c1) = true ∧ (let s : State := c1; let v : BitVec 10 := 549; (s.pins.porst = false) ∧ (v.toNat < 550 ∨ 850 < v.toNat))) ∧
    (okB (c1) = true ∧ (let s : State := c1; let v : BitVec 10 := 640; (s.pins.porst = false) ∧ (550 ≤ v.toNat) ∧ (v.toNat ≤ 850) ∧ (((∃ k < 12, s.get (F.PMU_CLU_STATE k) = 2 ∧ v.toNat < 550 + 100 * s.get (F.PMU_CLU_OPP k)) ∨ s.flag F.PMU_DVFS_STAT_BUSY = true)))) ∧
    (okB (c1) = true ∧ (let s : State := c1; let v : BitVec 10 := 650; (s.pins.porst = false) ∧ (550 ≤ v.toNat) ∧ (v.toNat ≤ 850) ∧ ((∀ k < 12, s.get (F.PMU_CLU_STATE k) = 2 → 550 + 100 * s.get (F.PMU_CLU_OPP k) ≤ v.toNat)) ∧ (s.flag F.PMU_DVFS_STAT_BUSY = false))) ∧
    (okB (c1) = true ∧ (let s : State := c1; let k : BitVec 4 := 1; let f : BitVec 2 := 0; (s.pins.porst = false) ∧ (k.toNat < s.clusters) ∧ (k.toNat < 12) ∧ (let mv := 550 + 100 * f.toNat; let fails := s.get F.PMU_DVFS_STAT_VREAD < mv ∨ f.toNat < s.get (F.PMU_CLU_FLOOR k.toNat) ∨ s.flag F.PMU_DVFS_STAT_BUSY = true; (fails)))) ∧
    (okB (c1.set F.PMU_DVFS_STAT_VREAD 750) = true ∧ (let s : State := c1.set F.PMU_DVFS_STAT_VREAD 750; let k : BitVec 4 := 1; let f : BitVec 2 := 2; (s.pins.porst = false) ∧ (k.toNat < s.clusters) ∧ (k.toNat < 12) ∧ (let mv := 550 + 100 * f.toNat; let fails := s.get F.PMU_DVFS_STAT_VREAD < mv ∨ f.toNat < s.get (F.PMU_CLU_FLOOR k.toNat) ∨ s.flag F.PMU_DVFS_STAT_BUSY = true; (¬fails) ∧ (s.flag F.PMU_QUENCH_ACTIVE = false) ∧ (s.cluOn k.toNat = true) ∧ (s.get (F.PMU_CLU_OPP k.toNat) ≠ f.toNat)))) :=
  ⟨⟨wok_160, by decide +kernel⟩,
    ⟨wok_160, by decide +kernel⟩,
    ⟨wok_149, by decide +kernel⟩,
    ⟨wok_164, by decide +kernel⟩,
    ⟨wok_165, by decide +kernel⟩,
    by decide +kernel,
    ⟨wok_160, by decide +kernel⟩,
    ⟨wok_160, by decide +kernel⟩,
    ⟨wok_160, by decide +kernel⟩,
    ⟨wok_160, by decide +kernel⟩,
    ⟨wok_166, by decide +kernel⟩⟩

theorem wok_167 : okB (thm) = true := by decide +kernel

/-- The hypotheses of `ThermalAndQuench` are met. -/
theorem wit_thermalAndQuench :
    (okB (thm) = true ∧ (let s : State := thm; (s.inReset = false) ∧ (s.flag F.PMU_QUENCH_ACTIVE = false) ∧ (s.fw.job = none) ∧ ((s.get F.GLB_PLAN_STAT_STATE = 0 ∨ s.get F.GLB_PLAN_STAT_STATE = 3)) ∧ (s.flag F.PMU_DVFS_CFG_AVS_WAIT = true) ∧ (s.flag F.PMU_DVFS_STAT_BUSY = true))) ∧
    (okB (thm) = true ∧ (let s : State := thm; (s.inReset = false) ∧ (s.flag F.PMU_QUENCH_ACTIVE = false) ∧ (s.fw.job = none) ∧ ((s.get F.GLB_PLAN_STAT_STATE = 0 ∨ s.get F.GLB_PLAN_STAT_STATE = 3)) ∧ (let r : List Int := (List.range 16).map (fun (k : Nat) => if k = 1 then (921 : Int) else 5); let k : Nat := 1; (k < 16) ∧ (sensorOn s k = true) ∧ (920 < r.getD k 0) ∧ (r.getD k 0 ≤ 1200) ∧ (1 ≤ s.pmu.hot) ∧ (s.flag F.PMU_THERM_CFG_WARN_IE = false)))) ∧
    (okB (thm) = true ∧ (let s : State := thm; let r : List Int := (List.range 16).map (fun (k : Nat) => if k = 1 then (920 : Int) else -320); (s.inReset = false) ∧ ((∀ k < 16, r.getD k 0 ≤ 920)) ∧ ((∀ k < 16, -320 ≤ r.getD k 0)) ∧ ((∃ k < 16, sensorOn s k = true)))) ∧
    (let s : State := c0.raise F.PMU_QUENCH_ACTIVE; (s.inReset = false) ∧ (s.flag F.PMU_QUENCH_ACTIVE = true)) ∧
    (let s : State := c0.raise F.PMU_QUENCH_ACTIVE; let c : Bool := false; (s.pins.porst = false) ∧ (s.flag F.PMU_QUENCH_ACTIVE = true) ∧ (c = false) ∧ (s.geti F.PMU_THERM_STAT_TJ ≤ (s.get F.PMU_THERM_CFG_QREL * 8 : Nat))) ∧
    (let s : State := c0.raise F.PMU_QUENCH_ACTIVE; let c : Bool := true; (s.pins.porst = false) ∧ (s.flag F.PMU_QUENCH_ACTIVE = true) ∧ (c = true ∨ (s.get F.PMU_THERM_CFG_QREL * 8 : Nat) < s.geti F.PMU_THERM_STAT_TJ)) ∧
    (let s : State := thm; (s.pins.porst = false)) :=
  ⟨⟨wok_167, by decide +kernel⟩,
    ⟨wok_167, by decide +kernel⟩,
    ⟨wok_167, by decide +kernel⟩,
    by decide +kernel,
    by decide +kernel,
    by decide +kernel,
    by decide +kernel⟩

theorem wok_168 : okB (ra []) = true := by decide +kernel
theorem wok_169 : okB (raFull) = true := by decide +kernel

/-- The hypotheses of `ErrorsAndRepairs`, part ErrorsAndScrubbing are met. -/
theorem wit_errorsAndRepairs_errorsAndScrubbing :
    (okB (ra []) = true ∧ (let s : State := ra []; let region : Nat := 18; let node : Nat := 4095; let unit : Nat := 15; let a : Nat := 2 ^ 48 - 1; (s.mgtOn = true) ∧ (region < 19) ∧ (node < 4096) ∧ (unit < 16) ∧ (a < 2 ^ 48) ∧ (s.ras.unread < 64))) ∧
    (okB (raFull) = true ∧ (let s : State := raFull; let region : Nat := 18; let node : Nat := 4095; let unit : Nat := 15; let a : Nat := 2 ^ 48 - 1; (s.mgtOn = true) ∧ (region < 19) ∧ (node < 4096) ∧ (unit < 16) ∧ (a < 2 ^ 48) ∧ (64 ≤ s.ras.unread))) ∧
    (let s : State := ra []; let w : ScrubAt := .pool 5 0; (scrubThere s w = true) ∧ (scrubPoisoned s w = false) ∧ ((s.mgtOn = false ∨ s.flag F.RAS_CTL_SCRUB_EN = true))) ∧
    (okB (ra []) = true ∧ (let s : State := ra []; let n : Nat := 31; let a : Nat := 0x3FFF; (s.mgtOn = true) ∧ (s.flag F.RAS_CTL_SCRUB_EN = true) ∧ (s.tileOn n = true) ∧ (n < 192) ∧ (a < 0x4000) ∧ ((s.tile n).ipoison.contains (a / 8) = false) ∧ (s.flag F.RAS_CTL_LOG_CE = false))) ∧
    (okB (ra []) = true ∧ (let s : State := ra []; let k : Nat := 0xFFFF; (s.mgtOn = true) ∧ (s.flag F.RAS_CTL_SCRUB_EN = true) ∧ (s.fabOn = true) ∧ (k < 0x10000) ∧ (s.sync.poison.contains k = false))) ∧
    (okB (ra []) = true ∧ (let s : State := ra []; let a : Nat := 2 ^ 24 - 1; (s.mgtOn = true) ∧ (s.flag F.RAS_CTL_SCRUB_EN = true) ∧ (s.fabOn = true) ∧ (a < 2 ^ 24) ∧ (s.mem.poolBad.contains (a / 8) = false))) ∧
    (okB (ra []) = true ∧ (let s : State := ra []; let r : Nat := 9; (s.mgtOn = true) ∧ (s.flag F.RAS_CTL_SCRUB_EN = true) ∧ (r ∈ [0, 1, 3, 4, 7, 8, 9, 12, 13, 14, 15]))) ∧
    (okB (raFull) = true ∧ (let s : State := raFull; let r : Nat := 8; (s.mgtOn = true) ∧ (r < 19) ∧ (bitOf (s.get F.RAS_HOST_MASK) r = false) ∧ (s.get F.RAS_CE_THR ≤ s.ras.ceSec.getD r 0))) ∧
    (okB (ra []) = true ∧ (let s : State := ra []; let r : Nat := 8; (s.mgtOn = true) ∧ (r < 19) ∧ (bitOf (s.get F.RAS_HOST_MASK) r = false) ∧ (s.ras.ceSec.getD r 0 < s.get F.RAS_CE_THR))) ∧
    (okB (raFull) = true ∧ (let s : State := raFull; let n : Nat := 20; let p : Nat := 3; (s.mgtOn = true) ∧ (n < 192) ∧ (p < 6) ∧ (s.get F.RAS_LINK_LINK_THR ≤ sparseGet (fun _ => 0) s.ras.links (n * 6 + p)))) ∧
    (okB (ra []) = true ∧ (let s : State := ra []; let n : Nat := 191; let p : Nat := 5; (s.mgtOn = true) ∧ (n < 192) ∧ (p < 6) ∧ (sparseGet (fun _ => 0) s.ras.links (n * 6 + p) < s.get F.RAS_LINK_LINK_THR))) :=
  ⟨⟨wok_168, by decide +kernel⟩,
    ⟨wok_169, by decide +kernel⟩,
    by decide +kernel,
    ⟨wok_168, by decide +kernel⟩,
    ⟨wok_168, by decide +kernel⟩,
    ⟨wok_168, by decide +kernel⟩,
    ⟨wok_168, by decide +kernel⟩,
    ⟨wok_169, by decide +kernel⟩,
    ⟨wok_168, by decide +kernel⟩,
    ⟨wok_169, by decide +kernel⟩,
    ⟨wok_168, by decide +kernel⟩⟩

theorem wok_170 : okB (rpS []) = true := by decide +kernel
theorem wok_171 : okB (rpNet) = true := by decide +kernel
theorem wok_172 : okB (rpTm 0) = true := by decide +kernel
theorem wok_173 : okB (rpTm 2) = true := by decide +kernel

/-- The hypotheses of `ErrorsAndRepairs`, part Repairs are met. -/
theorem wit_errorsAndRepairs_repairs :
    (okB (rpS []) = true ∧ (let s : State := rpS []; let n : Nat := 20; let r : Nat := 8; let p : Plan := pl; (s.fw.plan = some p) ∧ (benchRuns s = true) ∧ (s.flag F.RAS_CTL_AUTO_RELOAD = true) ∧ (planThere s = true) ∧ (s.fw.job = none) ∧ (s.tileOn n = true) ∧ (n < 192) ∧ (tileHalted s n = true) ∧ (s.get (F.TILE_SEQ_STAT_HALT_REASON n) = 4) ∧ (p.tiles.contains (logicalOf s n) = true) ∧ (runTile s (logicalOf s n) = n) ∧ (goldenUsable s p (logicalOf s n) = true) ∧ (p.ofTy 7 = []) ∧ (p.ofTy 10 = []) ∧ (r < 0x4000))) ∧
    (let s : State := ra []; (s.flag F.RAS_CTL_AUTO_RELOAD = false ∨ s.fw.job.isSome = true ∨ s.fw.plan = none)) ∧
    (okB (rpNet) = true ∧ (let s : State := rpNet; let e : MacEntry := rpMac; let v : Nat := 3; let x : VlanEntry := { valid := true, member := 7 }; (s.netOn = true) ∧ (touchmarkRuns s = true) ∧ (s.ras.lostMac = [e]) ∧ (s.ras.lostVlan = [(v, x)]))) ∧
    (let s : State := rpStop; (s.fw.stopped = true) ∧ (s.get F.GLB_BOOT_SLOT ≤ 1) ∧ (accepted (benchReason s [] (1 - s.get F.GLB_BOOT_SLOT)) = false)) ∧
    (okB (rpTm 0) = true ∧ (let s : State := rpTm 0; (touchmarkRuns s = true) ∧ (s.mgtOn = false))) ∧
    (okB (rpTm 2) = true ∧ (let s : State := rpTm 2; (touchmarkRuns s = true) ∧ (s.mgtOn = true))) ∧
    (let s : State := rpS []; (s.hstOn = true)) :=
  ⟨⟨wok_170, by decide +kernel⟩,
    by decide +kernel,
    ⟨wok_171, by decide +kernel⟩,
    by decide +kernel,
    ⟨wok_172, by decide +kernel⟩,
    ⟨wok_173, by decide +kernel⟩,
    by decide +kernel⟩

theorem wok_174 : okB (rbPor 15) = true := by decide +kernel
theorem wok_175 : okB (rbTrip) = true := by decide +kernel

/-- The hypotheses of `ResetsAndBoot` are met. -/
theorem wit_resetsAndBoot :
    (okB (ra []) = true ∧ True) ∧
    (okB (rbPor 15) = true ∧ (let s : State := rbPor 15; let f : List Nat := []; (s.pins.porst = true) ∧ (5 ∉ f))) ∧
    (let s : State := ra []; (s.pins.porst = false)) ∧
    (okB (rbTrip) = true ∧ (let s : State := rbTrip; let f : List Nat := []; (s.pins.porst = false) ∧ (s.pins.trip = true) ∧ (5 ∉ f))) ∧
    (let s : State := rbPor 3; (s.inReset = true ∨ s.stage < 2)) ∧
    (okB (ra []) = true ∧ (let s : State := ra []; (s.inReset = false) ∧ (2 ≤ s.stage) ∧ (s.hstOn = true))) :=
  ⟨⟨wok_168, trivial⟩,
    ⟨wok_174, by decide +kernel⟩,
    by decide +kernel,
    ⟨wok_175, by decide +kernel⟩,
    by decide +kernel,
    ⟨wok_168, by decide +kernel⟩⟩

theorem wok_176 : okB (acq []) = true := by decide +kernel
theorem wok_177 : okB (acq [(F.PF1_TM_CTL_BUSY, 1)]) = true := by decide +kernel

/-- The hypotheses of `RegisterAccess` are met. -/
theorem wit_registerAccess :
    (let s : State := ra []; let a : Agent := .host; let pf : Bool := false; let whole : Bool := true; let off : Nat := 0x1700006; ((a = .host → s.hstOn = true)) ∧ (let key := if pf = true then off + 0x10000000 else off; let c := .width; (accessCause a whole key s = some c) ∧ ((quietReg key = false ∨ c ≠ .unmapped)))) ∧
    (let s : State := ra []; let a : Agent := .host; let pf : Bool := false; let whole : Bool := true; let off : Nat := 0x1700006; ((a = .host → s.hstOn = true)) ∧ (let key := if pf = true then off + 0x10000000 else off; (whole = false ∨ key % 4 ≠ 0))) ∧
    (let s : State := ra []; let a : Agent := .host; let pf : Bool := false; let whole : Bool := true; let off : Nat := 0x1FFFFFC; ((a = .host → s.hstOn = true)) ∧ (let key := if pf = true then off + 0x10000000 else off; (whole = true) ∧ (key % 4 = 0) ∧ (ctrWin key = none) ∧ (regRow key = none))) ∧
    (let s : State := ra []; let a : Agent := .host; let pf : Bool := false; let whole : Bool := true; let off : Nat := 0x0; ((a = .host → s.hstOn = true)) ∧ (let key := if pf = true then off + 0x10000000 else off; let r := (⟨"GLB_PART", 0x0, [], .sec, .none, [⟨31, 0, .ro, 0x6192⟩]⟩ : RegRow); let ix := []; (accessCause a whole key s = none) ∧ (ctrWin key = none) ∧ (regRow key = some r) ∧ (r.index key = some ix) ∧ (r.writers.allows a = false))) ∧
    (let s : State := ra []; let a : Agent := .bench; let pf : Bool := false; let whole : Bool := true; let off : Nat := 0x1700040; ((a = .host → s.hstOn = true)) ∧ (let key := if pf = true then off + 0x10000000 else off; let r := (⟨"HST_CPLQ_BASE_LO", 0x1700040, [], .hst, .host, [⟨31, 0, .rwl, 0⟩]⟩ : RegRow); let ix := []; (accessCause a whole key s = none) ∧ (ctrWin key = none) ∧ (regRow key = some r) ∧ (r.index key = some ix) ∧ (r.dom ≠ .clu) ∧ (key ≠ F.TSB_SNAP_SEC_LO.off))) ∧
    (okB (ra []) = true ∧ (let s : State := ra []; let pf : Nat := 1; let bar : Nat := 15; (s.hstOn = true) ∧ (pf ≤ 1) ∧ (bar < 16) ∧ (let k := 0; (k ∉ [F.HST_ERR_CNT.off, F.HST_ERR_ADDR.off, F.HST_ERR_INFO_CAUSE.off])))) ∧
    (let ty : FTy := .ro; let w : Nat := 3; let old : Nat := 5; let new : Nat := 3; (old < 2 ^ w) ∧ (new < 2 ^ w) ∧ (ty = .ro ∨ ty = .rc)) ∧
    (let ty : FTy := .rw; let lock : Bool := true; let w : Nat := 3; let old : Nat := 5; let new : Nat := 3; (old < 2 ^ w) ∧ (new < 2 ^ w) ∧ (ty = .rw ∨ (ty = .rwl ∧ lock = true))) ∧
    (let ty : FTy := .rwl; let lock : Bool := false; let w : Nat := 3; let old : Nat := 5; let new : Nat := 3; (old < 2 ^ w) ∧ (new < 2 ^ w) ∧ (ty = .rwl) ∧ (lock = false)) ∧
    (let ty : FTy := .w1c; let w : Nat := 3; let old : Nat := 5; let new : Nat := 3; (old < 2 ^ w) ∧ (new < 2 ^ w) ∧ (ty = .w1c) ∧ (let i := 2; (i < w))) ∧
    (let ty : FTy := .w1s; let w : Nat := 3; let old : Nat := 5; let new : Nat := 3; (old < 2 ^ w) ∧ (new < 2 ^ w) ∧ (ty = .w1s) ∧ (let i := 2; (i < w))) ∧
    (okB (ra []) = true ∧ (let s : State := ra []; (s.hstOn = true))) ∧
    (okB (acq []) = true ∧ (let s : State := acq []; (s.hstOn = true) ∧ (tmPresent s = true) ∧ (let r := getWords s (F.PF1_TM_REQ 0).off (s.get F.PF1_TM_REQ_LEN); (s.flag F.PF1_TM_CTL_BUSY = false) ∧ (s.flag F.PF1_TM_CTL_RESP_READY = false) ∧ (leAt r 0 2 ∈ [1, 2, 3, 4])))) ∧
    (okB (acq [(F.PF1_TM_CTL_BUSY, 1)]) = true ∧ (let s : State := acq [(F.PF1_TM_CTL_BUSY, 1)]; (s.hstOn = true) ∧ (tmPresent s = true) ∧ (s.flag F.PF1_TM_CTL_BUSY = true))) :=
  ⟨by decide +kernel,
    by decide +kernel,
    by decide +kernel,
    by decide +kernel,
    by decide +kernel,
    ⟨wok_168, by decide +kernel⟩,
    by decide +kernel,
    by decide +kernel,
    by decide +kernel,
    by decide +kernel,
    by decide +kernel,
    ⟨wok_168, by decide +kernel⟩,
    ⟨wok_176, by decide +kernel⟩,
    ⟨wok_177, by decide +kernel⟩⟩


/-- The hypotheses of `StepKeepsOk`, `StepKeepsSizes` and `BurntFieldsStay` are met: a step of an idle block. -/
theorem wit_stepKeeps : ((mk []).Ok ∧ (mk []).Sized) ∧ ∃ t, step (mk []) = .next t := ⟨ok_of (by decide +kernel), _, rfl⟩

/-- A source of spilled words as `SpillRoundTrip` wants it. -/
theorem wit_spillRoundTrip : ∀ o : Nat, ((⟨if o % 16 = 0 then 2 ^ 64 - 1 else 0, false⟩ : LWord).val < 2 ^ 64) ∧
    (⟨if o % 16 = 0 then 2 ^ 64 - 1 else 0, false⟩ : LWord).bad = false := by
  intro o; refine ⟨?_, rfl⟩; dsimp only; split <;> omega

/-- The rows that the witnesses of `CommandRing` name are among its rows. -/
theorem wit_commandRing_rows (e : List Byte) (f : Option (Nat × Nat)) :
    (Instr.nop e, 0, false) ∈ [(Instr.nop e, 0, false), (Instr.planLoad e f, 1, true), (Instr.planReplace e f, 2, true)] ∧
    (Instr.planLoad e f, 1, true) ∈ [(Instr.nop e, 0, false), (Instr.planLoad e f, 1, true), (Instr.planReplace e f, 2, true)] := by
  simp

end Witnesses

end Sys2Proof.Machine
end

/-!
PROOF. Register accesses: what the access log holds of the offset of an access, and the refutation of `RegisterAccess`.
-/

namespace Sys2Proof.Machine

/-- 19, HST_ERR_ADDR: OFFSET is the field [27:0], so the log keeps the low 28 bits of an offset. -/
theorem State.logErr_get_errAddr {s : State} (hs : s.Ok) (hon : s.hstOn = true) (a : Agent) (pf bar off : Nat) (w : Bool)
    (c : ErrCause) : (s.logErr a pf bar off w c).get F.HST_ERR_ADDR = off % 2 ^ 28 := by
  have hinc : (s.inc F.HST_ERR_CNT).regsWf := State.inc_regsWf hs.regs _
  have hinfo (v : Word) : (((s.inc F.HST_ERR_CNT).set F.HST_ERR_ADDR off).setReg F.HST_ERR_INFO_CAUSE.off v).get F.HST_ERR_ADDR
      = ((s.inc F.HST_ERR_CNT).set F.HST_ERR_ADDR off).get F.HST_ERR_ADDR := by
    rw [State.get, State.reg_setReg (State.set_regsWf hinc _ _), if_neg (by decide), State.get]
  rw [State.logErr, if_pos hon, hinfo, State.get_set_same hinc F.HST_ERR_ADDR off (by decide)]
  rfl

/-- After reset every register and memory holds its default, which is the canonical form. -/
theorem State.reset_ok : State.reset.Ok where
  regs := rfl
  act := rfl
  lp := rfl
  pool := rfl
  tiles := rfl
  tile t ht := by rw [List.eq_of_mem_replicate ht]; exact ⟨rfl, rfl, rfl⟩
  vlan := rfl
  ctr := rfl
  slots := rfl
  bufs := rfl
  rx := rfl
  links := rfl
  flash := rfl

/-- The state after reset with the domain HST on. -/
def hstUp : State := State.reset.set (F.domState 5) 2

theorem hstUp_ok : hstUp.Ok := (State.kept_set _ _ _).ok State.reset_ok

theorem hstUp_hstOn : hstUp.hstOn = true := by
  rw [State.hstOn, State.domOn, hstUp, State.get_set_same State.reset_ok.regs (F.domState 5) 2 (by decide)]
  rfl

/-- Refutes O7: its clause on the access log asks that HST_ERR_ADDR holds `off % 2 ^ 32` for every `off`, but its field OFFSET is
[27:0] (19, HST_ERR_ADDR): with HST on, an access at offset 2^28 is logged with address 0. -/
theorem not_registerAccess : ¬ Obligations.RegisterAccess := by
  unfold Obligations.RegisterAccess
  rintro ⟨-, -, -, hlog, -⟩
  obtain ⟨-, haddr, -⟩ := hlog hstUp .host 0 0 (2 ^ 28) true .unmapped hstUp_ok hstUp_hstOn (by decide) (by decide)
  rw [State.logErr_get_errAddr hstUp_ok hstUp_hstOn] at haddr
  exact absurd haddr (by decide)

end Sys2Proof.Machine

/-!
PROOF. Time bases (02): what the writes of one register, the register file and the idle step do, and `StepIdle`.
-/

namespace Sys2Proof.Machine

/-! ### Register file: other registers, signed fields, pairs of registers -/

/-- A write to one key leaves every other, whatever the form of the list. -/
theorem sparseGet_put_ne [DecidableEq α] {d : Nat → α} (l : List (Nat × α)) {k j : Nat} (v : α) (h : j ≠ k) :
    sparseGet d (sparsePut d l k v) j = sparseGet d l j := by
  have hdel : sparseGet d (sparseDel l k) j = sparseGet d l j := by
    induction l with
    | nil => rfl
    | cons e l ih =>
      by_cases hk : e.1 = k
      · simp [sparseDel, sparseGet, hk, h.symm]
      · simp [sparseDel, sparseGet, hk, ih]
  rw [sparsePut]
  split
  · exact hdel
  · rw [sparseGet_ins, if_neg h]

theorem State.reg_set_of_off_ne (s : State) (f : Fld) (v : Nat) {k : Nat} (h : k ≠ f.off) : (s.set f v).reg k = s.reg k :=
  sparseGet_put_ne s.regs _ h

/-- A field of another register keeps its value. -/
theorem State.get_set_of_off_ne (s : State) (f g : Fld) (v : Nat) (h : g.off ≠ f.off) : (s.set f v).get g = s.get g := by
  rw [State.get, s.reg_set_of_off_ne f v h, State.get]

theorem State.flag_set_of_off_ne (s : State) (f g : Fld) (v : Nat) (h : g.off ≠ f.off) : (s.set f v).flag g = s.flag g := by
  rw [State.flag, s.get_set_of_off_ne f g v h, State.flag]

theorem State.geti_set_of_off_ne (s : State) (f g : Fld) (v : Nat) (h : g.off ≠ f.off) : (s.set f v).geti g = s.geti g := by
  rw [State.geti, s.get_set_of_off_ne f g v h, State.geti]

/-- What a write of one register leaves: the fields of every other. -/
theorem State.get64_set_of_off_ne (s : State) (f lo hi : Fld) (v : Nat) (hl : lo.off ≠ f.off) (hh : hi.off ≠ f.off) :
    (s.set f v).get64 lo hi = s.get64 lo hi := by
  rw [State.get64, s.get_set_of_off_ne f lo v hl, s.get_set_of_off_ne f hi v hh, State.get64]

/-- A pair of registers reads back as written, modulo its width. -/
theorem State.get64_set64 {s : State} (hs : s.regsWf) (a b w : Nat) (v : Nat) (hab : a ≠ b) (hw : w < 32) :
    (s.set64 ⟨a, 31, 0⟩ ⟨b, w, 0⟩ v).get64 ⟨a, 31, 0⟩ ⟨b, w, 0⟩ = v % 2 ^ (33 + w) := by
  have hlo : (s.set64 ⟨a, 31, 0⟩ ⟨b, w, 0⟩ v).get ⟨a, 31, 0⟩ = v % 2 ^ 32 := by
    rw [State.set64, State.get_set_of_off_ne _ _ _ _ hab]
    exact State.get_set_same hs _ _ ⟨Nat.zero_le 31, Nat.lt_succ_self 31⟩
  have hhi : (s.set64 ⟨a, 31, 0⟩ ⟨b, w, 0⟩ v).get ⟨b, w, 0⟩ = v / 2 ^ 32 % 2 ^ (w + 1) :=
    State.get_set_same (State.set_regsWf hs _ _) _ _ ⟨Nat.zero_le _, hw⟩
  rw [State.get64, hlo, hhi, show 33 + w = 32 + (w + 1) by omega, Nat.pow_add 2 32, Nat.mod_mul, Nat.mul_comm (2 ^ 32)]

/-- A value in the signed range reads back from its bit pattern. -/
theorem sx_ux {w : Nat} (hw : 0 < w) {v : Int} (hlo : -2 ^ (w - 1) ≤ v) (hhi : v < 2 ^ (w - 1)) : sx w (ux w v) = v := by
  obtain ⟨k, rfl⟩ := Nat.exists_eq_succ_of_ne_zero hw.ne'
  have hpow : (2 : Int) ^ (k + 1) = 2 * 2 ^ k := pow_succ' 2 k
  have hpos : (0 : Int) < 2 ^ k := by positivity
  have hnat : ((2 ^ k : Nat) : Int) = 2 ^ k := by norm_cast
  have hnat' : ((2 ^ (k + 1) : Nat) : Int) = 2 ^ (k + 1) := by norm_cast
  simp only [Nat.succ_eq_add_one, Nat.add_sub_cancel] at hlo hhi
  simp only [sx, ux, Nat.succ_eq_add_one, Nat.add_sub_cancel]
  by_cases hv : 0 ≤ v
  · have hmod : v % 2 ^ (k + 1) = v := Int.emod_eq_of_lt hv (by omega)
    rw [hmod, Nat.mod_eq_of_lt (by omega), if_pos (by omega)]
    omega
  · have hmod : v % 2 ^ (k + 1) = v + 2 ^ (k + 1) := by
      rw [← Int.add_emod_right, Int.emod_eq_of_lt (by omega) (by omega)]
    rw [hmod, Nat.mod_eq_of_lt (by omega), if_neg (by omega)]
    omega

/-- A signed field reads back a value of its range. -/
theorem State.geti_seti_same {s : State} (hs : s.regsWf) (f : Fld) (hf : f.ok) {v : Int} (hlo : -2 ^ (f.hi - f.lo) ≤ v)
    (hhi : v < 2 ^ (f.hi - f.lo)) : (s.seti f v).geti f = v := by
  have hw : f.hi + 1 - f.lo - 1 = f.hi - f.lo := by omega
  have hux : ux (f.hi + 1 - f.lo) v < 2 ^ (f.hi + 1 - f.lo) := by
    have hb := Int.emod_lt_of_pos v (show (0 : Int) < 2 ^ (f.hi + 1 - f.lo) by positivity)
    have hc : ((2 ^ (f.hi + 1 - f.lo) : Nat) : Int) = 2 ^ (f.hi + 1 - f.lo) := by norm_cast
    unfold ux
    omega
  rw [State.geti, State.seti, State.get_set_same hs f _ hf, Nat.mod_eq_of_lt hux,
    sx_ux (by have := hf.1; omega) (by rwa [hw]) (by rwa [hw])]

/-! ### Writes of one register by the firmware -/

/-- A write by Bench or Touchmark of a register that it may write, with the register's domain on, has its effect (R20). -/
theorem State.guardWrite_firmware {s : State} {on : Bool} {w : Writers} {a : Agent} (hon : on = true) (ha : a ≠ .host)
    (hw : w.allows a = true) (off : Nat) (f : State → State) : s.guardWrite on w a off f = f s := by
  simp [State.guardWrite, State.takesWrite, hon, ha, hw]

/-! ### The idle step -/

/-- With no flip due the flip cycle does not come. -/
theorem routeFlip_of_not_due {s : State} (h : s.fab.flipDue = false) : routeFlip s = s := by
  rw [routeFlip, h, if_neg Bool.false_ne_true]

theorem step_of_no_command {s : State} (h : s.pending = []) : step s = .next (timeStepIdle s) := by
  rw [step, h]

theorem timeStepIdle_of_porst {s : State} (h : s.pins.porst = true) : timeStepIdle s = s := by
  rw [timeStepIdle, if_pos h]

theorem timeStepIdle_of_net_off {s : State} (hp : s.pins.porst = false) (hn : s.netOn = false) :
    timeStepIdle s = aoTime 1 s := by
  simp [timeStepIdle, hp, hn]

theorem timeStepIdle_of_net_on {s : State} (hp : s.pins.porst = false) (hn : s.netOn = true) (hf : s.fab.flipDue = false) :
    timeStepIdle s = if (advance 1 s).tb.next ≤ (advance 1 s).T then boundary (advance 1 s) else advance 1 s := by
  simp [timeStepIdle, hp, hn, routeFlip_of_not_due hf]

/-- Settles O2: an empty queue hands the step to `timeStepIdle`, whose three cases are PORST_N low, NET off and NET on. -/
theorem stepIdle : Obligations.StepIdle := by
  refine ⟨fun s hq hp => ?_, fun s hq hp hn => ?_, fun s hq hp hn hf => ?_⟩
  · rw [step_of_no_command hq, timeStepIdle_of_porst hp]
  · rw [step_of_no_command hq, timeStepIdle_of_net_off hp hn]
  · rw [step_of_no_command hq, timeStepIdle_of_net_on hp hn hf]

end Sys2Proof.Machine

/-!
PROOF. The epoch grid (02 R67 to R70): `EpochGrid`.
-/

namespace Sys2Proof.Machine

/-! ### Writes of the grid's registers -/

theorem exec_epochArm (a : Agent) (s : State) : exec (.epochArm a) s = execEpochArm a s := rfl

theorem exec_epochGridWrite (a : Agent) (r : GridReg) (v : Word) (s : State) :
    exec (.epochGridWrite a r v) s = execEpochGridWrite a r v s := rfl

theorem exec_registerWrite (a : Agent) (pf whole : Bool) (off : Nat) (v : Word) (s : State) :
    exec (.registerWrite a pf off whole v) s = execRegisterWrite a pf off whole v s := rfl

/-- A write by the firmware of a register of function 0 that is there, on and its own to write takes effect (R20, R731). -/
theorem execRegisterWrite_firmware {s : State} {a : Agent} {off : Nat} {r : RegRow} (v : Word) (ha : a ≠ .host) (hoff : off % 4 = 0)
    (hctr : ctrWin off = none) (hrow : regRow off = some r) (habs : absentReg s r.base (((r.index off).getD []).headD 0) = false)
    (hon : s.regOn r.dom ((r.index off).getD []) = true) (hw : r.writers.allows a = true) :
    execRegisterWrite a false off true v s = .next (regWrite a r ((r.index off).getD []) off v.toNat s) := by
  have hcause : accessCause a true off s = none := by
    simp only [accessCause, hctr, hrow, habs, hon]
    simp [ha, hoff]
  simp [execRegisterWrite, regKey, arrives, hcause, ha, hctr, hrow, hw]

/-- The row of TSB_EPOCH_NUM in the register map. -/
def epochNumRow : RegRow := ⟨"TSB_EPOCH_NUM", 0x2000CC, [], .net, .bench, [⟨31, 0, .rw, 0⟩]⟩

theorem regRow_epochNum : regRow F.TSB_EPOCH_NUM.off = some epochNumRow := by decide

/-- R68: a word written to TSB_EPOCH_NUM. -/
theorem regWrite_epochNum (s : State) (v : Nat) : regWrite .bench epochNumRow [] F.TSB_EPOCH_NUM.off v s =
    if s.running = true then s.raise F.TSB_EPOCH_CTL_WR_REFUSED else s.set F.TSB_EPOCH_NUM v := rfl

theorem execRegisterWrite_epochNum {s : State} (hon : s.netOn = true) (v : Word) :
    execRegisterWrite .bench false F.TSB_EPOCH_NUM.off true v s =
      .next (if s.running = true then s.raise F.TSB_EPOCH_CTL_WR_REFUSED else s.set F.TSB_EPOCH_NUM v.toNat) := by
  rw [execRegisterWrite_firmware v (by decide) (by decide) (by decide) regRow_epochNum rfl hon rfl, ← regWrite_epochNum]
  rfl

theorem gridWrite_of_running {s : State} (h : s.running = true) (r : GridReg) (v : Nat) :
    gridWrite r v s = s.raise F.TSB_EPOCH_CTL_WR_REFUSED := by
  rw [gridWrite, if_pos h]

/-- R77: a length outside 4,000 to 1,000,000 is discarded. -/
theorem gridWrite_of_bad_length {s : State} (h : s.running = false) {v : Nat} (hv : v % 2 ^ 20 < 4000 ∨ 1000000 < v % 2 ^ 20) :
    gridWrite .len v s = s := by
  rw [gridWrite, if_neg (by simp [h]), if_pos ⟨rfl, hv⟩]

/-- R70: a write that is taken places the grid anew. -/
theorem gridWrite_of_taken {s : State} (h : s.running = false) {r : GridReg} {v : Nat}
    (hv : r = .len → 4000 ≤ v % 2 ^ 20 ∧ v % 2 ^ 20 ≤ 1000000) : gridWrite r v s = regrid (s.set (gridFld r) v) := by
  rw [gridWrite, if_neg (by simp [h]), if_neg]
  rintro ⟨hr, hbad⟩
  have := hv hr
  omega

theorem execEpochGridWrite_bench {s : State} (hon : s.netOn = true) (r : GridReg) (v : Word) :
    execEpochGridWrite .bench r v s = .next (gridWrite r v.toNat s) := by
  rw [execEpochGridWrite, State.guardWrite_firmware hon (by decide) rfl]

/-! ### The grid placed anew -/

/-- Recording the start of an epoch touches the time base alone, and there neither the boundary nor site time. -/
theorem setStart_eq_setTb (s : State) (t : Nat) : setStart s t = s.setTb (setStart s t).tb := by
  rw [setStart, State.setTb_tb]

@[simp] theorem setStart_next (s : State) (t : Nat) : (setStart s t).tb.next = s.tb.next := (rfl)
@[simp] theorem setStart_start (s : State) (t : Nat) : (setStart s t).tb.start = t := (rfl)
@[simp] theorem setStart_resid (s : State) (t : Nat) : (setStart s t).tb.resid = s.tb.resid := (rfl)
@[simp] theorem setStart_get (s : State) (t : Nat) (f : Fld) : (setStart s t).get f = s.get f := (rfl)
@[simp] theorem setStart_flag (s : State) (t : Nat) (f : Fld) : (setStart s t).flag f = s.flag f := (rfl)
@[simp] theorem setStart_origin (s : State) (t : Nat) : (setStart s t).origin = s.origin := (rfl)
@[simp] theorem State.setTb_origin (s : State) (x : TimeBase) : (s.setTb x).origin = s.origin := (rfl)
@[simp] theorem setStart_T (s : State) (t : Nat) : (setStart s t).T = s.T := by
  simp [setStart, State.T, TimeBase.ticks]

/-- Site time does not depend on the boundary. -/
@[simp] theorem State.setTb_next_T (s : State) (b : Nat) : (s.setTb { s.tb with next := b }).T = s.T := by
  simp [State.T, TimeBase.ticks]

@[simp] theorem State.setTb_setTb (s : State) (x y : TimeBase) : (s.setTb x).setTb y = s.setTb y := (rfl)

theorem regrid_before_origin {s : State} (h : s.T < s.origin) : regrid s = setStart (s.setTb { s.tb with next := s.origin }) s.T := by
  rw [regrid, if_pos h]

theorem regrid_from_origin {s : State} (h : s.origin ≤ s.T) :
    regrid s = setStart (s.setTb { s.tb with next := s.origin + ((s.T - s.origin) / s.get F.TSB_EPOCH_LEN + 1) * s.get F.TSB_EPOCH_LEN })
      (s.origin + (s.T - s.origin) / s.get F.TSB_EPOCH_LEN * s.get F.TSB_EPOCH_LEN) := by
  rw [regrid, if_neg (Nat.not_lt.2 h)]

theorem regrid_next_before_origin {s : State} (h : s.T < s.origin) : (regrid s).tb.next = s.origin := by
  rw [regrid_before_origin h]; rfl

theorem regrid_next_from_origin {s : State} (h : s.origin ≤ s.T) :
    (regrid s).tb.next = s.origin + ((s.T - s.origin) / s.get F.TSB_EPOCH_LEN + 1) * s.get F.TSB_EPOCH_LEN := by
  rw [regrid_from_origin h]; rfl

/-- R70: the next boundary lies after T. -/
theorem T_lt_regrid_next {s : State} (hlen : 0 < s.get F.TSB_EPOCH_LEN) : s.T < (regrid s).tb.next := by
  by_cases h : s.T < s.origin
  · rwa [regrid_next_before_origin h]
  · have hT := Nat.not_lt.1 h
    have hk := Nat.lt_div_mul_add (a := s.T - s.origin) hlen
    rw [regrid_next_from_origin hT, Nat.succ_mul]
    omega

/-- R70: no boundary lies between T and the next one. -/
theorem regrid_next_le {s : State} (h : s.origin ≤ s.T) : (regrid s).tb.next ≤ s.T + s.get F.TSB_EPOCH_LEN := by
  have hk := Nat.div_mul_le_self (s.T - s.origin) (s.get F.TSB_EPOCH_LEN)
  rw [regrid_next_from_origin h, Nat.succ_mul]
  omega

/-- R70: the next boundary lies on the grid. -/
theorem regrid_next_on_grid {s : State} (h : s.origin ≤ s.T) : ((regrid s).tb.next - s.origin) % s.get F.TSB_EPOCH_LEN = 0 := by
  rw [regrid_next_from_origin h, Nat.add_sub_cancel_left, Nat.mul_mod_left]

/-- R70: the grid placed anew differs in the time base alone, and there in neither site time nor the residence timeline. -/
theorem regrid_frame (s : State) : regrid s = s.setTb (regrid s).tb ∧ (regrid s).T = s.T ∧ (regrid s).tb.resid = s.tb.resid := by
  obtain ⟨b, t, hr⟩ : ∃ b t, regrid s = setStart (s.setTb { s.tb with next := b }) t := by
    by_cases h : s.T < s.origin
    · exact ⟨_, _, regrid_before_origin h⟩
    · exact ⟨_, _, regrid_from_origin (Nat.not_lt.1 h)⟩
  rw [hr]
  refine ⟨?_, by simp, by simp⟩
  conv_lhs => rw [setStart_eq_setTb, State.setTb_setTb]

/-- Settles O8: the writes by the cases of `gridWrite`, the grid by the cases T below ORIGIN and T at or after it. -/
theorem epochGrid : Obligations.EpochGrid := by
  refine ⟨⟨fun s hon => ?_, fun s r v hon hrun => ?_, fun s v hon => ?_, fun s v hon hrun hlo hhi => ?_, fun s v hon hrun hbad => ?_,
    fun s v hon hrun => ⟨?_, ?_⟩⟩, fun s hlen => ⟨T_lt_regrid_next hlen, regrid_next_before_origin,
      fun h => ⟨regrid_next_le h, regrid_next_on_grid h⟩, regrid_frame s⟩⟩
  · rw [exec_epochArm, execEpochArm, State.guardWrite_firmware hon (by decide) rfl]
  · rw [exec_epochGridWrite, execEpochGridWrite_bench hon, gridWrite_of_running hrun]
  · rw [exec_registerWrite, execRegisterWrite_epochNum hon]
  · rw [exec_epochGridWrite, execEpochGridWrite_bench hon, gridWrite_of_taken hrun (by omega), gridFld]
  · rw [exec_epochGridWrite, execEpochGridWrite_bench hon, gridWrite_of_bad_length hrun hbad]
  · rw [exec_epochGridWrite, execEpochGridWrite_bench hon, gridWrite_of_taken hrun (by simp), gridFld]
  · rw [exec_epochGridWrite, execEpochGridWrite_bench hon, gridWrite_of_taken hrun (by simp), gridFld]

end Sys2Proof.Machine

/-!
PROOF. RUN, the end of the open symbols (07 R268), epoch boundaries and the flip (02 R67, R69; 08 R288): `RunAndBoundaries`.
-/

namespace Sys2Proof.Machine

/-! ### RUN, the boundary and the flip as commands -/

theorem exec_runSet (a : Agent) (s : State) : exec (.runSet a) s = execRunSet a s := rfl
theorem exec_runClear (a : Agent) (s : State) : exec (.runClear a) s = execRunClear a s := rfl
theorem exec_epochBoundary (s : State) : exec .epochBoundary s = execEpochBoundary s := rfl
theorem exec_routeTableFlip (s : State) : exec .routeTableFlip s = execRouteTableFlip s := rfl

theorem execRunSet_bench {s : State} (hon : s.netOn = true) : execRunSet .bench s = .next (s.raise F.TSB_EPOCH_CTL_RUN) := by
  rw [execRunSet, State.guardWrite_firmware hon (by decide) rfl, runSet]

theorem execRunClear_bench {s : State} (hon : s.netOn = true) :
    execRunClear .bench s = .next (if s.running then closeAllFlows (s.clear F.TSB_EPOCH_CTL_RUN) else s) := by
  rw [execRunClear, State.guardWrite_firmware hon (by decide) rfl, runClear]

theorem execEpochBoundary_of_not_due {s : State} (hon : s.netOn = true) (hdue : s.fab.flipDue = false) :
    execEpochBoundary s = .next (boundary (advanceTo s.tb.next s)) := by
  rw [execEpochBoundary, if_pos hon, routeFlip_of_not_due hdue]

theorem execRouteTableFlip_of_due {s : State} (hon : s.fabOn = true) (hdue : s.fab.flipDue = true) :
    execRouteTableFlip s = .next (flipCycle (tableFlip s)) := by
  rw [execRouteTableFlip, if_pos hon, routeFlip, if_pos hdue]

theorem execRouteTableFlip_of_not_due {s : State} (hon : s.fabOn = true) (hdue : s.fab.flipDue = false) :
    execRouteTableFlip s = .next s := by
  rw [execRouteTableFlip, if_pos hon, routeFlip_of_not_due hdue]

/-! ### The flows of the encoder -/

theorem State.flow_setFlow_same {s : State} {n : Nat} (h : n < s.see.flows.length) (f : Flow) : (s.setFlow n f).flow n = f :=
  getD_set_same _ _ _ _ h

theorem State.flow_setFlow_ne (s : State) {n m : Nat} (h : m ≠ n) (f : Flow) : (s.setFlow n f).flow m = s.flow m :=
  getD_set_ne _ _ _ _ _ h.symm

@[simp] theorem State.setFlow_flows_length (s : State) (n : Nat) (f : Flow) :
    (s.setFlow n f).see.flows.length = s.see.flows.length := List.length_set

/-- The open symbols of every flow stay, and the number of flows. -/
structure OpensKept (s t : State) : Prop where
  length : t.see.flows.length = s.see.flows.length
  opens : ∀ m, (t.flow m).opens = (s.flow m).opens

theorem OpensKept.refl (s : State) : OpensKept s s := ⟨rfl, fun _ => rfl⟩

theorem OpensKept.trans {s t u : State} (h : OpensKept s t) (g : OpensKept t u) : OpensKept s u :=
  ⟨g.length.trans h.length, fun m => (g.opens m).trans (h.opens m)⟩

/-- What leaves the encoder alone keeps the open symbols. -/
theorem OpensKept.of_see {s t : State} (h : t.see = s.see) : OpensKept s t :=
  ⟨by rw [h], fun m => by rw [State.flow, State.flow, h]⟩

/-- So does an update of a flow that leaves its open symbols. -/
theorem OpensKept.setFlow {s : State} {n : Nat} {f : Flow} (h : f.opens = (s.flow n).opens) : OpensKept s (s.setFlow n f) := by
  refine ⟨s.setFlow_flows_length n f, fun m => ?_⟩
  by_cases hm : m = n
  · subst hm
    by_cases hl : m < s.see.flows.length
    · rw [State.flow_setFlow_same hl, h]
    · rw [State.flow, State.setFlow, State.setSee_see, List.set_eq_of_length_le (Nat.not_lt.1 hl), State.flow]
  · rw [State.flow_setFlow_ne s hm]

theorem OpensKept.ite {s t u : State} {p : Prop} [Decidable p] (h : OpensKept s t) (g : OpensKept s u) :
    OpensKept s (if p then t else u) := by
  split
  · exact h
  · exact g

theorem OpensKept.inc (s : State) (f : Fld) : OpensKept s (s.inc f) := .of_see rfl

theorem OpensKept.foldl {f : State → α → State} (h : ∀ s a, OpensKept s (f s a)) (l : List α) :
    ∀ s, OpensKept s (l.foldl f s) := by
  induction l with
  | nil => exact .refl
  | cons a l ih => exact fun s => (h s a).trans (ih _)

theorem opensKept_emitEv (n : Nat) (e : Ev) (s : State) : OpensKept s (emitEv n e s) := .setFlow rfl

theorem opensKept_setRef (n g : Nat) (r : Int) (s : State) : OpensKept s (setRef n g r s) := .setFlow rfl

/-- R256: a group that is processed emits events and moves its reference; it opens and closes no symbol. -/
theorem opensKept_processGroup (n : Nat) (y : Sym) (s : State) (g : Nat) : OpensKept s (processGroup n y s g) := by
  have emit (u : State) (e : Ev) (f : Fld) : OpensKept u ((emitEv n e u).inc f) := (opensKept_emitEv n e u).trans (.inc _ _)
  have count (u : State) (p : Prop) [Decidable p] (f : Fld) : OpensKept u (if p then u else u.inc f) := .ite (.refl u) (.inc u f)
  have tick : OpensKept s s.tick := .of_see rfl
  unfold processGroup
  dsimp only
  split
  · refine OpensKept.trans ?_ (emit _ _ _)
    exact .setFlow rfl
  split
  · exact count _ _ _
  split
  · exact tick.trans ((count _ _ _).trans ((opensKept_setRef _ _ _ _).trans (emit _ _ _)))
  split
  · exact tick.trans ((count _ _ _).trans ((opensKept_setRef _ _ _ _).trans (emit _ _ _)))
  · exact tick

theorem opensKept_processSym (n : Nat) (y : Sym) (s : State) : OpensKept s (processSym n y s) := by
  unfold processSym
  dsimp only
  refine OpensKept.trans ?_ ((OpensKept.foldl (opensKept_processGroup n y) _ _).trans (.of_see (State.incWrap_see _ _ _)))
  exact .ite (.refl s) (.setFlow rfl)

theorem opensKept_symbolProcess (n : Nat) (s : State) : OpensKept s (symbolProcess n s) := by
  unfold symbolProcess
  dsimp only
  split
  · exact .refl s
  · refine OpensKept.trans ?_ (opensKept_processSym _ _ _)
    exact .setFlow rfl

/-! ### The open symbols close (07 R268) -/

/-- Only the open symbols of flow `n` change, and these become `l`. -/
structure OpensTo (n : Nat) (l : List Sym) (s t : State) : Prop where
  length : t.see.flows.length = s.see.flows.length
  same : (t.flow n).opens = l
  other : ∀ m, m ≠ n → (t.flow m).opens = (s.flow m).opens

theorem OpensTo.trans_kept {n : Nat} {l : List Sym} {s t u : State} (h : OpensTo n l s t) (g : OpensKept t u) : OpensTo n l s u :=
  ⟨g.length.trans h.length, (g.opens n).trans h.same, fun m hm => (g.opens m).trans (h.other m hm)⟩

theorem opensTo_closeSym {n : Nat} {s : State} (h : n < s.see.flows.length) (y : Sym) :
    OpensTo n ((s.flow n).opens.filter (· ≠ y)) s (closeSym n y s) := by
  refine OpensTo.trans_kept ⟨s.setFlow_flows_length _ _, ?_, fun m hm => ?_⟩ (.inc _ _)
  · rw [State.flow_setFlow_same h]
  · rw [State.flow_setFlow_ne s hm]

/-- Symbols closed one after the other leave those that are not among them. -/
theorem opensTo_closeSyms {n : Nat} (ys : List Sym) : ∀ {s : State}, n < s.see.flows.length →
    OpensTo n ((s.flow n).opens.filter (· ∉ ys)) s (ys.foldl (fun s y => closeSym n y s) s) := by
  induction ys with
  | nil => exact fun _ => ⟨rfl, by simp, fun _ _ => rfl⟩
  | cons y ys ih =>
    intro s h
    have hy := opensTo_closeSym h y
    have hys := ih (by rwa [hy.length])
    refine ⟨hys.length.trans hy.length, ?_, fun m hm => (hys.other m hm).trans (hy.other m hm)⟩
    rw [List.foldl_cons, hys.same, hy.same, List.filter_filter]
    exact List.filter_congr (by simp [Bool.and_comm])

theorem opensTo_closeFlow {n : Nat} {s : State} (h : n < s.see.flows.length) : OpensTo n [] s (closeFlow n s) := by
  have hnone : (s.flow n).opens.filter (· ∉ (s.flow n).opens) = [] := by simp
  have hclose := opensTo_closeSyms (s.flow n).opens h
  rw [hnone] at hclose
  exact hclose.trans_kept (OpensKept.foldl (fun s _ => opensKept_symbolProcess n s) _ _)

/-- A flow that is closed, or has no open symbol, has none after the flows `ns` close. -/
theorem opens_closeFlows (ns : List Nat) : ∀ {s : State}, (∀ n ∈ ns, n < s.see.flows.length) →
    ∀ {m}, m ∈ ns ∨ (s.flow m).opens = [] → ((ns.foldl (fun s n => closeFlow n s) s).flow m).opens = [] := by
  induction ns with
  | nil => exact fun _ _ hm => by simpa using hm
  | cons n ns ih =>
    intro s h m hm
    have hn := opensTo_closeFlow (h n List.mem_cons_self)
    refine ih (fun k hk => by rw [hn.length]; exact h k (List.mem_cons_of_mem _ hk)) ?_
    by_cases hmn : m = n
    · exact .inr (hmn ▸ hn.same)
    · exact hm.imp (fun hmem => (List.mem_cons.1 hmem).resolve_left hmn) (fun hopen => (hn.other m hmn).trans hopen)

theorem opens_closeAllFlows {s : State} (hs : s.Sized) {n : Nat} (hn : n < 16) : ((closeAllFlows s).flow n).opens = [] :=
  opens_closeFlows (List.range 16) (fun k hk => by rw [hs.flows]; exact List.mem_range.1 hk) (.inl (List.mem_range.2 hn))

/-! ### The grid at a boundary (R67, R69) -/

/-- R69: the armed length is taken at boundary `b`. -/
def takeArmed (b : Nat) (s : State) : State :=
  let s := s.set64 F.TSB_EPOCH_ORIGIN_LO F.TSB_EPOCH_ORIGIN_HI b
  (s.set F.TSB_EPOCH_LEN (s.get F.TSB_EPOCH_NEXT)).clear F.TSB_EPOCH_CTL_ARM

theorem boundaryGrid_of_unarmed {s : State} (h : s.flag F.TSB_EPOCH_CTL_ARM = false) :
    boundaryGrid s = setStart ((s.set F.TSB_EPOCH_NUM (s.epochNum + 1)).setTb
      { s.tb with next := s.tb.next + s.get F.TSB_EPOCH_LEN }) s.tb.next := by
  have harm : (s.set F.TSB_EPOCH_NUM (s.epochNum + 1)).flag F.TSB_EPOCH_CTL_ARM = false := by
    rw [State.flag_set_of_off_ne _ _ _ _ (by decide), h]
  have hlen : (s.set F.TSB_EPOCH_NUM (s.epochNum + 1)).get F.TSB_EPOCH_LEN = s.get F.TSB_EPOCH_LEN :=
    State.get_set_of_off_ne _ _ _ _ (by decide)
  simp only [boundaryGrid, harm, Bool.false_eq_true, if_false, hlen, State.set_tb]

theorem boundaryGrid_of_armed {s : State} (h : s.flag F.TSB_EPOCH_CTL_ARM = true) :
    boundaryGrid s = setStart ((takeArmed s.tb.next (s.set F.TSB_EPOCH_NUM (s.epochNum + 1))).setTb
      { s.tb with next := s.tb.next + (takeArmed s.tb.next (s.set F.TSB_EPOCH_NUM (s.epochNum + 1))).get F.TSB_EPOCH_LEN })
      s.tb.next := by
  have harm : (s.set F.TSB_EPOCH_NUM (s.epochNum + 1)).flag F.TSB_EPOCH_CTL_ARM = true := by
    rw [State.flag_set_of_off_ne _ _ _ _ (by decide), h]
  simp only [boundaryGrid, harm, if_true, takeArmed, State.clear_tb, State.set_tb, State.set64_tb]

theorem takeArmed_get_of_off_ne (b : Nat) (s : State) (f : Fld) (hlo : f.off ≠ F.TSB_EPOCH_ORIGIN_LO.off)
    (hhi : f.off ≠ F.TSB_EPOCH_ORIGIN_HI.off) (hlen : f.off ≠ F.TSB_EPOCH_LEN.off) (hctl : f.off ≠ F.TSB_EPOCH_CTL_ARM.off) :
    (takeArmed b s).get f = s.get f := by
  rw [takeArmed, State.clear, State.get_set_of_off_ne _ _ _ _ hctl, State.get_set_of_off_ne _ _ _ _ hlen, State.set64,
    State.get_set_of_off_ne _ _ _ _ hhi, State.get_set_of_off_ne _ _ _ _ hlo]

theorem takeArmed_get_len {s : State} (hs : s.regsWf) (b : Nat) : (takeArmed b s).get F.TSB_EPOCH_LEN = s.get F.TSB_EPOCH_NEXT := by
  have hnext : (s.set64 F.TSB_EPOCH_ORIGIN_LO F.TSB_EPOCH_ORIGIN_HI b).get F.TSB_EPOCH_NEXT = s.get F.TSB_EPOCH_NEXT := by
    rw [State.set64, State.get_set_of_off_ne _ _ _ _ (by decide), State.get_set_of_off_ne _ _ _ _ (by decide)]
  rw [takeArmed, State.clear, State.get_set_of_off_ne _ _ _ _ (by decide), State.get_set_same (State.set64_regsWf hs _ _ _) _ _ (by decide),
    hnext]
  exact Nat.mod_eq_of_lt (bitsOf_lt _ _ _)

theorem takeArmed_origin {s : State} (hs : s.regsWf) {b : Nat} (hb : b < 2 ^ 64) : (takeArmed b s).origin = b := by
  rw [State.origin, takeArmed, State.clear, State.get64_set_of_off_ne _ _ _ _ _ (by decide) (by decide),
    State.get64_set_of_off_ne _ _ _ _ _ (by decide) (by decide)]
  exact (State.get64_set64 hs _ _ 31 b (by decide) (by decide)).trans (Nat.mod_eq_of_lt hb)

theorem takeArmed_flag_arm {s : State} (hs : s.regsWf) (b : Nat) : (takeArmed b s).flag F.TSB_EPOCH_CTL_ARM = false :=
  State.flag_clear (State.set_regsWf (State.set64_regsWf hs _ _ _) _ _) _ (by decide)

@[simp] theorem takeArmed_tb (b : Nat) (s : State) : (takeArmed b s).tb = s.tb := by simp [takeArmed]

/-- R67: whether or not a length is armed, EPOCH_NUM counts and the boundary reached starts the epoch; site time stands. -/
theorem boundaryGrid_epoch {s : State} (hs : s.Ok) : (boundaryGrid s).epochNum = (s.epochNum + 1) % 2 ^ 32 ∧
    (boundaryGrid s).tb.start = s.tb.next ∧ (boundaryGrid s).T = s.T := by
  have hnum : (s.set F.TSB_EPOCH_NUM (s.epochNum + 1)).get F.TSB_EPOCH_NUM = (s.epochNum + 1) % 2 ^ 32 :=
    State.get_set_same hs.regs _ _ (by decide)
  cases harm : s.flag F.TSB_EPOCH_CTL_ARM with
  | false =>
    rw [boundaryGrid_of_unarmed harm]
    refine ⟨?_, setStart_start _ _, ?_⟩
    · rw [State.epochNum, setStart_get, State.setTb_get, hnum]
    · simp [State.T, TimeBase.ticks, setStart]
  | true =>
    rw [boundaryGrid_of_armed harm]
    refine ⟨?_, setStart_start _ _, ?_⟩
    · rw [State.epochNum, setStart_get, State.setTb_get,
        takeArmed_get_of_off_ne _ _ _ (by decide) (by decide) (by decide) (by decide), hnum]
    · simp [State.T, TimeBase.ticks, setStart]

/-- R69: an armed boundary takes NEXT as the length, itself as ORIGIN, and clears ARM. -/
theorem boundaryGrid_armed {s : State} (hs : s.Ok) (harm : s.flag F.TSB_EPOCH_CTL_ARM = true) (hb : s.tb.next < 2 ^ 64) :
    (boundaryGrid s).tb.next = s.tb.next + s.get F.TSB_EPOCH_NEXT ∧
    (boundaryGrid s).get F.TSB_EPOCH_LEN = s.get F.TSB_EPOCH_NEXT ∧
    (boundaryGrid s).origin = s.tb.next ∧ (boundaryGrid s).flag F.TSB_EPOCH_CTL_ARM = false := by
  have hwf : (s.set F.TSB_EPOCH_NUM (s.epochNum + 1)).regsWf := State.set_regsWf hs.regs _ _
  have hlen := takeArmed_get_len hwf s.tb.next
  rw [State.get_set_of_off_ne _ _ _ _ (by decide)] at hlen
  rw [boundaryGrid_of_armed harm, hlen, setStart_next, State.setTb_tb, setStart_get, State.setTb_get, setStart_origin,
    State.setTb_origin, setStart_flag, State.setTb_flag]
  exact ⟨rfl, hlen, takeArmed_origin hwf hb, takeArmed_flag_arm hwf _⟩

/-- Settles O10: RUN and the flip by their rows, the open symbols flow by flow, the grid with and without an armed length. -/
theorem runAndBoundaries : Obligations.RunAndBoundaries := by
  refine ⟨⟨fun s hon => ?_, fun s hon hrun => ?_, fun s hon hrun => ?_, fun s n hn hs => opens_closeAllFlows hs hn⟩,
    ⟨fun s hs => boundaryGrid_epoch hs, fun s _ harm => ?_, fun s hs harm hb => boundaryGrid_armed hs harm hb⟩,
    fun s hon hdue => ?_, fun s hon hdue => ?_, fun s hon hdue => ?_⟩
  · rw [exec_runSet, execRunSet_bench hon]
  · rw [exec_runClear, execRunClear_bench hon, hrun, if_neg Bool.false_ne_true]
  · rw [exec_runClear, execRunClear_bench hon, if_pos hrun]
  · rw [boundaryGrid_of_unarmed harm, setStart_next, State.setTb_tb]
  · rw [exec_epochBoundary, execEpochBoundary_of_not_due hon hdue]
  · rw [exec_routeTableFlip, execRouteTableFlip_of_due hon hdue]
  · rw [exec_routeTableFlip, execRouteTableFlip_of_not_due hon hdue]

end Sys2Proof.Machine

/-!
PROOF. The servo (02 R53 to R58, R78): the loop, and what each state change and each period leaves.
-/

namespace Sys2Proof.Machine

/-! ### Clamping and INCR -/

theorem clampI_of_mem {lo hi x : Int} (hlo : lo ≤ x) (hhi : x ≤ hi) : clampI lo hi x = x := by
  rw [clampI, if_neg (Int.not_lt.2 hlo), if_neg (Int.not_lt.2 hhi)]

theorem clampI_of_lt {lo hi x : Int} (h : x < lo) : clampI lo hi x = lo := by
  rw [clampI, if_pos h]

theorem clampI_of_gt {lo hi x : Int} (hle : lo ≤ hi) (h : hi < x) : clampI lo hi x = hi := by
  rw [clampI, if_neg (by omega), if_pos h]

theorem State.setIncr_incr {s : State} (hs : s.regsWf) (v : Nat) : (s.setIncr v).incr = v % 2 ^ 44 := by
  rw [State.incr, State.setIncr]
  exact State.get64_set64 hs _ _ 11 v (by decide) (by decide)

theorem State.setIncr_regsWf {s : State} (hs : s.regsWf) (v : Nat) : (s.setIncr v).regsWf := State.set64_regsWf hs _ _ _

theorem State.setTb_regsWf {s : State} (hs : s.regsWf) (x : TimeBase) : (s.setTb x).regsWf := hs

theorem State.setIncr_get (s : State) (v : Nat) (f : Fld) (hlo : f.off ≠ F.TSB_INCR_LO.off) (hhi : f.off ≠ F.TSB_INCR_HI.off) :
    (s.setIncr v).get f = s.get f := by
  rw [State.setIncr, State.set64, State.get_set_of_off_ne _ _ _ _ hhi, State.get_set_of_off_ne _ _ _ _ hlo]

@[simp] theorem State.setIncr_tb (s : State) (v : Nat) : (s.setIncr v).tb = s.tb := by
  rw [State.setIncr, State.set64_tb]

/-! ### The loop (R57) -/

/-- What the loop writes whether or not a clamp acts: integral, error and INCR. -/
def loopWrite (i e : Int) (v : Nat) (s : State) : State :=
  ((s.seti F.TSB_SERVO_INT i).seti F.TSB_SERVO_ERR (roundDiv e 256)).setIncr v

/-- The integral term before the clamp. -/
def loopSum (s : State) (e : Int) : Int :=
  s.geti F.TSB_SERVO_INT + roundDiv (s.get F.TSB_SERVO_KI * e * 256) (2 ^ (26 + s.get F.TSB_SERVO_CFG_PERIOD_LOG2))

/-- The loop's output before the clamp, for the integral term `i`. -/
def loopOutput (s : State) (e i : Int) : Int := s.get F.TSB_SERVO_KP * e + i * 2 ^ (18 + s.get F.TSB_SERVO_CFG_PERIOD_LOG2)

/-- The integral term after the clamp. -/
def loopInt (s : State) (e : Int) : Int :=
  clampI (-(s.get F.TSB_SERVO_CFG_LIMIT : Int) * 256) ((s.get F.TSB_SERVO_CFG_LIMIT : Int) * 256) (loopSum s e)

/-- The loop's output after the clamp. -/
def loopClamped (s : State) (e : Int) : Int :=
  clampI (-(s.get F.TSB_SERVO_CFG_LIMIT : Int) * 2 ^ (26 + s.get F.TSB_SERVO_CFG_PERIOD_LOG2))
    ((s.get F.TSB_SERVO_CFG_LIMIT : Int) * 2 ^ (26 + s.get F.TSB_SERVO_CFG_PERIOD_LOG2)) (loopOutput s e (loopInt s e))

/-- The loop writes its three registers, and SLEW_LIMIT where a clamp acts. -/
theorem servoLoop_eq (s : State) (e : Int) : servoLoop e s =
    let t := loopWrite (loopInt s e) e (incrOf (loopClamped s e) (26 + s.get F.TSB_SERVO_CFG_PERIOD_LOG2)) s
    if loopInt s e = loopSum s e ∧ loopClamped s e = loopOutput s e (loopInt s e) then t else t.raise F.TSB_STAT_SLEW_LIMIT := by
  have hsh : 26 + s.get F.TSB_SERVO_CFG_PERIOD_LOG2 - 8 = 18 + s.get F.TSB_SERVO_CFG_PERIOD_LOG2 := by omega
  simp only [servoLoop, loopWrite, loopClamped, loopOutput, loopInt, loopSum, hsh]
  congr 1 -- the two conditions are decided by different procedures

theorem loopWrite_regsWf {s : State} (hs : s.regsWf) (i e : Int) (v : Nat) : (loopWrite i e v s).regsWf :=
  State.setIncr_regsWf (State.seti_regsWf (State.seti_regsWf hs _ _) _ _) v

theorem loopWrite_incr {s : State} (hs : s.regsWf) (i e : Int) (v : Nat) : (loopWrite i e v s).incr = v % 2 ^ 44 :=
  State.setIncr_incr (State.seti_regsWf (State.seti_regsWf hs _ _) _ _) v

theorem loopWrite_get (s : State) (i e : Int) (v : Nat) (f : Fld) (hint : f.off ≠ F.TSB_SERVO_INT.off)
    (herr : f.off ≠ F.TSB_SERVO_ERR.off) (hlo : f.off ≠ F.TSB_INCR_LO.off) (hhi : f.off ≠ F.TSB_INCR_HI.off) :
    (loopWrite i e v s).get f = s.get f := by
  rw [loopWrite, State.setIncr_get _ _ _ hlo hhi, State.seti, State.get_set_of_off_ne _ _ _ _ herr, State.seti,
    State.get_set_of_off_ne _ _ _ _ hint]

theorem loopWrite_geti_int {s : State} (hs : s.regsWf) (e : Int) (v : Nat) {i : Int} (hlo : -2 ^ 31 ≤ i) (hhi : i < 2 ^ 31) :
    (loopWrite i e v s).geti F.TSB_SERVO_INT = i := by
  have hwrite : (loopWrite i e v s).geti F.TSB_SERVO_INT = (s.seti F.TSB_SERVO_INT i).geti F.TSB_SERVO_INT := by
    rw [State.geti, loopWrite, State.setIncr_get _ _ _ (by decide) (by decide), State.seti,
      State.get_set_of_off_ne _ _ _ _ (by decide), State.geti]
  rw [hwrite]
  exact State.geti_seti_same hs _ (by decide) hlo hhi

/-- LIMIT is a field of 20 bits, so a clamped integral term fits its register. -/
theorem limit_lt (s : State) : (s.get F.TSB_SERVO_CFG_LIMIT : Int) < 2 ^ 20 := by
  have h : s.get F.TSB_SERVO_CFG_LIMIT < 2 ^ 20 := bitsOf_lt _ _ _
  exact_mod_cast h

/-- Where neither clamp acts the loop leaves the sum, the output's INCR and SLEW_LIMIT as it was. -/
theorem servoLoop_of_unclamped {s : State} (hs : s.regsWf) {e : Int}
    (hlo : -(s.get F.TSB_SERVO_CFG_LIMIT : Int) * 256 ≤ loopSum s e) (hhi : loopSum s e ≤ (s.get F.TSB_SERVO_CFG_LIMIT : Int) * 256)
    (hylo : -(s.get F.TSB_SERVO_CFG_LIMIT : Int) * 2 ^ (26 + s.get F.TSB_SERVO_CFG_PERIOD_LOG2) ≤ loopOutput s e (loopSum s e))
    (hyhi : loopOutput s e (loopSum s e) ≤ (s.get F.TSB_SERVO_CFG_LIMIT : Int) * 2 ^ (26 + s.get F.TSB_SERVO_CFG_PERIOD_LOG2)) :
    (servoLoop e s).geti F.TSB_SERVO_INT = loopSum s e ∧
    (servoLoop e s).incr = incrOf (loopOutput s e (loopSum s e)) (26 + s.get F.TSB_SERVO_CFG_PERIOD_LOG2) % 2 ^ 44 ∧
    (servoLoop e s).flag F.TSB_STAT_SLEW_LIMIT = s.flag F.TSB_STAT_SLEW_LIMIT := by
  have hint : loopInt s e = loopSum s e := clampI_of_mem hlo hhi
  have hout : loopClamped s e = loopOutput s e (loopSum s e) := by
    rw [loopClamped, hint]
    exact clampI_of_mem hylo hyhi
  have hlim := limit_lt s
  rw [servoLoop_eq, hint, hout, if_pos ⟨rfl, rfl⟩]
  refine ⟨loopWrite_geti_int hs _ _ (by omega) (by omega), loopWrite_incr hs _ _ _, ?_⟩
  rw [State.flag, loopWrite_get _ _ _ _ _ (by decide) (by decide) (by decide) (by decide), State.flag]

/-- A sum that the clamp moves leaves the clamped value and sets SLEW_LIMIT. -/
theorem servoLoop_of_clamped {s : State} (hs : s.regsWf) {e : Int} (hne : loopInt s e ≠ loopSum s e) (hlo : -2 ^ 31 ≤ loopInt s e)
    (hhi : loopInt s e < 2 ^ 31) :
    (servoLoop e s).geti F.TSB_SERVO_INT = loopInt s e ∧ (servoLoop e s).flag F.TSB_STAT_SLEW_LIMIT = true := by
  rw [servoLoop_eq, if_neg fun h => hne h.1, State.raise, State.geti_set_of_off_ne _ _ _ _ (by decide)]
  exact ⟨loopWrite_geti_int hs _ _ hlo hhi, State.flag_raise (loopWrite_regsWf hs _ _ _) _ (by decide)⟩

theorem servoLoop_of_sum_above {s : State} (hs : s.regsWf) {e : Int} (h : (s.get F.TSB_SERVO_CFG_LIMIT : Int) * 256 < loopSum s e) :
    (servoLoop e s).geti F.TSB_SERVO_INT = (s.get F.TSB_SERVO_CFG_LIMIT : Int) * 256 ∧
    (servoLoop e s).flag F.TSB_STAT_SLEW_LIMIT = true := by
  have hlim := limit_lt s
  have hint : loopInt s e = (s.get F.TSB_SERVO_CFG_LIMIT : Int) * 256 := clampI_of_gt (by omega) h
  have hclamped := servoLoop_of_clamped hs (e := e) (by omega) (by omega) (by omega)
  rwa [hint] at hclamped

theorem servoLoop_of_sum_below {s : State} (hs : s.regsWf) {e : Int} (h : loopSum s e < -(s.get F.TSB_SERVO_CFG_LIMIT : Int) * 256) :
    (servoLoop e s).geti F.TSB_SERVO_INT = -(s.get F.TSB_SERVO_CFG_LIMIT : Int) * 256 ∧
    (servoLoop e s).flag F.TSB_STAT_SLEW_LIMIT = true := by
  have hlim := limit_lt s
  have hint : loopInt s e = -(s.get F.TSB_SERVO_CFG_LIMIT : Int) * 256 := clampI_of_lt h
  have hclamped := servoLoop_of_clamped hs (e := e) (by omega) (by omega) (by omega)
  rwa [hint] at hclamped

/-! ### The servo's state -/

@[simp] theorem servoOf_code (v : Servo) : servoOf v.code = v := by cases v <;> rfl

theorem Servo.code_lt (v : Servo) : v.code < 4 := by cases v <;> decide

/-- The servo's state is the field STATE of TSB_STAT. -/
theorem State.servo_eq_of_get {s t : State} (h : t.get F.TSB_STAT_STATE = s.get F.TSB_STAT_STATE) : t.servo = s.servo := by
  rw [State.servo, State.servo, h]

theorem setServo_servo {s : State} (hs : s.regsWf) (v : Servo) : (setServo v s).servo = v := by
  rw [setServo]
  split
  · assumption
  · have hget : (s.set F.TSB_STAT_STATE v.code).get F.TSB_STAT_STATE = v.code :=
      (State.get_set_same hs _ _ (by decide)).trans (Nat.mod_eq_of_lt v.code_lt)
    rw [State.owe, State.servo, State.setHst_get, hget, servoOf_code]

theorem setServo_regsWf {s : State} (hs : s.regsWf) (v : Servo) : (setServo v s).regsWf := by
  rw [setServo]
  split
  · exact hs
  · exact State.set_regsWf hs _ _

theorem setServo_get_of_off_ne (s : State) (v : Servo) (f : Fld) (h : f.off ≠ F.TSB_STAT_STATE.off) : (setServo v s).get f = s.get f := by
  rw [setServo]
  split
  · rfl
  · rw [State.owe, State.setHst_get, State.get_set_of_off_ne _ _ _ _ h]

theorem setServo_get_of_apart {s : State} (hs : s.regsWf) (v : Servo) (f : Fld) (h : F.TSB_STAT_STATE.apart f) :
    (setServo v s).get f = s.get f := by
  rw [setServo]
  split
  · rfl
  · rw [State.owe, State.setHst_get, State.get_set_ne hs _ _ _ (by decide) h]

@[simp] theorem setServo_tb (s : State) (v : Servo) : (setServo v s).tb = s.tb := by
  rw [setServo]
  split
  · rfl
  · rw [State.owe, State.setHst_tb, State.set_tb]

/-- What entry to HOLDOVER leaves (R58): INCR from the integral term, which stays, and no change of the time base. -/
theorem holdover_servo {s : State} (hs : s.regsWf) : (holdover s).servo = .holdover := by
  rw [holdover, State.servo_eq_of_get (State.setIncr_get _ _ _ (by decide) (by decide)), setServo_servo hs]

theorem holdover_incr {s : State} (hs : s.regsWf) : (holdover s).incr = incrOf (s.geti F.TSB_SERVO_INT) 8 % 2 ^ 44 :=
  State.setIncr_incr (setServo_regsWf hs _) _

theorem holdover_get_of_off_ne (s : State) (f : Fld) (hst : f.off ≠ F.TSB_STAT_STATE.off) (hlo : f.off ≠ F.TSB_INCR_LO.off)
    (hhi : f.off ≠ F.TSB_INCR_HI.off) : (holdover s).get f = s.get f := by
  rw [holdover, State.setIncr_get _ _ _ hlo hhi, setServo_get_of_off_ne _ _ _ hst]

theorem holdover_get_of_apart {s : State} (hs : s.regsWf) (f : Fld) (hst : F.TSB_STAT_STATE.apart f) (hlo : f.off ≠ F.TSB_INCR_LO.off)
    (hhi : f.off ≠ F.TSB_INCR_HI.off) : (holdover s).get f = s.get f := by
  rw [holdover, State.setIncr_get _ _ _ hlo hhi, setServo_get_of_apart hs _ _ hst]

@[simp] theorem holdover_tb (s : State) : (holdover s).tb = s.tb := by
  rw [holdover, State.setIncr_tb, setServo_tb]

/-! ### The sources -/

/-- R55, R56: a valid source that is active and first in the list stays active, revertive or not. -/
theorem selectSource_of_first {s : State} {c : Nat} (hc : c ≠ 0) (hfirst : s.get F.TSB_SRC_CTL_PRI0 = c)
    (hactive : s.get F.TSB_STAT_ACTIVE_SRC = c) (hvalid : srcValid s c = true) : selectSource s = c := by
  obtain ⟨ps, hps⟩ : ∃ ps, priorities s = c :: ps := ⟨_, by rw [priorities, hfirst, List.filter_cons_of_pos (by simp [hc])]⟩
  simp [selectSource, hps, hactive, hvalid]

/-- With one source in the list and that one invalid, none is active. -/
theorem selectSource_of_only_invalid {s : State} {c : Nat} (hlist : priorities s = [c]) (hvalid : srcValid s c = false) :
    selectSource s = 0 := by
  by_cases ha : s.get F.TSB_STAT_ACTIVE_SRC = c
  · simp [selectSource, hlist, ha, hvalid]
  · simp [selectSource, hlist, ha, hvalid]

theorem showValid_regsWf {s : State} (hs : s.regsWf) : (showValid s).regsWf :=
  State.set_regsWf (State.set_regsWf (State.set_regsWf hs _ _) _ _) _ _

theorem showValid_get_of_off_ne (s : State) (f : Fld) (h : f.off ≠ F.TSB_STAT_STATE.off) : (showValid s).get f = s.get f := by
  have hpps : f.off ≠ F.TSB_STAT_PPS_VALID.off := h
  have hptp : f.off ≠ F.TSB_STAT_PTP_VALID.off := h
  have hten : f.off ≠ F.TSB_STAT_TEN_VALID.off := h
  rw [showValid, State.get_set_of_off_ne _ _ _ _ hten, State.get_set_of_off_ne _ _ _ _ hptp, State.get_set_of_off_ne _ _ _ _ hpps]

theorem showValid_get_of_apart {s : State} (hs : s.regsWf) (f : Fld) (hpps : F.TSB_STAT_PPS_VALID.apart f)
    (hptp : F.TSB_STAT_PTP_VALID.apart f) (hten : F.TSB_STAT_TEN_VALID.apart f) : (showValid s).get f = s.get f := by
  rw [showValid, State.get_set_ne (State.set_regsWf (State.set_regsWf hs _ _) _ _) _ _ _ (by decide) hten,
    State.get_set_ne (State.set_regsWf hs _ _) _ _ _ (by decide) hptp, State.get_set_ne hs _ _ _ (by decide) hpps]

theorem showValid_pps {s : State} (hs : s.regsWf) (h : srcValid s 1 = true) : (showValid s).flag F.TSB_STAT_PPS_VALID = true := by
  rw [showValid, h, State.flag_set_ne (State.set_regsWf (State.set_regsWf hs _ _) _ _) _ _ _ (by decide) (by decide),
    State.flag_set_ne (State.set_regsWf hs _ _) _ _ _ (by decide) (by decide)]
  exact State.flag_raise hs _ (by decide)

@[simp] theorem showValid_tb (s : State) : (showValid s).tb = s.tb := by simp [showValid]
@[simp] theorem showValid_tiles (s : State) : (showValid s).tiles = s.tiles := by simp [showValid]

theorem showValid_srcValid (s : State) (c : Nat) : srcValid (showValid s) c = srcValid s c := by
  rw [srcValid, srcValid, showValid_tb, showValid_get_of_off_ne _ _ (by decide)]

theorem showValid_priorities (s : State) : priorities (showValid s) = priorities s := by
  rw [priorities, showValid_get_of_off_ne _ _ (by decide), showValid_get_of_off_ne _ _ (by decide),
    showValid_get_of_off_ne _ _ (by decide), priorities]

end Sys2Proof.Machine

/-!
PROOF. The rows of the servo (02 R54 to R58, R78): the end of a period, HOLD_FORCE, a source's timeout.
-/

namespace Sys2Proof.Machine

theorem exec_servoUpdate (s : State) : exec .servoUpdate s = execServoUpdate s := rfl
theorem exec_holdForce (a : Agent) (s : State) : exec (.holdForce a) s = execHoldForce a s := rfl
theorem exec_sourceTimeout (src : TimeSource) (s : State) : exec (.sourceTimeout src) s = execSourceTimeout src s := rfl

/-! ### The end of a period -/

/-- A time base whose period has ended: each source counts its sample. -/
def TimeBase.closeSources (t : TimeBase) : TimeBase := { t with pps := t.pps.close, ptp := t.ptp.close, ten := t.ten.close }

/-- The state in which a period's end chooses its source. -/
def periodClosed (s : State) : State := showValid ((closeTen s).setTb (closeTen s).tb.closeSources)

/-- That state with its active source shown. -/
def sourceChosen (s : State) : State := (periodClosed s).set F.TSB_STAT_ACTIVE_SRC (selectSource (periodClosed s))

theorem closeTen_get (s : State) (f : Fld) (h : f.off ≠ F.TSB_TEN_PH.off) : (closeTen s).get f = s.get f := by
  rw [closeTen]
  split
  · rw [State.setTb_get]
  · rw [State.setTb_get, State.seti, State.get_set_of_off_ne _ _ _ _ h]

theorem closeTen_tiles (s : State) : (closeTen s).tiles = s.tiles := by
  rw [closeTen]
  split
  · rw [State.setTb_tiles]
  · rw [State.setTb_tiles, State.seti_tiles]

theorem closeTen_of_no_edge {s : State} (h : s.tb.tenCount = 0) : closeTen s = s.setTb { s.tb with tenMissing := false } := by
  rw [closeTen, if_pos h]

theorem periodClosed_tiles (s : State) : (periodClosed s).tiles = s.tiles := by
  rw [periodClosed, showValid_tiles, State.setTb_tiles, closeTen_tiles]

theorem periodClosed_get (s : State) (f : Fld) (hst : f.off ≠ F.TSB_STAT_STATE.off) (hten : f.off ≠ F.TSB_TEN_PH.off) :
    (periodClosed s).get f = s.get f := by
  rw [periodClosed, showValid_get_of_off_ne _ _ hst, State.setTb_get, closeTen_get _ _ hten]

theorem showValid_closed (s : State) : showValid ((closeTen s).setTb { (closeTen s).tb with
    pps := (closeTen s).tb.pps.close, ptp := (closeTen s).tb.ptp.close, ten := (closeTen s).tb.ten.close }) = periodClosed s := by
  rw [periodClosed, TimeBase.closeSources]

/-- With the servo disabled a period ends in FREERUN. -/
theorem servoUpdate_of_disabled {s : State} (h : s.flag F.TSB_CTL_SERVO_EN = false) :
    servoUpdate s = clearSamples (freerun (periodClosed s)) := by
  have hen : (periodClosed s).flag F.TSB_CTL_SERVO_EN = false := by
    rw [State.flag, periodClosed_get _ _ (by decide) (by decide)]
    exact h
  simp only [servoUpdate, showValid_closed, hen, Bool.not_false, if_true]

/-- R57, R54: a LOCKED servo whose active source delivered a sample of non-zero weight runs the loop, then lock detection. -/
theorem servoUpdate_of_locked {s : State} {x : Source} (hen : (periodClosed s).flag F.TSB_CTL_SERVO_EN = true)
    (hforce : (sourceChosen s).flag F.TSB_CTL_HOLD_FORCE = false) (hlocked : (sourceChosen s).servo = .locked)
    (ha : selectSource (periodClosed s) ≠ 0) (hx : (sourceChosen s).tb.source (selectSource (periodClosed s)) = x)
    (hpresent : x.present = true) (hweight : x.weight ≠ 0) :
    servoUpdate s = clearSamples (lockDetect x (servoLoop (x.theta * x.weight) (sourceChosen s))) := by
  have hchosen : (periodClosed s).set F.TSB_STAT_ACTIVE_SRC (selectSource (periodClosed s)) = sourceChosen s := by rw [sourceChosen]
  simp only [servoUpdate, showValid_closed, hchosen, hen, hforce, hlocked, hx, hpresent, Bool.not_true, Bool.false_eq_true, if_false,
    ha, hweight, ne_eq, not_false_eq_true, decide_true, Bool.and_true, if_true]

/-! ### A period that ends LOCKED on PPS -/

/-- A sample of non-zero weight is an arrival. -/
theorem Source.close_of_arrival {x : Source} (hp : x.present = true) (hw : x.weight ≠ 0) :
    x.close = { x with idle := 0, run := x.run + 1 } := by
  simp [Source.close, hp, hw]

section LockedOnPps

variable {s : State}

/-- Without 10 MHz edges the end of a period writes only the validity bits. -/
theorem periodClosed_of_no_edge (hten : s.tb.tenCount = 0) :
    periodClosed s = showValid (s.setTb { s.tb.closeSources with tenMissing := false }) := by
  rw [periodClosed, closeTen_of_no_edge hten, State.setTb_tb, State.setTb_setTb, TimeBase.closeSources, TimeBase.closeSources]

theorem periodClosed_regsWf (hs : s.regsWf) (hten : s.tb.tenCount = 0) : (periodClosed s).regsWf := by
  rw [periodClosed_of_no_edge hten]
  exact showValid_regsWf (State.setTb_regsWf hs _)

theorem periodClosed_get_of_apart (hs : s.regsWf) (hten : s.tb.tenCount = 0) (f : Fld) (hpps : F.TSB_STAT_PPS_VALID.apart f)
    (hptp : F.TSB_STAT_PTP_VALID.apart f) (hten' : F.TSB_STAT_TEN_VALID.apart f) : (periodClosed s).get f = s.get f := by
  rw [periodClosed_of_no_edge hten, showValid_get_of_apart (State.setTb_regsWf hs _) _ hpps hptp hten', State.setTb_get]

theorem periodClosed_get_of_off_ne (hten : s.tb.tenCount = 0) (f : Fld) (h : f.off ≠ F.TSB_STAT_STATE.off) :
    (periodClosed s).get f = s.get f := by
  rw [periodClosed_of_no_edge hten, showValid_get_of_off_ne _ _ h, State.setTb_get]

theorem periodClosed_pps (hten : s.tb.tenCount = 0) : (periodClosed s).tb.pps = s.tb.pps.close := by
  rw [periodClosed_of_no_edge hten, showValid_tb, State.setTb_tb, TimeBase.closeSources]

variable (hten : s.tb.tenCount = 0) (hp : s.tb.pps.present = true) (hw : s.tb.pps.weight ≠ 0)
include hten hp hw

theorem periodClosed_pps_of_arrival : (periodClosed s).tb.pps = { s.tb.pps with idle := 0, run := s.tb.pps.run + 1 } := by
  rw [periodClosed_pps hten, Source.close_of_arrival hp hw]

/-- R54: a source that has just delivered is valid, TIMEOUT being above 0. -/
theorem srcValid_pps_of_arrival (hto : 0 < s.get F.TSB_SRC_CTL_TIMEOUT) : srcValid (periodClosed s) 1 = true := by
  have hsrc : (periodClosed s).tb.source 1 = { s.tb.pps with idle := 0, run := s.tb.pps.run + 1 } := by
    rw [TimeBase.source, if_pos rfl, periodClosed_pps_of_arrival hten hp hw]
  rw [srcValid, hsrc, periodClosed_get_of_off_ne hten _ (by decide)]
  simpa using hto

variable (hs : s.regsWf) (hactive : s.get F.TSB_STAT_ACTIVE_SRC = 1) (hfirst : s.get F.TSB_SRC_CTL_PRI0 = 1)
  (hto : 0 < s.get F.TSB_SRC_CTL_TIMEOUT)
include hs hactive hfirst hto

theorem selectSource_pps : selectSource (periodClosed s) = 1 := by
  refine selectSource_of_first one_ne_zero ?_ ?_ (srcValid_pps_of_arrival hten hp hw hto)
  · rw [periodClosed_get_of_off_ne hten _ (by decide), hfirst]
  · rw [periodClosed_get_of_apart hs hten _ (by decide) (by decide) (by decide), hactive]

/-- What the period leaves before the loop: PPS counted and shown as valid and active, the servo LOCKED, every other register as it
was. -/
theorem sourceChosen_pps (hlocked : s.servo = .locked) :
    (sourceChosen s).tb.pps = { s.tb.pps with idle := 0, run := s.tb.pps.run + 1 } ∧
    (sourceChosen s).get F.TSB_STAT_ACTIVE_SRC = 1 ∧ (sourceChosen s).servo = .locked ∧
    (sourceChosen s).flag F.TSB_STAT_PPS_VALID = true ∧
    ∀ f : Fld, f.off ≠ F.TSB_STAT_ACTIVE_SRC.off → (sourceChosen s).get f = s.get f := by
  have hwf := periodClosed_regsWf hs hten
  have hvalid := srcValid_pps_of_arrival hten hp hw hto
  rw [sourceChosen, selectSource_pps hten hp hw hs hactive hfirst hto]
  refine ⟨?_, ?_, ?_, ?_, fun f hf => ?_⟩
  · rw [State.set_tb, periodClosed_pps_of_arrival hten hp hw]
  · exact State.get_set_same hwf _ _ (by decide)
  · refine (State.servo_eq_of_get ?_).trans hlocked
    rw [State.get_set_ne hwf _ _ _ (by decide) (by decide), periodClosed_get_of_apart hs hten _ (by decide) (by decide) (by decide)]
  · rw [State.flag_set_ne hwf _ _ _ (by decide) (by decide), periodClosed_of_no_edge hten]
    refine showValid_pps (State.setTb_regsWf hs _) ?_
    rwa [periodClosed_of_no_edge hten, showValid_srcValid] at hvalid
  · rw [State.get_set_of_off_ne _ _ _ _ hf, periodClosed_get_of_off_ne hten _ hf]

/-- R57, R54: the period of a LOCKED servo on PPS. -/
theorem servoUpdate_locked_pps (hen : s.flag F.TSB_CTL_SERVO_EN = true) (hforce : s.flag F.TSB_CTL_HOLD_FORCE = false)
    (hlocked : s.servo = .locked) :
    servoUpdate s = clearSamples (lockDetect (sourceChosen s).tb.pps
      (servoLoop ((sourceChosen s).tb.pps.theta * (sourceChosen s).tb.pps.weight) (sourceChosen s))) := by
  obtain ⟨hpps, -, hservo, -, hframe⟩ := sourceChosen_pps hten hp hw hs hactive hfirst hto hlocked
  have hsel := selectSource_pps hten hp hw hs hactive hfirst hto
  refine servoUpdate_of_locked ?_ ?_ hservo (by rw [hsel]; exact one_ne_zero) ?_ (by rw [hpps]; exact hp) (by rw [hpps]; exact hw)
  · rw [State.flag, periodClosed_get_of_off_ne hten _ (by decide)]
    exact hen
  · rw [State.flag, hframe _ (by decide)]
    exact hforce
  · rw [hsel, TimeBase.source, if_pos rfl]

end LockedOnPps

/-! ### HOLD_FORCE and a source's timeout -/

/-- R58: HOLD_FORCE takes an enabled servo to HOLDOVER. -/
theorem holdForce_of_enabled {s : State} (h : s.flag F.TSB_CTL_SERVO_EN = true) (hs : s.regsWf) :
    holdForce s = holdover (s.raise F.TSB_CTL_HOLD_FORCE) := by
  have hen : (s.raise F.TSB_CTL_HOLD_FORCE).flag F.TSB_CTL_SERVO_EN = true := by
    rw [State.raise, State.flag_set_ne hs _ _ _ (by decide) (by decide), h]
  rw [holdForce, if_pos hen]

theorem holdForce_holdover {s : State} (h : s.flag F.TSB_CTL_SERVO_EN = true) (hs : s.regsWf) :
    (holdForce s).servo = .holdover ∧ (holdForce s).flag F.TSB_CTL_HOLD_FORCE = true ∧
    (holdForce s).incr = incrOf (s.geti F.TSB_SERVO_INT) 8 % 2 ^ 44 ∧
    (holdForce s).geti F.TSB_SERVO_INT = s.geti F.TSB_SERVO_INT ∧ (holdForce s).tb = s.tb := by
  have hwf : (s.raise F.TSB_CTL_HOLD_FORCE).regsWf := State.raise_regsWf hs _
  have hint : (s.raise F.TSB_CTL_HOLD_FORCE).geti F.TSB_SERVO_INT = s.geti F.TSB_SERVO_INT :=
    State.geti_set_of_off_ne _ _ _ _ (by decide)
  rw [holdForce_of_enabled h hs]
  refine ⟨holdover_servo hwf, ?_, by rw [holdover_incr hwf, hint], ?_, by rw [holdover_tb, State.raise_tb]⟩
  · rw [State.flag, holdover_get_of_off_ne _ _ (by decide) (by decide) (by decide)]
    exact State.flag_raise hs _ (by decide)
  · rw [State.geti, holdover_get_of_off_ne _ _ (by decide) (by decide) (by decide)]
    exact hint

/-- A time base whose source `c` has timed out (R78). -/
def TimeBase.dropSource (t : TimeBase) (c : Nat) : TimeBase :=
  if c = 1 then { t with pps := { t.source c with idle := 255, run := 0 } }
  else if c = 2 then { t with ptp := { t.source c with idle := 255, run := 0 } }
  else { t with ten := { t.source c with idle := 255, run := 0 } }

theorem TimeBase.dropSource_idle (t : TimeBase) (c : Nat) : ((t.dropSource c).source c).idle = 255 := by
  by_cases h1 : c = 1
  · simp [dropSource, source, h1]
  · by_cases h2 : c = 2 <;> simp [dropSource, source, h1, h2]

/-- The state in which a timeout chooses the next source. -/
def sourceDropped (c : Nat) (s : State) : State := showValid (s.setTb (s.tb.dropSource c))

/-- The TIMEOUT field has 8 bits: a source that timed out is not valid. -/
theorem srcValid_sourceDropped (c : Nat) (s : State) : srcValid (sourceDropped c s) c = false := by
  have hto : (s.setTb (s.tb.dropSource c)).get F.TSB_SRC_CTL_TIMEOUT < 2 ^ 8 := bitsOf_lt _ _ _
  rw [sourceDropped, showValid_srcValid, srcValid, State.setTb_tb, TimeBase.dropSource_idle, Bool.and_eq_false_iff]
  exact .inr (decide_eq_false (by omega))

theorem sourceTimeout_of_absent {s : State} {c : Nat} (hp : (s.tb.source c).present = false)
    (hen : (sourceDropped c s).flag F.TSB_CTL_SERVO_EN = true) (hsel : selectSource (sourceDropped c s) = 0)
    (hservo : ((sourceDropped c s).set F.TSB_STAT_ACTIVE_SRC 0).servo = .locked)
    (hen' : ((sourceDropped c s).set F.TSB_STAT_ACTIVE_SRC 0).flag F.TSB_CTL_SERVO_EN = true) :
    sourceTimeout c s = holdover ((sourceDropped c s).set F.TSB_STAT_ACTIVE_SRC 0) := by
  have hstays : ((s.tb.source c).present && decide ((s.tb.source c).weight ≠ 0)) = false := by rw [hp, Bool.false_and]
  have hdrop : showValid (s.setTb (if c = 1 then { s.tb with pps := { s.tb.source c with idle := 255, run := 0 } }
      else if c = 2 then { s.tb with ptp := { s.tb.source c with idle := 255, run := 0 } }
      else { s.tb with ten := { s.tb.source c with idle := 255, run := 0 } })) = sourceDropped c s := by
    rw [sourceDropped, TimeBase.dropSource]
  simp only [sourceTimeout, hstays, hdrop, hen, hsel, hservo, hen', Bool.false_eq_true, if_false, if_true, decide_true, Bool.and_true,
    Bool.or_true]

theorem priorities_of_only {s : State} {c : Nat} (hc : c ≠ 0) (h0 : s.get F.TSB_SRC_CTL_PRI0 = c) (h1 : s.get F.TSB_SRC_CTL_PRI1 = 0)
    (h2 : s.get F.TSB_SRC_CTL_PRI2 = 0) : priorities s = [c] := by
  simp [priorities, h0, h1, h2, hc]

/-- R78, R58: the timeout of the only source of the list takes a LOCKED servo to HOLDOVER. -/
theorem sourceTimeout_holdover {s : State} {c : Nat} (hs : s.regsWf) (hc : c ≠ 0) (hen : s.flag F.TSB_CTL_SERVO_EN = true)
    (hlocked : s.servo = .locked) (h0 : s.get F.TSB_SRC_CTL_PRI0 = c) (h1 : s.get F.TSB_SRC_CTL_PRI1 = 0)
    (h2 : s.get F.TSB_SRC_CTL_PRI2 = 0) (hp : (s.tb.source c).present = false) :
    (sourceTimeout c s).servo = .holdover ∧ (sourceTimeout c s).get F.TSB_STAT_ACTIVE_SRC = 0 ∧
    ((sourceTimeout c s).tb.source c).idle = 255 ∧ (sourceTimeout c s).incr = incrOf (s.geti F.TSB_SERVO_INT) 8 % 2 ^ 44 := by
  have hwf : (sourceDropped c s).regsWf := showValid_regsWf (State.setTb_regsWf hs _)
  have hother (f : Fld) (h : f.off ≠ F.TSB_STAT_STATE.off) : (sourceDropped c s).get f = s.get f := by
    rw [sourceDropped, showValid_get_of_off_ne _ _ h, State.setTb_get]
  have hother' (f : Fld) (h : f.off ≠ F.TSB_STAT_ACTIVE_SRC.off) :
      ((sourceDropped c s).set F.TSB_STAT_ACTIVE_SRC 0).get f = s.get f := by
    rw [State.get_set_of_off_ne _ _ _ _ h, hother _ h]
  have hstate : (sourceDropped c s).get F.TSB_STAT_STATE = s.get F.TSB_STAT_STATE := by
    rw [sourceDropped, showValid_get_of_apart (State.setTb_regsWf hs _) _ (by decide) (by decide) (by decide), State.setTb_get]
  have hsel : selectSource (sourceDropped c s) = 0 := by
    refine selectSource_of_only_invalid ?_ (srcValid_sourceDropped c s)
    rw [sourceDropped, showValid_priorities]
    exact priorities_of_only hc h0 h1 h2
  have hservo : ((sourceDropped c s).set F.TSB_STAT_ACTIVE_SRC 0).servo = .locked := by
    refine (State.servo_eq_of_get ?_).trans hlocked
    rw [State.get_set_ne hwf _ _ _ (by decide) (by decide), hstate]
  have hwf' : ((sourceDropped c s).set F.TSB_STAT_ACTIVE_SRC 0).regsWf := State.set_regsWf hwf _ _
  rw [sourceTimeout_of_absent hp (by rw [State.flag, hother _ (by decide)]; exact hen) hsel hservo
    (by rw [State.flag, hother' _ (by decide)]; exact hen)]
  refine ⟨holdover_servo hwf', ?_, ?_, ?_⟩
  · rw [holdover_get_of_apart hwf' _ (by decide) (by decide) (by decide)]
    exact State.get_clear_same hwf _ (by decide)
  · rw [holdover_tb, State.set_tb, sourceDropped, showValid_tb, State.setTb_tb, TimeBase.dropSource_idle]
  · rw [holdover_incr hwf', State.geti, hother' _ (by decide), State.geti]

end Sys2Proof.Machine

/-!
PROOF. The port maps (02 R62 to R64; 04 R162): beacons, their responses and timeouts; and `Servo`.
-/

namespace Sys2Proof.Machine

theorem exec_beaconSend (n : Nat) (s : State) : exec (.beaconSend n) s = execBeaconSend n s := rfl
theorem exec_beaconResp (n seq q t2 t3 : Nat) (s : State) : exec (.beaconResp n seq q t2 t3) s = execBeaconResp n seq q t2 t3 s := rfl
theorem exec_beaconTimeout (n : Nat) (s : State) : exec (.beaconTimeout n) s = execBeaconTimeout n s := rfl

/-! ### A port's map -/

theorem State.pmap_eq_of_maps {s t : State} (h : t.tb.maps = s.tb.maps) (n : Nat) : t.pmap n = s.pmap n := by
  rw [State.pmap, State.pmap, h]

theorem State.pmap_of_maps_set {s : State} {l : List PortMap} {n : Nat} {m : PortMap} (h : s.tb.maps = l.set n m) (hn : n < l.length) :
    s.pmap n = m := by
  rw [State.pmap, h, getD_set_same _ _ _ _ hn]

theorem State.setMap_maps (s : State) (n : Nat) (m : PortMap) : (s.setMap n m).tb.maps = s.tb.maps.set n m := by
  rw [State.setMap, State.set_tb, State.set64_tb, State.set64_tb, State.setTb_tb]

theorem State.setMap_regsWf {s : State} (hs : s.regsWf) (n : Nat) (m : PortMap) : (s.setMap n m).regsWf :=
  State.set_regsWf (State.set64_regsWf (State.set64_regsWf hs _ _ _) _ _ _) _ _

/-- A saturating counter reads one more, up to the field's largest value. -/
theorem State.get_inc_same {s : State} (hs : s.regsWf) (f : Fld) (hf : f.ok) :
    (s.inc f).get f = min (2 ^ (f.hi + 1 - f.lo) - 1) (s.get f + 1) := by
  have hlt : s.get f < 2 ^ (f.hi + 1 - f.lo) := bitsOf_lt _ _ _
  have hsat : satAdd (f.hi + 1 - f.lo) (s.get f) 1 = min (2 ^ (f.hi + 1 - f.lo) - 1) (s.get f + 1) := by
    rw [satAdd]
    split <;> omega
  rw [State.inc, State.incBy, State.get_set_same hs _ _ hf, hsat, Nat.mod_eq_of_lt (by omega)]

theorem statMiss_ok (n : Nat) : (F.TSB_PT_STAT_MISS n).ok := (by decide : 8 ≤ 15 ∧ 15 < 32)
theorem statState_ok (n : Nat) : (F.TSB_PT_STAT_STATE n).ok := (by decide : 0 ≤ 1 ∧ 1 < 32)
theorem statMiss_apart_state (n : Nat) : (F.TSB_PT_STAT_MISS n).apart (F.TSB_PT_STAT_STATE n) := .inr (.inr (by decide : 1 < 8))
theorem statState_apart_miss (n : Nat) : (F.TSB_PT_STAT_STATE n).apart (F.TSB_PT_STAT_MISS n) := .inr (.inl (by decide : 1 < 8))

/-! ### A beacon leaves (R162) -/

theorem execBeaconSend_of_active {s : State} {n : Nat} (hon : s.ingOn = true) (hn : n < 16) (hlink : s.link n = 4)
    (hen : s.flag (F.TSB_PT_CFG_EN n) = true) (hout : (s.pmap n).outstanding = none) :
    execBeaconSend n s = .next (back n 0x03 [BitVec.ofNat 8 (s.pmap n).bseq]
      (s.setTb { s.tb with maps := s.tb.maps.set n { s.pmap n with
        outstanding := some ((s.pmap n).bseq, s.T), bseq := ((s.pmap n).bseq + 1) % 256,
        cfg := (s.reg (F.TSB_PT_CFG_EN n).off).toNat } })) := by
  simp [execBeaconSend, beaconSend, hon, hn, hlink, hen, hout]

/-! ### A response completes the exchange (R162, R63) -/

/-- A good packet is counted at its port; it does not touch the time base. -/
theorem goodPacket_tb (n seq : Nat) (s : State) : (goodPacket n seq s).tb = s.tb := by
  rw [goodPacket, State.setJp_tb]
  split
  · rw [State.inc_tb]
  · rw [State.clear_tb, State.inc_tb, State.inc_tb]

theorem beaconResp_of_match {s : State} {n q t1 t2 t3 : Nat} (hout : (s.pmap n).outstanding = some (q, t1)) (h2 : t2 < 2 ^ 56)
    (h3 : t3 < 2 ^ 56) : beaconResp n q t2 t3 s = mapExchange n t1 t2 t3 s.T s := by
  have hfit : ¬(2 ^ 56 ≤ t2 ∨ 2 ^ 56 ≤ t3) := by omega
  simp only [beaconResp, hout, ne_eq, not_true_eq_false, if_false, if_neg hfit]

theorem execBeaconResp_of_match {s : State} {n q t1 t2 t3 : Nat} (seq : Nat) (htakes : takesPackets s n = true)
    (hout : (s.pmap n).outstanding = some (q, t1)) (h2 : t2 < 2 ^ 56) (h3 : t3 < 2 ^ 56) :
    execBeaconResp n seq q t2 t3 s = .next (mapExchange n t1 t2 t3 s.T (goodPacket n seq s)) := by
  have hT : (goodPacket n seq s).T = s.T := by rw [State.T, goodPacket_tb, State.T]
  have hout' : ((goodPacket n seq s).pmap n).outstanding = some (q, t1) := by
    rw [State.pmap_eq_of_maps (congrArg TimeBase.maps (goodPacket_tb n seq s)), hout]
  rw [execBeaconResp, onPacket, if_pos htakes, beaconResp_of_match hout' h2 h3, hT]

/-! ### The first exchange starts the map (R63) -/

/-- What the first exchange does: the delay is recorded, the map starts, the port is in ACQUIRE with no exchange missed. -/
theorem mapExchange_first {s : State} {n : Nat} (t1 t2 t3 t4 : Nat) (hs : s.regsWf) (hstart : (s.pmap n).started = false)
    (hdelays : (s.pmap n).delays = []) : ∃ (u : State) (m : PortMap),
      mapExchange n t1 t2 t3 t4 s = ((u.setMap n m).set (F.TSB_PT_STAT_STATE n) 1).clear (F.TSB_PT_STAT_MISS n) ∧
      u.regsWf ∧ u.tb.maps.length = s.tb.maps.length ∧ m.started = true ∧ m.p0 = (t2 + t3) / 512 ∧
      m.r = 0x7D000000 ∧ m.o = (((t1 : Int) + t4) * 128 + s.geti (F.TSB_PT_ASYM n)) * 256 ∧ m.outstanding = none := by
  have hp0 : (((t2 : Int) + t3) / 2 ^ 9).toNat = (t2 + t3) / 512 := by omega
  simp only [mapExchange, hstart, hdelays, List.foldl_nil, Bool.false_eq_true, if_false, Bool.not_false, if_true]
  refine ⟨_, _, rfl, State.setTb_regsWf (State.seti_regsWf hs _ _) _, ?_, rfl, hp0, rfl, rfl, rfl⟩
  rw [State.setTb_tb, State.seti_tb, List.length_set]

theorem mapExchange_starts {s : State} {n : Nat} (t1 t2 t3 t4 : Nat) (hs : s.regsWf) (hn : n < s.tb.maps.length)
    (hstart : (s.pmap n).started = false) (hdelays : (s.pmap n).delays = []) :
    let t := mapExchange n t1 t2 t3 t4 s
    (t.pmap n).started = true ∧ (t.pmap n).p0 = (t2 + t3) / 512 ∧ (t.pmap n).r = 0x7D000000 ∧
    (t.pmap n).o = (((t1 : Int) + t4) * 128 + s.geti (F.TSB_PT_ASYM n)) * 256 ∧ (t.pmap n).outstanding = none ∧
    t.get (F.TSB_PT_STAT_STATE n) = 1 ∧ t.get (F.TSB_PT_STAT_MISS n) = 0 := by
  obtain ⟨u, m, heq, hu, hlen, hstarted, hp0, hr, ho, hout⟩ := mapExchange_first t1 t2 t3 t4 hs hstart hdelays
  have hwf : (u.setMap n m).regsWf := State.setMap_regsWf hu n m
  have hmaps : (((u.setMap n m).set (F.TSB_PT_STAT_STATE n) 1).clear (F.TSB_PT_STAT_MISS n)).tb.maps = u.tb.maps.set n m := by
    rw [State.clear_tb, State.set_tb, State.setMap_maps]
  have hstate : (((u.setMap n m).set (F.TSB_PT_STAT_STATE n) 1).clear (F.TSB_PT_STAT_MISS n)).get (F.TSB_PT_STAT_STATE n) = 1 := by
    rw [State.clear, State.get_set_ne (State.set_regsWf hwf _ _) _ _ _ (statMiss_ok n) (statMiss_apart_state n),
      State.get_set_same hwf _ _ (statState_ok n)]
    rfl
  dsimp only
  rw [heq, State.pmap_of_maps_set hmaps (by rwa [hlen])]
  exact ⟨hstarted, hp0, hr, ho, hout, hstate, State.get_clear_same (State.set_regsWf hwf _ _) _ (statMiss_ok n)⟩

/-! ### A missed exchange (R64) -/

/-- A map whose exchange has failed: the correspondence O, R stays. -/
def PortMap.missed (m : PortMap) : PortMap := { m with outstanding := none, goodRun := 0, badRun := 0 }

/-- The state after a missed exchange, but for the eighth's HOLD. -/
def missCounted (n : Nat) (s : State) : State :=
  (s.inc (F.TSB_PT_STAT_MISS n)).setTb { s.tb with maps := s.tb.maps.set n (s.pmap n).missed }

section MissedExchange

variable {s : State} {n : Nat}

theorem mapMiss_eq : mapMiss n s =
    if 8 ≤ (missCounted n s).get (F.TSB_PT_STAT_MISS n) ∧
      ((missCounted n s).get (F.TSB_PT_STAT_STATE n) = 1 ∨ (missCounted n s).get (F.TSB_PT_STAT_STATE n) = 2)
    then (missCounted n s).set (F.TSB_PT_STAT_STATE n) 3 else missCounted n s := by
  have hmap : (s.inc (F.TSB_PT_STAT_MISS n)).pmap n = s.pmap n := State.pmap_eq_of_maps (by rw [State.inc_tb]) n
  simp only [mapMiss, missCounted, PortMap.missed, State.inc_tb, hmap, Bool.and_eq_true, decide_eq_true_eq]
  congr 1 -- the two conditions are decided by different procedures

theorem mapMiss_pmap (hn : n < s.tb.maps.length) : (mapMiss n s).pmap n = (s.pmap n).missed := by
  have hmaps : (mapMiss n s).tb.maps = s.tb.maps.set n (s.pmap n).missed := by
    rw [mapMiss_eq]
    split
    · rw [State.set_tb, missCounted, State.setTb_tb]
    · rw [missCounted, State.setTb_tb]
  exact State.pmap_of_maps_set hmaps hn

variable (hs : s.regsWf)
include hs

theorem missCounted_regsWf : (missCounted n s).regsWf := State.setTb_regsWf (State.inc_regsWf hs _) _

theorem missCounted_miss : (missCounted n s).get (F.TSB_PT_STAT_MISS n) = min 255 (s.get (F.TSB_PT_STAT_MISS n) + 1) := by
  rw [missCounted, State.setTb_get, State.get_inc_same hs _ (statMiss_ok n)]
  rfl

theorem missCounted_state : (missCounted n s).get (F.TSB_PT_STAT_STATE n) = s.get (F.TSB_PT_STAT_STATE n) := by
  rw [missCounted, State.setTb_get, State.inc, State.incBy, State.get_set_ne hs _ _ _ (statMiss_ok n) (statMiss_apart_state n)]

theorem mapMiss_miss : (mapMiss n s).get (F.TSB_PT_STAT_MISS n) = min 255 (s.get (F.TSB_PT_STAT_MISS n) + 1) := by
  rw [← missCounted_miss hs, mapMiss_eq]
  split
  · exact State.get_set_ne (missCounted_regsWf hs) _ _ _ (statState_ok n) (statState_apart_miss n)
  · rfl

/-- The eighth miss in a row takes a started map to HOLD. -/
theorem mapMiss_holds (hmiss : 7 ≤ s.get (F.TSB_PT_STAT_MISS n))
    (hstate : s.get (F.TSB_PT_STAT_STATE n) = 1 ∨ s.get (F.TSB_PT_STAT_STATE n) = 2) :
    (mapMiss n s).get (F.TSB_PT_STAT_STATE n) = 3 := by
  rw [mapMiss_eq, if_pos ⟨by rw [missCounted_miss hs]; omega, by rwa [missCounted_state hs]⟩,
    State.get_set_same (missCounted_regsWf hs) _ _ (statState_ok n)]
  rfl

theorem mapMiss_state_of_few (hmiss : s.get (F.TSB_PT_STAT_MISS n) < 7) :
    (mapMiss n s).get (F.TSB_PT_STAT_STATE n) = s.get (F.TSB_PT_STAT_STATE n) := by
  have hfew : ¬8 ≤ (missCounted n s).get (F.TSB_PT_STAT_MISS n) := by
    rw [missCounted_miss hs]
    omega
  rw [mapMiss_eq, if_neg fun h => hfew h.1, missCounted_state hs]

end MissedExchange

theorem execBeaconTimeout_of_open {s : State} {n : Nat} (hon : s.ingOn = true) (hout : (s.pmap n).outstanding.isSome = true) :
    execBeaconTimeout n s = .next (mapMiss n s) := by
  rw [execBeaconTimeout, hon, hout, Bool.and_self, if_pos rfl]

/-! ### The statement -/

theorem srcCode_ne_zero (src : TimeSource) : srcCode src ≠ 0 := by cases src <;> decide

theorem Agent.ne_host_of_firmware {a : Agent} (h : a = .bench ∨ a = .touchmark) : a ≠ .host := by
  rintro rfl
  simp at h

theorem Writers.benchTouchmark_allows {a : Agent} (h : a = .bench ∨ a = .touchmark) : Writers.benchTouchmark.allows a = true := by
  simpa [Writers.allows] using h

/-- Settles O11: the loop by its clamps, the servo's states by its three rows, the port maps by their exchanges. -/
theorem servo : Obligations.Servo := by
  refine ⟨fun s e hs => ⟨fun hlo hhi hylo hyhi => servoLoop_of_unclamped hs.regs hlo hhi hylo hyhi,
      fun h => servoLoop_of_sum_above hs.regs h, fun h => servoLoop_of_sum_below hs.regs h⟩,
    ⟨fun s hon hen => ?_, fun s hs hon hen hforce hlocked hten hp hw hactive hfirst hto => ?_, fun s a ha hs hon hen => ?_,
      fun s src hs hon hen hlocked h0 h1 h2 hp => ?_⟩,
    fun s n hon hn hlink hen hout => ?_, fun s n seq q t1 t2 t3 htakes hout h2 h3 => ?_,
    fun s n t1 t2 t3 t4 hs hsz hn hstart hdelays => mapExchange_starts t1 t2 t3 t4 hs.regs (by rwa [hsz.maps]) hstart hdelays,
    fun s n hs hsz hon hn hout => ?_⟩
  · rw [exec_servoUpdate, execServoUpdate, if_pos hon, servoUpdate_of_disabled hen]
    exact ⟨_, rfl, periodClosed s, rfl, periodClosed_tiles s⟩
  · rw [exec_servoUpdate, execServoUpdate, if_pos hon, servoUpdate_locked_pps hten hp hw hs.regs hactive hfirst hto hen hforce hlocked]
    exact ⟨_, rfl, sourceChosen s, rfl, sourceChosen_pps hten hp hw hs.regs hactive hfirst hto hlocked⟩
  · rw [exec_holdForce, execHoldForce, State.guardWrite_firmware hon (Agent.ne_host_of_firmware ha) (Writers.benchTouchmark_allows ha)]
    exact ⟨_, rfl, holdForce_holdover hen hs.regs⟩
  · rw [exec_sourceTimeout, execSourceTimeout, if_pos hon]
    exact ⟨_, rfl, sourceTimeout_holdover hs.regs (srcCode_ne_zero src) hen hlocked h0 h1 h2 hp⟩
  · rw [exec_beaconSend, execBeaconSend_of_active hon hn hlink hen hout]
  · rw [exec_beaconResp, execBeaconResp_of_match seq htakes hout h2 h3]
  · rw [exec_beaconTimeout, execBeaconTimeout_of_open hon hout]
    have hmap := mapMiss_pmap (s := s) (n := n) (by rwa [hsz.maps])
    exact ⟨_, rfl, mapMiss_miss hs.regs, by rw [hmap, PortMap.missed], by rw [hmap, PortMap.missed], by rw [hmap, PortMap.missed],
      mapMiss_holds hs.regs, mapMiss_state_of_few hs.regs⟩

end Sys2Proof.Machine

/-!
PROOF. The fronthaul switch (03): registers after a write, and the MAC table's commands.
-/

namespace Sys2Proof.Machine

/-! ### Registers of the switch -/

/-- A write of the switch's registers by the firmware, with NET on, has its effect (R20). -/
theorem State.guardWrite_net {s : State} {a : Agent} (ha : a = .bench ∨ a = .touchmark) (hon : s.netOn = true) (off : Nat)
    (f : State → State) : s.guardWrite s.netOn .benchTouchmark a off f = f s :=
  State.guardWrite_firmware hon (Agent.ne_host_of_firmware ha) (Writers.benchTouchmark_allows ha) off f

/-- A flag reads back as written. -/
theorem State.flag_set_b2n {s : State} (hs : s.regsWf) (f : Fld) (b : Bool) (hf : f.ok) : (s.set f (b2n b)).flag f = b := by
  cases b
  · exact State.flag_clear hs f hf
  · exact State.flag_raise hs f hf

theorem State.flag_raise_of_off_ne (s : State) (f g : Fld) (h : g.off ≠ f.off) : (s.raise f).flag g = s.flag g :=
  s.flag_set_of_off_ne f g 1 h

theorem State.get_inc_of_off_ne (s : State) (f g : Fld) (h : g.off ≠ f.off) : (s.inc f).get g = s.get g :=
  s.get_set_of_off_ne f g _ h

theorem State.flag_inc_of_off_ne (s : State) (f g : Fld) (h : g.off ≠ f.off) : (s.inc f).flag g = s.flag g :=
  s.flag_set_of_off_ne f g _ h

theorem State.geti_inc_of_off_ne (s : State) (f g : Fld) (h : g.off ≠ f.off) : (s.inc f).geti g = s.geti g :=
  s.geti_set_of_off_ne f g _ h

/-- Nothing but registers differs. -/
def State.RegsOnly (s t : State) : Prop := t = s.setRegs t.regs

theorem State.RegsOnly.refl (s : State) : s.RegsOnly s := rfl

theorem State.RegsOnly.set {s t : State} (h : s.RegsOnly t) (f : Fld) (v : Nat) : s.RegsOnly (t.set f v) := by
  rw [State.RegsOnly] at h ⊢
  rw [h]
  rfl

theorem State.RegsOnly.sw {s t : State} (h : s.RegsOnly t) : t.sw = s.sw := by
  rw [h, State.setRegs_sw]

theorem State.RegsOnly.foldl {α : Type} {f : State → α → State} (h : ∀ s t a, State.RegsOnly s t → s.RegsOnly (f t a)) (l : List α) :
    ∀ {s t : State}, s.RegsOnly t → s.RegsOnly (l.foldl f t) := by
  induction l with
  | nil => exact id
  | cons a l ih => exact fun g => ih (h _ _ a g)

/-! ### Entries of the MAC table -/

theorem macFind_key {s : State} {v m : Nat} {e : MacEntry} (h : macFind s v m = some e) : e.vid = v ∧ e.mac = m := by
  simpa using List.find?_some h

theorem macFind_macRemove_same (v m : Nat) (s : State) : macFind (macRemove v m s) v m = none := by
  rw [macFind, macRemove, State.setSw_sw, List.find?_filter, List.find?_eq_none]
  intro x _
  cases x.vid == v && x.mac == m <;> simp

theorem macFind_macRemove_ne (s : State) {v m v' m' : Nat} (h : (v', m') ≠ (v, m)) :
    macFind (macRemove v m s) v' m' = macFind s v' m' := by
  rw [macFind, macRemove, State.setSw_sw, List.find?_filter, macFind]
  congr 1
  funext x
  by_cases hx : (x.vid == v' && x.mac == m') = true
  · obtain ⟨rfl, rfl⟩ : x.vid = v' ∧ x.mac = m' := by simpa using hx
    have hkey : (x.vid == v && x.mac == m) = false := by
      rw [Bool.eq_false_iff]
      simpa using h
    rw [hkey, hx]
    rfl
  · rw [Bool.eq_false_iff.2 hx]
    simp

theorem macPut_mac (e : MacEntry) (s : State) : (macPut e s).sw.mac = (macRemove e.vid e.mac s).sw.mac ++ [e] := rfl

theorem macFind_macPut_same (e : MacEntry) (s : State) : macFind (macPut e s) e.vid e.mac = some e := by
  have hnone : (macRemove e.vid e.mac s).sw.mac.find? (fun x => x.vid == e.vid && x.mac == e.mac) = none :=
    macFind_macRemove_same e.vid e.mac s
  rw [macFind, macPut_mac, List.find?_append, hnone]
  simp

theorem macFind_macPut_ne (e : MacEntry) (s : State) {v m : Nat} (h : (v, m) ≠ (e.vid, e.mac)) :
    macFind (macPut e s) v m = macFind s v m := by
  have hlast : [e].find? (fun x => x.vid == v && x.mac == m) = none := by
    rw [List.find?_cons_of_neg fun he => ?_, List.find?_nil]
    obtain ⟨hv, hm⟩ : e.vid = v ∧ e.mac = m := by simpa using he
    exact h (by rw [hv, hm])
  rw [macFind, macPut_mac, List.find?_append, hlast, Option.or_none]
  exact macFind_macRemove_ne s h

theorem oldestLearned_of_static {l : List MacEntry} (h : ∀ e ∈ l, e.static = true) : oldestLearned l = none := by
  have hnil : l.filter (fun e => !e.static) = [] := List.filter_eq_nil_iff.2 fun e he => by simp [h e he]
  rw [oldestLearned, hnil]
  rfl

/-! ### The table's commands (R94, R95, R129) -/

theorem exec_macLookup (a : Agent) (s : State) : exec (.macLookup a) s = execMacLookup a s := rfl
theorem exec_macInsertStatic (a : Agent) (s : State) : exec (.macInsertStatic a) s = execMacInsertStatic a s := rfl
theorem exec_macDelete (a : Agent) (s : State) : exec (.macDelete a) s = execMacDelete a s := rfl
theorem exec_macFlushLearned (a : Agent) (p : Nat) (s : State) : exec (.macFlushLearned a p) s = execMacFlushLearned a p s := rfl
theorem exec_macAgeOut (v m : Nat) (s : State) : exec (.macAgeOut v m) s = execMacAgeOut v m s := rfl
theorem exec_macAgeFlush (a : Agent) (s : State) : exec (.macAgeFlush a) s = execMacAgeFlush a s := rfl

/-- The opcode that a command writes lies beside the key. -/
theorem macKey_set_op (s : State) (v : Nat) : macKey (s.set F.NET_MAC_CMD_OP v) = macKey s := by
  simp only [macKey, s.get_set_of_off_ne F.NET_MAC_CMD_OP _ v (by decide : F.NET_MAC_DATA1_VID.off ≠ F.NET_MAC_CMD_OP.off),
    s.get_set_of_off_ne F.NET_MAC_CMD_OP _ v (by decide : F.NET_MAC_DATA0.off ≠ F.NET_MAC_CMD_OP.off),
    s.get_set_of_off_ne F.NET_MAC_CMD_OP _ v (by decide : F.NET_MAC_DATA1_MAC.off ≠ F.NET_MAC_CMD_OP.off)]

theorem macFind_set (s : State) (f : Fld) (x v m : Nat) : macFind (s.set f x) v m = macFind s v m := rfl

theorem bucketOf_set (s : State) (f : Fld) (x v m : Nat) : bucketOf (s.set f x) v m = bucketOf s v m := rfl

/-- The entry that a lookup shows. -/
def showEntry (e : MacEntry) (s : State) : State :=
  (((s.set F.NET_MAC_DATA2_PORTS e.ports).set F.NET_MAC_DATA2_STATIC (b2n e.static)).set F.NET_MAC_DATA2_FH (b2n e.fh)).raise
    F.NET_MAC_DATA2_VALID

theorem macLookup_of_found {s : State} {e : MacEntry} (h : macFind s (macKey s).1 (macKey s).2 = some e) :
    macLookup s = showEntry e (s.set F.NET_MAC_CMD_OP 0) := by
  simp only [macLookup, macKey_set_op, macFind_set, h, showEntry]

theorem macLookup_of_missing {s : State} (h : macFind s (macKey s).1 (macKey s).2 = none) :
    macLookup s = ((s.set F.NET_MAC_CMD_OP 0).clear F.NET_MAC_DATA2_VALID).raise F.NET_MAC_CMD_NOT_FOUND := by
  simp only [macLookup, macKey_set_op, macFind_set, h]

theorem showEntry_sw (e : MacEntry) (s : State) : (showEntry e s).sw = s.sw := by
  rw [showEntry, State.raise_sw, State.set_sw, State.set_sw, State.set_sw]

theorem showEntry_fields {s : State} (hs : s.regsWf) (e : MacEntry) :
    (showEntry e s).get F.NET_MAC_DATA2_PORTS = e.ports % 2 ^ 9 ∧ (showEntry e s).flag F.NET_MAC_DATA2_STATIC = e.static ∧
    (showEntry e s).flag F.NET_MAC_DATA2_FH = e.fh ∧ (showEntry e s).flag F.NET_MAC_DATA2_VALID = true := by
  have hports : (s.set F.NET_MAC_DATA2_PORTS e.ports).regsWf := State.set_regsWf hs _ _
  have hstatic := State.set_regsWf hports F.NET_MAC_DATA2_STATIC (b2n e.static)
  have hfh := State.set_regsWf hstatic F.NET_MAC_DATA2_FH (b2n e.fh)
  rw [showEntry, State.raise]
  refine ⟨?_, ?_, ?_, State.flag_raise hfh _ (by decide)⟩
  · rw [State.get_set_ne hfh _ _ _ (by decide) (by decide), State.get_set_ne hstatic _ _ _ (by decide) (by decide),
      State.get_set_ne hports _ _ _ (by decide) (by decide), State.get_set_same hs _ _ (by decide)]
    rfl
  · rw [State.flag_set_ne hfh _ _ _ (by decide) (by decide), State.flag_set_ne hstatic _ _ _ (by decide) (by decide),
      State.flag_set_b2n hports _ _ (by decide)]
  · rw [State.flag_set_ne hfh _ _ _ (by decide) (by decide), State.flag_set_b2n hstatic _ _ (by decide)]

/-- The static entry that the data registers describe (R95). -/
def macEntry (s : State) : MacEntry :=
  ⟨(macKey s).1, (macKey s).2, s.get F.NET_MAC_DATA2_PORTS, true, s.flag F.NET_MAC_DATA2_FH, s.tb.resid⟩

theorem macEntry_set_op (s : State) (v : Nat) : macEntry (s.set F.NET_MAC_CMD_OP v) = macEntry s := by
  rw [macEntry, macKey_set_op, s.get_set_of_off_ne _ _ _ (by decide), s.flag_set_of_off_ne _ _ _ (by decide), macEntry,
    State.set_tb]

theorem macInsert_of_room {s : State} (h : (bucketOf s (macKey s).1 (macKey s).2).length < 4) :
    macInsert s = macPut (macEntry s) (s.set F.NET_MAC_CMD_OP 1) := by
  have hroom : (bucketOf (s.set F.NET_MAC_CMD_OP 1) (macKey (s.set F.NET_MAC_CMD_OP 1)).1
      (macKey (s.set F.NET_MAC_CMD_OP 1)).2).length < 4 := by
    rwa [macKey_set_op, bucketOf_set]
  rw [← macEntry_set_op s 1]
  unfold macInsert
  dsimp only
  rw [if_pos (by simp [hroom])]
  rfl

theorem macInsert_of_full {s : State} (hfind : macFind s (macKey s).1 (macKey s).2 = none)
    (hfull : 4 ≤ (bucketOf s (macKey s).1 (macKey s).2).length)
    (hstatic : ∀ e ∈ bucketOf s (macKey s).1 (macKey s).2, e.static = true) :
    macInsert s = (s.set F.NET_MAC_CMD_OP 1).raise F.NET_MAC_CMD_BUCKET_FULL := by
  have hroom : ¬ (bucketOf s (macKey s).1 (macKey s).2).length < 4 := Nat.not_lt.2 hfull
  simp only [macInsert, macKey_set_op, macFind_set, bucketOf_set, hfind, hroom, oldestLearned_of_static hstatic]
  rfl

theorem macDelete_of_found {s : State} {e : MacEntry} (h : macFind s (macKey s).1 (macKey s).2 = some e) :
    macDelete s = macRemove (macKey s).1 (macKey s).2 (s.set F.NET_MAC_CMD_OP 2) := by
  obtain ⟨hv, hm⟩ := macFind_key h
  simp only [macDelete, macKey_set_op, macFind_set, h, hv, hm]

theorem macDelete_of_missing {s : State} (h : macFind s (macKey s).1 (macKey s).2 = none) :
    macDelete s = (s.set F.NET_MAC_CMD_OP 2).raise F.NET_MAC_CMD_NOT_FOUND := by
  simp only [macDelete, macKey_set_op, macFind_set, h]

theorem mem_unlearnPort (p : Nat) (s : State) (e : MacEntry) :
    e ∈ (unlearnPort p s).sw.mac ↔ e ∈ s.sw.mac ∧ (e.static = true ∨ e.ports ≠ 2 ^ p) := by
  simp [unlearnPort]

theorem mem_macFlush (p : Nat) (s : State) (e : MacEntry) :
    e ∈ (macFlush p s).sw.mac ↔ e ∈ s.sw.mac ∧ (e.static = true ∨ (p ≠ 15 ∧ e.ports ≠ 2 ^ p)) := by
  by_cases hp : p = 15
  · simp [macFlush, hp]
  · simp only [macFlush, if_neg hp, mem_unlearnPort, State.set_sw]
    simp [hp]

theorem execMacAgeOut_of_learned {s : State} {v m : Nat} {e : MacEntry} (hon : s.netOn = true) (h : macFind s v m = some e)
    (hl : e.static = false) : execMacAgeOut v m s = .next (macRemove v m s) := by
  simp [execMacAgeOut, h, hon, hl]

theorem execMacAgeOut_of_static {s : State} {v m : Nat} {e : MacEntry} (h : macFind s v m = some e) (hl : e.static = true) :
    execMacAgeOut v m s = .next s := by
  simp [execMacAgeOut, h, hl]

theorem macLearn_of_new {s : State} {v m : Nat} (p : Nat) (hage : s.get F.NET_MAC_AGE ≠ 0) (h : macFind s v m = none)
    (hroom : (bucketOf s v m).length < 4) : macLearn p v m s = macPut ⟨v, m, 2 ^ p, false, false, s.tb.resid⟩ s := by
  simp only [macLearn, if_neg hage, h, if_neg (Nat.not_le.2 hroom)]

end Sys2Proof.Machine

/-!
PROOF. The fronthaul switch (03): the VLAN table, groups, ports and links; `SwitchTablesAndPorts`.
-/

namespace Sys2Proof.Machine

/-! ### The VLAN table (R93) -/

theorem exec_vlanWrite (a : Agent) (v : Nat) (s : State) : exec (.vlanWrite a v) s = execVlanWrite a v s := rfl
theorem exec_vlanRead (a : Agent) (v : Nat) (s : State) : exec (.vlanRead a v) s = execVlanRead a v s := rfl

/-- The entry that NET_VLAN_DATA holds. -/
def vlanData (s : State) : VlanEntry :=
  ⟨s.get F.NET_VLAN_DATA_MEMBER, s.get F.NET_VLAN_DATA_UNTAG, s.flag F.NET_VLAN_DATA_FLOOD, s.flag F.NET_VLAN_DATA_VALID⟩

theorem vlanData_set_vid (s : State) (v : Nat) : vlanData (s.set F.NET_VLAN_CMD_VID v) = vlanData s := by
  rw [vlanData, s.get_set_of_off_ne _ _ _ (by decide), s.get_set_of_off_ne _ _ _ (by decide), s.flag_set_of_off_ne _ _ _ (by decide),
    s.flag_set_of_off_ne _ _ _ (by decide), vlanData]

theorem vlanWrite_sw {s : State} {v : Nat} (hv : v < 4096) :
    (vlanWrite v s).sw = { s.sw with vlan := sparsePut (fun _ => {}) s.sw.vlan v (vlanData s) } := by
  rw [← vlanData_set_vid s v, vlanWrite, State.setSw_sw, State.set_sw, Nat.mod_eq_of_lt hv, vlanData]

theorem vlanWrite_vlan {s : State} (hs : s.Ok) {v : Nat} (hv : v < 4096) (w : Nat) :
    (vlanWrite v s).vlan w = if w = v then vlanData s else s.vlan w := by
  rw [State.vlan, vlanWrite_sw hv, sparseGet_put hs.vlan, State.vlan]

theorem vlanRead_regsOnly (v : Nat) (s : State) : s.RegsOnly (vlanRead v s) :=
  ((((State.RegsOnly.refl s).set _ _).set _ _).set _ _ |>.set _ _).set _ _

theorem vlanRead_fields {s : State} (hs : s.regsWf) {v : Nat} (hv : v < 4096) :
    (vlanRead v s).get F.NET_VLAN_DATA_MEMBER = (s.vlan v).member % 2 ^ 10 ∧
    (vlanRead v s).get F.NET_VLAN_DATA_UNTAG = (s.vlan v).untag % 2 ^ 9 ∧
    (vlanRead v s).flag F.NET_VLAN_DATA_FLOOD = (s.vlan v).flood ∧
    (vlanRead v s).flag F.NET_VLAN_DATA_VALID = (s.vlan v).valid := by
  have hvid := State.set_regsWf hs F.NET_VLAN_CMD_VID v
  have hmember := State.set_regsWf hvid F.NET_VLAN_DATA_MEMBER (s.vlan v).member
  have huntag := State.set_regsWf hmember F.NET_VLAN_DATA_UNTAG (s.vlan v).untag
  have hflood := State.set_regsWf huntag F.NET_VLAN_DATA_FLOOD (b2n (s.vlan v).flood)
  have hread : vlanRead v s = ((((s.set F.NET_VLAN_CMD_VID v).set F.NET_VLAN_DATA_MEMBER (s.vlan v).member).set
      F.NET_VLAN_DATA_UNTAG (s.vlan v).untag).set F.NET_VLAN_DATA_FLOOD (b2n (s.vlan v).flood)).set
      F.NET_VLAN_DATA_VALID (b2n (s.vlan v).valid) := by
    rw [vlanRead, Nat.mod_eq_of_lt hv]
    rfl
  rw [hread]
  refine ⟨?_, ?_, ?_, State.flag_set_b2n hflood _ _ (by decide)⟩
  · rw [State.get_set_ne hflood _ _ _ (by decide) (by decide), State.get_set_ne huntag _ _ _ (by decide) (by decide),
      State.get_set_ne hmember _ _ _ (by decide) (by decide), State.get_set_same hvid _ _ (by decide)]
    rfl
  · rw [State.get_set_ne hflood _ _ _ (by decide) (by decide), State.get_set_ne huntag _ _ _ (by decide) (by decide),
      State.get_set_same hmember _ _ (by decide)]
    rfl
  · rw [State.flag_set_ne hflood _ _ _ (by decide) (by decide), State.flag_set_b2n huntag _ _ (by decide)]

/-! ### Latencies and clock outputs shown again -/

theorem showLat_regsOnly {s t : State} (h : s.RegsOnly t) (p : Nat) : s.RegsOnly (showLat p t) := by
  rw [showLat]
  split
  · exact h
  · exact (h.set _ _).set _ _

theorem showSynce_regsOnly {s t : State} (h : s.RegsOnly t) : s.RegsOnly (showSynce t) :=
  State.RegsOnly.foldl (fun _ _ _ g => g.set _ _) _ h

/-- A register that holds no latency of the port keeps its fields. -/
theorem showLat_flag (s : State) (p : Nat) (f : Fld) (hrx : f.off ≠ (F.NET_P_LAT_RX p).off) (htx : f.off ≠ (F.NET_P_LAT_TX p).off) :
    (showLat p s).flag f = s.flag f := by
  rw [showLat]
  split
  · rfl
  · rw [State.flag_set_of_off_ne _ _ _ _ htx, State.flag_set_of_off_ne _ _ _ _ hrx]

theorem showSynce_flag (s : State) (f : Fld) (h : f.off ≠ (F.TSB_SYNCE_CTL_ACTIVE 0).off) (h' : f.off ≠ (F.TSB_SYNCE_CTL_ACTIVE 1).off) :
    (showSynce s).flag f = s.flag f := by
  rw [showSynce, show List.range 2 = [0, 1] from rfl, List.foldl_cons, List.foldl_cons, List.foldl_nil,
    State.flag_set_of_off_ne _ _ _ _ h', State.flag_set_of_off_ne _ _ _ _ h]

/-! ### Registers of a port -/

/-- Two registers of different places in the ports' blocks are different, whatever the ports. -/
theorem portReg_ne {a b : Nat} (h : a % 0x80 ≠ b % 0x80) (p e : Nat) : a + p * 0x80 ≠ b + e * 0x80 := by omega

theorem bit_ok (a : Nat) {k : Nat} (hk : k < 32) : (⟨a, k, k⟩ : Fld).ok := ⟨le_rfl, hk⟩

theorem word_ok (a : Nat) : (⟨a, 31, 0⟩ : Fld).ok := (by decide : 0 ≤ 31 ∧ 31 < 32)

/-- A saturating counter reads `n` more, up to the field's largest value. -/
theorem State.get_incBy_same {s : State} (hs : s.regsWf) (f : Fld) (hf : f.ok) (n : Nat) :
    (s.incBy f n).get f = min (2 ^ (f.hi + 1 - f.lo) - 1) (s.get f + n) := by
  have hpos : 0 < 2 ^ (f.hi + 1 - f.lo) := Nat.two_pow_pos _
  have hsat : satAdd (f.hi + 1 - f.lo) (s.get f) n = min (2 ^ (f.hi + 1 - f.lo) - 1) (s.get f + n) := by
    rw [satAdd]
    split <;> omega
  rw [State.incBy, State.get_set_same hs _ _ hf, hsat, Nat.mod_eq_of_lt (by omega)]

/-- A flag that every step of a fold keeps is kept by the fold. -/
theorem State.flag_foldl {α : Type} {f : State → α → State} {k : Fld} (h : ∀ s a, (f s a).flag k = s.flag k) (l : List α) :
    ∀ s, (l.foldl f s).flag k = s.flag k := by
  induction l with
  | nil => exact fun _ => rfl
  | cons a l ih => exact fun s => (ih _).trans (h s a)

/-- Flags of distinct registers, all written with one value, read back so. -/
theorem State.flag_foldl_set {k : Nat → Fld} (hk : ∀ i, (k i).ok) (hne : ∀ i j, i ≠ j → (k i).off ≠ (k j).off) (b : Bool) {i : Nat}
    (l : List Nat) : ∀ {s : State}, s.regsWf → i ∈ l ∨ s.flag (k i) = b → (l.foldl (fun s j => s.set (k j) (b2n b)) s).flag (k i) = b := by
  induction l with
  | nil => exact fun _ h => h.resolve_left List.not_mem_nil
  | cons a l ih =>
    refine fun {s} hs h => ih (State.set_regsWf hs _ _) ?_
    by_cases ha : i = a
    · exact .inr (ha ▸ State.flag_set_b2n hs (k i) b (hk i))
    · refine h.imp (fun hl => (List.mem_cons.1 hl).resolve_left ha) fun hf => ?_
      rw [State.flag_set_of_off_ne _ _ _ _ (hne i a ha), hf]

/-! ### The mode of a group (R88, R89) -/

theorem exec_groupModeSet (a : Agent) (g : Nat) (h : Bool) (s : State) : exec (.groupModeSet a g h) s = execGroupModeSet a g h s := rfl

/-- The mode field of a group. -/
def modeFld (g : Nat) : Fld := if g = 0 then F.NET_GRP_CFG_G0_MODE else F.NET_GRP_CFG_G1_MODE

theorem modeFld_off (g : Nat) : (modeFld g).off = 0x400000 := by
  rw [modeFld]
  split <;> rfl

theorem modeFld_ok (g : Nat) : (modeFld g).ok := by
  rw [modeFld]
  split <;> decide

theorem groupMode_of_enabled {s : State} {g : Nat} {h : Bool} (hne : s.flag (modeFld g) ≠ h)
    (hen : ∃ i, i < 4 ∧ s.flag (F.NET_P_CFG_EN (4 * g + i)) = true) : groupMode g h s = s.raise F.NET_GRP_CFG_REFUSED := by
  obtain ⟨i, hi, hf⟩ := hen
  have hany : (List.range 4).any (fun i => s.flag (F.NET_P_CFG_EN (4 * g + i))) = true :=
    List.any_eq_true.2 ⟨i, List.mem_range.2 hi, hf⟩
  exact (if_neg hne).trans (if_pos hany)

/-- The mode and the ports that it leaves present. -/
def modeTaken (g : Nat) (h : Bool) (s : State) : State :=
  (List.range 3).foldl (fun s i => s.set (F.NET_P_STAT_PRESENT (4 * g + 1 + i)) (b2n (!h))) (s.set (modeFld g) (b2n h))

theorem groupMode_of_disabled {s : State} {g : Nat} {h : Bool} (hne : s.flag (modeFld g) ≠ h)
    (hdis : ∀ i, i < 4 → s.flag (F.NET_P_CFG_EN (4 * g + i)) = false) :
    groupMode g h s = (List.range 4).foldl (fun s i => showLat (4 * g + i) s) (modeTaken g h s) := by
  have hany : ¬ (List.range 4).any (fun i => s.flag (F.NET_P_CFG_EN (4 * g + i))) = true := by
    simpa using hdis
  exact (if_neg hne).trans (if_neg hany)

theorem modeTaken_mode {s : State} (hs : s.regsWf) (g : Nat) (h : Bool) : (modeTaken g h s).flag (modeFld g) = h := by
  rw [modeTaken, State.flag_foldl fun s i => s.flag_set_of_off_ne _ _ _ ?_, State.flag_set_b2n hs _ _ (modeFld_ok g)]
  rw [modeFld_off]
  exact (by omega : 0x400000 ≠ 0x400104 + (4 * g + 1 + i) * 0x80)

theorem modeTaken_present {s : State} (hs : s.regsWf) (g : Nat) (h : Bool) {i : Nat} (hi : i < 3) :
    (modeTaken g h s).flag (F.NET_P_STAT_PRESENT (4 * g + 1 + i)) = !h :=
  State.flag_foldl_set (k := fun i => F.NET_P_STAT_PRESENT (4 * g + 1 + i)) (fun _ => bit_ok _ (by decide))
    (fun i j hij => (by omega : 0x400104 + (4 * g + 1 + i) * 0x80 ≠ 0x400104 + (4 * g + 1 + j) * 0x80)) (!h) _
    (State.set_regsWf hs _ _) (.inl (List.mem_range.2 hi))

theorem showLats_flag (g : Nat) (s : State) (f : Fld) (hrx : ∀ i, f.off ≠ (F.NET_P_LAT_RX i).off)
    (htx : ∀ i, f.off ≠ (F.NET_P_LAT_TX i).off) :
    ((List.range 4).foldl (fun s i => showLat (4 * g + i) s) s).flag f = s.flag f :=
  State.flag_foldl (fun s _ => showLat_flag s _ f (hrx _) (htx _)) _ s

theorem groupMode_disabled {s : State} (hs : s.regsWf) {g : Nat} {h : Bool} (hne : s.flag (modeFld g) ≠ h)
    (hdis : ∀ i, i < 4 → s.flag (F.NET_P_CFG_EN (4 * g + i)) = false) :
    (groupMode g h s).flag (modeFld g) = h ∧
    (∀ i, i < 3 → (groupMode g h s).flag (F.NET_P_STAT_PRESENT (4 * g + 1 + i)) = !h) ∧ s.RegsOnly (groupMode g h s) := by
  rw [groupMode_of_disabled hne hdis]
  refine ⟨?_, fun i hi => ?_, ?_⟩
  · have hoff (a i : Nat) (ha : 0x400000 < a) : (modeFld g).off ≠ a + i * 0x80 := by
      rw [modeFld_off]
      omega
    rw [showLats_flag g _ _ (fun i => hoff 0x400170 i (by decide)) (fun i => hoff 0x400174 i (by decide)), modeTaken_mode hs]
  · rw [showLats_flag g _ _ (fun _ => portReg_ne (by decide) _ _) (fun _ => portReg_ne (by decide) _ _), modeTaken_present hs g h hi]
  · exact State.RegsOnly.foldl (fun _ _ _ k => showLat_regsOnly k _) _
      (State.RegsOnly.foldl (fun _ _ _ k => k.set _ _) _ ((State.RegsOnly.refl s).set _ _))

/-! ### Ports and links (R112, R124, R125, R135) -/

theorem exec_portEnable (a : Agent) (p : Nat) (s : State) : exec (.portEnable a p) s = execPortEnable a p s := rfl
theorem exec_portDisable (a : Agent) (p : Nat) (s : State) : exec (.portDisable a p) s = execPortDisable a p s := rfl
theorem exec_fhLinkUp (p : Nat) (s : State) : exec (.fhLinkUp p) s = execFhLinkUp p s := rfl
theorem exec_fhLinkDown (p : Nat) (s : State) : exec (.fhLinkDown p) s = execFhLinkDown p s := rfl
theorem exec_portCalibrationDone (p rx tx : Nat) (s : State) :
    exec (.portCalibrationDone p rx tx) s = execPortCalibrationDone p rx tx s := rfl

/-- R132: a truncated transmission changes the switch in the end of that transmission only. -/
theorem cutTx_sw (p : Nat) (s : State) : (cutTx p s).sw = { s.sw with busyUntil := (cutTx p s).sw.busyUntil } := by
  rw [cutTx]
  split
  · rw [State.inc_sw, State.setSw_sw]
  · rfl

@[simp] theorem cutTx_queue (p : Nat) (s : State) : (cutTx p s).sw.queue = s.sw.queue := by rw [cutTx_sw]
@[simp] theorem cutTx_mac (p : Nat) (s : State) : (cutTx p s).sw.mac = s.sw.mac := by rw [cutTx_sw]

theorem cutTx_regsWf {s : State} (hs : s.regsWf) (p : Nat) : (cutTx p s).regsWf := by
  rw [cutTx]
  split
  · exact State.inc_regsWf hs _
  · exact hs

theorem cutTx_get (s : State) (p : Nat) (f : Fld) (h : f.off ≠ (F.NET_P_STOMP p).off) : (cutTx p s).get f = s.get f := by
  rw [cutTx]
  split
  · exact State.get_inc_of_off_ne _ _ _ h
  · rfl

@[simp] theorem flushQueue_queue (p : Nat) (s : State) : (flushQueue p s).sw.queue = s.sw.queue.filter (·.port ≠ p) := by
  rw [flushQueue, State.incBy_sw, State.setSw_sw]

@[simp] theorem flushQueue_mac (p : Nat) (s : State) : (flushQueue p s).sw.mac = s.sw.mac := by
  rw [flushQueue, State.incBy_sw, State.setSw_sw]

theorem flushQueue_regsWf {s : State} (hs : s.regsWf) (p : Nat) : (flushQueue p s).regsWf := State.set_regsWf hs _ _

theorem flushQueue_get (s : State) (p : Nat) (f : Fld) (h : f.off ≠ (F.NET_P_FLUSH p).off) : (flushQueue p s).get f = s.get f :=
  State.get_set_of_off_ne _ _ _ _ h

theorem flushQueue_flush {s : State} (hs : s.regsWf) (p : Nat) : (flushQueue p s).get (F.NET_P_FLUSH p) =
    min (2 ^ 32 - 1) (s.get (F.NET_P_FLUSH p) + (s.sw.queue.filter (·.port = p)).length) :=
  State.get_incBy_same (s := s.setSw _) hs _ (word_ok _) _

theorem unlearnPort_get (p : Nat) (s : State) (f : Fld) : (unlearnPort p s).get f = s.get f := rfl
theorem unlearnPort_queue (p : Nat) (s : State) : (unlearnPort p s).sw.queue = s.sw.queue := rfl

/-- R124: what clearing EN does to the port, its queued frames, its learned entries and FLUSH. -/
theorem portDisable_effect {s : State} (hs : s.regsWf) (p : Nat) :
    (portDisable p s).flag (F.NET_P_CFG_EN p) = false ∧
    (∀ q, q ∈ (portDisable p s).sw.queue ↔ q ∈ s.sw.queue ∧ q.port ≠ p) ∧
    (∀ e, e ∈ (portDisable p s).sw.mac ↔ e ∈ s.sw.mac ∧ (e.static = true ∨ e.ports ≠ 2 ^ p)) ∧
    (portDisable p s).get (F.NET_P_FLUSH p) = min (2 ^ 32 - 1) (s.get (F.NET_P_FLUSH p) + (s.sw.queue.filter (·.port = p)).length) := by
  have hclear : (s.clear (F.NET_P_CFG_EN p)).regsWf := State.clear_regsWf hs _
  have hen : (portDisable p s).get (F.NET_P_CFG_EN p) = 0 := by
    rw [portDisable, unlearnPort_get, flushQueue_get _ _ _ (portReg_ne (by decide) p p), cutTx_get _ _ _ (portReg_ne (by decide) p p),
      State.get_clear_same hs (F.NET_P_CFG_EN p) (bit_ok _ (by decide))]
  have hflush : (cutTx p (s.clear (F.NET_P_CFG_EN p))).get (F.NET_P_FLUSH p) = s.get (F.NET_P_FLUSH p) :=
    (cutTx_get _ _ _ (portReg_ne (by decide) p p)).trans (State.get_set_of_off_ne _ _ _ _ (portReg_ne (by decide) p p))
  refine ⟨by rw [State.flag, hen]; rfl, fun q => ?_, fun e => ?_, ?_⟩
  · simp [portDisable, unlearnPort_queue]
  · simp [portDisable, mem_unlearnPort]
  · rw [portDisable, unlearnPort_get, flushQueue_flush (cutTx_regsWf hclear p), hflush, cutTx_queue, State.clear_sw]

/-- R125: what a link-up writes before the latencies and the clock outputs are shown. -/
def linked (p : Nat) (s : State) : State :=
  (((s.raise (F.NET_P_STAT_LINK p)).raise (F.NET_P_STAT_BLOCK_LOCK p)).set (F.NET_P_STAT_FEC_LOCK p) (b2n (fecOn s p))).clear
    (F.NET_P_STAT_CAL_DONE p)

theorem linkUp_of_present {s : State} {p : Nat} (hp : p < 8) (hpres : present s p = true) :
    linkUp p s = showSynce (showLat p (linked p s)) := by
  rw [linkUp, linked, if_pos (by simp [hp, hpres])]

/-- Latencies and clock outputs lie beside the status of a port. -/
theorem shown_flag (s : State) (p k : Nat) :
    (showSynce (showLat p s)).flag ⟨0x400104 + p * 0x80, k, k⟩ = s.flag ⟨0x400104 + p * 0x80, k, k⟩ :=
  (showSynce_flag _ _ (by omega : 0x400104 + p * 0x80 ≠ 0x2000B0 + 0 * 4) (by omega : 0x400104 + p * 0x80 ≠ 0x2000B0 + 1 * 4)).trans
    (showLat_flag _ _ _ (portReg_ne (by decide) p p) (portReg_ne (by decide) p p))

theorem shown_regsOnly {s t : State} (h : s.RegsOnly t) (p : Nat) : s.RegsOnly (showSynce (showLat p t)) :=
  showSynce_regsOnly (showLat_regsOnly h p)

theorem State.flag_set_other_bit {s : State} (hs : s.regsWf) (a v : Nat) {j k : Nat} (hj : j < 32) (h : j ≠ k) :
    (s.set ⟨a, j, j⟩ v).flag ⟨a, k, k⟩ = s.flag ⟨a, k, k⟩ :=
  State.flag_set_ne hs _ _ v (bit_ok a hj) (.inr (Nat.lt_or_gt_of_ne h))

/-- R125: a link that comes up. -/
theorem linkUp_effect {s : State} (hs : s.regsWf) {p : Nat} (hp : p < 8) (hpres : present s p = true) :
    (linkUp p s).flag (F.NET_P_STAT_LINK p) = true ∧ (linkUp p s).flag (F.NET_P_STAT_BLOCK_LOCK p) = true ∧
    (linkUp p s).flag (F.NET_P_STAT_CAL_DONE p) = false ∧ s.RegsOnly (linkUp p s) := by
  have hlink := State.raise_regsWf hs (F.NET_P_STAT_LINK p)
  have hblock := State.raise_regsWf hlink (F.NET_P_STAT_BLOCK_LOCK p)
  have hfec := State.set_regsWf hblock (F.NET_P_STAT_FEC_LOCK p) (b2n (fecOn s p))
  rw [linkUp_of_present hp hpres]
  refine ⟨(shown_flag _ p 0).trans ?_, (shown_flag _ p 1).trans ?_, (shown_flag _ p 3).trans ?_, shown_regsOnly ?_ p⟩
  · exact (State.flag_set_other_bit hfec _ _ (by decide) (by decide)).trans
      ((State.flag_set_other_bit hblock _ _ (by decide) (by decide)).trans
        ((State.flag_set_other_bit hlink _ _ (by decide) (by decide)).trans (State.flag_raise hs _ (bit_ok _ (by decide)))))
  · exact (State.flag_set_other_bit hfec _ _ (by decide) (by decide)).trans
      ((State.flag_set_other_bit hblock _ _ (by decide) (by decide)).trans (State.flag_raise hlink _ (bit_ok _ (by decide))))
  · exact State.flag_clear hfec _ (bit_ok _ (by decide))
  · exact ((((State.RegsOnly.refl s).set _ _).set _ _).set _ _).set _ _

/-- R135: what a link-down writes before the latencies and the clock outputs are shown. -/
def unlinked (p : Nat) (s : State) : State :=
  (((s.clear (F.NET_P_STAT_LINK p)).clear (F.NET_P_STAT_BLOCK_LOCK p)).clear (F.NET_P_STAT_FEC_LOCK p)).clear
    (F.NET_P_STAT_CAL_DONE p)

theorem unlinked_regsOnly (p : Nat) (s : State) : s.RegsOnly (unlinked p s) :=
  ((((State.RegsOnly.refl s).set _ _).set _ _).set _ _).set _ _

theorem unlinked_flags {s : State} (hs : s.regsWf) (p : Nat) : (unlinked p s).flag (F.NET_P_STAT_LINK p) = false ∧
    (unlinked p s).flag (F.NET_P_STAT_BLOCK_LOCK p) = false ∧ (unlinked p s).flag (F.NET_P_STAT_CAL_DONE p) = false := by
  have hlink := State.clear_regsWf hs (F.NET_P_STAT_LINK p)
  have hblock := State.clear_regsWf hlink (F.NET_P_STAT_BLOCK_LOCK p)
  have hfec := State.clear_regsWf hblock (F.NET_P_STAT_FEC_LOCK p)
  refine ⟨?_, ?_, State.flag_clear hfec _ (bit_ok _ (by decide))⟩
  · exact (State.flag_set_other_bit hfec _ _ (by decide) (by decide)).trans
      ((State.flag_set_other_bit hblock _ _ (by decide) (by decide)).trans
        ((State.flag_set_other_bit hlink _ _ (by decide) (by decide)).trans (State.flag_clear hs _ (bit_ok _ (by decide)))))
  · exact (State.flag_set_other_bit hfec _ _ (by decide) (by decide)).trans
      ((State.flag_set_other_bit hblock _ _ (by decide) (by decide)).trans (State.flag_clear hlink _ (bit_ok _ (by decide))))

theorem linkDown_of_external {s : State} {p : Nat} (hp : p < 8) :
    linkDown p s = showSynce (showLat p (unlinked p (flushQueue p (cutTx p s)))) := by
  rw [linkDown, if_pos hp, unlinked]

/-- R135: a link that falls. -/
theorem linkDown_effect {s : State} (hs : s.regsWf) {p : Nat} (hp : p < 8) :
    (linkDown p s).flag (F.NET_P_STAT_LINK p) = false ∧ (linkDown p s).flag (F.NET_P_STAT_BLOCK_LOCK p) = false ∧
    (linkDown p s).flag (F.NET_P_STAT_CAL_DONE p) = false ∧
    (∀ q, q ∈ (linkDown p s).sw.queue ↔ q ∈ s.sw.queue ∧ q.port ≠ p) ∧ (linkDown p s).sw.mac = s.sw.mac := by
  obtain ⟨hlink, hblock, hcal⟩ := unlinked_flags (flushQueue_regsWf (cutTx_regsWf hs p) p) p
  have hsw := (shown_regsOnly (unlinked_regsOnly p (flushQueue p (cutTx p s))) p).sw
  rw [linkDown_of_external hp, hsw]
  exact ⟨(shown_flag _ p 0).trans hlink, (shown_flag _ p 1).trans hblock, (shown_flag _ p 3).trans hcal, by simp, by simp⟩

/-! ### The statement -/

/-- Settles O12: the MAC table's commands by what a removal and an addition leave, the VLAN table by its two commands, groups, ports and
links by the registers that each writes. -/
theorem switchTablesAndPorts : Obligations.SwitchTablesAndPorts := by
  refine ⟨⟨fun s a e ha hs hon h => ?_, fun s a ha hs hon h => ?_, fun s a ha hs hon hroom => ?_,
      fun s a ha hs hon h hfull hstatic => ?_, fun s a ha hs hon => ?_, fun s a p ha hon => ?_, fun s v m e hon h hl => ?_,
      fun s v m e h hl => ?_, fun s a ha hon => ?_, fun s p v m hage h hroom => ?_⟩,
    ⟨fun s a v ha hs hon hv => ?_, fun s a v ha hs hon hv => ?_⟩,
    fun s a g h ha hon hg hne hen => ?_, fun s a g h ha hs hon hg hne hdis => ?_, fun s a p ha hon hpres => ?_,
    fun s a p ha hs hon hp hpres => ?_, fun s p hs hon hp hpres => ?_, fun s p hs hon hp => ?_, fun s p rx tx hon hp hlink hcal => ?_⟩
  · rw [exec_macLookup, execMacLookup, State.guardWrite_net ha hon, macLookup_of_found h]
    obtain ⟨hports, hstatic, hfh, hvalid⟩ := showEntry_fields (State.set_regsWf hs.regs F.NET_MAC_CMD_OP 0) e
    exact ⟨_, rfl, hports, hstatic, hfh, hvalid, showEntry_sw _ _⟩
  · rw [exec_macLookup, execMacLookup, State.guardWrite_net ha hon, macLookup_of_missing h]
    have hop := State.set_regsWf hs.regs F.NET_MAC_CMD_OP 0
    exact ⟨_, rfl, (State.flag_raise_of_off_ne _ _ _ (by decide)).trans (State.flag_clear hop _ (by decide)),
      State.flag_raise (State.clear_regsWf hop _) _ (by decide), by rw [State.raise_sw, State.clear_sw, State.set_sw]⟩
  · rw [exec_macInsertStatic, execMacInsertStatic, State.guardWrite_net ha hon, macInsert_of_room hroom]
    exact ⟨_, rfl, macFind_macPut_same _ _, fun v m hvm => macFind_macPut_ne (macEntry s) _ hvm⟩
  · rw [exec_macInsertStatic, execMacInsertStatic, State.guardWrite_net ha hon, macInsert_of_full h hfull hstatic]
    exact ⟨_, rfl, State.flag_raise (State.set_regsWf hs.regs _ _) _ (by decide), by rw [State.raise_sw, State.set_sw]⟩
  · rw [exec_macDelete, execMacDelete, State.guardWrite_net ha hon]
    cases h : macFind s (macKey s).1 (macKey s).2 with
    | none =>
      rw [macDelete_of_missing h]
      exact ⟨_, rfl, h, fun _ => State.flag_raise (State.set_regsWf hs.regs _ _) _ (by decide), fun _ _ _ => rfl⟩
    | some e =>
      rw [macDelete_of_found h]
      exact ⟨_, rfl, macFind_macRemove_same _ _ _, nofun, fun v m hvm => macFind_macRemove_ne (s.set _ _) hvm⟩
  · rw [exec_macFlushLearned, execMacFlushLearned, State.guardWrite_net ha hon]
    exact ⟨_, rfl, mem_macFlush p s⟩
  · rw [exec_macAgeOut, execMacAgeOut_of_learned hon h hl]
    exact ⟨_, rfl, macFind_macRemove_same _ _ _, fun _ _ hvm => macFind_macRemove_ne s hvm⟩
  · rw [exec_macAgeOut, execMacAgeOut_of_static h hl]
  · rw [exec_macAgeFlush, execMacAgeFlush, State.guardWrite_net ha hon, ageFlush]
  · rw [macLearn_of_new p hage h hroom]
    exact ⟨macFind_macPut_same _ s, fun _ _ hvm => macFind_macPut_ne _ s hvm⟩
  · rw [exec_vlanWrite, execVlanWrite, State.guardWrite_net ha hon]
    refine ⟨_, rfl, ?_, fun w hw => ?_, ?_, ?_⟩
    · rw [vlanWrite_vlan hs hv, if_pos rfl, vlanData]
    · rw [vlanWrite_vlan hs hv, if_neg hw]
    · rw [vlanWrite_sw hv]
    · rw [vlanWrite_sw hv]
  · rw [exec_vlanRead, execVlanRead, State.guardWrite_net ha hon]
    obtain ⟨hmember, huntag, hflood, hvalid⟩ := vlanRead_fields hs.regs hv
    exact ⟨_, rfl, hmember, huntag, hflood, hvalid, vlanRead_regsOnly v s⟩
  · rw [exec_groupModeSet, execGroupModeSet, State.guardWrite_net ha hon, Nat.mod_eq_of_lt hg, groupMode_of_enabled hne hen]
  · rw [exec_groupModeSet, execGroupModeSet, State.guardWrite_net ha hon, Nat.mod_eq_of_lt hg]
    exact ⟨_, rfl, groupMode_disabled hs.regs hne hdis⟩
  · rw [exec_portEnable, execPortEnable, State.guardWrite_net ha hon, portEnable, if_pos hpres]
  · rw [exec_portDisable, execPortDisable, State.guardWrite_net ha hon, if_pos hpres]
    exact ⟨_, rfl, portDisable_effect hs.regs p⟩
  · rw [exec_fhLinkUp, execFhLinkUp, if_pos hon]
    exact ⟨_, rfl, linkUp_effect hs.regs hp hpres⟩
  · rw [exec_fhLinkDown, execFhLinkDown, if_pos hon]
    exact ⟨_, rfl, linkDown_effect hs.regs hp⟩
  · rw [exec_portCalibrationDone, execPortCalibrationDone, if_pos (by simp [hon, hp, hlink, hcal])]

end Sys2Proof.Machine

/-!
PROOF. Reception (03 R92, R93, R99, R101): a plain frame on its way through `forward`, and `FrameReception`.
-/

namespace Sys2Proof.Machine

theorem exec_frameRx (p : Nat) (fr : List Byte) (ok : Bool) (fine : Nat) (s : State) :
    exec (.frameRx p fr ok fine) s = execFrameRx p fr ok fine s := rfl

theorem execFrameRx_net {s : State} {p : Nat} (hon : s.netOn = true) (hp : p < 8) (fr : List Byte) (ok : Bool) (fine : Nat) :
    execFrameRx p fr ok fine s = .next (frameRx p fr ok (s.resid + fine * 8192) s) := by
  rw [execFrameRx, if_pos (by simp [hon, hp])]

theorem frameRx_of_bad_length {s : State} {p : Nat} {fr : List Byte} (hup : portUp s p = true) (hlen : fr.length < 60 ∨ 9212 < fr.length)
    (ok : Bool) (meas : Nat) : frameRx p fr ok meas s = s.inc (F.NET_P_RX_FCS p) := by
  rw [frameRx, if_neg (by simp [hup]), if_pos (by omega)]

/-- R115: the taps see nothing while no plan runs. -/
theorem tapFrame_of_stopped {s : State} (h : s.running = false) (p : Nat) (fr : List Byte) (ok : Bool) : tapFrame p fr ok s = s := by
  rw [tapFrame, if_neg (by simp [h])]

/-! ### What the count of a good frame leaves -/

section RxOkCounted

variable (s : State) (p : Nat)

theorem running_inc_rxOk : (s.inc (F.NET_P_RX_OK p)).running = s.running :=
  s.flag_inc_of_off_ne _ _ (by omega : 0x2000D0 ≠ 0x400140 + p * 0x80)

theorem portUp_inc_rxOk (e : Nat) : portUp (s.inc (F.NET_P_RX_OK p)) e = portUp s e := by
  have hpres : (s.inc (F.NET_P_RX_OK p)).flag (F.NET_P_STAT_PRESENT e) = s.flag (F.NET_P_STAT_PRESENT e) :=
    s.flag_inc_of_off_ne _ _ (portReg_ne (by decide) e p)
  have hen : (s.inc (F.NET_P_RX_OK p)).flag (F.NET_P_CFG_EN e) = s.flag (F.NET_P_CFG_EN e) :=
    s.flag_inc_of_off_ne _ _ (portReg_ne (by decide) e p)
  have hlink : (s.inc (F.NET_P_RX_OK p)).flag (F.NET_P_STAT_LINK e) = s.flag (F.NET_P_STAT_LINK e) :=
    s.flag_inc_of_off_ne _ _ (portReg_ne (by decide) e p)
  rw [portUp, present, hpres, hen, hlink, portUp, present]

theorem vidPcp_inc_rxOk (fr : List Byte) : vidPcp (s.inc (F.NET_P_RX_OK p)) p fr = vidPcp s p fr := by
  have hpvid : (s.inc (F.NET_P_RX_OK p)).get (F.NET_P_CFG_PVID p) = s.get (F.NET_P_CFG_PVID p) :=
    s.get_inc_of_off_ne _ _ (portReg_ne (by decide) p p)
  have hppcp : (s.inc (F.NET_P_RX_OK p)).get (F.NET_P_CFG_PPCP p) = s.get (F.NET_P_CFG_PPCP p) :=
    s.get_inc_of_off_ne _ _ (portReg_ne (by decide) p p)
  rw [vidPcp, hpvid, hppcp, vidPcp]

theorem vlan_inc (f : Fld) (v : Nat) : (s.inc f).vlan v = s.vlan v := by
  rw [State.vlan, State.inc_sw, State.vlan]

theorem macFind_inc (f : Fld) (v m : Nat) : macFind (s.inc f) v m = macFind s v m := by
  rw [macFind, State.inc_sw, macFind]

theorem tcMode_inc_rxOk : (s.inc (F.NET_P_RX_OK p)).get F.NET_TC_CFG_MODE = s.get F.NET_TC_CFG_MODE :=
  s.get_inc_of_off_ne _ _ (by omega : 0x400030 ≠ 0x400140 + p * 0x80)

theorem egressSet_inc (f : Fld) (v m : Nat) : egressSet (s.inc f) p v m = egressSet s p v m := by
  rw [egressSet, egressSet, vlan_inc, macFind_inc]

theorem destinations_inc_rxOk (v m : Nat) (fr : List Byte) :
    destinations (s.inc (F.NET_P_RX_OK p)) p v m fr = destinations s p v m fr := by
  have hfwd : (s.inc (F.NET_P_RX_OK p)).flag F.NET_TC_CFG_LL_FWD = s.flag F.NET_TC_CFG_LL_FWD :=
    s.flag_inc_of_off_ne _ _ (by omega : 0x400030 ≠ 0x400140 + p * 0x80)
  simp only [destinations, tcMode_inc_rxOk, hfwd, egressSet_inc]

theorem queueOf_inc_rxOk (pcp : Nat) (fh : Bool) : queueOf (s.inc (F.NET_P_RX_OK p)) p pcp fh = queueOf s p pcp fh := by
  have hmap : (s.inc (F.NET_P_RX_OK p)).get (F.NET_P_QMAP p) = s.get (F.NET_P_QMAP p) :=
    s.get_inc_of_off_ne _ _ (portReg_ne (by decide) p p)
  rw [queueOf, hmap, queueOf]

theorem egressForm_inc (f : Fld) (e v pcp : Nat) (fr : List Byte) : egressForm (s.inc f) e v pcp fr = egressForm s e v pcp fr := by
  rw [egressForm, vlan_inc, egressForm]

theorem ingressStamp_inc_rxOk (meas : Int) : ingressStamp (s.inc (F.NET_P_RX_OK p)) p meas = ingressStamp s p meas := by
  have hlat : (s.inc (F.NET_P_RX_OK p)).get (F.NET_P_LAT_RX p) = s.get (F.NET_P_LAT_RX p) :=
    s.get_inc_of_off_ne _ _ (portReg_ne (by decide) p p)
  have hadj : (s.inc (F.NET_P_RX_OK p)).geti (F.NET_P_RX_ADJ p) = s.geti (F.NET_P_RX_ADJ p) :=
    s.geti_inc_of_off_ne _ _ (portReg_ne (by decide) p p)
  rw [ingressStamp, adj, hlat, hadj, ingressStamp, adj]

theorem occupancy_inc (f : Fld) (e : Nat) : occupancy (s.inc f) e = occupancy s e := by
  rw [occupancy, State.inc_sw, occupancy]

end RxOkCounted

/-- A good frame of a legal length is counted and forwarded; no tap sees it while no plan runs. -/
theorem frameRx_of_good {s : State} {p : Nat} {fr : List Byte} (hup : portUp s p = true) (hrun : s.running = false)
    (hmin : 60 ≤ fr.length) (hmax : fr.length ≤ 9212) (meas : Nat) :
    frameRx p fr true meas s = forward p fr true false false meas (s.inc (F.NET_P_RX_OK p)) := by
  have htap := tapFrame_of_stopped ((running_inc_rxOk s p).trans hrun) p fr true
  rw [frameRx, if_neg (by simp [hup]), if_neg (by omega)]
  exact congrArg (forward p fr true false false meas) htap

theorem forward_outside_vlan {s : State} {p : Nat} {fr : List Byte} (h : bitOf (s.vlan (vidPcp s p fr).1).member p = false)
    (ok fromBench origin : Bool) (meas : Nat) : forward p fr ok fromBench origin meas s = s.inc (F.NET_P_DROP_VLAN p) := by
  rw [forward, if_pos (by simp [h])]

/-! ### A plain frame is stored (R92, R99, R101) -/

theorem ptpCounters_of_plain {fr : List Byte} (h : ptpOf fr = none) (hskip : ptpSkipped fr = false) (p : Nat) (s : State) :
    ptpCounters p fr s = s := by
  simp [ptpCounters, h, hskip]

theorem queuePdelay_of_plain {fr : List Byte} (h : ptpOf fr = none) (p : Nat) (tIn : Int) (s : State) : queuePdelay p fr tIn s = s := by
  simp [queuePdelay, h]

/-- R97: only a fronthaul frame cuts through. -/
theorem cutsThrough_plain (s : State) (p e : Nat) (fr : List Byte) : cutsThrough s p e false fr = false := rfl

theorem storeFrame_of_room {s : State} {q : QFrame}
    (hport : occupancy s q.port + cells q ≤ s.get (F.NET_P_BUF_MAX_CELLS q.port) - s.get (F.NET_P_BUF_RSV7 q.port))
    (hall : (s.sw.queue.map cells).sum + cells q ≤ 24576) :
    storeFrame q s = s.setSw { s.sw with queue := s.sw.queue ++ [q] } := by
  have hlim : occupancy s q.port + cells q ≤ (if q.queue = 7 then s.get (F.NET_P_BUF_MAX_CELLS q.port)
      else s.get (F.NET_P_BUF_MAX_CELLS q.port) - s.get (F.NET_P_BUF_RSV7 q.port)) := by
    split <;> omega
  exact if_pos ⟨hlim, hall⟩

/-- The copy of a frame, not of the fronthaul class, that waits for port `e`. -/
def plainCopy (s : State) (p e : Nat) (fr : List Byte) (meas : Nat) : QFrame :=
  ⟨e, queueOf s p (vidPcp s p fr).2 false, p, egressForm s e (vidPcp s p fr).1 (vidPcp s p fr).2 fr, ingressStamp s p meas,
    s.get F.NET_TC_CFG_MODE, false, false, false⟩

theorem plainCopy_inc_rxOk (s : State) (p e : Nat) (fr : List Byte) (meas : Nat) :
    plainCopy (s.inc (F.NET_P_RX_OK p)) p e fr meas = plainCopy s p e fr meas := by
  rw [plainCopy, vidPcp_inc_rxOk, queueOf_inc_rxOk, egressForm_inc, ingressStamp_inc_rxOk, tcMode_inc_rxOk, plainCopy]

theorem egress_of_plain {s : State} {e : Nat} (he : e < 8) (hup : portUp s e = true) (p : Nat) (fr : List Byte) (meas : Nat) :
    egress p (vidPcp s p fr).1 (vidPcp s p fr).2 (queueOf s p (vidPcp s p fr).2 false) false true false false fr
      (ingressStamp s p meas) meas s e = storeFrame (plainCopy s p e fr meas) s := by
  rw [egress, if_neg (by omega), if_neg (by simp [hup])]
  simp only [cutsThrough_plain, Bool.false_eq_true, if_false, if_true, plainCopy]

/-- R91: the frame is of the fronthaul class, by its PCP or by the static entry of its destination. -/
def fhClass (s : State) (p : Nat) (fr : List Byte) : Bool :=
  decide (p < 8) && (bitOf (s.get F.NET_FH_CFG) (vidPcp s p fr).2 ||
    match macFind s (vidPcp s p fr).1 (beAt fr 0 6) with
    | some e => e.static && e.fh
    | none => false)

theorem fhClass_of_plain {s : State} {p : Nat} {fr : List Byte} (hpcp : bitOf (s.get F.NET_FH_CFG) (vidPcp s p fr).2 = false)
    (hentry : ∀ m, macFind s (vidPcp s p fr).1 (beAt fr 0 6) = some m → m.fh = false) : fhClass s p fr = false := by
  rw [fhClass, hpcp]
  cases hm : macFind s (vidPcp s p fr).1 (beAt fr 0 6) with
  | none => simp
  | some m => simp [hentry m hm]

/-- R94: a port that learns learns the source of a good frame, unless it is a group address. -/
def learnSource (p vid : Nat) (fr : List Byte) (s : State) : State :=
  if (if p < 8 then s.flag (F.NET_P_CFG_LEARN p) else s.flag (F.NET_P89_CFG (p - 8))) && !bitOf (beAt fr 6 1) 0 then
    macLearn p vid (beAt fr 6 6) s
  else s

theorem learnSource_of_off {s : State} {p : Nat} (hp : p < 8) (h : s.flag (F.NET_P_CFG_LEARN p) = false) (vid : Nat)
    (fr : List Byte) : learnSource p vid fr s = s := by
  rw [learnSource, if_neg (by simp [hp, h])]

/-- A good frame inside its VLAN: each destination gets its copy, a Pdelay_Req waits for its answer, the source is learned. -/
theorem forward_inside_vlan {s : State} {p : Nat} {fr : List Byte} (hvalid : (s.vlan (vidPcp s p fr).1).valid = true)
    (hmember : bitOf (s.vlan (vidPcp s p fr).1).member p = true) (meas : Nat) :
    forward p fr true false false meas s = learnSource p (vidPcp s p fr).1 fr (queuePdelay p fr (ingressStamp s p meas)
      ((destinations s p (vidPcp s p fr).1 (beAt fr 0 6) fr).foldl (egress p (vidPcp s p fr).1 (vidPcp s p fr).2
        (queueOf s p (vidPcp s p fr).2 (fhClass s p fr)) (fhClass s p fr) true false false fr (ingressStamp s p meas) meas)
        (ptpCounters p fr s))) := by
  rw [forward, if_neg (by simp [hvalid, hmember])]
  rfl

/-- A plain frame bound for one external port that is up and has room is stored for it, and nothing else changes. -/
theorem forward_plain {s : State} {p e meas : Nat} {fr : List Byte} (hp : p < 8)
    (hvalid : (s.vlan (vidPcp s p fr).1).valid = true) (hmember : bitOf (s.vlan (vidPcp s p fr).1).member p = true)
    (hptp : ptpOf fr = none) (hskip : ptpSkipped fr = false)
    (hdst : destinations s p (vidPcp s p fr).1 (beAt fr 0 6) fr = [e]) (he : e < 8) (hup : portUp s e = true)
    (hlearn : s.flag (F.NET_P_CFG_LEARN p) = false) (hfh : fhClass s p fr = false)
    (hport : occupancy s e + cells (plainCopy s p e fr meas) ≤ s.get (F.NET_P_BUF_MAX_CELLS e) - s.get (F.NET_P_BUF_RSV7 e))
    (hall : (s.sw.queue.map cells).sum + cells (plainCopy s p e fr meas) ≤ 24576) :
    forward p fr true false false meas s = s.setSw { s.sw with queue := s.sw.queue ++ [plainCopy s p e fr meas] } := by
  rw [forward_inside_vlan hvalid hmember, hdst, hfh, ptpCounters_of_plain hptp hskip, queuePdelay_of_plain hptp, List.foldl_cons,
    List.foldl_nil, egress_of_plain he hup, storeFrame_of_room hport hall,
    learnSource_of_off hp ((State.setSw_flag _ _ _).trans hlearn)]

theorem fhClass_inc_rxOk (s : State) (p : Nat) (fr : List Byte) : fhClass (s.inc (F.NET_P_RX_OK p)) p fr = fhClass s p fr := by
  have hcfg : (s.inc (F.NET_P_RX_OK p)).get F.NET_FH_CFG = s.get F.NET_FH_CFG :=
    s.get_inc_of_off_ne _ _ (by omega : 0x400004 ≠ 0x400140 + p * 0x80)
  rw [fhClass, hcfg, vidPcp_inc_rxOk, macFind_inc, fhClass]

/-- Settles O13: the count of a good frame leaves all that `forward` looks at, and `forward` stores the copy or counts the drop. -/
theorem frameReception : Obligations.FrameReception := by
  refine ⟨?_, fun s p fr ok fine hon hp hup hlen => ?_, fun s p fr fine hs hon hp hup hrun hmin hmax hmember => ?_⟩
  · intro s p fr fine e hs hon hp hup hrun hmin hmax hvalid hmember hptp hskip hdst he hupe hlearn hpcp hentry q hport hall
    have hmax' : (s.inc (F.NET_P_RX_OK p)).get (F.NET_P_BUF_MAX_CELLS e) = s.get (F.NET_P_BUF_MAX_CELLS e) :=
      s.get_inc_of_off_ne _ _ (portReg_ne (by decide) e p)
    have hrsv : (s.inc (F.NET_P_RX_OK p)).get (F.NET_P_BUF_RSV7 e) = s.get (F.NET_P_BUF_RSV7 e) :=
      s.get_inc_of_off_ne _ _ (portReg_ne (by decide) e p)
    have hlearn' : (s.inc (F.NET_P_RX_OK p)).flag (F.NET_P_CFG_LEARN p) = false :=
      (s.flag_inc_of_off_ne _ _ (portReg_ne (by decide) p p)).trans hlearn
    have hq : plainCopy (s.inc (F.NET_P_RX_OK p)) p e fr (s.resid + fine * 8192) = q := plainCopy_inc_rxOk _ _ _ _ _
    rw [exec_frameRx, execFrameRx_net hon hp, frameRx_of_good hup hrun hmin hmax, forward_plain (e := e) hp
      (by rwa [vidPcp_inc_rxOk, vlan_inc]) (by rwa [vidPcp_inc_rxOk, vlan_inc]) hptp hskip
      (by rwa [vidPcp_inc_rxOk, destinations_inc_rxOk]) he ((portUp_inc_rxOk s p e).trans hupe) hlearn'
      ((fhClass_inc_rxOk s p fr).trans (fhClass_of_plain hpcp hentry)) (by rwa [hq, hmax', hrsv, occupancy_inc])
      (by rwa [hq, State.inc_sw]), hq, State.inc_sw]
    exact ⟨_, rfl, by rw [State.setSw_sw], by rw [State.setSw_sw],
      (State.setSw_get _ _ _).trans (State.get_inc_same hs.regs _ (word_ok _)), by rw [State.setSw_tiles, State.inc_tiles],
      by rw [State.setSw_out, State.inc_out]⟩
  · rw [exec_frameRx, execFrameRx_net hon hp, frameRx_of_bad_length hup hlen]
  · rw [exec_frameRx, execFrameRx_net hon hp, frameRx_of_good hup hrun hmin hmax,
      forward_outside_vlan (by rwa [vidPcp_inc_rxOk, vlan_inc])]

end Sys2Proof.Machine

/-!
PROOF. The transparent clock (03 R102, R106): bytes of a patched frame, what a frame leaves a port as, and `TransparentClock`.
-/

namespace Sys2Proof.Machine

/-! ### Bytes of a number and of a patched frame -/

@[simp] theorem leBytes_length (n v : Nat) : (leBytes n v).length = n := by
  induction n generalizing v with
  | zero => rfl
  | succ n ih => rw [leBytes, List.length_cons, ih]

@[simp] theorem beBytes_length (n v : Nat) : (beBytes n v).length = n := by
  rw [beBytes, List.length_reverse, leBytes_length]

/-- Little-endian bytes read back, modulo their range (R16). -/
theorem leNat_leBytes (n v : Nat) : leNat (leBytes n v) = v % 256 ^ n := by
  induction n generalizing v with
  | zero => rw [leBytes, leNat, Nat.pow_zero, Nat.mod_one]
  | succ n ih => rw [leBytes, leNat, ih, BitVec.toNat_ofNat, show (2 : Nat) ^ 8 = 256 from rfl, Nat.pow_succ', Nat.mod_mul]

theorem beNat_reverse (l : List Byte) : beNat l.reverse = leNat l := by
  rw [beNat, List.foldl_reverse]
  induction l with
  | nil => rfl
  | cons b l ih => rw [List.foldr_cons, ih, leNat, Nat.mul_comm, Nat.add_comm]

/-- Big-endian bytes read back, modulo their range (R17). -/
theorem beNat_beBytes (n v : Nat) : beNat (beBytes n v) = v % 256 ^ n := by
  rw [beBytes, beNat_reverse, leNat_leBytes]

section Patch

variable {α : Type} {l v : List α} {i : Nat} (h : i + v.length ≤ l.length)
include h

/-- A patch that fits, as its three parts. -/
theorem patch_eq : patch l i v = l.take i ++ v ++ l.drop (i + v.length) := by
  rw [patch, List.take_of_length_le (by omega : v.length ≤ l.length - i)]

theorem patch_length : (patch l i v).length = l.length := by
  rw [patch_eq h]
  simp
  omega

theorem slice_patch : slice (patch l i v) i v.length = v := by
  have hi : (l.take i).length = i := List.length_take_of_le (by omega)
  rw [patch_eq h, slice, List.append_assoc, List.drop_left' hi, List.take_left' rfl]

/-- A byte outside the patch stays. -/
theorem getElem?_patch {j : Nat} (hj : j < i ∨ i + v.length ≤ j) : (patch l i v)[j]? = l[j]? := by
  have hi : (l.take i).length = i := List.length_take_of_le (by omega)
  rw [patch_eq h, List.append_assoc]
  rcases hj with hj | hj
  · rw [List.getElem?_append_left (by omega), List.getElem?_take_of_lt hj]
  · rw [List.getElem?_append_right (by omega), hi, List.getElem?_append_right (by omega), List.getElem?_drop]
    congr 1
    omega

end Patch

/-- A big-endian field reads back as patched in. -/
theorem beAt_patch {l : List Byte} {i n : Nat} (h : i + n ≤ l.length) (x : Nat) :
    beAt (patch l i (beBytes n x)) i n = x % 256 ^ n := by
  have hs := slice_patch (l := l) (i := i) (v := beBytes n x) (by rwa [beBytes_length])
  rw [beBytes_length] at hs
  rw [beAt, hs, beNat_beBytes]

theorem ux_lt (w : Nat) (v : Int) : ux w v < 2 ^ w := by
  have hlt := Int.emod_lt_of_pos v (show (0 : Int) < 2 ^ w by positivity)
  have hcast : ((2 ^ w : Nat) : Int) = 2 ^ w := by norm_cast
  unfold ux
  omega

/-! ### What leaves a port -/

/-- The end of a transmission: the frame is counted, the port is busy until its last bit, and `d` is what leaves. -/
def transmit (q : QFrame) (meas : Nat) (stomp : Bool) (d : List Byte) (s : State) : State :=
  let s := if stomp then s.inc (F.NET_P_STOMP q.port) else s.inc (F.NET_P_TX_OK q.port)
  let s := s.setSw { s.sw with busyUntil := s.sw.busyUntil.set q.port (meas + wireTime s q.port (q.data.length + 24)) }
  s.emit (.frame q.port d)

/-- The site time, in ns, at which a frame measured at `meas` leaves (R113). -/
def egressSite (s : State) (q : QFrame) (meas : Nat) : Nat :=
  ((s.tb.sec * 1000000000 + s.tb.ns : Nat) + (egressStamp s q.port meas / 2 ^ 16 - s.resid / 2 ^ 16)).toNat

theorem State.emit_out (s : State) (o : Out) : (s.emit o).out = o :: s.out := rfl

theorem transmit_out (q : QFrame) (meas : Nat) (stomp : Bool) (d : List Byte) (s : State) :
    (transmit q meas stomp d s).out = .frame q.port d :: s.out := by
  cases stomp <;> simp [transmit, State.emit_out]

theorem transmit_sw (q : QFrame) (meas : Nat) (stomp : Bool) (d : List Byte) (s : State) :
    (transmit q meas stomp d s).sw = { s.sw with busyUntil := (transmit q meas stomp d s).sw.busyUntil } := by
  cases stomp <;> simp [transmit]

theorem transmit_tiles (q : QFrame) (meas : Nat) (stomp : Bool) (d : List Byte) (s : State) :
    (transmit q meas stomp d s).tiles = s.tiles := by
  cases stomp <;> simp [transmit]

theorem transmit_tb (q : QFrame) (meas : Nat) (stomp : Bool) (d : List Byte) (s : State) :
    (transmit q meas stomp d s).tb = s.tb := by
  cases stomp <;> simp [transmit]

/-- A frame that holds no PTP message leaves as it is stored. -/
theorem sendFrame_of_plain {q : QFrame} (h : ptpOf q.data = none) (meas : Nat) (stomp : Bool) (s : State) :
    sendFrame q meas stomp s = transmit q meas stomp q.data s := by
  simp only [sendFrame, h, transmit]

/-- R113: Bench gets the egress time of an event message that it sent. -/
def benchStamped (q : QFrame) (meas : Nat) (s : State) : State :=
  if q.fromBench then s.setSw { s.sw with benchStamps := s.sw.benchStamps ++ [egressSite s q meas] } else s

/-- R114: a message that Bench marked ORIGIN takes its time of leaving, `t` ns, into its originTimestamp. -/
def originForm (q : QFrame) (m : Ptp) (t : Nat) : List Byte :=
  if q.origin then
    fixChecksum q.data (patch q.data (m.off + 34) (beBytes 6 (t / 1000000000) ++ beBytes 4 (t % 1000000000))) m
  else q.data

/-- A count taken where `c` holds. -/
def countIf (c : Bool) (f : Fld) (s : State) : State := if c then s.inc f else s

@[simp] theorem countIf_sw (c : Bool) (f : Fld) (s : State) : (countIf c f s).sw = s.sw := by
  cases c
  · rfl
  · exact s.inc_sw f

@[simp] theorem countIf_out (c : Bool) (f : Fld) (s : State) : (countIf c f s).out = s.out := by
  cases c
  · rfl
  · exact s.inc_out f

/-- The counts that a correction leaves: of an overflow, and of a port that is not calibrated (R106, R112). -/
def countCorrection (p : Nat) (overflow : Bool) (s : State) : State :=
  let s := countIf overflow F.NET_TC_OVF s
  countIf (decide (p < 8) && !s.flag (F.NET_P_STAT_CAL_DONE p)) (F.NET_P_UNCAL p) s

/-- R102: the message `d` with its residence time `r`, where messages of its type are corrected. -/
def corrected (q : QFrame) (m : Ptp) (d : List Byte) (r : Int) (s : State) : List Byte × State :=
  match correction s q.tc (ptpType d m) q.inPort q.port r with
  | none => (d, s)
  | some a => ((correct d m a).1, countCorrection q.port (correct d m a).2 s)

/-- An event message leaves stamped for Bench, with its origin time and corrected, as far as these apply. -/
theorem sendFrame_of_event {q : QFrame} {m : Ptp} (hptp : ptpOf q.data = some m) (hev : ptpEvent q.data m = true) (meas : Nat)
    (stomp : Bool) (s : State) :
    sendFrame q meas stomp s = transmit q meas stomp
      (corrected q m (originForm q m (egressSite s q meas)) (egressStamp s q.port meas - q.tIn) (benchStamped q meas s)).1
      (corrected q m (originForm q m (egressSite s q meas)) (egressStamp s q.port meas - q.tIn) (benchStamped q meas s)).2 := by
  obtain ⟨port, queue, inPort, data, tIn, tc, origin, fromBench, poison⟩ := q
  simp only [sendFrame, hptp, hev, Bool.not_true, Bool.false_eq_true, if_false]
  cases fromBench <;> rfl

theorem countCorrection_sw (p : Nat) (overflow : Bool) (s : State) : (countCorrection p overflow s).sw = s.sw := by
  rw [countCorrection, countIf_sw, countIf_sw]

theorem countCorrection_out (p : Nat) (overflow : Bool) (s : State) : (countCorrection p overflow s).out = s.out := by
  rw [countCorrection, countIf_out, countIf_out]

theorem corrected_sw (q : QFrame) (m : Ptp) (d : List Byte) (r : Int) (s : State) : (corrected q m d r s).2.sw = s.sw := by
  rw [corrected]
  split
  · rfl
  · exact countCorrection_sw _ _ _

theorem corrected_of_some {q : QFrame} {m : Ptp} {d : List Byte} {r a : Int} {s : State}
    (h : correction s q.tc (ptpType d m) q.inPort q.port r = some a) :
    corrected q m d r s = ((correct d m a).1, countCorrection q.port (correct d m a).2 s) := by
  rw [corrected, h]

/-! ### One step, end to end (R102, R106) -/

theorem correction_sync_end_to_end {s : State} {inP : Nat} (h : inP < 8) (outP : Nat) (r : Int) :
    correction s 1 0 inP outP r = some (r + s.geti (F.NET_P_ASYM inP) * 256) := by
  simp [correction, adj, h]

theorem addCorrection_in_range {old : Nat} {a : Int} (hhi : sx 64 old + a < 2 ^ 63) (hlo : -(2 ^ 63) ≤ sx 64 old + a) :
    addCorrection old a = (ux 64 (sx 64 old + a), false) := by
  rw [addCorrection, if_neg (by omega)]

/-- R106: over Ethernet the corrected message differs in its correctionField only. -/
theorem correct_ethernet {fr : List Byte} {m : Ptp} {a : Int} (ht : m.transport = 0)
    (hhi : sx 64 (beAt fr (m.off + 8) 8) + a < 2 ^ 63) (hlo : -(2 ^ 63) ≤ sx 64 (beAt fr (m.off + 8) 8) + a) :
    (correct fr m a).1 = patch fr (m.off + 8) (beBytes 8 (ux 64 (sx 64 (beAt fr (m.off + 8) 8) + a))) := by
  simp [correct, addCorrection_in_range hhi hlo, fixChecksum, ht]

/-- Settles O14: a Sync over Ethernet is an event message that is corrected by its residence time and the asymmetry, and the correction
patches eight bytes. -/
theorem transparentClock : Obligations.TransparentClock := by
  intro s q meas m hptp ht hty htc hin hport horigin hbench hlen a hhi hlo
  have hev : ptpEvent q.data m = true := by simp [ptpEvent, hty, ht]
  have hcorr : correction s q.tc (ptpType q.data m) q.inPort q.port (egressStamp s q.port meas - q.tIn) = some a := by
    rw [htc, hty, correction_sync_end_to_end hin]
  have hform : originForm q m (egressSite s q meas) = q.data := if_neg (by simp [horigin])
  have hstamp : benchStamped q meas s = s := if_neg (by simp [hbench])
  have hfits : m.off + 8 + (beBytes 8 (ux 64 (sx 64 (beAt q.data (m.off + 8) 8) + a))).length ≤ q.data.length := by
    rw [beBytes_length]
    omega
  refine ⟨(correct q.data m a).1, ?_, ?_, ?_, fun i hi => ?_⟩
  · rw [sendFrame_of_event hptp hev, transmit_out, hform, hstamp, corrected_of_some hcorr, countCorrection_out]
  · rw [correct_ethernet ht hhi hlo, patch_length hfits]
  · rw [correct_ethernet ht hhi hlo, beAt_patch (by omega), show 256 ^ 8 = 2 ^ 64 from rfl, Nat.mod_eq_of_lt (ux_lt 64 _), sx_ux (by decide) hlo hhi]
  · rw [correct_ethernet ht hhi hlo, getElem?_patch hfits (by rwa [beBytes_length])]

end Sys2Proof.Machine

/-!
PROOF. Transmission (03 R99, R105, R113, R114, R120): the transmitter's rows, and `FrameTransmission`.
-/

namespace Sys2Proof.Machine

theorem exec_frameTx (p fine : Nat) (s : State) : exec (.frameTx p fine) s = execFrameTx p fine s := rfl
theorem exec_pdelayRespSend (p fine : Nat) (s : State) : exec (.pdelayRespSend p fine) s = execPdelayRespSend p fine s := rfl
theorem exec_benchPtpSend (fr : List Byte) (o : Bool) (s : State) : exec (.benchPtpSend fr o) s = execBenchPtpSend fr o s := rfl
theorem exec_port9FrameIngress (s : State) : exec .port9FrameIngress s = execPort9FrameIngress s := rfl

/-- The frame `f` leaves its queue, with the deficits and the pointer that served it. -/
def dequeue (p : Nat) (f : QFrame) (d : List Nat) (ptr : Nat) (s : State) : State :=
  s.setSw { s.sw with queue := s.sw.queue.erase f, deficit := s.sw.deficit.set p d, pointer := s.sw.pointer.set p ptr }

/-- R99: the oldest frame of the queue that the scheduler names is sent once the frame on the wire has ended. -/
theorem frameTx_of_scheduled {s : State} {p k ptr : Nat} {d : List Nat} {f : QFrame} (hup : portUp s p = true)
    (hsched : schedule s p = some (k, d, ptr)) (hfind : s.sw.queue.find? (fun g => g.port == p && g.queue == k) = some f) (fine : Nat) :
    frameTx p fine s = sendFrame f (max s.resid (s.sw.busyUntil.getD p 0) + fine * 8192) f.poison (dequeue p f d ptr s) := by
  rw [frameTx, if_neg (by simp [hup]), hsched]
  dsimp only
  rw [hfind]
  rfl

/-- The response that answers a Pdelay_Req leaves port `p`. -/
def respond (p : Nat) (out : List Byte) (meas : Nat) (s : State) : State :=
  let s := s.inc (F.NET_P_TX_OK p)
  let s := s.setSw { s.sw with busyUntil := s.sw.busyUntil.set p (meas + wireTime s p (out.length + 24)) }
  s.emit (.frame p out)

theorem respond_out (p : Nat) (out : List Byte) (meas : Nat) (s : State) : (respond p out meas s).out = .frame p out :: s.out := by
  simp [respond, State.emit_out]

theorem respond_pdelay (p : Nat) (out : List Byte) (meas : Nat) (s : State) : (respond p out meas s).sw.pdelay = s.sw.pdelay := by
  simp [respond]

theorem portUp_setSw (s : State) (x : Switch) (p : Nat) : portUp (s.setSw x) p = portUp s p := by
  rw [portUp, present, State.setSw_flag, State.setSw_flag, State.setSw_flag, portUp, present]

/-- R105: the oldest waiting request of a port that is up is answered, and waits no longer. -/
theorem pdelaySend_of_waiting {s : State} {p : Nat} {fr : List Byte} {tIn : Int} {m : Ptp} (hup : portUp s p = true)
    (hfind : s.sw.pdelay.find? (·.1 = p) = some (p, fr, tIn)) (hptp : ptpOf fr = some m) (fine : Nat) :
    pdelaySend p fine s = respond p (pdelayResp s p fr m
        (egressStamp s p ((max s.resid (s.sw.busyUntil.getD p 0) + fine * 8192 : Nat) : Int) - tIn))
      (max s.resid (s.sw.busyUntil.getD p 0) + fine * 8192) (s.setSw { s.sw with pdelay := s.sw.pdelay.erase (p, fr, tIn) }) := by
  have hup' : ¬ (!portUp (s.setSw { s.sw with pdelay := s.sw.pdelay.erase (p, fr, tIn) }) p) = true := by
    rw [portUp_setSw, hup]
    decide
  rw [pdelaySend, hfind]
  dsimp only
  rw [if_neg hup', hptp]
  rfl

/-- Settles O15: each row by what its operation does, a transmission by the one lemma on frames without a PTP message, an egress time by
the one on event messages. -/
theorem frameTransmission : Obligations.FrameTransmission := by
  refine ⟨fun s p fine f d ptr hon hp hup hf hport hplain hpoison hsched hfind => ?_,
    fun s p fine fr tIn m hon hp hup hfind hptp => ?_, fun s fr o hon => ?_, fun s f l hon hres => ?_,
    fun s q meas m hbench hptp hev => ?_⟩
  · rw [exec_frameTx, execFrameTx, if_pos (by simp [hon, hp]), frameTx_of_scheduled hup hsched hfind, sendFrame_of_plain hplain]
    refine ⟨_, rfl, ?_, ?_, ?_, ?_, ?_⟩
    · rw [transmit_sw, dequeue, State.setSw_sw]
    · rw [transmit_out, dequeue, State.setSw_out, hport]
    · rw [transmit_sw, dequeue, State.setSw_sw]
    · rw [transmit_tiles, dequeue, State.setSw_tiles]
    · rw [transmit_tb, dequeue, State.setSw_tb]
  · rw [exec_pdelayRespSend, execPdelayRespSend, if_pos (by simp [hon, hp]), pdelaySend_of_waiting hup hfind hptp]
    exact ⟨_, rfl, by rw [respond_pdelay, State.setSw_sw], by rw [respond_out, List.head?_cons]⟩
  · rw [exec_benchPtpSend, execBenchPtpSend, if_pos hon]
  · rw [exec_port9FrameIngress, execPort9FrameIngress, if_pos hon, hres]
  · rw [sendFrame_of_event hptp hev, transmit_sw, corrected_sw, benchStamped, if_pos hbench, State.setSw_sw, egressSite]

end Sys2Proof.Machine

/-!
PROOF. Jexlink ports (04): the registers an operation writes, a port's record, and packets in sequence.
-/

namespace Sys2Proof.Machine

/-! ### The registers an operation writes -/

/-- Only the registers of `l` are written on the way from `s` to `t`, and the register file keeps its canonical form. -/
structure State.Writes (s : State) (l : List Nat) (t : State) : Prop where
  wf : s.regsWf → t.regsWf
  reg : ∀ k, k ∉ l → t.reg k = s.reg k

section Writes

variable {s t u : State} {l m : List Nat}

theorem State.Writes.refl (s : State) (l : List Nat) : s.Writes l s := ⟨id, fun _ _ => rfl⟩

theorem State.Writes.trans (h : s.Writes l t) (g : t.Writes l u) : s.Writes l u :=
  ⟨g.wf ∘ h.wf, fun k hk => (g.reg k hk).trans (h.reg k hk)⟩

theorem State.Writes.mono (h : s.Writes l t) (hm : l ⊆ m) : s.Writes m t := ⟨h.wf, fun k hk => h.reg k fun hl => hk (hm hl)⟩

theorem State.Writes.among {k : Nat} (h : s.Writes [k] t) (hk : k ∈ m) : s.Writes m t :=
  h.mono (List.cons_subset.2 ⟨hk, List.nil_subset m⟩)

theorem State.Writes.set (h : s.Writes l t) {f : Fld} (hf : f.off ∈ l) (v : Nat) : s.Writes l (t.set f v) :=
  ⟨fun hs => State.set_regsWf (h.wf hs) f v, fun k hk =>
    (t.reg_set_of_off_ne f v (ne_of_mem_of_not_mem hf hk).symm).trans (h.reg k hk)⟩

/-- What leaves the register file alone writes no register. -/
theorem State.Writes.of_regs (h : s.Writes l t) (hu : u.regs = t.regs) : s.Writes l u :=
  ⟨fun hs => by rw [State.regsWf, hu]; exact h.wf hs, fun k hk => by rw [State.reg, hu]; exact h.reg k hk⟩

theorem State.Writes.foldl {α : Type} {f : State → α → State} {as : List α}
    (h : ∀ a ∈ as, ∀ s : State, s.Writes l (f s a)) : ∀ s : State, s.Writes l (as.foldl f s) := by
  induction as with
  | nil => exact fun s => .refl s l
  | cons a as ih =>
    exact fun s => (h a (.head _) s).trans (ih (fun b hb => h b (.tail _ hb)) _)

theorem State.Writes.get (h : s.Writes l t) {f : Fld} (hf : f.off ∉ l) : t.get f = s.get f := by
  rw [State.get, h.reg _ hf, State.get]

theorem State.Writes.flag (h : s.Writes l t) {f : Fld} (hf : f.off ∉ l) : t.flag f = s.flag f := by
  rw [State.flag, h.get hf, State.flag]

variable {n : Nat} {r : Nat → List Nat}

/-- A field of port `n` that lies outside what is written keeps its value: that it lies outside is seen port by port. -/
theorem State.Writes.port (h : s.Writes (r n) t) (hn : n < 16) (f : Nat → Fld) (hf : ∀ m < 16, (f m).off ∉ r m) :
    t.get (f n) = s.get (f n) := h.get (hf n hn)

theorem State.Writes.flagPort (h : s.Writes (r n) t) (hn : n < 16) (f : Nat → Fld) (hf : ∀ m < 16, (f m).off ∉ r m) :
    t.flag (f n) = s.flag (f n) := h.flag (hf n hn)

end Writes

/-- Two registers of different places in the ports' blocks. -/
theorem jxlReg_ne {a b : Nat} (h : a ≠ b) (n : Nat) : a + n * 0x200 ≠ b + n * 0x200 := by omega

theorem fld_ok (a : Nat) {hi lo : Nat} (h : lo ≤ hi ∧ hi < 32) : (⟨a, hi, lo⟩ : Fld).ok := h

/-- A value that fits reads back as written. -/
theorem State.get_set_fits {s : State} (hs : s.regsWf) (f : Fld) (hf : f.ok) {v : Nat} (hv : v < 2 ^ (f.hi + 1 - f.lo)) :
    (s.set f v).get f = v := by
  rw [State.get_set_same hs f v hf, Nat.mod_eq_of_lt hv]

/-! ### The record of a port -/

theorem State.jp_eq_of_jxl {s t : State} (h : t.jxl = s.jxl) (n : Nat) : t.jp n = s.jp n := by
  rw [State.jp, h, State.jp]

@[simp] theorem State.set_jp (s : State) (f : Fld) (v n : Nat) : (s.set f v).jp n = s.jp n := (rfl)
@[simp] theorem State.inc_jp (s : State) (f : Fld) (n : Nat) : (s.inc f).jp n = s.jp n := (rfl)
@[simp] theorem State.incBy_jp (s : State) (f : Fld) (m n : Nat) : (s.incBy f m).jp n = s.jp n := (rfl)
@[simp] theorem State.raise_jp (s : State) (f : Fld) (n : Nat) : (s.raise f).jp n = s.jp n := (rfl)
@[simp] theorem State.clear_jp (s : State) (f : Fld) (n : Nat) : (s.clear f).jp n = s.jp n := (rfl)
@[simp] theorem State.setJp_link (s : State) (n : Nat) (j : JPort) (m : Nat) : (s.setJp n j).link m = s.link m := (rfl)
@[simp] theorem State.setJp_pmap (s : State) (n : Nat) (j : JPort) (m : Nat) : (s.setJp n j).pmap m = s.pmap m := (rfl)
@[simp] theorem State.setJp_jxl_length (s : State) (n : Nat) (j : JPort) : (s.setJp n j).jxl.length = s.jxl.length :=
  List.length_set

theorem State.setJp_regsWf {s : State} (hs : s.regsWf) (n : Nat) (j : JPort) : (s.setJp n j).regsWf := hs

theorem State.jp_setJp_same {s : State} {n : Nat} (h : n < s.jxl.length) (j : JPort) : (s.setJp n j).jp n = j :=
  getD_set_same _ _ _ _ h

theorem State.jp_setJp_ne (s : State) {n m : Nat} (h : m ≠ n) (j : JPort) : (s.setJp n j).jp m = s.jp m :=
  getD_set_ne _ _ _ _ _ h.symm

@[simp] theorem State.setJp_setJp (s : State) (n : Nat) (j k : JPort) : (s.setJp n j).setJp n k = s.setJp n k := by
  rw [State.setJp, State.setJp, State.setJxl_jxl, List.set_set]
  rfl

theorem State.Sized.port_lt {s : State} (hs : s.Sized) {n : Nat} (h : n < 16) : n < s.jxl.length := by rwa [hs.jxl]

theorem linkState_ok (n : Nat) : (F.JXL_P_STAT_STATE n).ok := fld_ok _ (by decide)
theorem synced_ok (n : Nat) : (F.JXL_P_STAT_SYNCED n).ok := bit_ok _ (by decide)

/-! ### A good packet in sequence (R144) -/

/-- A good packet with the expected SEQ is counted, and the next SEQ is expected; what its kind does comes after. -/
def inSeq (n : Nat) (s : State) : State :=
  (s.inc (F.JXL_P_PKT_OK n)).setJp n { s.jp n with seq := ((s.jp n).seq + 1) % 65536 }

theorem goodPacket_inSeq (n : Nat) (s : State) : goodPacket n (s.jp n).seq s = inSeq n s := by
  rw [goodPacket, if_pos rfl, inSeq]

theorem onPacket_inSeq {s : State} {n : Nat} (h : takesPackets s n = true) (f : State → State) :
    onPacket n (s.jp n).seq f s = f (inSeq n s) := by
  rw [onPacket, if_pos h, goodPacket_inSeq]

theorem takesPackets_lt {s : State} {n : Nat} (h : takesPackets s n = true) : n < 16 := by
  simp only [takesPackets, Bool.and_eq_true, decide_eq_true_eq] at h
  exact h.1.1.1.1.2

section InSeq

variable {s : State} {n : Nat}

theorem inSeq_writes (n : Nat) (s : State) : s.Writes [(F.JXL_P_PKT_OK n).off] (inSeq n s) :=
  ((State.Writes.refl s _).set (f := F.JXL_P_PKT_OK n) (.head _) _).of_regs (State.setJp_regs _ _ _)

theorem inSeq_jp (hn : n < s.jxl.length) : (inSeq n s).jp n = { s.jp n with seq := ((s.jp n).seq + 1) % 65536 } :=
  State.jp_setJp_same (by rwa [State.inc_jxl]) _

theorem inSeq_jp_ne {m : Nat} (h : m ≠ n) : (inSeq n s).jp m = s.jp m := by
  rw [inSeq, State.jp_setJp_ne _ h, State.inc_jp]

@[simp] theorem inSeq_jxl_length (n : Nat) (s : State) : (inSeq n s).jxl.length = s.jxl.length := by
  rw [inSeq, State.setJp_jxl_length, State.inc_jxl]
@[simp] theorem inSeq_tb (n : Nat) (s : State) : (inSeq n s).tb = s.tb := by rw [inSeq, State.setJp_tb, State.inc_tb]
@[simp] theorem inSeq_tiles (n : Nat) (s : State) : (inSeq n s).tiles = s.tiles := by rw [inSeq, State.setJp_tiles, State.inc_tiles]
@[simp] theorem inSeq_gates (n : Nat) (s : State) : (inSeq n s).gates = s.gates := by rw [inSeq, State.setJp_gates, State.inc_gates]
@[simp] theorem inSeq_ppc (n : Nat) (s : State) : (inSeq n s).ppc = s.ppc := by rw [inSeq, State.setJp_ppc, State.inc_ppc]
@[simp] theorem inSeq_out (n : Nat) (s : State) : (inSeq n s).out = s.out := by rw [inSeq, State.setJp_out, State.inc_out]

theorem inSeq_pmap (m : Nat) : (inSeq n s).pmap m = s.pmap m := State.pmap_eq_of_maps (by rw [inSeq_tb]) m

end InSeq

end Sys2Proof.Machine

/-!
PROOF. Losses (04 R150, R152, R153, R175) and the power channel (05 R202 to R205): what `portLost`, `portOff` and `cooldown` leave.
-/

namespace Sys2Proof.Machine

/-! ### The map and the register requests of a port -/

section Map

variable (n : Nat) (s : State)

theorem mapIdle_writes : s.Writes [(F.TSB_PT_STAT_STATE n).off] (mapIdle n s) :=
  (((State.Writes.refl s _).set (f := F.TSB_PT_STAT_STATE n) (.head _) _).set (f := F.TSB_PT_STAT_MISS n) (.head _) _).of_regs
    (State.setTb_regs _ _)

@[simp] theorem mapIdle_jxl : (mapIdle n s).jxl = s.jxl := by rw [mapIdle, State.setTb_jxl, State.clear_jxl, State.clear_jxl]
@[simp] theorem mapIdle_ppc : (mapIdle n s).ppc = s.ppc := by rw [mapIdle, State.setTb_ppc, State.clear_ppc, State.clear_ppc]
@[simp] theorem mapIdle_out : (mapIdle n s).out = s.out := by rw [mapIdle, State.setTb_out, State.clear_out, State.clear_out]

variable {s}

theorem mapIdle_state (hs : s.regsWf) : (mapIdle n s).get (F.TSB_PT_STAT_STATE n) = 0 := by
  rw [mapIdle, State.setTb_get, State.clear,
    State.get_set_ne (State.clear_regsWf hs _) _ _ _ (statMiss_ok n) (statMiss_apart_state n), State.get_clear_same hs _ (statState_ok n)]

end Map

/-- One request outstanding completes with LINK_LOST (R175). -/
def dropRequest (n : Nat) (s : State) (k : Nat) : State :=
  if s.flag (F.JXL_P_REQ_BUSY n k) then (s.clear (F.JXL_P_REQ_BUSY n k)).set (F.JXL_P_REQ_STATUS n k) 3 else s

theorem dropRequests_eq (n : Nat) (s : State) : dropRequests n s = (List.range 4).foldl (dropRequest n) s := rfl

/-- The control registers of the request slots of port `n`. -/
def reqRegs (n : Nat) : List Nat := (List.range 4).map fun k => (F.JXL_P_REQ_BUSY n k).off

theorem reqBusy_ok (n k : Nat) : (F.JXL_P_REQ_BUSY n k).ok := bit_ok _ (by decide)
theorem reqStatus_ok (n k : Nat) : (F.JXL_P_REQ_STATUS n k).ok := fld_ok _ (by decide)

theorem reqReg_ne {k j : Nat} (h : k ≠ j) (n : Nat) : (F.JXL_P_REQ_BUSY n k).off ≠ (F.JXL_P_REQ_BUSY n j).off := by
  simp only [F.JXL_P_REQ_BUSY]
  omega

section Requests

variable {n k : Nat} {s : State}

theorem dropRequest_writes (n k : Nat) (s : State) : s.Writes [(F.JXL_P_REQ_BUSY n k).off] (dropRequest n s k) := by
  rw [dropRequest]
  split
  · exact ((State.Writes.refl s _).set (f := F.JXL_P_REQ_BUSY n k) (.head _) _).set (f := F.JXL_P_REQ_STATUS n k) (.head _) _
  · exact .refl s _

theorem dropRequest_of_idle (h : s.flag (F.JXL_P_REQ_BUSY n k) = false) : dropRequest n s k = s := by
  rw [dropRequest, h, if_neg Bool.false_ne_true]

theorem dropRequest_of_busy (hs : s.regsWf) (h : s.flag (F.JXL_P_REQ_BUSY n k) = true) :
    (dropRequest n s k).flag (F.JXL_P_REQ_BUSY n k) = false ∧ (dropRequest n s k).get (F.JXL_P_REQ_STATUS n k) = 3 := by
  have hclear := State.clear_regsWf hs (F.JXL_P_REQ_BUSY n k)
  rw [dropRequest, if_pos h]
  refine ⟨?_, State.get_set_fits hclear _ (reqStatus_ok n k) (by decide : 3 < 2 ^ 2)⟩
  rw [State.flag_set_ne hclear _ _ _ (reqStatus_ok n k) (.inr (.inr (by decide : 18 < 20))), State.flag_clear hs _ (reqBusy_ok n k)]

/-- Slot `k` holds no request, and one that was outstanding in `s` has ended with LINK_LOST. -/
def Ended (n k : Nat) (s t : State) : Prop :=
  t.flag (F.JXL_P_REQ_BUSY n k) = false ∧ (s.flag (F.JXL_P_REQ_BUSY n k) = true → t.get (F.JXL_P_REQ_STATUS n k) = 3)

theorem Ended.writes {t u : State} {l : List Nat} (h : Ended n k s t) (hw : t.Writes l u) (hk : (F.JXL_P_REQ_BUSY n k).off ∉ l) :
    Ended n k s u :=
  ⟨(hw.flag hk).trans h.1, fun hb => (hw.get (f := F.JXL_P_REQ_STATUS n k) hk).trans (h.2 hb)⟩

/-- Dropping the requests of some slots ends the one of slot `k` if it is among them, or if it has ended already. -/
theorem ended_foldl_dropRequest (l : List Nat) : ∀ {t : State}, t.regsWf →
    Ended n k s t ∨ (k ∈ l ∧ t.flag (F.JXL_P_REQ_BUSY n k) = s.flag (F.JXL_P_REQ_BUSY n k)) →
    Ended n k s (l.foldl (dropRequest n) t) := by
  induction l with
  | nil => exact fun _ h => h.resolve_right fun ⟨hk, _⟩ => List.not_mem_nil hk
  | cons j l ih =>
    refine fun {t} ht h => ih ((dropRequest_writes n j t).wf ht) ?_
    by_cases hj : k = j
    · subst hj
      refine .inl ?_
      cases hb : t.flag (F.JXL_P_REQ_BUSY n k) with
      | true => exact ⟨(dropRequest_of_busy ht hb).1, fun _ => (dropRequest_of_busy ht hb).2⟩
      | false =>
        rw [dropRequest_of_idle hb]
        exact h.elim id fun ⟨_, hsame⟩ => ⟨hb, fun hbusy => by simp [← hsame, hb] at hbusy⟩
    · have hne : (F.JXL_P_REQ_BUSY n k).off ∉ [(F.JXL_P_REQ_BUSY n j).off] := List.mem_singleton.not.2 (reqReg_ne hj n)
      refine h.imp (fun g => g.writes (dropRequest_writes n j t) hne) fun ⟨hk, hsame⟩ => ?_
      exact ⟨(List.mem_cons.1 hk).resolve_left hj, ((dropRequest_writes n j t).flag hne).trans hsame⟩

theorem dropRequests_writes (n : Nat) (s : State) : s.Writes (reqRegs n) (dropRequests n s) := by
  rw [dropRequests_eq]
  exact .foldl (fun k hk s => (dropRequest_writes n k s).among
    (List.mem_map_of_mem (f := fun k => (F.JXL_P_REQ_BUSY n k).off) hk)) s

theorem dropRequests_regsOnly (n : Nat) (s : State) : s.RegsOnly (dropRequests n s) := by
  refine State.RegsOnly.foldl (fun s t k h => ?_) _ (.refl s)
  split
  · exact (h.set _ _).set _ _
  · exact h

theorem dropRequests_ended (hs : s.regsWf) (hk : k < 4) : Ended n k s (dropRequests n s) := by
  rw [dropRequests_eq]
  exact ended_foldl_dropRequest _ hs (.inr ⟨List.mem_range.2 hk, rfl⟩)

end Requests

/-! ### A port that no longer carries anything: its map is IDLE and its requests have ended -/

/-- The map goes to IDLE and the requests outstanding end (R66, R175). -/
def detached (n : Nat) (s : State) : State := dropRequests n (mapIdle n s)

/-- The registers of a port's map and requests that end with its link. -/
def detachRegs (n : Nat) : List Nat := (F.TSB_PT_STAT_STATE n).off :: reqRegs n

section Detached

variable (n : Nat) (s : State)

theorem detached_writes : s.Writes (detachRegs n) (detached n s) :=
  ((mapIdle_writes n s).among (.head _)).trans
    ((dropRequests_writes n (mapIdle n s)).mono (List.subset_cons_self _ _))

theorem detached_regsOnly : (mapIdle n s).RegsOnly (detached n s) := dropRequests_regsOnly n _

@[simp] theorem detached_jxl : (detached n s).jxl = s.jxl := by rw [detached_regsOnly n s, State.setRegs_jxl, mapIdle_jxl]
@[simp] theorem detached_ppc : (detached n s).ppc = s.ppc := by rw [detached_regsOnly n s, State.setRegs_ppc, mapIdle_ppc]
@[simp] theorem detached_out : (detached n s).out = s.out := by rw [detached_regsOnly n s, State.setRegs_out, mapIdle_out]

variable {n s}

theorem detached_map (hs : s.regsWf) (hn : n < 16) : (detached n s).get (F.TSB_PT_STAT_STATE n) = 0 :=
  ((dropRequests_writes n (mapIdle n s)).port hn F.TSB_PT_STAT_STATE (by decide)).trans (mapIdle_state n hs)

theorem detached_ended (hs : s.regsWf) {k : Nat} (hk : k < 4) : Ended n k s (detached n s) := by
  have hne : (F.JXL_P_REQ_BUSY n k).off ∉ [(F.TSB_PT_STAT_STATE n).off] := by
    rw [List.mem_singleton]
    simp only [F.JXL_P_REQ_BUSY, F.TSB_PT_STAT_STATE]
    omega
  have hend := dropRequests_ended (n := n) ((mapIdle_writes n s).wf hs) hk
  exact ⟨hend.1, fun hb => hend.2 (((mapIdle_writes n s).flag hne).trans hb)⟩

end Detached

/-! ### A port goes to OFF (R153) -/

/-- The registers of a port that goes to OFF. -/
def offRegs (n : Nat) : List Nat := (F.JXL_P_STAT_STATE n).off :: detachRegs n

theorem lossCause_ok (n : Nat) : (F.JXL_P_STAT_CAUSE n).ok := fld_ok _ (by decide)

section PortOff

variable (n : Nat) (s : State)

theorem portOff_eq : portOff n s = ((detached n s).clear (F.JXL_P_STAT_STATE n)).clear (F.JXL_P_STAT_SYNCED n) := rfl

theorem detached_writes_offRegs : s.Writes (offRegs n) (detached n s) := (detached_writes n s).mono (List.subset_cons_self _ _)

theorem portOff_writes : s.Writes (offRegs n) (portOff n s) :=
  ((detached_writes_offRegs n s).set (f := F.JXL_P_STAT_STATE n) (.head _) 0).set (f := F.JXL_P_STAT_SYNCED n) (.head _) 0

@[simp] theorem portOff_jxl : (portOff n s).jxl = s.jxl := by rw [portOff_eq, State.clear_jxl, State.clear_jxl, detached_jxl]
@[simp] theorem portOff_ppc : (portOff n s).ppc = s.ppc := by rw [portOff_eq, State.clear_ppc, State.clear_ppc, detached_ppc]
@[simp] theorem portOff_out : (portOff n s).out = s.out := by rw [portOff_eq, State.clear_out, State.clear_out, detached_out]

variable {n s} (hs : s.regsWf)
include hs

theorem portOff_link : (portOff n s).link n = 0 := by
  have hwf := (detached_writes n s).wf hs
  rw [State.link, portOff_eq, State.clear, State.get_set_ne (State.clear_regsWf hwf _) _ _ _ (synced_ok n) (.inr (.inr (by decide : 2 < 9))),
    State.get_clear_same hwf _ (linkState_ok n)]

/-- The cause of the loss stays. -/
theorem portOff_cause (hn : n < 16) : (portOff n s).get (F.JXL_P_STAT_CAUSE n) = s.get (F.JXL_P_STAT_CAUSE n) := by
  have hwf := (detached_writes n s).wf hs
  rw [portOff_eq, State.clear, State.get_set_ne (State.clear_regsWf hwf _) _ _ _ (synced_ok n) (.inr (.inr (by decide : 6 < 9))),
    State.clear, State.get_set_ne hwf _ (F.JXL_P_STAT_CAUSE n) _ (linkState_ok n) (.inr (.inl (by decide : 2 < 3))),
    (detached_writes n s).port hn F.JXL_P_STAT_CAUSE (by decide)]

end PortOff

/-! ### The power channel goes off (05 R190, R202 to R205) -/

theorem State.ch_setCh_same {s : State} {n : Nat} (h : n < s.ppc.length) (c : Chan) : (s.setCh n c).ch n = c :=
  getD_set_same _ _ _ _ h

@[simp] theorem State.setCh_ppc_length (s : State) (n : Nat) (c : Chan) : (s.setCh n c).ppc.length = s.ppc.length := List.length_set

theorem State.Sized.chan_lt {s : State} (hs : s.Sized) {n : Nat} (h : n < 16) : n < s.ppc.length := by
  rw [hs.ppc]
  omega

/-- The registers of a channel that goes off: the watts in use and its status. -/
def chanRegs (n : Nat) : List Nat := [F.PPC_GLB_STAT.off, (F.PPC_CH_STAT_STATE n).off]

theorem chState_ok (n : Nat) : (F.PPC_CH_STAT_STATE n).ok := fld_ok _ (by decide)
theorem chCause_ok (n : Nat) : (F.PPC_CH_STAT_CAUSE n).ok := fld_ok _ (by decide)
theorem chLimiting_ok (n : Nat) : (F.PPC_CH_STAT_LIMITING n).ok := bit_ok _ (by decide)
theorem chPg_ok (n : Nat) : (F.PPC_CH_STAT_PG n).ok := bit_ok _ (by decide)

/-- What giving back a class leaves: either nothing was granted, or the watts and the class are given back and nothing waits. -/
theorem ungrant_cases (n : Nat) (s : State) : ungrant n s = s ∨
    ungrant n s = ((((s.set F.PPC_GLB_STAT (s.get F.PPC_GLB_STAT - classWatts (s.get (F.PPC_CH_STAT_CLASS n)))).clear
      (F.PPC_CH_STAT_CLASS n)).setCh n { s.ch n with waiting := false }).setJp n { s.jp n with granted := false }) := by
  rw [ungrant]
  split
  · exact .inr rfl
  · exact .inl rfl

section Channel

variable (n : Nat) (s : State)

theorem ungrant_writes : s.Writes (chanRegs n) (ungrant n s) := by
  rcases ungrant_cases n s with h | h
  · rw [h]
    exact .refl s _
  · rw [h]
    exact ((((State.Writes.refl s _).set (f := F.PPC_GLB_STAT) (.head _) _).set (f := F.PPC_CH_STAT_CLASS n) (.tail _ (.head _)) 0).of_regs
      (State.setCh_regs _ _ _)).of_regs (State.setJp_regs _ _ _)

theorem ungrant_out : (ungrant n s).out = s.out := by
  rcases ungrant_cases n s with h | h
  · rw [h]
  · rw [h, State.setJp_out, State.setCh_out, State.clear_out, State.set_out]

theorem ungrant_ppc_length : (ungrant n s).ppc.length = s.ppc.length := by
  rcases ungrant_cases n s with h | h
  · rw [h]
  · rw [h, State.setJp_ppc, State.setCh_ppc_length, State.clear_ppc, State.set_ppc]

theorem ungrant_buf {n : Nat} {s : State} (hn : n < s.jxl.length) : ((ungrant n s).jp n).buf = (s.jp n).buf := by
  rcases ungrant_cases n s with h | h
  · rw [h]
  · rw [h, State.jp_setJp_same (by rwa [State.setCh_jxl, State.clear_jxl, State.set_jxl])]

variable (st cause : Nat)

/-- The channel's gates are off: what its status shows beside the class. -/
theorem chanOff_eq : chanOff n st cause s = ((((ungrant n s).set (F.PPC_CH_STAT_STATE n) st).set (F.PPC_CH_STAT_CAUSE n) cause).clear
    (F.PPC_CH_STAT_LIMITING n)).clear (F.PPC_CH_STAT_PG n) := rfl

theorem chanOff_writes : s.Writes (chanRegs n) (chanOff n st cause s) :=
  ((((ungrant_writes n s).set (f := F.PPC_CH_STAT_STATE n) (.tail _ (.head _)) st).set (f := F.PPC_CH_STAT_CAUSE n) (.tail _ (.head _))
    cause).set (f := F.PPC_CH_STAT_LIMITING n) (.tail _ (.head _)) 0).set (f := F.PPC_CH_STAT_PG n) (.tail _ (.head _)) 0

variable {n s st cause}

theorem chanOff_status (hs : s.regsWf) (hst : st < 16) (hcause : cause < 16) : (chanOff n st cause s).chState n = st ∧
    (chanOff n st cause s).get (F.PPC_CH_STAT_CAUSE n) = cause := by
  have hgrant := (ungrant_writes n s).wf hs
  have hstate := State.set_regsWf hgrant (F.PPC_CH_STAT_STATE n) st
  have hwf := State.set_regsWf hstate (F.PPC_CH_STAT_CAUSE n) cause
  have hlim := State.clear_regsWf hwf (F.PPC_CH_STAT_LIMITING n)
  have keep (f : Fld) (hl : (F.PPC_CH_STAT_LIMITING n).apart f) (hp : (F.PPC_CH_STAT_PG n).apart f) : (chanOff n st cause s).get f =
      (((ungrant n s).set (F.PPC_CH_STAT_STATE n) st).set (F.PPC_CH_STAT_CAUSE n) cause).get f := by
    rw [chanOff_eq, State.clear, State.get_set_ne hlim _ f _ (chPg_ok n) hp, State.clear, State.get_set_ne hwf _ f _ (chLimiting_ok n) hl]
  refine ⟨?_, ?_⟩
  · rw [State.chState, keep (F.PPC_CH_STAT_STATE n) (.inr (.inr (by decide : 3 < 20))) (.inr (.inr (by decide : 3 < 21))),
      State.get_set_ne hstate _ _ _ (chCause_ok n) (.inr (.inr (by decide : 3 < 4)))]
    exact State.get_set_fits hgrant _ (chState_ok n) hst
  · rw [keep (F.PPC_CH_STAT_CAUSE n) (.inr (.inr (by decide : 7 < 20))) (.inr (.inr (by decide : 7 < 21)))]
    exact State.get_set_fits hstate _ (chCause_ok n) hcause

end Channel

section Cooldown

variable (n exit cause : Nat) (s : State)

theorem cooldown_writes : s.Writes (chanRegs n) (cooldown n exit cause s) := (chanOff_writes n s 6 cause).of_regs (State.setCh_regs _ _ _)

theorem cooldown_out : (cooldown n exit cause s).out = s.out := by
  rw [cooldown, State.setCh_out, chanOff_eq, State.clear_out, State.clear_out, State.set_out, State.set_out, ungrant_out]

variable {n s cause}

theorem cooldown_status (hs : s.regsWf) (hcause : cause < 16) : (cooldown n exit cause s).chState n = 6 ∧
    (cooldown n exit cause s).get (F.PPC_CH_STAT_CAUSE n) = cause := by
  rw [cooldown, State.chState, State.setCh_get, State.setCh_get]
  exact chanOff_status hs (by decide) hcause

theorem cooldown_exit (hn : n < s.ppc.length) : ((cooldown n exit cause s).ch n).exit = exit := by
  have hlen : n < (chanOff n 6 cause s).ppc.length := by
    rwa [chanOff_eq, State.clear_ppc, State.clear_ppc, State.set_ppc, State.set_ppc, ungrant_ppc_length]
  rw [cooldown, State.ch_setCh_same hlen]

theorem cooldown_buf (hn : n < s.jxl.length) : ((cooldown n exit cause s).jp n).buf = (s.jp n).buf := by
  rw [cooldown, State.jp_eq_of_jxl (State.setCh_jxl _ _ _), chanOff_eq, State.clear_jp, State.clear_jp, State.set_jp, State.set_jp,
    ungrant_buf hn]

end Cooldown

/-! ### A step is aborted (05 R202) -/

/-- The registers of a channel whose step is aborted. -/
def abortRegs (n : Nat) : List Nat := (F.PPC_CH_ABORTS n).off :: (F.PPC_CH_IRQ_ABORT n).off :: chanRegs n

section Abort

variable (n cause : Nat) (s : State)

/-- The abort is counted and reported before the channel cools down. -/
def abortNoted : State := (s.inc (F.PPC_CH_ABORTS n)).raise (F.PPC_CH_IRQ_ABORT n)

theorem chanAbort_eq : chanAbort n cause s = (cooldown n 1 cause (abortNoted n s)).bench .ppcAbort n := rfl

theorem abortNoted_writes : s.Writes (abortRegs n) (abortNoted n s) :=
  ((State.Writes.refl s _).set (f := F.PPC_CH_ABORTS n) (.head _) _).set (f := F.PPC_CH_IRQ_ABORT n) (.tail _ (.head _)) 1

theorem chanAbort_writes : s.Writes (abortRegs n) (chanAbort n cause s) :=
  ((abortNoted_writes n s).trans ((cooldown_writes n 1 cause _).mono (fun _ h => .tail _ (.tail _ h)))).of_regs (State.bench_regs _ _ _)

variable {n cause s} (hs : s.regsWf)
include hs

theorem chanAbort_status (hcause : cause < 16) : (chanAbort n cause s).chState n = 6 ∧
    (chanAbort n cause s).get (F.PPC_CH_STAT_CAUSE n) = cause := by
  obtain ⟨hst, hca⟩ := cooldown_status (n := n) 1 ((abortNoted_writes n s).wf hs) hcause
  rw [chanAbort_eq, State.chState, State.bench_get, State.bench_get]
  exact ⟨hst, hca⟩

theorem chanAbort_irq (hn : n < 16) : (chanAbort n cause s).flag (F.PPC_CH_IRQ_ABORT n) = true := by
  rw [chanAbort_eq, State.bench_flag, (cooldown_writes n 1 cause _).flagPort hn F.PPC_CH_IRQ_ABORT (by decide), abortNoted]
  exact State.flag_raise (State.inc_regsWf hs _) _ (bit_ok _ (by decide))

omit hs in
theorem chanAbort_exit (hn : n < s.ppc.length) : ((chanAbort n cause s).ch n).exit = 1 := by
  have hlen : n < (abortNoted n s).ppc.length := by rwa [abortNoted, State.raise_ppc, State.inc_ppc]
  rw [chanAbort_eq, State.ch, State.bench_ppc, ← State.ch, cooldown_exit 1 hlen]

end Abort

/-! ### A loss (R150, R152) -/

theorem mapReg_ne_status (n : Nat) : (F.TSB_PT_STAT_STATE n).off ≠ (F.JXL_P_STAT_STATE n).off := by
  simp only [F.TSB_PT_STAT_STATE, F.JXL_P_STAT_STATE]
  omega

/-- The registers in which a loss is recorded and counted. -/
def countRegs (n : Nat) : List Nat := [(F.JXL_P_LOST_CNT n).off, (F.JXL_P_STAT_STATE n).off]

/-- The registers of a loss. -/
def lossRegs (n : Nat) : List Nat := (F.JXL_P_LOST_CNT n).off :: offRegs n

/-- The loss is recorded, counted and reported. -/
def lossCounted (n cause : Nat) (s : State) : State :=
  (((s.set (F.JXL_P_STAT_CAUSE n) cause).inc (F.JXL_P_LOST_CNT n)).bench .portLost n).owe 0x06 n cause

/-- A loss, but for the link state it leads to. -/
def lossNoted (n cause : Nat) (s : State) : State := (detached n (lossCounted n cause s)).clear (F.JXL_P_STAT_SYNCED n)

section Loss

variable (n cause : Nat) (s : State)

@[simp] theorem State.owe_get (source index data : Nat) (f : Fld) : (s.owe source index data).get f = s.get f := (rfl)

theorem lossCounted_writes : s.Writes (countRegs n) (lossCounted n cause s) :=
  ((((State.Writes.refl s _).set (f := F.JXL_P_STAT_CAUSE n) (.tail _ (.head _)) cause).set (f := F.JXL_P_LOST_CNT n) (.head _) _).of_regs
    (State.bench_regs _ _ _)).of_regs (State.setHst_regs _ _)

theorem countRegs_subset : countRegs n ⊆ lossRegs n :=
  List.cons_subset_cons _ (List.cons_subset_cons _ (List.nil_subset _))

theorem lossNoted_writes : s.Writes (lossRegs n) (lossNoted n cause s) :=
  (((lossCounted_writes n cause s).mono (countRegs_subset n)).trans ((detached_writes n _).mono fun _ h => .tail _ (.tail _ h))).set
    (f := F.JXL_P_STAT_SYNCED n) (.tail _ (.head _)) 0

theorem lossCounted_out : (lossCounted n cause s).out = .bench .portLost n :: s.out := by
  rw [lossCounted, State.owe, State.setHst_out, State.bench, State.emit_out, State.inc_out, State.set_out]

@[simp] theorem lossNoted_jxl : (lossNoted n cause s).jxl = s.jxl := by
  rw [lossNoted, State.clear_jxl, detached_jxl, lossCounted, State.owe, State.setHst_jxl, State.bench_jxl, State.inc_jxl, State.set_jxl]

@[simp] theorem lossNoted_ppc : (lossNoted n cause s).ppc = s.ppc := by
  rw [lossNoted, State.clear_ppc, detached_ppc, lossCounted, State.owe, State.setHst_ppc, State.bench_ppc, State.inc_ppc, State.set_ppc]

theorem lossNoted_out : (lossNoted n cause s).out = .bench .portLost n :: s.out := by
  rw [lossNoted, State.clear_out, detached_out, lossCounted_out]

variable {n cause s} (hs : s.regsWf) (hn : n < 16)
include hs

theorem lossNoted_synced : (lossNoted n cause s).flag (F.JXL_P_STAT_SYNCED n) = false :=
  State.flag_clear ((detached_writes n _).wf ((lossCounted_writes n cause s).wf hs)) _ (synced_ok n)

include hn

theorem lossNoted_cause (hcause : cause < 16) : (lossNoted n cause s).get (F.JXL_P_STAT_CAUSE n) = cause := by
  rw [lossNoted, State.clear, State.get_set_ne ((detached_writes n _).wf ((lossCounted_writes n cause s).wf hs)) _ _ _ (synced_ok n)
      (.inr (.inr (by decide : 6 < 9))), (detached_writes n _).port hn F.JXL_P_STAT_CAUSE (by decide), lossCounted, State.owe_get,
    State.bench_get, State.get_inc_of_off_ne _ _ _ (jxlReg_ne (by decide) n)]
  exact State.get_set_fits hs _ (lossCause_ok n) hcause

theorem lossNoted_count : (lossNoted n cause s).get (F.JXL_P_LOST_CNT n) = min (2 ^ 32 - 1) (s.get (F.JXL_P_LOST_CNT n) + 1) := by
  rw [lossNoted, State.clear, State.get_set_of_off_ne _ _ _ _ (jxlReg_ne (by decide) n),
    (detached_writes n _).port hn F.JXL_P_LOST_CNT (by decide), lossCounted, State.owe_get, State.bench_get,
    State.get_inc_same (State.set_regsWf hs _ _) (F.JXL_P_LOST_CNT n) (word_ok _), State.get_set_of_off_ne _ _ _ _ (jxlReg_ne (by decide) n)]
  rfl

theorem lossNoted_map : (lossNoted n cause s).get (F.TSB_PT_STAT_STATE n) = 0 := by
  rw [lossNoted, State.clear, State.get_set_of_off_ne _ (F.JXL_P_STAT_SYNCED n) _ _ (mapReg_ne_status n),
    detached_map ((lossCounted_writes n cause s).wf hs) hn]

omit hs hn in
theorem reqReg_not_counted (n k : Nat) : (F.JXL_P_REQ_BUSY n k).off ∉ countRegs n := by
  simp only [countRegs, F.JXL_P_REQ_BUSY, F.JXL_P_STAT_STATE, F.JXL_P_LOST_CNT, List.mem_cons, List.not_mem_nil, or_false]
  omega

omit hn in
theorem lossNoted_ended {k : Nat} (hk : k < 4) : Ended n k s (lossNoted n cause s) := by
  have hcount := lossCounted_writes n cause s
  have hend := (detached_ended (n := n) (hcount.wf hs) hk).writes (l := countRegs n)
    ((State.Writes.refl _ _).set (f := F.JXL_P_STAT_SYNCED n) (.tail _ (.head _)) 0) (reqReg_not_counted n k)
  exact ⟨hend.1, fun hb => hend.2 ((hcount.flag (reqReg_not_counted n k)).trans hb)⟩

end Loss

/-! ### The three ways a loss goes -/

section PortLost

variable {n cause : Nat} {s : State}

/-- R152: with no step in progress the port is in LOST, with three RESET_HEAD to send. -/
theorem portLost_of_link (hst : s.chState n ≠ 4) (h7 : cause ≠ 7) (h8 : cause ≠ 8) : portLost n cause s =
    ((lossNoted n cause s).set (F.JXL_P_STAT_STATE n) 5).setJp n { (lossNoted n cause s).jp n with resets := 3 } := by
  simp [portLost, hst, h7, h8, lossNoted, lossCounted, detached]

/-- R202: in STEP the step is aborted, and the port goes to OFF. -/
theorem portLost_of_step (hst : s.chState n = 4) (h8 : cause ≠ 8) :
    portLost n cause s = portOff n (lossNoted n 7 (chanAbort n 5 s)) := by
  simp [portLost, hst, h8, lossNoted, lossCounted, detached]

/-- R153: a port that is disabled goes to OFF. -/
theorem portLost_disabled (n : Nat) (s : State) : portLost n 8 s = portOff n (lossNoted n 8 s) := by
  simp [portLost, lossNoted, lossCounted, detached]

theorem portLost_link_writes (hst : s.chState n ≠ 4) (h7 : cause ≠ 7) (h8 : cause ≠ 8) : s.Writes (lossRegs n) (portLost n cause s) := by
  rw [portLost_of_link hst h7 h8]
  exact ((lossNoted_writes n cause s).set (f := F.JXL_P_STAT_STATE n) (.tail _ (.head _)) 5).of_regs (State.setJp_regs _ _ _)

theorem portLost_link_status (hs : s.regsWf) (hn : n < 16) (hst : s.chState n ≠ 4) (h7 : cause ≠ 7) (h8 : cause ≠ 8) (hc : cause < 16) :
    (portLost n cause s).link n = 5 ∧ (portLost n cause s).get (F.JXL_P_STAT_CAUSE n) = cause ∧
    (portLost n cause s).flag (F.JXL_P_STAT_SYNCED n) = false := by
  have hwf := (lossNoted_writes n cause s).wf hs
  rw [portLost_of_link hst h7 h8]
  refine ⟨?_, ?_, ?_⟩
  · rw [State.setJp_link, State.link, State.get_set_fits hwf _ (linkState_ok n) (by decide : 5 < 2 ^ 3)]
  · rw [State.setJp_get, State.get_set_ne hwf _ (F.JXL_P_STAT_CAUSE n) _ (linkState_ok n) (.inr (.inl (by decide : 2 < 3))),
      lossNoted_cause hs hn hc]
  · rw [State.setJp_flag, State.flag_set_ne hwf _ (F.JXL_P_STAT_SYNCED n) _ (linkState_ok n) (.inr (.inl (by decide : 2 < 9))),
      lossNoted_synced hs]

end PortLost

end Sys2Proof.Machine

/-!
PROOF. Packets (04 R144, R151, R157, R160, R164, R189): what each kind does behind the count of a good packet, and `JexlinkPackets`.
-/

namespace Sys2Proof.Machine

theorem exec_events (n seq : Nat) (ws : List Word) (s : State) : exec (.events n seq ws) s = execEvents n seq ws s := rfl
theorem exec_anchor (n seq a : Nat) (s : State) : exec (.anchor n seq a) s = execAnchor n seq a s := rfl
theorem exec_hello (n seq version vendor model w h serial : Nat) (s : State) :
    exec (.hello n seq version vendor model w h serial) s = execHello n seq version vendor model w h serial s := rfl
theorem exec_keepalive (n seq headDrop used : Nat) (s : State) :
    exec (.keepalive n seq headDrop used) s = execKeepalive n seq headDrop used s := rfl
theorem exec_pwrReq (n seq c : Nat) (s : State) : exec (.pwrReq n seq c) s = execPwrReq n seq c s := rfl
theorem exec_cfgAck (n seq v : Nat) (s : State) : exec (.cfgAck n seq v) s = execCfgAck n seq v s := rfl
theorem exec_regresp (n seq tag result : Nat) (data : Word) (s : State) :
    exec (.regresp n seq tag result data) s = execRegresp n seq tag result data s := rfl

/-! ### Events and anchors -/

/-- The port after a packet of cost `c`. -/
def JPort.spend (j : JPort) (c : Nat) : JPort := { j with spent := (j.spent + c) % 65536 }

/-- Port time at a wire event word (04, on_word). -/
def JPort.timeAt (j : JPort) (w : Word) : Nat := (j.p + w.toNat % 1024) % 2 ^ 48

/-- The event of a wire word at port time `p` under map `m`. -/
def wordEv (m : PortMap) (p : Nat) (w : Word) : Ev :=
  ⟨w.toNat / 2 ^ 21, w.toNat / 2 ^ 11 % 1024, bitOf w.toNat 10, 0, m.stamp p, false⟩

section Events

variable {s : State} {n : Nat}

theorem spendCredits_of_room {c m : Nat} (hlimit : c ≤ ((s.jp n).limit + 65536 - (s.jp n).spent) % 65536)
    (hroom : (s.jp n).buf.length + m ≤ 32768) : spendCredits n c m s = (s.setJp n ((s.jp n).spend c), true) := by
  rw [spendCredits, if_neg (Nat.not_lt.2 hlimit), if_neg (Nat.not_lt.2 hroom)]
  rfl

theorem spendCredits_of_excess {c : Nat} (m : Nat) (hlimit : ((s.jp n).limit + 65536 - (s.jp n).spent) % 65536 < c) :
    spendCredits n c m s = (((s.setJp n ((s.jp n).spend c)).inc (F.JXL_P_CREDIT_VIOL n)).clear (F.JXL_P_STAT_SYNCED n), false) := by
  rw [spendCredits, if_pos hlimit]
  rfl

/-- R65, R144: a word in range on a synchronised, mapped port. -/
theorem onWord_in_range {w : Word} (hn : n < s.jxl.length) (hsync : s.flag (F.JXL_P_STAT_SYNCED n) = true)
    (hmap : s.get (F.TSB_PT_STAT_STATE n) = 2 ∨ s.get (F.TSB_PT_STAT_STATE n) = 3) (hx : w.toNat / 2 ^ 21 ≤ s.get (F.JXL_P_GEOM_WIDTH1 n))
    (hy : w.toNat / 2 ^ 11 % 1024 ≤ s.get (F.JXL_P_GEOM_HEIGHT1 n)) : onWord n s w =
    (s.setJp n { s.jp n with p := (s.jp n).timeAt w, buf := (s.jp n).buf ++ [wordEv (s.pmap n) ((s.jp n).timeAt w) w] }).inc
      (F.JXL_P_EV_IN n) := by
  have hrange : ¬(s.get (F.JXL_P_GEOM_WIDTH1 n) < w.toNat / 2 ^ 21 ∨ s.get (F.JXL_P_GEOM_HEIGHT1 n) < w.toNat / 2 ^ 11 % 1024) := by omega
  simp only [onWord, hsync, Bool.not_true, Bool.false_eq_true, if_false, State.setJp_get, if_neg hrange, bufferPut, if_pos hmap,
    State.setJp_setJp, State.jp_setJp_same hn, State.setJp_pmap, JPort.timeAt, wordEv]

/-- One word within LIMIT. -/
theorem events_single {w : Word} (hn : n < s.jxl.length) (hlink : s.link n = 4) (hsync : s.flag (F.JXL_P_STAT_SYNCED n) = true)
    (hmap : s.get (F.TSB_PT_STAT_STATE n) = 2 ∨ s.get (F.TSB_PT_STAT_STATE n) = 3) (hx : w.toNat / 2 ^ 21 ≤ s.get (F.JXL_P_GEOM_WIDTH1 n))
    (hy : w.toNat / 2 ^ 11 % 1024 ≤ s.get (F.JXL_P_GEOM_HEIGHT1 n)) (hlimit : 1 ≤ ((s.jp n).limit + 65536 - (s.jp n).spent) % 65536)
    (hroom : (s.jp n).buf.length < 32768) : events n [w] s =
    (s.setJp n { (s.jp n).spend 1 with p := (s.jp n).timeAt w,
                                       buf := (s.jp n).buf ++ [wordEv (s.pmap n) ((s.jp n).timeAt w) w] }).inc (F.JXL_P_EV_IN n) := by
  have hcost : ceilDiv [w].length 64 = 1 := (by decide : ceilDiv 1 64 = 1)
  rw [events, if_neg (not_not.2 hlink), hcost, spendCredits_of_room hlimit hroom]
  dsimp only [List.foldl_cons, List.foldl_nil]
  rw [if_pos rfl, onWord_in_range (s := s.setJp n _) (by rwa [State.setJp_jxl_length]) hsync hmap hx hy,
    State.jp_setJp_same hn, State.setJp_setJp]
  rfl

/-- R160: a packet beyond LIMIT. -/
theorem events_of_excess {ws : List Word} (hlink : s.link n = 4)
    (hlimit : ((s.jp n).limit + 65536 - (s.jp n).spent) % 65536 < ceilDiv ws.length 64) : events n ws s =
    ((s.setJp n ((s.jp n).spend (ceilDiv ws.length 64))).inc (F.JXL_P_CREDIT_VIOL n)).clear (F.JXL_P_STAT_SYNCED n) := by
  rw [events, if_neg (not_not.2 hlink), spendCredits_of_excess _ hlimit]
  exact if_neg Bool.false_ne_true

/-- R66: an ANCHOR synchronises the port. -/
theorem anchor_of_unsynced {a : Nat} (hn : n < s.jxl.length) (hlink : s.link n = 4) (hsync : s.flag (F.JXL_P_STAT_SYNCED n) = false)
    (hlimit : 1 ≤ ((s.jp n).limit + 65536 - (s.jp n).spent) % 65536) (hroom : (s.jp n).buf.length ≤ 32768) :
    anchor n a s = (s.setJp n { (s.jp n).spend 1 with p := a % 2 ^ 48 }).raise (F.JXL_P_STAT_SYNCED n) := by
  simp only [anchor, hlink, ne_eq, not_true_eq_false, if_false, spendCredits_of_room (m := 0) hlimit hroom, Bool.not_true, Bool.false_eq_true,
    State.setJp_flag, hsync, Bool.false_and, State.jp_setJp_same hn, State.setJp_setJp]

/-- R66: a jump back of more than 1 s. -/
theorem anchor_of_jump_back {a : Nat} (hn : n < s.jxl.length) (hlink : s.link n = 4) (hsync : s.flag (F.JXL_P_STAT_SYNCED n) = true)
    (hback : a + 1000000 < (s.jp n).p) (hlimit : 1 ≤ ((s.jp n).limit + 65536 - (s.jp n).spent) % 65536)
    (hroom : (s.jp n).buf.length ≤ 32768) :
    anchor n a s = (mapIdle n (s.setJp n ((s.jp n).spend 1))).clear (F.JXL_P_STAT_SYNCED n) := by
  have hp : ((s.jp n).spend 1).p = (s.jp n).p := rfl
  simp only [anchor, hlink, ne_eq, not_true_eq_false, if_false, spendCredits_of_room (m := 0) hlimit hroom, Bool.not_true, Bool.false_eq_true,
    State.setJp_flag, hsync, Bool.true_and, State.jp_setJp_same hn, hp, hback, decide_true, if_true]

end Events

/-! ### HELLO -/

/-- The registers that show the identity of the camera. -/
def identityRegs (n : Nat) : List Nat :=
  [(F.JXL_P_ID0_VERSION n).off, (F.JXL_P_ID1 n).off, (F.JXL_P_SERIAL_LO n).off, (F.JXL_P_SERIAL_HI n).off, (F.JXL_P_GEOM_WIDTH1 n).off]

/-- The identity that a HELLO gives is shown. -/
def identityShown (n version vendor model w h serial : Nat) (s : State) : State :=
  let s := (s.set (F.JXL_P_ID0_VERSION n) version).set (F.JXL_P_ID0_VENDOR n) vendor
  let s := (s.set (F.JXL_P_ID1 n) model).set64 (F.JXL_P_SERIAL_LO n) (F.JXL_P_SERIAL_HI n) serial
  (s.set (F.JXL_P_GEOM_WIDTH1 n) w).set (F.JXL_P_GEOM_HEIGHT1 n) h

section Hello

variable {n version vendor model w h serial : Nat} {s : State}

theorem identityShown_writes (n version vendor model w h serial : Nat) (s : State) :
    s.Writes (identityRegs n) (identityShown n version vendor model w h serial s) :=
  (((((((State.Writes.refl s _).set (f := F.JXL_P_ID0_VERSION n) (.head _) _).set (f := F.JXL_P_ID0_VENDOR n) (.head _) _).set
    (f := F.JXL_P_ID1 n) (.tail _ (.head _)) _).set (f := F.JXL_P_SERIAL_LO n) (.tail _ (.tail _ (.head _))) _).set
    (f := F.JXL_P_SERIAL_HI n) (.tail _ (.tail _ (.tail _ (.head _)))) _).set
    (f := F.JXL_P_GEOM_WIDTH1 n) (.tail _ (.tail _ (.tail _ (.tail _ (.head _))))) _).set
    (f := F.JXL_P_GEOM_HEIGHT1 n) (.tail _ (.tail _ (.tail _ (.tail _ (.head _))))) _

theorem identityShown_values (hs : s.regsWf) (hvendor : vendor < 2 ^ 16) (hmodel : model < 2 ^ 16) (hw : w < 2048) (hh : h < 1024) :
    let t := identityShown n version vendor model w h serial s
    t.get (F.JXL_P_ID0_VENDOR n) = vendor ∧ t.get (F.JXL_P_ID1 n) = model ∧ t.get (F.JXL_P_GEOM_WIDTH1 n) = w ∧
    t.get (F.JXL_P_GEOM_HEIGHT1 n) = h ∧ t.get64 (F.JXL_P_SERIAL_LO n) (F.JXL_P_SERIAL_HI n) = serial % 2 ^ 64 := by
  have hversion := State.set_regsWf hs (F.JXL_P_ID0_VERSION n) version
  have hid0 := State.set_regsWf hversion (F.JXL_P_ID0_VENDOR n) vendor
  have hid1 := State.set_regsWf hid0 (F.JXL_P_ID1 n) model
  have hserial := State.set64_regsWf hid1 (F.JXL_P_SERIAL_LO n) (F.JXL_P_SERIAL_HI n) serial
  have hwidth := State.set_regsWf hserial (F.JXL_P_GEOM_WIDTH1 n) w
  have later {s : State} (f : Fld) (hlo : f.off ≠ (F.JXL_P_SERIAL_LO n).off) (hhi : f.off ≠ (F.JXL_P_SERIAL_HI n).off)
      (hg : f.off ≠ (F.JXL_P_GEOM_WIDTH1 n).off) : (((s.set64 (F.JXL_P_SERIAL_LO n) (F.JXL_P_SERIAL_HI n) serial).set
        (F.JXL_P_GEOM_WIDTH1 n) w).set (F.JXL_P_GEOM_HEIGHT1 n) h).get f = s.get f := by
    rw [State.get_set_of_off_ne _ (F.JXL_P_GEOM_HEIGHT1 n) _ _ hg, State.get_set_of_off_ne _ _ _ _ hg, State.set64,
      State.get_set_of_off_ne _ _ _ _ hhi, State.get_set_of_off_ne _ _ _ _ hlo]
  simp only [identityShown]
  refine ⟨?_, ?_, ?_, ?_, ?_⟩
  · rw [later _ (jxlReg_ne (by decide) n) (jxlReg_ne (by decide) n) (jxlReg_ne (by decide) n),
      State.get_set_of_off_ne _ _ _ _ (jxlReg_ne (by decide) n)]
    exact State.get_set_fits hversion (F.JXL_P_ID0_VENDOR n) (fld_ok _ (by decide)) hvendor
  · rw [later _ (jxlReg_ne (by decide) n) (jxlReg_ne (by decide) n) (jxlReg_ne (by decide) n)]
    exact State.get_set_fits hid0 (F.JXL_P_ID1 n) (fld_ok _ (by decide)) hmodel
  · rw [State.get_set_ne hwidth (F.JXL_P_GEOM_HEIGHT1 n) (F.JXL_P_GEOM_WIDTH1 n) _ (fld_ok _ (by decide)) (.inr (.inr (by decide : 10 < 16)))]
    exact State.get_set_fits hserial (F.JXL_P_GEOM_WIDTH1 n) (fld_ok _ (by decide)) hw
  · exact State.get_set_fits hwidth (F.JXL_P_GEOM_HEIGHT1 n) (fld_ok _ (by decide)) hh
  · rw [State.get64_set_of_off_ne _ _ _ _ _ (jxlReg_ne (by decide) n) (jxlReg_ne (by decide) n),
      State.get64_set_of_off_ne _ _ _ _ _ (jxlReg_ne (by decide) n) (jxlReg_ne (by decide) n)]
    exact State.get64_set64 hid1 _ _ 31 serial (jxlReg_ne (by decide) n) (by decide)

theorem identityShown_jp (m : Nat) : (identityShown n version vendor model w h serial s).jp m = s.jp m :=
  State.jp_eq_of_jxl (by simp [identityShown]) m

@[simp] theorem identityShown_out : (identityShown n version vendor model w h serial s).out = s.out := by simp [identityShown]

/-- The third HELLO in TRAIN. -/
theorem hello_third (hlink : s.link n = 1) (hhellos : (s.jp n).hellos = 2) : hello n version vendor model w h serial s =
    if version ≠ 1 ∨ 2047 < w ∨ 1023 < h then
      portLost n 5 ((identityShown n version vendor model w h serial s).setJp n { s.jp n with hellos := 3 })
    else back n 0x08 [BitVec.ofNat 8 n]
      (((identityShown n version vendor model w h serial s).setJp n { s.jp n with hellos := 3 }).set (F.JXL_P_STAT_STATE n) 2) := by
  have hjp : (identityShown n version vendor model w h serial s).jp n = s.jp n := identityShown_jp n
  simp only [identityShown] at hjp ⊢
  simp only [hello, hlink, hjp, hhellos, if_true, Bool.or_eq_true, decide_eq_true_eq, or_assoc]
  rfl

/-- R151: the third good HELLO shows the identity and takes the port to IDENT, which sends CONFIG. -/
theorem hello_identifies (hs : s.regsWf) (hlink : s.link n = 1) (hhellos : (s.jp n).hellos = 2) (hw : w < 2048) (hh : h < 1024)
    (hvendor : vendor < 2 ^ 16) (hmodel : model < 2 ^ 16) :
    let t := hello n 1 vendor model w h serial s
    t.link n = 2 ∧ t.get (F.JXL_P_ID0_VENDOR n) = vendor ∧ t.get (F.JXL_P_ID1 n) = model ∧ t.get (F.JXL_P_GEOM_WIDTH1 n) = w ∧
    t.get (F.JXL_P_GEOM_HEIGHT1 n) = h ∧ t.get64 (F.JXL_P_SERIAL_LO n) (F.JXL_P_SERIAL_HI n) = serial % 2 ^ 64 ∧
    t.out = .back n 0x08 [BitVec.ofNat 8 n] :: s.out := by
  have hgood : ¬((1 : Nat) ≠ 1 ∨ 2047 < w ∨ 1023 < h) := by omega
  have hshown := State.setJp_regsWf ((identityShown_writes n 1 vendor model w h serial s).wf hs) n { s.jp n with hellos := 3 }
  obtain ⟨hv, hm, hwid, hhei, hser⟩ := identityShown_values (n := n) (version := 1) (serial := serial) hs hvendor hmodel hw hh
  have keep (f : Fld) (hf : f.off ≠ (F.JXL_P_STAT_STATE n).off) (u : State) (b : List Byte) (j : JPort) :
      (back n 0x08 b ((u.setJp n j).set (F.JXL_P_STAT_STATE n) 2)).get f = u.get f := by
    rw [back, State.emit_get, State.get_set_of_off_ne _ _ _ _ hf, State.setJp_get]
  rw [hello_third hlink hhellos, if_neg hgood]
  refine ⟨?_, ?_, ?_, ?_, ?_, ?_, ?_⟩
  · rw [back, State.link, State.emit_get, State.get_set_fits hshown _ (linkState_ok n) (by decide : 2 < 2 ^ 3)]
  · rw [keep _ (jxlReg_ne (by decide) n), hv]
  · rw [keep _ (jxlReg_ne (by decide) n), hm]
  · rw [keep _ (jxlReg_ne (by decide) n), hwid]
  · rw [keep _ (jxlReg_ne (by decide) n), hhei]
  · rw [State.get64, keep _ (jxlReg_ne (by decide) n), keep _ (jxlReg_ne (by decide) n), ← State.get64, hser]
  · rw [back, State.emit_out, State.set_out, State.setJp_out, identityShown_out]

/-- The third HELLO of another version loses the port with VERSION. -/
theorem hello_of_bad_version (hs : s.regsWf) (hn : n < 16) (hlink : s.link n = 1) (hhellos : (s.jp n).hellos = 2) (hversion : version ≠ 1)
    (hst : s.chState n ≠ 4) : (hello n version vendor model w h serial s).link n = 5 ∧
    (hello n version vendor model w h serial s).get (F.JXL_P_STAT_CAUSE n) = 5 := by
  have hshown := identityShown_writes n version vendor model w h serial s
  have hch : ((identityShown n version vendor model w h serial s).setJp n { s.jp n with hellos := 3 }).chState n ≠ 4 := by
    rwa [State.chState, State.setJp_get, hshown.port hn F.PPC_CH_STAT_STATE (by decide)]
  rw [hello_third hlink hhellos, if_pos (.inl hversion)]
  obtain ⟨hlost, hcause, -⟩ := portLost_link_status (cause := 5) (State.setJp_regsWf (hshown.wf hs) n _) hn hch (by decide) (by decide)
    (by decide)
  exact ⟨hlost, hcause⟩

end Hello

/-! ### A class request (R189) -/

@[simp] theorem State.set_ch (s : State) (f : Fld) (v n : Nat) : (s.set f v).ch n = s.ch n := (rfl)
@[simp] theorem State.setJp_ch (s : State) (n : Nat) (j : JPort) (m : Nat) : (s.setJp n j).ch m = s.ch m := (rfl)

section PwrReq

variable {n c : Nat} {s : State}

/-- The watts are in use, the class is shown, and the request waits for its step. -/
theorem pwrReq_granted (hlink : s.link n = 3) (hfree : (s.jp n).granted = false) (hc1 : 1 ≤ c) (hc3 : c ≤ 3)
    (hmax : c ≤ s.get (F.JXL_P_CFG_MAX_CLASS n)) (hwatts : s.get F.PPC_GLB_STAT + classWatts c ≤ s.get F.PPC_GLB_CFG_BUDGET_W)
    (hst : s.chState n = 3) : pwrReq n c s =
    (((s.set F.PPC_GLB_STAT (s.get F.PPC_GLB_STAT + classWatts c)).set (F.PPC_CH_STAT_CLASS n) c).setCh n
      { s.ch n with waiting := true }).setJp n { s.jp n with granted := true } := by
  have hwait : ¬(s.link n ≠ 3 ∨ (s.jp n).granted = true) := by simp [hlink, hfree]
  have hgrant : ¬(c = 0 ∨ 3 < c ∨ s.get (F.JXL_P_CFG_MAX_CLASS n) < c ∨ s.get F.PPC_GLB_CFG_BUDGET_W < s.get F.PPC_GLB_STAT + classWatts c
      ∨ s.chState n ≠ 3) := by omega
  rw [pwrReq, if_neg hwait]
  dsimp only
  rw [if_neg hgrant]
  simp only [State.set_ch, State.set_jp]

theorem wattsReg_ne_channel (n : Nat) : F.PPC_GLB_STAT.off ≠ (F.PPC_CH_STAT_CLASS n).off := by
  simp only [F.PPC_GLB_STAT, F.PPC_CH_STAT_CLASS]
  omega

/-- R189: a class within MAX_CLASS and the budget is granted into the wait for STEP. -/
theorem pwrReq_grants (hs : s.regsWf) (hn : n < 16) (hport : n < s.jxl.length) (hch : n < s.ppc.length) (hlink : s.link n = 3)
    (hfree : (s.jp n).granted = false) (hc1 : 1 ≤ c) (hc3 : c ≤ 3) (hmax : c ≤ s.get (F.JXL_P_CFG_MAX_CLASS n))
    (hwatts : s.get F.PPC_GLB_STAT + classWatts c ≤ s.get F.PPC_GLB_CFG_BUDGET_W) (hst : s.chState n = 3) :
    (pwrReq n c s).get F.PPC_GLB_STAT = s.get F.PPC_GLB_STAT + classWatts c ∧ (pwrReq n c s).get (F.PPC_CH_STAT_CLASS n) = c ∧
    ((pwrReq n c s).ch n).waiting = true ∧ ((pwrReq n c s).jp n).granted = true ∧ (pwrReq n c s).link n = 3 := by
  have hfits : s.get F.PPC_GLB_STAT + classWatts c < 2 ^ 10 := lt_of_le_of_lt hwatts (bitsOf_lt _ 9 0)
  have hset := State.set_regsWf hs F.PPC_GLB_STAT (s.get F.PPC_GLB_STAT + classWatts c)
  have hwrites : s.Writes (chanRegs n) ((s.set F.PPC_GLB_STAT (s.get F.PPC_GLB_STAT + classWatts c)).set (F.PPC_CH_STAT_CLASS n) c) :=
    ((State.Writes.refl s _).set (f := F.PPC_GLB_STAT) (.head _) _).set (f := F.PPC_CH_STAT_CLASS n) (.tail _ (.head _)) _
  rw [pwrReq_granted hlink hfree hc1 hc3 hmax hwatts hst]
  refine ⟨?_, ?_, ?_, ?_, ?_⟩
  · rw [State.setJp_get, State.setCh_get, State.get_set_of_off_ne _ _ _ _ (wattsReg_ne_channel n)]
    exact State.get_set_fits hs F.PPC_GLB_STAT (by decide) hfits
  · rw [State.setJp_get, State.setCh_get]
    exact State.get_set_fits hset (F.PPC_CH_STAT_CLASS n) (fld_ok _ (by decide)) (Nat.lt_succ_of_le hc3)
  · rw [State.setJp_ch, State.ch_setCh_same (by rwa [State.set_ppc, State.set_ppc])]
  · rw [State.jp_setJp_same (by rwa [State.setCh_jxl, State.set_jxl, State.set_jxl])]
  · rw [State.setJp_link, State.link, State.setCh_get, hwrites.port hn F.JXL_P_STAT_STATE (by decide), ← State.link, hlink]

theorem pwrReq_denied (hlink : s.link n = 3) (hfree : (s.jp n).granted = false)
    (hdeny : c = 0 ∨ 3 < c ∨ s.get (F.JXL_P_CFG_MAX_CLASS n) < c ∨ s.get F.PPC_GLB_CFG_BUDGET_W < s.get F.PPC_GLB_STAT + classWatts c) :
    pwrReq n c s = portLost n 6 s := by
  have hwait : ¬(s.link n ≠ 3 ∨ (s.jp n).granted = true) := by simp [hlink, hfree]
  rw [pwrReq, if_neg hwait]
  exact if_pos (by omega)

end PwrReq

/-! ### A register response (R164) -/

/-- The slot's request completes with its status and data. -/
def reqDone (n tag result : Nat) (data : Word) (s : State) : State :=
  ((s.clear (F.JXL_P_REQ_BUSY n tag)).set (F.JXL_P_REQ_STATUS n tag) (if result = 0 then 0 else 1)).set
    (F.JXL_P_REQ_RDATA n tag) data.toNat

section Regresp

variable {n tag : Nat} {s : State}

theorem reqReg_ne_data (n k : Nat) : (F.JXL_P_REQ_BUSY n k).off ≠ (F.JXL_P_REQ_RDATA n k).off := by
  simp only [F.JXL_P_REQ_BUSY, F.JXL_P_REQ_RDATA]
  omega

theorem reqDone_slot (hs : s.regsWf) (result : Nat) (data : Word) :
    (reqDone n tag result data s).flag (F.JXL_P_REQ_BUSY n tag) = false ∧
    (reqDone n tag result data s).get (F.JXL_P_REQ_STATUS n tag) = (if result = 0 then 0 else 1) ∧
    (reqDone n tag result data s).get (F.JXL_P_REQ_RDATA n tag) = data.toNat := by
  have hclear := State.clear_regsWf hs (F.JXL_P_REQ_BUSY n tag)
  have hstatus : (if result = 0 then 0 else 1) < 2 ^ 2 := by split <;> decide
  refine ⟨?_, ?_, State.get_set_fits (State.set_regsWf hclear _ _) (F.JXL_P_REQ_RDATA n tag) (word_ok _) data.isLt⟩
  · rw [reqDone, State.flag_set_of_off_ne _ _ _ _ (reqReg_ne_data n tag), State.flag_set_ne hclear _ (F.JXL_P_REQ_BUSY n tag) _
      (reqStatus_ok n tag) (.inr (.inr (by decide : 18 < 20))), State.flag_clear hs _ (reqBusy_ok n tag)]
  · rw [reqDone, State.get_set_of_off_ne _ _ (F.JXL_P_REQ_STATUS n tag) _ (reqReg_ne_data n tag)]
    exact State.get_set_fits hclear _ (reqStatus_ok n tag) hstatus

theorem reqDone_synced (result : Nat) (data : Word) :
    (reqDone n tag result data s).flag (F.JXL_P_STAT_SYNCED n) = s.flag (F.JXL_P_STAT_SYNCED n) := by
  have hctl : (F.JXL_P_STAT_SYNCED n).off ≠ (F.JXL_P_REQ_BUSY n tag).off := by
    simp only [F.JXL_P_STAT_SYNCED, F.JXL_P_REQ_BUSY]
    omega
  have hdata : (F.JXL_P_STAT_SYNCED n).off ≠ (F.JXL_P_REQ_RDATA n tag).off := by
    simp only [F.JXL_P_STAT_SYNCED, F.JXL_P_REQ_RDATA]
    omega
  rw [reqDone, State.flag_set_of_off_ne _ _ _ _ hdata, State.flag_set_of_off_ne _ (F.JXL_P_REQ_STATUS n tag) _ _ hctl, State.clear,
    State.flag_set_of_off_ne _ _ _ _ hctl]

end Regresp

/-! ### The statement -/

section Settled

variable {s : State} {n : Nat} (hs : s.Ok) (hsz : s.Sized) (htakes : takesPackets s n = true)
include hs hsz htakes

/-- What a packet in sequence finds: the port as it was but for SEQ, every field but the count of good packets as it was. -/
theorem inSeq_finds : (inSeq n s).regsWf ∧ n < (inSeq n s).jxl.length ∧
    (inSeq n s).jp n = { s.jp n with seq := ((s.jp n).seq + 1) % 65536 } := by
  have hn := hsz.port_lt (takesPackets_lt htakes)
  exact ⟨(inSeq_writes n s).wf hs.regs, by rwa [inSeq_jxl_length], inSeq_jp hn⟩

omit hs hsz in
theorem inSeq_get (f : Nat → Fld) (hf : ∀ m < 16, (f m).off ∉ [(F.JXL_P_PKT_OK m).off]) : (inSeq n s).get (f n) = s.get (f n) :=
  (inSeq_writes n s).port (r := fun m => [(F.JXL_P_PKT_OK m).off]) (takesPackets_lt htakes) f hf

omit hs hsz in
theorem inSeq_flag (f : Nat → Fld) (hf : ∀ m < 16, (f m).off ∉ [(F.JXL_P_PKT_OK m).off]) : (inSeq n s).flag (f n) = s.flag (f n) :=
  (inSeq_writes n s).flagPort (r := fun m => [(F.JXL_P_PKT_OK m).off]) (takesPackets_lt htakes) f hf

omit hs hsz in
theorem inSeq_link : (inSeq n s).link n = s.link n := inSeq_get htakes F.JXL_P_STAT_STATE (by decide)

omit hs hsz in
theorem inSeq_chState : (inSeq n s).chState n = s.chState n := inSeq_get htakes F.PPC_CH_STAT_STATE (by decide)

end Settled

/-- Settles O16: behind the count of a good packet each kind by its own lemma. -/
theorem jexlinkPackets : Obligations.JexlinkPackets := by
  refine ⟨fun s n w hs hsz htakes hlink hsync hmap hx hy hlimit hroom => ?_, fun s n ws hs hsz htakes hlink hlen hlimit => ?_,
    fun s n a hs hsz htakes hlink hsync hlimit hroom => ?_, fun s n a hs hsz htakes hlink hsync hback hlimit hroom => ?_,
    fun s n vendor model w h serial hs hsz htakes hlink hhellos hw hh hvendor hmodel => ?_,
    fun s n version vendor model w h serial hs hsz htakes hlink hhellos hversion hst => ?_,
    fun s n headDrop used hs hsz htakes => ?_, fun s n c hs hsz htakes hlink hfree hc1 hc3 hmax hwatts hst => ?_,
    fun s n c hs hsz htakes hlink hfree hst hdeny => ?_, fun s n hs htakes hlink => ?_,
    fun s n tag result data hs htakes htag hbusy => ?_⟩
  · obtain ⟨hwf, hn, hjp⟩ := inSeq_finds hs hsz htakes
    have hev : events n [w] (inSeq n s) = _ := events_single hn ((inSeq_link htakes).trans hlink)
      ((inSeq_flag htakes F.JXL_P_STAT_SYNCED (by decide)).trans hsync) (by rwa [inSeq_get htakes F.TSB_PT_STAT_STATE (by decide)])
      (by rwa [inSeq_get htakes F.JXL_P_GEOM_WIDTH1 (by decide)]) (by rwa [inSeq_get htakes F.JXL_P_GEOM_HEIGHT1 (by decide)])
      (by rwa [hjp]) (by rwa [hjp])
    rw [exec_events, execEvents, onPacket_inSeq htakes, List.take_of_length_le (by simp), hev, hjp, inSeq_pmap]
    refine ⟨_, rfl, ?_, ?_, ?_, ?_, fun m hm => ?_, ?_, ?_, ?_⟩
    · rw [State.inc_jp, State.jp_setJp_same hn]
      rfl
    · rw [State.inc_jp, State.jp_setJp_same hn]
      rfl
    · rw [State.inc_jp, State.jp_setJp_same hn]
      rfl
    · rw [State.get_inc_same (State.setJp_regsWf hwf _ _) (F.JXL_P_EV_IN n) (word_ok _), State.setJp_get,
        inSeq_get htakes F.JXL_P_EV_IN (by decide)]
      rfl
    · rw [State.inc_jp, State.jp_setJp_ne _ hm, inSeq_jp_ne hm]
    · rw [State.inc_tb, State.setJp_tb, inSeq_tb]
    · rw [State.inc_tiles, State.setJp_tiles, inSeq_tiles]
    · rw [State.inc_gates, State.setJp_gates, inSeq_gates]
  · obtain ⟨hwf, hn, hjp⟩ := inSeq_finds hs hsz htakes
    have hspent := State.setJp_regsWf hwf n (((inSeq n s).jp n).spend (ceilDiv ws.length 64))
    rw [exec_events, execEvents, onPacket_inSeq htakes, List.take_of_length_le hlen,
      events_of_excess ((inSeq_link htakes).trans hlink) (by rwa [hjp])]
    refine ⟨_, rfl, ?_, State.flag_clear (State.inc_regsWf hspent _) _ (synced_ok n), ?_⟩
    · rw [State.clear_jp, State.inc_jp, State.jp_setJp_same hn, hjp]
      rfl
    · rw [State.clear, State.get_set_of_off_ne _ _ _ _ (jxlReg_ne (by decide) n),
        State.get_inc_same hspent (F.JXL_P_CREDIT_VIOL n) (word_ok _), State.setJp_get, inSeq_get htakes F.JXL_P_CREDIT_VIOL (by decide)]
      rfl
  · obtain ⟨hwf, hn, hjp⟩ := inSeq_finds hs hsz htakes
    rw [exec_anchor, execAnchor, onPacket_inSeq htakes, anchor_of_unsynced hn ((inSeq_link htakes).trans hlink)
      ((inSeq_flag htakes F.JXL_P_STAT_SYNCED (by decide)).trans hsync) (by rwa [hjp]) (by rwa [hjp])]
    refine ⟨_, rfl, ?_, State.flag_raise (State.setJp_regsWf hwf _ _) _ (synced_ok n), ?_, ?_⟩
    · rw [State.raise_jp, State.jp_setJp_same hn]
    · rw [State.raise_jp, State.jp_setJp_same hn, hjp]
      rfl
    · rw [State.raise_tb, State.setJp_tb, inSeq_tb]
  · obtain ⟨hwf, hn, hjp⟩ := inSeq_finds hs hsz htakes
    have hspent := State.setJp_regsWf hwf n (((inSeq n s).jp n).spend 1)
    rw [exec_anchor, execAnchor, onPacket_inSeq htakes, anchor_of_jump_back hn ((inSeq_link htakes).trans hlink)
      ((inSeq_flag htakes F.JXL_P_STAT_SYNCED (by decide)).trans hsync) (by rwa [hjp]) (by rwa [hjp]) (by rwa [hjp])]
    refine ⟨_, rfl, State.flag_clear ((mapIdle_writes n _).wf hspent) _ (synced_ok n), ?_, ?_⟩
    · rw [State.clear, State.get_set_of_off_ne _ (F.JXL_P_STAT_SYNCED n) _ _ (mapReg_ne_status n), mapIdle_state n hspent]
    · rw [State.clear_jp, State.jp_eq_of_jxl (mapIdle_jxl n _), State.jp_setJp_same hn, hjp]
      rfl
  · obtain ⟨hwf, hn, hjp⟩ := inSeq_finds hs hsz htakes
    rw [exec_hello, execHello, onPacket_inSeq htakes, ← inSeq_out n s]
    exact ⟨_, rfl, hello_identifies hwf ((inSeq_link htakes).trans hlink) (by rw [hjp]; exact hhellos) hw hh hvendor hmodel⟩
  · obtain ⟨hwf, hn, hjp⟩ := inSeq_finds hs hsz htakes
    rw [exec_hello, execHello, onPacket_inSeq htakes]
    exact ⟨_, rfl, hello_of_bad_version hwf (takesPackets_lt htakes) ((inSeq_link htakes).trans hlink) (by rw [hjp]; exact hhellos)
      hversion (by rwa [inSeq_chState htakes])⟩
  · obtain ⟨hwf, hn, hjp⟩ := inSeq_finds hs hsz htakes
    rw [exec_keepalive, execKeepalive, onPacket_inSeq htakes]
    refine ⟨_, rfl, ?_, ?_, ?_, ?_⟩
    · rw [State.incBy_jp, State.jp_setJp_same hn]
    · rw [State.incBy_jp, State.jp_setJp_same hn]
    · rw [State.incBy_jp, State.jp_setJp_same hn, hjp]
    · rw [State.get_incBy_same (State.setJp_regsWf hwf _ _) (F.JXL_P_HEAD_DROP n) (word_ok _), State.setJp_get,
        inSeq_get htakes F.JXL_P_HEAD_DROP (by decide), hjp]
      rfl
  · obtain ⟨hwf, hn, hjp⟩ := inSeq_finds hs hsz htakes
    have hwatts' := inSeq_get htakes (fun _ => F.PPC_GLB_STAT) (by decide)
    have hbudget := inSeq_get htakes (fun _ => F.PPC_GLB_CFG_BUDGET_W) (by decide)
    have hch : n < (inSeq n s).ppc.length := by rw [inSeq_ppc]; exact hsz.chan_lt (takesPackets_lt htakes)
    rw [exec_pwrReq, execPwrReq, onPacket_inSeq htakes, ← hwatts']
    exact ⟨_, rfl, pwrReq_grants hwf (takesPackets_lt htakes) hn hch ((inSeq_link htakes).trans hlink) (by rw [hjp]; exact hfree) hc1 hc3
      (by rwa [inSeq_get htakes F.JXL_P_CFG_MAX_CLASS (by decide)]) (by rwa [hwatts', hbudget]) ((inSeq_chState htakes).trans hst)⟩
  · have hlt := takesPackets_lt htakes
    obtain ⟨hwf, hn, hjp⟩ := inSeq_finds hs hsz htakes
    have hwatts' := inSeq_get htakes (fun _ => F.PPC_GLB_STAT) (by decide)
    have hbudget := inSeq_get htakes (fun _ => F.PPC_GLB_CFG_BUDGET_W) (by decide)
    have hch : (inSeq n s).chState n ≠ 4 := by rw [inSeq_chState htakes, hst]; decide
    rw [exec_pwrReq, execPwrReq, onPacket_inSeq htakes, pwrReq_denied ((inSeq_link htakes).trans hlink) (by rw [hjp]; exact hfree)
      (by rwa [inSeq_get htakes F.JXL_P_CFG_MAX_CLASS (by decide), hwatts', hbudget])]
    obtain ⟨hlost, hcause, -⟩ := portLost_link_status (cause := 6) hwf hlt hch (by decide) (by decide) (by decide)
    have hkeep := (portLost_link_writes (cause := 6) hch (by decide) (by decide)).port hlt (fun _ => F.PPC_GLB_STAT) (by decide)
    exact ⟨_, rfl, hlost, hcause, hkeep.trans hwatts'⟩
  · have hwf := (inSeq_writes n s).wf hs.regs
    rw [exec_cfgAck, execCfgAck, onPacket_inSeq htakes, if_pos ⟨(inSeq_link htakes).trans hlink, rfl⟩]
    refine ⟨_, rfl, ?_, ?_⟩
    · rw [back, State.link, State.emit_get, State.get_set_fits hwf _ (linkState_ok n) (by decide : 3 < 2 ^ 3)]
    · rw [back, State.emit_out, State.set_out, inSeq_out]
  · have hwf := (inSeq_writes n s).wf hs.regs
    have hne : (F.JXL_P_REQ_BUSY n tag).off ∉ [(F.JXL_P_PKT_OK n).off] := by
      simp only [List.mem_singleton, F.JXL_P_REQ_BUSY, F.JXL_P_PKT_OK]
      omega
    have hbusy' : (inSeq n s).flag (F.JXL_P_REQ_BUSY n tag) = true := ((inSeq_writes n s).flag hne).trans hbusy
    rw [exec_regresp, execRegresp, onPacket_inSeq htakes, if_pos ⟨htag, hbusy'⟩]
    obtain ⟨hidle, hstatus, hdata⟩ := reqDone_slot (n := n) (tag := tag) hwf result data
    exact ⟨_, rfl, hidle, hstatus, hdata, (reqDone_synced result data).trans (inSeq_flag htakes F.JXL_P_STAT_SYNCED (by decide))⟩

end Sys2Proof.Machine

/-!
PROOF. Losses as commands, the upkeep of a link, EN and the register requests (04 R143 to R177): `JexlinkLinks`.
-/

namespace Sys2Proof.Machine

theorem exec_corruptPacket (n : Nat) (ev : Bool) (s : State) : exec (.corruptPacket n ev) s = execCorruptPacket n ev s := rfl
theorem exec_configResend (n : Nat) (s : State) : exec (.configResend n) s = execConfigResend n s := rfl
theorem exec_backchannelKeepaliveSend (n : Nat) (s : State) :
    exec (.backchannelKeepaliveSend n) s = execBackchannelKeepaliveSend n s := rfl
theorem exec_flowSend (n : Nat) (s : State) : exec (.flowSend n) s = execFlowSend n s := rfl
theorem exec_resetHeadSend (n : Nat) (s : State) : exec (.resetHeadSend n) s = execResetHeadSend n s := rfl
theorem exec_lostRetry (n : Nat) (s : State) : exec (.lostRetry n) s = execLostRetry n s := rfl
theorem exec_jxlEnable (a : Agent) (n : Nat) (s : State) : exec (.jxlEnable a n) s = execJxlEnable a n s := rfl
theorem exec_jxlDisable (a : Agent) (n : Nat) (s : State) : exec (.jxlDisable a n) s = execJxlDisable a n s := rfl
theorem exec_regRequestGo (a : Agent) (n k addr : Nat) (w : Bool) (s : State) :
    exec (.regRequestGo a n k addr w) s = execRegRequestGo a n k addr w s := rfl
theorem exec_regRequestTimeout (n k : Nat) (s : State) : exec (.regRequestTimeout n k) s = execRegRequestTimeout n k s := rfl

/-! ### Losses (R150, R151) -/

section Losses

variable {n cause : Nat} {s : State}

theorem State.ch_eq_of_ppc {s t : State} (h : t.ppc = s.ppc) (n : Nat) : t.ch n = s.ch n := by
  rw [State.ch, h, State.ch]

theorem lossIn_of_mem {l : List Nat} (hon : s.ingOn = true) (hn : n < 16) (h : s.link n ∈ l) (cause : Nat) :
    lossIn l cause n s = portLost n cause s := by
  simp [lossIn, hon, hn, h]

theorem lossIn_of_not_mem {l : List Nat} (h : s.link n ∉ l) (cause : Nat) : lossIn l cause n s = s := by
  simp [lossIn, h]

variable {r : Instr × List Nat × Nat}

/-- A row of a loss loses the port in its states. -/
theorem exec_lossRow (hr : r ∈ lossRows n) (hfree : (s.jp n).granted = false) : exec r.1 s = .next (lossIn r.2.1 r.2.2 n s) := by
  have htimeout : exec (.pwrReqTimeout n) s = .next (lossIn [3] 1 n s) :=
    (congrArg Host.Outcome.next (if_neg (by rw [hfree]; exact Bool.false_ne_true)) : execPwrReqTimeout n s = _)
  simp only [lossRows, List.mem_cons, List.not_mem_nil, or_false] at hr
  rcases hr with rfl | rfl | rfl | rfl | rfl | rfl
  exacts [rfl, rfl, rfl, rfl, rfl, htimeout]

theorem exec_lossRow_of_not_mem (hr : r ∈ lossRows n) (h : s.link n ∉ r.2.1) : exec r.1 s = .next s := by
  cases hfree : (s.jp n).granted with
  | false => rw [exec_lossRow hr hfree, lossIn_of_not_mem h]
  | true =>
    simp only [lossRows, List.mem_cons, List.not_mem_nil, or_false] at hr
    rcases hr with rfl | rfl | rfl | rfl | rfl | rfl
    · exact congrArg _ (lossIn_of_not_mem h 3)
    · exact congrArg _ (lossIn_of_not_mem h 2)
    · exact congrArg _ (lossIn_of_not_mem h 1)
    · exact congrArg _ (lossIn_of_not_mem h 4)
    · exact congrArg _ (lossIn_of_not_mem h 1)
    · exact congrArg _ (if_pos hfree)

theorem lossRow_cause (hr : r ∈ lossRows n) : r.2.2 ≤ 4 := by
  have h : ∀ c ∈ (lossRows n).map (·.2.2), c ≤ 4 := (by decide : ∀ c ∈ [3, 2, 1, 4, 1, 1], c ≤ 4)
  exact h _ (List.mem_map_of_mem hr)

/-- R152, R66, R175: what a loss outside STEP leaves beside the link state and the cause. -/
theorem portLost_link_effect (hs : s.regsWf) (hn : n < 16) (hport : n < s.jxl.length) (hst : s.chState n ≠ 4) (h7 : cause ≠ 7)
    (h8 : cause ≠ 8) :
    (portLost n cause s).get (F.JXL_P_LOST_CNT n) = min (2 ^ 32 - 1) (s.get (F.JXL_P_LOST_CNT n) + 1) ∧
    ((portLost n cause s).jp n).resets = 3 ∧ (portLost n cause s).get (F.TSB_PT_STAT_STATE n) = 0 ∧
    (∀ k, k < 4 → Ended n k s (portLost n cause s)) ∧ ((portLost n cause s).jp n).buf = (s.jp n).buf ∧
    (portLost n cause s).out = .bench .portLost n :: s.out := by
  have hjxl : n < ((lossNoted n cause s).set (F.JXL_P_STAT_STATE n) 5).jxl.length := by rwa [State.set_jxl, lossNoted_jxl]
  rw [portLost_of_link hst h7 h8]
  refine ⟨?_, ?_, ?_, fun k hk => ?_, ?_, ?_⟩
  · rw [State.setJp_get, State.get_set_of_off_ne _ _ _ _ (jxlReg_ne (by decide) n), lossNoted_count hs hn]
  · rw [State.jp_setJp_same hjxl]
  · rw [State.setJp_get, State.get_set_of_off_ne _ _ _ _ (mapReg_ne_status n), lossNoted_map hs hn]
  · exact (lossNoted_ended (cause := cause) hs hk).writes (l := countRegs n)
      (((State.Writes.refl _ _).set (f := F.JXL_P_STAT_STATE n) (.tail _ (.head _)) 5).of_regs (State.setJp_regs _ _ _))
      (reqReg_not_counted n k)
  · rw [State.jp_setJp_same hjxl, State.jp_eq_of_jxl (lossNoted_jxl n cause s)]
  · rw [State.setJp_out, State.set_out, lossNoted_out]

theorem lossNoted_off_writes (n cause : Nat) (s : State) : s.Writes (lossRegs n) (portOff n (lossNoted n cause s)) :=
  (lossNoted_writes n cause s).trans ((portOff_writes n _).mono (List.subset_cons_self _ _))

/-- R202: what a loss in STEP leaves. -/
theorem portLost_step_effect (hs : s.regsWf) (hn : n < 16) (hch : n < s.ppc.length) (hst : s.chState n = 4) (h8 : cause ≠ 8) :
    (portLost n cause s).link n = 0 ∧ (portLost n cause s).get (F.JXL_P_STAT_CAUSE n) = 7 ∧ (portLost n cause s).chState n = 6 ∧
    (portLost n cause s).get (F.PPC_CH_STAT_CAUSE n) = 5 ∧ ((portLost n cause s).ch n).exit = 1 ∧
    (portLost n cause s).flag (F.PPC_CH_IRQ_ABORT n) = true := by
  have habort := (chanAbort_writes n 5 s).wf hs
  have hnoted := (lossNoted_writes n 7 (chanAbort n 5 s)).wf habort
  have hoff := lossNoted_off_writes n 7 (chanAbort n 5 s)
  obtain ⟨hstate, hcause⟩ := chanAbort_status (n := n) hs (by decide : 5 < 16)
  rw [portLost_of_step hst h8]
  refine ⟨portOff_link hnoted, ?_, ?_, ?_, ?_, ?_⟩
  · rw [portOff_cause hnoted hn, lossNoted_cause habort hn (by decide)]
  · rw [State.chState, hoff.port hn F.PPC_CH_STAT_STATE (by decide), ← State.chState, hstate]
  · rw [hoff.port hn F.PPC_CH_STAT_CAUSE (by decide), hcause]
  · rw [State.ch_eq_of_ppc (portOff_ppc n _), State.ch_eq_of_ppc (lossNoted_ppc n 7 _), chanAbort_exit hch]
  · rw [hoff.flagPort hn F.PPC_CH_IRQ_ABORT (by decide), chanAbort_irq hs hn]

end Losses

/-! ### Upkeep: corrupt packets, the port's own frames, RESET_HEAD and the way back (R143, R149, R151 to R153) -/

section Upkeep

variable {n : Nat} {s : State}

@[simp] theorem back_get (n c : Nat) (p : List Byte) (s : State) (f : Fld) : (back n c p s).get f = s.get f := (rfl)
@[simp] theorem back_out (n c : Nat) (p : List Byte) (s : State) : (back n c p s).out = .back n c p :: s.out := (rfl)
@[simp] theorem back_ppc (n c : Nat) (p : List Byte) (s : State) : (back n c p s).ppc = s.ppc := (rfl)
theorem back_regsWf (hs : s.regsWf) (n c : Nat) (p : List Byte) : (back n c p s).regsWf := hs

/-- A corrupt packet is counted, and HELLOs are no longer consecutive. -/
def corruptCounted (n : Nat) (s : State) : State :=
  (s.inc (F.JXL_P_CRC_ERR n)).setJp n { (s.inc (F.JXL_P_CRC_ERR n)).jp n with hellos := 0 }

theorem corrupt_eq (n : Nat) (ev : Bool) (s : State) :
    corrupt n ev s = if ev then (corruptCounted n s).clear (F.JXL_P_STAT_SYNCED n) else corruptCounted n s := rfl

theorem corruptCounted_regsWf (hs : s.regsWf) : (corruptCounted n s).regsWf := State.setJp_regsWf (State.inc_regsWf hs _) _ _

theorem corruptCounted_count (hs : s.regsWf) :
    (corruptCounted n s).get (F.JXL_P_CRC_ERR n) = min (2 ^ 32 - 1) (s.get (F.JXL_P_CRC_ERR n) + 1) := by
  rw [corruptCounted, State.setJp_get, State.get_inc_same hs (F.JXL_P_CRC_ERR n) (word_ok _)]
  rfl

theorem corruptCounted_synced : (corruptCounted n s).flag (F.JXL_P_STAT_SYNCED n) = s.flag (F.JXL_P_STAT_SYNCED n) := by
  rw [corruptCounted, State.setJp_flag, State.flag_inc_of_off_ne _ _ _ (jxlReg_ne (by decide) n)]

theorem corruptCounted_jp (hn : n < s.jxl.length) : (corruptCounted n s).jp n = { s.jp n with hellos := 0 } := by
  rw [corruptCounted, State.jp_setJp_same (by rwa [State.inc_jxl]), State.inc_jp]

theorem corruptCounted_tb : (corruptCounted n s).tb = s.tb := by rw [corruptCounted, State.setJp_tb, State.inc_tb]

/-- R143, R144: what a packet that fails a check leaves; one of the EVENTS class clears SYNCED. -/
theorem corrupt_effect (hs : s.regsWf) (hn : n < s.jxl.length) (ev : Bool) :
    (corrupt n ev s).get (F.JXL_P_CRC_ERR n) = min (2 ^ 32 - 1) (s.get (F.JXL_P_CRC_ERR n) + 1) ∧
    (corrupt n ev s).flag (F.JXL_P_STAT_SYNCED n) = (s.flag (F.JXL_P_STAT_SYNCED n) && !ev) ∧
    (corrupt n ev s).jp n = { s.jp n with hellos := 0 } ∧ (corrupt n ev s).tb = s.tb := by
  rw [corrupt_eq]
  cases ev with
  | true =>
    rw [if_pos rfl, State.clear, State.get_set_of_off_ne _ _ _ _ (jxlReg_ne (by decide) n), State.set_jp, State.set_tb, Bool.not_true,
      Bool.and_false]
    exact ⟨corruptCounted_count hs, State.flag_clear (corruptCounted_regsWf hs) _ (synced_ok n), corruptCounted_jp hn, corruptCounted_tb⟩
  | false =>
    rw [if_neg Bool.false_ne_true, Bool.not_false, Bool.and_true]
    exact ⟨corruptCounted_count hs, corruptCounted_synced, corruptCounted_jp hn, corruptCounted_tb⟩

/-- A RESET_HEAD that is not the third. -/
theorem resetHead_of_more (hlink : s.link n = 5) (h : 1 < (s.jp n).resets) :
    resetHead n s = back n 0x09 [] (s.setJp n { s.jp n with resets := (s.jp n).resets - 1 }) := by
  have hgo : ¬(s.link n ≠ 5 ∨ (s.jp n).resets = 0) := by omega
  have hmore : (s.jp n).resets ≠ 1 := by omega
  simp only [resetHead, if_neg hgo, hmore, false_and, if_false]

/-- R153: the third RESET_HEAD of a port lost with VERSION or CLASS_DENIED. -/
theorem resetHead_of_last (hlink : s.link n = 5) (h : (s.jp n).resets = 1)
    (hcause : s.get (F.JXL_P_STAT_CAUSE n) = 5 ∨ s.get (F.JXL_P_STAT_CAUSE n) = 6) :
    resetHead n s = cooldown n 9 8 (portOff n (back n 0x09 [] (s.setJp n { s.jp n with resets := 0 }))) := by
  simp [resetHead, hlink, h, hcause]

/-- A port that goes to OFF with its channel into COOLDOWN (R153, 05 R204, R205). -/
theorem cooldown_portOff_effect (hs : s.regsWf) (hn : n < 16) (hch : n < s.ppc.length) (exit : Nat) {cause : Nat} (hcause : cause < 16) :
    (cooldown n exit cause (portOff n s)).link n = 0 ∧ (cooldown n exit cause (portOff n s)).chState n = 6 ∧
    (cooldown n exit cause (portOff n s)).get (F.PPC_CH_STAT_CAUSE n) = cause ∧
    ((cooldown n exit cause (portOff n s)).ch n).exit = exit := by
  obtain ⟨hstate, hca⟩ := cooldown_status (n := n) exit ((portOff_writes n s).wf hs) hcause
  refine ⟨?_, hstate, hca, cooldown_exit exit (by rwa [portOff_ppc])⟩
  rw [State.link, (cooldown_writes n exit cause _).port hn F.JXL_P_STAT_STATE (by decide), ← State.link, portOff_link hs]

theorem retryable_contains {c : Nat} (h1 : 1 ≤ c) (h4 : c ≤ 4) : [1, 2, 3, 4].contains c = true := by
  interval_cases c <;> rfl

theorem lostRetry_again (hlink : s.link n = 5) (h1 : 1 ≤ s.get (F.JXL_P_STAT_CAUSE n)) (h4 : s.get (F.JXL_P_STAT_CAUSE n) ≤ 4)
    (hretry : (s.jp n).retries < s.get (F.JXL_P_CFG_RETRY_MAX n)) :
    lostRetry n s = portTrain n (s.setJp n { s.jp n with retries := (s.jp n).retries + 1 }) := by
  have hgo : ¬(s.link n ≠ 5 ∨ ¬[1, 2, 3, 4].contains (s.get (F.JXL_P_STAT_CAUSE n)) = true) := by
    rw [retryable_contains h1 h4]
    simp [hlink]
  rw [lostRetry, if_neg hgo, if_pos hretry]

theorem lostRetry_past_max (hlink : s.link n = 5) (h1 : 1 ≤ s.get (F.JXL_P_STAT_CAUSE n)) (h4 : s.get (F.JXL_P_STAT_CAUSE n) ≤ 4)
    (hretry : s.get (F.JXL_P_CFG_RETRY_MAX n) ≤ (s.jp n).retries) :
    lostRetry n s = cooldown n 1 7 (portOff n (s.setJp n { s.jp n with retries := 0, resets := 0 })) := by
  have hgo : ¬(s.link n ≠ 5 ∨ ¬[1, 2, 3, 4].contains (s.get (F.JXL_P_STAT_CAUSE n)) = true) := by
    rw [retryable_contains h1 h4]
    simp [hlink]
  rw [lostRetry, if_neg hgo, if_neg (Nat.not_lt.2 hretry)]

theorem portTrain_link (hs : s.regsWf) : (portTrain n s).link n = 1 := by
  rw [portTrain, State.setJp_link, State.link, State.get_set_fits hs _ (linkState_ok n) (by decide : 1 < 2 ^ 3)]

theorem portTrain_jp (hn : n < s.jxl.length) : (portTrain n s).jp n = { s.jp n with seq := 0, hellos := 0, resets := 0 } := by
  rw [portTrain, State.jp_setJp_same (by rwa [State.set_jxl])]

/-- The register of the link state. -/
def linkRegs (n : Nat) : List Nat := [(F.JXL_P_STAT_STATE n).off]

theorem portTrain_writes (n : Nat) (s : State) : s.Writes (linkRegs n) (portTrain n s) :=
  ((State.Writes.refl s _).set (f := F.JXL_P_STAT_STATE n) (.head _) 1).of_regs (State.setJp_regs _ _ _)

end Upkeep

/-! ### EN (R150, R153, R177; 05 R186, R205) -/

section Enable

variable {n : Nat} {s : State}

theorem portEn_ok (n : Nat) : (F.JXL_P_CFG_EN n).ok := bit_ok _ (by decide)

/-- The register of EN. -/
def enRegs (n : Nat) : List Nat := [(F.JXL_P_CFG_EN n).off]

/-- EN is set: what the port and its channel look at beside it stays. -/
theorem raiseEn_writes (n : Nat) (s : State) : s.Writes (enRegs n) (s.raise (F.JXL_P_CFG_EN n)) :=
  (State.Writes.refl s _).set (f := F.JXL_P_CFG_EN n) (.head _) 1

theorem raiseEn_mode (hs : s.regsWf) : (s.raise (F.JXL_P_CFG_EN n)).flag (F.JXL_P_CFG_MODE n) = s.flag (F.JXL_P_CFG_MODE n) :=
  State.flag_set_other_bit hs _ 1 (by decide) (by decide)

/-- The registers of a channel that starts. -/
def detectRegs (n : Nat) : List Nat := [(F.PPC_CH_STAT_STATE n).off, (F.PPC_CH_LIM_ILIM n).off]

/-- The channel of an enabled port starts in DETECT, with CFG in force and no point measured. -/
def detecting (n : Nat) (s : State) : State :=
  let u := (chLoad n s).setCh n { (chLoad n s).ch n with points := [] }
  (((u.set (F.PPC_CH_STAT_STATE n) 1).clear (F.PPC_CH_STAT_SIG n))).set (F.PPC_CH_LIM_ILIM n) 5

theorem chanStart_of_enabled (hn : n < 16) (hch : s.flag (F.PPC_CH_CTL_EN n) = true) (hen : s.flag (F.JXL_P_CFG_EN n) = true)
    (hmode : s.flag (F.JXL_P_CFG_MODE n) = false) : chanStart n s = detecting n s := by
  have hmay : mayPower s n = true := by simp [mayPower, hch, hen, hmode]
  rw [chanStart, hmay, if_neg (by decide), if_neg (by omega)]
  simp only [setIlim, if_pos hn, detecting]

theorem detecting_writes (n : Nat) (s : State) : s.Writes (detectRegs n) (detecting n s) :=
  (((((State.Writes.refl s _).of_regs (State.setCh_regs _ _ _)).of_regs (State.setCh_regs _ _ _)).set (f := F.PPC_CH_STAT_STATE n)
    (.head _) 1).set (f := F.PPC_CH_STAT_SIG n) (.head _) 0).set (f := F.PPC_CH_LIM_ILIM n) (.tail _ (.head _)) 5

theorem detecting_status (hs : s.regsWf) : (detecting n s).chState n = 1 ∧ (detecting n s).get (F.PPC_CH_LIM_ILIM n) = 5 := by
  have hload : ((chLoad n s).setCh n { (chLoad n s).ch n with points := [] }).regsWf := by
    rwa [State.regsWf, State.setCh_regs, chLoad, State.setCh_regs]
  have hstate := State.set_regsWf hload (F.PPC_CH_STAT_STATE n) 1
  have hlim : (F.PPC_CH_STAT_STATE n).off ≠ (F.PPC_CH_LIM_ILIM n).off := by
    simp only [F.PPC_CH_STAT_STATE, F.PPC_CH_LIM_ILIM]
    omega
  refine ⟨?_, State.get_set_fits (State.clear_regsWf hstate _) (F.PPC_CH_LIM_ILIM n) (fld_ok _ (by decide)) (by decide : 5 < 2 ^ 12)⟩
  rw [State.chState, detecting, State.get_set_of_off_ne _ _ _ _ hlim, State.clear, State.get_set_ne hstate (F.PPC_CH_STAT_SIG n)
    (F.PPC_CH_STAT_STATE n) _ (fld_ok _ (by decide)) (.inr (.inr (by decide : 3 < 16))),
    State.get_set_fits hload _ (chState_ok n) (by decide : 1 < 2 ^ 4)]

variable (hs : s.regsWf) (hn : n < 16)
include hs hn

/-- R186: a port whose channel is off: EN starts the channel. -/
theorem jxlEnable_of_off (hmode : s.flag (F.JXL_P_CFG_MODE n) = false) (hch : s.flag (F.PPC_CH_CTL_EN n) = true) (hst : s.chState n = 0) :
    jxlEnable n s = detecting n (s.raise (F.JXL_P_CFG_EN n)) := by
  have hw := raiseEn_writes n s
  have hst' : (s.raise (F.JXL_P_CFG_EN n)).chState n = 0 := (hw.port hn F.PPC_CH_STAT_STATE (by decide)).trans hst
  rw [jxlEnable, raiseEn_mode hs, hmode, if_neg Bool.false_ne_true, if_pos hst']
  exact chanStart_of_enabled hn ((hw.flagPort hn F.PPC_CH_CTL_EN (by decide)).trans hch) (State.flag_raise hs _ (portEn_ok n))
    ((raiseEn_mode hs).trans hmode)

/-- R150: with stage-one power EN takes the port to TRAIN. -/
theorem jxlEnable_of_power (hmode : s.flag (F.JXL_P_CFG_MODE n) = false) (h3 : 3 ≤ s.chState n) (h5 : s.chState n ≤ 5)
    (hlink : s.link n = 0) : jxlEnable n s = portTrain n (s.raise (F.JXL_P_CFG_EN n)) := by
  have hw := raiseEn_writes n s
  have hst' : (s.raise (F.JXL_P_CFG_EN n)).chState n = s.chState n := hw.port hn F.PPC_CH_STAT_STATE (by decide)
  have hlink' : (s.raise (F.JXL_P_CFG_EN n)).link n = 0 := (hw.port hn F.JXL_P_STAT_STATE (by decide)).trans hlink
  have hpower : [3, 4, 5].contains (s.chState n) = true := by
    rw [List.contains_iff_mem, List.mem_cons, List.mem_cons, List.mem_singleton]
    omega
  rw [jxlEnable, raiseEn_mode hs, hmode, if_neg Bool.false_ne_true, hst', if_neg (by omega), if_pos hpower]
  simp [portPowerGood, hn, hlink', State.flag_raise hs _ (portEn_ok n), (raiseEn_mode hs).trans hmode]

end Enable

/-! ### EN is cleared -/

section Disable

variable {n : Nat} {s : State}

/-- EN is clear, and the buffer is flushed and counted. -/
def flushed (n : Nat) (s : State) : State :=
  ((s.clear (F.JXL_P_CFG_EN n)).setJp n { s.jp n with buf := [] }).incBy (F.JXL_P_RESYNC_DROP n) (s.jp n).buf.length

/-- The parser of a CSI-2 port stops, and ILL clears. -/
def parserReset (n : Nat) (s : State) : State := if n < 4 then (s.setCsi (s.csi.set n {})).clear (F.JXL_P_CSI_STAT n) else s

/-- The registers of EN, of the events dropped, and of ILL. -/
def disableRegs (n : Nat) : List Nat := [(F.JXL_P_CFG_EN n).off, (F.JXL_P_RESYNC_DROP n).off, (F.JXL_P_CSI_STAT n).off]

/-- The register of ILL. -/
def illRegs (n : Nat) : List Nat := [(F.JXL_P_CSI_STAT n).off]

theorem parserReset_writes (n : Nat) (s : State) : s.Writes (illRegs n) (parserReset n s) := by
  rw [parserReset]
  split
  · exact ((State.Writes.refl s _).of_regs (State.setCsi_regs _ _)).set (f := F.JXL_P_CSI_STAT n) (.head _) 0
  · exact .refl s _

theorem parserReset_jxl (n : Nat) (s : State) : (parserReset n s).jxl = s.jxl := by
  rw [parserReset]
  split
  · rw [State.clear_jxl, State.setCsi_jxl]
  · rfl

theorem parserReset_ppc (n : Nat) (s : State) : (parserReset n s).ppc = s.ppc := by
  rw [parserReset]
  split
  · rw [State.clear_ppc, State.setCsi_ppc]
  · rfl

theorem flushed_writes (n : Nat) (s : State) : s.Writes (disableRegs n) (flushed n s) :=
  (((State.Writes.refl s _).set (f := F.JXL_P_CFG_EN n) (.head _) 0).of_regs (State.setJp_regs _ _ _)).set (f := F.JXL_P_RESYNC_DROP n)
    (.tail _ (.head _)) _

/-- A port about to lose its link because EN is clear. -/
def disabling (n : Nat) (s : State) : State := parserReset n (flushed n s)

theorem disabling_writes (n : Nat) (s : State) : s.Writes (disableRegs n) (disabling n s) :=
  (flushed_writes n s).trans ((parserReset_writes n _).among (.tail _ (.tail _ (.head _))))

theorem disabling_ppc (n : Nat) (s : State) : (disabling n s).ppc = s.ppc := by
  rw [disabling, parserReset_ppc, flushed, State.incBy_ppc, State.setJp_ppc, State.clear_ppc]

theorem disabling_buf (hn : n < s.jxl.length) : ((disabling n s).jp n).buf = [] := by
  rw [disabling, State.jp_eq_of_jxl (parserReset_jxl n _), flushed, State.incBy_jp, State.jp_setJp_same (by rwa [State.clear_jxl])]

theorem disabling_jxl_length (n : Nat) (s : State) : (disabling n s).jxl.length = s.jxl.length := by
  rw [disabling, parserReset_jxl, flushed, State.incBy_jxl, State.setJp_jxl_length, State.clear_jxl]

/-- In CFG only EN changes. -/
theorem disabling_cfg (hs : s.regsWf) (hn : n < 16) : (disabling n s).flag (F.JXL_P_CFG_EN n) = false ∧
    (disabling n s).flag (F.JXL_P_CFG_MODE n) = s.flag (F.JXL_P_CFG_MODE n) := by
  have hen : (disabling n s).flag (F.JXL_P_CFG_EN n) = (s.clear (F.JXL_P_CFG_EN n)).flag (F.JXL_P_CFG_EN n) := by
    rw [disabling, (parserReset_writes n _).flagPort hn F.JXL_P_CFG_EN (by decide), flushed, State.incBy,
      State.flag_set_of_off_ne _ _ _ _ (jxlReg_ne (by decide) n), State.setJp_flag]
  have hmode : (disabling n s).flag (F.JXL_P_CFG_MODE n) = (s.clear (F.JXL_P_CFG_EN n)).flag (F.JXL_P_CFG_MODE n) := by
    rw [disabling, (parserReset_writes n _).flagPort hn F.JXL_P_CFG_MODE (by decide), flushed, State.incBy,
      State.flag_set_of_off_ne _ _ _ _ (jxlReg_ne (by decide) n), State.setJp_flag]
  exact ⟨hen.trans (State.flag_clear hs _ (portEn_ok n)), hmode.trans (State.flag_set_other_bit hs _ 0 (by decide) (by decide))⟩

theorem disabling_count (hs : s.regsWf) (hn : n < 16) :
    (disabling n s).get (F.JXL_P_RESYNC_DROP n) = min (2 ^ 32 - 1) (s.get (F.JXL_P_RESYNC_DROP n) + (s.jp n).buf.length) := by
  rw [disabling, (parserReset_writes n _).port hn F.JXL_P_RESYNC_DROP (by decide), flushed,
    State.get_incBy_same (State.setJp_regsWf (State.clear_regsWf hs _) _ _) (F.JXL_P_RESYNC_DROP n) (word_ok _), State.setJp_get, State.clear,
    State.get_set_of_off_ne _ _ _ _ (jxlReg_ne (by decide) n)]
  rfl

/-- A port whose link is up and whose channel is on. -/
theorem jxlDisable_of_up (hs : s.regsWf) (hn : n < 16) (hen : s.flag (F.JXL_P_CFG_EN n) = true) (hmode : s.flag (F.JXL_P_CFG_MODE n) = false)
    (hlink : s.link n ≠ 0) (hst : s.chState n ≠ 0) :
    jxlDisable n s = cooldown n 0 9 (portOff n (lossNoted n 8 (disabling n s))) := by
  have hw := disabling_writes n s
  have hmode' := ((disabling_cfg hs hn).2).trans hmode
  have hlink' : (disabling n s).link n ≠ 0 := by rwa [State.link, hw.port hn F.JXL_P_STAT_STATE (by decide)]
  have hst' : (portLost n 8 (disabling n s)).chState n ≠ 0 := by
    rwa [portLost_disabled, State.chState, (lossNoted_off_writes n 8 _).port hn F.PPC_CH_STAT_STATE (by decide),
      hw.port hn F.PPC_CH_STAT_STATE (by decide)]
  have hlost : jxlDisable n s = if (portLost n 8 (disabling n s)).chState n = 0 then portLost n 8 (disabling n s)
      else cooldown n 0 9 (portLost n 8 (disabling n s)) := by
    have hgo : (s.flag (F.JXL_P_CFG_EN n) && !(disabling n s).flag (F.JXL_P_CFG_MODE n) && decide ((disabling n s).link n ≠ 0)) = true := by
      simp [hen, hmode', hlink']
    rw [disabling, parserReset, flushed] at hgo
    rw [jxlDisable, disabling, parserReset, flushed]
    simp only [State.clear_jp, if_pos hgo]
  rw [hlost, if_neg hst', portLost_disabled]

/-- R177, R153, 05 R205: the buffer is flushed and counted, the port is OFF with cause DISABLED, the channel cools down to OFF. -/
theorem jxlDisable_effect (hs : s.regsWf) (hn : n < 16) (hport : n < s.jxl.length) (hch : n < s.ppc.length)
    (hen : s.flag (F.JXL_P_CFG_EN n) = true) (hmode : s.flag (F.JXL_P_CFG_MODE n) = false) (hlink : s.link n ≠ 0) (hst : s.chState n ≠ 0) :
    let t := jxlDisable n s
    t.flag (F.JXL_P_CFG_EN n) = false ∧ t.link n = 0 ∧ t.get (F.JXL_P_STAT_CAUSE n) = 8 ∧ (t.jp n).buf = [] ∧
    t.get (F.JXL_P_RESYNC_DROP n) = min (2 ^ 32 - 1) (s.get (F.JXL_P_RESYNC_DROP n) + (s.jp n).buf.length) ∧
    t.chState n = 6 ∧ (t.ch n).exit = 0 := by
  have hdis := (disabling_writes n s).wf hs
  have hnoted := (lossNoted_writes n 8 (disabling n s)).wf hdis
  have hoff := lossNoted_off_writes n 8 (disabling n s)
  have hcool := cooldown_writes n 0 9 (portOff n (lossNoted n 8 (disabling n s)))
  obtain ⟨hlink', hstate, -, hexit⟩ := cooldown_portOff_effect (s := lossNoted n 8 (disabling n s)) hnoted hn
    (by rwa [lossNoted_ppc, disabling_ppc]) 0 (by decide : 9 < 16)
  rw [jxlDisable_of_up hs hn hen hmode hlink hst]
  refine ⟨?_, hlink', ?_, ?_, ?_, hstate, hexit⟩
  · rw [hcool.flagPort hn F.JXL_P_CFG_EN (by decide), hoff.flagPort hn F.JXL_P_CFG_EN (by decide), (disabling_cfg hs hn).1]
  · rw [hcool.port hn F.JXL_P_STAT_CAUSE (by decide), portOff_cause hnoted hn, lossNoted_cause hdis hn (by decide)]
  · rw [cooldown_buf _ (by rwa [portOff_jxl, lossNoted_jxl, disabling_jxl_length]), State.jp_eq_of_jxl (portOff_jxl n _),
      State.jp_eq_of_jxl (lossNoted_jxl n 8 _), disabling_buf hport]
  · rw [hcool.port hn F.JXL_P_RESYNC_DROP (by decide), hoff.port hn F.JXL_P_RESYNC_DROP (by decide), disabling_count hs hn]

end Disable

/-! ### Register requests (R164, R175) -/

section RegRequest

variable {n k a : Nat} {w : Bool} {s : State}

/-- The link state is in no request's control register. -/
theorem reqReg_ne_status (n k : Nat) : (F.JXL_P_REQ_BUSY n k).off ≠ (F.JXL_P_STAT_STATE n).off :=
  fun h => reqReg_not_counted n k (h ▸ .tail _ (.head _))

theorem reqReg_ne_wdata (n k : Nat) : (F.JXL_P_REQ_BUSY n k).off ≠ (F.JXL_P_REQ_WDATA n k).off := by
  simp only [F.JXL_P_REQ_BUSY, F.JXL_P_REQ_WDATA]
  omega

/-- A slot's address and direction are taken. -/
def regAsked (n k a : Nat) (w : Bool) (s : State) : State := (s.set (F.JXL_P_REQ_ADDR n k) a).set (F.JXL_P_REQ_WR n k) (b2n w)

theorem regAsked_writes (n k a : Nat) (w : Bool) (s : State) : s.Writes [(F.JXL_P_REQ_BUSY n k).off] (regAsked n k a w s) :=
  ((State.Writes.refl s _).set (f := F.JXL_P_REQ_ADDR n k) (.head _) a).set (f := F.JXL_P_REQ_WR n k) (.head _) _

theorem regAsked_link (n k a : Nat) (w : Bool) (s : State) : (regAsked n k a w s).link n = s.link n :=
  (regAsked_writes n k a w s).get (f := F.JXL_P_STAT_STATE n) (List.mem_singleton.not.2 (reqReg_ne_status n k).symm)

theorem regAsked_out (n k a : Nat) (w : Bool) (s : State) : (regAsked n k a w s).out = s.out := by
  rw [regAsked, State.set_out, State.set_out]

theorem regAsked_busy (hs : s.regsWf) : (regAsked n k a w s).flag (F.JXL_P_REQ_BUSY n k) = s.flag (F.JXL_P_REQ_BUSY n k) := by
  rw [regAsked, State.flag_set_ne (State.set_regsWf hs _ _) (F.JXL_P_REQ_WR n k) (F.JXL_P_REQ_BUSY n k) _ (bit_ok _ (by decide))
      (.inr (.inl (by decide : 16 < 18))),
    State.flag_set_ne hs (F.JXL_P_REQ_ADDR n k) (F.JXL_P_REQ_BUSY n k) _ (fld_ok _ (by decide)) (.inr (.inl (by decide : 15 < 18)))]

theorem regRequest_of_busy (h : s.flag (F.JXL_P_REQ_BUSY n k) = true) : regRequest n k a w s = s := if_pos h

/-- A link that is down completes the request with LINK_LOST. -/
theorem regRequest_of_down (hbusy : s.flag (F.JXL_P_REQ_BUSY n k) = false) (hlink : s.link n = 0 ∨ s.link n = 5) :
    regRequest n k a w s = (regAsked n k a w s).set (F.JXL_P_REQ_STATUS n k) 3 := by
  have hdown : (!([1, 2, 3, 4].contains ((regAsked n k a w s).link n))) = true := by
    rw [regAsked_link]
    rcases hlink with h | h <;> rw [h] <;> rfl
  rw [regRequest, hbusy, if_neg Bool.false_ne_true]
  exact if_pos hdown

theorem regRequest_down_effect (hs : s.regsWf) (hbusy : s.flag (F.JXL_P_REQ_BUSY n k) = false) (hlink : s.link n = 0 ∨ s.link n = 5) :
    (regRequest n k a w s).get (F.JXL_P_REQ_STATUS n k) = 3 ∧ (regRequest n k a w s).flag (F.JXL_P_REQ_BUSY n k) = false ∧
    (regRequest n k a w s).out = s.out := by
  have hasked := (regAsked_writes n k a w s).wf hs
  rw [regRequest_of_down hbusy hlink]
  refine ⟨State.get_set_fits hasked _ (reqStatus_ok n k) (by decide : 3 < 2 ^ 2), ?_, ?_⟩
  · rw [State.flag_set_ne hasked _ _ _ (reqStatus_ok n k) (.inr (.inr (by decide : 18 < 20))), regAsked_busy hs, hbusy]
  · rw [State.set_out, regAsked_out]

/-- The frame of a request: WRITE carries the slot's data. -/
def reqFrame (n k a : Nat) (w : Bool) (data : Nat) : Out :=
  if w then .back n 0x04 (leBytes 1 k ++ leBytes 2 a ++ leBytes 4 data) else .back n 0x05 (leBytes 1 k ++ leBytes 2 a)

/-- On a link that is up the request is outstanding and leaves. -/
theorem regRequest_of_up (hbusy : s.flag (F.JXL_P_REQ_BUSY n k) = false) (h1 : 1 ≤ s.link n) (h4 : s.link n ≤ 4) :
    regRequest n k a w s = ((regAsked n k a w s).raise (F.JXL_P_REQ_BUSY n k)).emit (reqFrame n k a w (s.get (F.JXL_P_REQ_WDATA n k))) := by
  have hup : ¬(!([1, 2, 3, 4].contains ((regAsked n k a w s).link n))) = true := by
    rw [regAsked_link, retryable_contains h1 h4]
    decide
  have hdata : ((regAsked n k a w s).raise (F.JXL_P_REQ_BUSY n k)).get (F.JXL_P_REQ_WDATA n k) = s.get (F.JXL_P_REQ_WDATA n k) :=
    ((regAsked_writes n k a w s).set (f := F.JXL_P_REQ_BUSY n k) (.head _) 1).get (List.mem_singleton.not.2 (reqReg_ne_wdata n k).symm)
  rw [regRequest, hbusy, if_neg Bool.false_ne_true, ← hdata]
  refine (if_neg hup).trans ?_
  cases w <;> rfl

theorem regRequest_up_effect (hs : s.regsWf) (hbusy : s.flag (F.JXL_P_REQ_BUSY n k) = false) (h1 : 1 ≤ s.link n) (h4 : s.link n ≤ 4) :
    (regRequest n k a w s).flag (F.JXL_P_REQ_BUSY n k) = true ∧
    (regRequest n k a w s).out = reqFrame n k a w (s.get (F.JXL_P_REQ_WDATA n k)) :: s.out := by
  rw [regRequest_of_up hbusy h1 h4]
  refine ⟨?_, ?_⟩
  · rw [State.emit_flag, State.flag_raise ((regAsked_writes n k a w s).wf hs) _ (reqBusy_ok n k)]
  · rw [State.emit_out, State.raise_out, regAsked_out]

end RegRequest

/-! ### Rows with the ingress domain on -/

section Rows

variable {n : Nat} {s : State} (hon : s.ingOn = true) (hn : n < 16)
include hon hn

theorem exec_jxlEnable_bench : exec (.jxlEnable .bench n) s = .next (jxlEnable n s) := by
  rw [exec_jxlEnable, execJxlEnable, State.guardWrite_firmware hon (by decide) rfl, if_pos hn]

theorem exec_jxlDisable_bench : exec (.jxlDisable .bench n) s = .next (jxlDisable n s) := by
  rw [exec_jxlDisable, execJxlDisable, State.guardWrite_firmware hon (by decide) rfl, if_pos hn]

theorem exec_regRequestGo_bench {k : Nat} (hk : k < 4) (a : Nat) (w : Bool) :
    exec (.regRequestGo .bench n k a w) s = .next (regRequest n k a w s) := by
  rw [exec_regRequestGo, execRegRequestGo, State.guardWrite_firmware hon (by decide) rfl, if_pos ⟨hn, hk⟩]

theorem exec_lostRetry_on : exec (.lostRetry n) s = .next (lostRetry n s) := by
  simp [exec_lostRetry, execLostRetry, hon, hn]

omit hn in
theorem exec_resetHeadSend_on : exec (.resetHeadSend n) s = .next (resetHead n s) := by
  rw [exec_resetHeadSend, execResetHeadSend, if_pos hon]

end Rows

/-! ### O17 -/

/-- Settles O17: losses by what a loss leaves outside and in STEP, the upkeep of a link frame by frame, EN and the register requests. -/
theorem jexlinkLinks : Obligations.JexlinkLinks := by
  unfold Obligations.JexlinkLinks
  refine ⟨⟨fun s n r hs hsz hon hn hfree hr hlink hst => ?_, fun s n r hs hsz hon hn hfree hr hlink hst => ?_,
      fun s n r hlink hr => exec_lossRow_of_not_mem hr hlink⟩,
    ⟨fun s n ev hs hsz htakes => ?_, fun s n hon hlink => ?_, fun s n hon h1 h4 => ?_, fun s n hon hlink => ?_,
      fun s n hon hlink hmore => ?_, fun s n hs hsz hn hon hlink hlast hcause => ?_, fun s n hs hsz hn hon hlink h1 h4 hretry => ?_,
      fun s n hs hsz hn hon hlink h1 h4 hretry => ?_⟩,
    ⟨fun s n hs hsz hon hn hmode hch hst => ?_, fun s n hs hsz hon hn hmode h3 h5 hlink => ?_,
      fun s n hs hsz hon hn hen hmode hlink hst => ?_, fun s n k a w hon hn hk hbusy => ?_,
      fun s n k a w hs hon hn hk hbusy hlink => ?_, fun s n k a w hs hon hn hk hbusy h1 h4 => ?_, fun s n k hon hbusy => ?_⟩⟩
  · have hle := lossRow_cause hr
    obtain ⟨hlost, hcause, hsync⟩ := portLost_link_status (cause := r.2.2) hs.regs hn hst (by omega) (by omega) (by omega)
    rw [exec_lossRow hr hfree, lossIn_of_mem hon hn hlink]
    obtain ⟨hcount, hresets, hmap, hended, hbuf, hout⟩ :=
      portLost_link_effect (cause := r.2.2) hs.regs hn (hsz.port_lt hn) hst (by omega) (by omega)
    exact ⟨_, rfl, hlost, hcause, hsync, hcount, hresets, hmap, hended, hbuf, hout⟩
  · have hle := lossRow_cause hr
    rw [exec_lossRow hr hfree, lossIn_of_mem hon hn hlink]
    exact ⟨_, rfl, portLost_step_effect hs.regs hn (hsz.chan_lt hn) hst (by omega)⟩
  · rw [exec_corruptPacket, execCorruptPacket, if_pos htakes]
    exact ⟨_, rfl, corrupt_effect hs.regs (hsz.port_lt (takesPackets_lt htakes)) ev⟩
  · rw [exec_configResend, execConfigResend, if_pos (by simp [hon, hlink])]
  · rw [exec_backchannelKeepaliveSend, execBackchannelKeepaliveSend, if_pos (by rw [hon, retryable_contains h1 h4, Bool.and_self])]
  · rw [exec_flowSend, execFlowSend, if_pos (by simp [hon, hlink]), sendFlow, freeCredits]
  · rw [exec_resetHeadSend_on hon, resetHead_of_more hlink hmore]
  · have hwf := State.setJp_regsWf hs.regs n { s.jp n with resets := 0 }
    obtain ⟨hoff, hstate, hca, hexit⟩ := cooldown_portOff_effect (back_regsWf hwf n 0x09 []) hn
      (by rw [back_ppc, State.setJp_ppc]; exact hsz.chan_lt hn) 9 (by decide : 8 < 16)
    rw [exec_resetHeadSend_on hon, resetHead_of_last hlink hlast hcause]
    refine ⟨_, rfl, hoff, hstate, hca, hexit, ?_⟩
    rw [cooldown_out, portOff_out, back_out, State.setJp_out]
  · have hwf := State.setJp_regsWf hs.regs n { s.jp n with retries := (s.jp n).retries + 1 }
    have hport := hsz.port_lt hn
    rw [exec_lostRetry_on hon hn, lostRetry_again hlink h1 h4 hretry]
    refine ⟨_, rfl, portTrain_link hwf, ?_, ?_⟩
    · rw [portTrain_jp (by rwa [State.setJp_jxl_length]), State.jp_setJp_same hport]
    · rw [portTrain, State.setJp_ppc, State.set_ppc, State.setJp_ppc]
  · have hwf := State.setJp_regsWf hs.regs n { s.jp n with retries := 0, resets := 0 }
    rw [exec_lostRetry_on hon hn, lostRetry_past_max hlink h1 h4 hretry]
    exact ⟨_, rfl, cooldown_portOff_effect hwf hn (by rw [State.setJp_ppc]; exact hsz.chan_lt hn) 1 (by decide)⟩
  · have hen := raiseEn_writes n s
    have hdet := detecting_writes n (s.raise (F.JXL_P_CFG_EN n))
    obtain ⟨hstate, hlim⟩ := detecting_status (n := n) (hen.wf hs.regs)
    rw [exec_jxlEnable_bench hon hn, jxlEnable_of_off hs.regs hn hmode hch hst]
    refine ⟨_, rfl, ?_, hstate, hlim, ?_⟩
    · rw [hdet.flagPort hn F.JXL_P_CFG_EN (by decide), State.flag_raise hs.regs _ (portEn_ok n)]
    · rw [State.link, hdet.port hn F.JXL_P_STAT_STATE (by decide), hen.port hn F.JXL_P_STAT_STATE (by decide), State.link]
  · have hen := raiseEn_writes n s
    have htrain := portTrain_writes n (s.raise (F.JXL_P_CFG_EN n))
    rw [exec_jxlEnable_bench hon hn, jxlEnable_of_power hs.regs hn hmode h3 h5 hlink]
    refine ⟨_, rfl, ?_, portTrain_link (hen.wf hs.regs), ?_, ?_⟩
    · rw [htrain.flagPort hn F.JXL_P_CFG_EN (by decide), State.flag_raise hs.regs _ (portEn_ok n)]
    · rw [portTrain_jp (by rw [State.raise_jxl]; exact hsz.port_lt hn)]
    · rw [State.chState, htrain.port hn F.PPC_CH_STAT_STATE (by decide), hen.port hn F.PPC_CH_STAT_STATE (by decide), State.chState]
  · rw [exec_jxlDisable_bench hon hn]
    exact ⟨_, rfl, jxlDisable_effect hs.regs hn (hsz.port_lt hn) (hsz.chan_lt hn) hen hmode hlink hst⟩
  · rw [exec_regRequestGo_bench hon hn hk, regRequest_of_busy hbusy]
  · rw [exec_regRequestGo_bench hon hn hk]
    exact ⟨_, rfl, regRequest_down_effect hs.regs hbusy hlink⟩
  · rw [exec_regRequestGo_bench hon hn hk]
    exact ⟨_, rfl, regRequest_up_effect hs.regs hbusy h1 h4⟩
  · rw [exec_regRequestTimeout, execRegRequestTimeout, if_pos (by rw [hon, hbusy, Bool.and_self])]

end Sys2Proof.Machine

/-!
PROOF. CSI-2 packets (04 R167 to R171): the FIFO of a port, and `CsiPackets`.
-/

namespace Sys2Proof.Machine

/-! ### A CSI-2 port and the queue in front of its parser -/

theorem State.cp_setCp_same {s : State} {n : Nat} (h : n < s.csi.length) (c : CsiPort) : (s.setCp n c).cp n = c :=
  getD_set_same _ _ _ _ h

theorem State.setCp_setCp (s : State) (n : Nat) (c d : CsiPort) : (s.setCp n c).setCp n d = s.setCp n d := by
  rw [State.setCp, State.setCp, State.setCsi_csi, List.set_set]
  rfl

theorem csiOn_lt {s : State} {n : Nat} (h : csiOn s n = true) : n < 4 := by
  simp only [csiOn, Bool.and_eq_true, decide_eq_true_eq] at h
  exact h.1.1.2

theorem State.Sized.csiOn_lt {s : State} (hs : s.Sized) {n : Nat} (h : csiOn s n = true) : n < s.csi.length := by
  rw [hs.csi]
  exact Machine.csiOn_lt h

/-- What the short packets at the head of the FIFO leave: registers and ports, and a program that runs or stands. -/
theorem drainShort_frame (n : Nat) (l : List CsiItem) : ∀ {s : State}, n < s.csi.length →
    (drainShort n l s).regs = s.regs ∧ ((drainShort n l s).cp n).running = (s.cp n).running := by
  induction l with
  | nil => exact fun _ => ⟨rfl, rfl⟩
  | cons i l ih =>
    intro s hn
    have hset (c : CsiPort) : n < (s.setCp n c).csi.length := hn.trans_eq List.length_set.symm
    cases i with
    | long dt pay => exact ⟨rfl, rfl⟩
    | frameStart t =>
      obtain ⟨hregs, hrun⟩ := ih (hset { s.cp n with fifo := l, tfs := t, v := (s.cp n).v.set 7 0 })
      exact ⟨hregs, hrun.trans (by rw [State.cp_setCp_same hn])⟩
    | other =>
      obtain ⟨hregs, hrun⟩ := ih (hset { s.cp n with fifo := l })
      exact ⟨hregs, hrun.trans (by rw [State.cp_setCp_same hn])⟩

/-! ### The rows -/

theorem exec_csiFrameStart (n vc : Nat) (s : State) : exec (.csiFrameStart n vc) s = execCsiFrameStart n vc s := rfl
theorem exec_csiLongPacket (n vc dt : Nat) (pay : List Byte) (h : HeaderCheck) (ok : Bool) (s : State) :
    exec (.csiLongPacket n vc dt pay h ok) s = execCsiLongPacket n vc dt pay h ok s := rfl

section ShortPackets

variable {s : State} {n : Nat} (hon : csiOn s n = true) (it : State → CsiItem)
include hon

/-- R167: a packet of another virtual channel is discarded and counted. -/
theorem shortPacket_of_other_channel {vc : Nat} (h : vc ≠ s.get (F.JXL_P_CSI_CFG_VC n)) :
    shortPacket n vc it s = s.inc (F.JXL_P_CSI_DT_DISC n) := by
  rw [shortPacket, hon, if_neg (by decide), if_pos h]

/-- R171: behind a running program a short packet waits. -/
theorem shortPacket_of_running (h : (s.cp n).running = true) : shortPacket n (s.get (F.JXL_P_CSI_CFG_VC n)) it s =
    s.setCp n { s.cp n with fifo := (s.cp n).fifo ++ [it s] } := by
  rw [shortPacket, hon, if_neg (by decide), if_neg (not_not.2 rfl)]
  exact if_pos h

/-- R171: behind nothing it acts at once. -/
theorem shortPacket_of_idle (hn : n < s.csi.length) (h : (s.cp n).running = false) (hfifo : (s.cp n).fifo = []) :
    shortPacket n (s.get (F.JXL_P_CSI_CFG_VC n)) it s = drainShort n [it s] (s.setCp n { s.cp n with fifo := [it s] }) := by
  rw [shortPacket, hon, if_neg (by decide), if_neg (not_not.2 rfl)]
  simp only [h, hfifo, List.nil_append, State.cp_setCp_same hn, Bool.false_eq_true, if_false]

end ShortPackets

/-- R169: Frame Start at the head of the FIFO latches T_FS and clears v7. -/
theorem drainShort_frameStart {s : State} {n : Nat} (hn : n < s.csi.length) (c : CsiPort) (t : Int) :
    drainShort n [.frameStart t] (s.setCp n c) = s.setCp n { c with fifo := [], tfs := t, v := c.v.set 7 0 } := by
  simp only [drainShort, State.setCp_setCp, State.cp_setCp_same hn]

theorem drainShort_other {s : State} {n : Nat} (hn : n < s.csi.length) (c : CsiPort) :
    drainShort n [.other] (s.setCp n c) = s.setCp n { c with fifo := [] } := by
  simp only [drainShort, State.setCp_setCp, State.cp_setCp_same hn]

/-! ### Long packets -/

section LongPackets

variable {s : State} {n k : Nat} {pay : List Byte} (hon : csiOn s n = true)
include hon

/-- R167: a header that cannot be corrected. -/
theorem longPacket_of_bad_header (vc dt : Nat) (ok : Bool) : longPacket n vc dt pay .bad ok s = s.inc (F.JXL_P_CSI_HDR_BAD n) := by
  rw [longPacket, hon, if_neg (by decide), if_pos rfl]

variable (hk : k < 8) (hen : bitOf (s.get (F.JXL_P_CSI_CFG_DT_EN n)) k = true) (hill : s.flag (F.JXL_P_CSI_STAT n) = false)
include hk hen hill

/-- R168, R170: what becomes of a packet of an enabled type that a running parser takes: its length, its CRC and the room decide. -/
theorem longPacket_of_enabled (ok : Bool) : longPacket n (s.get (F.JXL_P_CSI_CFG_VC n)) (0x30 + k) pay .good ok s =
    if 16384 < pay.length then s.inc (F.JXL_P_CSI_LONG n)
    else if !ok then s.inc (F.JXL_P_CSI_CRC_ERR n)
    else if 16384 < csiBytes (s.cp n).fifo + pay.length then s.inc (F.JXL_P_CSI_PARSE_OVF n)
    else s.setCp n { s.cp n with fifo := (s.cp n).fifo ++ [.long (0x30 + k) pay] } := by
  have hdt : 0x30 ≤ 0x30 + k ∧ 0x30 + k ≤ 0x37 := by omega
  simp [longPacket, hon, hen, hill, hdt]

end LongPackets

/-! ### The statement -/

/-- Settles O18: a short packet by whether a program runs, a long one by the cases of `longPacket`. -/
theorem csiPackets : Obligations.CsiPackets := by
  refine ⟨fun s n hs hsz hon hrun hfifo => ?_, fun s n c hs hsz hc hon => ?_, fun s n hon hrun => ?_, fun s n vc hon hvc c hc => ?_,
    fun s n vc dt pay crc hon => ?_, fun s n k pay hon hk hen hill => ⟨fun hlong => ?_, fun hlen => ?_, fun hroom => ?_⟩⟩
  · have hn := hsz.csiOn_lt hon
    rw [exec_csiFrameStart, execCsiFrameStart, shortPacket_of_idle hon _ hn hrun hfifo, drainShort_frameStart hn]
    exact ⟨_, rfl, by simp only [State.cp_setCp_same hn, hfifo], State.setCp_regs _ _ _, State.setCp_jxl _ _ _⟩
  · have hn := hsz.csiOn_lt hon
    have hrow : exec c s = .next (shortPacket n (s.get (F.JXL_P_CSI_CFG_VC n)) (fun _ => .other) s) := by
      simp only [List.mem_cons, List.not_mem_nil, or_false] at hc
      rcases hc with rfl | rfl | rfl <;> rfl
    rw [hrow]
    refine ⟨fun hrun hfifo => ?_, fun hrun => by rw [shortPacket_of_running hon _ hrun]⟩
    rw [shortPacket_of_idle hon _ hn hrun hfifo, drainShort_other hn]
    exact ⟨_, rfl, by simp only [State.cp_setCp_same hn, ← hfifo], State.setCp_regs _ _ _, State.setCp_jxl _ _ _⟩
  · rw [exec_csiFrameStart, execCsiFrameStart, shortPacket_of_running hon _ hrun]
  · simp only [List.mem_cons, List.not_mem_nil, or_false] at hc
    rcases hc with rfl | rfl | rfl | rfl <;> exact congrArg _ (shortPacket_of_other_channel hon _ hvc)
  · rw [exec_csiLongPacket, execCsiLongPacket, longPacket_of_bad_header hon]
  · rw [exec_csiLongPacket, execCsiLongPacket, longPacket_of_enabled hon hk hen hill, if_pos hlong]
  · rw [exec_csiLongPacket, execCsiLongPacket, longPacket_of_enabled hon hk hen hill, if_neg (Nat.not_lt.2 hlen)]
    rfl
  · rw [exec_csiLongPacket, execCsiLongPacket, longPacket_of_enabled hon hk hen hill, if_neg (by omega), if_neg (by decide),
      if_neg (Nat.not_lt.2 hroom)]

end Sys2Proof.Machine

/-!
PROOF. The format parser (04 R169 to R172): what an instruction leaves, EMIT and its stall, the ends of a program; `Parser`.
-/

namespace Sys2Proof.Machine

theorem exec_parserProgramStart (n : Nat) (s : State) : exec (.parserProgramStart n) s = execParserProgramStart n s := rfl
theorem exec_parserEnd (n : Nat) (s : State) : exec (.parserEnd n) s = execParserEnd n s := rfl
theorem exec_parserLd (n : Nat) (s : State) : exec (.parserLd n) s = execParserLd n s := rfl
theorem exec_parserSkip (n : Nat) (s : State) : exec (.parserSkip n) s = execParserSkip n s := rfl
theorem exec_parserLdi (n : Nat) (s : State) : exec (.parserLdi n) s = execParserLdi n s := rfl
theorem exec_parserAdd (n : Nat) (s : State) : exec (.parserAdd n) s = execParserAdd n s := rfl
theorem exec_parserExt (n : Nat) (s : State) : exec (.parserExt n) s = execParserExt n s := rfl
theorem exec_parserBeq (n : Nat) (s : State) : exec (.parserBeq n) s = execParserBeq n s := rfl
theorem exec_parserBne (n : Nat) (s : State) : exec (.parserBne n) s = execParserBne n s := rfl
theorem exec_parserJmp (n : Nat) (s : State) : exec (.parserJmp n) s = execParserJmp n s := rfl
theorem exec_parserEmit (n : Nat) (s : State) : exec (.parserEmit n) s = execParserEmit n s := rfl
theorem exec_parserEmitResume (n : Nat) (s : State) : exec (.parserEmitResume n) s = execParserEmitResume n s := rfl
theorem exec_parserUnusedOpcode (n : Nat) (s : State) : exec (.parserUnusedOpcode n) s = execParserUnusedOpcode n s := rfl
theorem exec_parserWatchdog (n : Nat) (s : State) : exec (.parserWatchdog n) s = execParserWatchdog n s := rfl

theorem parserOp_of_at {s : State} {n op : Nat} (h : parserAt s n op = true) (f : Nat → CsiPort → State → State) :
    parserOp op n f s = f (parserWord s n) (s.cp n) s := if_pos h

theorem csiOn_of_parserAt {s : State} {n op : Nat} (h : parserAt s n op = true) : csiOn s n = true := by
  simp only [parserAt, Bool.and_eq_true] at h
  exact h.1.1.1.1

/-! ### The ends of a program -/

theorem parserEnd_of_empty_fifo {s : State} {n : Nat} (hn : n < s.csi.length) (h : (s.cp n).fifo = []) :
    parserEnd n s = s.setCp n { s.cp n with running := false, stalled := false, payload := [] } := by
  simp only [parserEnd, State.cp_setCp_same hn, h, drainShort]

/-- However a program ends, it stands then, and the registers are as they were. -/
theorem parserEnd_frame {s : State} {n : Nat} (hn : n < s.csi.length) :
    (parserEnd n s).regs = s.regs ∧ ((parserEnd n s).cp n).running = false := by
  have hlen : n < (s.setCp n { s.cp n with running := false, stalled := false, payload := [] }).csi.length :=
    hn.trans_eq List.length_set.symm
  obtain ⟨hregs, hrun⟩ := drainShort_frame n ((s.setCp n _).cp n).fifo hlen
  exact ⟨hregs, hrun.trans (by rw [State.cp_setCp_same hn])⟩

/-! ### EMIT -/

section Emit

variable {s : State} {n : Nat}

/-- EMIT's event joins the port buffer and is counted (R169, R172); the parser goes on behind it. -/
theorem parserPut_effect (hs : s.regsWf) (hn : n < s.jxl.length) (c d : CsiPort) (pc : Nat) :
    let t := parserGo n pc false d (parserPut n c s)
    (t.jp n).buf = (s.jp n).buf ++ [⟨c.v.getD 4 0, c.v.getD 5 0, bitOf (c.v.getD 6 0) 0, 0, c.tfs + 125 * (c.v.getD 7 0 : Int), false⟩] ∧
    t.get (F.JXL_P_EV_IN n) = min (2 ^ 32 - 1) (s.get (F.JXL_P_EV_IN n) + 1) := by
  refine ⟨?_, ?_⟩
  · rw [parserGo, parserPut, State.jp, State.setCp_jxl, State.inc_jxl, ← State.jp, State.jp_setJp_same hn]
  · rw [parserGo, State.setCp_get]
    exact State.get_inc_same hs _ (word_ok _)

theorem parserPut_csi (c : CsiPort) : (parserPut n c s).csi = s.csi := by
  rw [parserPut, State.inc_csi, State.setJp_csi]

theorem parserGo_cp {t : State} (h : t.csi = s.csi) (hn : n < s.csi.length) (pc : Nat) (ld : Bool) (c : CsiPort) :
    (parserGo n pc ld c t).cp n = { c with pc := pc % 128, idle := if ld then 0 else c.idle + 1 } :=
  State.cp_setCp_same (by rwa [h]) _

end Emit

/-! ### The statement -/

/-- Settles O19: each instruction by its row, EMIT by the range and the room, the ends of a program by `parserEnd_frame`. -/
theorem parser : Obligations.Parser := by
  refine ⟨fun s n _ => ⟨fun hat hfit => ?_, fun hat hend => ?_, fun hat hfit => ?_, fun hat hend => ?_, fun hat => ?_, fun hat => ?_,
      fun hat => ?_, fun hat => ?_, fun hat => ?_, fun hat => ?_⟩,
    fun s n dt pay l hon hrun hill hfifo => ?_, fun s n hsz hat hfifo => ?_,
    fun s n hs hsz hat hx hy hv => ⟨fun hroom => ?_, fun hfull => ?_⟩, fun s n hs hsz hat hout => ?_,
    fun s n hs hsz hon hrun hst hroom => ?_, fun s n hat => ?_, fun s n hs hsz hon hrun hidle => ?_⟩
  · rw [parserLeaves, exec_parserLd, execParserLd, parserOp_of_at hat, if_neg (Nat.not_lt.2 hfit)]
    rfl
  · rw [exec_parserLd, execParserLd, parserOp_of_at hat, if_pos hend]
  · rw [parserLeaves, exec_parserSkip, execParserSkip, parserOp_of_at hat, if_neg (Nat.not_lt.2 hfit)]
    rfl
  · rw [exec_parserSkip, execParserSkip, parserOp_of_at hat, if_pos hend]
  · rw [parserLeaves, exec_parserLdi, execParserLdi, parserOp_of_at hat]
    rfl
  · rw [parserLeaves, exec_parserAdd, execParserAdd, parserOp_of_at hat]
    rfl
  · rw [parserLeaves, exec_parserExt, execParserExt, parserOp_of_at hat]
    rfl
  · rw [parserLeaves, exec_parserBeq, execParserBeq, parserOp_of_at hat]
    rfl
  · rw [parserLeaves, exec_parserBne, execParserBne, parserOp_of_at hat, ite_not]
    rfl
  · rw [parserLeaves, exec_parserJmp, execParserJmp, parserOp_of_at hat]
    rfl
  · rw [exec_parserProgramStart, execParserProgramStart, hon, hrun, hill, hfifo]
    rfl
  · have hn := hsz.csiOn_lt (csiOn_of_parserAt hat)
    rw [exec_parserEnd, execParserEnd, parserOp_of_at hat, parserEnd_of_empty_fifo hn hfifo]
    exact ⟨_, rfl, State.cp_setCp_same hn _, State.setCp_regs _ _ _⟩
  · have hn := hsz.csiOn_lt (csiOn_of_parserAt hat)
    have hport : n < s.jxl.length := by rw [hsz.jxl]; have := csiOn_lt (csiOn_of_parserAt hat); omega
    rw [exec_parserEmit, execParserEmit, parserOp_of_at hat, if_neg (by omega), if_neg (by omega)]
    obtain ⟨hbuf, hcount⟩ := parserPut_effect hs.regs hport (s.cp n) (s.cp n) ((s.cp n).pc + 1)
    exact ⟨_, rfl, hbuf, hcount, by rw [parserGo_cp (parserPut_csi _) hn], by rw [parserGo_cp (parserPut_csi _) hn]⟩
  · rw [exec_parserEmit, execParserEmit, parserOp_of_at hat, if_neg (by omega), if_pos hfull]
  · have hn := hsz.csiOn_lt (csiOn_of_parserAt hat)
    rw [exec_parserEmit, execParserEmit, parserOp_of_at hat, if_pos hout]
    refine ⟨_, rfl, ?_, by rw [parserGo, State.setCp_jxl, State.inc_jxl], by rw [parserGo_cp (State.inc_csi _ _) hn]⟩
    rw [parserGo, State.setCp_get]
    exact State.get_inc_same hs.regs _ (word_ok _)
  · have hn := hsz.csiOn_lt hon
    have hport : n < s.jxl.length := by rw [hsz.jxl]; have := csiOn_lt hon; omega
    have hgo : (csiOn s n && (s.cp n).running && (s.cp n).stalled && decide ((s.jp n).buf.length < 32768)) = true := by
      simp [hon, hrun, hst, hroom]
    rw [exec_parserEmitResume, execParserEmitResume, if_pos hgo]
    obtain ⟨hbuf, -⟩ := parserPut_effect hs.regs hport (s.cp n) { s.cp n with stalled := false } ((s.cp n).pc + 1)
    dsimp only
    refine ⟨_, rfl, by rw [parserGo_cp (parserPut_csi _) hn], by rw [parserGo_cp (parserPut_csi _) hn], ?_⟩
    exact (congrArg List.length hbuf).trans List.length_append
  · rw [exec_parserUnusedOpcode, execParserUnusedOpcode, parserOp_of_at hat]
  · have hn := hsz.csiOn_lt hon
    have hgo : (csiOn s n && (s.cp n).running && decide (4096 ≤ (s.cp n).idle)) = true := by simp [hon, hrun, hidle]
    rw [exec_parserWatchdog, execParserWatchdog, if_pos hgo]
    obtain ⟨hregs, hstop⟩ := parserEnd_frame (s := s.inc (F.JXL_P_CSI_WDOG n)) (by rwa [State.inc_csi])
    refine ⟨_, rfl, ?_, hstop⟩
    rw [State.get, State.reg, hregs]
    exact State.get_inc_same hs.regs _ (word_ok _)

end Sys2Proof.Machine

/-!
PROOF. Port power (05): the fields an operation writes, which tell the fields of one status register apart, and a channel that starts,
detects, ramps and steps.
-/

namespace Sys2Proof.Machine

/-! ### The fields an operation writes -/

/-- `t` is reached from `s` by writes of the fields `l` alone, and the register file keeps its canonical form: `State.Writes` for the
fields of one register. -/
structure State.Reaches (s t : State) (l : List Fld) : Prop where
  wf : s.regsWf → t.regsWf
  get : s.regsWf → ∀ g, (∀ f ∈ l, f.ok ∧ f.apart g) → t.get g = s.get g

section Reaches

variable {s t u : State} {l m : List Fld}

theorem State.Reaches.refl (s : State) : s.Reaches s [] := ⟨id, fun _ _ _ => rfl⟩

theorem State.Reaches.set (h : s.Reaches t l) {f : Fld} {v : Nat} : s.Reaches (t.set f v) (f :: l) :=
  ⟨fun hs => State.set_regsWf (h.wf hs) f v, fun hs g hg =>
    (State.get_set_ne (h.wf hs) f g v (hg f (.head _)).1 (hg f (.head _)).2).trans (h.get hs g fun k hk => hg k (.tail _ hk))⟩

/-- What leaves the register file alone writes no field. -/
theorem State.Reaches.of_regs (h : s.Reaches t l) (hu : u.regs = t.regs) : s.Reaches u l :=
  ⟨fun hs => by rw [State.regsWf, hu]; exact h.wf hs, fun hs g hg => by rw [State.get, State.reg, hu]; exact h.get hs g hg⟩

theorem State.Reaches.trans (h : s.Reaches t l) (g : t.Reaches u m) : s.Reaches u (m ++ l) :=
  ⟨g.wf ∘ h.wf, fun hs k hk => (g.get (h.wf hs) k fun f hf => hk f (List.mem_append_left _ hf)).trans
    (h.get hs k fun f hf => hk f (List.mem_append_right _ hf))⟩

theorem State.Reaches.flag (h : s.Reaches t l) (hs : s.regsWf) (g : Fld) (hg : ∀ f ∈ l, f.ok ∧ f.apart g) : t.flag g = s.flag g := by
  rw [State.flag, h.get hs g hg, State.flag]

variable {n k v : Nat} {r : Nat → List Fld}

/-- A field of channel `n` apart from what is written keeps its value: that it lies apart is seen channel by channel. -/
theorem State.Reaches.chan (hn : n < k) (h : s.Reaches t (r n)) (hs : s.regsWf) (g : Nat → Fld)
    (hg : ∀ m < k, ∀ f ∈ r m, f.ok ∧ f.apart (g m)) : t.get (g n) = s.get (g n) := h.get hs _ (hg n hn)

theorem State.Reaches.flagChan (hn : n < k) (h : s.Reaches t (r n)) (hs : s.regsWf) (g : Nat → Fld)
    (hg : ∀ m < k, ∀ f ∈ r m, f.ok ∧ f.apart (g m)) : t.flag (g n) = s.flag (g n) := h.flag hs _ (hg n hn)

/-- A field of channel `n` shows what was put there, whatever is written apart from it afterwards. -/
theorem State.Reaches.value (hn : n < k) (g : Nat → Fld) (r : Nat → List Fld) (h : (s.set (g n) v).Reaches t (r n)) (hs : s.regsWf)
    (hv : v < 2 ^ ((g n).hi + 1 - (g n).lo)) (hg : ∀ m < k, (g m).ok ∧ ∀ f ∈ r m, f.ok ∧ f.apart (g m)) : t.get (g n) = v :=
  (h.get (State.set_regsWf hs _ _) _ (hg n hn).2).trans (State.get_set_fits hs _ (hg n hn).1 hv)

/-- A flag of channel `n` that was cleared stays cleared, whatever is written apart from it afterwards. -/
theorem State.Reaches.cleared (hn : n < k) (g : Nat → Fld) (r : Nat → List Fld) (h : (s.clear (g n)).Reaches t (r n)) (hs : s.regsWf)
    (hg : ∀ m < k, (g m).ok ∧ ∀ f ∈ r m, f.ok ∧ f.apart (g m)) : t.flag (g n) = false :=
  (h.flag (State.clear_regsWf hs _) _ (hg n hn).2).trans (State.flag_clear hs _ (hg n hn).1)

/-- A register of channel `n` beside those written keeps its fields. -/
theorem State.Writes.chan {r : Nat → List Nat} (hn : n < k) (h : s.Writes (r n) t) (f : Nat → Fld) (hf : ∀ m < k, (f m).off ∉ r m) :
    t.get (f n) = s.get (f n) := h.get (hf n hn)

theorem State.Writes.flagChan {r : Nat → List Nat} (hn : n < k) (h : s.Writes (r n) t) (f : Nat → Fld)
    (hf : ∀ m < k, (f m).off ∉ r m) : t.flag (f n) = s.flag (f n) := h.flag (hf n hn)

end Reaches

/-! ### Rows of a channel -/

/-- A write of one register of ING by Bench has its effect while ING is on (R20). -/
theorem State.guardWrite_ing {s : State} (hon : s.ingOn = true) (off : Nat) (f : State → State) :
    s.guardWrite s.ingOn .bench .bench off f = f s :=
  State.guardWrite_firmware hon (by decide) rfl off f

section OnChan

variable {s : State} {n : Nat} {sts : List Nat}

theorem onChan_of_mem (hon : s.ingOn = true) (hn : n < 17) (h : s.chState n ∈ sts) (f : State → State) : onChan n sts f s = f s := by
  rw [onChan, if_pos (by simp [hon, hn, h])]

theorem onChan_of_not_mem (h : s.chState n ∉ sts) (f : State → State) : onChan n sts f s = s := by
  rw [onChan, if_neg (by simp [h])]

end OnChan

end Sys2Proof.Machine

/-!
PROOF. A channel that is enabled, detects, ramps and steps (05 R184 to R190, R194, R206).
-/

namespace Sys2Proof.Machine

theorem exec_ppcEnable (a : Agent) (n : Nat) (s : State) : exec (.ppcEnable a n) s = execPpcEnable a n s := rfl
theorem exec_ppcDisable (a : Agent) (n : Nat) (s : State) : exec (.ppcDisable a n) s = execPpcDisable a n s := rfl
theorem exec_ppcClr (a : Agent) (n : Nat) (s : State) : exec (.ppcClr a n) s = execPpcClr a n s := rfl
theorem exec_detectPointEnd (n mv na : Nat) (s : State) : exec (.detectPointEnd n mv na) s = execDetectPointEnd n mv na s := rfl
theorem exec_detectRetry (n : Nat) (s : State) : exec (.detectRetry n) s = execDetectRetry n s := rfl
theorem exec_ramp1End (n mv : Nat) (s : State) : exec (.ramp1End n mv) s = execRamp1End n mv s := rfl
theorem exec_stepComplete (n mv : Nat) (s : State) : exec (.stepComplete n mv) s = execStepComplete n mv s := rfl
theorem exec_currentLimit (n i : Nat) (s : State) : exec (.currentLimit n i) s = execCurrentLimit n i s := rfl

theorem chLim_ok (n : Nat) : (F.PPC_CH_LIM_ILIM n).ok := fld_ok _ (by decide)
theorem chEn_ok (n : Nat) : (F.PPC_CH_CTL_EN n).ok := bit_ok _ (by decide)

theorem chLoad_regsWf {s : State} (hs : s.regsWf) (n : Nat) : (chLoad n s).regsWf := hs
theorem chLoad_ppc_length (n : Nat) (s : State) : (chLoad n s).ppc.length = s.ppc.length := State.setCh_ppc_length _ _ _

/-! ### The channel starts (R186) -/

/-- The fields of a channel that starts. -/
def startFlds (n : Nat) : List Fld := [F.PPC_CH_LIM_ILIM n, F.PPC_CH_STAT_SIG n, F.PPC_CH_STAT_STATE n]

/-- The field EN of a channel. -/
def chEnFlds (n : Nat) : List Fld := [F.PPC_CH_CTL_EN n]

section Start

variable {n : Nat} {s : State}

theorem mayPower_iff (hn : n < 16) : mayPower s n = true ↔
    s.flag (F.PPC_CH_CTL_EN n) = true ∧ s.flag (F.JXL_P_CFG_EN n) = true ∧ s.flag (F.JXL_P_CFG_MODE n) = false := by
  simp [mayPower, hn.ne]

theorem chanStart_of_mayPower (hn : n < 16) (h : mayPower s n = true) : chanStart n s = detecting n s := by
  obtain ⟨hch, hen, hmode⟩ := (mayPower_iff hn).1 h
  exact chanStart_of_enabled hn hch hen hmode

/-- Channel 16 has no port and no detection. -/
theorem chanStart_antenna (h : s.flag (F.PPC_CH_CTL_EN 16) = true) :
    chanStart 16 s = (chLoad 16 s).set (F.PPC_CH_STAT_STATE 16) 2 := by
  simp [chanStart, mayPower, h]

theorem detecting_reaches (n : Nat) (s : State) : s.Reaches (detecting n s) (startFlds n) :=
  .set (.set (.set (.of_regs (.refl s) (by rfl))))

/-- A new detection: no signature and no point. -/
theorem detecting_effect (hs : s.regsWf) (hn : n < 16) (hch : n < s.ppc.length) : (detecting n s).chState n = 1 ∧
    (detecting n s).get (F.PPC_CH_LIM_ILIM n) = 5 ∧ (detecting n s).get (F.PPC_CH_STAT_SIG n) = 0 ∧
    ((detecting n s).ch n).points = [] := by
  have hload : ((chLoad n s).setCh n { (chLoad n s).ch n with points := [] }).regsWf := hs
  obtain ⟨hstate, hlim⟩ := detecting_status (n := n) hs
  refine ⟨hstate, hlim, ?_, ?_⟩
  · exact State.Reaches.value hn F.PPC_CH_STAT_SIG (fun n => [F.PPC_CH_LIM_ILIM n]) (.set (.refl _)) (State.set_regsWf hload _ _)
      (by decide : 0 < 2 ^ 2) (by decide)
  · rw [detecting, State.set_ch, State.clear, State.set_ch, State.set_ch, State.ch_setCh_same (by rwa [chLoad_ppc_length])]

theorem raiseChEn_reaches (n : Nat) (s : State) : s.Reaches (s.raise (F.PPC_CH_CTL_EN n)) (chEnFlds n) := .set (.refl s)

/-- EN of an enabled port whose channel is off (R186). -/
theorem ppcEnable_of_off (hs : s.regsWf) (hn : n < 16) (hmode : s.flag (F.JXL_P_CFG_MODE n) = false)
    (hen : s.flag (F.JXL_P_CFG_EN n) = true) (hst : s.chState n = 0) :
    ppcEnable n s = detecting n (s.raise (F.PPC_CH_CTL_EN n)) := by
  have hr := raiseChEn_reaches n s
  have hst' : (s.raise (F.PPC_CH_CTL_EN n)).chState n = 0 := (hr.chan hn hs F.PPC_CH_STAT_STATE (by decide)).trans hst
  simp only [ppcEnable, hmode, Bool.and_false, Bool.false_eq_true, if_false, hst', if_true]
  exact chanStart_of_enabled hn (State.flag_raise hs _ (chEn_ok n)) ((hr.flagChan hn hs F.JXL_P_CFG_EN (by decide)).trans hen)
    ((hr.flagChan hn hs F.JXL_P_CFG_MODE (by decide)).trans hmode)

theorem ppcEnable_antenna (hs : s.regsWf) (hst : s.chState 16 = 0) :
    ppcEnable 16 s = (chLoad 16 (s.raise (F.PPC_CH_CTL_EN 16))).set (F.PPC_CH_STAT_STATE 16) 2 := by
  have hst' : (s.raise (F.PPC_CH_CTL_EN 16)).chState 16 = 0 :=
    (State.get_set_of_off_ne s (F.PPC_CH_CTL_EN 16) (F.PPC_CH_STAT_STATE 16) 1 (by decide)).trans hst
  simp only [ppcEnable, lt_irrefl, decide_false, Bool.false_and, Bool.false_eq_true, if_false, hst', if_true]
  exact chanStart_antenna (State.flag_raise hs _ (chEn_ok 16))

end Start

/-! ### Detection (R187) -/

/-- What a detection point leaves in VOUT and IOUT. -/
def measured (n mv na : Nat) (s : State) : State := (s.set (F.PPC_CH_VOUT n) mv).set (F.PPC_CH_IOUT n) (na / 100000)

/-- The fields of a detection point. -/
def measuredFlds (n : Nat) : List Fld := [F.PPC_CH_IOUT n, F.PPC_CH_VOUT n]

/-- The voltage that the next detection point aims at. -/
def detectTarget (s : State) (n : Nat) : Nat := if (s.ch n).points = [] then 4000 else 8000

/-- The signature of two good points is VALID, and its resistance is shown. -/
def classified (n mv na v1 i1 : Nat) (s : State) : State :=
  ((measured n mv na s).set (F.PPC_CH_STAT_SIG n) 1).set (F.PPC_CH_SIGR n) (min 0xFFFF ((mv - v1) * 100000 / (na - i1)))

/-- The fields of a signature. -/
def signatureFlds (n : Nat) : List Fld := F.PPC_CH_SIGR n :: F.PPC_CH_STAT_SIG n :: measuredFlds n

/-- The fields of a channel that enters RAMP1. -/
def rampFlds (n : Nat) : List Fld := [F.PPC_CH_LIM_ILIM n, F.PPC_CH_STAT_STATE n]

section Detect

variable {n mv na v1 i1 : Nat} {s : State}

theorem measured_reaches (n mv na : Nat) (s : State) : s.Reaches (measured n mv na s) (measuredFlds n) := .set (.set (.refl s))

theorem measured_ppc (n mv na : Nat) (s : State) : (measured n mv na s).ppc = s.ppc := by rw [measured, State.set_ppc, State.set_ppc]

theorem classified_ppc (n mv na v1 i1 : Nat) (s : State) : (classified n mv na v1 i1 s).ppc = s.ppc := by
  rw [classified, State.set_ppc, State.set_ppc, measured_ppc]

theorem within10_iff {target : Nat} : within10 mv target = true ↔ target * 9 ≤ mv * 10 ∧ mv * 10 ≤ target * 11 := by
  simp [within10]

theorem detectPoint_of_bad (h : mv * 10 < detectTarget s n * 9 ∨ detectTarget s n * 11 < mv * 10 ∨ 5000000 ≤ na) :
    detectPoint n mv na s = (measured n mv na s).set (F.PPC_CH_STAT_SIG n) 2 := by
  have hbad : (!within10 mv (detectTarget s n)) = true ∨ 5000000 ≤ na := by
    rw [Bool.not_eq_true', ← Bool.not_eq_true, within10_iff]
    omega
  rw [detectTarget] at hbad
  simp only [detectPoint, List.isEmpty_iff, if_pos hbad, measured]

/-- A point outside its window. -/
theorem detectPoint_low (hs : s.regsWf) (hn : n < 16) (hmv : mv < 2 ^ 16) (hst : s.chState n = 1)
    (h : mv * 10 < detectTarget s n * 9 ∨ detectTarget s n * 11 < mv * 10 ∨ 5000000 ≤ na) :
    (detectPoint n mv na s).get (F.PPC_CH_STAT_SIG n) = 2 ∧ (detectPoint n mv na s).chState n = 1 ∧
    (detectPoint n mv na s).get (F.PPC_CH_VOUT n) = mv := by
  have hmeas := measured_reaches n mv na s
  have hall : s.Reaches ((measured n mv na s).set (F.PPC_CH_STAT_SIG n) 2) (signatureFlds n).tail := .set hmeas
  rw [detectPoint_of_bad h]
  refine ⟨State.get_set_fits (hmeas.wf hs) _ (fld_ok _ (by decide)) (by decide : 2 < 2 ^ 2), ?_, ?_⟩
  · exact (State.Reaches.chan (r := fun n => (signatureFlds n).tail) hn hall hs F.PPC_CH_STAT_STATE (by decide)).trans hst
  · exact State.Reaches.value hn F.PPC_CH_VOUT (fun n => [F.PPC_CH_STAT_SIG n, F.PPC_CH_IOUT n]) (.set (.set (.refl _))) hs hmv (by decide)

theorem not_bad_of_good {target : Nat} (hlo : target * 9 ≤ mv * 10) (hhi : mv * 10 ≤ target * 11) (hna : na < 5000000) :
    ¬((!within10 mv target) = true ∨ 5000000 ≤ na) := by
  rw [within10_iff.2 ⟨hlo, hhi⟩]
  simpa using hna

theorem detectPoint_of_first (hlo : 4000 * 9 ≤ mv * 10) (hhi : mv * 10 ≤ 4000 * 11) (hna : na < 5000000) (hp : (s.ch n).points = []) :
    detectPoint n mv na s = (measured n mv na s).setCh n { s.ch n with points := [(mv, na)] } := by
  simp only [detectPoint, hp, List.isEmpty_nil, if_true, if_neg (not_bad_of_good hlo hhi hna), measured]

/-- The first good point is kept. -/
theorem detectPoint_first (hs : s.regsWf) (hn : n < 16) (hch : n < s.ppc.length) (hlo : 4000 * 9 ≤ mv * 10) (hhi : mv * 10 ≤ 4000 * 11)
    (hna : na < 5000000) (hp : (s.ch n).points = []) : ((detectPoint n mv na s).ch n).points = [(mv, na)] ∧
    (detectPoint n mv na s).chState n = s.chState n ∧
    (detectPoint n mv na s).get (F.PPC_CH_STAT_SIG n) = s.get (F.PPC_CH_STAT_SIG n) := by
  have hmeas := measured_reaches n mv na s
  rw [detectPoint_of_first hlo hhi hna hp]
  exact ⟨congrArg Chan.points (State.ch_setCh_same (by rwa [measured_ppc]) _), hmeas.chan hn hs F.PPC_CH_STAT_STATE (by decide),
    hmeas.chan hn hs F.PPC_CH_STAT_SIG (by decide)⟩

/-- The slope of two good points within the window of a VALID signature. -/
theorem signature_valid (hi : i1 < na) (hlo : 19000 * (na - i1) ≤ (mv - v1) * 1000000)
    (hhi : (mv - v1) * 1000000 ≤ 26500 * (na - i1)) : signature v1 i1 mv na = 1 := by
  simp only [signature, if_neg (Nat.not_le.2 hi), if_neg (Nat.not_lt.2 hlo), if_neg (Nat.not_lt.2 hhi)]

theorem detectPoint_of_second (hlo : 8000 * 9 ≤ mv * 10) (hhi : mv * 10 ≤ 8000 * 11) (hna : na < 5000000)
    (hp : (s.ch n).points = [(v1, i1)]) (hsig : signature v1 i1 mv na = 1) :
    detectPoint n mv na s = rampOne n (classified n mv na v1 i1 s) := by
  simp only [detectPoint, hp, List.isEmpty_cons, Bool.false_eq_true, if_false, if_neg (not_bad_of_good hlo hhi hna), hsig, if_true,
    classified, measured]
  rfl

theorem classified_reaches (n mv na v1 i1 : Nat) (s : State) : s.Reaches (classified n mv na v1 i1 s) (signatureFlds n) :=
  .set (.set (measured_reaches n mv na s))

theorem classified_sig (hs : s.regsWf) (hn : n < 16) : (classified n mv na v1 i1 s).get (F.PPC_CH_STAT_SIG n) = 1 :=
  State.Reaches.value hn F.PPC_CH_STAT_SIG (fun n => [F.PPC_CH_SIGR n]) (.set (.refl _)) ((measured_reaches n mv na s).wf hs)
    (by decide : 1 < 2 ^ 2) (by decide)

theorem rampOne_eq (hn : n < 16) (s : State) :
    rampOne n s = ((chLoad n s).set (F.PPC_CH_STAT_STATE n) 2).set (F.PPC_CH_LIM_ILIM n) 250 := if_pos hn

theorem rampOne_reaches (hn : n < 16) (s : State) : s.Reaches (rampOne n s) (rampFlds n) := by
  rw [rampOne_eq hn]
  exact .set (.set (.of_regs (.refl s) (by rfl)))

/-- R188, R194: RAMP1 with its limit, the configuration in force. -/
theorem rampOne_effect (hs : s.regsWf) (hn : n < 16) (hch : n < s.ppc.length) : (rampOne n s).chState n = 2 ∧
    (rampOne n s).get (F.PPC_CH_LIM_ILIM n) = 250 ∧ ((rampOne n s).ch n).retry = s.get (F.PPC_CH_CFG_RETRY n) := by
  have hload := chLoad_regsWf hs n
  rw [rampOne_eq hn]
  refine ⟨?_, State.get_set_fits (State.set_regsWf hload _ _) _ (chLim_ok n) (by decide : 250 < 2 ^ 12), ?_⟩
  · exact State.Reaches.value hn F.PPC_CH_STAT_STATE (fun n => [F.PPC_CH_LIM_ILIM n]) (.set (.refl _)) hload (by decide : 2 < 2 ^ 4)
      (by decide)
  · rw [State.set_ch, State.set_ch, chLoad, State.ch_setCh_same hch, chCfg, if_neg (by omega)]

/-- The second good point, of a VALID signature (R187, R188). -/
theorem detectPoint_second (hs : s.regsWf) (hn : n < 16) (hch : n < s.ppc.length) (hlo : 8000 * 9 ≤ mv * 10)
    (hhi : mv * 10 ≤ 8000 * 11) (hna : na < 5000000) (hp : (s.ch n).points = [(v1, i1)]) (hsig : signature v1 i1 mv na = 1) :
    (detectPoint n mv na s).get (F.PPC_CH_STAT_SIG n) = 1 ∧ (detectPoint n mv na s).chState n = 2 ∧
    (detectPoint n mv na s).get (F.PPC_CH_LIM_ILIM n) = 250 ∧ ((detectPoint n mv na s).ch n).retry = s.get (F.PPC_CH_CFG_RETRY n) := by
  have hclass := classified_reaches n mv na v1 i1 s
  obtain ⟨hstate, hlim, hretry⟩ := rampOne_effect (hclass.wf hs) hn (by rwa [classified_ppc])
  rw [detectPoint_of_second hlo hhi hna hp hsig]
  refine ⟨?_, hstate, hlim, hretry.trans (hclass.chan hn hs F.PPC_CH_CFG_RETRY (by decide))⟩
  exact ((rampOne_reaches hn _).chan hn (hclass.wf hs) F.PPC_CH_STAT_SIG (by decide)).trans (classified_sig hs hn)

end Detect

/-! ### RAMP1 and STEP end with power good (R188, R190) -/

/-- The channel enters state `st` with power good. -/
def powered (n mv st : Nat) (s : State) : State :=
  ((s.set (F.PPC_CH_VOUT n) mv).set (F.PPC_CH_STAT_STATE n) st).raise (F.PPC_CH_STAT_PG n)

/-- The fields of a ramp that ends. -/
def poweredFlds (n : Nat) : List Fld := [F.PPC_CH_STAT_PG n, F.PPC_CH_STAT_STATE n, F.PPC_CH_VOUT n]

section Powered

variable {n mv st : Nat} {s : State}

theorem powered_reaches (n mv st : Nat) (s : State) : s.Reaches (powered n mv st s) (poweredFlds n) := .set (.set (.set (.refl s)))

theorem powered_jxl (n mv st : Nat) (s : State) : (powered n mv st s).jxl = s.jxl := by
  rw [powered, State.raise_jxl, State.set_jxl, State.set_jxl]

theorem powered_out (n mv st : Nat) (s : State) : (powered n mv st s).out = s.out := by
  rw [powered, State.raise_out, State.set_out, State.set_out]

theorem powered_status (hs : s.regsWf) (hn : n < 16) (mv : Nat) (hst : st < 16) :
    (powered n mv st s).chState n = st ∧ (powered n mv st s).flag (F.PPC_CH_STAT_PG n) = true := by
  have hv := State.set_regsWf hs (F.PPC_CH_VOUT n) mv
  exact ⟨State.Reaches.value hn F.PPC_CH_STAT_STATE (fun n => [F.PPC_CH_STAT_PG n]) (.set (.refl _)) hv hst (by decide),
    State.flag_raise (State.set_regsWf hv _ _) _ (chPg_ok n)⟩

theorem portPowerGood_of_off (hn : n < 16) (hlink : s.link n = 0) (hen : s.flag (F.JXL_P_CFG_EN n) = true)
    (hmode : s.flag (F.JXL_P_CFG_MODE n) = false) : portPowerGood n s = portTrain n s := by
  simp [portPowerGood, hn, hlink, hen, hmode]

/-- R188: stage-one power good takes an enabled port to TRAIN. -/
theorem portPowerGood_effect (hs : s.regsWf) (hn : n < 16) (hlink : s.link n = 0) (hen : s.flag (F.JXL_P_CFG_EN n) = true)
    (hmode : s.flag (F.JXL_P_CFG_MODE n) = false) (hst : st < 16) :
    (portPowerGood n (powered n mv st s)).chState n = st ∧ (portPowerGood n (powered n mv st s)).flag (F.PPC_CH_STAT_PG n) = true ∧
    (portPowerGood n (powered n mv st s)).link n = 1 := by
  have hpow := powered_reaches n mv st s
  have htrain := portTrain_writes n (powered n mv st s)
  obtain ⟨hstate, hpg⟩ := powered_status hs hn mv hst
  rw [portPowerGood_of_off hn ((hpow.chan hn hs F.JXL_P_STAT_STATE (by decide)).trans hlink)
    ((hpow.flagChan hn hs F.JXL_P_CFG_EN (by decide)).trans hen) ((hpow.flagChan hn hs F.JXL_P_CFG_MODE (by decide)).trans hmode)]
  exact ⟨(htrain.port hn F.PPC_CH_STAT_STATE (by decide)).trans hstate, (htrain.flagPort hn F.PPC_CH_STAT_PG (by decide)).trans hpg,
    portTrain_link (hpow.wf hs)⟩

end Powered

/-! ### A port becomes ACTIVE (R190; 04 R157) -/

/-- The record of a port that becomes ACTIVE. -/
def JPort.activated (j : JPort) : JPort := { j with seq := 0, spent := 0, retries := 0, granted := false, limit := 512 }

/-- PWR_GRANT tells the class granted. -/
def granted (n : Nat) (s : State) : State := back n 0x07 [BitVec.ofNat 8 (s.get (F.PPC_CH_STAT_CLASS n))] s

/-- The link state and the class of a port that becomes ACTIVE, with no pause in force. -/
def activeShown (n : Nat) (s : State) : State :=
  (((s.set (F.JXL_P_STAT_STATE n) 4).clear (F.JXL_P_STAT_SYNCED n)).set (F.JXL_P_STAT_CLASS n) (s.get (F.PPC_CH_STAT_CLASS n))).clear
    (F.JXL_P_FLOW_PAUSED n)

/-- Its fields. -/
def activeFlds (n : Nat) : List Fld := [F.JXL_P_FLOW_PAUSED n, F.JXL_P_STAT_CLASS n, F.JXL_P_STAT_SYNCED n, F.JXL_P_STAT_STATE n]

section Active

variable {n : Nat} {s : State}

theorem activeShown_reaches (n : Nat) (s : State) : s.Reaches (activeShown n s) (activeFlds n) := .set (.set (.set (.set (.refl s))))

/-- PWR_GRANT leaves first, then the port is ACTIVE, then FLOW leaves. -/
theorem portActive_eq (n : Nat) (s : State) : portActive n s = back n 0x02 (leBytes 2 512 ++ [0])
    ((activeShown n (granted n s)).setJp n ((activeShown n (granted n s)).jp n).activated) := rfl

theorem back_flag (n c : Nat) (p : List Byte) (s : State) (f : Fld) : (back n c p s).flag f = s.flag f := State.emit_flag _ _ _
theorem back_jxl (n c : Nat) (p : List Byte) (s : State) : (back n c p s).jxl = s.jxl := State.emit_jxl _ _
theorem back_jp (n c : Nat) (p : List Byte) (s : State) (m : Nat) : (back n c p s).jp m = s.jp m := State.jp_eq_of_jxl (back_jxl n c p s) m
theorem back_regs (n c : Nat) (p : List Byte) (s : State) : (back n c p s).regs = s.regs := State.emit_regs _ _

theorem activeShown_jxl (n : Nat) (s : State) : (activeShown n s).jxl = s.jxl := by
  rw [activeShown, State.clear_jxl, State.set_jxl, State.clear_jxl, State.set_jxl]

theorem activeShown_jp (n : Nat) (s : State) (m : Nat) : (activeShown n s).jp m = s.jp m := State.jp_eq_of_jxl (activeShown_jxl n s) m

theorem activeShown_out (n : Nat) (s : State) : (activeShown n s).out = s.out := by
  rw [activeShown, State.clear_out, State.set_out, State.clear_out, State.set_out]

theorem activeShown_status (hs : s.regsWf) (hn : n < 16) : (activeShown n s).link n = 4 ∧
    (activeShown n s).flag (F.JXL_P_STAT_SYNCED n) = false ∧
    (activeShown n s).get (F.JXL_P_STAT_CLASS n) = s.get (F.PPC_CH_STAT_CLASS n) := by
  have hlink := State.set_regsWf hs (F.JXL_P_STAT_STATE n) 4
  refine ⟨?_, ?_, ?_⟩
  · exact State.Reaches.value hn F.JXL_P_STAT_STATE (fun n => [F.JXL_P_FLOW_PAUSED n, F.JXL_P_STAT_CLASS n, F.JXL_P_STAT_SYNCED n])
      (.set (.set (.set (.refl _)))) hs (by decide : 4 < 2 ^ 3) (by decide)
  · exact State.Reaches.cleared hn F.JXL_P_STAT_SYNCED (fun n => [F.JXL_P_FLOW_PAUSED n, F.JXL_P_STAT_CLASS n])
      (.set (.set (.refl _))) hlink (by decide)
  · exact State.Reaches.value hn F.JXL_P_STAT_CLASS (fun n => [F.JXL_P_FLOW_PAUSED n]) (.set (.refl _)) (State.clear_regsWf hlink _)
      (bitsOf_lt _ 9 8) (by decide)

/-- R190: PWR_GRANT, FLOW with LIMIT 512, and an ACTIVE port of the channel's class. -/
theorem portActive_effect (hs : s.regsWf) (hn : n < 16) (hport : n < s.jxl.length) : (portActive n s).link n = 4 ∧
    (portActive n s).flag (F.JXL_P_STAT_SYNCED n) = false ∧ (portActive n s).get (F.JXL_P_STAT_CLASS n) = s.get (F.PPC_CH_STAT_CLASS n) ∧
    (portActive n s).jp n = (s.jp n).activated ∧ (portActive n s).out = .back n 0x02 (leBytes 2 512 ++ [0]) ::
      .back n 0x07 [BitVec.ofNat 8 (s.get (F.PPC_CH_STAT_CLASS n))] :: s.out := by
  obtain ⟨hlink, hsync, hclass⟩ := activeShown_status (s := granted n s) (back_regsWf hs _ _ _) hn
  rw [portActive_eq]
  refine ⟨?_, ?_, ?_, ?_, ?_⟩
  · rw [State.link, back_get, State.setJp_get, ← State.link, hlink]
  · rw [back_flag, State.setJp_flag, hsync]
  · rw [back_get, State.setJp_get, hclass, granted, back_get]
  · rw [back_jp, State.jp_setJp_same (by rwa [activeShown_jxl, granted, back_jxl]), activeShown_jp, granted, back_jp]
  · rw [back_out, State.setJp_out, activeShown_out, granted, back_out]

theorem portActive_reaches (n : Nat) (s : State) : s.Reaches (portActive n s) (activeFlds n) := by
  have hgrant : s.Reaches (activeShown n (granted n s)) (activeFlds n) :=
    .trans (.of_regs (.refl s) (back_regs _ _ _ _)) (activeShown_reaches n _)
  rw [portActive_eq]
  exact hgrant.of_regs ((back_regs _ _ _ _).trans (State.setJp_regs _ _ _))

/-- R190: the step that ends at 48 V, seen from before it. -/
theorem portActive_powered (hs : s.regsWf) (hn : n < 16) (hport : n < s.jxl.length) (mv : Nat) :
    let t := portActive n (powered n mv 5 s)
    t.chState n = 5 ∧ t.flag (F.PPC_CH_STAT_PG n) = true ∧ t.link n = 4 ∧ t.flag (F.JXL_P_STAT_SYNCED n) = false ∧
    t.get (F.JXL_P_STAT_CLASS n) = s.get (F.PPC_CH_STAT_CLASS n) ∧ (t.jp n).limit = 512 ∧ (t.jp n).spent = 0 ∧ (t.jp n).seq = 0 ∧
    t.out = .back n 0x02 (leBytes 2 512 ++ [0]) :: .back n 0x07 [BitVec.ofNat 8 (s.get (F.PPC_CH_STAT_CLASS n))] :: s.out := by
  have hpow := powered_reaches n mv 5 s
  have hactive := portActive_reaches n (powered n mv 5 s)
  obtain ⟨hstate, hpg⟩ := powered_status (st := 5) hs hn mv (by decide)
  obtain ⟨hlink, hsync, hclass, hjp, hout⟩ := portActive_effect (hpow.wf hs) hn (by rwa [powered_jxl])
  rw [hpow.chan hn hs F.PPC_CH_STAT_CLASS (by decide)] at hclass hout
  rw [powered_out] at hout
  exact ⟨(hactive.chan hn (hpow.wf hs) F.PPC_CH_STAT_STATE (by decide)).trans hstate,
    (hactive.flagChan hn (hpow.wf hs) F.PPC_CH_STAT_PG (by decide)).trans hpg, hlink, hsync, hclass,
    by rw [hjp, JPort.activated], by rw [hjp, JPort.activated], by rw [hjp, JPort.activated], hout⟩

end Active

/-! ### A step starts (R189) -/

/-- The channel in STEP, its class's limit apart. -/
def stepEntered (n : Nat) (s : State) : State :=
  (((chLoad n s).setCh n { (chLoad n s).ch n with waiting := false }).set (F.PPC_CH_STAT_STATE n) 4).clear (F.PPC_CH_STAT_PG n)

/-- The channel steps with its class's limit. -/
def stepBegun (n : Nat) (s : State) : State :=
  (stepEntered n s).set (F.PPC_CH_LIM_ILIM n) (classLimit (s.get (F.PPC_CH_STAT_CLASS n)))

section Step

variable {n : Nat} {s : State}

/-- R189: the waiting channel of lowest index. -/
theorem stepNext_spec (h : stepNext s = some n) : n < 16 ∧ (s.ch n).waiting = true ∧ s.chState n = 3 ∧
    ∀ m, m < n → ¬((s.ch m).waiting = true ∧ s.chState m = 3) := by
  obtain ⟨hgo, hn, hmin⟩ := List.find?_range_eq_some.1 h
  obtain ⟨hwait, hst⟩ : (s.ch n).waiting = true ∧ s.chState n = 3 := by simpa using hgo
  refine ⟨List.mem_range.1 hn, hwait, hst, fun m hm ⟨hw, h3⟩ => ?_⟩
  simpa [hw, h3] using hmin m hm

theorem stepEntered_reaches (n : Nat) (s : State) : s.Reaches (stepEntered n s) [F.PPC_CH_STAT_PG n, F.PPC_CH_STAT_STATE n] :=
  .set (.set (.of_regs (.refl s) (by rfl)))

theorem stepEntered_class (hs : s.regsWf) (hn : n < 16) :
    (stepEntered n s).get (F.PPC_CH_STAT_CLASS n) = s.get (F.PPC_CH_STAT_CLASS n) :=
  State.Reaches.chan (r := fun n => [F.PPC_CH_STAT_PG n, F.PPC_CH_STAT_STATE n]) hn (stepEntered_reaches n s) hs F.PPC_CH_STAT_CLASS
    (by decide)

theorem execStepStart_of_waiting (hs : s.regsWf) (hon : s.ingOn = true) (hroom : stepping s < s.get F.PPC_GLB_CFG_STEP_MAX)
    (h : stepNext s = some n) : execStepStart s = .next (stepBegun n s) := by
  have hn := (stepNext_spec h).1
  rw [stepBegun, ← stepEntered_class hs hn]
  simp only [execStepStart, hon, hroom, decide_true, Bool.and_self, if_true, h, setIlim, if_pos hn, stepEntered]

theorem execStepStart_of_none (h : stepNext s = none ∨ s.get F.PPC_GLB_CFG_STEP_MAX ≤ stepping s) : execStepStart s = .next s := by
  rcases h with h | h
  · rw [execStepStart, h, ite_self]
  · rw [execStepStart, if_neg (by simp [Nat.not_lt.2 h])]

theorem classLimit_lt (c : Nat) : classLimit c < 2 ^ 12 := by
  unfold classLimit
  split_ifs <;> decide

theorem stepBegun_effect (hs : s.regsWf) (hn : n < 16) (hch : n < s.ppc.length) : (stepBegun n s).chState n = 4 ∧
    ((stepBegun n s).ch n).waiting = false ∧ (stepBegun n s).flag (F.PPC_CH_STAT_PG n) = false ∧
    (stepBegun n s).get (F.PPC_CH_LIM_ILIM n) = classLimit (s.get (F.PPC_CH_STAT_CLASS n)) := by
  have hload : ((chLoad n s).setCh n { (chLoad n s).ch n with waiting := false }).regsWf := hs
  refine ⟨?_, ?_, ?_, ?_⟩
  · exact State.Reaches.value hn F.PPC_CH_STAT_STATE (fun n => [F.PPC_CH_LIM_ILIM n, F.PPC_CH_STAT_PG n]) (.set (.set (.refl _))) hload
      (by decide : 4 < 2 ^ 4) (by decide)
  · rw [stepBegun, State.set_ch, stepEntered, State.clear, State.set_ch, State.set_ch, State.ch_setCh_same (by rwa [chLoad_ppc_length])]
  · exact State.Reaches.cleared hn F.PPC_CH_STAT_PG (fun n => [F.PPC_CH_LIM_ILIM n]) (.set (.refl _)) (State.set_regsWf hload _ _)
      (by decide)
  · exact State.get_set_fits ((stepEntered_reaches n s).wf hs) _ (chLim_ok n) (classLimit_lt _)

end Step

/-! ### The current limit (R185) -/

/-- The sensed current, held at the limit. -/
def currentHeld (n i : Nat) (s : State) : State :=
  (s.set (F.PPC_CH_IOUT n) (min i (ilim s n * 10))).set (F.PPC_CH_STAT_LIMITING n) (b2n (decide (ilim s n * 10 < i)))

/-- Its fields. -/
def currentFlds (n : Nat) : List Fld := [F.PPC_CH_STAT_LIMITING n, F.PPC_CH_IOUT n]

theorem currentHeld_effect {n : Nat} {s : State} (hs : s.regsWf) (hn : n < 17) (i : Nat) :
    (currentHeld n i s).get (F.PPC_CH_IOUT n) = min i (ilim s n * 10) % 2 ^ 16 ∧
    (currentHeld n i s).flag (F.PPC_CH_STAT_LIMITING n) = decide (ilim s n * 10 < i) ∧ (currentHeld n i s).chState n = s.chState n := by
  have hcur := State.set_regsWf hs (F.PPC_CH_IOUT n) (min i (ilim s n * 10))
  have hreach : s.Reaches (currentHeld n i s) (currentFlds n) := .set (.set (.refl s))
  refine ⟨?_, State.flag_set_b2n hcur _ _ (chLimiting_ok n), hreach.chan hn hs F.PPC_CH_STAT_STATE (by decide)⟩
  rw [currentHeld, State.Reaches.chan (r := fun n => [F.PPC_CH_STAT_LIMITING n]) hn (.set (.refl _)) hcur F.PPC_CH_IOUT (by decide),
    State.get_set_same hs (F.PPC_CH_IOUT n) _ (fld_ok _ (by decide))]
  rfl

end Sys2Proof.Machine

/-!
PROOF. A channel that goes off (05 R196, R199, R200, R202 to R205): what it takes from its port, faults, and the ends of cooldown and
back-off; `PortPower`.
-/

namespace Sys2Proof.Machine

theorem exec_stepAbort (n : Nat) (s : State) : exec (.stepAbort n) s = execStepAbort n s := rfl
theorem exec_disconnect (n : Nat) (s : State) : exec (.disconnect n) s = execDisconnect n s := rfl
theorem exec_attemptClear (n : Nat) (s : State) : exec (.attemptClear n) s = execAttemptClear n s := rfl

/-! ### The port loses its power (R200, 04 R150) -/

section PowerAbort

variable {n : Nat} {s : State}

/-- With no step in progress the port goes to OFF. -/
theorem portLost_of_power (hst : s.chState n ≠ 4) : portLost n 7 s = portOff n (lossNoted n 7 s) := by
  simp [portLost, hst, lossNoted, lossCounted, detached]

theorem portPowerAbort_cases (hst : s.chState n ≠ 4) : portPowerAbort n s = s ∨ portPowerAbort n s = portOff n (lossNoted n 7 s) := by
  rw [portPowerAbort]
  split
  · exact .inr (portLost_of_power hst)
  · exact .inl rfl

theorem portPowerAbort_writes (hst : s.chState n ≠ 4) : s.Writes (lossRegs n) (portPowerAbort n s) := by
  rcases portPowerAbort_cases hst with h | h
  · rw [h]
    exact .refl s _
  · rw [h]
    exact lossNoted_off_writes n 7 s

theorem portPowerAbort_ch (hst : s.chState n ≠ 4) (m : Nat) : (portPowerAbort n s).ch m = s.ch m := by
  rcases portPowerAbort_cases hst with h | h
  · rw [h]
  · rw [h, State.ch_eq_of_ppc (portOff_ppc n _), State.ch_eq_of_ppc (lossNoted_ppc n 7 s)]

/-- What has left before stays told. -/
theorem mem_portPowerAbort_out (hst : s.chState n ≠ 4) {o : Out} (h : o ∈ s.out) : o ∈ (portPowerAbort n s).out := by
  rcases portPowerAbort_cases hst with hp | hp
  · rwa [hp]
  · rw [hp, portOff_out, lossNoted_out]
    exact .tail _ h

theorem portPowerAbort_link (hs : s.regsWf) (hn : n < 16) (hst : s.chState n ≠ 4) (hlink : s.link n ≠ 0) :
    (portPowerAbort n s).link n = 0 ∧ (portPowerAbort n s).get (F.JXL_P_STAT_CAUSE n) = 7 := by
  have hnoted := (lossNoted_writes n 7 s).wf hs
  rw [portPowerAbort, if_pos ⟨hn, hlink⟩, portLost_of_power hst]
  exact ⟨portOff_link hnoted, (portOff_cause hnoted hn).trans (lossNoted_cause hs hn (by decide))⟩

end PowerAbort

/-! ### EN is cleared (R196) -/

section Disable

variable {n : Nat} {s : State}

theorem chanOff_flags (hs : s.regsWf) (hn : n < 17) (st cause : Nat) :
    (chanOff n st cause s).flag (F.PPC_CH_STAT_LIMITING n) = false ∧ (chanOff n st cause s).flag (F.PPC_CH_STAT_PG n) = false := by
  have hstate := State.set_regsWf ((ungrant_writes n s).wf hs) (F.PPC_CH_STAT_STATE n) st
  have hcause := State.set_regsWf hstate (F.PPC_CH_STAT_CAUSE n) cause
  rw [chanOff_eq]
  exact ⟨State.Reaches.cleared hn F.PPC_CH_STAT_LIMITING (fun n => [F.PPC_CH_STAT_PG n]) (.set (.refl _)) hcause (by decide),
    State.flag_clear (State.clear_regsWf hcause _) _ (chPg_ok n)⟩

theorem ppcDisable_of_on (hs : s.regsWf) (hn : n < 17) (hst : s.chState n ≠ 0) :
    ppcDisable n s = portPowerAbort n (cooldown n 0 9 (s.clear (F.PPC_CH_CTL_EN n))) := by
  have hclear : s.Reaches (s.clear (F.PPC_CH_CTL_EN n)) (chEnFlds n) := .set (.refl s)
  have hst' : (s.clear (F.PPC_CH_CTL_EN n)).chState n ≠ 0 := by
    rwa [State.chState, hclear.chan hn hs F.PPC_CH_STAT_STATE (by decide)]
  rw [ppcDisable, if_neg hst']

theorem ppcDisable_effect (hs : s.regsWf) (hn : n < 17) (hch : n < s.ppc.length) (hst : s.chState n ≠ 0) :
    (ppcDisable n s).flag (F.PPC_CH_CTL_EN n) = false ∧ (ppcDisable n s).chState n = 6 ∧ ((ppcDisable n s).ch n).exit = 0 ∧
    (ppcDisable n s).get (F.PPC_CH_STAT_CAUSE n) = 9 ∧ (ppcDisable n s).flag (F.PPC_CH_STAT_PG n) = false ∧
    (n < 16 → s.link n ≠ 0 → (ppcDisable n s).link n = 0 ∧ (ppcDisable n s).get (F.JXL_P_STAT_CAUSE n) = 7) := by
  have hclear : s.Reaches (s.clear (F.PPC_CH_CTL_EN n)) (chEnFlds n) := .set (.refl s)
  have hcool := cooldown_writes n 0 9 (s.clear (F.PPC_CH_CTL_EN n))
  obtain ⟨hstate, hcause⟩ := cooldown_status (n := n) (cause := 9) 0 (hclear.wf hs) (by decide)
  have hstep : (cooldown n 0 9 (s.clear (F.PPC_CH_CTL_EN n))).chState n ≠ 4 := by omega
  have hport := portPowerAbort_writes hstep
  rw [ppcDisable_of_on hs hn hst]
  refine ⟨?_, ?_, ?_, ?_, ?_, fun hlt hlink => portPowerAbort_link (hcool.wf (hclear.wf hs)) hlt hstep ?_⟩
  · rw [hport.flagChan hn F.PPC_CH_CTL_EN (by decide), hcool.flagChan hn F.PPC_CH_CTL_EN (by decide), State.flag_clear hs _ (chEn_ok n)]
  · rw [State.chState, hport.chan hn F.PPC_CH_STAT_STATE (by decide), ← State.chState, hstate]
  · rw [portPowerAbort_ch hstep, cooldown_exit 0 (by rwa [State.clear_ppc])]
  · rw [hport.chan hn F.PPC_CH_STAT_CAUSE (by decide), hcause]
  · rw [hport.flagChan hn F.PPC_CH_STAT_PG (by decide), cooldown, State.setCh_flag]
    exact (chanOff_flags (hclear.wf hs) hn 6 9).2
  · rwa [State.link, hcool.port hlt F.JXL_P_STAT_STATE (by decide), hclear.chan hlt hs F.JXL_P_STAT_STATE (by decide)]

end Disable

/-! ### A step abort, a disconnect (R202, R203) -/

/-- The interrupt of an abort. -/
def abortIrqFlds (n : Nat) : List Fld := [F.PPC_CH_IRQ_ABORT n]

section Abort

variable {n cause : Nat} {s : State}

theorem chanAbort_count (hs : s.regsWf) (hn : n < 16) :
    (chanAbort n cause s).get (F.PPC_CH_ABORTS n) = min (2 ^ 32 - 1) (s.get (F.PPC_CH_ABORTS n) + 1) := by
  have hraise : (s.inc (F.PPC_CH_ABORTS n)).Reaches (abortNoted n s) (abortIrqFlds n) := .set (.refl _)
  rw [chanAbort_eq, State.bench_get, (cooldown_writes n 1 cause _).port hn F.PPC_CH_ABORTS (by decide),
    hraise.chan hn (State.inc_regsWf hs _) F.PPC_CH_ABORTS (by decide), State.get_inc_same hs (F.PPC_CH_ABORTS n) (word_ok _)]
  rfl

/-- The channel cools down to DETECT, the abort is counted and reported, and the port loses its power. -/
theorem abort_effect (hs : s.regsWf) (hn : n < 16) (hch : n < s.ppc.length) (hcause : cause < 16) :
    let t := portPowerAbort n (chanAbort n cause s)
    t.chState n = 6 ∧ t.get (F.PPC_CH_STAT_CAUSE n) = cause ∧ (t.ch n).exit = 1 ∧
    t.get (F.PPC_CH_ABORTS n) = min (2 ^ 32 - 1) (s.get (F.PPC_CH_ABORTS n) + 1) ∧ t.flag (F.PPC_CH_IRQ_ABORT n) = true ∧
    (s.link n ≠ 0 → t.link n = 0 ∧ t.get (F.JXL_P_STAT_CAUSE n) = 7) := by
  have habort := chanAbort_writes n cause s
  obtain ⟨hstate, hca⟩ := chanAbort_status (n := n) hs hcause
  have hstep : (chanAbort n cause s).chState n ≠ 4 := by omega
  have hport := portPowerAbort_writes hstep
  refine ⟨?_, ?_, ?_, ?_, ?_, fun hlink => portPowerAbort_link (habort.wf hs) hn hstep ?_⟩
  · rw [State.chState, hport.port hn F.PPC_CH_STAT_STATE (by decide), ← State.chState, hstate]
  · rw [hport.port hn F.PPC_CH_STAT_CAUSE (by decide), hca]
  · rw [portPowerAbort_ch hstep, chanAbort_exit hch]
  · rw [hport.port hn F.PPC_CH_ABORTS (by decide), chanAbort_count hs hn]
  · rw [hport.flagPort hn F.PPC_CH_IRQ_ABORT (by decide), chanAbort_irq hs hn]
  · rwa [State.link, habort.port hn F.JXL_P_STAT_STATE (by decide)]

end Abort

/-! ### Faults (R199, R200) -/

/-- The fault is counted and flagged. -/
def faultNoted (n : Nat) (s : State) : State := (s.inc (F.PPC_CH_FAULTS n)).raise (F.PPC_CH_IRQ_FAULT n)

/-- Its fields. -/
def faultFlds (n : Nat) : List Fld := [F.PPC_CH_IRQ_FAULT n, F.PPC_CH_FAULTS n]

/-- The attempts are used up. -/
abbrev usedUp (s : State) (n : Nat) : Prop := (s.ch n).retry ≤ s.get (F.PPC_CH_STAT_ATTEMPT n)

/-- The channel's gates are off, in BACKOFF or, with the attempts used up, in LATCHED. -/
def faultOff (n cause : Nat) (s : State) : State :=
  if usedUp s n then (chanOff n (if usedUp s n then 8 else 7) cause s).raise (F.PPC_CH_IRQ_LATCH n)
  else chanOff n (if usedUp s n then 8 else 7) cause s

/-- The registers of a channel that goes off with a fault. -/
def faultRegs (n : Nat) : List Nat := (F.PPC_CH_IRQ_LATCH n).off :: chanRegs n

/-- The flag of a latched channel. -/
def latchFlds (n : Nat) : List Fld := [F.PPC_CH_IRQ_LATCH n]

/-- Bench is told, and the host where it wants to be. -/
def faultTold (n : Nat) (s : State) : State :=
  if (s.bench .ppcFault n).flag (F.PPC_CH_IRQ_HOST_EN n) then
    (s.bench .ppcFault n).owe 0x05 n ((s.bench .ppcFault n).reg (F.PPC_CH_STAT_STATE n).off).toNat
  else s.bench .ppcFault n

section Fault

variable {n cause : Nat} {s : State}

theorem faultNoted_reaches (n : Nat) (s : State) : s.Reaches (faultNoted n s) (faultFlds n) := .set (.set (.refl s))

theorem faultNoted_ch (n : Nat) (s : State) (m : Nat) : (faultNoted n s).ch m = s.ch m :=
  State.ch_eq_of_ppc (by rw [faultNoted, State.raise_ppc, State.inc_ppc]) m

theorem usedUp_faultNoted (hs : s.regsWf) (hn : n < 16) : usedUp (faultNoted n s) n ↔ usedUp s n := by
  rw [usedUp, faultNoted_ch, (faultNoted_reaches n s).chan hn hs F.PPC_CH_STAT_ATTEMPT (by decide)]

theorem faultNoted_count (hs : s.regsWf) (hn : n < 16) :
    (faultNoted n s).get (F.PPC_CH_FAULTS n) = min (2 ^ 32 - 1) (s.get (F.PPC_CH_FAULTS n) + 1) := by
  rw [faultNoted, State.raise, State.Reaches.chan (r := fun n => [F.PPC_CH_IRQ_FAULT n]) hn (.set (.refl _)) (State.inc_regsWf hs _)
    F.PPC_CH_FAULTS (by decide), State.get_inc_same hs (F.PPC_CH_FAULTS n) (word_ok _)]
  rfl

theorem faultNoted_irq (hs : s.regsWf) : (faultNoted n s).flag (F.PPC_CH_IRQ_FAULT n) = true :=
  State.flag_raise (State.inc_regsWf hs _) _ (bit_ok _ (by decide))

theorem chanFault_eq (n cause : Nat) (s : State) :
    chanFault n cause s = portPowerAbort n (faultTold n (faultOff n cause (faultNoted n s))) := by
  simp only [chanFault, faultOff, faultTold, decide_eq_true_eq]
  rfl

theorem raiseLatch_reaches (n : Nat) (s : State) : s.Reaches (s.raise (F.PPC_CH_IRQ_LATCH n)) (latchFlds n) := .set (.refl s)

theorem faultOff_writes (n cause : Nat) (s : State) : s.Writes (faultRegs n) (faultOff n cause s) := by
  have hoff (st : Nat) : s.Writes (faultRegs n) (chanOff n st cause s) := (chanOff_writes n s st cause).mono (List.subset_cons_self _ _)
  rw [faultOff]
  split
  · exact (hoff _).set (f := F.PPC_CH_IRQ_LATCH n) (.head _) 1
  · exact hoff _

/-- What a field that the latch's flag leaves alone shows: as with the gates off. -/
theorem faultOff_get (hs : s.regsWf) (hn : n < 16) (cause : Nat) (f : Nat → Fld)
    (hf : ∀ m < 16, ∀ k ∈ latchFlds m, k.ok ∧ k.apart (f m)) :
    (faultOff n cause s).get (f n) = (chanOff n (if usedUp s n then 8 else 7) cause s).get (f n) := by
  rw [faultOff]
  split
  · exact (raiseLatch_reaches n _).chan hn ((chanOff_writes n s _ cause).wf hs) f hf
  · rfl

theorem faultOff_status (hs : s.regsWf) (hn : n < 16) (hcause : cause < 16) :
    (faultOff n cause s).chState n = (if usedUp s n then 8 else 7) ∧ (faultOff n cause s).get (F.PPC_CH_STAT_CAUSE n) = cause ∧
    (faultOff n cause s).flag (F.PPC_CH_STAT_LIMITING n) = false ∧ (faultOff n cause s).flag (F.PPC_CH_STAT_PG n) = false ∧
    (faultOff n cause s).flag (F.PPC_CH_IRQ_FAULT n) = s.flag (F.PPC_CH_IRQ_FAULT n) ∧
    (usedUp s n → (faultOff n cause s).flag (F.PPC_CH_IRQ_LATCH n) = true) := by
  have hst : (if usedUp s n then 8 else 7) < 16 := by split_ifs <;> decide
  have hoff := chanOff_writes n s (if usedUp s n then 8 else 7) cause
  obtain ⟨hstate, hca⟩ := chanOff_status (n := n) hs hst hcause
  obtain ⟨hlim, hpg⟩ := chanOff_flags hs (by omega : n < 17) (if usedUp s n then 8 else 7) cause
  refine ⟨?_, ?_, ?_, ?_, ?_, fun h => ?_⟩
  · rw [State.chState, faultOff_get hs hn cause F.PPC_CH_STAT_STATE (by decide), ← State.chState, hstate]
  · rw [faultOff_get hs hn cause F.PPC_CH_STAT_CAUSE (by decide), hca]
  · rw [State.flag, faultOff_get hs hn cause F.PPC_CH_STAT_LIMITING (by decide), ← State.flag, hlim]
  · rw [State.flag, faultOff_get hs hn cause F.PPC_CH_STAT_PG (by decide), ← State.flag, hpg]
  · rw [State.flag, faultOff_get hs hn cause F.PPC_CH_IRQ_FAULT (by decide), hoff.port hn F.PPC_CH_IRQ_FAULT (by decide), State.flag]
  · rw [faultOff, if_pos h]
    exact State.flag_raise ((chanOff_writes n s _ cause).wf hs) _ (bit_ok _ (by decide))

theorem faultTold_regs (n : Nat) (s : State) : (faultTold n s).regs = s.regs := by
  rw [faultTold]
  split
  · rw [State.owe, State.setHst_regs, State.bench_regs]
  · rw [State.bench_regs]

theorem faultTold_get (n : Nat) (s : State) (f : Fld) : (faultTold n s).get f = s.get f := by
  rw [State.get, State.reg, faultTold_regs, State.get, State.reg]

theorem faultTold_flag (n : Nat) (s : State) (f : Fld) : (faultTold n s).flag f = s.flag f := by
  rw [State.flag, faultTold_get, State.flag]

theorem faultTold_out (n : Nat) (s : State) : (faultTold n s).out = .bench .ppcFault n :: s.out := by
  rw [faultTold]
  split
  · rw [State.owe, State.setHst_out, State.bench, State.emit_out]
  · rw [State.bench, State.emit_out]

/-- R199, R200: what a fault leaves. -/
theorem chanFault_effect (hs : s.regsWf) (hn : n < 16) (hcause : cause < 16) :
    let t := chanFault n cause s
    t.chState n = (if (s.ch n).retry ≤ s.get (F.PPC_CH_STAT_ATTEMPT n) then 8 else 7) ∧ t.get (F.PPC_CH_STAT_CAUSE n) = cause ∧
    t.get (F.PPC_CH_FAULTS n) = min (2 ^ 32 - 1) (s.get (F.PPC_CH_FAULTS n) + 1) ∧ t.flag (F.PPC_CH_IRQ_FAULT n) = true ∧
    ((s.ch n).retry ≤ s.get (F.PPC_CH_STAT_ATTEMPT n) → t.flag (F.PPC_CH_IRQ_LATCH n) = true) ∧
    t.flag (F.PPC_CH_STAT_LIMITING n) = false ∧ t.flag (F.PPC_CH_STAT_PG n) = false ∧ .bench .ppcFault n ∈ t.out ∧
    (s.link n ≠ 0 → t.link n = 0 ∧ t.get (F.JXL_P_STAT_CAUSE n) = 7) := by
  have hnoted := faultNoted_reaches n s
  have hoff := faultOff_writes n cause (faultNoted n s)
  have hused := usedUp_faultNoted hs hn
  obtain ⟨hstate, hca, hlim, hpg, hirq, hlatch⟩ := faultOff_status (cause := cause) (hnoted.wf hs) hn hcause
  have htold : (faultTold n (faultOff n cause (faultNoted n s))).regsWf := by
    rw [State.regsWf, faultTold_regs]
    exact hoff.wf (hnoted.wf hs)
  have hstep : (faultTold n (faultOff n cause (faultNoted n s))).chState n ≠ 4 := by
    rw [State.chState, faultTold_get, ← State.chState, hstate]
    split_ifs <;> decide
  have hport := portPowerAbort_writes hstep
  rw [chanFault_eq]
  refine ⟨?_, ?_, ?_, ?_, fun h => ?_, ?_, ?_, mem_portPowerAbort_out hstep ?_, fun hlink => portPowerAbort_link htold hn hstep ?_⟩
  · simp only [State.chState, hport.port hn F.PPC_CH_STAT_STATE (by decide), faultTold_get]
    rw [← State.chState, hstate]
    exact if_congr hused rfl rfl
  · rw [hport.port hn F.PPC_CH_STAT_CAUSE (by decide), faultTold_get, hca]
  · rw [hport.port hn F.PPC_CH_FAULTS (by decide), faultTold_get, hoff.port hn F.PPC_CH_FAULTS (by decide), faultNoted_count hs hn]
  · rw [hport.flagPort hn F.PPC_CH_IRQ_FAULT (by decide), faultTold_flag, hirq, faultNoted_irq hs]
  · rw [hport.flagPort hn F.PPC_CH_IRQ_LATCH (by decide), faultTold_flag, hlatch (hused.2 h)]
  · rw [hport.flagPort hn F.PPC_CH_STAT_LIMITING (by decide), faultTold_flag, hlim]
  · rw [hport.flagPort hn F.PPC_CH_STAT_PG (by decide), faultTold_flag, hpg]
  · rw [faultTold_out]
    exact .head _
  · rwa [State.link, faultTold_get, hoff.port hn F.JXL_P_STAT_STATE (by decide), hnoted.chan hn hs F.JXL_P_STAT_STATE (by decide)]

/-- The faults, the states in which each acts, and its cause (R199). -/
abbrev faultRows (n : Nat) : List (Instr × List Nat × Nat) :=
  [(.hardShort n, [2, 3, 4, 5], 1), (.overload n, [2, 3, 4, 5], 2), (.rampFail n, [2, 4], 3), (.undervolt n, [3, 5], 4)]

variable {r : Instr × List Nat × Nat}

/-- A fault acts in its states. -/
theorem exec_faultRow (hr : r ∈ faultRows n) (hlim : s.flag (F.PPC_CH_STAT_LIMITING n) = true) :
    exec r.1 s = .next (onChan n r.2.1 (chanFault n r.2.2) s) := by
  have hover : exec (.overload n) s = .next (onChan n [2, 3, 4, 5] (chanFault n 2) s) := by
    rw [show exec (.overload n) s = execOverload n s from rfl, execOverload, onChan, onChan, hlim, if_pos rfl]
  simp only [List.mem_cons, List.not_mem_nil, or_false] at hr
  rcases hr with rfl | rfl | rfl | rfl
  exacts [rfl, hover, rfl, rfl]

theorem faultRow_cause (hr : r ∈ faultRows n) : r.2.2 < 16 := by
  have h : ∀ c ∈ (faultRows n).map (·.2.2), c < 16 := (by decide : ∀ c ∈ [1, 2, 3, 4], c < 16)
  exact h _ (List.mem_map_of_mem hr)

end Fault

/-! ### Cooldown and back-off end (R200, R202) -/

section Ends

variable {n : Nat} {s : State}

/-- With no job, no transition and no wake source pending, nothing follows. -/
theorem execCooldownEnd_of_idle (hjob : (cooldownEnd n s).fw.job = none) (hdev : (cooldownEnd n s).pmu.dev = none)
    (hpend : (cooldownEnd n s).flag F.PMU_DEV_CTL_WAKE_PEND = false) : execCooldownEnd n s = .next (cooldownEnd n s) := by
  simp only [execCooldownEnd, hjob, devAdvance, devMove, hdev, hpend, Bool.and_false, Bool.false_eq_true, if_false]

section Cooled

variable (hon : s.ingOn = true) (hn : n < 16) (hst : s.chState n = 6)

include hon hn hst

theorem cooldownEnd_off (h : (s.ch n).exit = 0) : cooldownEnd n s = s.clear (F.PPC_CH_STAT_STATE n) := by
  rw [cooldownEnd, onChan_of_mem hon (by omega) (by simp [hst])]
  simp only [h]

theorem cooldownEnd_denied (h : (s.ch n).exit = 9) :
    cooldownEnd n s = (s.set (F.PPC_CH_STAT_STATE n) 9).raise (F.PPC_CH_IRQ_LATCH n) := by
  rw [cooldownEnd, onChan_of_mem hon (by omega) (by simp [hst])]
  simp only [h]

theorem cooldownEnd_start (h0 : (s.ch n).exit ≠ 0) (h9 : (s.ch n).exit ≠ 9) (hmay : mayPower s n = true) :
    cooldownEnd n s = detecting n s := by
  rw [cooldownEnd, onChan_of_mem hon (by omega) (by simp [hst])]
  split
  · exact absurd ‹_› h0
  · exact absurd ‹_› h9
  · exact chanStart_of_mayPower hn hmay

end Cooled

/-- The fields of a channel that is denied. -/
def deniedFlds (n : Nat) : List Fld := [F.PPC_CH_IRQ_LATCH n, F.PPC_CH_STAT_STATE n]

/-- The fields of a channel that goes off. -/
def chStateFlds (n : Nat) : List Fld := [F.PPC_CH_STAT_STATE n]

theorem detecting_fw (n : Nat) (s : State) : (detecting n s).fw = s.fw := by
  rw [detecting, State.set_fw, State.clear, State.set_fw, State.set_fw, State.setCh_fw, chLoad, State.setCh_fw]

theorem detecting_pmu (n : Nat) (s : State) : (detecting n s).pmu = s.pmu := by
  rw [detecting, State.set_pmu, State.clear, State.set_pmu, State.set_pmu, State.setCh_pmu, chLoad, State.setCh_pmu]

/-- R202: a cooldown ends where its cause says. -/
theorem execCooldownEnd_ends (hs : s.regsWf) (hn : n < 16) (hch : n < s.ppc.length) (hon : s.ingOn = true) (hst : s.chState n = 6)
    (hmay : mayPower s n = true) (hjob : s.fw.job = none) (hdev : s.pmu.dev = none) (hpend : s.flag F.PMU_DEV_CTL_WAKE_PEND = false) :
    ends (execCooldownEnd n s) (fun t => t.chState n = (if (s.ch n).exit = 0 then 0 else if (s.ch n).exit = 9 then 9 else 1) ∧
      ((s.ch n).exit = 9 → t.flag (F.PPC_CH_IRQ_LATCH n) = true)) := by
  by_cases h0 : (s.ch n).exit = 0
  · have heq := cooldownEnd_off hon hn hst h0
    have hr : s.Reaches (cooldownEnd n s) (chStateFlds n) := heq ▸ .set (.refl s)
    have hoff : (cooldownEnd n s).chState n = 0 := by
      rw [heq]
      exact State.get_set_fits hs _ (chState_ok n) (by decide : 0 < 2 ^ 4)
    refine ⟨_, execCooldownEnd_of_idle (by rwa [heq, State.clear, State.set_fw]) (by rwa [heq, State.clear, State.set_pmu])
      ((hr.flagChan hn hs (fun _ => F.PMU_DEV_CTL_WAKE_PEND) (by decide)).trans hpend), by rw [hoff, if_pos h0], by omega⟩
  by_cases h9 : (s.ch n).exit = 9
  · have heq := cooldownEnd_denied hon hn hst h9
    have hr : s.Reaches (cooldownEnd n s) (deniedFlds n) := heq ▸ .set (.set (.refl s))
    have hden : (cooldownEnd n s).chState n = 9 := by
      rw [heq]
      exact State.Reaches.value hn F.PPC_CH_STAT_STATE latchFlds (.set (.refl _)) hs (by decide : 9 < 2 ^ 4) (by decide)
    have hlatch : (cooldownEnd n s).flag (F.PPC_CH_IRQ_LATCH n) = true := by
      rw [heq]
      exact State.flag_raise (State.set_regsWf hs _ _) _ (bit_ok _ (by decide))
    refine ⟨_, execCooldownEnd_of_idle (by rwa [heq, State.raise_fw, State.set_fw]) (by rwa [heq, State.raise_pmu, State.set_pmu])
      ((hr.flagChan hn hs (fun _ => F.PMU_DEV_CTL_WAKE_PEND) (by decide)).trans hpend), by rw [hden, if_neg h0, if_pos h9],
      fun _ => hlatch⟩
  · have heq := cooldownEnd_start hon hn hst h0 h9 hmay
    have hr : s.Reaches (cooldownEnd n s) (startFlds n) := heq ▸ detecting_reaches n s
    have hstart : (cooldownEnd n s).chState n = 1 := heq ▸ (detecting_effect hs hn hch).1
    refine ⟨_, execCooldownEnd_of_idle (by rwa [heq, detecting_fw]) (by rwa [heq, detecting_pmu])
      ((hr.flagChan hn hs (fun _ => F.PMU_DEV_CTL_WAKE_PEND) (by decide)).trans hpend), by rw [hstart, if_neg h0, if_neg h9],
      (absurd · h9)⟩

/-- The attempt is counted. -/
def attemptCounted (n : Nat) (s : State) : State := s.set (F.PPC_CH_STAT_ATTEMPT n) (s.get (F.PPC_CH_STAT_ATTEMPT n) + 1)

/-- Its field. -/
def attemptFlds (n : Nat) : List Fld := [F.PPC_CH_STAT_ATTEMPT n]

theorem attemptCounted_reaches (n : Nat) (s : State) : s.Reaches (attemptCounted n s) (attemptFlds n) := .set (.refl s)

theorem mayPower_attemptCounted (hs : s.regsWf) (hn : n < 16) : mayPower (attemptCounted n s) n = mayPower s n := by
  have hr := attemptCounted_reaches n s
  rw [mayPower, mayPower, hr.flagChan hn hs F.PPC_CH_CTL_EN (by decide), hr.flagChan hn hs F.JXL_P_CFG_EN (by decide),
    hr.flagChan hn hs F.JXL_P_CFG_MODE (by decide)]

/-- R200: back-off ends in a new detection, one attempt later. -/
theorem execBackoffEnd_eq (hs : s.regsWf) (hn : n < 16) (hon : s.ingOn = true) (hst : s.chState n = 7) (hmay : mayPower s n = true) :
    execBackoffEnd n s = .next (detecting n (attemptCounted n s)) := by
  rw [execBackoffEnd, onChan_of_mem hon (by omega) (by simp [hst]), ← attemptCounted,
    chanStart_of_mayPower hn ((mayPower_attemptCounted hs hn).trans hmay)]

theorem detecting_attempt (hs : s.regsWf) (hn : n < 16) :
    (detecting n (attemptCounted n s)).get (F.PPC_CH_STAT_ATTEMPT n) = (s.get (F.PPC_CH_STAT_ATTEMPT n) + 1) % 16 := by
  rw [(detecting_reaches n _).chan hn ((attemptCounted_reaches n s).wf hs) F.PPC_CH_STAT_ATTEMPT (by decide), attemptCounted,
    State.get_set_same hs (F.PPC_CH_STAT_ATTEMPT n) _ (fld_ok _ (by decide))]
  rfl

end Ends

end Sys2Proof.Machine

/-!
PROOF. Port power: the rows of the channels in the states where they act; `PortPower`.
-/

namespace Sys2Proof.Machine

section Rows

variable {n mv na i : Nat} {s : State} (hon : s.ingOn = true)

include hon

section Channel

variable (hn : n < 17)

include hn

theorem exec_ppcEnable_on : exec (.ppcEnable .bench n) s = .next (ppcEnable n s) := by
  rw [exec_ppcEnable, execPpcEnable, if_pos hn, State.guardWrite_ing hon]

theorem exec_ppcDisable_on : exec (.ppcDisable .bench n) s = .next (ppcDisable n s) := by
  rw [exec_ppcDisable, execPpcDisable, if_pos hn, State.guardWrite_ing hon]

theorem exec_currentLimit_on (h1 : 1 ≤ s.chState n) (h5 : s.chState n ≤ 5) :
    exec (.currentLimit n i) s = .next (currentHeld n i s) := by
  have hmem : s.chState n ∈ [1, 2, 3, 4, 5] := by
    simp only [List.mem_cons, List.not_mem_nil, or_false]
    omega
  rw [exec_currentLimit, execCurrentLimit, onChan_of_mem hon hn hmem, currentHeld]

theorem exec_attemptClear_on (h : s.chState n = 3 ∨ s.chState n = 5) :
    exec (.attemptClear n) s = .next (s.clear (F.PPC_CH_STAT_ATTEMPT n)) := by
  rw [exec_attemptClear, execAttemptClear, onChan_of_mem hon hn (by simpa using h)]

end Channel

section Port

variable (hn : n < 16)

include hn

/-- R186: EN in CSI-2 mode. -/
theorem exec_ppcEnable_csi (hmode : s.flag (F.JXL_P_CFG_MODE n) = true) :
    exec (.ppcEnable .bench n) s = .next (s.raise (F.PPC_CH_CTL_REFUSED n)) := by
  rw [exec_ppcEnable_on hon (by omega), ppcEnable, if_pos (by simp [hn, hmode])]

/-- R206: CLR of a channel in LATCHED or DENIED. -/
theorem exec_ppcClr_start (hst : s.chState n = 8 ∨ s.chState n = 9) (hmay : mayPower s n = true) :
    exec (.ppcClr .bench n) s = .next (detecting n s) := by
  rw [exec_ppcClr, execPpcClr, if_pos (by omega), State.guardWrite_ing hon, if_pos hst, chanStart_of_mayPower hn hmay]

theorem exec_detectPointEnd_on (hst : s.chState n = 1) (hsig : s.get (F.PPC_CH_STAT_SIG n) = 0) :
    exec (.detectPointEnd n mv na) s = .next (detectPoint n mv na s) := by
  rw [exec_detectPointEnd, execDetectPointEnd, onChan_of_mem hon (by omega) (by simp [hst]), if_pos hsig]

theorem exec_detectRetry_start (hst : s.chState n = 1) (hsig : s.get (F.PPC_CH_STAT_SIG n) ≠ 0) (hmay : mayPower s n = true) :
    exec (.detectRetry n) s = .next (detecting n s) := by
  rw [exec_detectRetry, execDetectRetry, onChan_of_mem hon (by omega) (by simp [hst]), if_neg hsig, chanStart_of_mayPower hn hmay]

theorem exec_ramp1End_good (hst : s.chState n = 2) (hmv : 21600 ≤ mv) :
    exec (.ramp1End n mv) s = .next (portPowerGood n (powered n mv 3 s)) := by
  rw [exec_ramp1End, execRamp1End, onChan_of_mem hon (by omega) (by simp [hst]), if_neg (by omega), powered]

theorem exec_stepComplete_good (hst : s.chState n = 4) (hmv : 43200 ≤ mv) :
    exec (.stepComplete n mv) s = .next (portActive n (powered n mv 5 s)) := by
  rw [exec_stepComplete, execStepComplete, onChan_of_mem hon (by omega) (by simp [hst]), if_neg (by omega), powered]

theorem exec_stepAbort_on (hst : s.chState n = 4) : exec (.stepAbort n) s = .next (portPowerAbort n (chanAbort n 5 s)) := by
  rw [exec_stepAbort, execStepAbort, onChan_of_mem hon (by omega) (by simp [hst])]

theorem exec_disconnect_held (hst : s.chState n = 3 ∨ s.chState n = 5) (hhold : (s.ch n).holdEn = true) :
    exec (.disconnect n) s = .next (portPowerAbort n (chanAbort n 6 s)) := by
  rw [exec_disconnect, execDisconnect, onChan_of_mem hon (by omega) (by simpa using hst), if_pos hhold]

theorem exec_faultRow_on {r : Instr × List Nat × Nat} (hr : r ∈ faultRows n) (hlim : s.flag (F.PPC_CH_STAT_LIMITING n) = true)
    (hst : s.chState n ∈ r.2.1) : exec r.1 s = .next (chanFault n r.2.2 s) := by
  rw [exec_faultRow hr hlim, onChan_of_mem hon (by omega) hst]

end Port

end Rows

section Ends

variable {n mv na : Nat} {s : State} (hs : s.regsWf) (hn : n < 16) (hch : n < s.ppc.length) (hon : s.ingOn = true)

include hs hn hch hon

/-- R186: EN of an enabled port whose channel is off. -/
theorem exec_ppcEnable_ends (hmode : s.flag (F.JXL_P_CFG_MODE n) = false) (hen : s.flag (F.JXL_P_CFG_EN n) = true) (hst : s.chState n = 0) :
    ends (exec (.ppcEnable .bench n) s) (fun t => t.flag (F.PPC_CH_CTL_EN n) = true ∧ t.chState n = 1 ∧
      t.get (F.PPC_CH_LIM_ILIM n) = 5 ∧ t.get (F.PPC_CH_STAT_SIG n) = 0 ∧ (t.ch n).points = []) := by
  have hr := raiseChEn_reaches n s
  have hen' := (detecting_reaches n _).flagChan hn (hr.wf hs) F.PPC_CH_CTL_EN (by decide)
  obtain ⟨hstate, hlim, hsig, hpoints⟩ := detecting_effect (hr.wf hs) hn (by rwa [State.raise_ppc])
  refine ⟨_, exec_ppcEnable_on hon (by omega), ?_⟩
  rw [ppcEnable_of_off hs hn hmode hen hst]
  exact ⟨hen'.trans (State.flag_raise hs _ (chEn_ok n)), hstate, hlim, hsig, hpoints⟩

/-- R187, R188: the second good point, with a slope within the window. -/
theorem exec_detectPointEnd_second {v1 i1 : Nat} (hst : s.chState n = 1) (hsig : s.get (F.PPC_CH_STAT_SIG n) = 0)
    (hp : (s.ch n).points = [(v1, i1)]) (hlo : detectTarget s n * 9 ≤ mv * 10) (hhi : mv * 10 ≤ detectTarget s n * 11)
    (hna : na < 5000000) (hvalid : signature v1 i1 mv na = 1) :
    ends (exec (.detectPointEnd n mv na) s) (fun t => t.get (F.PPC_CH_STAT_SIG n) = 1 ∧ t.chState n = 2 ∧
      t.get (F.PPC_CH_LIM_ILIM n) = 250 ∧ (t.ch n).retry = s.get (F.PPC_CH_CFG_RETRY n)) := by
  have htarget : detectTarget s n = 8000 := if_neg (by simp [hp])
  rw [htarget] at hlo hhi
  exact ⟨_, exec_detectPointEnd_on hon hn hst hsig, detectPoint_second hs hn hch hlo hhi hna hp hvalid⟩

/-- R187: the first good point. -/
theorem exec_detectPointEnd_first (hst : s.chState n = 1) (hsig : s.get (F.PPC_CH_STAT_SIG n) = 0) (hp : (s.ch n).points = [])
    (hlo : detectTarget s n * 9 ≤ mv * 10) (hhi : mv * 10 ≤ detectTarget s n * 11) (hna : na < 5000000) :
    ends (exec (.detectPointEnd n mv na) s) (fun t => (t.ch n).points = [(mv, na)] ∧ t.chState n = 1 ∧
      t.get (F.PPC_CH_STAT_SIG n) = 0) := by
  have htarget : detectTarget s n = 4000 := if_pos hp
  rw [htarget] at hlo hhi
  obtain ⟨hpoints, hstate, hkept⟩ := detectPoint_first hs hn hch hlo hhi hna hp
  exact ⟨_, exec_detectPointEnd_on hon hn hst hsig, hpoints, hstate.trans hst, hkept.trans hsig⟩

/-- R201: a failed detection starts anew and consumes no attempt. -/
theorem exec_detectRetry_ends (hst : s.chState n = 1) (hsig : s.get (F.PPC_CH_STAT_SIG n) ≠ 0) (hmay : mayPower s n = true) :
    ends (exec (.detectRetry n) s) (fun t => t.chState n = 1 ∧ t.get (F.PPC_CH_STAT_SIG n) = 0 ∧ (t.ch n).points = [] ∧
      t.get (F.PPC_CH_STAT_ATTEMPT n) = s.get (F.PPC_CH_STAT_ATTEMPT n)) := by
  obtain ⟨hstate, -, hnew, hpoints⟩ := detecting_effect hs hn hch
  exact ⟨_, exec_detectRetry_start hon hn hst hsig hmay, hstate, hnew, hpoints,
    (detecting_reaches n s).chan hn hs F.PPC_CH_STAT_ATTEMPT (by decide)⟩

theorem exec_backoffEnd_ends (hst : s.chState n = 7) (hmay : mayPower s n = true) :
    ends (exec (.backoffEnd n) s) (fun t => t.chState n = 1 ∧
      t.get (F.PPC_CH_STAT_ATTEMPT n) = (s.get (F.PPC_CH_STAT_ATTEMPT n) + 1) % 16) :=
  ⟨_, execBackoffEnd_eq hs hn hon hst hmay,
    (detecting_effect ((attemptCounted_reaches n s).wf hs) hn (by rwa [attemptCounted, State.set_ppc])).1, detecting_attempt hs hn⟩

end Ends

/-- R186: channel 16 has no detection. -/
theorem exec_ppcEnable_antenna {s : State} (hs : s.regsWf) (hon : s.ingOn = true) (hst : s.chState 16 = 0) :
    ends (exec (.ppcEnable .bench 16) s) (fun t => t.flag (F.PPC_CH_CTL_EN 16) = true ∧ t.chState 16 = 2) := by
  have hen : (s.raise (F.PPC_CH_CTL_EN 16)).regsWf := State.raise_regsWf hs _
  refine ⟨_, exec_ppcEnable_on hon (by omega), ?_⟩
  rw [ppcEnable_antenna hs hst]
  refine ⟨?_, State.get_set_fits (chLoad_regsWf hen 16) _ (chState_ok 16) (by decide : 2 < 2 ^ 4)⟩
  rw [State.flag, State.get_set_of_off_ne _ (F.PPC_CH_STAT_STATE 16) (F.PPC_CH_CTL_EN 16) _ (by decide)]
  exact State.flag_raise hs _ (chEn_ok 16)

/-- Settles O20: each row's equation in the states where it acts, and the effect of the state it leaves; channels and ports are told
apart by their registers and fields. -/
theorem portPower : Obligations.PortPower := by
  unfold Obligations.PortPower
  refine ⟨⟨?_, ?_, ?_, ?_, ?_, ?_, ?_, ?_⟩, ⟨?_, ?_, ?_, ?_, ?_, ?_, ?_, ?_, ?_, ?_⟩, ?_⟩
  · exact fun s n hon hn hmode => exec_ppcEnable_csi hon hn hmode
  · exact fun s n hok hsz hon hn hmode hen hst => exec_ppcEnable_ends hok.regs hn (hsz.chan_lt hn) hon hmode hen hst
  · exact fun s hok hon hst => exec_ppcEnable_antenna hok.regs hon hst
  · exact fun s n hok hsz hon hn hst => ⟨_, exec_ppcDisable_on hon hn, ppcDisable_effect hok.regs hn (by rwa [hsz.ppc]) hst⟩
  · intro s n hok hsz hon hn hst hmay
    obtain ⟨hstate, -, hsig, -⟩ := detecting_effect hok.regs hn (hsz.chan_lt hn)
    exact ⟨_, exec_ppcClr_start hon hn hst hmay, hstate, hsig⟩
  · intro s n mv na hok hsz hon hn hst hsig hmv
    refine ⟨fun hbad => ⟨_, exec_detectPointEnd_on hon hn hst hsig, detectPoint_low hok.regs hn hmv hst hbad⟩, ?_, ?_⟩
    · exact fun hlo hhi hna hp => exec_detectPointEnd_first hok.regs hn (hsz.chan_lt hn) hon hst hsig hp hlo hhi hna
    · exact fun v1 i1 hp hlo hhi hna _ hi hmin hmax => exec_detectPointEnd_second hok.regs hn (hsz.chan_lt hn) hon hst hsig hp hlo hhi
        hna (signature_valid hi hmin hmax)
  · exact fun s n hok hsz hon hn hst hsig hmay => exec_detectRetry_ends hok.regs hn (hsz.chan_lt hn) hon hst hsig hmay
  · exact fun s n mv hok hsz hon hn hst hmv hlink hen hmode =>
      ⟨_, exec_ramp1End_good hon hn hst hmv, portPowerGood_effect hok.regs hn hlink hen hmode (by decide)⟩
  · intro s n hok hsz hon hroom hnext
    have hn := (stepNext_spec hnext).1
    exact ⟨_, execStepStart_of_waiting hok.regs hon hroom hnext, stepBegun_effect hok.regs hn (hsz.chan_lt hn)⟩
  · exact fun s _ h => execStepStart_of_none h
  · exact fun s n h => stepNext_spec h
  · exact fun s n mv hok hsz hon hn hst hmv =>
      ⟨_, exec_stepComplete_good hon hn hst hmv, portActive_powered hok.regs hn (hsz.port_lt hn) mv⟩
  · exact fun s n i hok hon hn h1 h5 => ⟨_, exec_currentLimit_on hon hn h1 h5, currentHeld_effect hok.regs hn i⟩
  · exact fun s n hok hsz hon hn hst => ⟨_, exec_stepAbort_on hon hn hst, abort_effect hok.regs hn (hsz.chan_lt hn) (by decide)⟩
  · intro s n hok hsz hon hn hst hhold
    obtain ⟨hstate, hcause, hexit, -⟩ := abort_effect (cause := 6) hok.regs hn (hsz.chan_lt hn) (by decide)
    exact ⟨_, exec_disconnect_held hon hn hst hhold, hstate, hcause, hexit⟩
  · exact fun s n hok hsz hon hn hst hmay hjob hdev hpend =>
      execCooldownEnd_ends hok.regs hn (hsz.chan_lt hn) hon hst hmay hjob hdev hpend
  · exact fun s n hok hsz hon hn hst hmay => exec_backoffEnd_ends hok.regs hn (hsz.chan_lt hn) hon hst hmay
  · exact fun s n hon hn hst => exec_attemptClear_on hon hn hst
  · intro s n r hok hsz hon hn hr hlim
    refine ⟨fun hst => ⟨_, exec_faultRow_on hon hn hr hlim hst, chanFault_effect hok.regs hn (faultRow_cause hr)⟩, fun hst => ?_⟩
    rw [exec_faultRow hr hlim, onChan_of_not_mem hst]

end Sys2Proof.Machine

/-!
PROOF. The antenna-line port (05 R207 to R211): its transmit buffer, commands, the transmitter, received frames, missing answers and
polling.
-/

namespace Sys2Proof.Machine

theorem exec_aldICommand (a : Agent) (e len : Nat) (s : State) : exec (.aldICommand a e len) s = execAldICommand a e len s := rfl
theorem exec_aldRawCommand (a : Agent) (e len : Nat) (s : State) : exec (.aldRawCommand a e len) s = execAldRawCommand a e len s := rfl
theorem exec_aldFrameRx (fr : List Byte) (ab : Bool) (s : State) : exec (.aldFrameRx fr ab) s = execAldFrameRx fr ab s := rfl
theorem exec_aldResponseTimeout (e : Nat) (s : State) : exec (.aldResponseTimeout e) s = execAldResponseTimeout e s := rfl

/-! ### The transmit buffer (R211) -/

/-- Bytes in the transmit buffer. -/
def aldBytes (s : State) : Nat := (s.ald.queue.map AldFrame.size).sum

/-- The status register of the port, the one register that the queue shows itself in. -/
abbrev aldStatRegs : List Nat := [F.SITE_ALD_STAT_TX_BUSY.off]

section Queue

variable {s t : State} {f : AldFrame} {q : List AldFrame}

theorem setAldQueue_queue (q : List AldFrame) (s : State) : (setAldQueue q s).ald.queue = q := by
  rw [setAldQueue, State.set_ald, State.setAld_ald]

theorem setAldQueue_addrs (q : List AldFrame) (s : State) : (setAldQueue q s).ald.addrs = s.ald.addrs := by
  rw [setAldQueue, State.set_ald, State.setAld_ald]

theorem setAldQueue_out (q : List AldFrame) (s : State) : (setAldQueue q s).out = s.out := by
  rw [setAldQueue, State.set_out, State.setAld_out]

theorem setAldQueue_writes (q : List AldFrame) (s : State) : s.Writes aldStatRegs (setAldQueue q s) :=
  ((State.Writes.refl s aldStatRegs).of_regs (State.setAld_regs s _)).set (f := F.SITE_ALD_STAT_TX_BUSY) (.head _) _

theorem setAldQueue_busy (hs : s.regsWf) (q : List AldFrame) : (setAldQueue q s).flag F.SITE_ALD_STAT_TX_BUSY = !q.isEmpty :=
  State.flag_set_b2n (s := s.setAld _) hs F.SITE_ALD_STAT_TX_BUSY _ (bit_ok _ (by decide))

theorem State.aa_eq_of_addrs (h : t.ald.addrs = s.ald.addrs) (i : Nat) : t.aa i = s.aa i := by rw [State.aa, h, State.aa]

theorem setAldQueue_aa (q : List AldFrame) (s : State) (i : Nat) : (setAldQueue q s).aa i = s.aa i :=
  State.aa_eq_of_addrs (setAldQueue_addrs q s) i

/-- A full buffer. -/
theorem aldPush_of_full (h : 2048 < aldBytes s + f.size) : aldPush f s = s.raise F.SITE_ALD_STAT_TX_OVF := if_pos h

theorem aldPush_of_room (h : aldBytes s + f.size ≤ 2048) : aldPush f s = setAldQueue (s.ald.queue ++ [f]) s := if_neg (Nat.not_lt.2 h)

theorem aldPush_of_empty (hq : s.ald.queue = []) (h : f.size ≤ 2048) : aldPush f s = setAldQueue [f] s := by
  have hroom : aldBytes s + f.size ≤ 2048 := by
    rw [aldBytes, hq]
    simpa using h
  rw [aldPush_of_room hroom, hq, List.nil_append]

/-- Link states and valid entries lie outside the status register. -/
theorem State.Writes.aldState (h : s.Writes aldStatRegs t) {i : Nat} (hi : i < 32) : aldState t i = aldState s i := by
  have hne : (F.SITE_ALD_LSTATE (i / 16)).off ∉ aldStatRegs := by
    simp only [F.SITE_ALD_LSTATE, F.SITE_ALD_STAT_TX_BUSY, aldStatRegs, List.mem_singleton]
    omega
  rw [Machine.aldState, h.get hne, Machine.aldState]

theorem State.Writes.aldValid (h : s.Writes aldStatRegs t) (i : Nat) : aldValid t i = aldValid s i := by
  rw [Machine.aldValid, h.get (by decide), Machine.aldValid]

theorem State.Writes.aldAddr (h : s.Writes aldStatRegs t) {i : Nat} (hi : i < 32) : aldAddr t i = aldAddr s i := by
  have hne : (F.SITE_ALD_ADDR (i / 4)).off ∉ aldStatRegs := by
    simp only [F.SITE_ALD_ADDR, F.SITE_ALD_STAT_TX_BUSY, aldStatRegs, List.mem_singleton]
    omega
  rw [Machine.aldAddr, h.get hne, Machine.aldAddr]

end Queue

/-! ### Commands (R210, R211) -/

/-- The command register as written. -/
def commanded (raw : Bool) (e len : Nat) (s : State) : State :=
  ((s.set F.SITE_ALD_TXCMD_ENTRY e).set F.SITE_ALD_TXCMD_KIND (b2n raw)).set F.SITE_ALD_TXCMD_LEN len

section Command

variable {s : State} {raw : Bool} {e len : Nat}

theorem commanded_writes (raw : Bool) (e len : Nat) (s : State) : s.Writes [F.SITE_ALD_TXCMD_GO.off] (commanded raw e len s) :=
  (((State.Writes.refl s _).set (f := F.SITE_ALD_TXCMD_ENTRY) (.head _) e).set (f := F.SITE_ALD_TXCMD_KIND) (.head _) (b2n raw)).set
    (f := F.SITE_ALD_TXCMD_LEN) (.head _) len

theorem commanded_ald (raw : Bool) (e len : Nat) (s : State) : (commanded raw e len s).ald = s.ald := by
  rw [commanded, State.set_ald, State.set_ald, State.set_ald]

theorem commanded_aldState (he : e < 32) : aldState (commanded raw e len s) e = aldState s e := by
  have hne : (F.SITE_ALD_LSTATE (e / 16)).off ∉ [F.SITE_ALD_TXCMD_GO.off] := by
    simp only [F.SITE_ALD_LSTATE, F.SITE_ALD_TXCMD_GO, List.mem_singleton]
    omega
  rw [aldState, (commanded_writes raw e len s).get hne, aldState]

theorem commanded_buffer (raw : Bool) (e len : Nat) (s : State) (l : Nat) : aldBuffer (commanded raw e len s) l = aldBuffer s l := by
  have hword (k : Nat) : (commanded raw e len s).get (F.SITE_ALD_TXBUF k) = s.get (F.SITE_ALD_TXBUF k) := by
    refine (commanded_writes raw e len s).get ?_
    simp only [F.SITE_ALD_TXBUF, F.SITE_ALD_TXCMD_GO, List.mem_singleton]
    omega
  simp only [aldBuffer, hword]

theorem aldBuffer_length_le (s : State) (len : Nat) : (aldBuffer s len).length ≤ len := List.length_take_le _ _

variable (hon : s.ingOn = true) (he : e < 32) (hlen : len < 2048)

include hon he hlen

/-- A command to send an I frame. -/
theorem exec_aldICommand_on : exec (.aldICommand .bench e len) s = .next
    (if aldState s e = 2 then aldPush ⟨e, true, 0, aldBuffer s len⟩ (commanded false e len s) else commanded false e len s) := by
  rw [exec_aldICommand, execAldICommand, State.guardWrite_ing hon, Nat.mod_eq_of_lt (by omega : e < 256), Nat.mod_eq_of_lt hlen, aldCommand,
    ← commanded, if_neg (by omega), if_neg Bool.false_ne_true, commanded_aldState he, commanded_buffer]

/-- A command to send the buffer as it is. -/
theorem exec_aldRawCommand_on : exec (.aldRawCommand .bench e len) s = .next
    (aldPush ⟨e, false, (((aldBuffer s len).headD 0) ||| 0x10).toNat, (aldBuffer s len).drop 1⟩ (commanded true e len s)) := by
  rw [exec_aldRawCommand, execAldRawCommand, State.guardWrite_ing hon, Nat.mod_eq_of_lt (by omega : e < 256), Nat.mod_eq_of_lt hlen,
    aldCommand, ← commanded, if_neg (by omega), if_pos rfl, commanded_buffer]

/-- R211: an I frame for an address in NRM joins the queue. -/
theorem exec_aldICommand_nrm (hs : s.regsWf) (hst : aldState s e = 2) (hq : s.ald.queue = []) :
    ends (exec (.aldICommand .bench e len) s) (fun t => t.ald.queue = [⟨e, true, 0, aldBuffer s len⟩] ∧ t.ald.addrs = s.ald.addrs ∧
      t.flag F.SITE_ALD_STAT_TX_BUSY = true) := by
  have hsize : AldFrame.size ⟨e, true, 0, aldBuffer s len⟩ ≤ 2048 :=
    Nat.succ_le_succ ((aldBuffer_length_le s len).trans (Nat.le_of_lt_succ hlen))
  refine ⟨_, exec_aldICommand_on hon he hlen, ?_⟩
  rw [if_pos hst, aldPush_of_empty (by rwa [commanded_ald]) hsize]
  exact ⟨setAldQueue_queue _ _, by rw [setAldQueue_addrs, commanded_ald], setAldQueue_busy ((commanded_writes _ e len s).wf hs) _⟩

/-- R210: no I frame for an address outside NRM. -/
theorem exec_aldICommand_not_nrm (hst : aldState s e ≠ 2) : ends (exec (.aldICommand .bench e len) s) (fun t => t.ald = s.ald) :=
  ⟨_, exec_aldICommand_on hon he hlen, (congrArg State.ald (if_neg hst)).trans (commanded_ald _ _ _ _)⟩

theorem exec_aldRawCommand_queue (hq : s.ald.queue = []) : ends (exec (.aldRawCommand .bench e len) s) (fun t =>
    t.ald.queue = [⟨e, false, (((aldBuffer s len).headD 0) ||| 0x10).toNat, (aldBuffer s len).drop 1⟩]) := by
  have hsize : AldFrame.size ⟨e, false, (((aldBuffer s len).headD 0) ||| 0x10).toNat, (aldBuffer s len).drop 1⟩ ≤ 2048 := by
    have hbuf := aldBuffer_length_le s len
    simp only [AldFrame.size, List.length_drop]
    omega
  refine ⟨_, exec_aldRawCommand_on hon he hlen, ?_⟩
  rw [aldPush_of_empty (by rwa [commanded_ald]) hsize]
  exact setAldQueue_queue _ _

end Command

/-! ### The record of an address -/

section Addr

variable {s : State} {i : Nat}

theorem State.setAa_queue (s : State) (i : Nat) (a : AldAddr) : (s.setAa i a).ald.queue = s.ald.queue := by
  rw [State.setAa, State.setAld_ald]
theorem State.setAa_out (s : State) (i : Nat) (a : AldAddr) : (s.setAa i a).out = s.out := State.setAld_out _ _

theorem State.aa_setAa_same (h : i < s.ald.addrs.length) (a : AldAddr) : (s.setAa i a).aa i = a := by
  rw [State.aa, State.setAa, State.setAld_ald, List.getD_eq_getElem _ _ (by rwa [List.length_set]), List.getElem_set_self]

end Addr

/-! ### The transmitter (R207, R208) -/

section Transmit

variable {s : State} {f : AldFrame} {l : List AldFrame}

/-- The oldest frame leaves when it may go. -/
theorem execAldTxStart_of_head (hon : s.ingOn = true) (hen : s.flag F.SITE_ALD_CFG_EN = true) (hq : s.ald.queue = f :: l)
    (hgo : aldMaySend s f = true) : execAldTxStart s = .next (aldSend f (setAldQueue l s)) := by
  rw [execAldTxStart, if_pos (by simp [hon, hen]), hq]
  simp only [List.find?_cons_of_pos hgo, List.takeWhile_cons, List.dropWhile_cons, hgo, Bool.not_true, Bool.false_eq_true, if_false,
    List.nil_append, List.drop_one, List.tail_cons]

/-- An I frame may go to an address in NRM with room in its window (R210). -/
theorem aldMaySend_of_nrm (hst : aldState s f.entry = 2) (hwin : (s.aa f.entry).unacked.length < s.get F.SITE_ALD_CFG_WINDOW) :
    aldMaySend s f = true := by
  simp [aldMaySend, hst, hwin]

variable {e : Nat} {p : List Byte}

/-- What an I frame that leaves changes: V(S), the frames that wait for their acknowledgement, and the bus. -/
theorem aldSend_iFrame (he : e < s.ald.addrs.length) :
    (aldSend ⟨e, true, 0, p⟩ s).ald.queue = s.ald.queue ∧
    (aldSend ⟨e, true, 0, p⟩ s).aa e = { s.aa e with vs := ((s.aa e).vs + 1) % 8, unacked := (s.aa e).unacked ++ [((s.aa e).vs, p)] } ∧
    (let b := BitVec.ofNat 8 (aldAddr s e) :: BitVec.ofNat 8 ((s.aa e).vs * 2 + 0x10 + (s.aa e).vr * 32) :: p
     (aldSend ⟨e, true, 0, p⟩ s).out = .rs485 (b ++ leBytes 2 (fcs16 b)) :: s.out) := by
  have hsend : aldSend ⟨e, true, 0, p⟩ s = aldEmit (aldAddr s e) ((s.aa e).vs * 2 + 0x10 + (s.aa e).vr * 32) p
      (s.setAa e { s.aa e with vs := ((s.aa e).vs + 1) % 8, unacked := (s.aa e).unacked ++ [((s.aa e).vs, p)] }) := rfl
  rw [hsend, aldEmit]
  exact ⟨by rw [State.emit_ald, State.setAa_queue], by rw [State.aa, State.emit_ald, ← State.aa, State.aa_setAa_same he],
    by rw [State.emit_out, State.setAa_out]⟩

theorem exec_aldTxStart_iFrame (he : e < 32) (haddrs : s.ald.addrs.length = 32) (hon : s.ingOn = true)
    (hen : s.flag F.SITE_ALD_CFG_EN = true) (hq : s.ald.queue = ⟨e, true, 0, p⟩ :: l) (hst : aldState s e = 2)
    (hwin : (s.aa e).unacked.length < s.get F.SITE_ALD_CFG_WINDOW) :
    ends (exec .aldTxStart s) (fun t => t.ald.queue = l ∧ (t.aa e).vs = ((s.aa e).vs + 1) % 8 ∧
      (t.aa e).unacked = (s.aa e).unacked ++ [((s.aa e).vs, p)] ∧
      (let b := BitVec.ofNat 8 (aldAddr s e) :: BitVec.ofNat 8 ((s.aa e).vs * 2 + 0x10 + (s.aa e).vr * 32) :: p
       t.out = .rs485 (b ++ leBytes 2 (fcs16 b)) :: s.out)) := by
  obtain ⟨hqueue, haa, hout⟩ := aldSend_iFrame (s := setAldQueue l s) (p := p) (by rw [setAldQueue_addrs]; omega : e < _)
  rw [setAldQueue_aa, (setAldQueue_writes l s).aldAddr he, setAldQueue_out] at hout
  rw [setAldQueue_aa] at haa
  exact ⟨_, execAldTxStart_of_head hon hen hq (aldMaySend_of_nrm hst hwin), hqueue.trans (setAldQueue_queue l s),
    by rw [haa], by rw [haa], hout⟩

end Transmit

/-! ### Received frames (R209, R210) -/

section Receive

variable {s : State} {fr : List Byte}

theorem exec_aldFrameRx_on (hon : s.ingOn = true) (hen : s.flag F.SITE_ALD_CFG_EN = true) (ab : Bool) :
    exec (.aldFrameRx fr ab) s = .next (aldReceive fr ab s) := by
  rw [exec_aldFrameRx, execAldFrameRx, if_pos (by simp [hon, hen])]

theorem aldReceive_aborted (fr : List Byte) (s : State) : aldReceive fr true s = s.inc F.SITE_ALD_ABORT := by
  rw [aldReceive, if_pos rfl]

theorem aldReceive_short (h : fr.length < 4) : aldReceive fr false s = s.inc F.SITE_ALD_SHORT := by
  rw [aldReceive, if_neg Bool.false_ne_true, if_pos h]

theorem aldReceive_long (h : 1536 < fr.length) : aldReceive fr false s = s.inc F.SITE_ALD_LONG := by
  rw [aldReceive, if_neg Bool.false_ne_true, if_neg (by omega), if_pos h]

section Whole

variable (h4 : 4 ≤ fr.length) (hmax : fr.length ≤ 1536)

include h4 hmax

theorem aldReceive_damaged (h : fcs16 (fr.take (fr.length - 2)) ≠ leNat (fr.drop (fr.length - 2))) :
    aldReceive fr false s = s.inc F.SITE_ALD_CRC_ERR := by
  rw [aldReceive, if_neg Bool.false_ne_true, if_neg (by omega), if_neg (by omega), if_pos h]

variable (hfcs : fcs16 (fr.take (fr.length - 2)) = leNat (fr.drop (fr.length - 2)))

include hfcs

theorem aldReceive_foreign (hnone : (List.range 32).find? (fun i => aldValid s i && aldAddr s i == (fr.headD 0).toNat) = none)
    (hbroad : (fr.headD 0).toNat ≠ 0xFF) (hprom : s.flag F.SITE_ALD_CFG_PROMISC = false) :
    aldReceive fr false s = s.inc F.SITE_ALD_ADDR_DROP := by
  rw [aldReceive, if_neg Bool.false_ne_true, if_neg (by omega), if_neg (by omega), if_neg (not_not.2 hfcs), hnone, hprom,
    if_pos (by simpa using hbroad)]

theorem aldReceive_known {i : Nat} (hsome : (List.range 32).find? (fun i => aldValid s i && aldAddr s i == (fr.headD 0).toNat) = some i) :
    aldReceive fr false s = aldLink i (fr.getD 1 0).toNat (aldDeliver (fr.take (fr.length - 2)) s) := by
  rw [aldReceive, if_neg Bool.false_ne_true, if_neg (by omega), if_neg (by omega), if_neg (not_not.2 hfcs), hsome,
    if_neg (by simp)]

end Whole

end Receive

/-! ### A missing answer (R210) -/

section LinkState

variable {s : State} {e i : Nat}

theorem lstate_ok (k : Nat) : (F.SITE_ALD_LSTATE k).ok := word_ok _

theorem setAldState_get (hs : s.regsWf) (v : Nat) : (setAldState e v s).get (F.SITE_ALD_LSTATE (e / 16)) =
    putBits (s.get (F.SITE_ALD_LSTATE (e / 16))) (2 * (e % 16) + 1) (2 * (e % 16)) v :=
  State.get_set_fits hs _ (lstate_ok _) (putBits_lt (bitsOf_lt _ 31 0) (by omega : 2 * (e % 16) + 1 < 32) (by omega))

theorem aldState_setAldState_same (hs : s.regsWf) {v : Nat} (hv : v < 4) : aldState (setAldState e v s) e = v := by
  rw [aldState, setAldState_get hs, bitsOf_putBits_same (by omega), show 2 * (e % 16) + 1 + 1 - 2 * (e % 16) = 2 by omega]
  exact Nat.mod_eq_of_lt hv

/-- The link state of another entry, in the same register or in the other. -/
theorem aldState_setAldState_ne (hs : s.regsWf) (v : Nat) (h : i ≠ e) : aldState (setAldState e v s) i = aldState s i := by
  by_cases hreg : i / 16 = e / 16
  · rw [aldState, hreg, setAldState_get hs, bitsOf_putBits_ne (by omega) (by omega), aldState, hreg]
  · have hne : (F.SITE_ALD_LSTATE (i / 16)).off ≠ (F.SITE_ALD_LSTATE (e / 16)).off := by
      simp only [F.SITE_ALD_LSTATE]
      omega
    rw [aldState, setAldState, State.get_set_of_off_ne _ _ _ _ hne, aldState]

theorem setAldState_out (e v : Nat) (s : State) : (setAldState e v s).out = s.out := State.set_out _ _ _

end LinkState

/-- Bench is told that the address has failed. -/
def aldFailed (e : Nat) (s : State) : State := ((setAldState e 3 s).raise F.SITE_ALD_STAT_FAILED_IRQ).bench .aldFailed e

/-- One more transmission. -/
def aldTried (e : Nat) (s : State) : State := s.setAa e { s.aa e with tries := (s.aa e).tries + 1 }

/-- The frame that polls an entry. -/
def aldRrFrame (s : State) (i : Nat) : AldFrame := ⟨i, false, aldRr (s.aa i), []⟩

theorem aldRrFrame_size (s : State) (i : Nat) : (aldRrFrame s i).size = 1 := rfl

section Timeout

variable {s : State} {e : Nat}

theorem aldFailed_aldState {i : Nat} (hi : i < 32) : aldState (aldFailed e s) i = aldState (setAldState e 3 s) i :=
  (((State.Writes.refl _ aldStatRegs).set (f := F.SITE_ALD_STAT_FAILED_IRQ) (.head _) 1).of_regs (State.bench_regs _ _ _)).aldState hi

theorem aldFailed_effect (hs : s.regsWf) (he : e < 32) : aldState (aldFailed e s) e = 3 ∧
    (aldFailed e s).flag F.SITE_ALD_STAT_FAILED_IRQ = true ∧ (aldFailed e s).out = .bench .aldFailed e :: s.out ∧
    (∀ i, i < 32 → i ≠ e → aldState (aldFailed e s) i = aldState s i) := by
  refine ⟨?_, ?_, ?_, fun i hi hne => ?_⟩
  · rw [aldFailed_aldState he, aldState_setAldState_same hs (by decide)]
  · rw [aldFailed, State.bench_flag]
    exact State.flag_raise (State.set_regsWf hs _ _) _ (bit_ok _ (by decide))
  · rw [aldFailed, State.bench, State.emit_out, State.raise_out, setAldState_out]
  · rw [aldFailed_aldState hi, aldState_setAldState_ne hs 3 hne]

variable (hon : s.ingOn = true) (hen : s.flag F.SITE_ALD_CFG_EN = true) (he : e < 32) (hst : aldState s e = 2)

include hon hen he hst

theorem exec_aldResponseTimeout_failed (h : s.get F.SITE_ALD_CFG_N2 ≤ (s.aa e).tries) :
    exec (.aldResponseTimeout e) s = .next (aldFailed e s) := by
  rw [exec_aldResponseTimeout, execAldResponseTimeout, if_pos (by simp [hon, hen, he, hst]), if_pos h, aldFailed]

theorem exec_aldResponseTimeout_poll (h : (s.aa e).tries < s.get F.SITE_ALD_CFG_N2) (hun : (s.aa e).unacked = []) :
    exec (.aldResponseTimeout e) s = .next (aldPush (aldRrFrame s e) (aldTried e s)) := by
  rw [exec_aldResponseTimeout, execAldResponseTimeout, if_pos (by simp [hon, hen, he, hst]), if_neg (Nat.not_le.2 h)]
  simp only [hun, aldTried, aldRrFrame]

/-- R210: with nothing to send again the poll is sent again. -/
theorem exec_aldResponseTimeout_ends (haddrs : s.ald.addrs.length = 32) (h : (s.aa e).tries < s.get F.SITE_ALD_CFG_N2)
    (hq : s.ald.queue = []) (hun : (s.aa e).unacked = []) :
    ends (exec (.aldResponseTimeout e) s) (fun t => (t.aa e).tries = (s.aa e).tries + 1 ∧
      t.ald.queue = [⟨e, false, 0x11 + (s.aa e).vr * 32, []⟩]) := by
  have hq' : (aldTried e s).ald.queue = [] := (State.setAa_queue _ _ _).trans hq
  refine ⟨_, exec_aldResponseTimeout_poll hon hen he hst h hun, ?_⟩
  rw [aldPush_of_empty hq' (by rw [aldRrFrame_size]; decide)]
  exact ⟨by rw [setAldQueue_aa, aldTried, State.aa_setAa_same (by omega)], setAldQueue_queue _ _⟩

end Timeout

/-! ### Polling (R210) -/

/-- The entry is polled: it is valid and in NRM. -/
def aldPolled (s : State) (i : Nat) : Bool := aldValid s i && aldState s i == 2

/-- An entry is polled, if it is to be. -/
def aldPollOne (s : State) (i : Nat) : State := if aldPolled s i then aldPush (aldRrFrame s i) s else s

section Poll

variable {s : State}

theorem execAldPoll_of_idle (hon : s.ingOn = true) (hen : s.flag F.SITE_ALD_CFG_EN = true) (hq : s.ald.queue = [])
    (hpoll : s.get F.SITE_ALD_POLL ≠ 0) : execAldPoll s = .next ((List.range 32).foldl aldPollOne s) := by
  rw [execAldPoll, if_pos (by simp [hon, hen, hq, hpoll])]
  rfl

/-- One entry's turn, with room for its frame. -/
theorem aldPollOne_effect (h : aldBytes s < 2048) (i : Nat) :
    (aldPollOne s i).ald.queue = s.ald.queue ++ ([i].filter (aldPolled s)).map (aldRrFrame s) ∧
    (aldPollOne s i).ald.addrs = s.ald.addrs ∧ s.Writes aldStatRegs (aldPollOne s i) ∧ aldBytes (aldPollOne s i) ≤ aldBytes s + 1 := by
  rw [aldPollOne]
  split
  next hp =>
    rw [aldPush_of_room (by rw [aldRrFrame_size]; omega), List.filter_cons_of_pos hp]
    refine ⟨setAldQueue_queue _ _, setAldQueue_addrs _ _, setAldQueue_writes _ _, ?_⟩
    rw [aldBytes, setAldQueue_queue, List.map_append, List.sum_append, ← aldBytes, List.map_singleton, List.sum_singleton, aldRrFrame_size]
  next hp =>
    rw [List.filter_cons_of_neg hp, List.filter_nil, List.map_nil, List.append_nil]
    exact ⟨rfl, rfl, .refl s _, Nat.le_succ _⟩

/-- Polling goes through the entries in order; what one entry's turn leaves shows every other as it was. -/
theorem aldPoll_foldl (l : List Nat) : ∀ s : State, (∀ i ∈ l, i < 32) → aldBytes s + l.length ≤ 2048 →
    (l.foldl aldPollOne s).ald.queue = s.ald.queue ++ (l.filter (aldPolled s)).map (aldRrFrame s) ∧
    (l.foldl aldPollOne s).ald.addrs = s.ald.addrs := by
  induction l with
  | nil => exact fun s _ _ => ⟨(List.append_nil _).symm, rfl⟩
  | cons i l ih =>
    intro s hl hroom
    rw [List.length_cons] at hroom
    obtain ⟨hqueue, haddrs, hwrites, hbytes⟩ := aldPollOne_effect (s := s) (by omega) i
    obtain ⟨hq, ha⟩ := ih (aldPollOne s i) (fun j hj => hl j (.tail _ hj)) (by omega)
    have hpolled : l.filter (aldPolled (aldPollOne s i)) = l.filter (aldPolled s) :=
      List.filter_congr fun j hj => by rw [aldPolled, hwrites.aldValid, hwrites.aldState (hl j (.tail _ hj)), aldPolled]
    have hframe : aldRrFrame (aldPollOne s i) = aldRrFrame s :=
      funext fun j => by rw [aldRrFrame, State.aa_eq_of_addrs haddrs, aldRrFrame]
    rw [hpolled, hframe, hqueue] at hq
    refine ⟨?_, ha.trans haddrs⟩
    rw [List.foldl_cons, hq, List.append_assoc, ← List.map_append, ← List.filter_append, List.singleton_append]

end Poll

end Sys2Proof.Machine

/-!
PROOF. GPIO and alarm inputs (05 R212, R213); `SiteControl`.
-/

namespace Sys2Proof.Machine

/-! ### Single bits -/

theorem bitOf_eq_testBit (n i : Nat) : bitOf n i = n.testBit i := by
  rw [Nat.testBit_eq_decide_div_mod_eq]
  rfl

/-- A pin shows the level that it takes. -/
theorem bitOf_putBits_self (x n : Nat) (b : Bool) : bitOf (putBits x n n (b2n b)) n = b := by
  rw [bitOf_eq_testBit, putBits_testBit le_rfl, if_pos ⟨le_rfl, le_rfl⟩, Nat.sub_self]
  cases b <;> rfl

/-- Bit `n` of the field is set. -/
def bitRaised (f : Fld) (n : Nat) (s : State) : State := s.set f (s.get f ||| 2 ^ n)

section BitRaised

variable {s : State} {f : Fld} {n : Nat}

theorem bitRaised_get (hs : s.regsWf) (hf : f.ok) (hn : n < f.hi + 1 - f.lo) : (bitRaised f n s).get f = s.get f ||| 2 ^ n :=
  State.get_set_fits hs f hf (Nat.or_lt_two_pow (bitsOf_lt _ _ _) (Nat.pow_lt_pow_right (by decide) hn))

/-- That bit is set. -/
theorem bitRaised_self (hs : s.regsWf) (hf : f.ok) (hn : n < f.hi + 1 - f.lo) : bitOf ((bitRaised f n s).get f) n = true := by
  rw [bitRaised_get hs hf hn, bitOf_eq_testBit, Nat.testBit_or, Nat.testBit_two_pow_self, Bool.or_true]

/-- And no other. -/
theorem bitRaised_ne (hs : s.regsWf) (hf : f.ok) (hn : n < f.hi + 1 - f.lo) {m : Nat} (h : m ≠ n) :
    bitOf ((bitRaised f n s).get f) m = bitOf (s.get f) m := by
  rw [bitRaised_get hs hf hn, bitOf_eq_testBit, Nat.testBit_or, Nat.testBit_two_pow_of_ne h.symm, Bool.or_false, ← bitOf_eq_testBit]

end BitRaised

/-! ### An input latches (R212, R213) -/

/-- Bench is told where `b` says so. -/
def benchTold (b : Bool) (k : Notice) (n : Nat) (s : State) : State := if b then s.bench k n else s

/-- What an input leaves: the pins, its bit of `f`, and a report to Bench. -/
def inputLatched (f : Fld) (b : Bool) (k : Notice) (n : Nat) (pins : Pins) (s : State) : State :=
  benchTold b k n (bitRaised f n (s.setPins pins))

section Latched

variable {s : State} {f : Fld} {b : Bool} {k : Notice} {n : Nat} {pins : Pins}

theorem State.setPins_get (s : State) (x : Pins) (g : Fld) : (s.setPins x).get g = s.get g := by
  rw [State.get, State.reg, State.setPins_regs, State.get, State.reg]

theorem benchTold_get (b : Bool) (k : Notice) (n : Nat) (s : State) (g : Fld) : (benchTold b k n s).get g = s.get g := by
  cases b <;> rfl

theorem benchTold_pins (b : Bool) (k : Notice) (n : Nat) (s : State) : (benchTold b k n s).pins = s.pins := by cases b <;> rfl

theorem benchTold_tiles (b : Bool) (k : Notice) (n : Nat) (s : State) : (benchTold b k n s).tiles = s.tiles := by cases b <;> rfl

theorem inputLatched_pins (f : Fld) (b : Bool) (k : Notice) (n : Nat) (pins : Pins) (s : State) :
    (inputLatched f b k n pins s).pins = pins := by
  rw [inputLatched, benchTold_pins, bitRaised, State.set_pins, State.setPins_pins]

theorem inputLatched_tiles (f : Fld) (b : Bool) (k : Notice) (n : Nat) (pins : Pins) (s : State) :
    (inputLatched f b k n pins s).tiles = s.tiles := by
  rw [inputLatched, benchTold_tiles, bitRaised, State.set_tiles, State.setPins_tiles]

theorem inputLatched_get_ne {g : Fld} (h : g.off ≠ f.off) : (inputLatched f b k n pins s).get g = s.get g := by
  rw [inputLatched, benchTold_get, bitRaised, State.get_set_of_off_ne _ _ _ _ h, State.setPins_get]

theorem inputLatched_flag_ne {g : Fld} (h : g.off ≠ f.off) : (inputLatched f b k n pins s).flag g = s.flag g := by
  rw [State.flag, inputLatched_get_ne h, State.flag]

/-- The input's bit is set, no other bit of the field changes, nor any other register, nor any tile. -/
theorem inputLatched_effect (hs : s.regsWf) (hf : f.ok) (hn : n < f.hi + 1 - f.lo) :
    bitOf ((inputLatched f b k n pins s).get f) n = true ∧
    (∀ m, m ≠ n → bitOf ((inputLatched f b k n pins s).get f) m = bitOf (s.get f) m) ∧
    (∀ g : Fld, g.off ≠ f.off → (inputLatched f b k n pins s).get g = s.get g) ∧ (inputLatched f b k n pins s).tiles = s.tiles := by
  have hs' : (s.setPins pins).regsWf := by rwa [State.regsWf, State.setPins_regs]
  refine ⟨?_, fun m hm => ?_, fun g hg => inputLatched_get_ne hg, inputLatched_tiles f b k n pins s⟩
  · rw [inputLatched, benchTold_get, bitRaised_self hs' hf hn]
  · rw [inputLatched, benchTold_get, bitRaised_ne hs' hf hn hm, State.setPins_get]

end Latched

/-! ### The rows -/

/-- The pins with GPIO pin `n` at a level. -/
def gpioTaken (s : State) (n : Nat) (lvl : Bool) : Pins := { s.pins with gpio := putBits s.pins.gpio n n (b2n lvl) }

/-- The pins with alarm input `n` at a level. -/
def alarmTaken (s : State) (n : Nat) (lvl : Bool) : Pins := { s.pins with alarm := putBits s.pins.alarm n n (b2n lvl) }

section Rows

variable {s : State} {n : Nat} {lvl : Bool}

/-- R213: an interrupt condition that wakes nothing. -/
theorem execGpioInterrupt_of_hit (hn : n < 24) (hpor : s.pins.porst = false) (hwake : s.flag F.PMU_WAKE_EN_GPIO = false)
    (hdir : bitOf (s.get F.SITE_GPIO_DIR) n = false)
    (hhit : gpioHit (bitsOf (s.get (F.SITE_GPIO_IMODE (n / 16))) (2 * (n % 16) + 1) (2 * (n % 16))) (bitOf s.pins.gpio n) lvl = true) :
    ∃ b, execGpioInterrupt n lvl s = .next (inputLatched F.SITE_GPIO_ISTAT b .gpio n (gpioTaken s n lvl) s) := by
  have hawake (b : Bool) : (inputLatched F.SITE_GPIO_ISTAT b .gpio n (gpioTaken s n lvl) s).flag F.PMU_WAKE_EN_GPIO = false :=
    (inputLatched_flag_ne (by decide)).trans hwake
  refine ⟨benchRuns (bitRaised F.SITE_GPIO_ISTAT n (s.setPins (gpioTaken s n lvl))), ?_⟩
  rw [execGpioInterrupt, if_neg (Nat.not_le.2 hn)]
  dsimp only
  rw [← gpioTaken, if_neg (by simp [State.setPins_get, gpioTaken, hpor, hdir, hhit]), if_neg]
  · rfl
  · rw [Bool.and_eq_true, not_and, Bool.not_eq_true]
    exact fun _ => hawake _

/-- R212: a change that wakes nothing. -/
theorem execAlarmChange_of_change (hn : n < 8) (hpor : s.pins.porst = false) (hwake : s.flag F.PMU_WAKE_EN_ALM = false)
    (hchange : bitOf s.pins.alarm n ≠ lvl) :
    ∃ b, execAlarmChange n lvl s = .next (inputLatched F.SITE_ALM_LATCH b .alarm n (alarmTaken s n lvl) s) := by
  have hawake (b : Bool) : (inputLatched F.SITE_ALM_LATCH b .alarm n (alarmTaken s n lvl) s).flag F.PMU_WAKE_EN_ALM = false :=
    (inputLatched_flag_ne (by decide)).trans hwake
  refine ⟨bitOf ((bitRaised F.SITE_ALM_LATCH n (s.setPins (alarmTaken s n lvl))).get F.SITE_ALM_CFG_IE) n &&
    benchRuns (bitRaised F.SITE_ALM_LATCH n (s.setPins (alarmTaken s n lvl))), ?_⟩
  rw [execAlarmChange, if_neg (by simp [hn, hpor, hchange])]
  rw [← alarmTaken, if_neg]
  · rfl
  · rw [Bool.and_eq_true, not_and, Bool.not_eq_true]
    exact fun _ => hawake _

/-- An input that keeps its level. -/
theorem execAlarmChange_of_same (h : bitOf s.pins.alarm n = lvl) : execAlarmChange n lvl s = .next s := by
  rw [execAlarmChange, if_pos (by simp [h])]

end Rows

/-- Settles O21: each row's equation in the cases of the statement, and the effect of the state it leaves; polling by induction on the
entries. -/
theorem siteControl : Obligations.SiteControl := by
  unfold Obligations.SiteControl
  refine ⟨⟨?_, ?_, ?_, ?_, ?_, ?_, ?_, ?_⟩, ?_, ?_, ?_⟩
  · exact fun s e len hok hon he hlen hst hq => exec_aldICommand_nrm hon he hlen hok.regs hst hq
  · exact fun s e len _ hon he hlen hst => exec_aldICommand_not_nrm hon he hlen hst
  · exact fun s e len _ hon he _ hlen hq => exec_aldRawCommand_queue hon he hlen hq
  · exact fun s f h => aldPush_of_full h
  · exact fun s e p l _ hsz he hon hen hq hst hwin _ _ => exec_aldTxStart_iFrame he hsz.addrs hon hen hq hst hwin
  · intro s fr hon hen
    have hrx := exec_aldFrameRx_on (fr := fr) hon hen
    refine ⟨(hrx true).trans ?_, fun h => (hrx false).trans ?_, fun h => (hrx false).trans ?_,
      fun h4 hmax => ⟨fun h => (hrx false).trans ?_, fun hfcs => ⟨fun hnone hbroad hprom => (hrx false).trans ?_, fun i hsome => (hrx false).trans ?_⟩⟩⟩
    · rw [aldReceive_aborted]
    · rw [aldReceive_short h]
    · rw [aldReceive_long h]
    · rw [aldReceive_damaged h4 hmax h]
    · rw [aldReceive_foreign h4 hmax hfcs hnone hbroad hprom]
    · rw [aldReceive_known h4 hmax hfcs hsome]
  · intro s e hok hsz hon hen he hst
    exact ⟨fun h => ⟨_, exec_aldResponseTimeout_failed hon hen he hst h, aldFailed_effect hok.regs he⟩,
      fun h hq hun => exec_aldResponseTimeout_ends hon hen he hst hsz.addrs h hq hun⟩
  · intro s hon hen hq hpoll
    have hbytes : aldBytes s = 0 := by rw [aldBytes, hq, List.map_nil, List.sum_nil]
    obtain ⟨hqueue, haddrs⟩ := aldPoll_foldl (List.range 32) s (fun i hi => List.mem_range.1 hi) (by rw [hbytes]; decide)
    rw [hq, List.nil_append] at hqueue
    exact ⟨_, execAldPoll_of_idle hon hen hq hpoll, hqueue, haddrs⟩
  · intro s n lvl hok hn hpor hwake hdir hhit
    obtain ⟨b, hrow⟩ := execGpioInterrupt_of_hit hn hpor hwake hdir hhit
    obtain ⟨hself, hother, hregs, htiles⟩ := inputLatched_effect (f := F.SITE_GPIO_ISTAT) (b := b) (k := .gpio) (n := n)
      (pins := gpioTaken s n lvl) hok.regs (fld_ok _ (by decide)) hn
    exact ⟨_, hrow, hself, fun m _ hm => hother m hm, hregs, by rw [inputLatched_pins, gpioTaken, bitOf_putBits_self], htiles⟩
  · intro s n lvl hok hn hpor hwake hchange
    obtain ⟨b, hrow⟩ := execAlarmChange_of_change hn hpor hwake hchange
    obtain ⟨hself, hother, hregs, htiles⟩ := inputLatched_effect (f := F.SITE_ALM_LATCH) (b := b) (k := .alarm) (n := n)
      (pins := alarmTaken s n lvl) hok.regs (fld_ok _ (by decide)) hn
    exact ⟨_, hrow, hself, fun m _ hm => hother m hm, hregs, by rw [inputLatched_pins, alarmTaken, bitOf_putBits_self], htiles⟩
  · exact fun s n lvl h => execAlarmChange_of_same h

end Sys2Proof.Machine

/-!
PROOF. Sprue gates (06): the record of a gate, PAUSE of its camera port, its counters, and which event it turns away.
-/

namespace Sys2Proof.Machine

theorem exec_gateAdmit (g : Nat) (s : State) : exec (.gateAdmit g) s = execGateAdmit g s := rfl
theorem exec_futureHoldEnd (g : Nat) (s : State) : exec (.futureHoldEnd g) s = execFutureHoldEnd g s := rfl
theorem exec_mergeEntryClose (g i : Nat) (s : State) : exec (.mergeEntryClose g i) s = execMergeEntryClose g i s := rfl
theorem exec_ingressInject (n : Nat) (s : State) : exec (.ingressInject n) s = execIngressInject n s := rfl

/-! ### The record of a gate -/

theorem State.gate_eq_of_gates {s t : State} (h : t.gates = s.gates) (g : Nat) : t.gate g = s.gate g := by
  rw [State.gate, h, State.gate]

theorem State.gate_setGate_same {s : State} {g : Nat} (h : g < s.gates.length) (x : Gate) : (s.setGate g x).gate g = x :=
  getD_set_same _ _ _ _ h

theorem State.gate_setGate_ne (s : State) {g h : Nat} (hne : h ≠ g) (x : Gate) : (s.setGate g x).gate h = s.gate h :=
  getD_set_ne _ _ _ _ _ hne.symm

@[simp] theorem State.setGate_gates_length (s : State) (g : Nat) (x : Gate) : (s.setGate g x).gates.length = s.gates.length :=
  List.length_set

theorem State.Sized.gate_lt {s : State} (hs : s.Sized) {g : Nat} (h : g < 32) : g < s.gates.length := by rwa [hs.gates]

theorem gateEmit_gate {s : State} {g : Nat} (h : g < s.gates.length) (i : GateItem) :
    (gateEmit g i s).gate g = { s.gate g with ready := (s.gate g).ready ++ [i] } := State.gate_setGate_same h _

theorem gateEmit_gate_ne {g h : Nat} (hne : h ≠ g) (i : GateItem) (s : State) : (gateEmit g i s).gate h = s.gate h :=
  State.gate_setGate_ne s hne _

theorem gateEmit_regsWf {s : State} (hs : s.regsWf) (g : Nat) (i : GateItem) : (gateEmit g i s).regsWf := hs

/-! ### What a gate decides from -/

/-- The registers in force, part, time base, gates, tiles and fabric: what a gate leaves alone until it hands an EVW over. -/
structure GateFrame (s t : State) : Prop where
  act : t.act = s.act
  cfg : t.cfg = s.cfg
  tb : t.tb = s.tb
  gates : t.gates = s.gates
  tiles : t.tiles = s.tiles
  fab : t.fab = s.fab

theorem GateFrame.refl (s : State) : GateFrame s s := ⟨rfl, rfl, rfl, rfl, rfl, rfl⟩

theorem GateFrame.trans {s t u : State} (h : GateFrame s t) (k : GateFrame t u) : GateFrame s u :=
  ⟨k.act.trans h.act, k.cfg.trans h.cfg, k.tb.trans h.tb, k.gates.trans h.gates, k.tiles.trans h.tiles, k.fab.trans h.fab⟩

theorem GateFrame.set {s t : State} (h : GateFrame s t) (f : Fld) (v : Nat) : GateFrame s (t.set f v) :=
  h.trans ⟨State.set_act _ _ _, State.set_cfg _ _ _, State.set_tb _ _ _, State.set_gates _ _ _, State.set_tiles _ _ _,
    State.set_fab _ _ _⟩

theorem GateFrame.of_regsOnly {s t : State} (h : s.RegsOnly t) : GateFrame s t := by
  rw [h]
  exact ⟨State.setRegs_act _ _, State.setRegs_cfg _ _, State.setRegs_tb _ _, State.setRegs_gates _ _, State.setRegs_tiles _ _,
    State.setRegs_fab _ _⟩

theorem setJp_frame (n : Nat) (j : JPort) (s : State) : GateFrame s (s.setJp n j) := ⟨rfl, rfl, rfl, rfl, rfl, rfl⟩
theorem setFlow_frame (n : Nat) (f : Flow) (s : State) : GateFrame s (s.setFlow n f) := ⟨rfl, rfl, rfl, rfl, rfl, rfl⟩

theorem GateFrame.aget {s t : State} (h : GateFrame s t) (f : Fld) : t.aget f = s.aget f := by
  rw [State.aget, h.act, State.aget]

theorem GateFrame.nodeOk {s t : State} (h : GateFrame s t) (n : Nat) : nodeOk t n = nodeOk s n := by
  rw [Machine.nodeOk, h.cfg, Machine.nodeOk]

theorem GateFrame.gateValue {s t : State} (h : GateFrame s t) (g : Nat) (e : Ev) : gateValue t g e = gateValue s g e := by
  rw [Machine.gateValue, h.aget, Machine.gateValue]

/-! ### PAUSE of a camera port (04 R158) -/

section Pause

variable (n : Nat) (s : State)

/-- PAUSE stays, or changes and is sent. -/
theorem flowPause_cases : flowPause n s = s ∨ ∃ v, flowPause n s = sendFlow n (s.set (F.JXL_P_FLOW_PAUSED n) v) := by
  rw [flowPause]
  split
  · exact .inl rfl
  · dsimp only
    generalize (if s.flag (F.JXL_P_FLOW_PAUSED n) then _ else _ : Bool) = now
    split
    · exact .inl rfl
    · exact .inr ⟨_, rfl⟩

theorem sendFlow_frame : GateFrame s (sendFlow n s) := ⟨rfl, rfl, rfl, rfl, rfl, rfl⟩

theorem sendFlow_buf {n : Nat} {s : State} (hn : n < s.jxl.length) : ((sendFlow n s).jp n).buf = (s.jp n).buf := by
  rw [sendFlow, back_jp, State.jp_setJp_same hn]

theorem flowPause_writes : s.Writes [(F.JXL_P_FLOW_PAUSED n).off] (flowPause n s) := by
  obtain h | ⟨v, h⟩ := flowPause_cases n s
  · rw [h]
    exact .refl s _
  · rw [h]
    exact ((State.Writes.refl s _).set (.head _) v).of_regs (back_regs _ _ _ _)

theorem flowPause_frame : GateFrame s (flowPause n s) := by
  obtain h | ⟨v, h⟩ := flowPause_cases n s
  · rw [h]
    exact .refl s
  · rw [h]
    exact (GateFrame.set (.refl s) (F.JXL_P_FLOW_PAUSED n) v).trans (sendFlow_frame n _)

variable {n s}

theorem flowPause_buf (hn : n < s.jxl.length) : ((flowPause n s).jp n).buf = (s.jp n).buf := by
  obtain h | ⟨v, h⟩ := flowPause_cases n s
  · rw [h]
  · rw [h, sendFlow_buf (by rwa [State.set_jxl]), State.set_jp]

/-- The registers of the gates and what lies beside the ports keep their values where a port's PAUSE is written. -/
theorem State.Writes.of_paused {t : State} (h : s.Writes [(F.JXL_P_FLOW_PAUSED n).off] t) (hn : n < 32) {f : Fld}
    (hf : f.off < 0x800000 ∨ 0x810000 ≤ f.off) : t.get f = s.get f := by
  refine h.get ?_
  rw [List.mem_singleton]
  simp only [F.JXL_P_FLOW_PAUSED]
  omega

end Pause

/-! ### Counters -/

theorem cnt_ok (g k : Nat) : (F.ADM_GATE_CNT g k).ok := word_ok _
theorem snap_ok (g k : Nat) : (F.ADM_GATE_SNAP g k).ok := word_ok _
theorem tokens_ok (g : Nat) : (F.ADM_GATE_STAT_TOKENS g).ok := fld_ok _ (by decide)

theorem tokens_ne_cnt (g k : Nat) : (F.ADM_GATE_STAT_TOKENS g).off ≠ (F.ADM_GATE_CNT g k).off := by
  simp only [F.ADM_GATE_STAT_TOKENS, F.ADM_GATE_CNT]
  omega

/-- R247: what the counters of gate `g` read after counter `c` took `n`. -/
theorem get_incWrap_cnt {s : State} (hs : s.regsWf) (g c n k : Nat) :
    (s.incWrap (F.ADM_GATE_CNT g c) n).get (F.ADM_GATE_CNT g k) =
      if k = c then (s.get (F.ADM_GATE_CNT g k) + n) % 2 ^ 32 else s.get (F.ADM_GATE_CNT g k) := by
  split
  next h =>
    subst h
    rw [State.incWrap, State.get_set_same hs _ _ (cnt_ok g k), wrapAdd]
    exact Nat.mod_mod _ _
  next h =>
    refine State.get_set_of_off_ne _ _ _ _ ?_
    simp only [F.ADM_GATE_CNT]
    omega

theorem gcount_writes (g : Nat) (c : GateCnt) (s : State) : s.Writes [(F.ADM_GATE_CNT g c.idx).off] (gcount g c s) :=
  (State.Writes.refl s _).set (.head _) _

theorem gcount_get_of_ne {g : Nat} {c : GateCnt} {s : State} {f : Fld} (h : f.off ≠ (F.ADM_GATE_CNT g c.idx).off) :
    (gcount g c s).get f = s.get f := State.get_set_of_off_ne _ _ _ _ h

theorem gcount_frame (g : Nat) (c : GateCnt) (s : State) : GateFrame s (gcount g c s) := (GateFrame.refl s).set _ _

/-! ### The event leaves its stream (R222) -/

section Take

variable (g : Nat) (s : State)

theorem gateTake_frame : GateFrame s (gateTake g s) := by
  rw [gateTake]
  split
  · exact (setJp_frame g _ s).trans (flowPause_frame g _)
  · exact setFlow_frame (g - 16) _ s

theorem gateTake_writes : s.Writes [(F.JXL_P_FLOW_PAUSED g).off] (gateTake g s) := by
  rw [gateTake]
  split
  · exact ((State.Writes.refl s _).of_regs (State.setJp_regs _ _ _)).trans (flowPause_writes g _)
  · exact (State.Writes.refl s _).of_regs (State.setFlow_regs _ _ _)

variable {g s} (hs : s.Sized)
include hs

theorem gateTake_buf (hg : g < 16) : ((gateTake g s).jp g).buf = (s.jp g).buf.drop 1 := by
  rw [gateTake, if_pos hg, flowPause_buf (by rw [State.setJp_jxl_length]; exact hs.port_lt hg), State.jp_setJp_same (hs.port_lt hg)]

theorem gateTake_evq (h16 : 16 ≤ g) (hg : g < 32) : ((gateTake g s).flow (g - 16)).evq = (s.flow (g - 16)).evq.drop 1 := by
  rw [gateTake, if_neg (Nat.not_lt.2 h16), State.flow_setFlow_same (by rw [hs.flows]; omega)]

end Take

/-- An event that is taken and counted in IN (log entry 21). -/
def eventIn (g : Nat) (s : State) : State := gcount g .evIn (gateTake g s)

theorem eventIn_frame (g : Nat) (s : State) : GateFrame s (eventIn g s) := (gateTake_frame g s).trans (gcount_frame g .evIn _)

/-! ### The row (R223, R224) -/

section Row

variable {s : State} {g : Nat} {e : Ev}

theorem onGate_of_head (hon : s.ingOn = true) (hg : g < 32) (hready : (s.gate g).ready = []) (hhead : gateHead s g = some e)
    (f : Ev → State → State) : onGate g f s = f e s := by
  rw [onGate, if_pos (by simp [hon, hg, hready]), hhead]

theorem exec_gateAdmit_of_head (hon : s.ingOn = true) (hg : g < 32) (hready : (s.gate g).ready = []) (hhead : gateHead s g = some e) :
    exec (.gateAdmit g) s = .next (gateAdmit g e s) := by
  rw [exec_gateAdmit, execGateAdmit, onGate_of_head hon hg hready hhead]

theorem exec_futureHoldEnd_of_head (hon : s.ingOn = true) (hg : g < 32) (hready : (s.gate g).ready = [])
    (hhead : gateHead s g = some e) (hT : s.T < e.t) (hnext : e.t < s.tb.next) (hfut : e.t ≤ s.T + s.aget (F.ADM_GATE_FUT g)) :
    exec (.futureHoldEnd g) s = .next (gateAdmit g e (advanceTo e.t.toNat s)) := by
  rw [exec_futureHoldEnd, execFutureHoldEnd, onGate_of_head hon hg hready hhead, if_pos ⟨hT, hnext, hfut⟩]

theorem gateAdmit_of_off (h : s.running = false ∨ s.aflag (F.ADM_GATE_CFG_EN g) = false) :
    gateAdmit g e s = gcount g .offDrop (gateTake g s) := by
  rw [gateAdmit, if_pos]
  rcases h with h | h <;> simp [h]

/-- The gate is on. -/
structure GateOn (s : State) (g : Nat) : Prop where
  running : s.running = true
  enabled : s.aflag (F.ADM_GATE_CFG_EN g) = true

theorem GateOn.not_off (h : GateOn s g) : ¬ (!(s.running && s.aflag (F.ADM_GATE_CFG_EN g))) = true := by
  rw [h.running, h.enabled]
  decide

theorem gateAdmit_of_holding (h : GateOn s g) (hold : s.flag (F.ADM_GATE_STAT_HOLDING g) = true) : gateAdmit g e s = s := by
  rw [gateAdmit]
  dsimp only
  rw [if_neg h.not_off, if_pos hold]

/-- The gate is on and no hold is in force. -/
structure GateLive (s : State) (g : Nat) : Prop extends GateOn s g where
  free : s.flag (F.ADM_GATE_STAT_HOLDING g) = false

theorem gateAdmit_of_poisoned (h : GateLive s g) (hp : e.poisoned = true) :
    gateAdmit g e s = gcount g .poison (poisonSink g (eventIn g s)) := by
  rw [gateAdmit]
  dsimp only
  rw [if_neg h.not_off, if_neg (by simp [h.free]), if_pos hp, eventIn]

section Clean

variable (h : GateLive s g) (hp : e.poisoned = false)
include h hp

theorem gateAdmit_of_beyond (ht : (s.T : Int) + s.aget (F.ADM_GATE_FUT g) < e.t) :
    gateAdmit g e s = gcount g .futDrop (eventIn g s) := by
  rw [gateAdmit]
  dsimp only
  rw [if_neg h.not_off, if_neg (by simp [h.free]), if_neg (by simp [hp]), if_pos ht, eventIn]

theorem gateAdmit_of_future (ht : (s.T : Int) < e.t) (hfut : e.t ≤ s.T + s.aget (F.ADM_GATE_FUT g)) : gateAdmit g e s = s := by
  rw [gateAdmit]
  dsimp only
  rw [if_neg h.not_off, if_neg (by simp [h.free]), if_neg (by simp [hp]), if_neg (by omega), if_pos ht]

theorem gateAdmit_of_late (ht : e.t ≤ s.T) (hlate : e.t < startBack s (gateLag s g)) (hpol : s.aget (F.ADM_GATE_CFG_LATE_POL g) = 0) :
    gateAdmit g e s = gcount g .lateDrop (eventIn g s) := by
  rw [gateAdmit]
  dsimp only
  rw [if_neg h.not_off, if_neg (by simp [h.free]), if_neg (by simp [hp]), if_neg (by omega), if_neg (by omega), if_pos ⟨hlate, hpol⟩,
    eventIn]

end Clean

/-- The event's coordinates under the gate's BIN (R227). -/
def binned (s : State) (g c : Nat) : Nat := c / 2 ^ s.aget (F.ADM_GATE_CFG_BIN g)

/-- The entries that the event maps to. -/
def matched (s : State) (g : Nat) (e : Ev) : List (List Nat) := mapMatch s g (binned s g e.x) (binned s g e.y)

/-- The gate takes events and the time of this one lies within its lag. -/
structure GateTakes (s : State) (g : Nat) (e : Ev) : Prop extends GateLive s g where
  clean : e.poisoned = false
  past : e.t ≤ s.T
  recent : startBack s (gateLag s g) ≤ e.t

/-- R226, R227: such an event is judged by its mapping, then by the policy. -/
theorem gateAdmit_of_takes (h : GateTakes s g e) : gateAdmit g e s =
    if (matched s g e).isEmpty then gcount g .nomap (eventIn g s)
    else gatePolicy g e (binned s g e.x) (binned s g e.y) (matched s g e) e.t (decide (e.t < startBack s 0)) false s := by
  have hrecent : ¬ e.t < startBack s (gateLag s g) := not_lt.2 h.recent
  have hpast := h.past
  rw [gateAdmit]
  dsimp only
  rw [if_neg h.not_off, if_neg (by simp [h.free]), if_neg (by simp [h.clean]), if_neg (by omega), if_neg (by omega),
    if_neg (fun hl => hrecent hl.1)]
  simp only [hrecent, decide_false, Bool.false_eq_true, if_false, Bool.false_or]
  rfl

theorem gateAdmit_of_unmapped (h : GateTakes s g e) (hm : matched s g e = []) : gateAdmit g e s = gcount g .nomap (eventIn g s) := by
  rw [gateAdmit_of_takes h, if_pos (by rw [hm]; rfl)]

theorem gateAdmit_of_mapped (h : GateTakes s g e) (hm : matched s g e ≠ []) : gateAdmit g e s =
    gatePolicy g e (binned s g e.x) (binned s g e.y) (matched s g e) e.t (decide (e.t < startBack s 0)) false s := by
  rw [gateAdmit_of_takes h, if_neg (by simpa using hm)]

end Row

/-! ### BACKPRESS and DROP (R230) -/

section Policy

variable {s : State} {g x y : Nat} {e : Ev} {t : Int} {ms : List (List Nat)} {late : Bool}

theorem policyStep_of_tokens (hpol : s.aget (F.ADM_GATE_CFG_POLICY g) = 0 ∨ s.aget (F.ADM_GATE_CFG_POLICY g) = 3)
    (htok : 0 < s.get (F.ADM_GATE_STAT_TOKENS g)) : policyStep s g x y t = .letIn := by
  rcases hpol with h | h <;> simp [policyStep, h, htok.ne']

theorem policyStep_backpress (hpol : s.aget (F.ADM_GATE_CFG_POLICY g) = 0) (htok : s.get (F.ADM_GATE_STAT_TOKENS g) = 0) :
    policyStep s g x y t = .hold := by
  simp [policyStep, hpol, htok]

theorem policyStep_drop (hpol : s.aget (F.ADM_GATE_CFG_POLICY g) = 3) (htok : s.get (F.ADM_GATE_STAT_TOKENS g) = 0) :
    policyStep s g x y t = .drop := by
  simp [policyStep, hpol, htok]

theorem mergeStep_of_policy (h : s.aget (F.ADM_GATE_CFG_POLICY g) ≠ 2) : mergeStep g s = s := if_neg fun k => h k.1

theorem thinStep_of_policy (h : s.aget (F.ADM_GATE_CFG_POLICY g) ≠ 1) : thinStep g s = s := if_neg fun k => h k.1

/-- R230: an event that BACKPRESS keeps waits; the hold is counted and shown. -/
theorem gatePolicy_hold (hv : policyStep s g x y t = .hold) (hfree : s.flag (F.ADM_GATE_STAT_HOLDING g) = false) :
    gatePolicy g e x y ms t late false s = flowPause g (gcount g .heldEp (s.raise (F.ADM_GATE_STAT_HOLDING g))) := by
  rw [gatePolicy]
  dsimp only
  rw [if_pos hv, gateHold, if_neg (by simp [hfree])]

section Taken

variable (h1 : s.aget (F.ADM_GATE_CFG_POLICY g) ≠ 1) (h2 : s.aget (F.ADM_GATE_CFG_POLICY g) ≠ 2)
include h1 h2

/-- Neither THIN nor MERGE has a part in what follows. -/
theorem thinStep_mergeStep_eventIn : thinStep g (mergeStep g (eventIn g s)) = eventIn g s := by
  have hact := (eventIn_frame g s).aget (F.ADM_GATE_CFG_POLICY g)
  rw [mergeStep_of_policy (by rwa [hact]), thinStep_of_policy (by rwa [hact])]

theorem gatePolicy_drop (hv : policyStep s g x y t = .drop) :
    gatePolicy g e x y ms t late false s = gcount g .drop (eventIn g s) := by
  rw [gatePolicy]
  dsimp only
  rw [if_neg (by simp [hv]), hv]
  dsimp only [Bool.false_eq_true, if_false]
  rw [← eventIn, if_neg Bool.false_ne_true, thinStep_mergeStep_eventIn h1 h2]

theorem gatePolicy_letIn (hv : policyStep s g x y t = .letIn) :
    gatePolicy g e x y ms t late false s = formEvws g ms x y (gateValue s g e) t late false (charge g late (eventIn g s)) := by
  rw [gatePolicy]
  dsimp only
  rw [if_neg (by simp [hv]), hv]
  dsimp only
  rw [← eventIn, if_neg Bool.false_ne_true, thinStep_mergeStep_eventIn h1 h2, (eventIn_frame g s).gateValue]

end Taken

end Policy

end Sys2Proof.Machine

/-!
PROOF. A gate takes an event in its epoch (06 R224, R228, R230): its EVW and what is counted and charged; `GateAdmission`.
-/

namespace Sys2Proof.Machine

/-! ### The EVW of an entry (R228) -/

/-- TARGET of an entry for a binned coordinate. -/
def mapTarget (m : List Nat) (x y : Nat) : Nat :=
  bitsOf (m.getD 3 0) 15 0 + (y - bitsOf (m.getD 1 0) 9 0) * bitsOf (m.getD 3 0) 31 16 + (x - bitsOf (m.getD 0 0) 10 0)

/-- The EVW of an event in its epoch: its offset counts from the start of the epoch in force. -/
def epochEvw (s : State) (g : Nat) (m : List Nat) (x y : Nat) (value t : Int) : Evw :=
  { node := bitsOf (m.getD 2 0) 11 0, target := mapTarget m x y, value := value, offset := (t - startBack s 0).toNat % 2 ^ 20,
    cls := if g < 16 then 0 else if y = 0 then 1 else 2 }

section Form

variable {s u : State} {g x y : Nat} {m : List Nat} {value t : Int} {late merged : Bool} {w : Evw}

theorem mapEvw_of_epoch (ht : mapTarget m x y ≤ 65535) (hn : nodeOk s (bitsOf (m.getD 2 0) 11 0) = true) :
    mapEvw s g m x y value t false false = some (epochEvw s g m x y value t) := by
  rw [mapEvw, ← mapTarget, if_neg (by rw [hn]; simpa using ht), if_neg Bool.false_ne_true]
  rfl

/-- An entry with an EVW: it is counted and handed over, and MAPERR takes nothing. -/
theorem formEvws_single (h : mapEvw s g m x y value t late merged = some w) :
    formEvws g [m] x y value t late merged s =
      (gateEmit g (.evw w) (gcount g .evwOut s)).incWrap (F.ADM_GATE_CNT g GateCnt.maperr.idx) 0 := by
  rw [formEvws]
  rw [show [m].take 4 = [m] from rfl, List.foldl_cons, List.foldl_nil, h]
  rfl

theorem startBack_eq (htb : u.tb = s.tb) (hnum : u.get F.TSB_EPOCH_NUM = s.get F.TSB_EPOCH_NUM)
    (hlen : u.get F.TSB_EPOCH_LEN = s.get F.TSB_EPOCH_LEN) (back : Nat) : startBack u back = startBack s back := by
  rw [startBack, State.epochNum, hnum, hlen, htb, startBack, State.epochNum]

end Form

/-! ### What is counted and charged -/

/-- The event is taken, counted and charged in its epoch. -/
def charged (g : Nat) (s : State) : State := charge g false (eventIn g s)

/-- Its EVW is counted and waits for the ingress node. -/
def letIn (g : Nat) (w : Evw) (s : State) : State :=
  (gateEmit g (.evw w) (gcount g .evwOut (charged g s))).incWrap (F.ADM_GATE_CNT g GateCnt.maperr.idx) 0

section Admitted

variable (g : Nat) (w : Evw) (s : State)

theorem charge_epoch : charge g false s =
    gcount g .admitted (s.set (F.ADM_GATE_STAT_TOKENS g) (s.get (F.ADM_GATE_STAT_TOKENS g) - 1)) := rfl

theorem charged_frame : GateFrame s (charged g s) :=
  (eventIn_frame g s).trans (((GateFrame.refl _).set _ _).trans (gcount_frame g .admitted _))

theorem counted_frame : GateFrame s (gcount g .evwOut (charged g s)) := (charged_frame g s).trans (gcount_frame g .evwOut _)

theorem letIn_gate {g : Nat} {s : State} (h : g < s.gates.length) :
    (letIn g w s).gate g = { s.gate g with ready := (s.gate g).ready ++ [.evw w] } := by
  have hgates := (counted_frame g s).gates
  rw [letIn, State.gate_eq_of_gates (State.incWrap_gates _ _ _), gateEmit_gate (by rwa [hgates]), State.gate_eq_of_gates hgates]

theorem letIn_gate_ne {g h : Nat} (hne : h ≠ g) : (letIn g w s).gate h = s.gate h := by
  rw [letIn, State.gate_eq_of_gates (State.incWrap_gates _ _ _), gateEmit_gate_ne hne, State.gate_eq_of_gates (counted_frame g s).gates]

theorem letIn_tiles : (letIn g w s).tiles = s.tiles := by
  rw [letIn, State.incWrap_tiles, gateEmit, State.setGate_tiles, (counted_frame g s).tiles]

theorem letIn_fab : (letIn g w s).fab = s.fab := by
  rw [letIn, State.incWrap_fab, gateEmit, State.setGate_fab, (counted_frame g s).fab]

theorem letIn_tb : (letIn g w s).tb = s.tb := by
  rw [letIn, State.incWrap_tb, gateEmit, State.setGate_tb, (counted_frame g s).tb]

/-- The streams are as they are after the event was taken. -/
theorem letIn_jxl : (letIn g w s).jxl = (gateTake g s).jxl := by
  rw [letIn, State.incWrap_jxl, gateEmit, State.setGate_jxl, gcount, State.incWrap_jxl, charged, charge_epoch, gcount, State.incWrap_jxl,
    State.set_jxl, eventIn, gcount, State.incWrap_jxl]

theorem letIn_see : (letIn g w s).see = (gateTake g s).see := by
  rw [letIn, State.incWrap_see, gateEmit, State.setGate_see, gcount, State.incWrap_see, charged, charge_epoch, gcount, State.incWrap_see,
    State.set_see, eventIn, gcount, State.incWrap_see]

variable {g s} (hg : g < 32)
include hg

/-- Registers below those of ports and gates keep their values. -/
theorem charged_get {f : Fld} (hf : f.off < 0x800000) : (charged g s).get f = s.get f := by
  have hcnt (c : GateCnt) : f.off ≠ (F.ADM_GATE_CNT g c.idx).off := by
    simp only [F.ADM_GATE_CNT]
    omega
  have htok : f.off ≠ (F.ADM_GATE_STAT_TOKENS g).off := by
    simp only [F.ADM_GATE_STAT_TOKENS]
    omega
  rw [charged, charge_epoch, gcount_get_of_ne (hcnt _), State.get_set_of_off_ne _ _ _ _ htok, eventIn, gcount_get_of_ne (hcnt _),
    (gateTake_writes g s).of_paused hg (.inl hf)]

theorem charged_epochEvw (m : List Nat) (x y : Nat) (value t : Int) :
    epochEvw (charged g s) g m x y value t = epochEvw s g m x y value t := by
  rw [epochEvw, startBack_eq (charged_frame g s).tb (charged_get hg (by decide)) (charged_get hg (by decide)), epochEvw]

theorem eventIn_tokens : (eventIn g s).get (F.ADM_GATE_STAT_TOKENS g) = s.get (F.ADM_GATE_STAT_TOKENS g) := by
  rw [eventIn, gcount_get_of_ne (tokens_ne_cnt g _), (gateTake_writes g s).of_paused hg (.inr (Nat.le_add_right_of_le (by decide)))]

variable (hs : s.regsWf)
include hs

omit hg in
theorem eventIn_wf : (eventIn g s).regsWf := (gcount_writes g .evIn _).wf ((gateTake_writes g s).wf hs)

theorem charged_tokens : (charged g s).get (F.ADM_GATE_STAT_TOKENS g) = s.get (F.ADM_GATE_STAT_TOKENS g) - 1 := by
  have hlt : s.get (F.ADM_GATE_STAT_TOKENS g) < 2 ^ 20 := bitsOf_lt _ _ _
  rw [charged, charge_epoch, eventIn_tokens hg, gcount_get_of_ne (tokens_ne_cnt g _),
    State.get_set_fits (eventIn_wf hs) _ (tokens_ok g) (Nat.lt_of_le_of_lt (Nat.sub_le _ _) hlt)]

theorem letIn_tokens : (letIn g w s).get (F.ADM_GATE_STAT_TOKENS g) = s.get (F.ADM_GATE_STAT_TOKENS g) - 1 := by
  rw [letIn, State.incWrap, State.get_set_of_off_ne _ _ _ _ (tokens_ne_cnt g _), gateEmit, State.setGate_get,
    gcount_get_of_ne (tokens_ne_cnt g _), charged_tokens hg hs]

theorem eventIn_cnt (k : Nat) : (eventIn g s).get (F.ADM_GATE_CNT g k) =
    if k = 0 then (s.get (F.ADM_GATE_CNT g k) + 1) % 2 ^ 32 else s.get (F.ADM_GATE_CNT g k) := by
  have htake : (gateTake g s).get (F.ADM_GATE_CNT g k) = s.get (F.ADM_GATE_CNT g k) :=
    (gateTake_writes g s).of_paused hg (.inr (by simp only [F.ADM_GATE_CNT]; omega))
  rw [eventIn, gcount, get_incWrap_cnt ((gateTake_writes g s).wf hs), htake, GateCnt.idx]

theorem charged_cnt (k : Nat) : (charged g s).get (F.ADM_GATE_CNT g k) =
    if k < 2 then (s.get (F.ADM_GATE_CNT g k) + 1) % 2 ^ 32 else s.get (F.ADM_GATE_CNT g k) := by
  rw [charged, charge_epoch, gcount, get_incWrap_cnt (State.set_regsWf (eventIn_wf hs) _ _),
    State.get_set_of_off_ne _ _ _ _ (tokens_ne_cnt g k).symm, eventIn_cnt hg hs, GateCnt.idx]
  split_ifs <;> omega

/-- IN, ADMITTED and EVW count the event; no other counter does. -/
theorem letIn_cnt (k : Nat) : (letIn g w s).get (F.ADM_GATE_CNT g k) =
    if k < 3 then (s.get (F.ADM_GATE_CNT g k) + 1) % 2 ^ 32 else s.get (F.ADM_GATE_CNT g k) := by
  have hwf : (charged g s).regsWf := State.incWrap_regsWf (State.set_regsWf (eventIn_wf hs) _ _) _ _
  have hlt : s.get (F.ADM_GATE_CNT g k) < 2 ^ 32 := bitsOf_lt _ _ _
  rw [letIn, gcount, get_incWrap_cnt (gateEmit_regsWf (State.incWrap_regsWf hwf _ _) g _), gateEmit, State.setGate_get,
    get_incWrap_cnt hwf, charged_cnt hg hs, GateCnt.idx, GateCnt.idx]
  split_ifs <;> omega

end Admitted

/-- Settles O22: the row's equation for an event that is mapped and let in, and the effect of the state it leaves. -/
theorem gateAdmission : Obligations.GateAdmission := by
  unfold Obligations.GateAdmission
  intro s g e m hok hsz hon hg hready hhead hrun hen hfree hclean hpast hepoch hrecent hpol htok x y w target hm htarget hnode
  have htakes : GateTakes s g e := ⟨⟨⟨hrun, hen⟩, hfree⟩, hclean, hpast, hrecent⟩
  have hmatched : matched s g e = [m] := hm
  have hmapped : mapEvw (charged g s) g m x y (gateValue s g e) e.t false false =
      some (epochEvw s g m x y (gateValue s g e) e.t) := by
    rw [mapEvw_of_epoch htarget (by rwa [(charged_frame g s).nodeOk]), charged_epochEvw hg]
  have hrow : exec (.gateAdmit g) s = .next (letIn g (epochEvw s g m x y (gateValue s g e) e.t) s) := by
    rw [exec_gateAdmit_of_head hon hg hready hhead, gateAdmit_of_mapped htakes (by simp [hmatched]), hmatched,
      decide_eq_false (not_lt.2 hepoch),
      gatePolicy_letIn (by omega) (by omega) (policyStep_of_tokens hpol htok)]
    exact congrArg _ (formEvws_single hmapped)
  refine ⟨_, hrow, ?_, letIn_tokens _ hg hok.regs, fun k hk => ?_, fun k h3 _ => ?_, fun h16 => ?_, fun h16 => ?_, ?_,
    fun h hne => letIn_gate_ne _ _ hne, letIn_tiles _ _ _, letIn_fab _ _ _, letIn_tb _ _ _⟩
  · rw [letIn_gate _ (hsz.gate_lt hg), hready]
    rfl
  · rw [letIn_cnt _ hg hok.regs k, if_pos hk]
  · rw [letIn_cnt _ hg hok.regs k, if_neg (Nat.not_lt.2 h3)]
  · rw [State.jp_eq_of_jxl (letIn_jxl _ _ _), gateTake_buf hsz h16]
  · rw [State.flow, letIn_see, ← State.flow, gateTake_evq hsz h16 hg]
  · rw [letIn_gate _ (hsz.gate_lt hg)]

end Sys2Proof.Machine

/-!
PROOF. What a gate turns away, merge entries, the ingress nodes and the gates at a boundary (06 R223, R224, R230, R232, R235);
`GateLimits`.
-/

namespace Sys2Proof.Machine

/-! ### An entry of the merge cache closes (R232) -/

theorem exec_mergeEntryClose_of_due {s : State} {g i : Nat} {m : MergeEntry} (hon : s.ingOn = true) (hg : g < 32)
    (hm : (s.gate g).merge[i]? = some m) (hdue : m.t0 + s.aget (F.ADM_GATE_MERGE g) < s.T) :
    exec (.mergeEntryClose g i) s =
      .next (closeMerge g m (s.setGate g { s.gate g with merge := (s.gate g).merge.eraseIdx i })) := by
  have hpassed : ¬ ((s.T : Int) ≤ m.t0 + s.aget (F.ADM_GATE_MERGE g) ∧ m.t0 + s.aget (F.ADM_GATE_MERGE g) + 1 < s.tb.next) :=
    fun h => not_lt.2 h.1 hdue
  rw [exec_mergeEntryClose, execMergeEntryClose, if_pos (by simp [hon, hg]), hm]
  dsimp only
  rw [if_neg hpassed, if_pos hdue]

/-! ### Ingress nodes (R223) -/

theorem mapM_eq_none_of_mem {α β : Type} {f : α → Option β} {a : α} (h : f a = none) : ∀ {l : List α}, a ∈ l → l.mapM f = none
  | b :: l, hmem => by
    rw [List.mapM_cons]
    rcases List.mem_cons.1 hmem with rfl | hl
    · rw [h]
      rfl
    · rw [mapM_eq_none_of_mem h hl]
      cases f b <;> rfl

/-- A gate whose next item is no mark keeps its ingress node from sending EB flits. -/
theorem boundaryFlit_of_no_mark {s : State} {k g : Nat} (hg : g ∈ nodeGates k) (h : gateMark s g = none) : boundaryFlit k s = s := by
  rw [boundaryFlit, mapM_eq_none_of_mem h hg]

theorem gateMark_of_no_mark {s : State} {g : Nat} (h : ∀ f l, (s.gate g).ready ≠ .mark f :: l) : gateMark s g = none := by
  rw [gateMark]
  split
  next f l hmark => exact absurd hmark (h f l)
  next => rfl

theorem dropAt_gates (n : Nat) (s : State) : (dropAt n s).gates = s.gates := by
  rw [dropAt]
  split <;> rw [State.inc_gates, State.inc_gates]

theorem inject_gates (i : Item) (s : State) : (inject i s).gates = s.gates := by
  rw [inject]
  dsimp only
  split_ifs
  · rw [State.setBuf, State.setFab_gates]
  · rw [monitor, State.setFab_gates, State.setBuf, State.setFab_gates]
  · rw [State.incBy_gates, monitor, State.setFab_gates, State.setBuf, State.setFab_gates]

theorem injectEvw_gates (src : Nat) (e : Evw) (s : State) : (injectEvw src e s).gates = s.gates := by
  rw [injectEvw]
  split
  · exact dropAt_gates src s
  · exact inject_gates _ s

/-- A gate with an item is one of the 32. -/
theorem gate_lt_of_ready {s : State} {g : Nat} (h : (s.gate g).ready ≠ []) : g < s.gates.length := by
  by_contra hlt
  exact h (by rw [State.gate, List.getD_eq_default _ _ (Nat.not_lt.1 hlt)])

theorem nodeGates_mem {s : State} {k p i : Nat}
    (h : roundRobin ((List.range 4).filter (fun i => gateReady s ((nodeGates k).getD i 0))) p 4 = some i) :
    (nodeGates k).getD i 0 ∈ nodeGates k := by
  have hin : i < 4 := List.mem_range.1 (List.mem_filter.1 (List.contains_iff_mem.1 (List.find?_some h))).1
  rw [List.getD_eq_getElem _ _ (by simpa [nodeGates] using hin)]
  exact List.getElem_mem _

/-- The state in which ingress node `k` has taken the first item of the gate in place `i` of its gates. -/
def ingressTaken (k i : Nat) (rest : List GateItem) (s : State) : State :=
  (s.setFab { s.fab with inPtr := s.fab.inPtr.set k ((i + 1) % 4) }).setGate ((nodeGates k).getD i 0)
    { s.gate ((nodeGates k).getD i 0) with ready := rest }

theorem exec_ingressInject_of_ready {s : State} {k i : Nat} {e : Evw} {rest : List GateItem} (hon : s.ingOn = true)
    (hfab : s.fabOn = true) (hk : k < 8) (hcredit : hasCredit s (0xF00 + k) false = true)
    (hnext : roundRobin ((List.range 4).filter (fun i => gateReady s ((nodeGates k).getD i 0))) (s.fab.inPtr.getD k 0) 4 = some i)
    (hready : (s.gate ((nodeGates k).getD i 0)).ready = .evw e :: rest) (hrest : ∀ f l, rest ≠ .mark f :: l) :
    exec (.ingressInject (0xF00 + k)) s = .next (injectEvw (0xF00 + k) e (ingressTaken k i rest s)) := by
  have hlt : (nodeGates k).getD i 0 < s.gates.length := gate_lt_of_ready (by rw [hready]; exact List.cons_ne_nil _ _)
  have hmark : gateMark (injectEvw (0xF00 + k) e (ingressTaken k i rest s)) ((nodeGates k).getD i 0) = none := by
    refine gateMark_of_no_mark ?_
    rw [State.gate_eq_of_gates (injectEvw_gates _ _ _), ingressTaken, State.gate_setGate_same (by rwa [State.setFab_gates])]
    exact hrest
  have hready' : ((s.setFab { s.fab with inPtr := s.fab.inPtr.set k ((i + 1) % 4) }).gate ((nodeGates k).getD i 0)).ready =
      .evw e :: rest := hready
  rw [exec_ingressInject, execIngressInject, if_pos (by simpa [hon, hfab] using (by omega : 0xF00 + k < 0xF08)),
    Nat.add_sub_cancel_left, ingressInject]
  dsimp only
  rw [hnext]
  dsimp only
  rw [if_neg (by simp [hcredit]), hready']
  exact congrArg _ (boundaryFlit_of_no_mark (nodeGates_mem hnext) hmark)

/-! ### A closing epoch (R235) -/

theorem gateClose_of_empty {s : State} {g : Nat} (h : (s.gate g).merge = []) :
    gateClose g s = gateEmit g (.mark s.epochNum) (s.setGate g { s.gate g with merge := [] }) := by
  rw [gateClose, h]
  rfl

theorem gateClose_effect {s : State} {g : Nat} (hg : g < s.gates.length) (h : (s.gate g).merge = []) :
    ((gateClose g s).gate g).ready = (s.gate g).ready ++ [.mark s.epochNum] ∧ ((gateClose g s).gate g).merge = [] ∧
    (∀ k, k ≠ g → (gateClose g s).gate k = s.gate k) := by
  rw [gateClose_of_empty h, gateEmit_gate (by rwa [State.setGate_gates_length]), State.gate_setGate_same hg]
  exact ⟨rfl, rfl, fun k hk => (gateEmit_gate_ne hk _ _).trans (State.gate_setGate_ne s hk _)⟩

/-! ### An opening epoch (R235 step 4) -/

/-- The mapping table that comes into force. -/
def mapTaken (g : Nat) (s : State) : State := if s.flag (F.ADM_GATE_CFG_MAP_ARM g) then mapCopy g s else s

/-- The tokens are renewed and what the policies show ends. -/
def renewed (g v : Nat) (s : State) : State :=
  (((s.set (F.ADM_GATE_STAT_TOKENS g) v).clear (F.ADM_GATE_STAT_HOLDING g)).clear (F.ADM_GATE_STAT_MERGING g)).clear
    (F.ADM_GATE_STAT_THINNING g)

/-- The run count of THIN starts anew, and LAG_USED shows the LAG in force. -/
def restarted (g : Nat) (s : State) : State :=
  let t := s.setGate g { s.gate g with thin := 0 }
  t.set (F.ADM_GATE_STAT_LAG_USED g) (gateLag t g)

/-- A LAG that is cut is shown in REFUSED. -/
def refusalShown (g : Nat) (s : State) : State :=
  if gateLag s g < s.aget (F.ADM_GATE_CFG_LAG g) then s.raise (F.ADM_GATE_CFG_REFUSED g) else s

/-- A counter and its copy. -/
def snapOne (g : Nat) (s : State) (k : Nat) : State := s.set (F.ADM_GATE_SNAP g k) (s.get (F.ADM_GATE_CNT g k))

/-- PAUSE of a camera port is judged anew. -/
def pauseJudged (g : Nat) (s : State) : State := if g < 16 then flowPause g s else s

theorem gateOpen_eq (g : Nat) (s : State) : gateOpen g s =
    pauseJudged g ((List.range 16).foldl (snapOne g) (refusalShown g (restarted g
      (renewed g ((mapTaken g s).aget (F.ADM_GATE_BUDGET g)) (mapTaken g s))))) := by
  rw [gateOpen]
  rfl

section MapTaken

variable (g : Nat) (s : State)

/-- The active table and the register with its arm. -/
def mapRegs (g : Nat) : List Nat := (F.ADM_GATE_CFG_MAP_ARM g).off :: (List.range 128).map fun w => (F.ADM_MAP_ACTIVE g w).off

theorem mapTaken_writes : s.Writes (mapRegs g) (mapTaken g s) := by
  rw [mapTaken]
  split
  · have hfold := State.Writes.foldl (f := fun s w => s.set (F.ADM_MAP_ACTIVE g w) (s.get (F.ADM_MAP_SHADOW g w))) (l := mapRegs g)
      (as := List.range 128) (fun w hw s => (State.Writes.refl s _).set (List.mem_cons_of_mem _ (List.mem_map.2 ⟨w, hw, rfl⟩)) _) s
    exact (hfold.of_regs (State.setGate_regs _ _ _)).set (.head _) 0
  · exact .refl s _

theorem mapTaken_kept : (mapTaken g s).act = s.act ∧ (mapTaken g s).gates.length = s.gates.length := by
  rw [mapTaken]
  split
  · have hfold := GateFrame.of_regsOnly (State.RegsOnly.foldl
      (f := fun s w => s.set (F.ADM_MAP_ACTIVE g w) (s.get (F.ADM_MAP_SHADOW g w))) (fun _ _ _ h => h.set _ _) (List.range 128) (.refl s))
    rw [mapCopy, State.clear_act, State.setGate_act, State.clear_gates, State.setGate_gates_length]
    exact ⟨hfold.act, congrArg _ hfold.gates⟩
  · exact ⟨rfl, rfl⟩

theorem mapTaken_cnt {k : Nat} (hg : g < 32) (hk : k < 16) :
    (mapTaken g s).get (F.ADM_GATE_CNT g k) = s.get (F.ADM_GATE_CNT g k) := by
  refine (mapTaken_writes g s).get ?_
  simp only [mapRegs, F.ADM_GATE_CNT, F.ADM_GATE_CFG_MAP_ARM, F.ADM_MAP_ACTIVE, List.mem_cons, List.mem_map]
  omega

end MapTaken

section Restarted

variable (g : Nat) (s : State)

/-- What the status register holds beside the tokens and the hold. -/
def shownFlds (g : Nat) : List Fld := [F.ADM_GATE_STAT_LAG_USED g, F.ADM_GATE_STAT_THINNING g, F.ADM_GATE_STAT_MERGING g]

theorem restarted_reaches (v : Nat) : ((s.set (F.ADM_GATE_STAT_TOKENS g) v).clear (F.ADM_GATE_STAT_HOLDING g)).Reaches
    (restarted g (renewed g v s)) (shownFlds g) :=
  (State.Reaches.set (.set (.refl _))).of_regs (State.setGate_regs _ _ _) |>.set

theorem restarted_writes (v : Nat) : s.Writes [(F.ADM_GATE_STAT_TOKENS g).off] (restarted g (renewed g v s)) :=
  ((((((State.Writes.refl s _).set (f := F.ADM_GATE_STAT_TOKENS g) (.head _) _).set (f := F.ADM_GATE_STAT_HOLDING g) (.head _) _).set
    (f := F.ADM_GATE_STAT_MERGING g) (.head _) _).set (f := F.ADM_GATE_STAT_THINNING g) (.head _) _).of_regs
    (State.setGate_regs _ _ _)).set (f := F.ADM_GATE_STAT_LAG_USED g) (.head _) _

theorem restarted_thin {g : Nat} {s : State} (h : g < s.gates.length) : ((restarted g s).gate g).thin = 0 := by
  rw [restarted, State.gate_eq_of_gates (State.set_gates _ _ _), State.gate_setGate_same h]

end Restarted

section Tail

variable (g : Nat) (s : State)

/-- The registers written after the gate's status. -/
def tailRegs (g : Nat) : List Nat :=
  (F.JXL_P_FLOW_PAUSED g).off :: (F.ADM_GATE_CFG_REFUSED g).off :: (List.range 16).map fun k => (F.ADM_GATE_SNAP g k).off

theorem refusalShown_writes : s.Writes [(F.ADM_GATE_CFG_REFUSED g).off] (refusalShown g s) := by
  rw [refusalShown]
  split
  · exact (State.Writes.refl s _).set (.head _) 1
  · exact .refl s _

theorem pauseJudged_writes : s.Writes [(F.JXL_P_FLOW_PAUSED g).off] (pauseJudged g s) := by
  rw [pauseJudged]
  split
  · exact flowPause_writes g s
  · exact .refl s _

theorem tail_writes : s.Writes (tailRegs g) (pauseJudged g ((List.range 16).foldl (snapOne g) (refusalShown g s))) := by
  have hsnap := State.Writes.foldl (f := snapOne g) (l := tailRegs g) (as := List.range 16)
    (fun k hk s => (State.Writes.refl s _).set (List.mem_cons_of_mem _ (List.mem_cons_of_mem _ (List.mem_map.2 ⟨k, hk, rfl⟩))) _)
    (refusalShown g s)
  exact (((refusalShown_writes g s).among (List.mem_cons_of_mem _ (.head _))).trans hsnap).trans
    ((pauseJudged_writes g _).among (.head _))

theorem tail_gates : (pauseJudged g ((List.range 16).foldl (snapOne g) (refusalShown g s))).gates = s.gates := by
  have hsnap := GateFrame.of_regsOnly (State.RegsOnly.foldl (f := snapOne g) (fun _ _ _ h => h.set _ _) (List.range 16)
    (.refl (refusalShown g s)))
  have hpause (t : State) : (pauseJudged g t).gates = t.gates := by
    rw [pauseJudged]
    split
    · exact (flowPause_frame g t).gates
    · rfl
  have hrefused : (refusalShown g s).gates = s.gates := by
    rw [refusalShown]
    split
    · exact State.raise_gates _ _
    · rfl
  rw [hpause, hsnap.gates, hrefused]

/-- Each counter is copied, whichever are copied before and after it. -/
theorem snapOne_foldl {g k : Nat} (hk : k < 16) (l : List Nat) : ∀ {s : State}, s.regsWf →
    k ∈ l ∨ s.get (F.ADM_GATE_SNAP g k) = s.get (F.ADM_GATE_CNT g k) →
    (l.foldl (snapOne g) s).get (F.ADM_GATE_SNAP g k) = s.get (F.ADM_GATE_CNT g k) := by
  induction l with
  | nil => exact fun _ h => h.resolve_left List.not_mem_nil
  | cons a l ih =>
    intro s hs h
    have hcnt : (snapOne g s a).get (F.ADM_GATE_CNT g k) = s.get (F.ADM_GATE_CNT g k) := by
      refine State.get_set_of_off_ne _ _ _ _ ?_
      simp only [F.ADM_GATE_CNT, F.ADM_GATE_SNAP]
      omega
    rw [List.foldl_cons, ih (s := snapOne g s a) (State.set_regsWf hs _ _) ?_, hcnt]
    rw [hcnt]
    by_cases ha : k = a
    · subst ha
      exact .inr (State.get_set_fits hs _ (snap_ok g k) (bitsOf_lt _ _ _))
    · have hsnap : (snapOne g s a).get (F.ADM_GATE_SNAP g k) = s.get (F.ADM_GATE_SNAP g k) := by
        refine State.get_set_of_off_ne _ _ _ _ ?_
        simp only [F.ADM_GATE_SNAP]
        omega
      rw [hsnap]
      exact h.imp_left fun hmem => (List.mem_cons.1 hmem).resolve_left ha

/-- The status register is as it was before. -/
theorem status_notin_tailRegs {g : Nat} (hg : g < 32) : 0xC0101C + g * 0x100 ∉ tailRegs g := by
  simp only [tailRegs, F.JXL_P_FLOW_PAUSED, F.ADM_GATE_CFG_REFUSED, F.ADM_GATE_SNAP, List.mem_cons, List.mem_map]
  omega

end Tail

section Open

variable {s : State} {g : Nat} (hs : s.regsWf) (hg : g < 32)
include hs hg

theorem gateOpen_tokens : (gateOpen g s).get (F.ADM_GATE_STAT_TOKENS g) = s.aget (F.ADM_GATE_BUDGET g) := by
  have hbudget : (mapTaken g s).aget (F.ADM_GATE_BUDGET g) = s.aget (F.ADM_GATE_BUDGET g) := by
    rw [State.aget, (mapTaken_kept g s).1, State.aget]
  have hfits : s.aget (F.ADM_GATE_BUDGET g) < 2 ^ 20 := bitsOf_lt _ _ _
  have hwf := (mapTaken_writes g s).wf hs
  rw [gateOpen_eq, (tail_writes g _).get (status_notin_tailRegs hg), hbudget]
  exact State.Reaches.value hg F.ADM_GATE_STAT_TOKENS (fun g => shownFlds g ++ [F.ADM_GATE_STAT_HOLDING g])
    ((State.Reaches.set (.refl _)).trans (restarted_reaches g _ _)) hwf hfits (by decide)

theorem gateOpen_holding : (gateOpen g s).flag (F.ADM_GATE_STAT_HOLDING g) = false := by
  have hwf := (mapTaken_writes g s).wf hs
  rw [gateOpen_eq, (tail_writes g _).flag (status_notin_tailRegs hg)]
  exact State.Reaches.cleared hg F.ADM_GATE_STAT_HOLDING shownFlds (restarted_reaches g _ _) (State.set_regsWf hwf _ _) (by decide)

theorem gateOpen_snap {k : Nat} (hk : k < 16) : (gateOpen g s).get (F.ADM_GATE_SNAP g k) = s.get (F.ADM_GATE_CNT g k) := by
  have hmap := mapTaken_writes g s
  have hstat := restarted_writes g (mapTaken g s) ((mapTaken g s).aget (F.ADM_GATE_BUDGET g))
  have hrefused := refusalShown_writes g (restarted g (renewed g ((mapTaken g s).aget (F.ADM_GATE_BUDGET g)) (mapTaken g s)))
  have hcfg : (F.ADM_GATE_CNT g k).off ∉ [(F.ADM_GATE_CFG_REFUSED g).off] := by
    simp only [F.ADM_GATE_CNT, F.ADM_GATE_CFG_REFUSED, List.mem_singleton]
    omega
  have htok : (F.ADM_GATE_CNT g k).off ∉ [(F.ADM_GATE_STAT_TOKENS g).off] := List.mem_singleton.not.2 (tokens_ne_cnt g k).symm
  rw [gateOpen_eq, (pauseJudged_writes g _).of_paused hg (.inr (by simp only [F.ADM_GATE_SNAP]; omega)),
    snapOne_foldl hk _ (hrefused.wf (hstat.wf (hmap.wf hs))) (.inl (List.mem_range.2 hk)), hrefused.get hcfg, hstat.get htok,
    mapTaken_cnt g s hg hk]

end Open

theorem gateOpen_thin {s : State} {g : Nat} (hg : g < s.gates.length) : ((gateOpen g s).gate g).thin = 0 := by
  rw [gateOpen_eq, State.gate_eq_of_gates (tail_gates g _), restarted_thin]
  rw [renewed, State.clear_gates, State.clear_gates, State.clear_gates, State.set_gates, (mapTaken_kept g s).2]
  exact hg

/-- Settles O23: each row's equation in the cases of R224 and R230 (log entries 21, 47, 48 and 49), and what a closing and an opening epoch leave of a gate. -/
theorem gateLimits : Obligations.GateLimits := by
  unfold Obligations.GateLimits
  refine ⟨?_, ?_, ?_, ?_, ?_⟩
  · intro s g e hon hg hready hhead
    have hrow := exec_gateAdmit_of_head hon hg hready hhead
    refine ⟨fun hoff => hrow.trans ?_, fun hrun hen => ⟨fun hold => hrow.trans ?_, fun hfree =>
      ⟨fun hp => hrow.trans ?_, fun hclean => ?_⟩⟩⟩
    · rw [gateAdmit_of_off hoff]
    · rw [gateAdmit_of_holding ⟨hrun, hen⟩ hold]
    · rw [gateAdmit_of_poisoned ⟨⟨hrun, hen⟩, hfree⟩ hp, eventIn]
    · have hlive : GateLive s g := ⟨⟨hrun, hen⟩, hfree⟩
      refine ⟨fun ht => hrow.trans ?_, fun hT hfut => ⟨hrow.trans ?_, fun hnext => ?_⟩, fun ht hlate hpol => hrow.trans ?_,
        fun ht hrecent hm => hrow.trans ?_, fun ht hrecent htok hm => ?_⟩
      · rw [gateAdmit_of_beyond hlive hclean ht, eventIn]
      · rw [gateAdmit_of_future hlive hclean hT hfut]
      · exact exec_futureHoldEnd_of_head hon hg hready hhead hT hnext hfut
      · rw [gateAdmit_of_late hlive hclean ht hlate hpol, eventIn]
      · rw [gateAdmit_of_unmapped ⟨hlive, hclean, ht, hrecent⟩ hm, eventIn]
      · rw [hrow, gateAdmit_of_mapped ⟨hlive, hclean, ht, hrecent⟩ hm]
        refine ⟨fun hpol => ?_, fun hpol => ?_⟩
        · rw [gatePolicy_hold (policyStep_backpress hpol htok) hfree]
        · rw [gatePolicy_drop (by omega) (by omega) (policyStep_drop hpol htok), eventIn]
  · exact fun s g i m hon hg hm hdue => exec_mergeEntryClose_of_due hon hg hm hdue
  · exact fun s k i e rest hon hfab hk hcredit hnext hready hrest =>
      exec_ingressInject_of_ready hon hfab hk hcredit hnext hready hrest
  · exact fun s g hsz hg h => gateClose_effect (hsz.gate_lt hg) h
  · exact fun s g hok hsz hg => ⟨gateOpen_tokens hok.regs hg, gateOpen_holding hok.regs hg, gateOpen_thin (hsz.gate_lt hg),
      fun k hk => gateOpen_snap hok.regs hg hk⟩

end Sys2Proof.Machine

/-!
PROOF. The spectral encoder (07): the sections an engine takes, symbols that close, a flow that is disabled, levels, and the groups of a
closed symbol; `Encoder`.
-/

namespace Sys2Proof.Machine

theorem exec_sectionProcess (s : State) : exec .sectionProcess s = execSectionProcess s := rfl
theorem exec_symbolCloseTimeout (n i : Nat) (s : State) : exec (.symbolCloseTimeout n i) s = execSymbolCloseTimeout n i s := rfl
theorem exec_symbolProcess (n : Nat) (s : State) : exec (.symbolProcess n) s = execSymbolProcess n s := rfl
theorem exec_flowDisable (a : Agent) (n : Nat) (s : State) : exec (.flowDisable a n) s = execFlowDisable a n s := rfl

/-! ### The record of a flow -/

theorem State.flow_eq_of_see {s t : State} (h : t.see = s.see) (n : Nat) : t.flow n = s.flow n := by
  rw [State.flow, h, State.flow]

@[simp] theorem State.inc_flow (s : State) (f : Fld) (n : Nat) : (s.inc f).flow n = s.flow n := State.flow_eq_of_see (State.inc_see s f) n
@[simp] theorem State.incBy_flow (s : State) (f : Fld) (m n : Nat) : (s.incBy f m).flow n = s.flow n :=
  State.flow_eq_of_see (State.incBy_see s f m) n
@[simp] theorem State.incWrap_flow (s : State) (f : Fld) (m n : Nat) : (s.incWrap f m).flow n = s.flow n :=
  State.flow_eq_of_see (State.incWrap_see s f m) n

theorem State.Sized.flow_lt {s : State} (hs : s.Sized) {n : Nat} (h : n < 16) : n < s.see.flows.length := by rwa [hs.flows]

/-- A field in force reads back as changed, modulo its width. -/
theorem State.aget_aset_same {s : State} (h : sparseWf regReset s.act = true) (f : Fld) (v : Nat) (hf : f.ok) :
    (s.aset f v).aget f = v % 2 ^ (f.hi + 1 - f.lo) := by
  obtain ⟨h1, h2⟩ := hf
  rw [State.aget, State.aset, State.setAct_act, sparseGet_put h, if_pos rfl, BitVec.toNat_ofNat,
    Nat.mod_eq_of_lt (putBits_lt (sparseGet regReset s.act f.off).isLt h2 h1), bitsOf_putBits_same h1]

/-! ### Sections (R249, R251, R253) -/

/-- Section `x` of flow `n` leaves the FIFO, and the round robin goes on behind `n`. -/
def sectionTaken (n : Nat) (x : Section) (s : State) : State :=
  s.setSee { s.see with fifo := s.see.fifo.erase x, next := (n + 1) % 16 }

theorem exec_sectionProcess_of_ready {s : State} {n : Nat} {x : Section} (hon : s.ingOn = true)
    (hnext : ((List.range 16).map (fun i => (s.see.next + i) % 16)).find? (flowReady s) = some n)
    (hx : s.see.fifo.find? (·.flow = n) = some x) : exec .sectionProcess s = .next (processSection x (sectionTaken n x s)) := by
  rw [exec_sectionProcess, execSectionProcess, if_pos hon, sectionProcess, hnext]
  dsimp only
  rw [hx, sectionTaken]

/-- Section `x` is counted in SECT_IN. -/
abbrev sectionCounted (x : Section) (s : State) : State := s.inc (F.SEE_F_SECT_IN x.flow)

section Sections

variable {x : Section} {s : State}

theorem processSection_of_bad (h : x.bad = true) : processSection x s = (sectionCounted x s).inc (F.SEE_F_MALFORMED x.flow) := if_pos h

theorem processSection_of_unplaceable (h : x.bad = false)
    (hplace : placeable ((sectionCounted x s).aget (F.SEE_F_CFG_MU x.flow)) x = false) :
    processSection x s = (sectionCounted x s).inc (F.SEE_F_BADPLACE x.flow) := by
  rw [processSection, if_neg (by simp [h]), if_pos (by simp [hplace])]

theorem processSection_of_placeable (h : x.bad = false)
    (hplace : placeable ((sectionCounted x s).aget (F.SEE_F_CFG_MU x.flow)) x = true) : processSection x s =
      joinFlow x.flow x (sectionTime (sectionCounted x s) x.flow ((sectionCounted x s).aget (F.SEE_F_CFG_MU x.flow)) x)
        ((sectionCounted x s).setSee { (sectionCounted x s).see with prbs := (sectionCounted x s).see.prbs + x.count }) := by
  rw [processSection, if_neg (by simp [h]), if_neg (by simp [hplace])]

/-- R253: a section whose time is that of the one open symbol joins it. -/
theorem joinFlow_of_single {n : Nat} {y : Sym} (hn : n < s.see.flows.length) (hopen : (s.flow n).opens = [y]) :
    (joinFlow n x y.t s).flow n = { s.flow n with opens := [{ (joinSection x y).1 with lastJoin := s.T }] } := by
  have hfind : (s.flow n).opens.find? (·.t = y.t) = some y := by simp [hopen]
  rw [joinFlow, hfind]
  dsimp only
  rw [State.incBy_flow, State.flow_setFlow_same hn, hopen, List.map_singleton, if_pos rfl]

end Sections

/-! ### A symbol closes (R253, R254) -/

section Close

variable {s : State} {n : Nat} {y : Sym}

theorem exec_symbolCloseTimeout_of_open {i : Nat} (hon : s.ingOn = true) (hy : (s.flow n).opens[i]? = some y) :
    exec (.symbolCloseTimeout n i) s = .next (closeSym n y s) := by
  rw [exec_symbolCloseTimeout, execSymbolCloseTimeout, if_pos hon, hy]

theorem closeSym_flow (hn : n < s.see.flows.length) : (closeSym n y s).flow n =
    { s.flow n with opens := (s.flow n).opens.filter (· ≠ y), closed := (s.flow n).closed ++ [y], lastClosed := some y.t } := by
  rw [closeSym, State.inc_flow, State.flow_setFlow_same hn]

theorem closeSym_flow_ne {m : Nat} (h : m ≠ n) : (closeSym n y s).flow m = s.flow m := by
  rw [closeSym, State.inc_flow, State.flow_setFlow_ne s h]

theorem closeSym_symClosed (hs : s.regsWf) : (closeSym n y s).get (F.SEE_F_SYM_CLOSED n) =
    min (2 ^ 32 - 1) (s.get (F.SEE_F_SYM_CLOSED n) + 1) := by
  have hflow (f : Flow) : (s.setFlow n f).regsWf := hs
  rw [closeSym, State.get_inc_same (hflow _) (F.SEE_F_SYM_CLOSED n) (word_ok _), State.setFlow_get]
  rfl

end Close

/-! ### A flow is disabled (R269) -/

section Disable

variable {s : State} {n : Nat}

theorem exec_flowDisable_bench (hon : s.ingOn = true) : exec (.flowDisable .bench n) s = .next (flowDisable n s) := by
  rw [exec_flowDisable, execFlowDisable, State.guardWrite_ing hon]

theorem flowDisable_enabled (hs : s.Ok) :
    (flowDisable n s).flag (F.SEE_F_CFG_EN n) = false ∧ (flowDisable n s).aflag (F.SEE_F_CFG_EN n) = false := by
  have hen : (F.SEE_F_CFG_EN n).ok := bit_ok _ (by decide)
  have hreg : (flowDisable n s).flag (F.SEE_F_CFG_EN n) = (s.clear (F.SEE_F_CFG_EN n)).flag (F.SEE_F_CFG_EN n) := rfl
  have hact : (flowDisable n s).aget (F.SEE_F_CFG_EN n) =
      ((s.clear (F.SEE_F_CFG_EN n)).aset (F.SEE_F_CFG_EN n) 0).aget (F.SEE_F_CFG_EN n) := rfl
  refine ⟨hreg.trans (State.flag_clear hs.regs _ hen), ?_⟩
  rw [State.aflag, hact, State.aget_aset_same (by rw [State.clear_act]; exact hs.act) _ _ hen]
  rfl

theorem flowDisable_fifo (x : Section) : x ∈ (flowDisable n s).see.fifo ↔ x ∈ s.see.fifo ∧ x.flow ≠ n := by
  have hfifo : (flowDisable n s).see.fifo = s.see.fifo.filter (·.flow ≠ n) := rfl
  rw [hfifo, List.mem_filter, decide_eq_true_eq]

theorem flowDisable_flow (hn : n < s.see.flows.length) : (flowDisable n s).flow n =
    { s.flow n with opens := [], closed := [], evq := [], refs := [], badGroups := [] } := State.flow_setFlow_same hn _

theorem flowDisable_flow_ne {m : Nat} (h : m ≠ n) : (flowDisable n s).flow m = s.flow m := State.flow_setFlow_ne _ h _

end Disable

/-! ### Levels (R255) -/

theorem level_zero (i : Nat) : level i 0 = 0 := if_pos rfl

theorem levelLo_le_levelHi (e : Nat) : levelLo e ≤ levelHi e := by
  rw [levelLo, levelHi]
  split <;> omega

theorem level_mem {e : Nat} (he : 0 < e) (i : Nat) : levelLo e ≤ level i e ∧ level i e ≤ levelHi e := by
  have hle := levelLo_le_levelHi e
  have hmod := Nat.mod_lt (Config.freeNat i) (Nat.add_one_pos (levelHi e - levelLo e))
  rw [level, if_neg he.ne']
  omega

/-- The lowest level lies at most 1 below 256 * log2 of the energy. -/
theorem energy_le_levelLo (e : Nat) : e ^ 256 ≤ 2 ^ (levelLo e + 1) := by
  rw [levelLo]
  split
  next h =>
    calc e ^ 256 = 2 ^ Nat.log2 (e ^ 256) := h
      _ ≤ 2 ^ (Nat.log2 (e ^ 256) - 1 + 1) := Nat.pow_le_pow_right two_pos (by omega)
  next => exact Nat.lt_log2_self.le

/-- The greatest level lies at most 1 above 256 * log2 of the energy. -/
theorem levelHi_le_energy {e : Nat} (he : 0 < e) : 2 ^ levelHi e ≤ 2 * e ^ 256 := by
  have hlog := Nat.log2_self_le (Nat.pow_pos (n := 256) he).ne'
  rw [levelHi, Nat.pow_succ, Nat.mul_comm]
  exact Nat.mul_le_mul_left 2 hlog

theorem level_bounds {e : Nat} (he : 0 < e) (i : Nat) : e ^ 256 ≤ 2 ^ (level i e + 1) ∧ 2 ^ level i e ≤ 2 * e ^ 256 := by
  obtain ⟨hlo, hhi⟩ := level_mem he i
  exact ⟨(energy_le_levelLo e).trans (Nat.pow_le_pow_right two_pos (Nat.succ_le_succ hlo)),
    (Nat.pow_le_pow_right two_pos hhi).trans (levelHi_le_energy he)⟩

/-! ### A group at the close of a symbol (R256 to R258) -/

/-- The level of group `g` of symbol `y`. -/
def groupLevel (y : Sym) (g : Nat) (s : State) : Int := level s.freeCtr (sparseGet (fun _ => 0) y.energy g)

/-- The reference of group `g` of flow `n`. -/
def groupRef (n g : Nat) (s : State) : Int := sparseGet (fun _ => 0) (s.flow n).refs g

/-- A floor event is due: the group has no reference, or its turn has come (R257). -/
def floorDue (n : Nat) (y : Sym) (g : Nat) (s : State) : Bool :=
  !((s.flow n).refs.any (·.1 = g)) || (decide (y.cfg.floorN ≠ 0) && decide ((s.get (F.SEE_F_CNT n) + g) % 2 ^ 32 % y.cfg.floorN = 0))

/-- The thresholds between the floor and the group's level, to the nearest. -/
def floorSteps (y : Sym) (g : Nat) (s : State) : Int := (2 * (groupLevel y g s - y.cfg.floorBase) + y.cfg.thr) / (2 * y.cfg.thr)

/-- The whole thresholds between the reference of the group and its level. -/
def changeSteps (n : Nat) (y : Sym) (g : Nat) (s : State) : Int := (groupLevel y g s - groupRef n g s).tdiv y.cfg.thr

/-- A level has been taken, and event `e` leaves the reference of its group at `r`: it is counted in `ev`, and in `sat` where its value is
not the exact `q`. -/
def groupEmits (n : Nat) (e : Ev) (r q : Int) (sat ev : Fld) (s : State) : State :=
  (emitEv n e (setRef n e.x r (if e.value = q then s.tick else s.tick.inc sat))).inc ev

theorem setRef_flow {n : Nat} {s : State} (hn : n < s.see.flows.length) (g : Nat) (r : Int) :
    (setRef n g r s).flow n = { s.flow n with refs := sparseIns (s.flow n).refs g r } := State.flow_setFlow_same hn _

theorem emitEv_flow {n : Nat} {s : State} (hn : n < s.see.flows.length) (e : Ev) :
    (emitEv n e s).flow n = { s.flow n with evq := (s.flow n).evq ++ [e] } := State.flow_setFlow_same hn _

theorem groupEmits_flow {n : Nat} {s : State} (hn : n < s.see.flows.length) (e : Ev) (r q : Int) (sat ev : Fld) :
    (groupEmits n e r q sat ev s).flow n =
      { s.flow n with refs := sparseIns (s.flow n).refs e.x r, evq := (s.flow n).evq ++ [e] } := by
  have hcount : (if e.value = q then s.tick else s.tick.inc sat).see = s.see := by
    split
    · exact State.tick_see s
    · exact (State.inc_see _ sat).trans (State.tick_see s)
  rw [groupEmits, State.inc_flow, emitEv_flow (by rwa [setRef, State.setFlow_flows_length, hcount]), setRef_flow (by rwa [hcount]),
    State.flow_eq_of_see hcount]

/-- R257, R258: the event joins the flow's queue and the group's reference is `r`. -/
theorem groupEmits_effect {n : Nat} {s : State} (hn : n < s.see.flows.length) (e : Ev) (r q : Int) (sat ev : Fld) :
    ((groupEmits n e r q sat ev s).flow n).evq = (s.flow n).evq ++ [e] ∧ groupRef n e.x (groupEmits n e r q sat ev s) = r := by
  rw [groupRef, groupEmits_flow hn]
  exact ⟨rfl, (sparseGet_ins _ _ _ _).trans (if_pos rfl)⟩

section Group

variable {n g : Nat} {y : Sym} {s : State} (hpoison : y.poisoned = []) (hgood : (s.flow n).badGroups = []) (hvalid : groupValid y g = true)
include hpoison hgood hvalid

theorem processGroup_of_floor (hdue : floorDue n y g s = true) : processGroup n y s g =
    groupEmits n ⟨g, 1, false, clampI (-128) 127 (floorSteps y g s), y.t, false⟩
      (y.cfg.floorBase + clampI (-128) 127 (floorSteps y g s) * y.cfg.thr) (floorSteps y g s)
      (F.SEE_F_FLOOR_CLAMP n) (F.SEE_F_FLOOR_EV n) s := by
  rw [processGroup, if_neg (by simp [hpoison, hgood]), if_neg (by simp [hvalid])]
  exact if_pos hdue

theorem processGroup_of_change (hdue : floorDue n y g s = false) (h : y.cfg.thr ≤ (groupLevel y g s - groupRef n g s).natAbs) :
    processGroup n y s g =
      groupEmits n ⟨g, 0, false, clampI (-127) 127 (changeSteps n y g s), y.t, false⟩
        (groupRef n g s + clampI (-127) 127 (changeSteps n y g s) * y.cfg.thr) (changeSteps n y g s)
        (F.SEE_F_DELTA_SAT n) (F.SEE_F_DELTA_EV n) s := by
  rw [processGroup, if_neg (by simp [hpoison, hgood]), if_neg (by simp [hvalid])]
  exact (if_neg (ne_true_of_eq_false hdue)).trans (if_pos h)

theorem processGroup_of_near (hdue : floorDue n y g s = false) (h : (groupLevel y g s - groupRef n g s).natAbs < y.cfg.thr) :
    processGroup n y s g = s.tick := by
  rw [processGroup, if_neg (by simp [hpoison, hgood]), if_neg (by simp [hvalid])]
  exact (if_neg (ne_true_of_eq_false hdue)).trans (if_neg (Nat.not_le.2 h))

end Group

theorem floorDue_of_new {n g : Nat} {y : Sym} {s : State} (h : (s.flow n).refs.any (·.1 = g) = false) : floorDue n y g s = true := by
  simp [floorDue, h]

theorem floorDue_of_ref {n g : Nat} {y : Sym} {s : State} (h : (s.flow n).refs.any (·.1 = g) = true) (hfloor : y.cfg.floorN = 0) :
    floorDue n y g s = false := by
  simp [floorDue, h, hfloor]

/-! ### The processing of a symbol (R257) -/

section Process

variable {s : State} {n : Nat} {y : Sym}

theorem exec_symbolProcess_of_closed {l : List Sym} (hon : s.ingOn = true) (h : (s.flow n).closed = y :: l) :
    exec (.symbolProcess n) s = .next (processSym n y (s.setFlow n { s.flow n with closed := l })) := by
  rw [exec_symbolProcess, execSymbolProcess, if_pos hon, symbolProcess, h]

theorem exec_symbolProcess_of_none (hon : s.ingOn = true) (h : (s.flow n).closed = []) : exec (.symbolProcess n) s = .next s := by
  rw [exec_symbolProcess, execSymbolProcess, if_pos hon, symbolProcess, h]

theorem processSym_of_no_groups (hgrp : y.cfg.ngrp = 0) (hgen : (s.flow n).refGen = y.gen) :
    processSym n y s = s.incWrap (F.SEE_F_CNT n) 1 := by
  rw [processSym, if_pos hgen, hgrp, List.range_zero, List.foldl_nil]

theorem get_incWrap_word (hs : s.regsWf) (a m : Nat) : (s.incWrap ⟨a, 31, 0⟩ m).get ⟨a, 31, 0⟩ =
    (s.get ⟨a, 31, 0⟩ + m) % 2 ^ 32 := by
  rw [State.incWrap, State.get_set_same hs _ _ (word_ok a), wrapAdd]
  exact Nat.mod_mod _ _

end Process

/-! ### The statement -/

/-- Settles O24: each row's equation in its cases, and what its operation leaves of the flow; levels by the bounds of the lowest and of
the greatest (R255), a group by the event and reference of its case. A section that joins an open symbol and the uncounted discards of a
flow being disabled are the model's choice (log entry 50), the row that closes a symbol is log entry 34. -/
theorem encoder : Obligations.Encoder := by
  unfold Obligations.Encoder
  refine ⟨⟨?_, ?_, ?_, ?_⟩, fun i e he => level_bounds he i, level_zero, ?_, ?_, ?_, ?_, ?_⟩
  · intro s n x hon hnext hx
    have hrow := exec_sectionProcess_of_ready hon hnext hx
    exact ⟨fun hbad => hrow.trans (congrArg _ (processSection_of_bad hbad)),
      fun hgood hplace => hrow.trans (congrArg _ (processSection_of_unplaceable hgood hplace)),
      fun hgood hplace => hrow.trans (congrArg _ (processSection_of_placeable hgood hplace))⟩
  · rintro s n x t y hsz hn hopen rfl
    exact joinFlow_of_single (hsz.flow_lt hn) hopen
  · intro s n i y hok hsz hon hn hy
    have hflow := closeSym_flow (y := y) (hsz.flow_lt hn)
    exact ⟨_, exec_symbolCloseTimeout_of_open hon hy, by rw [hflow], by simp [hflow], by rw [hflow], by rw [hflow],
      closeSym_symClosed hok.regs, fun m hm => closeSym_flow_ne hm⟩
  · intro s n hok hsz hon hn
    obtain ⟨hreg, hact⟩ := flowDisable_enabled (n := n) hok
    exact ⟨_, exec_flowDisable_bench hon, hreg, hact, flowDisable_fifo, flowDisable_flow (hsz.flow_lt hn),
      fun m hm => flowDisable_flow_ne hm⟩
  · rintro s n g y r - hsz hn hpoison hgood hvalid href rfl hfloor -
    have hdue := floorDue_of_ref href hfloor
    refine ⟨processGroup_of_near hpoison hgood hvalid hdue, fun h => ?_⟩
    rw [processGroup_of_change hpoison hgood hvalid hdue h]
    exact groupEmits_effect (hsz.flow_lt hn) _ _ _ _ _
  · intro s n g y _ hsz hn hpoison hgood hvalid hnew _
    dsimp only
    rw [processGroup_of_floor hpoison hgood hvalid (floorDue_of_new hnew)]
    exact groupEmits_effect (hsz.flow_lt hn) _ _ _ _ _
  · exact fun s n y l hon h => exec_symbolProcess_of_closed hon h
  · exact fun s n hon h => exec_symbolProcess_of_none hon h
  · intro s n y hok _ _ hgrp hgen
    rw [processSym_of_no_groups hgrp hgen, State.incWrap_flow]
    exact ⟨get_incWrap_word hok.regs _ 1, rfl⟩

end Sys2Proof.Machine

/-!
PROOF. Event fabric (08), flits under way: receive buffers and interfaces read back as written, what a link error leaves, the grant at
an output port, and `FabricRouting`.
-/

namespace Sys2Proof.Machine

theorem exec_flitForward (r o : Nat) (p0 p1 : Bool) (s : State) : exec (.flitForward r o p0 p1) s = execFlitForward r o p0 p1 s := rfl

/-! ### Receive buffers and interfaces -/

section Buffers

variable (s : State) (k n : Nat) (l : List Item)

@[simp] theorem State.setRx_tiles : (s.setRx n l).tiles = s.tiles := (rfl)
@[simp] theorem State.setRx_buf : (s.setRx n l).buf k = s.buf k := (rfl)

variable {s k}

theorem State.buf_eq_of_bufs {t : State} (h : t.fab.bufs = s.fab.bufs) (k : Nat) : t.buf k = s.buf k := by
  rw [State.buf, h, State.buf]

theorem State.rx_eq_of_rx {t : State} (h : t.fab.rx = s.fab.rx) (n : Nat) : t.rx n = s.rx n := by
  rw [State.rx, h, State.rx]

theorem State.Ok.buf_setBuf_same (hs : s.Ok) : (s.setBuf k l).buf k = l :=
  (sparseGet_put hs.bufs k l k).trans (if_pos rfl)

theorem State.buf_setBuf_ne {j : Nat} (h : j ≠ k) : (s.setBuf k l).buf j = s.buf j :=
  sparseGet_put_ne s.fab.bufs l h

theorem State.Ok.rx_setRx_same (hs : s.Ok) : (s.setRx n l).rx n = l :=
  (sparseGet_put hs.rx n l n).trans (if_pos rfl)

end Buffers

/-! ### A report to the error log (21 R824 to R828) -/

/-- From `s` to `t` no field below the RAS block changes, and nothing of the fabric beside its registers. -/
structure Reported (s t : State) : Prop where
  fab : t.fab = s.fab
  get : ∀ g : Fld, g.off < 0x1600000 → t.get g = s.get g

section Reports

variable {s t u : State}

theorem Reported.refl (s : State) : Reported s s := ⟨rfl, fun _ _ => rfl⟩

theorem Reported.trans (h : Reported s t) (g : Reported t u) : Reported s u :=
  ⟨g.fab.trans h.fab, fun k hk => (g.get k hk).trans (h.get k hk)⟩

theorem Reported.ite {p : Prop} [Decidable p] (h : Reported s t) (g : Reported s u) : Reported s (if p then t else u) := by
  split
  · exact h
  · exact g

theorem Reported.of_set (s : State) {f : Fld} (hf : 0x1600000 ≤ f.off) (v : Nat) : Reported s (s.set f v) :=
  ⟨rfl, fun g hg => s.get_set_of_off_ne f g v (by omega)⟩

theorem Reported.of_setRas (s : State) (x : Ras) : Reported s (s.setRas x) := ⟨rfl, fun _ _ => rfl⟩
theorem Reported.of_bench (s : State) (n : Notice) (i : Nat) : Reported s (s.bench n i) := ⟨rfl, fun _ _ => rfl⟩
theorem Reported.of_owe (s : State) (source index data : Nat) : Reported s (s.owe source index data) := ⟨rfl, fun _ _ => rfl⟩

theorem Reported.of_entry (s : State) (w j v : Nat) : Reported s (s.set (F.RAS_LOG w j) v) :=
  .of_set s (by simp only [F.RAS_LOG]; omega) v

theorem reported_rasLog (region : Nat) (src : RasSrc) (ue : Bool) (node unit addr : Nat) (s : State) :
    Reported s (rasLog region src ue node unit addr s) := by
  unfold rasLog
  refine .ite (.refl s) (.ite (.of_set s (f := F.RAS_LOG_LOST) (by decide) _) ?_)
  dsimp only
  refine .ite (.trans ?_ (.of_owe _ _ _ _)) ?_ <;>
  · refine .trans ?_ ((Reported.of_set _ (f := F.RAS_STAT_LOG_PEND) (by decide) 1).trans (.of_bench _ _ _))
    refine .trans ?_ (.of_setRas _ _)
    refine .trans ?_ ((Reported.of_entry _ _ 3 _).trans (.of_set _ (f := F.RAS_LOG_WR) (by decide) _))
    exact ((Reported.of_entry s _ 0 _).trans (.of_entry _ _ 1 _)).trans (.of_entry _ _ 2 _)

theorem reported_rasLink (tile unit : Nat) (s : State) : Reported s (rasLink tile unit s) :=
  have hcount : Reported s (if s.mgtOn then s.inc (F.RAS_UE 16) else s) := .ite (.of_set s (f := F.RAS_UE 16) (by decide) _) (.refl s)
  (hcount.trans (reported_rasLog 16 .link true tile unit 0 _)).trans (.of_setRas _ _)

end Reports

/-! ### The way of a flit (R273, R279) -/

/-- XY routing names an output toward another router as long as the router is not the attachment tile. -/
theorem routeOut_arrived_iff (r dst : Nat) : r = attach dst ↔ 4 ≤ routeOut r dst := by
  rw [routeOut]
  split_ifs <;> omega

/-- A hop through the output that XY routing names leads one router nearer. -/
theorem meshDist_neighbour {r dst : Nat} (hr : r < 192) (ha : attach dst < 192) (hne : r ≠ attach dst) :
    (neighbour r (routeOut r dst)).1 < 192 ∧
      meshDist (neighbour r (routeOut r dst)).1 (attach dst) + 1 = meshDist r (attach dst) := by
  rw [routeOut]
  generalize attach dst = a at *
  dsimp only [meshDist]
  split_ifs <;> simp only [neighbour, reduceIte, OfNat.ofNat_ne_zero, OfNat.ofNat_ne_one, one_ne_zero, Nat.reduceEqDiff] <;> omega

/-! ### The grant at an output port (R276, R277, R310) -/

/-- Output `o` of router `r` has granted EV input `p`: `rest` stays in its buffer, and the round robin goes on behind `p` (log entry 51). -/
def flitGranted (r o p : Nat) (rest : List Item) (s : State) : State :=
  let s := s.setBuf (bufKey r p false) rest
  let x := sparseGet (fun _ => ({} : OutPort)) s.fab.outs (r * 6 + o)
  let x := { x with ptrEv := (p + 1) % 6, evRun := if !(contenders s r o true).isEmpty then x.evRun + 1 else 0 }
  s.setFab { s.fab with outs := sparsePut (fun _ => ({} : OutPort)) s.fab.outs (r * 6 + o) x }

/-- A flit that came through input `p` of router `r` has been checked: a parity error is counted and reported. -/
def flitChecked (r p : Nat) (bad : Bool) (s : State) : State :=
  if bad then rasLink r (linkUnit p) (s.inc F.EVF_PERR) else s

theorem flitChecked_fab (r p : Nat) (bad : Bool) (s : State) : (flitChecked r p bad s).fab = s.fab := by
  rw [flitChecked]
  split_ifs
  · rw [(reported_rasLink _ _ _).fab, State.inc_fab]
  · rfl

theorem kept_flitChecked (r p : Nat) (bad : Bool) (s : State) : s.Kept (flitChecked r p bad s) :=
  State.kept_ite (fun _ => (s.kept_inc _).trans (kept_rasLink _ _ _)) fun _ => .refl s

theorem kept_monitor (node port vc f : Nat) (s : State) : s.Kept (monitor node port vc f s) := State.kept_setFab id id

/-- Of the receive buffers of `s` only that of key `k` differs in `t`, and it holds `l`; the interfaces hold the same. -/
structure Dequeued (k : Nat) (l : List Item) (s t : State) : Prop where
  ok : t.Ok
  buf : t.buf k = l
  other : ∀ j, j ≠ k → t.buf j = s.buf j
  rx : t.fab.rx = s.fab.rx

section Grant

variable {s : State} {r o p : Nat} {i j : Item} {l : List Item} {p0 p1 : Bool}

theorem Dequeued.of_frame {k : Nat} {t u : State} (h : Dequeued k l s t) (hkept : t.Kept u) (hbufs : u.fab.bufs = t.fab.bufs)
    (hrx : u.fab.rx = t.fab.rx) : Dequeued k l s u :=
  ⟨hkept.ok h.ok, (State.buf_eq_of_bufs hbufs k).trans h.buf, fun j hj => (State.buf_eq_of_bufs hbufs j).trans (h.other j hj),
    hrx.trans h.rx⟩

theorem flitGranted_dequeued (hs : s.Ok) (r o p : Nat) (l : List Item) :
    Dequeued (bufKey r p false) l s (flitGranted r o p l s) :=
  have hbuf : Dequeued (bufKey r p false) l s (s.setBuf (bufKey r p false) l) :=
    ⟨(s.kept_setBuf _ _).ok hs, hs.buf_setBuf_same l, fun _ hj => State.buf_setBuf_ne l hj, rfl⟩
  hbuf.of_frame (State.kept_setFab id id) rfl rfl

theorem flitChecked_dequeued (hs : s.Ok) (r o p : Nat) (bad : Bool) (l : List Item) :
    Dequeued (bufKey r p false) l s (flitChecked r p bad (flitGranted r o p l s)) :=
  (flitGranted_dequeued hs r o p l).of_frame (kept_flitChecked _ _ _ _) (by rw [flitChecked_fab]) (by rw [flitChecked_fab])

/-- The state in which an EV flit of `f` flits has left its buffer and goes on through output `o`. -/
abbrev flitLeaves (r o p : Nat) (bad : Bool) (l : List Item) (f : Nat) (s : State) : State :=
  monitor r o 0 f (flitChecked r p bad (flitGranted r o p l s))

theorem flitLeaves_dequeued (hs : s.Ok) (r o p : Nat) (bad : Bool) (l : List Item) (f : Nat) :
    Dequeued (bufKey r p false) l s (flitLeaves r o p bad l f s) :=
  (flitChecked_dequeued hs r o p bad l).of_frame (kept_monitor _ _ _ _ _) rfl rfl

section Row

variable (hon : s.fabOn = true) (hr : r < s.cfg.tiles) (ho : o < 6) (hct : contenders s r o true = [])
  (hrr : roundRobin (contenders s r o false) (sparseGet (fun _ => ({} : OutPort)) s.fab.outs (r * 6 + o)).ptrEv 6 = some p)
  (hbuf : s.buf (bufKey r p false) = i :: l) (hroom : roomFor s r o i = true)

include hon hr ho hct hrr

/-- R276: with no CT flit waiting the port grants the EV input that is next in turn. -/
theorem exec_flitForward_of_ev (p0 p1 : Bool) : exec (.flitForward r o p0 p1) s = .next (takeFlit r o p false p0 p1 s) := by
  rw [exec_flitForward, execFlitForward, if_pos (by simp [hon, hr, ho]), forwardFlit, hct]
  simp only [List.isEmpty_nil, Bool.not_true, Bool.false_and, Bool.false_eq_true, if_false, hrr]

include hbuf hroom

/-- What the parity checks leave of the granted flit goes on (R310). -/
theorem exec_flitForward_of_kept (hpar : parity p0 p1 i = some j) :
    exec (.flitForward r o p0 p1) s = .next (passOn r o j (flitLeaves r o p (p0 || p1) l j.body.size s)) := by
  rw [exec_flitForward_of_ev hon hr ho hct hrr, takeFlit, hbuf]
  simp only [hroom, Bool.not_true, Bool.false_eq_true, if_false, hpar]
  rfl

/-- A granted flit of which the parity checks leave nothing is discarded (R310). -/
theorem exec_flitForward_of_lost (hpar : parity p0 p1 i = none) :
    exec (.flitForward r o p0 p1) s = .next (flitChecked r p (p0 || p1) (flitGranted r o p l s)) := by
  rw [exec_flitForward_of_ev hon hr ho hct hrr, takeFlit, hbuf]
  simp only [hroom, Bool.not_true, Bool.false_eq_true, if_false, hpar]
  rfl

end Row

theorem passOn_neighbour (ho : o < 4) (hct : i.body.ct = false) (s : State) :
    passOn r o i s = s.setBuf (bufKey (neighbour r o).1 (neighbour r o).2 false)
      (s.buf (bufKey (neighbour r o).1 (neighbour r o).2 false) ++ [i]) := by
  rw [passOn, if_pos ho, hct]

theorem passOn_local (r : Nat) (i : Item) (s : State) : passOn r 5 i s = s.setRx r (s.rx r ++ [i]) := rfl

/-- The flit joins the buffer at the other side of its link, behind what waits there. -/
theorem Dequeued.passOn_buf {k : Nat} {t : State} (h : Dequeued k l s t) (ho : o < 4) (hct : i.body.ct = false)
    (hne : bufKey (neighbour r o).1 (neighbour r o).2 false ≠ k) :
    (passOn r o i t).buf (bufKey (neighbour r o).1 (neighbour r o).2 false) =
      s.buf (bufKey (neighbour r o).1 (neighbour r o).2 false) ++ [i] := by
  rw [passOn_neighbour ho hct, h.ok.buf_setBuf_same, h.other _ hne]

/-- R310: a flit with an error in a parity check is counted in EVF_PERR. -/
theorem flitChecked_perr (hs : s.Ok) (r o p : Nat) (l : List Item) :
    (flitChecked r p true (flitGranted r o p l s)).get F.EVF_PERR = min (2 ^ 32 - 1) (s.get F.EVF_PERR + 1) := by
  have hwf : (flitGranted r o p l s).regsWf := hs.regs
  rw [flitChecked, if_pos rfl, (reported_rasLink _ _ _).get _ (by decide), State.get_inc_same hwf F.EVF_PERR (word_ok _)]
  rfl

end Grant

/-- Settles O25: the way of a flit by the output that its router names, a grant by what it leaves of the buffers and by what the parity
checks leave of the flit. That a row moves one flit under round-robin pointers that start at 0 is the model's choice (log entry 51). -/
theorem fabricRouting : Obligations.FabricRouting := by
  unfold Obligations.FabricRouting
  refine ⟨fun r dst hr ha => ⟨routeOut_arrived_iff r dst, meshDist_neighbour hr ha⟩, ?_, ?_⟩
  · intro s r o p i l hs hon hr _ ho hct hrr hbuf hev hroom hne
    have hgone (bad : Bool) (f : Nat) := flitLeaves_dequeued hs r o p bad l f
    refine ⟨⟨_, exec_flitForward_of_kept hon hr (by omega) hct hrr hbuf hroom rfl, ?_⟩,
      ⟨_, exec_flitForward_of_lost hon hr (by omega) hct hrr hbuf hroom rfl, ?_⟩, fun e he =>
      ⟨_, exec_flitForward_of_kept hon hr (by omega) hct hrr hbuf hroom (by rw [parity, he]; rfl), ?_⟩⟩
    · refine ⟨?_, (hgone _ _).passOn_buf ho hev hne, ?_, fun j hj hj' => ?_, ?_, ?_⟩ <;> rw [passOn_neighbour ho hev]
      · rw [State.buf_setBuf_ne _ hne.symm, (hgone _ _).buf]
      · rfl
      · rw [State.buf_setBuf_ne _ hj, (hgone _ _).other j hj']
      · rfl
      · rfl
    · have hlost := flitChecked_dequeued hs r o p true l
      exact ⟨hlost.buf, hlost.other _ hne, flitChecked_perr hs r o p l⟩
    · exact (hgone _ _).passOn_buf ho rfl hne
  · intro s r p i l hs hon hr hct hrr hbuf _ hroom
    have hgone := flitLeaves_dequeued hs r 5 p (false || false) l i.body.size
    refine ⟨_, exec_flitForward_of_kept hon hr (by omega) hct hrr hbuf hroom rfl, ?_, ?_⟩ <;> rw [passOn_local]
    · rw [State.setRx_buf, hgone.buf]
    · rw [hgone.ok.rx_setRx_same, State.rx_eq_of_rx hgone.rx]

end Sys2Proof.Machine

/-!
PROOF. Event fabric (08), arrivals at a tile: the item that a row takes from the interface, EVWs by the route of their class, EB flits
and fences; `TileArrivals`.
-/

namespace Sys2Proof.Machine

theorem exec_evwDelivery (n : Nat) (s : State) : exec (.evwDelivery n) s = execEvwDelivery n s := rfl
theorem exec_ebFlitRxTile (n : Nat) (s : State) : exec (.ebFlitRxTile n) s = execEbFlitRxTile n s := rfl
theorem exec_fenceRx (n : Nat) (ct : Bool) (s : State) : exec (.fenceRx n ct) s = execFenceRx n ct s := rfl

/-! ### What a row takes from the interface -/

section Interface

variable {s : State} {n : Nat} {l : List Item}

@[simp] theorem State.setRx_get (s : State) (n : Nat) (l : List Item) (f : Fld) : (s.setRx n l).get f = s.get f := (rfl)

/-- The head of an interface, when its channel is asked for and its body is wanted, is what a row takes. -/
theorem takeRx_of_head {i : Item} {ct : Bool} {p : Body → Bool} (h : s.rx n = i :: l) (hct : i.body.ct = ct) (hp : p i.body = true) :
    takeRx n ct p s = some (i, s.setRx n l) := by
  simp [takeRx, h, hct, hp]

end Interface

/-! ### EVWs (R293, R433, R434, R438) -/

section Evws

variable {s : State} {n d r : Nat} {e : Evw} {l : List Item}

theorem exec_evwDelivery_of_head (hon : ifaceOn s n = true) (h : s.rx n = ⟨d, r, .evw e⟩ :: l) (htakes : takesEvw s n (.evw e) = true) :
    exec (.evwDelivery n) s = .next (evwArrive n e (s.setRx n l)) := by
  rw [exec_evwDelivery, execEvwDelivery, if_pos hon, takeRx_of_head (ct := false) h rfl htakes]

theorem takesEvw_of_drop (h : tileDrops s n = true) : takesEvw s n (.evw e) = true := by simp [takesEvw, h]

theorem takesEvw_of_wide (h : e.wide ≠ none) : takesEvw s n (.evw e) = true := by
  simp [takesEvw, Option.isSome_iff_ne_none.2 h]

theorem takesEvw_of_route (h : routeOf s n e.cls ≠ 0) : takesEvw s n (.evw e) = true := by simp [takesEvw, h]

theorem takesEvw_of_room (h : (s.ne n).queue.length < 64) : takesEvw s n (.evw e) = true := by simp [takesEvw, engineTakes, h]

theorem evwArrive_of_drop (h : tileDrops s n = true) : evwArrive n e s = dropAt n s := if_pos h

section Taken

variable (h : tileDrops s n = false)
include h

theorem evwArrive_of_wide {p : Nat} (hw : e.wide = some p) : evwArrive n e s = inboxWrite n [e.bits, p] s := by
  rw [evwArrive, if_neg (by simp [h]), hw]

theorem evwArrive_of_inbox (hw : e.wide = none) (hr : routeOf s n e.cls = 1) : evwArrive n e s = inboxWrite n [e.bits] s := by
  rw [evwArrive, if_neg (by simp [h]), hw, hr]
  rfl

theorem evwArrive_of_discard (hw : e.wide = none) (hr : 2 ≤ routeOf s n e.cls) : evwArrive n e s = neCount n .clsDrop 1 s := by
  obtain ⟨c, hc⟩ := Nat.exists_eq_add_of_le' hr
  rw [evwArrive, if_neg (by simp [h]), hw, hc]
  rfl

theorem evwArrive_of_engine (hw : e.wide = none) (hr : routeOf s n e.cls = 0) (hen : s.flag (F.NE_CTL_EN n) = true) :
    evwArrive n e s = s.setNe n { s.ne n with queue := (s.ne n).queue ++ [⟨e, evwTime s n e⟩] } := by
  rw [evwArrive, if_neg (by simp [h]), hw, hr]
  simp only [hen, Bool.not_true, Bool.false_eq_true, if_false]

end Taken

theorem State.ne_setNe_same (h : n < s.tiles.length) (x : Neuron) : (s.setNe n x).ne n = x := by
  rw [State.ne, State.setNe, State.tile_setTile_same _ _ _ h]

theorem State.tile_mem_setNe (h : n < s.tiles.length) (x : Neuron) : ((s.setNe n x).tile n).mem = (s.tile n).mem := by
  rw [State.setNe, State.tile_setTile_same _ _ _ h]

end Evws

/-! ### EB flits (R292, R694) -/

section Eb

variable {s : State} {n d r ep : Nat} {l : List Item}

theorem exec_ebFlitRxTile_of_head (hon : ifaceOn s n = true) (h : s.rx n = ⟨d, r, .eb ep⟩ :: l) :
    exec (.ebFlitRxTile n) s = .next (tileEb n ep (s.setRx n l)) := by
  rw [exec_ebFlitRxTile, execEbFlitRxTile, if_pos hon, takeRx_of_head (ct := false) h rfl rfl]
  rfl

theorem tileEb_of_below_floor (hen : s.flag (F.TILE_CHG_CTL_EBF_EN n) = true)
    (hep : sx 32 ((ep + 2 ^ 32 - s.get (F.TILE_CHG_EBF n)) % 2 ^ 32) < 0) : tileEb n ep s = s.inc (F.TILE_CHG_STAT_EB_DISC n) :=
  if_pos ⟨hen, hep⟩

theorem tileEb_of_no_floor (hen : s.flag (F.TILE_CHG_CTL_EBF_EN n) = false) :
    tileEb n ep s = windowApply (localKey n (s.get (F.EVF_T_EB_CFG n))) 1 1 (s.set (F.EVF_T_LAST_EB n) ep) :=
  if_neg (by simp [hen])

end Eb

/-! ### Fences (R690) -/

section Fences

variable {s : State} {n d r ep : Nat} {l : List Item}

theorem exec_fenceRx_of_head (hon : ifaceOn s n = true) (h : s.rx n = ⟨d, r, .fence ep false⟩ :: l) :
    exec (.fenceRx n false) s = .next (fenceCount n false (s.setRx n l)) := by
  rw [exec_fenceRx, execFenceRx, if_pos hon, takeRx_of_head (ct := false) h rfl rfl]

theorem evCnt_ok (n : Nat) : (F.EVF_FENCE_RX_EV_CNT n).ok := fld_ok _ (by decide)

variable (hs : s.regsWf)
include hs

theorem fenceCounted_evCnt (h : s.get (F.EVF_FENCE_RX_EV_CNT n) + 1 < 256) :
    (s.incWrap (F.EVF_FENCE_RX_EV_CNT n) 1).get (F.EVF_FENCE_RX_EV_CNT n) = s.get (F.EVF_FENCE_RX_EV_CNT n) + 1 := by
  have hsum : wrapAdd 8 (s.get (F.EVF_FENCE_RX_EV_CNT n)) 1 = s.get (F.EVF_FENCE_RX_EV_CNT n) + 1 := Nat.mod_eq_of_lt h
  exact (State.get_set_fits hs _ (evCnt_ok n) (Nat.mod_lt _ (Nat.two_pow_pos 8))).trans hsum

/-- The count of an EV fence leaves the other fields of its register. -/
theorem fenceCounted_get {g : Fld} (hg : (F.EVF_FENCE_RX_EV_CNT n).apart g) :
    (s.incWrap (F.EVF_FENCE_RX_EV_CNT n) 1).get g = s.get g := State.get_set_ne hs _ _ _ (evCnt_ok n) hg

/-- An EV fence that is not the last of the EV fences is counted and has no further effect. -/
theorem fenceCount_of_more (h : s.get (F.EVF_FENCE_RX_EV_CNT n) + 1 < s.cfg.tiles + 12) (htiles : s.cfg.tiles ≤ 192) :
    fenceCount n false s = s.incWrap (F.EVF_FENCE_RX_EV_CNT n) 1 := by
  have hcnt := fenceCounted_evCnt hs (n := n) (by omega)
  refine if_neg fun hall => ?_
  have hlast := hall.1
  simp only [Bool.false_eq_true, if_false, hcnt, State.incWrap_cfg] at hlast
  omega

end Fences

/-- Settles O26: the item at the head of the interface is taken; an EVW by its drop, its width and its class's route, an EB flit by the
floor, a fence by its count. That the drop sink keeps what reaches it is the model's choice (log entry 51). -/
theorem tileArrivals : Obligations.TileArrivals := by
  unfold Obligations.TileArrivals
  refine ⟨?_, ?_, ?_⟩
  · intro s n d r e l hs _ hon hn hrx
    have hrow := exec_evwDelivery_of_head hon hrx
    refine ⟨fun hdrop => ?_, fun htake hw hroute hen hroom => ?_, fun htake hw hroute => ?_, fun htake hw hroute => ?_,
      fun p htake hw => ?_⟩
    · exact (hrow (takesEvw_of_drop hdrop)).trans (congrArg _ (evwArrive_of_drop hdrop))
    · have hlen : n < (s.setRx n l).tiles.length := by rwa [State.setRx_tiles, hs.tiles]
      rw [hrow (takesEvw_of_room hroom), evwArrive_of_engine (s := s.setRx n l) htake hw hroute hen]
      exact ⟨_, rfl, by rw [State.ne_setNe_same hlen]; rfl, hs.rx_setRx_same n l, rfl, State.tile_mem_setNe hlen _⟩
    · exact (hrow (takesEvw_of_route (by omega))).trans (congrArg _ (evwArrive_of_inbox htake hw hroute))
    · exact (hrow (takesEvw_of_route (by omega))).trans (congrArg _ (evwArrive_of_discard htake hw hroute))
    · exact (hrow (takesEvw_of_wide (by simp [hw]))).trans (congrArg _ (evwArrive_of_wide (s := s.setRx n l) htake hw))
  · intro s n d r ep l hon hrx
    have hrow := exec_ebFlitRxTile_of_head hon hrx
    exact ⟨fun hen hep => hrow.trans (congrArg _ (tileEb_of_below_floor hen hep)),
      fun hen => hrow.trans (congrArg _ (tileEb_of_no_floor hen))⟩
  · intro s n d r ep l hs hon _ hrx hfew htiles
    have hwf : (s.setRx n l).regsWf := hs.regs
    rw [exec_fenceRx_of_head hon hrx, fenceCount_of_more hwf hfew htiles]
    refine ⟨_, rfl, fenceCounted_evCnt hwf (s := s.setRx n l) (by rw [State.setRx_get]; omega), ?_, ?_, ?_⟩
    · exact (State.rx_eq_of_rx (by rw [State.incWrap_fab]) n).trans (hs.rx_setRx_same n l)
    · exact fenceCounted_get hwf (.inr (.inl (by decide : 7 < 8)))
    · rw [State.flag, fenceCounted_get hwf (g := F.EVF_FENCE_RX_DONE n) (.inr (.inl (by decide : 7 < 16))), State.flag, State.setRx_get]

end Sys2Proof.Machine

/-!
PROOF. Event fabric (08), sends: fanout lists, edge nodes and the span; `FabricSends`.
-/

namespace Sys2Proof.Machine

theorem exec_fanoutSend (n : Nat) (s : State) : exec (.fanoutSend n) s = execFanoutSend n s := rfl
theorem exec_ebFlitRxEdge (n : Nat) (s : State) : exec (.ebFlitRxEdge n) s = execEbFlitRxEdge n s := rfl
theorem exec_spEbEmit (p : Nat) (s : State) : exec (.spEbEmit p) s = execSpEbEmit p s := rfl
theorem exec_routeArm (a : Agent) (s : State) : exec (.routeArm a) s = execRouteArm a s := rfl
theorem exec_spanPortUp (p peer ring : Nat) (locked aligned : Bool) (s : State) :
    exec (.spanPortUp p peer ring locked aligned) s = execSpanPortUp p peer ring locked aligned s := rfl
theorem exec_spanGroupRx (p cr : Nat) (fl : List (Nat × List Byte)) (ok : Bool) (s : State) :
    exec (.spanGroupRx p cr fl ok) s = execSpanGroupRx p cr fl ok s := rfl
theorem exec_spanPortDown (p : Nat) (s : State) : exec (.spanPortDown p) s = execSpanPortDown p s := rfl
theorem exec_fabricStallDetect (n p v : Nat) (s : State) : exec (.fabricStallDetect n p v) s = execFabricStallDetect n p v s := rfl

/-! ### Sends to a fanout list (R285, R286, R311) -/

section Sends

variable {s : State} {n l idx d w : Nat} {e : Evw}

/-- A send is taken while the interface is on, the tile is powered and the link holds credit (R276). -/
theorem exec_fanoutSend_of_credit (hon : ifaceOn s n = true) (htile : s.tileOn n = true) (hcredit : hasCredit s n false = true) :
    exec (.fanoutSend n) s = .next (takeSend n s) := by
  rw [exec_fanoutSend, execFanoutSend, if_pos (by simp [hon, htile, hcredit])]

theorem takeSend_of_program {p : Send} {ps : List Send} (hq : (s.seq n).sendq = p :: ps) (ho : (s.ne n).outq = []) :
    takeSend n s = formSend n p (s.setSeq n { s.seq n with sendq := ps, neTurn := true }) := by
  simp only [takeSend, hq, ho]

theorem takeSend_of_engine {p : Send} {ps : List Send} (hq : (s.seq n).sendq = []) (ho : (s.ne n).outq = p :: ps) :
    takeSend n s = formSend n p ((s.setNe n { s.ne n with outq := ps }).setSeq n { s.seq n with neTurn := false }) := by
  simp only [takeSend, hq, ho]

/-- The TARGET of the copy that entry word `w` asks for, computed without wrap (R285). -/
abbrev copyTarget (w idx : Nat) : Nat := if bitOf w 12 then bitsOf w 31 16 else idx + bitsOf w 31 16

theorem fanCopy_of_high_target (h : 65535 < copyTarget w idx) (e : Evw) : fanCopy n w idx e s = fanErr n s := if_pos (.inl h)

theorem fanCopy_of_local (h : copyTarget w idx ≤ 65535) (hremote : bitOf w 13 = false) (e : Evw) :
    fanCopy n w idx e s = injectEvw n { e with node := bitsOf w 11 0, target := copyTarget w idx } s := by
  have hgood : ¬ (65535 < copyTarget w idx ∨ (bitOf w 13 ∧ (bitsOf w 15 14 = devId s ∨ ringSize s ≤ bitsOf w 15 14))) := by
    simp only [hremote, Bool.false_eq_true, false_and, or_false]
    omega
  rw [fanCopy, if_neg hgood, hremote]
  rfl

theorem fanCopy_of_remote (h : copyTarget w idx ≤ 65535) (hremote : bitOf w 13 = true) (hown : bitsOf w 15 14 ≠ devId s)
    (hring : bitsOf w 15 14 < ringSize s) (e : Evw) :
    fanCopy n w idx e s = inject ⟨0xF0E + spanTo s (bitsOf w 15 14), n,
      .remote (bitsOf w 15 14) { e with node := bitsOf w 11 0, target := copyTarget w idx }⟩ s := by
  have hgood : ¬ (65535 < copyTarget w idx ∨ (bitOf w 13 ∧ (bitsOf w 15 14 = devId s ∨ ringSize s ≤ bitsOf w 15 14))) := by omega
  rw [fanCopy, if_neg hgood, hremote]
  rfl

section ActiveCopy

variable (hact : s.flag F.EVF_CTL_ACTIVE = false)
include hact

theorem fanWord_of_first_copy (i : Nat) : fanWord s n i =
    if 0xC000 < s.get (F.EVF_T_FAN_BASE0 n) + 4 * i + 4 ∨ (s.tile n).bad (s.get (F.EVF_T_FAN_BASE0 n) + 4 * i) 4
    then none else some ((s.tile n).nat (s.get (F.EVF_T_FAN_BASE0 n) + 4 * i) 4) := by
  simp only [fanWord, fanBase, hact, Bool.false_eq_true, if_false]

theorem fanSend_of_no_list (h : s.get (F.EVF_T_FAN_CFG0_NLIST n) ≤ l) : fanSend n l idx e s = fanErr n s := by
  simp only [fanSend, hact, Bool.false_eq_true, if_false, h, if_true]

/-- A list of one entry within the copy's SIZE forms the one copy of that entry. -/
theorem fanSend_of_single (hl : l < s.get (F.EVF_T_FAN_CFG0_NLIST n)) (hd : fanWord s n l = some d) (hcount : bitsOf d 16 11 = 1)
    (hsize : bitsOf d 10 0 < s.get (F.EVF_T_FAN_CFG0_SIZE n)) (hw : fanWord s n (bitsOf d 10 0) = some w) :
    fanSend n l idx e s = fanCopy n w idx e s := by
  have hfits : ¬ (32 < bitsOf d 16 11 ∨ s.get (F.EVF_T_FAN_CFG0_SIZE n) < bitsOf d 10 0 + bitsOf d 16 11) := by omega
  simp only [fanSend, hact, Bool.false_eq_true, if_false, Nat.not_le.2 hl, hd, hfits]
  simp only [hcount, fanCopies, Nat.add_zero, hw]

end ActiveCopy

/-- R283: where the NRT names a node, an EVW of a tile enters the mesh through the local port of the tile's router. -/
theorem injectEvw_of_tile {src p : Nat} (hsrc : src < 0xF00) (h : remap s e.node = some p) :
    injectEvw src e s = s.setBuf (bufKey src 4 false) (s.buf (bufKey src 4 false) ++ [⟨p, src, .evw { e with node := p }⟩]) := by
  simp only [injectEvw, h, inject, attach, entryPort, hsrc, if_true]
  rfl

theorem injectEvw_of_drop {src : Nat} (h : remap s e.node = none) : injectEvw src e s = dropAt src s := by
  rw [injectEvw, h]

end Sends

/-! ### EB flits at edge nodes (R291, R301, R915) -/

section Edge

variable {s : State} {e p d r ep c : Nat} {l : List Item}

/-- Edge node `e` has recorded and counted an EB flit. -/
abbrev ebRecorded (e ep : Nat) (s : State) : State := (s.set (F.EVF_E_LAST_EB e) ep).inc (F.EVF_E_EB_RX e)

theorem exec_ebFlitRxEdge_of_head (hon : s.fabOn = true) (he : e < 16) (h : s.rx (0xF00 + e) = ⟨d, r, .eb ep⟩ :: l) :
    exec (.ebFlitRxEdge (0xF00 + e)) s = .next (edgeEb (0xF00 + e) ⟨d, r, .eb ep⟩ (s.setRx (0xF00 + e) l)) := by
  rw [exec_ebFlitRxEdge, execEbFlitRxEdge, if_pos (by simp [hon]; omega), takeRx_of_head (ct := false) h rfl rfl]

theorem edgeEb_of_node (he : e < 14) : edgeEb (0xF00 + e) ⟨d, r, .eb ep⟩ s =
    if e = 12 ∨ e = 13 then
      (ebRecorded e ep s).setFab { (ebRecorded e ep s).fab with sink := (ebRecorded e ep s).fab.sink ++ [⟨d, r, .eb ep⟩] }
    else dropAt (0xF00 + e) (ebRecorded e ep s) := by
  simp only [edgeEb, Nat.add_sub_cancel_left, Body.epoch, Nat.not_le.2 he, if_false]

theorem edgeEb_of_span (p : Nat) : edgeEb (0xF0E + p) ⟨d, r, .eb ep⟩ s = spanQueue p ⟨d, r, .eb ep⟩ (ebRecorded (14 + p) ep s) := by
  have he : 0xF0E + p - 0xF00 = 14 + p := by omega
  simp only [edgeEb, he, Body.epoch, Nat.le_add_right, if_true, Nat.add_sub_cancel_left]

theorem exec_spEbEmit_of_complete (hon : s.fabOn = true) (hp : p < 2) (hc : s.fab.spEb.getD p (0, 0) = (c, ep)) (h0 : ebExpect s p ≠ 0)
    (hle : ebExpect s p ≤ c) : exec (.spEbEmit p) s =
      .next (sendEb (0xF0E + p) ep (s.setFab { s.fab with spEb := s.fab.spEb.set p (c - ebExpect s p, ep) })) := by
  rw [exec_spEbEmit, execSpEbEmit, if_pos (by simp [hon, hp]), hc]
  exact congrArg _ (if_pos ⟨h0, hle⟩)

theorem exec_spEbEmit_of_few (hc : s.fab.spEb.getD p (0, 0) = (c, ep)) (hlt : c < ebExpect s p) : exec (.spEbEmit p) s = .next s := by
  rw [exec_spEbEmit, execSpEbEmit, hc]
  exact congrArg _ (ite_eq_right_iff.2 fun _ => if_neg fun h => absurd h.2 (Nat.not_le.2 hlt))

end Edge

/-! ### The registers of a span port -/

theorem laneLock_ok (p : Nat) : (F.EVF_SPAN_STAT_LANE_LOCK p).ok := fld_ok _ (by decide)
theorem aligned_ok (p : Nat) : (F.EVF_SPAN_STAT_ALIGNED p).ok := bit_ok _ (by decide)
theorem up_ok (p : Nat) : (F.EVF_SPAN_STAT_UP p).ok := bit_ok _ (by decide)
theorem idMismatch_ok (p : Nat) : (F.EVF_SPAN_STAT_ID_MISMATCH p).ok := bit_ok _ (by decide)

theorem State.sp_setSp_same {s : State} {p : Nat} (h : p < s.fab.span.length) (x : SpanPort) : (s.setSp p x).sp p = x :=
  getD_set_same _ _ _ _ h

@[simp] theorem State.setSp_get (s : State) (p : Nat) (x : SpanPort) (f : Fld) : (s.setSp p x).get f = s.get f := (rfl)
@[simp] theorem State.setSp_flag (s : State) (p : Nat) (x : SpanPort) (f : Fld) : (s.setSp p x).flag f = s.flag f := (rfl)
@[simp] theorem State.setSp_out (s : State) (p : Nat) (x : SpanPort) : (s.setSp p x).out = s.out := (rfl)
@[simp] theorem State.setSp_bufs (s : State) (p : Nat) (x : SpanPort) : (s.setSp p x).fab.bufs = s.fab.bufs := (rfl)

theorem State.sp_eq_of_fab {s t : State} (h : t.fab = s.fab) (p : Nat) : t.sp p = s.sp p := by
  rw [State.sp, h, State.sp]

/-! ### A span port comes up (R297, R299) -/

section PortUp

variable {s : State} {p peer ring : Nat}

/-- The lanes of span port `p` show lock and alignment. -/
def lanesLocked (p : Nat) (s : State) : State :=
  (s.set (F.EVF_SPAN_STAT_LANE_LOCK p) 15).set (F.EVF_SPAN_STAT_ALIGNED p) 1

theorem lanesLocked_reaches (p : Nat) (s : State) :
    s.Reaches (lanesLocked p s) [F.EVF_SPAN_STAT_ALIGNED p, F.EVF_SPAN_STAT_LANE_LOCK p] :=
  (State.Reaches.refl s).set.set

theorem lanesLocked_writes (p : Nat) (s : State) : s.Writes [(F.EVF_SPAN_STAT_UP p).off] (lanesLocked p s) :=
  ((State.Writes.refl s _).set (f := F.EVF_SPAN_STAT_LANE_LOCK p) (.head _) 15).set (f := F.EVF_SPAN_STAT_ALIGNED p) (.head _) 1

theorem lanesLocked_fab (p : Nat) (s : State) : (lanesLocked p s).fab = s.fab := by
  rw [lanesLocked, State.set_fab, State.set_fab]

theorem lanesLocked_cfg (p : Nat) (s : State) : devId (lanesLocked p s) = devId s ∧ ringSize (lanesLocked p s) = ringSize s := by
  have hcfg : 0xE03000 ∉ [(F.EVF_SPAN_STAT_UP p).off] := by
    simp only [F.EVF_SPAN_STAT_UP, List.mem_singleton]
    omega
  exact ⟨(lanesLocked_writes p s).get (f := F.EVF_SPAN_CFG_DEV_ID) hcfg,
    congrArg (· + 1) ((lanesLocked_writes p s).get (f := F.EVF_SPAN_CFG_RING) hcfg)⟩

theorem lanesLocked_peer (p : Nat) (s : State) : spanPeer (lanesLocked p s) p = spanPeer s p := by
  obtain ⟨hdev, hring⟩ := lanesLocked_cfg p s
  rw [spanPeer, hdev, hring, spanPeer]

variable (hs : s.regsWf)
include hs

theorem lanesLocked_up : spanUp (lanesLocked p s) p = spanUp s p := by
  refine (lanesLocked_reaches p s).flag hs _ fun f hf => ?_
  simp only [List.mem_cons, List.not_mem_nil, or_false] at hf
  obtain rfl | rfl := hf
  · exact ⟨aligned_ok p, .inr (.inl (by decide : 4 < 5))⟩
  · exact ⟨laneLock_ok p, .inr (.inl (by decide : 3 < 5))⟩

theorem lanesLocked_lock : (lanesLocked p s).get (F.EVF_SPAN_STAT_LANE_LOCK p) = 15 :=
  (State.get_set_ne (State.set_regsWf hs _ _) _ _ _ (aligned_ok p) (.inr (.inr (by decide : 3 < 4)))).trans
    (State.get_set_fits hs _ (laneLock_ok p) (by decide : 15 < 2 ^ 4))

theorem lanesLocked_aligned : (lanesLocked p s).flag (F.EVF_SPAN_STAT_ALIGNED p) = true :=
  State.flag_raise (State.set_regsWf hs _ _) _ (aligned_ok p)

omit hs in
theorem exec_spanPortUp_of_locked (hon : s.fabOn = true) (hp : p < 2)
    (hen : s.flag (if p = 0 then F.EVF_SPAN_CFG_EN0 else F.EVF_SPAN_CFG_EN1) = true) (peer ring : Nat) :
    exec (.spanPortUp p peer ring true true) s = .next (
      if peer ≠ spanPeer s p ∨ ring ≠ ringSize s then (lanesLocked p s).raise (F.EVF_SPAN_STAT_ID_MISMATCH p)
      else if spanUp (lanesLocked p s) p then lanesLocked p s
      else ((lanesLocked p s).raise (F.EVF_SPAN_STAT_UP p)).setSp p { credits := 512, tx := [] }) := by
  rw [exec_spanPortUp, execSpanPortUp, if_pos (by simp [hon, hp, hen]), ← lanesLocked_peer, ← (lanesLocked_cfg p s).2]
  rfl

theorem exec_spanPortUp_of_peer (hon : s.fabOn = true) (hp : p < 2)
    (hen : s.flag (if p = 0 then F.EVF_SPAN_CFG_EN0 else F.EVF_SPAN_CFG_EN1) = true) (hdown : spanUp s p = false)
    (hspan : p < s.fab.span.length) :
    ends (exec (.spanPortUp p (spanPeer s p) (ringSize s) true true) s) (fun t => spanUp t p = true ∧
      t.get (F.EVF_SPAN_STAT_LANE_LOCK p) = 15 ∧ t.flag (F.EVF_SPAN_STAT_ALIGNED p) = true ∧ t.sp p = ⟨512, []⟩) := by
  have hwf : (lanesLocked p s).regsWf := (lanesLocked_writes p s).wf hs
  rw [exec_spanPortUp_of_locked hon hp hen, if_neg (by simp), lanesLocked_up hs, hdown, if_neg Bool.false_ne_true]
  refine ⟨_, rfl, ?_, ?_, ?_, State.sp_setSp_same ?_ _⟩
  · rw [spanUp, State.setSp_flag, State.flag_raise hwf _ (up_ok p)]
  · rw [State.setSp_get, State.raise, State.get_set_ne hwf _ _ _ (up_ok p) (.inr (.inr (by decide : 3 < 5))), lanesLocked_lock hs]
  · rw [State.setSp_flag, State.raise, State.flag_set_ne hwf _ _ _ (up_ok p) (.inr (.inr (by decide : 4 < 5))), lanesLocked_aligned hs]
  · rwa [State.raise_fab, lanesLocked_fab]

theorem exec_spanPortUp_of_stranger (hon : s.fabOn = true) (hp : p < 2)
    (hen : s.flag (if p = 0 then F.EVF_SPAN_CFG_EN0 else F.EVF_SPAN_CFG_EN1) = true) (hdown : spanUp s p = false)
    (h : peer ≠ spanPeer s p ∨ ring ≠ ringSize s) :
    ends (exec (.spanPortUp p peer ring true true) s) (fun t =>
      spanUp t p = false ∧ t.flag (F.EVF_SPAN_STAT_ID_MISMATCH p) = true) := by
  have hwf : (lanesLocked p s).regsWf := (lanesLocked_writes p s).wf hs
  rw [exec_spanPortUp_of_locked hon hp hen, if_pos h]
  refine ⟨_, rfl, ?_, State.flag_raise hwf _ (idMismatch_ok p)⟩
  rw [spanUp, State.raise, State.flag_set_ne hwf _ _ _ (idMismatch_ok p) (.inr (.inr (by decide : 5 < 6)))]
  exact (lanesLocked_up hs).trans hdown

end PortUp

/-! ### Groups that a span port receives (R296, R299) -/

section Groups

variable {s : State} {p : Nat}

theorem exec_spanGroupRx_of_bad_crc (hon : s.fabOn = true) (hp : p < 2) (hup : spanUp s p = true) (cr : Nat)
    (fl : List (Nat × List Byte)) :
    exec (.spanGroupRx p cr fl false) s = .next (rasUe 17 .link 0xFFF p 0 (s.inc (F.EVF_SPAN_CRC_ERR p))) := by
  rw [exec_spanGroupRx, execSpanGroupRx, if_pos (by simp [hon, hp, hup]), if_pos (by decide)]

/-- The credits of a group without flits, taken by a port with nothing to send. -/
def creditsTaken (p cr : Nat) (s : State) : State :=
  let s := s.incBy (F.EVF_SPAN_RX_FLITS p) 0
  s.setSp p { s.sp p with credits := (s.sp p).credits + cr }

theorem creditsTaken_sp (hspan : p < s.fab.span.length) (htx : (s.sp p).tx = []) (cr : Nat) :
    (creditsTaken p cr s).sp p = ⟨(s.sp p).credits + cr, []⟩ := by
  have hsp : (s.incBy (F.EVF_SPAN_RX_FLITS p) 0).sp p = s.sp p := State.sp_eq_of_fab (State.incBy_fab _ _ _) p
  rw [creditsTaken, State.sp_setSp_same (by rwa [State.incBy_fab])]
  simp only [hsp, htx]

theorem exec_spanGroupRx_of_credits (hon : s.fabOn = true) (hp : p < 2) (hspan : p < s.fab.span.length) (hup : spanUp s p = true)
    (htx : (s.sp p).tx = []) (cr : Nat) : exec (.spanGroupRx p cr [] true) s = .next (creditsTaken p cr s) := by
  have hrest : spanSend p ((creditsTaken p cr s).sp p).tx.length (creditsTaken p cr s) = creditsTaken p cr s := by
    rw [creditsTaken_sp hspan htx, List.length_nil, spanSend]
  rw [exec_spanGroupRx, execSpanGroupRx, if_pos (by simp [hon, hp, hup]), if_neg (by decide)]
  exact congrArg _ hrest

end Groups

/-! ### A span port falls (R293, R309) -/

section PortDown

variable {s t : State} {p : Nat}

theorem State.RegsOnly.dropAt (h : s.RegsOnly t) (n : Nat) : s.RegsOnly (dropAt n t) := by
  rw [Sys2Proof.Machine.dropAt]
  split_ifs
  · exact (h.set _ _).set _ _
  · exact (h.set _ _).set _ _

/-- The port shows neither lock nor alignment and is no longer UP. -/
def portShut (p : Nat) (s : State) : State :=
  ((s.clear (F.EVF_SPAN_STAT_UP p)).clear (F.EVF_SPAN_STAT_LANE_LOCK p)).clear (F.EVF_SPAN_STAT_ALIGNED p)

/-- An item that waited for span port `p` goes to the drop sink of its SP node. -/
def spanDropped (p : Nat) (s : State) (_ : Nat) : State := (dropAt (0xF0E + p) s).inc (F.EVF_SPAN_DROP p)

/-- Span port `p` is shut and `k` items have been dropped. -/
abbrev spanEmptied (p k : Nat) (s : State) : State := (List.range k).foldl (spanDropped p) (portShut p s)

theorem spanFall_eq (p : Nat) (s : State) : spanFall p s = (spanEmptied p (s.sp p).tx.length s).setSp p {} := rfl

theorem spanEmptied_regsOnly (p k : Nat) (s : State) : s.RegsOnly (spanEmptied p k s) :=
  .foldl (fun _ _ _ h => (h.dropAt _).set _ _) _ (((State.RegsOnly.refl s).set _ _).set _ _ |>.set _ _)

/-- The counters that a dropped item of span port `p` advances. -/
def dropRegs (p : Nat) : List Nat := [(F.EVF_E_DROP (14 + p)).off, F.EVF_DROP_TOTAL.off, (F.EVF_SPAN_DROP p).off]

theorem dropAt_span_writes (p : Nat) (s : State) :
    s.Writes [(F.EVF_E_DROP (14 + p)).off, F.EVF_DROP_TOTAL.off] (dropAt (0xF0E + p) s) := by
  have he : 0xF0E + p - 0xF00 = 14 + p := by omega
  rw [dropAt, if_neg (by omega), he]
  exact ((State.Writes.refl s _).set (f := F.EVF_E_DROP (14 + p)) (.head _) _).set (f := F.EVF_DROP_TOTAL) (.tail _ (.head _)) _

theorem spanDropped_writes (p : Nat) (s : State) (a : Nat) : s.Writes (dropRegs p) (spanDropped p s a) :=
  ((dropAt_span_writes p s).mono (by simp [dropRegs])).set (f := F.EVF_SPAN_DROP p) (by simp [dropRegs]) _

theorem portShut_reaches (p : Nat) (s : State) : (s.clear (F.EVF_SPAN_STAT_UP p)).Reaches (portShut p s)
    [F.EVF_SPAN_STAT_ALIGNED p, F.EVF_SPAN_STAT_LANE_LOCK p] := (State.Reaches.refl _).set.set

theorem portShut_writes (p : Nat) (s : State) : s.Writes [(F.EVF_SPAN_STAT_UP p).off] (portShut p s) :=
  (((State.Writes.refl s _).set (f := F.EVF_SPAN_STAT_UP p) (.head _) 0).set (f := F.EVF_SPAN_STAT_LANE_LOCK p) (.head _) 0).set
    (f := F.EVF_SPAN_STAT_ALIGNED p) (.head _) 0

theorem portShut_up (hs : s.regsWf) : spanUp (portShut p s) p = false := by
  refine ((portShut_reaches p s).flag (State.clear_regsWf hs _) _ fun f hf => ?_).trans (State.flag_clear hs _ (up_ok p))
  simp only [List.mem_cons, List.not_mem_nil, or_false] at hf
  obtain rfl | rfl := hf
  · exact ⟨aligned_ok p, .inr (.inl (by decide : 4 < 5))⟩
  · exact ⟨laneLock_ok p, .inr (.inl (by decide : 3 < 5))⟩

theorem spanDropped_count (hs : s.regsWf) (hp : p < 2) (a : Nat) :
    (spanDropped p s a).get (F.EVF_SPAN_DROP p) = min (2 ^ 32 - 1) (s.get (F.EVF_SPAN_DROP p) + 1) := by
  have hkeep : (dropAt (0xF0E + p) s).get (F.EVF_SPAN_DROP p) = s.get (F.EVF_SPAN_DROP p) := by
    refine (dropAt_span_writes p s).get ?_
    simp only [F.EVF_SPAN_DROP, F.EVF_E_DROP, F.EVF_DROP_TOTAL, List.mem_cons, List.not_mem_nil, or_false]
    omega
  rw [spanDropped, State.get_inc_same ((dropAt_span_writes p s).wf hs) (F.EVF_SPAN_DROP p) (word_ok _), hkeep]
  rfl

theorem spanDropped_foldl_count (hp : p < 2) (l : List Nat) : ∀ {s : State}, s.regsWf →
    (l.foldl (spanDropped p) s).get (F.EVF_SPAN_DROP p) = min (2 ^ 32 - 1) (s.get (F.EVF_SPAN_DROP p) + l.length) := by
  induction l with
  | nil =>
    intro s _
    have hlt : s.get (F.EVF_SPAN_DROP p) < 2 ^ 32 := bitsOf_lt _ 31 0
    simp only [List.foldl_nil, List.length_nil]
    omega
  | cons a l ih =>
    intro s hs
    rw [List.foldl_cons, ih ((spanDropped_writes p s a).wf hs), spanDropped_count hs hp, List.length_cons]
    omega

theorem spanEmptied_up (hs : s.regsWf) (hp : p < 2) (k : Nat) : spanUp (spanEmptied p k s) p = false := by
  refine ((State.Writes.foldl (fun a _ s => spanDropped_writes p s a) _).flag ?_).trans (portShut_up hs)
  simp only [dropRegs, F.EVF_SPAN_STAT_UP, F.EVF_SPAN_DROP, F.EVF_E_DROP, F.EVF_DROP_TOTAL, List.mem_cons, List.not_mem_nil, or_false]
  omega

theorem spanEmptied_count (hs : s.regsWf) (hp : p < 2) (k : Nat) :
    (spanEmptied p k s).get (F.EVF_SPAN_DROP p) = min (2 ^ 32 - 1) (s.get (F.EVF_SPAN_DROP p) + k) := by
  have hkeep : (portShut p s).get (F.EVF_SPAN_DROP p) = s.get (F.EVF_SPAN_DROP p) := by
    refine (portShut_writes p s).get ?_
    simp only [F.EVF_SPAN_DROP, F.EVF_SPAN_STAT_UP, List.mem_singleton]
    omega
  rw [spanDropped_foldl_count hp _ ((portShut_writes p s).wf hs), hkeep, List.length_range]

theorem exec_spanPortDown_of_up (hon : s.fabOn = true) (hp : p < 2) (hup : spanUp s p = true) :
    exec (.spanPortDown p) s = .next ((spanFall p s).bench .spanDown p) := by
  rw [exec_spanPortDown, execSpanPortDown, if_pos (by simp [hon, hp, hup])]

/-- What the fall of a span port leaves: the port down and empty, its items counted, and Bench told. -/
theorem spanFall_effect (hs : s.regsWf) (hp : p < 2) (hspan : p < s.fab.span.length) :
    spanUp (spanFall p s) p = false ∧ (spanFall p s).sp p = ⟨0, []⟩ ∧ (spanFall p s).out = s.out ∧
      (spanFall p s).get (F.EVF_SPAN_DROP p) = min (2 ^ 32 - 1) (s.get (F.EVF_SPAN_DROP p) + (s.sp p).tx.length) := by
  have honly := spanEmptied_regsOnly p (s.sp p).tx.length s
  rw [spanFall_eq]
  refine ⟨spanEmptied_up hs hp _, State.sp_setSp_same ?_ _, ?_, spanEmptied_count hs hp _⟩
  · rwa [honly, State.setRegs_fab]
  · rw [State.setSp_out, honly, State.setRegs_out]

end PortDown

/-! ### The stall monitor (R312) -/

/-- A stall is reported to Bench while the monitor is on, and the first one is recorded. -/
theorem exec_fabricStallDetect_of_limit {s : State} (hon : s.fabOn = true) (hlim : s.get F.EVF_CTL_STALL_LIM ≠ 0) (n p v : Nat) :
    exec (.fabricStallDetect n p v) s = .next ((if s.flag F.EVF_STALL_VALID then s
      else (((s.set F.EVF_STALL_NODE n).set F.EVF_STALL_PORT p).set F.EVF_STALL_VC v).raise F.EVF_STALL_VALID).bench .stall n) := by
  rw [exec_fabricStallDetect, execFabricStallDetect, if_pos (by simp [hon, hlim])]

/-! ### The statement -/

/-- Settles O27: each send by what the interface takes and by what the list's words ask for, each row of an edge node or of a span port
by its equation and what its operation leaves. That an EB flit at an SP node crosses the span, and that the receiving SP node counts it
toward EB_EXPECT, is the model's reading (log entry 22). -/
theorem fabricSends : Obligations.FabricSends := by
  unfold Obligations.FabricSends
  refine ⟨⟨?_, ?_, ?_, ?_, ?_⟩, ?_, ?_, ?_, ?_, ?_, ?_, ?_, ?_, ?_, ?_, ?_⟩
  · exact fun s n p ps hon htile hcredit hq ho =>
      (exec_fanoutSend_of_credit hon htile hcredit).trans (congrArg _ (takeSend_of_program hq ho))
  · exact fun s n p ps hon htile hcredit hq ho =>
      (exec_fanoutSend_of_credit hon htile hcredit).trans (congrArg _ (takeSend_of_engine hq ho))
  · intro s n l idx e hact
    refine ⟨fanSend_of_no_list hact, fun d w hl hd hcount hsize hw => ?_⟩
    rw [fanSend_of_single hact hl hd hcount hsize hw]
    exact ⟨fun h => fanCopy_of_high_target h e, fun h hremote => fanCopy_of_local h hremote e,
      fun h hremote hown hring => fanCopy_of_remote h hremote hown hring e⟩
  · intro s n i
    cases hact : s.flag F.EVF_CTL_ACTIVE with
    | true => exact .inr rfl
    | false => exact .inl (fanWord_of_first_copy hact i)
  · exact fun s src e => ⟨injectEvw_of_drop, fun p hsrc h => injectEvw_of_tile hsrc h⟩
  · exact fun s e d r ep l hon he h => (exec_ebFlitRxEdge_of_head hon (by omega) h).trans (congrArg _ (edgeEb_of_node he))
  · intro s p d r ep l hon hp h
    have hnode : 0xF0E + p = 0xF00 + (14 + p) := by omega
    rw [hnode] at h ⊢
    rw [exec_ebFlitRxEdge_of_head hon (by omega) h, ← hnode, edgeEb_of_span]
  · exact fun s p c ep hon hp hc h0 hle => exec_spEbEmit_of_complete hon hp hc h0 hle
  · exact fun s p c ep hc hlt => exec_spEbEmit_of_few hc hlt
  · exact fun s hon => (exec_routeArm .bench s).trans (congrArg _ (State.guardWrite_firmware hon (by decide) rfl _ _))
  · intro s p hs hon hp hspan hen0 hen1 hdown
    have hen : s.flag (if p = 0 then F.EVF_SPAN_CFG_EN0 else F.EVF_SPAN_CFG_EN1) = true := by
      split_ifs
      · exact hen0
      · exact hen1
    exact ⟨exec_spanPortUp_of_peer hs.regs hon hp hen hdown (by omega),
      fun peer ring h => exec_spanPortUp_of_stranger hs.regs hon hp hen hdown h⟩
  · exact fun s p cr fl hon hp hup => exec_spanGroupRx_of_bad_crc hon hp hup cr fl
  · intro s p cr _ hon hp hspan hup htx
    exact ⟨_, exec_spanGroupRx_of_credits hon hp (by omega) hup htx cr, creditsTaken_sp (by omega) htx cr,
      by rw [creditsTaken, State.setSp_bufs, State.incBy_fab], by rw [creditsTaken, State.setSp_out, State.incBy_out]⟩
  · intro s p hs hon hp hspan hup
    obtain ⟨hdown, hempty, hout, hcount⟩ := spanFall_effect hs.regs hp (by omega)
    exact ⟨_, exec_spanPortDown_of_up hon hp hup, hdown, hempty, congrArg _ hout, hcount⟩
  · intro s n p v hon hlim hvalid
    rw [exec_fabricStallDetect_of_limit hon hlim, hvalid, if_neg Bool.false_ne_true]
  · intro s n p v hon hlim hvalid
    rw [exec_fabricStallDetect_of_limit hon hlim, hvalid, if_pos rfl]

end Sys2Proof.Machine

/-!
PROOF. The tile sequencer (09): tiles after an update, an instruction that issues, and what a retirement leaves; `TileRetirement`.
-/

namespace Sys2Proof.Machine

/-! ### A tile after an update -/

theorem State.tile_eq_of_tiles {s t : State} (h : t.tiles = s.tiles) (n : Nat) : t.tile n = s.tile n := by
  rw [State.tile, h, State.tile]

theorem State.seq_eq_of_tiles {s t : State} (h : t.tiles = s.tiles) (n : Nat) : t.seq n = s.seq n :=
  congrArg Tile.seq (State.tile_eq_of_tiles h n)

@[simp] theorem State.set_tile (s : State) (f : Fld) (v n : Nat) : (s.set f v).tile n = s.tile n := (rfl)
@[simp] theorem State.set_seq (s : State) (f : Fld) (v n : Nat) : (s.set f v).seq n = s.seq n := (rfl)
@[simp] theorem State.incWrap_tile (s : State) (f : Fld) (m n : Nat) : (s.incWrap f m).tile n = s.tile n := (rfl)
@[simp] theorem State.incWrap_seq (s : State) (f : Fld) (m n : Nat) : (s.incWrap f m).seq n = s.seq n := (rfl)

theorem State.setSeq_seq_self (s : State) (n : Nat) : s.setSeq n (s.seq n) = s := by
  have hset : s.tiles.set n (s.tile n) = s.tiles := by
    by_cases hn : n < s.tiles.length
    · rw [State.tile, List.getD_eq_getElem _ _ hn, List.set_getElem_self]
    · exact List.set_eq_of_length_le (Nat.le_of_not_lt hn)
  exact congrArg s.setTiles hset

theorem State.setSeq_setSeq (s : State) (n : Nat) (q r : Seq) : (s.setSeq n q).setSeq n r = s.setSeq n r := by
  by_cases hn : n < s.tiles.length
  · have htile := s.tile_setTile_same n { s.tile n with seq := q } hn
    rw [State.setSeq, State.setSeq, htile, State.setSeq]
    exact congrArg s.setTiles (List.set_set ..)
  · have hset (t : Tile) : s.tiles.set n t = s.tiles := List.set_eq_of_length_le (Nat.le_of_not_lt hn)
    have hsame : s.setSeq n q = s := congrArg s.setTiles (hset _)
    rw [hsame]

/-! ### An instruction that issues (R316, R326, R345) -/

section Issued

variable {s : State} {n : Nat} {gd : Guard} {regs reads dests : List Nat} {un : Seq → Seq} {body : State → Act}

theorem issues_iff : issues s n gd regs = true ↔ tileRuns s n = true ∧ (s.tile n).ipoison.contains ((s.seq n).pc / 8) = false ∧
    breakAt s n = false ∧ (s.seq n).stalls (pCode gd.p :: regs) = false := by
  simp only [issues, Bool.and_eq_true, Bool.not_eq_true', and_assoc]

theorem instr_of_illegal (w : Word) (h : issues s n gd regs = true) : instr n gd reads dests (some w) un body s = raiseExc n 3 w dests s := by
  obtain ⟨hrun, hpoison, hbreak, -⟩ := issues_iff.1 h
  simp only [instr, hrun, hpoison, hbreak, Bool.not_true, Bool.false_eq_true, if_false]

theorem instr_of_issues (h : issues s n gd (reads ++ dests) = true) : instr n gd reads dests none un body s =
    if (s.seq n).holds gd = true then
      match body s with
      | .done t => retire n t
      | .exc t c e => raiseExc n c e dests t
      | .stall => s
      | .placed t => t
    else retire n (s.setSeq n (un (s.seq n))) := by
  obtain ⟨hrun, hpoison, hbreak, hstall⟩ := issues_iff.1 h
  simp only [instr, hrun, hpoison, hbreak, List.cons_append, hstall, Bool.not_true, Bool.false_eq_true, if_false]
  cases (s.seq n).holds gd <;> rfl

theorem instr_of_guard_false (h : issues s n gd (reads ++ dests) = true) (hg : (s.seq n).holds gd = false) :
    instr n gd reads dests none un body s = retire n (s.setSeq n (un (s.seq n))) := by
  rw [instr_of_issues h, if_neg (by simp [hg])]

variable {t : State}

theorem instr_of_done (h : issues s n gd (reads ++ dests) = true) (hg : (s.seq n).holds gd = true) (hb : body s = .done t) :
    instr n gd reads dests none un body s = retire n t := by
  rw [instr_of_issues h, if_pos hg, hb]

theorem instr_of_exc {c : Nat} {e : Word} (h : issues s n gd (reads ++ dests) = true) (hg : (s.seq n).holds gd = true)
    (hb : body s = .exc t c e) : instr n gd reads dests none un body s = raiseExc n c e dests t := by
  rw [instr_of_issues h, if_pos hg, hb]

theorem instr_of_stall (h : issues s n gd (reads ++ dests) = true) (hg : (s.seq n).holds gd = true) (hb : body s = .stall) :
    instr n gd reads dests none un body s = s := by
  rw [instr_of_issues h, if_pos hg, hb]

theorem instr_of_placed (h : issues s n gd (reads ++ dests) = true) (hg : (s.seq n).holds gd = true) (hb : body s = .placed t) :
    instr n gd reads dests none un body s = t := by
  rw [instr_of_issues h, if_pos hg, hb]

/-- A body that leaves the sequencer `q` gives `q` under a guard that holds, and nothing under one that does not (R316). -/
theorem instr_gives {q : Seq} (h : issues s n gd (reads ++ dests) = true) (hb : body s = .done (s.setSeq n q)) :
    instr n gd reads dests none id body s = retire n (s.setSeq n (if (s.seq n).holds gd then q else s.seq n)) := by
  cases hg : (s.seq n).holds gd
  · exact instr_of_guard_false h hg
  · exact instr_of_done h hg hb

end Issued

/-! ### The loop end (R334) -/

section LoopEnd

variable {q : Seq} {k : Nat}

/-- Level `j` does not end at the pc. -/
abbrev Seq.passes (q : Seq) (j : Nat) : Prop := q.lc.getD j 0 = 0 ∨ q.le.getD j 0 ≠ q.pc

theorem Seq.atLoopEnd_eq_false_iff : q.atLoopEnd q.pc = false ↔ ∀ j < 3, q.passes j := by
  simp [Seq.atLoopEnd, Seq.passes, ← or_iff_not_imp_left]

theorem loopEnd_of_passes {j : Nat} (h : q.passes j) (fuel : Nat) : loopEnd q (fuel + 1) j = loopEnd q fuel (j + 1) := by
  rw [loopEnd, if_neg fun hend => h.elim hend.1 fun hne => hne hend.2]

theorem loopEnd_of_all_pass (fuel j : Nat) (h : ∀ i, j ≤ i → i < j + fuel → q.passes i) :
    loopEnd q fuel j = (q, (q.pc + 4) % 0x4000) := by
  induction fuel generalizing j with
  | zero => rfl
  | succ fuel ih => rw [loopEnd_of_passes (h j (by omega) (by omega)), ih (j + 1) fun i hi hlt => h i (by omega) (by omega)]

/-- The levels below `k` pass, so that the search comes to level `k`. -/
theorem loopEnd_of_passes_below (d : Nat) (hd : d ≤ 3) (h : ∀ j < d, q.passes j) : loopEnd q 3 0 = loopEnd q (3 - d) d := by
  induction d with
  | zero => rfl
  | succ d ih =>
    obtain ⟨f, hf⟩ : ∃ f, 3 - d = f + 1 := ⟨3 - (d + 1), by omega⟩
    rw [ih (by omega) fun j hj => h j (by omega), hf, loopEnd_of_passes (h d (by omega)), show 3 - (d + 1) = f by omega]

variable (hk : k < 3) (hle : q.le.getD k 0 = q.pc)
include hk hle

theorem loopEnd_of_more (hbelow : ∀ j < k, q.passes j) (hlc : 1 < q.lc.getD k 0) :
    loopEnd q 3 0 = ({ q with lc := q.lc.set k (q.lc.getD k 0 - 1) }, q.la.getD k 0) := by
  obtain ⟨f, hf⟩ : ∃ f, 3 - k = f + 1 := ⟨2 - k, by omega⟩
  rw [loopEnd_of_passes_below k (by omega) hbelow, hf, loopEnd, if_pos ⟨by omega, hle⟩, if_pos hlc]

theorem loopEnd_of_last (hrest : ∀ j < 3, j ≠ k → q.passes j) (hlc : q.lc.getD k 0 = 1) :
    loopEnd q 3 0 = ({ q with lc := q.lc.set k 0 }, (q.pc + 4) % 0x4000) := by
  obtain ⟨f, hf⟩ : ∃ f, 3 - k = f + 1 := ⟨2 - k, by omega⟩
  rw [loopEnd_of_passes_below k (by omega) fun j hj => hrest j (by omega) (by omega), hf, loopEnd, if_pos ⟨by omega, hle⟩,
    if_neg (by omega)]
  refine loopEnd_of_all_pass (q := { q with lc := q.lc.set k 0 }) f (k + 1) fun i hi hlt => ?_
  rw [Seq.passes, getD_set_ne _ _ _ _ _ (by omega : k ≠ i)]
  exact hrest i (by omega) (by omega)

end LoopEnd

/-! ### Where execution goes on (R331, R334, R337) -/

section Advance

variable {q : Seq} {k : Nat}

theorem Seq.advance_of_taken {target branch : Nat} {reads : List Nat} (h : q.delay = some ⟨some target, branch, reads⟩) :
    q.advance = { q with pc := target, delay := none, loopbr := q.loopbr || (!q.exl && q.atLoopEnd q.pc) } := by
  rw [Seq.advance, h]

section InOrder

variable (h : ∀ d ∈ q.delay, d.target = none)
include h

theorem Seq.advance_of_exl (hexl : q.exl = true) : q.advance = { q with pc := (q.pc + 4) % 0x4000, delay := none } := by
  rw [Seq.advance]
  split
  · next hd => exact absurd (h _ hd) nofun
  · rw [if_pos hexl]

theorem Seq.advance_of_no_branch (hexl : q.exl = false) :
    q.advance = { (loopEnd q 3 0).1 with pc := (loopEnd q 3 0).2, delay := none } := by
  rw [Seq.advance]
  split
  · next hd => exact absurd (h _ hd) nofun
  · rw [if_neg (by simp [hexl])]

theorem Seq.advance_of_next (hexl : q.exl = true ∨ q.atLoopEnd q.pc = false) :
    q.advance = { q with pc := (q.pc + 4) % 0x4000, delay := none } := by
  cases he : q.exl
  · have hpass := Seq.atLoopEnd_eq_false_iff.1 (hexl.resolve_left (by simp [he]))
    rw [Seq.advance_of_no_branch h he, loopEnd_of_all_pass 3 0 fun i _ hi => hpass i (by omega)]
  · exact Seq.advance_of_exl h he

end InOrder

/-- The search for a loop end changes loop counts alone. -/
theorem loopEnd_frame (q : Seq) (fuel k : Nat) : ∃ l next, loopEnd q fuel k = ({ q with lc := l }, next) := by
  induction fuel generalizing q k with
  | zero => exact ⟨_, _, rfl⟩
  | succ fuel ih =>
    rw [loopEnd]
    split
    · split
      · exact ⟨_, _, rfl⟩
      · exact ih { q with lc := q.lc.set k 0 } (k + 1)
    · exact ih q (k + 1)

theorem Seq.advance_frame (q : Seq) :
    q.advance = { q with pc := q.advance.pc, lc := q.advance.lc, delay := none, loopbr := q.advance.loopbr } := by
  rw [Seq.advance]
  split
  · rfl
  · split
    · rfl
    · obtain ⟨l, next, h⟩ := loopEnd_frame q 3 0
      rw [h]

end Advance

/-! ### The shadow of MODE (R339) -/

section Shadow

variable {q : Seq}

theorem Seq.shadow_frame (q : Seq) : q.shadow = { q with mode := q.shadow.mode, pending := q.shadow.pending } := by
  rw [Seq.shadow]
  split
  · split <;> rfl
  · rfl

theorem Seq.shadow_of_none (h : q.pending = none) : q.shadow = q := by
  rw [Seq.shadow, h]

theorem Seq.shadow_of_some {v k : Nat} (h : q.pending = some (v, k)) :
    q.shadow = if k ≤ 1 then { q with mode := v, pending := none } else { q with pending := some (v, k - 1) } := by
  rw [Seq.shadow, h]

end Shadow

/-! ### A retirement -/

theorem State.Ok.tile_lt {s : State} (hs : s.Ok) {n : Nat} (hn : n < 192) : n < s.tiles.length := hs.tiles ▸ hn

theorem seqReg_apart {a b : Nat} (h : a ≠ b) (n : Nat) : a + n * 0x10000 ≠ b + n * 0x10000 := by omega

section Retire

variable {s : State} {n : Nat}

theorem retire_seq (hn : n < s.tiles.length) : (retire n s).seq n = (s.seq n).advance.shadow := by
  rw [retire, countRetired, State.incWrap_seq, State.seq_setSeq_same _ _ _ hn]

theorem retire_tile_ne {m : Nat} (hm : m ≠ n) : (retire n s).tile m = s.tile m := by
  rw [retire, countRetired, State.incWrap_tile, State.setSeq, State.tile_setTile_ne _ _ _ _ hm.symm]

theorem retire_reg_ne (s : State) {k : Nat} (hk : k ≠ (F.TILE_SEQ_RETIRED n).off) : (retire n s).reg k = s.reg k :=
  State.reg_set_of_off_ne (s.setSeq n _) _ _ hk

theorem retire_retired (hs : s.regsWf) :
    (retire n s).get (F.TILE_SEQ_RETIRED n) = (s.get (F.TILE_SEQ_RETIRED n) + 1) % 2 ^ 32 :=
  get_incWrap_word (s := s.setSeq n _) hs _ 1

theorem retire_regsWf (hs : s.regsWf) : (retire n s).regsWf := by
  rw [retire, countRetired]
  exact State.incWrap_regsWf (s := s.setSeq n _) hs _ _

theorem retire_frame (s : State) (hn : n < s.tiles.length) : retire n s =
    { s with regs := (retire n s).regs, tiles := s.tiles.set n { s.tile n with seq := (retire n s).seq n } } := by
  rw [retire_seq hn]
  rfl

end Retire

/-- Settles O28: the sequencer after a retirement is `advance` followed by `shadow`; `shadow` touches MODE alone, and `advance` is told by
the delay slot and by the loop levels that end at the pc. -/
theorem tileRetirement : Obligations.TileRetirement := by
  intro s n hs hn q t q'
  have hlt := hs.tile_lt hn
  have hq' : q' = q.advance.shadow := retire_seq hlt
  have hshadow : q' = { q.advance with mode := q'.mode, pending := q'.pending } := hq' ▸ Seq.shadow_frame _
  have hpc : q'.pc = q.advance.pc := by rw [hshadow]
  have hlc : q'.lc = q.advance.lc := by rw [hshadow]
  have hbr : q'.loopbr = q.advance.loopbr := by rw [hshadow]
  have hmode : q.advance.mode = q.mode := by rw [Seq.advance_frame]
  have hpend : q.advance.pending = q.pending := by rw [Seq.advance_frame]
  refine ⟨retire_retired hs.regs, fun k hk => retire_reg_ne s hk, retire_frame s hlt, ?_, fun target branch reads hd => ?_,
    fun hd hend => ?_, fun hd hexl k hk hbelow hle hcount => ?_, fun hd hexl k hk hrest hle hcount => ?_, fun hnone => ?_,
    fun v k hsome => ?_⟩
  · rw [hpc, hlc, hbr]
    exact hshadow.trans (by rw [Seq.advance_frame q])
  · rw [hpc, hlc, hbr, Seq.advance_of_taken hd]
    exact ⟨rfl, rfl, rfl⟩
  · rw [hpc, hlc, hbr, Seq.advance_of_next hd hend]
    exact ⟨rfl, rfl, rfl⟩
  · rw [hpc, hlc, Seq.advance_of_no_branch (by simp [hd]) hexl, loopEnd_of_more hk hle hbelow hcount]
    exact ⟨rfl, rfl⟩
  · rw [hpc, hlc, Seq.advance_of_no_branch (by simp [hd]) hexl, loopEnd_of_last hk hle hrest hcount]
    exact ⟨rfl, rfl⟩
  · rw [hq', Seq.shadow_of_none (hpend.trans hnone)]
    exact ⟨hmode, hpend.trans hnone⟩
  · rw [hq', Seq.shadow_of_some (hpend.trans hsome)]
    split
    · exact ⟨rfl, rfl⟩
    · exact ⟨hmode, rfl⟩

end Sys2Proof.Machine

/-!
PROOF. Exceptions of a tile (09): the status word of an entry, an entry, a halt, interrupts and ERET; `ExceptionsTaken`.
-/

namespace Sys2Proof.Machine

theorem exec_trap (n : Nat) (gd : Guard) (code : BitVec 16) (s : State) : exec (.trap n gd code) s = execTrap n gd code s := rfl
theorem exec_illegalInstruction (n : Nat) (w : Word) (s : State) :
    exec (.illegalInstruction n w) s = execIllegalInstruction n w s := rfl
theorem exec_interruptEntry (n : Nat) (dests : List Nat) (s : State) :
    exec (.interruptEntry n dests) s = execInterruptEntry n dests s := rfl
theorem exec_eret (n : Nat) (gd : Guard) (s : State) : exec (.eret n gd) s = execEret n gd s := rfl

/-! ### Instructions that a delay slot may not hold (R390) -/

theorem slotIllegal_of_none {s : State} {n : Nat} (h : (s.seq n).delay = none) (w : Word) : slotIllegal s n w = none := by
  rw [slotIllegal, h]
  rfl

theorem slotIllegal_of_slot {s : State} {n : Nat} (h : (s.seq n).delay.isSome = true) (w : Word) : slotIllegal s n w = some w := by
  rw [slotIllegal, if_pos h]

/-! ### A sequencer that halts (R371) -/

section Halt

variable {s : State} {n r v : Nat}

theorem setPlanState_tiles (v : Nat) (s : State) : (setPlanState v s).tiles = s.tiles := by
  unfold setPlanState
  split <;> rfl

theorem setPlanState_get_of_off_ne {f : Fld} (h : f.off ≠ F.GLB_PLAN_STAT_STATE.off) : (setPlanState v s).get f = s.get f := by
  unfold setPlanState
  split
  · rfl
  · exact State.get_set_of_off_ne s _ f v h

theorem tileHalt_tiles (n r : Nat) (s : State) : (tileHalt n r s).tiles = s.tiles := by
  unfold tileHalt
  dsimp only
  split
  · rw [setPlanState_tiles, State.set_tiles, State.clear_tiles]
  · rw [State.set_tiles, State.clear_tiles]

theorem tileHalt_get_of_off_ne {f : Fld} (h : f.off ≠ F.GLB_PLAN_STAT_STATE.off) :
    (tileHalt n r s).get f = ((s.clear (F.TILE_SEQ_STAT_STATE n)).set (F.TILE_SEQ_STAT_HALT_REASON n) r).get f := by
  unfold tileHalt
  dsimp only
  split
  · exact setPlanState_get_of_off_ne h
  · rfl

theorem seqState_ok (n : Nat) : (F.TILE_SEQ_STAT_STATE n).ok := fld_ok _ (by decide)
theorem haltReason_ok (n : Nat) : (F.TILE_SEQ_STAT_HALT_REASON n).ok := fld_ok _ (by decide)

/-- The plan's state lies below the windows of the tiles. -/
theorem planState_off_ne {a n : Nat} (h : 0x2000000 ≤ a) : a + n * 0x10000 ≠ F.GLB_PLAN_STAT_STATE.off := by
  have hlow : F.GLB_PLAN_STAT_STATE.off < 0x2000000 := by decide
  omega

theorem tileHalt_state (hs : s.regsWf) : (tileHalt n r s).get (F.TILE_SEQ_STAT_STATE n) = 0 := by
  rw [tileHalt_get_of_off_ne (planState_off_ne (by decide)),
    State.get_set_ne (State.clear_regsWf hs _) _ _ _ (haltReason_ok n) (.inr (.inr (by decide : 1 < 4))),
    State.get_clear_same hs _ (seqState_ok n)]

theorem tileHalt_reason (hs : s.regsWf) (hr : r < 16) : (tileHalt n r s).get (F.TILE_SEQ_STAT_HALT_REASON n) = r := by
  rw [tileHalt_get_of_off_ne (planState_off_ne (by decide)), State.get_set_fits (State.clear_regsWf hs _) _ (haltReason_ok n) hr]

/-- A register of the tile's window other than its status keeps its fields over a halt. -/
theorem tileHalt_get_tile {f : Fld} {a : Nat} (hf : f.off = a + n * 0x10000) (ha : 0x2000000 ≤ a) (hne : a ≠ 0x2000008) :
    (tileHalt n r s).get f = s.get f := by
  have hoff : f.off ≠ 0x2000008 + n * 0x10000 := hf ▸ seqReg_apart hne n
  rw [tileHalt_get_of_off_ne (hf ▸ planState_off_ne ha), State.get_set_of_off_ne _ _ _ _ hoff, State.clear,
    State.get_set_of_off_ne _ _ _ _ hoff]

end Halt

/-! ### The status word (R349, R352 to R354; log entry 56) -/

section Status

variable {q : Seq} {cause : Nat} {dests : List Nat}

/-- ESTAT put together from its fields. -/
def statusWord (cause : Nat) (bd haz ien mp : Bool) (pos : Nat) (lend : Bool) (pend : Nat) : Nat :=
  cause + b2n bd * 2 ^ 5 + b2n haz * 2 ^ 6 + 2 ^ 7 + b2n ien * 2 ^ 8 + b2n mp * 2 ^ 9 + pos % 4 * 2 ^ 10 + b2n lend * 2 ^ 12 +
    pend % 2 ^ 12 * 2 ^ 20

/-- BDHAZ: a destination of the instruction in a delay slot is a register that its branch reads. -/
def Seq.slotHazard (q : Seq) (dests : List Nat) : Bool :=
  match q.delay with
  | some d => dests.any (fun c => isStored c && d.reads.contains c)
  | none => false

theorem Seq.slotHazard_iff : q.slotHazard dests = true ↔ ∃ d ∈ q.delay, ∃ c ∈ dests, isStored c = true ∧ c ∈ d.reads := by
  rw [Seq.slotHazard]
  split <;> simp [*]

theorem entryStatus_of_none (h : q.pending = none) : entryStatus q cause dests = statusWord cause q.delay.isSome (q.slotHazard dests)
    q.ien false 0 (decide (cause < 0x10) && q.atLoopEnd q.pc) 0 := by
  rw [entryStatus, h]
  rfl

theorem entryStatus_of_some {v k : Nat} (h : q.pending = some (v, k)) : entryStatus q cause dests =
    statusWord cause q.delay.isSome (q.slotHazard dests) q.ien true (if q.delay.isSome then k + 1 else k)
      (decide (cause < 0x10) && q.atLoopEnd q.pc) v := by
  rw [entryStatus, h]
  rfl

theorem b2n_le_one (b : Bool) : b2n b ≤ 1 := by cases b <;> decide

theorem b2n_eq_one_iff {b : Bool} : b2n b = 1 ↔ b = true := by cases b <;> decide

theorem b2n_bitOf (x i : Nat) : b2n (bitOf x i) = x / 2 ^ i % 2 := by
  rcases Nat.mod_two_eq_zero_or_one (x / 2 ^ i) with h | h <;> rw [bitOf, h] <;> rfl

/-- Every field of the status word reads back, and the word fits its register. -/
theorem statusWord_fields {c : Nat} (hc : c < 32) (bd haz ien mp : Bool) (pos : Nat) (lend : Bool) (pend : Nat) :
    let e := statusWord c bd haz ien mp pos lend pend
    e < 2 ^ 32 ∧ e % 32 = c ∧ e / 2 ^ 5 % 2 = b2n bd ∧ e / 2 ^ 6 % 2 = b2n haz ∧ e / 2 ^ 7 % 2 = 1 ∧ e / 2 ^ 8 % 2 = b2n ien ∧
      e / 2 ^ 9 % 2 = b2n mp ∧ e / 2 ^ 10 % 4 = pos % 4 ∧ e / 2 ^ 12 % 2 = b2n lend ∧ e / 2 ^ 20 = pend % 2 ^ 12 := by
  have h1 := b2n_le_one bd; have h2 := b2n_le_one haz; have h3 := b2n_le_one ien
  have h4 := b2n_le_one mp; have h5 := b2n_le_one lend
  have h6 := Nat.mod_lt pos (by decide : 0 < 4); have h7 := Nat.mod_lt pend (by decide : 0 < 2 ^ 12)
  simp only [statusWord]
  generalize b2n bd = x1 at *; generalize b2n haz = x2 at *; generalize b2n ien = x3 at *; generalize b2n mp = x4 at *
  generalize b2n lend = x5 at *; generalize pos % 4 = x6 at *; generalize pend % 2 ^ 12 = x7 at *
  omega

/-- What the status word of an entry shows. -/
theorem entryStatus_fields (hc : cause < 32) (q : Seq) (dests : List Nat) :
    let e := entryStatus q cause dests
    e < 2 ^ 32 ∧ e % 32 = cause ∧ (e / 2 ^ 5 % 2 = 1 ↔ q.delay.isSome = true) ∧ (e / 2 ^ 6 % 2 = 1 ↔ q.slotHazard dests = true) ∧
      e / 2 ^ 7 % 2 = 1 ∧ (e / 2 ^ 8 % 2 = 1 ↔ q.ien = true) ∧ (e / 2 ^ 9 % 2 = 1 ↔ q.pending.isSome = true) ∧
      (e / 2 ^ 12 % 2 = 1 ↔ cause < 16 ∧ q.atLoopEnd q.pc = true) ∧
      (∀ v k, q.pending = some (v, k) → k ≤ 2 → e / 2 ^ 20 = v % 2 ^ 12 ∧ (q.delay = none → e / 2 ^ 10 % 4 = k)) := by
  intro e
  have hlend : (decide (cause < 16) && q.atLoopEnd q.pc) = true ↔ cause < 16 ∧ q.atLoopEnd q.pc = true := by simp
  cases hp : q.pending with
  | none =>
    obtain ⟨hlt, hcause, hbd, hhaz, hexl, hien, hmp, -, hle, -⟩ := statusWord_fields hc q.delay.isSome (q.slotHazard dests) q.ien false 0
      (decide (cause < 0x10) && q.atLoopEnd q.pc) 0
    rw [← entryStatus_of_none hp] at hlt hcause hbd hhaz hexl hien hmp hle
    exact ⟨hlt, hcause, hbd ▸ b2n_eq_one_iff, hhaz ▸ b2n_eq_one_iff, hexl, hien ▸ b2n_eq_one_iff, hmp ▸ b2n_eq_one_iff,
      (hle ▸ b2n_eq_one_iff).trans hlend, nofun⟩
  | some w =>
    obtain ⟨hlt, hcause, hbd, hhaz, hexl, hien, hmp, hpos, hle, hpend⟩ := statusWord_fields hc q.delay.isSome (q.slotHazard dests) q.ien
      true (if q.delay.isSome then w.2 + 1 else w.2) (decide (cause < 0x10) && q.atLoopEnd q.pc) w.1
    rw [← entryStatus_of_some hp] at hlt hcause hbd hhaz hexl hien hmp hpos hle hpend
    refine ⟨hlt, hcause, hbd ▸ b2n_eq_one_iff, hhaz ▸ b2n_eq_one_iff, hexl, hien ▸ b2n_eq_one_iff, hmp ▸ b2n_eq_one_iff,
      (hle ▸ b2n_eq_one_iff).trans hlend, fun v k hvk hk => ?_⟩
    obtain rfl : w = (v, k) := Option.some.inj hvk
    refine ⟨hpend, fun hd => ?_⟩
    rw [hpos, hd, if_neg (by decide)]
    exact Nat.mod_eq_of_lt (by omega)

end Status

/-! ### Entry to the handler (R349) -/

section Entry

variable {s : State} {n cause : Nat} {dests : List Nat}

/-- The sequencer that an entry leaves. -/
def Seq.entered (q : Seq) (cause : Nat) (dests : List Nat) : Seq :=
  { q with epc := BitVec.ofNat 32 (q.delay.elim q.pc Delay.branch), estat := BitVec.ofNat 32 (entryStatus q cause dests),
           mode := q.mode % 16, pc := 0x40, delay := none, pending := none }

theorem enter_eq (n cause : Nat) (dests : List Nat) (s : State) :
    enter n cause dests s = (s.setSeq n ((s.seq n).entered cause dests)).incWrap (F.TILE_SEQ_EXC n) 1 := by
  rw [enter, Seq.entered]
  cases (s.seq n).delay <;> rfl

theorem raiseExc_of_handler (hc : cause ≠ 1) (ebad : Word) (hexl : (s.seq n).exl = true) :
    raiseExc n cause ebad dests s = tileHaltNotify n 2 s := by
  rw [raiseExc, if_neg hc]
  exact if_pos hexl

theorem raiseExc_of_entry (hc : cause ≠ 1) (ebad : Word) (hexl : (s.seq n).exl = false) (hn : n < s.tiles.length) :
    raiseExc n cause ebad dests s =
      (s.setSeq n (Seq.entered { s.seq n with ebad := ebad } cause dests)).incWrap (F.TILE_SEQ_EXC n) 1 := by
  rw [raiseExc, if_neg hc]
  dsimp only
  rw [if_neg (by simp [hexl]), enter_eq, State.seq_setSeq_same _ _ _ hn, State.setSeq_setSeq]

end Entry

/-! ### Interrupts (R347, R348) -/

section Interrupts

variable {s : State} {n i : Nat} {dests : List Nat}

theorem tileWaits_of_runs (h : tileRuns s n = true) : tileWaits s n = false := by
  simp only [tileRuns, Bool.and_eq_true, beq_iff_eq] at h
  simp [tileWaits, h.2]

theorem interruptEntry_of_runs (h : tileRuns s n = true) : interruptEntry n dests s = (enabledIrq s n).elim s
    (fun i => if (s.seq n).ien && !(s.seq n).exl then enter n (0x10 + i) dests s else s) := by
  have hwake : wakeWfe n s = s := by simp [wakeWfe, tileWaits_of_runs h]
  simp only [interruptEntry, hwake, h, Bool.not_true, Bool.false_eq_true, if_false]
  cases enabledIrq s n <;> rfl

theorem enabledIrq_eq_some_iff : enabledIrq s n = some i ↔ i < 5 ∧ bitOf (ipend s n) i = true ∧ bitOf (s.seq n).imask i = true ∧
    ∀ j < i, bitOf (ipend s n) j = false ∨ bitOf (s.seq n).imask j = false := by
  rw [enabledIrq, List.find?_range_eq_some]
  simp [and_assoc, and_left_comm, imp_iff_not_or]

end Interrupts

/-! ### ERET (R350, R353) -/

section Eret

variable {q : Seq}

/-- The sequencer after ERET outside a delay slot. -/
theorem Seq.eret_of_no_slot (h : q.delay = none) : let u := q.shadow; let e := q.estat.toNat
    q.eret = { u with
      estat := q.estat &&& 0xFFFFFF7F, pc := q.epc.toNat % 0x4000 - q.epc.toNat % 4,
      mode := if e / 2 ^ 9 % 2 = 1 ∧ e / 2 ^ 10 % 4 = 0 then e / 2 ^ 20 else u.mode % 16 + 16 * (e / 2 ^ 8 % 2),
      pending := if e / 2 ^ 9 % 2 = 1 ∧ e / 2 ^ 10 % 4 ≠ 0 then some (e / 2 ^ 20, e / 2 ^ 10 % 4)
        else if e / 2 ^ 9 % 2 = 1 then none else u.pending } := by
  have hdelay : q.shadow.delay = none := by rw [Seq.shadow_frame]; exact h
  have hpc : q.epc.toNat % 0x4000 / 4 * 4 = q.epc.toNat % 0x4000 - q.epc.toNat % 4 := by omega
  have hpend : bitsOf q.estat.toNat 31 20 = q.estat.toNat / 2 ^ 20 := Nat.mod_eq_of_lt (Nat.div_lt_of_lt_mul q.estat.isLt)
  have hien : b2n (bitOf q.estat.toNat 8) * 16 = 16 * (q.estat.toNat / 2 ^ 8 % 2) := by
    rw [b2n_bitOf, Nat.mul_comm]
  have hpos : bitsOf q.estat.toNat 11 10 = q.estat.toNat / 2 ^ 10 % 4 := rfl
  have hmp : bitOf q.estat.toNat 9 = decide (q.estat.toNat / 2 ^ 9 % 2 = 1) := rfl
  intro u e
  rw [Seq.eret]
  simp only [hpc, hpend, hien, hpos, hmp]
  by_cases hsaved : q.estat.toNat / 2 ^ 9 % 2 = 1
  · by_cases hshadow : q.estat.toNat / 2 ^ 10 % 4 = 0
    · simp only [e, u, hsaved, hshadow, hdelay, decide_true, Bool.not_true, Bool.false_eq_true, if_false, if_true, and_self, ne_eq,
        not_true_eq_false, and_false]
    · simp only [e, u, hsaved, hshadow, hdelay, decide_true, Bool.not_true, Bool.false_eq_true, if_false, if_true, and_self, ne_eq,
        not_false_eq_true, and_false]
  · simp only [e, u, hsaved, hdelay, decide_false, Bool.not_false, if_true, if_false, false_and]

variable {s : State} {n : Nat} {gd : Guard}

theorem exec_eret_of_handler (hexl : (s.seq n).exl = true) (hd : (s.seq n).delay = none) (hi : issues s n gd [] = true)
    (hg : (s.seq n).holds gd = true) : exec (.eret n gd) s = .next (countRetired n (s.setSeq n (s.seq n).eret)) := by
  have hlegal : (if !(s.seq n).exl then some (wordOf gd 0x31 1) else slotIllegal s n (wordOf gd 0x31 1)) = none := by
    rw [hexl, slotIllegal_of_none hd]
    rfl
  rw [exec_eret, execEret]
  exact congrArg _ ((congrArg (instr n gd [] [] · id _ s) hlegal).trans (instr_of_placed (reads := []) hi hg rfl))

theorem exec_eret_illegal (h : (s.seq n).exl = false ∨ (s.seq n).delay.isSome = true) (hi : issues s n gd [] = true) :
    exec (.eret n gd) s = .next (raiseExc n 3 (wordOf gd 0x31 1) [] s) := by
  have hill : (if !(s.seq n).exl then some (wordOf gd 0x31 1) else slotIllegal s n (wordOf gd 0x31 1)) = some (wordOf gd 0x31 1) := by
    rcases h with h | h
    · rw [h]
      rfl
    · rw [slotIllegal_of_slot h, ite_self]
  rw [exec_eret, execEret]
  exact congrArg _ ((congrArg (instr n gd [] [] · id _ s) hill).trans (instr_of_illegal _ hi))

end Eret

section Taken

variable {s : State} {n cause : Nat} {ebad : Word} {dests : List Nat}

/-- An entry outside a handler: what the sequencer, the count of entries and every other part of the state hold afterwards. -/
theorem raiseExc_effect (hs : s.regsWf) (hn : n < s.tiles.length) (hc : cause ≠ 1) (hexl : (s.seq n).exl = false) :
    let t := raiseExc n cause ebad dests s
    t.seq n = Seq.entered { s.seq n with ebad := ebad } cause dests ∧
      t.get (F.TILE_SEQ_EXC n) = (s.get (F.TILE_SEQ_EXC n) + 1) % 2 ^ 32 ∧ (∀ k, k ≠ (F.TILE_SEQ_EXC n).off → t.reg k = s.reg k) ∧
      t = { s with regs := t.regs, tiles := s.tiles.set n { s.tile n with seq := t.seq n } } := by
  intro t
  have ht : t = (s.setSeq n (Seq.entered { s.seq n with ebad := ebad } cause dests)).incWrap (F.TILE_SEQ_EXC n) 1 :=
    raiseExc_of_entry hc ebad hexl hn
  have hseq : t.seq n = Seq.entered { s.seq n with ebad := ebad } cause dests := by
    rw [ht, State.incWrap_seq, State.seq_setSeq_same _ _ _ hn]
  refine ⟨hseq, ?_, fun k hk => ?_, ?_⟩
  · rw [ht]
    exact get_incWrap_word (s := s.setSeq n _) hs _ 1
  · rw [ht]
    exact State.reg_set_of_off_ne (s.setSeq n _) _ _ hk
  · rw [hseq, ht]
    rfl

theorem Seq.entered_estat (hc : cause < 32) (q : Seq) (dests : List Nat) :
    (q.entered cause dests).estat.toNat = entryStatus q cause dests :=
  (BitVec.toNat_ofNat ..).trans (Nat.mod_eq_of_lt (entryStatus_fields hc q dests).1)

theorem raiseExc_double (hs : s.regsWf) (hc : cause ≠ 1) (hexl : (s.seq n).exl = true) :
    let t := raiseExc n cause ebad dests s
    t.seq n = s.seq n ∧ t.get (F.TILE_SEQ_STAT_STATE n) = 0 ∧ t.get (F.TILE_SEQ_STAT_HALT_REASON n) = 2 := by
  intro t
  have ht : t = tileHaltNotify n 2 s := raiseExc_of_handler hc ebad hexl
  rw [ht, tileHaltNotify, State.bench_get, State.bench_get, State.seq_eq_of_tiles (State.bench_tiles _ _ _)]
  exact ⟨State.seq_eq_of_tiles (tileHalt_tiles n 2 s) n, tileHalt_state hs, tileHalt_reason hs (by decide)⟩

theorem trap_raises {gd : Guard} (h : (s.seq n).delay = none) (code : BitVec 16) :
    tileRaises s n gd [] [] (.trap n gd code) 8 (BitVec.ofNat 32 code.toNat) := fun hi hg => by
  rw [exec_trap, execTrap, slotIllegal_of_none h, instr_of_exc (reads := []) hi hg rfl, BitVec.ofNat_toNat]

theorem exec_interruptEntry_of_enabled {i : Nat} (hrun : tileRuns s n = true) (hirq : enabledIrq s n = some i)
    (hien : (s.seq n).ien = true) (hexl : (s.seq n).exl = false) :
    exec (.interruptEntry n dests) s = .next (enter n (16 + i) dests s) := by
  rw [exec_interruptEntry, execInterruptEntry, interruptEntry_of_runs hrun, hirq]
  exact congrArg _ (if_pos (by simp [hien, hexl]))

theorem exec_interruptEntry_of_masked (hrun : tileRuns s n = true) (h : (s.seq n).ien = false ∨ (s.seq n).exl = true) :
    exec (.interruptEntry n dests) s = .next s := by
  have hoff : ((s.seq n).ien && !(s.seq n).exl) = false := by rcases h with h | h <;> simp [h]
  rw [exec_interruptEntry, execInterruptEntry, interruptEntry_of_runs hrun, hoff]
  cases enabledIrq s n <;> rfl

end Taken

/-- Settles O32: the entry by the fields of its status word and a double fault by the halt, TRAP and an undefined word by the common rule of
an instruction, interrupts by the lowest enabled bit, ERET by what the saved status holds (log entry 56). -/
theorem exceptionsTaken : Obligations.ExceptionsTaken := by
  refine ⟨fun s n cause ebad dests hs hn hc hlt => ?_, fun s n gd code hd => trap_raises hd code, fun s n w hi => ?_,
    fun s n i dests => exec_interruptEntry_of_enabled, fun s n dests => exec_interruptEntry_of_masked,
    fun s n i => enabledIrq_eq_some_iff, fun s n gd => ?_⟩
  · intro q t e
    refine ⟨fun hexl => ?_, raiseExc_double hs.regs hc⟩
    obtain ⟨hseq, hcount, hregs, hframe⟩ := raiseExc_effect (dests := dests) hs.regs (hs.tile_lt hn) hc hexl (ebad := ebad)
    obtain ⟨-, hcause, hbd, hhaz, hexl', hien, hmp, hlend, hsh⟩ := entryStatus_fields hlt { q with ebad := ebad } dests
    have he : e = entryStatus { q with ebad := ebad } cause dests :=
      (congrArg (fun x : Seq => x.estat.toNat) hseq).trans (Seq.entered_estat hlt _ dests)
    rw [← he] at hcause hbd hhaz hexl' hien hmp hlend hsh
    have hepc : (t.seq n).epc = BitVec.ofNat 32 (q.delay.elim q.pc Delay.branch) := congrArg Seq.epc hseq
    refine ⟨by rw [hseq]; rfl, fun hd => by rw [hepc, hd]; rfl, fun target b reads hd => by rw [hepc, hd]; rfl, hcause, hbd,
      hhaz.trans Seq.slotHazard_iff, hlend, hexl', hien, hmp, hsh, hcount, hregs, hframe⟩
  · rw [exec_illegalInstruction, execIllegalInstruction, instr_of_illegal w hi]
  · exact ⟨fun hexl hd hi hg => by rw [exec_eret_of_handler hexl hd hi hg, Seq.eret_of_no_slot hd], exec_eret_illegal⟩

end Sys2Proof.Machine

/-!
PROOF. Special registers and system instructions of a tile (09, 10): what MFS reads and MTS writes, WFE, HALT and FENCE;
`SystemInstructions`.
-/

namespace Sys2Proof.Machine

theorem exec_mfs (n : Nat) (gd : Guard) (d r : Nat) (s : State) : exec (.mfs n gd d r) s = execMfs n gd d r s := rfl
theorem exec_mts (n : Nat) (gd : Guard) (a r : Nat) (s : State) : exec (.mts n gd a r) s = execMts n gd a r s := rfl
theorem exec_mode (n : Nat) (gd : Guard) (a : Nat) (reg : Bool) (v : BitVec 5) (s : State) :
    exec (.mode n gd a reg v) s = execMode n gd a reg v s := rfl
theorem exec_syncI (n : Nat) (gd : Guard) (s : State) : exec (.syncI n gd) s = execSyncI n gd s := rfl
theorem exec_wfe (n : Nat) (gd : Guard) (s : State) : exec (.wfe n gd) s = execWfe n gd s := rfl
theorem exec_halt (n : Nat) (gd : Guard) (s : State) : exec (.halt n gd) s = execHalt n gd s := rfl
theorem exec_fence (n : Nat) (gd : Guard) (s : State) : exec (.fence n gd) s = execFence n gd s := rfl

section System

variable {s : State} {n a d r : Nat} {gd : Guard}

/-! ### MFS and MTS (R317, R318, R363, R391) -/

/-- MFS gives the word that the special register shows, in the sequencer that the read leaves. -/
theorem mfs_gives {v : Nat} {q : Seq} (h : readSpecial s n r = (v, q)) :
    tileGives s n gd [d] (.mfs n gd d r) (q.wr d (BitVec.ofNat 32 v)) := fun hi => by
  rw [exec_mfs, execMfs, instr_gives hi (by rw [h])]

/-- SEQ_STAT field by field. -/
theorem seqStat_eq (s : State) (n : Nat) : let q := s.seq n
    seqStat s n = b2n q.imodHit + 2 * b2n q.loopbr + 4 * b2n q.haltPend + 16 * ((q.sb.filter (·.isWait)).length % 16) +
      256 * (q.sb.length % 128) + 65536 * ipend s n := by
  intro q
  simp only [seqStat, q]
  omega

/-- The special registers that show a value as it stands. -/
theorem readSpecial_plain (s : State) (n : Nat) : let q := s.seq n
    ∀ r ∈ ([(0, q.mode), (1, q.mprog.toNat), (2, q.epc.toNat), (3, q.estat.toNat), (4, q.ebad.toNat), (5, q.imask), (6, seqStat s n),
      (7, q.epoch), (16, q.lc.getD 0 0), (17, q.lc.getD 1 0), (18, q.lc.getD 2 0), (20, q.la.getD 0 0), (21, q.la.getD 1 0),
      (22, q.la.getD 2 0), (24, q.le.getD 0 0), (25, q.le.getD 1 0), (26, q.le.getD 2 0)] : List (Nat × Nat)),
      readSpecial s n r.1 = (r.2, q) := by
  intro q
  simp only [List.forall_mem_cons]
  exact ⟨rfl, rfl, rfl, rfl, rfl, rfl, rfl, rfl, rfl, rfl, rfl, rfl, rfl, rfl, rfl, rfl, rfl, List.forall_mem_nil _⟩

theorem readSpecial_reserved (s : State) (n : Nat) :
    ∀ r ∈ [10, 11, 12, 13, 14, 15, 19, 23, 27, 28, 29, 30, 31], readSpecial s n r = (0, s.seq n) := by
  simp only [List.forall_mem_cons]
  exact ⟨rfl, rfl, rfl, rfl, rfl, rfl, rfl, rfl, rfl, rfl, rfl, rfl, rfl, List.forall_mem_nil _⟩

/-- The special registers that MTS writes, but SEQ_STAT: an address keeps its bits [13:2]. -/
theorem writeSpecial_plain (q : Seq) (v : Word) : let ad := v.toNat % 0x4000 - v.toNat % 4
    ∀ r ∈ ([(1, { q with mprog := v }), (2, { q with epc := v }), (3, { q with estat := v &&& 0xFFF01FFF }),
      (5, { q with imask := v.toNat % 32 }), (16, { q with lc := q.lc.set 0 v.toNat }), (17, { q with lc := q.lc.set 1 v.toNat }),
      (18, { q with lc := q.lc.set 2 v.toNat }), (20, { q with la := q.la.set 0 ad }), (21, { q with la := q.la.set 1 ad }),
      (22, { q with la := q.la.set 2 ad }), (24, { q with le := q.le.set 0 ad }), (25, { q with le := q.le.set 1 ad }),
      (26, { q with le := q.le.set 2 ad })] : List (Nat × Seq)), writable r.1 = true ∧ writeSpecial q r.1 v = r.2 := by
  intro ad
  have had : v.toNat % 0x4000 / 4 * 4 = ad := by omega
  simp only [List.forall_mem_cons, ← had]
  exact ⟨⟨rfl, rfl⟩, ⟨rfl, rfl⟩, ⟨rfl, rfl⟩, ⟨rfl, rfl⟩, ⟨rfl, rfl⟩, ⟨rfl, rfl⟩, ⟨rfl, rfl⟩, ⟨rfl, rfl⟩, ⟨rfl, rfl⟩, ⟨rfl, rfl⟩,
    ⟨rfl, rfl⟩, ⟨rfl, rfl⟩, ⟨rfl, rfl⟩, List.forall_mem_nil _⟩

theorem writable_eq_false : ∀ r ∈ [0, 4, 7, 8, 9, 10, 11, 12, 13, 14, 15, 19, 23, 27, 28, 29, 30, 31], writable r = false := by decide

theorem mts_gives (h : writable r = true) :
    tileGives s n gd [a] (.mts n gd a r) (writeSpecial (s.seq n) r ((s.seq n).rd a)) := fun hi => by
  rw [exec_mts, execMts]
  dsimp only
  rw [if_pos h, instr_gives hi rfl]

theorem mts_illegal (h : writable r = false) (hi : issues s n gd [a] = true) :
    exec (.mts n gd a r) s = .next (raiseExc n 3 (wordOf gd 0x2F (a * 2 ^ 12 + r)) [] s) := by
  rw [exec_mts, execMts]
  dsimp only
  rw [if_neg (by simp [h]), instr_of_illegal _ hi]

/-! ### MODE and SYNC.I (R330, R339, R340) -/

theorem mode_reg_gives (h : (s.seq n).pending = none) : tileGives s n gd [a] (.mode n gd a true 0)
    { s.seq n with pending := some (((s.seq n).rd a).toNat % 32, 3) } := fun hi => by
  have hlegal : ¬ (((s.seq n).pending.isSome || true && decide ((0 : BitVec 5) ≠ 0) || !true && decide (a ≠ 0)) = true) := by simp [h]
  rw [exec_mode, execMode]
  exact congrArg _ ((congrArg (instr n gd [a] [] · id _ s) (if_neg hlegal)).trans (instr_gives hi rfl))

theorem mode_imm_gives (h : (s.seq n).pending = none) (v : BitVec 5) : tileGives s n gd [] (.mode n gd 0 false v)
    { s.seq n with pending := some (v.toNat, 3) } := fun hi => by
  have hlegal : ¬ (((s.seq n).pending.isSome || false && decide (v ≠ 0) || !false && decide (0 ≠ 0)) = true) := by simp [h]
  rw [exec_mode, execMode]
  exact congrArg _ ((congrArg (instr n gd [] [] · id _ s) (if_neg hlegal)).trans (instr_gives (reads := []) hi rfl))

theorem mode_illegal_in_shadow (h : (s.seq n).pending.isSome = true) (hi : issues s n gd [] = true) (v : BitVec 5) :
    exec (.mode n gd 0 false v) s = .next (raiseExc n 3 (wordOf gd 0x30 v.toNat) [] s) := by
  have hw : wordOf gd 0x30 (0 * 2 ^ 12 + b2n false * 2 ^ 5 + v.toNat) = wordOf gd 0x30 v.toNat := by simp [b2n]
  have hill : ((s.seq n).pending.isSome || false && decide (v ≠ 0) || !false && decide (0 ≠ 0)) = true := by simp [h]
  rw [exec_mode, execMode, ← hw]
  exact congrArg _ ((congrArg (instr n gd [] [] · id _ s) (if_pos hill)).trans (instr_of_illegal _ hi))

theorem syncI_gives (h : (s.seq n).delay = none) : tileGives s n gd [] (.syncI n gd) (s.seq n) := fun hi => by
  rw [exec_syncI, execSyncI, slotIllegal_of_none h, instr_gives hi (by rw [State.setSeq_seq_self])]

/-! ### WFE (R371, R393) -/

theorem wfe_of_issues {regs : List Nat} (hi : issues s n gd regs = true) : exec (.wfe n gd) s =
    .next (instr n gd [] [] none id (fun s =>
      if (enabledIrq s n).isSome then .done s else .placed (s.set (F.TILE_SEQ_STAT_STATE n) 2)) s) := by
  rw [exec_wfe, execWfe, if_neg (by simp [tileWaits_of_runs (issues_iff.1 hi).1])]

theorem wfe_gives (h : (enabledIrq s n).isSome = true) : tileGives s n gd [] (.wfe n gd) (s.seq n) := fun hi => by
  rw [wfe_of_issues hi, instr_gives (reads := []) hi (by rw [if_pos h, State.setSeq_seq_self])]

theorem wfe_waits (h : enabledIrq s n = none) (hi : issues s n gd [] = true) (hg : (s.seq n).holds gd = true) :
    exec (.wfe n gd) s = .next (s.set (F.TILE_SEQ_STAT_STATE n) 2) := by
  rw [wfe_of_issues hi, instr_of_placed (reads := []) hi hg (if_neg (by simp [h]))]

theorem wfe_of_waiting (h : tileWaits s n = true) : exec (.wfe n gd) s =
    .next (if (enabledIrq s n).isSome = true then retire n (s.set (F.TILE_SEQ_STAT_STATE n) 1) else s) := by
  rw [exec_wfe, execWfe, if_pos h, wakeWfe]
  simp only [h, Bool.true_and]

/-! ### HALT and FENCE (R371, R393) -/

/-- The state of a tile whose HALT has retired, before it halts: the pc stands behind the HALT. -/
def haltRetired (n : Nat) (s : State) : State :=
  (retire n s).setSeq n { (retire n s).seq n with pc := ((s.seq n).pc + 4) % 0x4000 }

theorem haltRetired_regsWf (hs : s.regsWf) : (haltRetired n s).regsWf := by
  rw [haltRetired, State.regsWf, State.setSeq_regs]
  exact retire_regsWf hs

theorem haltRetired_seq (hn : n < s.tiles.length) :
    (haltRetired n s).seq n = { (s.seq n).advance.shadow with pc := ((s.seq n).pc + 4) % 0x4000 } := by
  rw [haltRetired, State.seq_setSeq_same _ _ _ ((State.setSeq_tiles_length s n _).symm ▸ hn), retire_seq hn]

/-- Stated for any address: the kernel would evaluate `% 0x4000` step by step where it has to see through the record. -/
theorem Seq.pc_of_setPc (q : Seq) (x : Nat) : ({ q with pc := x } : Seq).pc = x := rfl

theorem haltRetired_tile_ne {m : Nat} (hm : m ≠ n) : (haltRetired n s).tile m = s.tile m := by
  rw [haltRetired, State.setSeq, State.tile_setTile_ne _ _ _ _ hm.symm, retire_tile_ne hm]

/-- What a HALT leaves: one retirement counted, the tile halted. -/
def haltTaken (n : Nat) (s : State) : State := tileHalt n 1 (haltRetired n s)

theorem haltTaken_state (hs : s.regsWf) : (haltTaken n s).get (F.TILE_SEQ_STAT_STATE n) = 0 := tileHalt_state (haltRetired_regsWf hs)

theorem haltTaken_reason (hs : s.regsWf) : (haltTaken n s).get (F.TILE_SEQ_STAT_HALT_REASON n) = 1 :=
  tileHalt_reason (haltRetired_regsWf hs) (by decide)

theorem haltTaken_retired (hs : s.regsWf) :
    (haltTaken n s).get (F.TILE_SEQ_RETIRED n) = (s.get (F.TILE_SEQ_RETIRED n) + 1) % 2 ^ 32 := by
  rw [haltTaken, tileHalt_get_tile (a := 0x2000024) rfl (by decide) (by decide), haltRetired, State.setSeq_get, retire_retired hs]

theorem haltTaken_tile (n m : Nat) (s : State) : (haltTaken n s).tile m = (haltRetired n s).tile m :=
  State.tile_eq_of_tiles (tileHalt_tiles n 1 _) m

theorem haltTaken_seq (hn : n < s.tiles.length) :
    (haltTaken n s).seq n = { (s.seq n).advance.shadow with pc := ((s.seq n).pc + 4) % 0x4000 } := by
  rw [← haltRetired_seq hn, State.seq, haltTaken_tile, State.seq]

theorem haltTaken_pc (hn : n < s.tiles.length) : ((haltTaken n s).seq n).pc = ((s.seq n).pc + 4) % 0x4000 := by
  rw [haltTaken_seq hn, Seq.pc_of_setPc]

theorem haltTaken_g (hn : n < s.tiles.length) : ((haltTaken n s).seq n).g = (s.seq n).g := by
  rw [haltTaken_seq hn, Seq.shadow_frame, Seq.advance_frame]

theorem haltTaken_p (hn : n < s.tiles.length) : ((haltTaken n s).seq n).p = (s.seq n).p := by
  rw [haltTaken_seq hn, Seq.shadow_frame, Seq.advance_frame]

theorem halt_of_issues (hi : issues s n gd [] = true) (hg : (s.seq n).holds gd = true) :
    exec (.halt n gd) s = .next (haltTaken n s) := by
  rw [exec_halt, execHalt]
  exact congrArg _ (instr_of_placed (reads := []) hi hg rfl)

theorem fence_gives (h : (s.seq n).unacked = 0) (hy : (s.seq n).syncq = []) (he : (s.seq n).sendq = []) :
    tileGives s n gd [] (.fence n gd) (s.seq n) := fun hi => by
  rw [exec_fence, execFence]
  exact congrArg _ (instr_gives (reads := []) hi ((if_pos (by simp [h, hy, he])).trans (by rw [State.setSeq_seq_self])))

theorem fence_stalls (h : (s.seq n).unacked ≠ 0 ∨ (s.seq n).syncq ≠ [] ∨ (s.seq n).sendq ≠ []) (hi : issues s n gd [] = true)
    (hg : (s.seq n).holds gd = true) : exec (.fence n gd) s = .next s := by
  have hbusy : ¬ ((s.seq n).unacked = 0 ∧ (s.seq n).syncq.isEmpty = true ∧ (s.seq n).sendq.isEmpty = true) := by
    rintro ⟨h0, hy, he⟩
    exact h.elim (· h0) fun h => h.elim (· (List.isEmpty_iff.1 hy)) (· (List.isEmpty_iff.1 he))
  rw [exec_fence, execFence]
  exact congrArg _ (instr_of_stall (reads := []) hi hg (if_neg hbusy))

end System

/-- Settles O33: MFS and MTS by the tables of special registers, MODE, SYNC.I, WFE and FENCE by the common rule of an instruction, HALT
by its retirement followed by the halt. -/
theorem systemInstructions : Obligations.SystemInstructions := by
  refine ⟨⟨fun s n gd d => ?_, fun s n gd a => ?_⟩, fun s n gd a v => ?_⟩
  · intro q
    refine ⟨?_, ?_, ?_, mfs_gives rfl⟩
    · rw [← seqStat_eq s n]
      exact fun r hr => mfs_gives (readSpecial_plain s n r hr)
    · exact fun r hr => mfs_gives (readSpecial_reserved s n r hr)
    · have hlow : BitVec.ofNat 32 (s.T % 2 ^ 32) = BitVec.ofNat 32 s.T := BitVec.eq_of_toNat_eq (by simp)
      exact hlow ▸ mfs_gives rfl
  · intro q v ad
    refine ⟨fun r hr => ?_, mts_gives rfl, fun r hr hi => mts_illegal (writable_eq_false r hr) hi⟩
    obtain ⟨hw, hq⟩ := writeSpecial_plain q v r hr
    exact hq ▸ mts_gives hw
  · intro q
    refine ⟨fun h => ⟨mode_reg_gives h, mode_imm_gives h v⟩, fun h hi => mode_illegal_in_shadow h hi v, syncI_gives, fun h hi => ?_,
      wfe_gives, wfe_waits, wfe_of_waiting, fun hs hn hi hg => ?_, fun h hy he => fence_gives h hy he, fence_stalls⟩
    · rw [exec_syncI, execSyncI, slotIllegal_of_slot h, instr_of_illegal _ hi]
    · have hlt := hs.tile_lt hn
      exact ⟨_, halt_of_issues hi hg, haltTaken_state hs.regs, haltTaken_reason hs.regs, haltTaken_pc hlt, haltTaken_retired hs.regs,
        haltTaken_g hlt, haltTaken_p hlt, fun m hm => (haltTaken_tile n m s).trans (haltRetired_tile_ne hm)⟩

end Sys2Proof.Machine

/-!
PROOF. Micro-routines of a tile (09 R341 to R346, 10 R404): the groups that a routine commits and where it stops, and the routines by the
checks of their operands; `RoutineProgress`.
-/

namespace Sys2Proof.Machine

/-! ### The groups of a routine (R341, R342, R344) -/

section Groups

variable {n fuel g k : Nat} {r : Routine} {s t u : State}

theorem groupsOk_succ {f : Nat → State → Grp} (h : groupsOk f (k + 1) g s = some t) :
    ∃ u, f g s = .ok u ∧ groupsOk f k (g + 1) u = some t := by
  rw [groupsOk] at h
  split at h
  · exact ⟨_, ‹_›, h⟩
  · exact absurd h nofun

theorem runGroups_of_boundary (h : g < r.count) : runGroups n r 0 g s = .placed (holdProgress n r.opc g 0 s) := by
  simp only [runGroups, Nat.not_le.2 h, if_false]

theorem runGroups_of_group (h : g < r.count) : runGroups n r (fuel + 1) g s =
    match r.group g s with
    | .ok s => runGroups n r fuel (g + 1) s
    | .finish s => .done (s.setSeq n (s.seq n).clearProgress)
    | .exc c e => .exc (holdProgress n r.opc g 0 s) c e
    | .wait s => .placed (holdProgress n r.opc g 0 s) :=
  if_neg (Nat.not_le.2 h)

theorem runGroups_of_end (htail : r.tail = none) (h : r.count ≤ g) : runGroups n r fuel g s = .done (s.setSeq n (s.seq n).clearProgress) := by
  cases fuel <;> simp only [runGroups, h, htail, if_true]

/-- Groups that are committed leave the rest of the routine to run. -/
theorem runGroups_of_groupsOk (hk : k ≤ fuel) (hle : g + k ≤ r.count) (h : groupsOk r.group k g s = some t) :
    runGroups n r fuel g s = runGroups n r (fuel - k) (g + k) t := by
  induction k generalizing fuel g s with
  | zero => rw [Option.some.inj h]; rfl
  | succ k ih =>
    obtain ⟨u, hu, hrest⟩ := groupsOk_succ h
    obtain ⟨f, rfl⟩ : ∃ f, fuel = f + 1 := ⟨fuel - 1, by omega⟩
    rw [runGroups_of_group (by omega), hu]
    refine (ih (by omega) (by omega) hrest).trans ?_
    rw [Nat.add_sub_add_right, Nat.add_right_comm, Nat.add_assoc]

/-- The group after those committed, within the groups that the routine reaches. -/
theorem runGroups_at (hk : k < fuel) (hle : g + k < r.count) (h : groupsOk r.group k g s = some t) :
    runGroups n r fuel g s = match r.group (g + k) t with
      | .ok s => runGroups n r (fuel - k - 1) (g + k + 1) s
      | .finish s => .done (s.setSeq n (s.seq n).clearProgress)
      | .exc c e => .exc (holdProgress n r.opc (g + k) 0 t) c e
      | .wait s => .placed (holdProgress n r.opc (g + k) 0 s) := by
  obtain ⟨f, hf⟩ : ∃ f, fuel - k = f + 1 := ⟨fuel - k - 1, by omega⟩
  rw [runGroups_of_groupsOk hk.le hle.le h, hf, runGroups_of_group hle]
  rfl

end Groups

/-! ### A routine that issues -/

section Routines

variable {s : State} {n opc groups : Nat} {gd : Guard} {regs dests : List Nat} {i : Instr} {r : Routine}
  {make : State → Except (Nat × Word) Routine}

/-- What a routine does under a guard that holds. -/
def routineAct (n opc : Nat) (make : State → Except (Nat × Word) Routine) (groups : Nat) (s : State) : Act :=
  match make s with
  | .error (c, e) => .exc s c e
  | .ok r =>
    let (g, ph, resumed) := startPoint (s.seq n) opc
    let tailPoint := r.tail.isSome && ph == 1 && g + 1 == r.count
    if resumed ∧ !tailPoint ∧ (r.count ≤ g ∨ ph ≠ 0) then .exc s 7 r.operand
    else runGroups n r (if (s.seq n).exl then r.count + 1 - (if tailPoint then r.count else g) else groups)
      (if tailPoint then r.count else g) s

theorem routine_eq (illegal : Option Word) (s : State) : routine n gd regs dests opc illegal make groups s =
    .next (instr n gd regs dests illegal Seq.clearProgress (routineAct n opc make groups) s) := rfl

theorem startPoint_fresh {q : Seq} {g ph : Nat} (h : startPoint q opc = (g, ph, false)) : g = 0 := by
  rw [startPoint] at h
  split at h
  · exact (congrArg Prod.fst h).symm
  · exact absurd (congrArg (·.2.2) h) nofun

theorem routineAct_of_ok (hmake : make s = .ok r) (htail : r.tail = none) {g : Nat} {res : Bool}
    (hstart : startPoint (s.seq n) opc = (g, 0, res)) (hg : g < r.count ∨ res = false) :
    routineAct n opc make groups s = runGroups n r (if (s.seq n).exl = true then r.count + 1 - g else groups) g s := by
  have hgo : ¬ ((res = true) ∧ (!false) = true ∧ (r.count ≤ g ∨ 0 ≠ 0)) := by
    rintro ⟨hres, -, hle | h0⟩
    · rcases hg with h | h
      · omega
      · exact absurd (hres.symm.trans h) nofun
    · exact h0 rfl
  simp only [routineAct, hmake, hstart, htail]
  exact if_neg hgo

/-- A routine without a tail whose operands pass runs its groups. -/
theorem routine_gives (hexec : exec i s = routine n gd regs dests opc none make groups s) (hmake : make s = .ok r)
    (htail : r.tail = none) (hopc : r.opc = opc) : routineGives s n gd regs dests i opc r.count groups r.group := by
  intro hi
  rw [hexec, routine_eq]
  refine ⟨fun hg => by rw [instr_of_guard_false hi hg], fun hg g res hstart hcount => ?_⟩
  have hle : g ≤ r.count := hcount.elim (·.le) fun h => (startPoint_fresh (h ▸ hstart)).le.trans (Nat.zero_le _)
  have hact := routineAct_of_ok (groups := groups) hmake htail hstart hcount
  intro k
  have hkle : g + k ≤ r.count := by
    simp only [k]
    split <;> omega
  have hfuel : k ≤ (if (s.seq n).exl = true then r.count + 1 - g else groups) := by
    simp only [k]
    split <;> omega
  refine ⟨fun t ht => ?_, fun j hj t c e ht hgrp => ?_, fun j hj t u ht hgrp => ?_, fun j hj t u ht hgrp => ?_⟩
  · have hrun := hact.trans (runGroups_of_groupsOk hfuel hkle ht)
    by_cases hend : g + k = r.count
    · rw [if_pos hend, instr_of_done hi hg (hrun.trans (runGroups_of_end htail hend.ge))]
    · have hzero : (if (s.seq n).exl = true then r.count + 1 - g else groups) - k = 0 := by
        cases hexl : (s.seq n).exl with
        | true => exact absurd (by simp only [k, hexl, if_true]; omega) hend
        | false =>
          simp only [k, hexl, Bool.false_eq_true, if_false] at hend ⊢
          omega
      rw [hzero, runGroups_of_boundary (by omega)] at hrun
      rw [if_neg hend, instr_of_placed hi hg hrun, hopc]
  · have hrun := hact.trans (runGroups_at (lt_of_lt_of_le hj hfuel) (by omega) ht)
    rw [hgrp] at hrun
    rw [instr_of_exc hi hg hrun, hopc]
  · have hrun := hact.trans (runGroups_at (lt_of_lt_of_le hj hfuel) (by omega) ht)
    rw [hgrp] at hrun
    rw [instr_of_placed hi hg hrun, hopc]
  · have hrun := hact.trans (runGroups_at (lt_of_lt_of_le hj hfuel) (by omega) ht)
    rw [hgrp] at hrun
    rw [instr_of_done hi hg hrun]

/-- A routine whose operands fail raises, and nothing of it is done (R404). -/
theorem routine_raises {c : Nat} {e : Word} (hexec : exec i s = routine n gd regs [] opc none make groups s)
    (hmake : make s = .error (c, e)) : tileRaises s n gd regs [] i c e := fun hi hg => by
  have hact : routineAct n opc make groups s = .exc s c e := by rw [routineAct, hmake]
  rw [hexec, routine_eq, instr_of_exc (by rwa [List.append_nil]) hg hact]

end Routines

/-! ### The checks of operands (R404, R413, R417, R569; log entries 53, 58 and 67) -/

section Checks

variable {x : Word} {m size : Nat}

theorem listCheck_of_ok (ha : x.toNat % 8 = 0) (hfit : x.toNat + 8 * m ≤ 0xC000) : listCheck x m = none :=
  (if_neg (not_not.2 ha)).trans (if_neg (Nat.not_lt.2 hfit))

theorem listCheck_of_odd (ha : x.toNat % 8 ≠ 0) : listCheck x m = some (4, x) := if_pos ha

theorem listCheck_of_far (ha : x.toNat % 8 = 0) (hfar : 0xC000 < x.toNat + 8 * m) : listCheck x m = some (5, x) :=
  (if_neg (not_not.2 ha)).trans (if_pos hfar)

theorem descAddr_of_ok (ha : x.toNat % 16 = 0) (hfit : x.toNat + size ≤ 0xC000) : descAddr x size = none := if_neg (by omega)

theorem descAddr_of_bad (h : x.toNat % 16 ≠ 0 ∨ 0xC000 < x.toNat + size) : descAddr x size = some (7, x) := if_pos h

end Checks

/-- The operand of tile `n` in register `i`, as an address or a count. -/
abbrev State.arg (s : State) (n i : Nat) : Nat := ((s.seq n).rd i).toNat

/-! ### EVSND, NUPD, DLYX -/

section Lists

variable {s : State} {n a b groups : Nat} {gd : Guard}

theorem exec_evsnd (n : Nat) (gd : Guard) (a b groups : Nat) (s : State) : exec (.evsnd n gd a b groups) s = execEvsnd n gd a b groups s := rfl
theorem exec_nupd (n : Nat) (gd : Guard) (a b groups : Nat) (s : State) : exec (.nupd n gd a b groups) s = execNupd n gd a b groups s := rfl
theorem exec_dlyxInsert (n : Nat) (gd : Guard) (a b groups : Nat) (s : State) :
    exec (.dlyxInsert n gd a b groups) s = execDlyxInsert n gd a b groups s := rfl
theorem exec_dlyxDrain (n : Nat) (gd : Guard) (b groups : Nat) (s : State) : exec (.dlyxDrain n gd b groups) s = execDlyxDrain n gd b groups s := rfl
theorem exec_dlyxClear (n : Nat) (gd : Guard) (groups : Nat) (s : State) : exec (.dlyxClear n gd groups) s = execDlyxClear n gd groups s := rfl

/-- Group `g` of an EVSND over the records from `ad`: a full queue is waited for, a poisoned record raises POISON. -/
def evsndGroup (n ad g : Nat) (u : State) : Grp :=
  if 16 ≤ (u.seq n).sendq.length then .wait u
  else if (u.tile n).bad (ad + 8 * g) 8 then .exc 6 (BitVec.ofNat 32 (ad + 8 * g))
  else .ok (u.setSeq n { u.seq n with
    sendq := (u.seq n).sendq ++ [sendOf ((u.tile n).nat (ad + 8 * g) 4) ((u.tile n).nat (ad + 8 * g + 4) 4)] })

section Aligned

variable (ha : s.arg n a % 8 = 0)
include ha

section Fits

variable (hfit : s.arg n a + 8 * (s.arg n b % 65536) ≤ 0xC000)
include hfit

theorem evsnd_gives : routineGives s n gd [a, b] [] (.evsnd n gd a b groups) 0x39 (s.arg n b % 65536) groups
    (evsndGroup n (s.arg n a)) :=
  routine_gives (r := ⟨0x39, (s.seq n).rd a, s.arg n b % 65536, evsndGroup n (s.arg n a), none⟩)
    (exec_evsnd n gd a b groups s) ((if_neg (not_not.2 ha)).trans (if_neg (Nat.not_lt.2 hfit))) rfl rfl

theorem nupd_gives : routineGives s n gd [a, b] [] (.nupd n gd a b groups) 0x3D (ceilDiv (s.arg n b % 65536) 16) groups
    (nupdGroup n (s.arg n a) (s.arg n b % 65536)) :=
  routine_gives (r := ⟨0x3D, (s.seq n).rd a, ceilDiv (s.arg n b % 65536) 16, nupdGroup n (s.arg n a) (s.arg n b % 65536), none⟩)
    (exec_nupd n gd a b groups s) (by simp only [listCheck_of_ok ha hfit]) rfl rfl

theorem dlyxInsert_gives : routineGives s n gd [a, b] [] (.dlyxInsert n gd a b groups) 0x3E
    (ceilDiv (s.arg n b % 65536) 16) groups
    (insertGroup n (s.arg n a) (s.arg n b % 65536)) :=
  routine_gives (r := ⟨0x3E, (s.seq n).rd a, ceilDiv (s.arg n b % 65536) 16, insertGroup n (s.arg n a) (s.arg n b % 65536), none⟩)
    (exec_dlyxInsert n gd a b groups s) (by simp only [listCheck_of_ok ha hfit]) rfl rfl

end Fits

/-- A list that leaves tile data memory raises ADDR. -/
theorem listRoutine_raises_addr (hfar : 0xC000 < s.arg n a + 8 * (s.arg n b % 65536)) :
    ∀ i ∈ [Instr.evsnd n gd a b groups, .nupd n gd a b groups, .dlyxInsert n gd a b groups],
      tileRaises s n gd [a, b] [] i 5 ((s.seq n).rd a) := by
  simp only [List.forall_mem_cons]
  exact ⟨routine_raises (exec_evsnd n gd a b groups s) ((if_neg (not_not.2 ha)).trans (if_pos hfar)),
    routine_raises (exec_nupd n gd a b groups s) (by simp only [listCheck_of_far ha hfar]),
    routine_raises (exec_dlyxInsert n gd a b groups s) (by simp only [listCheck_of_far ha hfar]), List.forall_mem_nil _⟩

end Aligned

/-- A list that is not aligned raises ALIGN, also with no record in it (log entry 53). -/
theorem listRoutine_raises_align (ha : s.arg n a % 8 ≠ 0) :
    ∀ i ∈ [Instr.evsnd n gd a b groups, .nupd n gd a b groups, .dlyxInsert n gd a b groups],
      tileRaises s n gd [a, b] [] i 4 ((s.seq n).rd a) := by
  simp only [List.forall_mem_cons]
  exact ⟨routine_raises (exec_evsnd n gd a b groups s) (if_pos ha),
    routine_raises (exec_nupd n gd a b groups s) (by simp only [listCheck_of_odd ha]),
    routine_raises (exec_dlyxInsert n gd a b groups s) (by simp only [listCheck_of_odd ha]), List.forall_mem_nil _⟩

/-- A drain goes on to OFFSET `b` of the tile's current epoch. -/
theorem dlyxDrain_gives : routineGives s n gd [b] [] (.dlyxDrain n gd b groups) 0x3E (ringChunks s n).length groups
    (drainGroup n (startBack s ((s.epochNum + 2 ^ 32 - (s.seq n).epoch) % 2 ^ 32) + s.arg n b % 2 ^ 20) (ringChunks s n)) :=
  routine_gives (r := ⟨0x3E, (s.seq n).rd b, _, _, none⟩) (exec_dlyxDrain n gd b groups s) rfl rfl rfl

theorem dlyxClear_gives : routineGives s n gd [] [] (.dlyxClear n gd groups) 0x3E (ringChunks s n).length groups
    (clearGroup n (ringChunks s n)) :=
  routine_gives (r := ⟨0x3E, 0, _, _, none⟩) (exec_dlyxClear n gd groups s) rfl rfl rfl

end Lists

/-! ### CIMX, TMOV and VOP.T -/

section Blocks

variable {s : State} {n a groups : Nat} {gd : Guard}

theorem exec_cimx (n : Nat) (gd : Guard) (a groups : Nat) (s : State) : exec (.cimx n gd a groups) s = execCimx n gd a groups s := rfl
theorem exec_tmov (n : Nat) (gd : Guard) (a groups : Nat) (s : State) : exec (.tmov n gd a groups) s = execTmov n gd a groups s := rfl

/-- Group `g` of a CIMX: a burst on one of the arrays is waited for before group 0. -/
def cimxGroup (n : Nat) (d : CDesc) (g : Nat) (u : State) : Grp := cimGroup n d g (if g = 0 then collide n u else u)

/-- The kinds of a copy are kinds of the row TMOV (log entry 26). -/
theorem copyKind_wanted {k : Nat} (h : k ≤ 2) : ¬ ((!(decide (k ≠ 3) && decide (k ≠ 4))) = true) := by
  have h3 : k ≠ 3 := by omega
  have h4 : k ≠ 4 := by omega
  simp [h3, h4]

theorem VOp.code_le (o : VOp) : o.code ≤ 25 := by cases o <;> decide

/-- The rows of VOP.T with their operations. -/
theorem exec_vopt_rows : ∀ r ∈ ([(.voptMov n gd a groups, .mov), (.voptAdd n gd a groups, .add), (.voptSub n gd a groups, .sub), (.voptMul n gd a groups, .mul),
      (.voptMac n gd a groups, .mac), (.voptMin n gd a groups, .min), (.voptMax n gd a groups, .max), (.voptAbs n gd a groups, .abs),
      (.voptNeg n gd a groups, .neg), (.voptAnd n gd a groups, .and), (.voptOr n gd a groups, .or), (.voptXor n gd a groups, .xor),
      (.voptShl n gd a groups, .shl), (.voptShr n gd a groups, .shr), (.voptCmpeq n gd a groups, .cmpeq),
      (.voptCmplt n gd a groups, .cmplt), (.voptCmple n gd a groups, .cmple), (.voptSel n gd a groups, .sel),
      (.voptCvt n gd a groups, .cvt), (.voptExp2 n gd a groups, .exp2), (.voptLog2 n gd a groups, .log2), (.voptRcp n gd a groups, .rcp),
      (.voptRsqrt n gd a groups, .rsqrt), (.voptVcmpr n gd a groups, .vcmpr), (.voptVexpd n gd a groups, .vexpd),
      (.voptRsum n gd a groups, .rsum)] : List (Instr × VOp)),
    exec r.1 s = vopT n gd r.2 a groups s := by
  simp only [List.forall_mem_cons]
  exact ⟨rfl, rfl, rfl, rfl, rfl, rfl, rfl, rfl, rfl, rfl, rfl, rfl, rfl, rfl, rfl, rfl, rfl, rfl, rfl, rfl, rfl, rfl, rfl, rfl, rfl, rfl,
    List.forall_mem_nil _⟩

section Placed

variable (ha : s.arg n a % 16 = 0)
include ha

section Cimx

variable (hfit : s.arg n a + 16 ≤ 0xC000) (hblock : blockBad (s.tile n) (s.arg n a) 16 = none)
include hfit hblock

theorem cimx_gives (hdesc : (cdesc (s.tile n) (s.arg n a)).bad = false)
    (hbanks : ∀ i ∈ (cdesc (s.tile n) (s.arg n a)).arrays, (s.arr n i).cbank.state = .valid)
    (hinput : inputBad (s.tile n) (cdesc (s.tile n) (s.arg n a)) = none) :
    routineGives s n gd [a] [] (.cimx n gd a groups) 0x3A
      ((cdesc (s.tile n) (s.arg n a)).groups (s.tile n) * (cdesc (s.tile n) (s.arg n a)).bits) groups
      (cimxGroup n (cdesc (s.tile n) (s.arg n a))) := by
  have hany : (cdesc (s.tile n) (s.arg n a)).arrays.any (fun i => decide ((s.arr n i).cbank.state ≠ .valid)) = false := by
    simpa using hbanks
  refine routine_gives (r := ⟨0x3A, (s.seq n).rd a, _, _, none⟩) (exec_cimx n gd a groups s) ?_ rfl rfl
  simp only [descAddr_of_ok ha hfit, hblock, hdesc, hany, Bool.or_self, Bool.false_eq_true, if_false, hinput]
  rfl

theorem cimx_raises_desc (h : (cdesc (s.tile n) (s.arg n a)).bad = true ∨
      ∃ i ∈ (cdesc (s.tile n) (s.arg n a)).arrays, (s.arr n i).cbank.state ≠ .valid) :
    tileRaises s n gd [a] [] (.cimx n gd a groups) 7 ((s.seq n).rd a) := by
  have hbad : ((cdesc (s.tile n) (s.arg n a)).bad || (cdesc (s.tile n) (s.arg n a)).arrays.any
      (fun i => decide ((s.arr n i).cbank.state ≠ .valid))) = true := by
    simpa [Bool.or_eq_true] using h
  refine routine_raises (exec_cimx n gd a groups s) ?_
  simp only [descAddr_of_ok ha hfit, hblock, hbad, if_true]

end Cimx

theorem tmov_gives (hfit : s.arg n a + 48 ≤ 0xC000) (hblock : blockBad (s.tile n) (s.arg n a) 48 = none)
    (hdesc : tblockBad (s.tile n) (s.arg n a) = false) (hkind : (tblock (s.tile n) (s.arg n a)).dkind ≤ 2) :
    routineGives s n gd [a] [] (.tmov n gd a groups) 0x33
      (ceilDiv (tblock (s.tile n) (s.arg n a)).nbytes 256) groups
      (copyGroup n (tblock (s.tile n) (s.arg n a))) := by
  refine routine_gives (r := ⟨0x33, (s.seq n).rd a, ceilDiv (tblock (s.tile n) (s.arg n a)).nbytes 256,
      copyGroup n (tblock (s.tile n) (s.arg n a)), none⟩)
    ((exec_tmov n gd a groups s).trans (if_neg (not_and_of_not_left _ (copyKind_wanted hkind)))) ?_ rfl rfl
  simp only [descAddr_of_ok ha hfit, hblock, hdesc, Bool.false_eq_true, if_false]

/-- A VOP.T whose block holds the operation of the row. -/
theorem vopt_gives {i : Instr} {o : VOp} (hexec : exec i s = vopT n gd o a groups s) (hfit : s.arg n a + 64 ≤ 0xC000)
    (hblock : blockBad (s.tile n) (s.arg n a) 64 = none) (hdesc : vblockBad (s.tile n) (s.arg n a) o = false)
    (hop : (s.tile n).nat (s.arg n a) 4 % 32 = o.code) :
    routineGives s n gd [a] [] i 0x3C (ceilDiv (vblock (s.tile n) (s.arg n a)).d.count 256) groups
      (vopTGroup n o (vblock (s.tile n) (s.arg n a)) (ceilDiv (vblock (s.tile n) (s.arg n a)).d.count 256)) := by
  have hrow : ¬ ((s.tile n).nat (s.arg n a) 4 % 32 ≤ 25 ∧ (s.tile n).nat (s.arg n a) 4 % 32 ≠ o.code ∧
      (s.seq n).holds gd = true) := fun h => h.2.1 hop
  have hlegal : ¬ (25 < (s.tile n).nat (s.arg n a) 4 % 32 ∨ vblockBad (s.tile n) (s.arg n a) o = true) := by
    rw [hop, hdesc]
    have hcode := o.code_le
    simp only [Bool.false_eq_true, or_false]
    omega
  refine routine_gives (r := ⟨0x3C, (s.seq n).rd a, ceilDiv (vblock (s.tile n) (s.arg n a)).d.count 256,
      vopTGroup n o (vblock (s.tile n) (s.arg n a)) (ceilDiv (vblock (s.tile n) (s.arg n a)).d.count 256), none⟩)
    (hexec.trans (if_neg hrow)) ?_ rfl rfl
  simp only [descAddr_of_ok ha hfit, hblock, hlegal, if_false]

end Placed

theorem cimx_raises_address (h : s.arg n a % 16 ≠ 0 ∨ 0xC000 < s.arg n a + 16) :
    tileRaises s n gd [a] [] (.cimx n gd a groups) 7 ((s.seq n).rd a) :=
  routine_raises (exec_cimx n gd a groups s) (by simp only [descAddr_of_bad h])

end Blocks

/-- Settles O35: every routine by the rule of a routine whose operands pass, after the checks of its own operands (log entries 53, 58
and 67); the exceptions by the rule of one whose operands fail. -/
theorem routineProgress : Obligations.RoutineProgress := by
  intro s n gd a b groups q t x ad cnt
  refine ⟨fun ha hfit => ⟨evsnd_gives ha hfit, nupd_gives ha hfit, dlyxInsert_gives ha hfit⟩,
    fun i hi => ⟨fun ha => listRoutine_raises_align ha i hi, fun ha hfar => listRoutine_raises_addr ha hfar i hi⟩,
    dlyxDrain_gives, dlyxClear_gives,
    ⟨fun ha hfit hblock hdesc hbanks hinput => cimx_gives ha hfit hblock hdesc hbanks hinput, cimx_raises_address,
      fun ha hfit hblock => cimx_raises_desc ha hfit hblock⟩,
    fun ha hfit hblock hdesc hkind => tmov_gives ha hfit hblock hdesc hkind,
    fun r hr ha hfit hblock hdesc hop => vopt_gives ha (exec_vopt_rows r hr) hfit hblock hdesc hop⟩

end Sys2Proof.Machine

/-!
PROOF. Control of a tile by Bench (09 R366 to R371, 14 R578): writes of its registers, GO, STOP and the windows of the vector engine.
-/

namespace Sys2Proof.Machine

theorem exec_tileGo (a : Agent) (n : Nat) (b : Bool) (s : State) : exec (.tileGo a n b) s = execTileGo a n b s := rfl
theorem exec_tileStop (a : Agent) (n : Nat) (s : State) : exec (.tileStop a n) s = execTileStop a n s := rfl
theorem exec_tileReset (a : Agent) (n : Nat) (s : State) : exec (.tileReset a n) s = execTileReset a n s := rfl
theorem exec_softirq (a : Agent) (n : Nat) (s : State) : exec (.softirq a n) s = execSoftirq a n s := rfl
theorem exec_drain (a : Agent) (n : Nat) (b : Bool) (s : State) : exec (.drain a n b) s = execDrain a n b s := rfl
theorem exec_veWindowAccess (n off : Nat) (w : Bool) (v : Word) (s : State) :
    exec (.veWindowAccess n off w v) s = execVeWindowAccess n off w v s := rfl

/-! ### Writes by Bench in the window of a tile (R10, R20) -/

section Window

variable {s : State} {n : Nat}

theorem State.tileOn_lt (hon : s.tileOn n = true) : n < s.cfg.tiles := by
  simp only [State.tileOn, Bool.and_eq_true, decide_eq_true_eq] at hon
  exact hon.1.1

/-- A write by Bench of a register of a powered tile has its effect. -/
theorem State.guardTile_bench (hon : s.tileOn n = true) (off : Nat) (f : State → State) : s.guardTile n .bench off f = f s := by
  rw [State.guardTile, if_neg (Nat.not_le.2 (State.tileOn_lt hon)), State.guardWrite_firmware hon (by decide) rfl]

theorem State.tileHalted_set {f : Fld} (h : f.off ≠ (F.TILE_SEQ_STAT_STATE n).off) (v : Nat) :
    tileHalted (s.set f v) n = tileHalted s n := by
  rw [tileHalted, tileHalted, State.get_set_of_off_ne _ _ _ _ h.symm, State.set_seq]

theorem State.setSeq_regsWf (hs : s.regsWf) (n : Nat) (q : Seq) : (s.setSeq n q).regsWf := by
  rw [State.regsWf, State.setSeq_regs]
  exact hs

theorem State.setTile_of_out (h : s.tiles.length ≤ n) (t : Tile) : s.setTile n t = s :=
  congrArg s.setTiles (List.set_eq_of_length_le h)

end Window

/-! ### GO (R368, R370; log entry 54) -/

section Go

variable {s : State} {n : Nat} {b : Bool}

theorem start_ok (n : Nat) : (F.TILE_SEQ_CTL_START n).ok := bit_ok _ (by decide)

theorem b2n_fits (b : Bool) : b2n b < 2 ^ 1 := by cases b <;> decide

/-- TILE_SEQ_CTL with START as the write of GO gives it. -/
abbrev goWritten (n : Nat) (b : Bool) (s : State) : State := s.set (F.TILE_SEQ_CTL_START n) (b2n b)

theorem goWritten_halted (n : Nat) (b : Bool) (s : State) : tileHalted (goWritten n b s) n = tileHalted s n :=
  State.tileHalted_set (seqReg_apart (by decide) n) _

theorem goWritten_reason (n : Nat) (b : Bool) (s : State) :
    (goWritten n b s).get (F.TILE_SEQ_STAT_HALT_REASON n) = s.get (F.TILE_SEQ_STAT_HALT_REASON n) :=
  State.get_set_of_off_ne _ _ _ _ (seqReg_apart (by decide) n)

theorem tileGo_of_discarded (h : tileHalted s n = false ∨ s.get (F.TILE_SEQ_STAT_HALT_REASON n) = 5) :
    tileGo n b s = goWritten n b s := by
  refine if_pos ?_
  rw [goWritten_halted, goWritten_reason]
  exact h.imp_left fun h => by simp [h]

section Taken

variable (hhalt : tileHalted s n = true) (hreason : s.get (F.TILE_SEQ_STAT_HALT_REASON n) ≠ 5)
include hhalt hreason

theorem tileGo_of_halted : tileGo n b s =
    if b = true then (goWritten n b s).set (F.TILE_SEQ_STAT_STATE n) 3 else startTile n (goWritten n b s) := by
  refine if_neg ?_
  rw [goWritten_halted, goWritten_reason]
  simp [hhalt, hreason]

/-- What a GO that is taken leaves: the tile ARMED for the boundary, or RUNNING at its boot address. -/
theorem tileGo_effect (hs : s.regsWf) (hn : n < s.tiles.length) : let t := tileGo n b s
    t.get (F.TILE_SEQ_STAT_STATE n) = (if b = true then 3 else 1) ∧ t.flag (F.TILE_SEQ_CTL_START n) = b ∧
      (t.seq n = if b = true then s.seq n else { s.seq n with pc := s.get (F.TILE_SEQ_BOOT n) * 4, delay := none }) ∧
      (∀ m, m ≠ n → t.tile m = s.tile m) ∧ (t.tile n).mem = (s.tile n).mem := by
  intro t
  have ht : t = _ := tileGo_of_halted hhalt hreason
  have hwf : (goWritten n b s).regsWf := State.set_regsWf hs _ _
  have hstart (u : State) (hu : u.regs = (goWritten n b s).regs) (v : Nat) :
      (u.set (F.TILE_SEQ_STAT_STATE n) v).flag (F.TILE_SEQ_CTL_START n) = b := by
    rw [State.flag_set_of_off_ne _ _ _ _ (seqReg_apart (by decide) n), State.flag, State.get, State.reg, hu]
    show ((goWritten n b s).get _ == 1) = b
    rw [State.get_set_fits hs _ (start_ok n) (b2n_fits b)]
    cases b <;> rfl
  cases b with
  | true =>
    rw [ht, if_pos rfl]
    refine ⟨State.get_set_fits hwf _ (seqState_ok n) (by decide : 3 < 2 ^ 2), hstart _ rfl _, ?_, fun m _ => ?_, ?_⟩
    · rw [State.set_seq, State.set_seq, if_pos rfl]
    · rw [State.set_tile, State.set_tile]
    · rw [State.set_tile, State.set_tile]
  | false =>
    have hn' : n < (goWritten n false s).tiles.length := by rwa [State.set_tiles]
    have hboot : (goWritten n false s).get (F.TILE_SEQ_BOOT n) = s.get (F.TILE_SEQ_BOOT n) :=
      State.get_set_of_off_ne _ _ _ _ (seqReg_apart (by decide) n)
    rw [ht, if_neg Bool.false_ne_true, startTile, hboot]
    refine ⟨State.get_set_fits (State.setSeq_regsWf hwf _ _) _ (seqState_ok n) (by decide : 1 < 2 ^ 2),
      hstart _ (State.setSeq_regs _ _ _) _, ?_, fun m hm => ?_, ?_⟩
    · rw [State.set_seq, State.seq_setSeq_same _ _ _ hn', if_neg Bool.false_ne_true, State.set_seq]
    · rw [State.set_tile, State.setSeq, State.tile_setTile_ne _ _ _ _ hm.symm, State.set_tile]
    · rw [State.set_tile, State.setSeq, State.tile_setTile_same _ _ _ hn', State.set_tile]

end Taken

end Go

/-! ### STOP (R371) -/

section Stop

variable {s : State} {n : Nat}

/-- A halt by STOP leaves the plan as it is (17 R680). -/
theorem tileHalt_of_stop (n : Nat) (s : State) :
    tileHalt n 3 s = (s.clear (F.TILE_SEQ_STAT_STATE n)).set (F.TILE_SEQ_STAT_HALT_REASON n) 3 :=
  if_neg fun h => h.2 rfl

theorem tileStop_effect (hs : s.regsWf) (h : s.get (F.TILE_SEQ_STAT_STATE n) ≠ 0) : let t := tileStop n s
    t.get (F.TILE_SEQ_STAT_STATE n) = 0 ∧ t.get (F.TILE_SEQ_STAT_HALT_REASON n) = 3 ∧ t.out = .bench .tileHalt n :: s.out ∧
      t.tiles = s.tiles := by
  intro t
  have ht : t = tileHaltNotify n 3 s := if_neg h
  rw [ht, tileHaltNotify, State.bench_get, State.bench_get, State.bench_tiles]
  refine ⟨tileHalt_state hs, tileHalt_reason hs (by decide), ?_, tileHalt_tiles n 3 s⟩
  rw [tileHalt_of_stop, State.bench, State.emit_out, State.set_out, State.clear_out]

theorem tileStop_of_halted (h : s.get (F.TILE_SEQ_STAT_STATE n) = 0) : tileStop n s = s := if_pos h

end Stop

/-! ### The windows of the vector engine (R578) -/

section VeWindow

variable {s : State} {n off i k : Nat} {v : Word} {w : VeWin}

theorem veWin_treg (hi : i < 8) (hk : k < 128) : veWin (0xA000 + 512 * i + 4 * k) = some (.treg i (4 * k)) := by
  have hreg : (0xA000 + 512 * i + 4 * k - 0xA000) / 0x200 = i := by omega
  have hbyte : (0xA000 + 512 * i + 4 * k - 0xA000) % 0x200 = 4 * k := by omega
  rw [veWin, if_neg (by omega), if_pos (by omega), hreg, hbyte]

theorem veWin_acc (hk : k < 1024) : veWin (0xB400 + 4 * k) = some (.acc k) := by
  have hword : (0xB400 + 4 * k - 0xB400) / 4 = k := by omega
  rw [veWin, if_neg (by omega), if_neg (by omega), if_neg (by omega), if_pos (by omega), hword]

theorem exec_veWindowAccess_of_on (hon : s.tileOn n = true) (hw : veWin off = some w) (wr : Bool) :
    exec (.veWindowAccess n off wr v) s = .next (veAccess n off wr v w s) := by
  rw [exec_veWindowAccess, execVeWindowAccess]
  simp only [hw, Nat.not_le.2 (State.tileOn_lt hon), hon, Bool.not_true, Bool.false_eq_true, if_false]

theorem veAccess_read (hhalt : tileHalted s n = true) : veAccess n off false v w s =
    s.emit (.read .bench (0x2000000 + n * 0x10000 + off) (veRead s n w)) := by
  simp only [veAccess, hhalt, Bool.not_true, Bool.false_eq_true, if_false]

theorem veAccess_write (hhalt : tileHalted s n = true) : veAccess n off true v w s = veWrite n v w s := by
  simp only [veAccess, hhalt, Bool.not_true, Bool.false_eq_true, if_false, if_true]

theorem veAccess_read_refused (hhalt : tileHalted s n = false) : veAccess n off false v w s =
    (s.raise (F.VE_STAT_REFUSED n)).emit (.read .bench (0x2000000 + n * 0x10000 + off) 0) := by
  simp only [veAccess, hhalt, Bool.not_false, if_true, Bool.false_eq_true, if_false]

theorem veAccess_write_refused (hhalt : tileHalted s n = false) :
    veAccess n off true v w s = s.raise (F.VE_STAT_REFUSED n) := by
  simp only [veAccess, hhalt, Bool.not_false, if_true]

theorem State.Ok.tile_acc (hs : s.Ok) (hn : n < 192) : sparseWf (fun _ => 0) (s.tile n).cim.acc = true := by
  have hmem : s.tile n ∈ s.tiles := by
    rw [State.tile, List.getD_eq_getElem _ _ (hs.tile_lt hn)]
    exact List.getElem_mem _
  exact (hs.tile _ hmem).2.2

/-- A word written to an accumulator's window is that accumulator's, and no other changes. -/
theorem veWrite_acc_effect (hs : s.Ok) (hn : n < 192) (k : Nat) (v : Word) : let t := veWrite n v (.acc k) s
    (∀ j, (t.tile n).cim.accOf j = if j = k then v else (s.tile n).cim.accOf j) ∧ t.regs = s.regs ∧ t.seq n = s.seq n := by
  intro t
  have htile : t.tile n = { s.tile n with cim := { (s.tile n).cim with
      acc := sparsePut (fun _ => 0) (s.tile n).cim.acc k v, badAcc := (s.tile n).cim.badAcc.filter (· ≠ k) } } :=
    State.tile_setTile_same _ _ _ (hs.tile_lt hn)
  refine ⟨fun j => ?_, rfl, ?_⟩
  · rw [htile]
    exact sparseGet_put (hs.tile_acc hn) k v j
  · rw [State.seq, htile, State.seq]

end VeWindow

end Sys2Proof.Machine

/-!
PROOF. RESET of a tile (09 R369; log entry 57): what a reset of the arrays touches, and the reset state of the tile.
-/

namespace Sys2Proof.Machine

/-- Dropping registers gives them their reset values. -/
theorem sparseGet_dropKeys {α : Type} (d : Nat → α) (p : Nat → Bool) (l : List (Nat × α)) (k : Nat) :
    sparseGet d (l.filter (fun e => !p e.1)) k = if p k = true then d k else sparseGet d l k := by
  induction l with
  | nil => exact (ite_self (d k)).symm
  | cons e l ih =>
    by_cases hp : p e.1 = true
    · rw [List.filter_cons_of_neg (by simp [hp]), ih, sparseGet]
      by_cases hk : e.1 = k
      · rw [if_pos (hk ▸ hp), if_pos (hk ▸ hp)]
      · rw [if_neg hk]
    · rw [List.filter_cons_of_pos (by simpa using hp), sparseGet, sparseGet, ih]
      by_cases hk : e.1 = k
      · rw [if_pos hk, if_pos hk, if_neg (hk ▸ hp)]
      · rw [if_neg hk, if_neg hk]

theorem State.reg_dropRegs (s : State) (p : Nat → Bool) (k : Nat) :
    (s.dropRegs p).reg k = if p k = true then regReset k else s.reg k := sparseGet_dropKeys _ _ _ _

theorem State.dropRegs_tile (s : State) (p : Nat → Bool) (m : Nat) : (s.dropRegs p).tile m = s.tile m := rfl

theorem State.tile_setCim_same {s : State} {n : Nat} (hn : n < s.tiles.length) (c : Cim) :
    (s.setCim n c).tile n = { s.tile n with cim := c } := State.tile_setTile_same _ _ _ hn

/-! ### What the arrays of a tile may change -/

theorem cimReg_of_le {n k : Nat} (h : 0x2002000 + n * 0x10000 ≤ k) (h' : k < 0x2005000 + n * 0x10000) : cimReg n k = true := by
  rw [cimReg, Bool.and_eq_true, decide_eq_true_eq, decide_eq_true_eq]
  omega

theorem cimReg_below {n k : Nat} (h : k < 0x2002000 + n * 0x10000) : cimReg n k = false := by
  rw [cimReg, Bool.and_eq_false_iff, decide_eq_false_iff_not]
  omega

theorem cimReg_pgmBusy (n : Nat) {a : Nat} (ha : a < 4) : cimReg n (F.CIM_A_PGM_BUSY n a).off = true := by
  refine cimReg_of_le ?_ ?_ <;> simp only [F.CIM_A_PGM_BUSY] <;> omega

theorem cimReg_pgmQueued (n : Nat) {a : Nat} (ha : a < 4) : cimReg n (F.CIM_A_PGM_QUEUED n a).off = true := cimReg_pgmBusy n ha

theorem cimReg_spareBusy (n : Nat) {a : Nat} (ha : a < 4) : cimReg n (F.CIM_TS_SP_CTL_BUSY n a).off = true := by
  refine cimReg_of_le ?_ ?_ <;> simp only [F.CIM_TS_SP_CTL_BUSY] <;> omega

/-- From `s` to `t` only the arrays of tile `n`, their registers and the state of no tile change. -/
structure State.CimOnly (n : Nat) (s t : State) : Prop where
  length : t.tiles.length = s.tiles.length
  others : ∀ m, m ≠ n → t.tile m = s.tile m
  mem : (t.tile n).mem = (s.tile n).mem
  imem : (t.tile n).imem = (s.tile n).imem
  seq : t.seq n = s.seq n
  ne : t.ne n = s.ne n
  reg : ∀ k, cimReg n k = false → t.reg k = s.reg k

namespace State.CimOnly

variable {n a : Nat} {s t u : State}

theorem refl (n : Nat) (s : State) : CimOnly n s s := ⟨rfl, fun _ _ => rfl, rfl, rfl, rfl, rfl, fun _ _ => rfl⟩

theorem trans (h : CimOnly n s t) (g : CimOnly n t u) : CimOnly n s u :=
  ⟨g.length.trans h.length, fun m hm => (g.others m hm).trans (h.others m hm), g.mem.trans h.mem, g.imem.trans h.imem,
    g.seq.trans h.seq, g.ne.trans h.ne, fun k hk => (g.reg k hk).trans (h.reg k hk)⟩

theorem foldl {α : Type} {f : State → α → State} {l : List α} (h : ∀ a ∈ l, ∀ s, CimOnly n s (f s a)) :
    ∀ s, CimOnly n s (l.foldl f s) := by
  induction l with
  | nil => exact fun s => refl n s
  | cons a l ih =>
    exact fun s => (h a (.head _) s).trans (ih (fun b hb => h b (.tail _ hb)) _)

/-- Registers of the arrays alone. -/
theorem of_tiles (htiles : t.tiles = s.tiles) (hreg : ∀ k, cimReg n k = false → t.reg k = s.reg k) : CimOnly n s t :=
  have htile := State.tile_eq_of_tiles htiles
  ⟨congrArg _ htiles, fun m _ => htile m, congrArg Tile.mem (htile n), congrArg Tile.imem (htile n),
    congrArg Tile.seq (htile n), congrArg Tile.ne (htile n), hreg⟩

theorem set (s : State) {f : Fld} (hf : cimReg n f.off = true) (v : Nat) : CimOnly n s (s.set f v) :=
  of_tiles rfl fun k hk => s.reg_set_of_off_ne f v fun hoff => by simp [hoff, hf] at hk

theorem setCim (n : Nat) (s : State) (c : Cim) : CimOnly n s (s.setCim n c) := by
  by_cases hn : n < s.tiles.length
  · have htile := State.tile_setCim_same hn c
    exact ⟨State.setTile_tiles_length _ _ _, fun m hm => State.tile_setTile_ne _ _ _ _ hm.symm, by rw [htile], by rw [htile],
      by rw [State.seq, htile, State.seq], by rw [State.ne, htile, State.ne], fun _ _ => rfl⟩
  · rw [State.setCim, State.setTile_of_out (Nat.not_lt.1 hn)]
    exact refl n s

theorem setFreeCtr (n : Nat) (s : State) (x : Nat) : CimOnly n s (s.setFreeCtr x) := of_tiles rfl fun _ _ => rfl

theorem setCimq (n : Nat) (s : State) (x : List (Nat × Nat)) : CimOnly n s (s.setCimq x) := of_tiles rfl fun _ _ => rfl

theorem setArr (n a : Nat) (s : State) (x : CimArray) : CimOnly n s (s.setArr n a x) := setCim n s _

theorem stopRow (ha : a < 4) (s : State) : CimOnly n s (stopRow n a s) := by
  rw [Machine.stopRow]
  split
  · exact refl n s
  · exact ((setFreeCtr n s _).trans (setArr n a _ _)).trans
      (set _ (cimReg_pgmBusy n ha) 0)

theorem dropQueued (ha : a < 4) (s : State) : CimOnly n s (dropQueued n a s) :=
  ((setCimq n s _).trans (setArr n a _ _)).trans (set _ (cimReg_pgmQueued n ha) 0)

theorem endSession (ha : a < 4) (s : State) : CimOnly n s (endSession n a s) := by
  have hqueued : CimOnly n s (Machine.dropQueued n a (Machine.stopRow n a s)) := (stopRow ha s).trans (dropQueued ha _)
  rw [Machine.endSession]
  split
  · exact hqueued.trans (setArr n a _ _)
  · exact hqueued

theorem stopSpare (ha : a < 4) (s : State) : CimOnly n s (stopSpare n a s) := by
  rw [Machine.stopSpare]
  split
  · exact refl n s
  · exact ((setFreeCtr n s _).trans (setArr n a _ _)).trans
      (set _ (cimReg_spareBusy n ha) 0)

theorem dropRegs (n : Nat) (s : State) : CimOnly n s (s.dropRegs (cimReg n)) :=
  of_tiles rfl fun k hk => by rw [State.reg_dropRegs, hk, if_neg Bool.false_ne_true]

end State.CimOnly

/-- Array `a` at a reset of tile `n`: its session and its spare end, and its banks are valid where a seal stands. -/
def resetArray (n : Nat) (s : State) (a : Nat) : State :=
  let s := stopSpare n a (endSession n a s)
  let x := s.arr n a
  let bySeal := fun (b : Bank) =>
    { b with state := if b.tag.isSome then .valid else .invalid, gamma := 0, beta := 0, conv := false, stamp := 0 }
  s.setArr n a { a := bySeal x.a, b := bySeal x.b }

/-- The arrays of tile `n` reset, one after the other. -/
def resetArrays (n : Nat) (s : State) : State := (List.range 4).foldl (resetArray n) s

theorem cimReset_eq (n : Nat) (s : State) : cimReset n s =
    ((resetArrays n s).setCim n { arrays := ((resetArrays n s).tile n).cim.arrays }).dropRegs (cimReg n) := by
  unfold cimReset resetArrays resetArray
  rfl

theorem resetArrays_cimOnly (n : Nat) (s : State) : s.CimOnly n (resetArrays n s) :=
  .foldl (fun _ ha s => ((State.CimOnly.endSession (List.mem_range.1 ha) s).trans (.stopSpare (List.mem_range.1 ha) _)).trans
    (.setArr n _ _ _)) s

theorem cimReset_cimOnly (n : Nat) (s : State) : s.CimOnly n (cimReset n s) := by
  rw [cimReset_eq]
  exact ((resetArrays_cimOnly n s).trans (.setCim n _ _)).trans (.dropRegs n _)

/-- A reset clears every accumulator. -/
theorem cimReset_accOf {n : Nat} {s : State} (hn : n < s.tiles.length) (k : Nat) : ((cimReset n s).tile n).cim.accOf k = 0 := by
  have hlen : n < (resetArrays n s).tiles.length := by rwa [(resetArrays_cimOnly n s).length]
  have hcim : ((cimReset n s).tile n).cim = { arrays := ((resetArrays n s).tile n).cim.arrays } := by
    rw [cimReset_eq, State.dropRegs_tile, State.tile_setCim_same hlen]
  rw [hcim]
  rfl

/-! ### The reset state of a tile -/

section Reset

variable {s : State} {n : Nat}

theorem exec_tileReset_of_on (hon : s.tileOn n = true) : exec (.tileReset .bench n) s = .next (tileResetWrite n s) := by
  rw [exec_tileReset, execTileReset, State.guardTile_bench hon]

theorem tileResetWrite_of_running (h : tileHalted s n = false) : tileResetWrite n s = s.raise (F.TILE_SEQ_CTL_REFUSED n) := by
  simp [tileResetWrite, h]

theorem tileResetWrite_of_halted (h : tileHalted s n = true) : tileResetWrite n s = tileReset n s := by
  simp [tileResetWrite, h]

/-- The engine is off in its reset state. -/
theorem neCtl_resets_off : ∀ n < 192, bitsOf (regReset (F.NE_CTL_EN n).off).toNat 0 0 = 0 := by decide +kernel

theorem engineReg_of_le {k : Nat} (h : 0x2000100 + n * 0x10000 ≤ k) (h' : k < 0x2000800 + n * 0x10000) : engineReg n k = true := by
  rw [engineReg, Bool.or_eq_true, Bool.and_eq_true, decide_eq_true_eq, decide_eq_true_eq]
  omega

theorem engineReg_below {k : Nat} (h : k < 0x2000100 + n * 0x10000) : engineReg n k = false := by
  simp only [engineReg, Bool.or_eq_false_iff, Bool.and_eq_false_iff, decide_eq_false_iff_not]
  omega

/-- The sequencer's state after a reset, before its status is cleared. -/
abbrev seqCleared (n : Nat) (s : State) : State := s.setSeq n { epoch := (s.seq n).epoch }

theorem seqReset_eq (n : Nat) (s : State) : seqReset n s =
    ((seqCleared n s).clear (F.TILE_SEQ_STAT_STATE n)).clear (F.TILE_SEQ_STAT_HALT_REASON n) := rfl

theorem seqReset_length : (seqReset n s).tiles.length = s.tiles.length := by
  rw [seqReset_eq, State.clear_tiles, State.clear_tiles, State.setSeq_tiles_length]

theorem seqReset_tile (m : Nat) : (seqReset n s).tile m = (seqCleared n s).tile m := by
  rw [seqReset_eq, State.tile, State.clear_tiles, State.clear_tiles, State.tile]

theorem seqCleared_tile (hn : n < s.tiles.length) : (seqCleared n s).tile n = { s.tile n with seq := { epoch := (s.seq n).epoch } } := by
  rw [seqCleared, State.setSeq, State.tile_setTile_same _ _ _ hn]

/-- The tile before its arrays are reset: its sequencer and its engine in their reset state. -/
abbrev coreReset (n : Nat) (s : State) : State := (neReset n (seqReset n s)).dropRegs (engineReg n)

theorem coreReset_tile (hn : n < s.tiles.length) : (coreReset n s).tile n =
    { s.tile n with seq := { epoch := (s.seq n).epoch }, ne := { badWords := (s.ne n).badWords } } := by
  have hlen : n < (seqReset n s).tiles.length := by rwa [seqReset_length]
  rw [State.dropRegs_tile, neReset, State.setNe, State.tile_setTile_same _ _ _ hlen, State.ne, seqReset_tile, seqCleared_tile hn, State.ne]

theorem coreReset_others {m : Nat} (hm : m ≠ n) : (coreReset n s).tile m = s.tile m := by
  rw [State.dropRegs_tile, neReset, State.setNe, State.tile_setTile_ne _ _ _ _ hm.symm, seqReset_tile, seqCleared, State.setSeq,
    State.tile_setTile_ne _ _ _ _ hm.symm]

theorem coreReset_length : (coreReset n s).tiles.length = s.tiles.length := by
  rw [State.dropRegs_tiles, neReset, State.setNe, State.setTile_tiles_length, seqReset_length]

theorem coreReset_seqStat : (coreReset n s).reg (F.TILE_SEQ_STAT_STATE n).off = (seqReset n s).reg (F.TILE_SEQ_STAT_STATE n).off := by
  rw [State.reg_dropRegs, engineReg_below (by simp only [F.TILE_SEQ_STAT_STATE]; omega), if_neg Bool.false_ne_true, neReset,
    State.setNe_reg]

theorem coreReset_neCtl : (coreReset n s).reg (F.NE_CTL_EN n).off = regReset (F.NE_CTL_EN n).off := by
  rw [State.reg_dropRegs, engineReg_of_le (k := (F.NE_CTL_EN n).off) (Nat.le_refl _) (by simp only [F.NE_CTL_EN]; omega), if_pos rfl]

theorem seqReset_state (hs : s.regsWf) : (seqReset n s).get (F.TILE_SEQ_STAT_STATE n) = 0 := by
  have hwf := State.setSeq_regsWf hs n { epoch := (s.seq n).epoch }
  rw [seqReset_eq, State.clear, State.get_set_ne (State.clear_regsWf hwf _) _ _ _ (haltReason_ok n)
    (by simp [Fld.apart, F.TILE_SEQ_STAT_STATE, F.TILE_SEQ_STAT_HALT_REASON]), State.get_clear_same hwf _ (seqState_ok n)]

theorem seqReset_reason (hs : s.regsWf) : (seqReset n s).get (F.TILE_SEQ_STAT_HALT_REASON n) = 0 :=
  State.get_clear_same (State.clear_regsWf (State.setSeq_regsWf hs n _) _) _ (haltReason_ok n)

theorem tileReset_effect (hs : s.regsWf) (hlt : n < 192) (hn : n < s.tiles.length) : let t := tileReset n s
    t.seq n = { epoch := (s.seq n).epoch } ∧ t.get (F.TILE_SEQ_STAT_STATE n) = 0 ∧ t.get (F.TILE_SEQ_STAT_HALT_REASON n) = 0 ∧
      (t.tile n).mem = (s.tile n).mem ∧ (t.tile n).imem = (s.tile n).imem ∧ (t.ne n).queue = [] ∧ (t.ne n).outq = [] ∧
      (∀ k, (t.tile n).cim.accOf k = 0) ∧ t.get (F.NE_CTL_EN n) = 0 ∧ (∀ m, m ≠ n → t.tile m = s.tile m) := by
  intro t
  have hcim : (coreReset n s).CimOnly n t := cimReset_cimOnly n _
  have htile := coreReset_tile hn
  have hseq : (coreReset n s).seq n = { epoch := (s.seq n).epoch } := by rw [State.seq, htile]
  have hne : (coreReset n s).ne n = { badWords := (s.ne n).badWords } := by rw [State.ne, htile]
  have hstat : t.reg (F.TILE_SEQ_STAT_STATE n).off = (seqReset n s).reg (F.TILE_SEQ_STAT_STATE n).off :=
    (hcim.reg _ (cimReg_below (by simp only [F.TILE_SEQ_STAT_STATE]; omega))).trans coreReset_seqStat
  have hctl : t.reg (F.NE_CTL_EN n).off = regReset (F.NE_CTL_EN n).off :=
    (hcim.reg _ (cimReg_below (by simp only [F.NE_CTL_EN]; omega))).trans coreReset_neCtl
  refine ⟨hcim.seq.trans hseq, ?_, ?_, ?_, ?_, ?_, ?_, fun k => cimReset_accOf (coreReset_length.symm ▸ hn) k, ?_,
    fun m hm => (hcim.others m hm).trans (coreReset_others hm)⟩
  · rw [State.get, hstat]
    exact seqReset_state hs
  · rw [State.get, show (F.TILE_SEQ_STAT_HALT_REASON n).off = (F.TILE_SEQ_STAT_STATE n).off from rfl, hstat]
    exact seqReset_reason hs
  · rw [hcim.mem, htile]
  · rw [hcim.imem, htile]
  · rw [hcim.ne, hne]
  · rw [hcim.ne, hne]
  · rw [State.get, hctl]
    exact neCtl_resets_off n hlt

end Reset

end Sys2Proof.Machine

/-!
PROOF. HOLD, QUIESCE and RESUME of a tile's engine, and its enable (18 R688 to R694, R719; 11 R473).
-/

namespace Sys2Proof.Machine

theorem exec_tileHold (a : Agent) (n : Nat) (s : State) : exec (.tileHold a n) s = execTileHold a n s := rfl
theorem exec_tileQuiesce (a : Agent) (n : Nat) (s : State) : exec (.tileQuiesce a n) s = execTileQuiesce a n s := rfl
theorem exec_tileResume (a : Agent) (n : Nat) (b : Bool) (s : State) : exec (.tileResume a n b) s = execTileResume a n b s := rfl
theorem exec_fenceLate (n : Nat) (s : State) : exec (.fenceLate n) s = execFenceLate n s := rfl
theorem exec_neEnable (a : Agent) (n : Nat) (s : State) : exec (.neEnable a n) s = execNeEnable a n s := rfl
theorem exec_neDisable (a : Agent) (n : Nat) (s : State) : exec (.neDisable a n) s = execNeDisable a n s := rfl

theorem State.flag_clear_of_off_ne (s : State) (f g : Fld) (h : g.off ≠ f.off) : (s.clear f).flag g = s.flag g :=
  s.flag_set_of_off_ne f g 0 h

@[simp] theorem State.raise_tile (s : State) (f : Fld) (n : Nat) : (s.raise f).tile n = s.tile n := State.set_tile s f 1 n

@[simp] theorem State.clear_tile (s : State) (f : Fld) (n : Nat) : (s.clear f).tile n = s.tile n := State.set_tile s f 0 n

@[simp] theorem State.raise_ne (s : State) (f : Fld) (n : Nat) : (s.raise f).ne n = s.ne n := by rw [State.ne, State.raise_tile, State.ne]

@[simp] theorem State.set_T (s : State) (f : Fld) (v : Nat) : (s.set f v).T = s.T := by rw [State.T, State.set_tb, State.T]

theorem State.clear_writes (s : State) (f : Fld) : s.Writes [f.off] (s.clear f) := (State.Writes.refl s _).set (.head _) 0

theorem State.raise_writes (s : State) (f : Fld) : s.Writes [f.off] (s.raise f) := (State.Writes.refl s _).set (.head _) 1

/-! ### Regions of the engine -/

/-- A region is what its two registers say. -/
theorem regionOf_of_regs {s t : State} {n r : Nat} (hreg : t.reg (F.NE_REG0_TBASE n r).off = s.reg (F.NE_REG0_TBASE n r).off)
    (hfmt : t.reg (F.NE_REG4_VALID n r).off = s.reg (F.NE_REG4_VALID n r).off) : regionOf t n r = regionOf s n r := by
  have hreg' {f : Fld} (hf : f.off = (F.NE_REG0_TBASE n r).off) : t.get f = s.get f := by rw [State.get, State.get, hf, hreg]
  have hfmt' {f : Fld} (hf : f.off = (F.NE_REG4_VALID n r).off) : t.get f = s.get f := by rw [State.get, State.get, hf, hfmt]
  rw [regionOf, regionOf, State.flag, State.flag, hfmt' rfl, hreg' rfl, hreg' (f := F.NE_REG0_CNT n r) rfl,
    hfmt' (f := F.NE_REG4_MBASE n r) rfl, hfmt' (f := F.NE_REG4_FMT n r) rfl, hfmt' (f := F.NE_REG4_K n r) rfl,
    hfmt' (f := F.NE_REG4_CLASS n r) rfl, hfmt' (f := F.NE_REG4_VTYPE n r) rfl]

/-- The registers of tile `n` outside its table of regions. -/
def offRegions (n k : Nat) : Prop := k < 0x2000140 + n * 0x10000 ∨ 0x2000180 + n * 0x10000 ≤ k

theorem regionsOf_of_writes {s t : State} {n : Nat} {l : List Nat} (h : s.Writes l t) (hl : ∀ k ∈ l, offRegions n k) :
    regionsOf t n = regionsOf s n := by
  refine List.filterMap_congr fun r hr => ?_
  have hr' : r < 8 := List.mem_range.1 hr
  exact regionOf_of_regs
    (h.reg _ fun hk => by have := hl _ hk; simp only [offRegions, F.NE_REG0_TBASE] at this; omega)
    (h.reg _ fun hk => by have := hl _ hk; simp only [offRegions, F.NE_REG4_VALID] at this; omega)

/-! ### Steps of the engine that leave its queue and the rest of its tile -/

/-- From `s` to `t` only the engine of tile `n` changes, and not its queue. -/
structure State.NeOnly (n : Nat) (s t : State) : Prop where
  length : t.tiles.length = s.tiles.length
  regs : t.regs = s.regs
  time : t.T = s.T
  mem : (t.tile n).mem = (s.tile n).mem
  seq : t.seq n = s.seq n
  queue : (t.ne n).queue = (s.ne n).queue

namespace State.NeOnly

variable {n : Nat} {s t u : State}

theorem refl (n : Nat) (s : State) : NeOnly n s s := ⟨rfl, rfl, rfl, rfl, rfl, rfl⟩

theorem trans (h : NeOnly n s t) (g : NeOnly n t u) : NeOnly n s u :=
  ⟨g.length.trans h.length, g.regs.trans h.regs, g.time.trans h.time, g.mem.trans h.mem, g.seq.trans h.seq, g.queue.trans h.queue⟩

theorem foldl {α : Type} {f : State → α → State} (h : ∀ s a, NeOnly n s (f s a)) (l : List α) : ∀ s, NeOnly n s (l.foldl f s) := by
  induction l with
  | nil => exact fun s => refl n s
  | cons a l ih => exact fun s => (h s a).trans (ih _)

theorem setNe {x : Neuron} (hx : x.queue = (s.ne n).queue) : NeOnly n s (s.setNe n x) := by
  by_cases hn : n < s.tiles.length
  · have htile : (s.setNe n x).tile n = { s.tile n with ne := x } := State.tile_setTile_same _ _ _ hn
    exact ⟨State.setTile_tiles_length _ _ _, rfl, rfl, by rw [htile], by rw [State.seq, htile, State.seq],
      by rw [State.ne_setNe_same hn, hx]⟩
  · rw [State.setNe, State.setTile_of_out (Nat.not_lt.1 hn)]
    exact refl n s

theorem flag (h : NeOnly n s t) (f : Fld) : t.flag f = s.flag f := by rw [State.flag, State.get, State.reg, h.regs]; rfl

theorem writes (h : NeOnly n s t) : s.Writes [] t := (State.Writes.refl s []).of_regs h.regs

theorem regionsOf (h : NeOnly n s t) (m : Nat) : regionsOf t m = regionsOf s m := regionsOf_of_writes h.writes fun _ hk => nomatch hk

end State.NeOnly

section Sweep

variable {s : State} {n : Nat}

theorem sweepStart_neOnly (n : Nat) (s : State) : s.NeOnly n (sweepStart n s) := by
  rw [sweepStart]
  split
  · exact .refl n s
  · exact .setNe rfl

theorem sweepStart_horizon (hn : n < s.tiles.length) : ((sweepStart n s).ne n).horizon = (s.ne n).horizon := by
  rw [sweepStart]
  split
  · rfl
  · rw [State.ne_setNe_same hn]

theorem sweepStart_ne {r : Region} {l : List Region} (hn : n < s.tiles.length) (h : regionsOf s n = r :: l) :
    (sweepStart n s).ne n = { s.ne n with sweeping := true, region := r.ix, pos := 0, passStart := s.T } := by
  rw [sweepStart, h]
  exact State.ne_setNe_same hn _

end Sweep

/-! ### HOLD and QUIESCE (R690, R691) -/

section Hold

variable {s : State} {n : Nat}

theorem hold_ok (n : Nat) : (F.TILE_CHG_CTL_HOLD n).ok := bit_ok _ (by decide)
theorem quiesce_ok (n : Nat) : (F.TILE_CHG_CTL_QUIESCE n).ok := bit_ok _ (by decide)
theorem hload_ok (n : Nat) : (F.TILE_CHG_CTL_HLOAD n).ok := bit_ok _ (by decide)
theorem held_ok (n : Nat) : (F.TILE_CHG_STAT_HELD n).ok := bit_ok _ (by decide)
theorem neEn_ok (n : Nat) : (F.NE_CTL_EN n).ok := bit_ok _ (by decide)

/-- The engine is to be held: HOLD, or QUIESCE with an empty queue and the fences done or late. -/
def holdDue (s : State) (n : Nat) : Bool :=
  s.flag (F.TILE_CHG_CTL_HOLD n) || (s.flag (F.TILE_CHG_CTL_QUIESCE n) && (s.ne n).queue.isEmpty
    && (s.flag (F.EVF_FENCE_RX_DONE n) || s.flag (F.TILE_CHG_STAT_FENCE_LATE n)))

theorem settleHold_eq (n : Nat) (s : State) : settleHold n s = if holdDue s n = true then s.raise (F.TILE_CHG_STAT_HELD n) else s := rfl

theorem settleHold_tiles (n : Nat) (s : State) : (settleHold n s).tiles = s.tiles := by
  rw [settleHold_eq]
  split
  · exact State.raise_tiles _ _
  · rfl

theorem settleHold_out (n : Nat) (s : State) : (settleHold n s).out = s.out := by
  rw [settleHold_eq]
  split
  · exact State.raise_out _ _
  · rfl

theorem settleHold_flag {f : Fld} (hf : f.off ≠ (F.TILE_CHG_STAT_HELD n).off) : (settleHold n s).flag f = s.flag f := by
  rw [settleHold_eq]
  split
  · exact State.flag_raise_of_off_ne _ _ _ hf
  · rfl

theorem settleHold_held (hs : s.regsWf) : (settleHold n s).flag (F.TILE_CHG_STAT_HELD n) = true ↔
    s.flag (F.TILE_CHG_STAT_HELD n) = true ∨ holdDue s n = true := by
  rw [settleHold_eq]
  split
  · next h => simp [State.flag_raise hs _ (held_ok n), h]
  · next h => simp [h]

theorem exec_tileHold_of_on (hon : s.tileOn n = true) :
    exec (.tileHold .bench n) s = .next (settleHold n (s.raise (F.TILE_CHG_CTL_HOLD n))) := by
  rw [exec_tileHold, execTileHold, State.guardTile_bench hon]

theorem exec_tileQuiesce_of_on (hon : s.tileOn n = true) :
    exec (.tileQuiesce .bench n) s = .next (settleHold n (s.raise (F.TILE_CHG_CTL_QUIESCE n))) := by
  rw [exec_tileQuiesce, execTileQuiesce, State.guardTile_bench hon]

theorem hold_effect (hs : s.regsWf) : let t := settleHold n (s.raise (F.TILE_CHG_CTL_HOLD n))
    t.flag (F.TILE_CHG_CTL_HOLD n) = true ∧ t.flag (F.TILE_CHG_STAT_HELD n) = true ∧ t.tiles = s.tiles ∧ t.out = s.out := by
  have hhold := State.flag_raise hs _ (hold_ok n)
  refine ⟨(settleHold_flag (seqReg_apart (by decide) n)).trans hhold, ?_,
    (settleHold_tiles _ _).trans (State.raise_tiles _ _), (settleHold_out _ _).trans (State.raise_out _ _)⟩
  exact (settleHold_held (State.raise_regsWf hs _)).2 (.inr (by simp [holdDue, hhold]))

theorem quiesce_effect (hs : s.regsWf) (hn : n < 192) (hhold : s.flag (F.TILE_CHG_CTL_HOLD n) = false) :
    let t := settleHold n (s.raise (F.TILE_CHG_CTL_QUIESCE n))
    t.flag (F.TILE_CHG_CTL_QUIESCE n) = true ∧ t.tiles = s.tiles ∧ (t.flag (F.TILE_CHG_STAT_HELD n) = true ↔
      s.flag (F.TILE_CHG_STAT_HELD n) = true ∨
        ((s.ne n).queue = [] ∧ (s.flag (F.EVF_FENCE_RX_DONE n) = true ∨ s.flag (F.TILE_CHG_STAT_FENCE_LATE n) = true))) := by
  have hquiesce := State.flag_raise hs _ (quiesce_ok n)
  have hkept : (s.raise (F.TILE_CHG_CTL_QUIESCE n)).flag (F.TILE_CHG_CTL_HOLD n) = s.flag (F.TILE_CHG_CTL_HOLD n) :=
    State.flag_set_ne hs _ _ _ (quiesce_ok n) (by simp [Fld.apart, F.TILE_CHG_CTL_QUIESCE, F.TILE_CHG_CTL_HOLD])
  have hdone := s.flag_raise_of_off_ne (F.TILE_CHG_CTL_QUIESCE n) (F.EVF_FENCE_RX_DONE n)
    (by simp only [F.TILE_CHG_CTL_QUIESCE, F.EVF_FENCE_RX_DONE]; omega)
  have hlate := s.flag_raise_of_off_ne (F.TILE_CHG_CTL_QUIESCE n) (F.TILE_CHG_STAT_FENCE_LATE n) (seqReg_apart (by decide) n)
  have hheld := s.flag_raise_of_off_ne (F.TILE_CHG_CTL_QUIESCE n) (F.TILE_CHG_STAT_HELD n) (seqReg_apart (by decide) n)
  refine ⟨(settleHold_flag (seqReg_apart (by decide) n)).trans hquiesce, (settleHold_tiles _ _).trans (State.raise_tiles _ _), ?_⟩
  rw [settleHold_held (State.raise_regsWf hs _), hheld, holdDue, hkept, hhold, hquiesce, hdone, hlate,
    State.raise_ne]
  simp

theorem exec_fenceLate_of_due (hon : s.tileOn n = true) (hquiesce : s.flag (F.TILE_CHG_CTL_QUIESCE n) = true)
    (hdone : s.flag (F.EVF_FENCE_RX_DONE n) = false) :
    exec (.fenceLate n) s = .next (((s.raise (F.TILE_CHG_STAT_FENCE_LATE n)).raise (F.TILE_CHG_STAT_HELD n)).bench .fenceLate n) := by
  rw [exec_fenceLate, execFenceLate, if_pos (by simp [hon, hquiesce, hdone])]

end Hold

/-! ### RESUME (R692 to R694) -/

section Resume

variable {s : State} {n : Nat} {b : Bool}

/-- TILE_CHG with HOLD, QUIESCE and HELD cleared. -/
abbrev holdCleared (n : Nat) (s : State) : State :=
  ((s.clear (F.TILE_CHG_CTL_HOLD n)).clear (F.TILE_CHG_CTL_QUIESCE n)).clear (F.TILE_CHG_STAT_HELD n)

/-- The horizons of the valid ring sets as TILE_CHG_H gives them. -/
def horizonsLoaded (n : Nat) (s : State) : State :=
  (ringsOf s n).foldl (fun s g => s.setNe n { s.ne n with horizon := (s.ne n).horizon.set g.ix (s.get (F.TILE_CHG_H n g.ix)) }) s

theorem horizonsLoaded_neOnly (n : Nat) (s : State) : s.NeOnly n (horizonsLoaded n s) := by
  rw [horizonsLoaded]
  refine .foldl (fun s g => ?_) _ s
  exact .setNe rfl

/-- The engine at a resume, before its first sweep pass starts. -/
def resumed (n : Nat) (b : Bool) (s : State) : State := if b = true then horizonsLoaded n (holdCleared n s) else holdCleared n s

theorem resumeEngine_eq (n : Nat) (b : Bool) (s : State) : resumeEngine n b s =
    if (resumed n b s).flag (F.NE_CTL_EN n) = true then sweepStart n (resumed n b s) else resumed n b s := rfl

theorem resumed_neOnly (n : Nat) (b : Bool) (s : State) : (holdCleared n s).NeOnly n (resumed n b s) := by
  cases b with
  | true => exact horizonsLoaded_neOnly n _
  | false => exact .refl n _

theorem resumeEngine_neOnly (n : Nat) (b : Bool) (s : State) : (holdCleared n s).NeOnly n (resumeEngine n b s) := by
  rw [resumeEngine_eq]
  split
  · exact (resumed_neOnly n b s).trans (sweepStart_neOnly n _)
  · exact resumed_neOnly n b s

theorem holdCleared_writes (n : Nat) (s : State) :
    s.Writes [(F.TILE_CHG_CTL_HOLD n).off, (F.TILE_CHG_STAT_HELD n).off] (holdCleared n s) :=
  (((s.clear_writes (F.TILE_CHG_CTL_HOLD n)).among (.head _)).trans
    ((State.clear_writes _ (F.TILE_CHG_CTL_QUIESCE n)).among (.head _))).trans
    ((State.clear_writes _ (F.TILE_CHG_STAT_HELD n)).among (.tail _ (.head _)))

theorem holdCleared_tile (n : Nat) (s : State) (m : Nat) : (holdCleared n s).tile m = s.tile m :=
  ((State.clear_tile _ _ m).trans (State.clear_tile _ _ m)).trans (State.clear_tile _ _ m)

theorem holdCleared_tiles (n : Nat) (s : State) : (holdCleared n s).tiles = s.tiles :=
  ((State.clear_tiles _ _).trans (State.clear_tiles _ _)).trans (State.clear_tiles _ _)

theorem holdCleared_T (n : Nat) (s : State) : (holdCleared n s).T = s.T :=
  ((State.set_T _ _ _).trans (State.set_T _ _ _)).trans (State.set_T _ _ _)

theorem holdCleared_flags (hs : s.regsWf) : (holdCleared n s).flag (F.TILE_CHG_CTL_HOLD n) = false ∧
    (holdCleared n s).flag (F.TILE_CHG_CTL_QUIESCE n) = false ∧ (holdCleared n s).flag (F.TILE_CHG_STAT_HELD n) = false := by
  have hhold := State.clear_regsWf hs (F.TILE_CHG_CTL_HOLD n)
  refine ⟨?_, ?_, State.flag_clear (State.clear_regsWf hhold _) _ (held_ok n)⟩
  · rw [State.flag_clear_of_off_ne _ _ _ (seqReg_apart (by decide) n), State.clear,
      State.flag_set_ne hhold _ _ _ (quiesce_ok n) (by simp [Fld.apart, F.TILE_CHG_CTL_QUIESCE, F.TILE_CHG_CTL_HOLD]),
      State.flag_clear hs _ (hold_ok n)]
  · rw [State.flag_clear_of_off_ne _ _ _ (seqReg_apart (by decide) n), State.flag_clear hhold _ (quiesce_ok n)]

theorem resumeEngine_horizon (hn : n < s.tiles.length) : ((resumeEngine n false s).ne n).horizon = (s.ne n).horizon := by
  rw [resumeEngine_eq]
  rw [show resumed n false s = holdCleared n s from rfl]
  have hn' : n < (holdCleared n s).tiles.length := by rwa [holdCleared_tiles]
  have hhorizon : ((holdCleared n s).ne n).horizon = (s.ne n).horizon := by rw [State.ne, holdCleared_tile, State.ne]
  split
  · rw [sweepStart_horizon hn', hhorizon]
  · exact hhorizon

/-- A resume with the engine enabled starts a sweep pass. -/
theorem resumeEngine_sweeps (hn : n < s.tiles.length) (hen : s.flag (F.NE_CTL_EN n) = true) (hregions : regionsOf s n ≠ []) :
    ((resumeEngine n b s).ne n).sweeping = true ∧ ((resumeEngine n b s).ne n).passStart = s.T := by
  have honly := resumed_neOnly n b s
  have hwrites := holdCleared_writes n s
  have hen' : (resumed n b s).flag (F.NE_CTL_EN n) = true := by
    rw [honly.flag, hwrites.flag (by simp [F.NE_CTL_EN, F.TILE_CHG_CTL_HOLD, F.TILE_CHG_STAT_HELD]), hen]
  have hregions' : regionsOf (resumed n b s) n = regionsOf s n := by
    rw [honly.regionsOf, regionsOf_of_writes hwrites fun k hk => ?_]
    simp only [F.TILE_CHG_CTL_HOLD, F.TILE_CHG_STAT_HELD, List.mem_cons, List.not_mem_nil, or_false] at hk
    rw [offRegions]
    omega
  obtain ⟨r, l, hl⟩ := List.exists_cons_of_ne_nil hregions
  have hlen : n < (resumed n b s).tiles.length := by rwa [honly.length, holdCleared_tiles]
  rw [resumeEngine_eq, if_pos hen', sweepStart_ne hlen (hregions'.trans hl)]
  exact ⟨rfl, honly.time.trans (holdCleared_T n s)⟩

/-- The write of a resume with its HLOAD. -/
abbrev hloadWritten (n : Nat) (b : Bool) (s : State) : State := s.set (F.TILE_CHG_CTL_HLOAD n) (b2n b)

theorem exec_tileResume_of_held (hs : s.regsWf) (hon : s.tileOn n = true)
    (hheld : s.flag (F.TILE_CHG_CTL_HOLD n) = true ∨ s.flag (F.TILE_CHG_CTL_QUIESCE n) = true) :
    exec (.tileResume .bench n b) s = .next (resumeEngine n b (hloadWritten n b s)) := by
  suffices htaken : ((hloadWritten n b s).flag (F.TILE_CHG_CTL_HOLD n) || (hloadWritten n b s).flag (F.TILE_CHG_CTL_QUIESCE n)) = true by
    rw [exec_tileResume, execTileResume, State.guardTile_bench hon]
    simp only [htaken, if_true]
  rw [State.flag_set_ne hs _ _ _ (hload_ok n) (by simp [Fld.apart, F.TILE_CHG_CTL_HLOAD, F.TILE_CHG_CTL_HOLD]),
    State.flag_set_ne hs _ _ _ (hload_ok n) (by simp [Fld.apart, F.TILE_CHG_CTL_HLOAD, F.TILE_CHG_CTL_QUIESCE]), Bool.or_eq_true]
  exact hheld

theorem resume_effect (hs : s.regsWf) (hn : n < s.tiles.length) (b : Bool) : let t := resumeEngine n b (hloadWritten n b s)
    t.flag (F.TILE_CHG_CTL_HOLD n) = false ∧ t.flag (F.TILE_CHG_CTL_QUIESCE n) = false ∧ t.flag (F.TILE_CHG_STAT_HELD n) = false ∧
      (t.ne n).queue = (s.ne n).queue ∧ t.seq n = s.seq n ∧ (t.tile n).mem = (s.tile n).mem ∧
      (b = false → (t.ne n).horizon = (s.ne n).horizon) ∧
      (s.flag (F.NE_CTL_EN n) = true → regionsOf s n ≠ [] → (t.ne n).sweeping = true ∧ (t.ne n).passStart = s.T) := by
  intro t
  have honly : (holdCleared n (hloadWritten n b s)).NeOnly n t := resumeEngine_neOnly n b _
  obtain ⟨hhold, hquiesce, hheld⟩ := holdCleared_flags (n := n) (State.set_regsWf hs (F.TILE_CHG_CTL_HLOAD n) (b2n b))
  have hwrites : s.Writes [(F.TILE_CHG_CTL_HLOAD n).off] (hloadWritten n b s) := (State.Writes.refl s _).set (.head _) _
  have hlen : n < (hloadWritten n b s).tiles.length := by rwa [State.set_tiles]
  have htile : (holdCleared n (hloadWritten n b s)).tile n = s.tile n :=
    (holdCleared_tile n _ n).trans (State.set_tile _ _ _ n)
  refine ⟨(honly.flag _).trans hhold, (honly.flag _).trans hquiesce, (honly.flag _).trans hheld, ?_, ?_, ?_, ?_, ?_⟩
  · rw [honly.queue, State.ne, htile, State.ne]
  · rw [honly.seq, State.seq, htile, State.seq]
  · rw [honly.mem, htile]
  · rintro rfl
    rw [resumeEngine_horizon hlen, State.ne, State.set_tile, State.ne]
  · intro hen hregions
    rw [← State.set_T s (F.TILE_CHG_CTL_HLOAD n) (b2n b)]
    refine resumeEngine_sweeps hlen ?_ ?_
    · rwa [hwrites.flag (by simp [F.NE_CTL_EN, F.TILE_CHG_CTL_HLOAD])]
    · rwa [regionsOf_of_writes hwrites fun k hk => ?_]
      rw [List.mem_singleton] at hk
      simp only [offRegions, hk, F.TILE_CHG_CTL_HLOAD]
      omega

end Resume

/-! ### Enable and disable of the engine (R473, R719) -/

section Enable

variable {s : State} {n : Nat}

/-- The horizons of the valid ring sets at the present tick. -/
def horizonsStarted (n : Nat) (s : State) : State :=
  (ringsOf s n).foldl (fun s g => s.setNe n { s.ne n with horizon := (s.ne n).horizon.set g.ix (s.T / 2 ^ g.w) }) s

theorem horizonsStarted_neOnly (n : Nat) (s : State) : s.NeOnly n (horizonsStarted n s) := by
  rw [horizonsStarted]
  refine .foldl (fun s g => ?_) _ s
  exact .setNe rfl

theorem exec_neEnable_of_on (hon : s.tileOn n = true) : exec (.neEnable .bench n) s = .next (neEnable n s) := by
  rw [exec_neEnable, execNeEnable, State.guardTile_bench hon]

theorem exec_neDisable_of_on (hon : s.tileOn n = true) : exec (.neDisable .bench n) s = .next (neDisable n s) := by
  rw [exec_neDisable, execNeDisable, State.guardTile_bench hon]

theorem neEnable_of_on (h : s.flag (F.NE_CTL_EN n) = true) : neEnable n s = s := if_pos h

/-- Without STAMP_INIT the engine starts with its records as they are. -/
theorem neEnable_of_off (hs : s.regsWf) (hen : s.flag (F.NE_CTL_EN n) = false) (hinit : s.flag (F.NE_CTL_STAMP_INIT n) = false) :
    neEnable n s = sweepStart n (horizonsStarted n (s.raise (F.NE_CTL_EN n))) := by
  have hinit' : (s.raise (F.NE_CTL_EN n)).flag (F.NE_CTL_STAMP_INIT n) = false := by
    rw [State.raise, State.flag_set_ne hs _ _ _ (neEn_ok n) (by simp [Fld.apart, F.NE_CTL_EN, F.NE_CTL_STAMP_INIT]), hinit]
  rw [neEnable, if_neg (by simp [hen])]
  simp only [hinit', Bool.false_eq_true, if_false]
  rfl

theorem neEnable_effect (hs : s.regsWf) (hn : n < s.tiles.length) (hen : s.flag (F.NE_CTL_EN n) = false)
    (hinit : s.flag (F.NE_CTL_STAMP_INIT n) = false) {r : Region} {l : List Region} (hregions : regionsOf s n = r :: l) :
    let t := neEnable n s
    t.flag (F.NE_CTL_EN n) = true ∧ (t.ne n).sweeping = true ∧ (t.ne n).region = r.ix ∧ (t.ne n).pos = 0 ∧ (t.ne n).passStart = s.T ∧
      (t.tile n).mem = (s.tile n).mem ∧ t.seq n = s.seq n := by
  intro t
  have hstart := horizonsStarted_neOnly n (s.raise (F.NE_CTL_EN n))
  have honly := hstart.trans (sweepStart_neOnly n _)
  have ht : t = _ := neEnable_of_off hs hen hinit
  have hregions' : regionsOf (horizonsStarted n (s.raise (F.NE_CTL_EN n))) n = r :: l := by
    rw [hstart.regionsOf, regionsOf_of_writes (s.raise_writes (F.NE_CTL_EN n)) fun k hk => ?_, hregions]
    rw [List.mem_singleton] at hk
    simp only [offRegions, hk, F.NE_CTL_EN]
    omega
  have hlen : n < (horizonsStarted n (s.raise (F.NE_CTL_EN n))).tiles.length := by rwa [hstart.length, State.raise_tiles]
  have hne := sweepStart_ne hlen hregions'
  rw [ht]
  refine ⟨(honly.flag _).trans (State.flag_raise hs _ (neEn_ok n)), ?_, ?_, ?_, ?_, ?_, ?_⟩
  · rw [hne]
  · rw [hne]
  · rw [hne]
  · rw [hne]
    exact hstart.time.trans (State.set_T _ _ _)
  · rw [honly.mem, State.raise_tile]
  · rw [honly.seq, State.seq, State.raise_tile, State.seq]

/-- A counter of the engine counts `k` more, up to its largest value. -/
theorem get_neCount (hs : s.regsWf) (c : NeCnt) (k : Nat) :
    (neCount n c k s).get (F.NE_CNT n c.ix) = min (2 ^ 32 - 1) (s.get (F.NE_CNT n c.ix) + k) := by
  rw [neCount]
  split
  · next h =>
    have hlt : s.get (F.NE_CNT n c.ix) < 2 ^ 32 := bitsOf_lt _ 31 0
    omega
  · exact State.get_incBy_same hs _ (word_ok _) k

theorem neCount_tiles (c : NeCnt) (k : Nat) : (neCount n c k s).tiles = s.tiles := by
  rw [neCount]
  split
  · rfl
  · exact State.incBy_tiles _ _ _

theorem neCount_flag (c : NeCnt) (k : Nat) {f : Fld} (hf : f.off ≠ (F.NE_CNT n c.ix).off) : (neCount n c k s).flag f = s.flag f := by
  rw [neCount]
  split
  · rfl
  · exact State.flag_set_of_off_ne _ _ _ _ hf

theorem neDisable_effect (hs : s.regsWf) (hn : n < s.tiles.length) (hen : s.flag (F.NE_CTL_EN n) = true) : let t := neDisable n s
    t.flag (F.NE_CTL_EN n) = false ∧ (t.ne n).queue = [] ∧ (t.ne n).sweeping = false ∧
      t.get (F.NE_CNT n 8) = min (2 ^ 32 - 1) (s.get (F.NE_CNT n 8) + (s.ne n).queue.length) ∧ (t.tile n).mem = (s.tile n).mem := by
  intro t
  have ht : t = (neCount n .offDrop (s.ne n).queue.length (s.clear (F.NE_CTL_EN n))).setNe n
      { s.ne n with queue := [], sweeping := false } := if_neg (by simp [hen])
  have htiles := (neCount_tiles (n := n) .offDrop (s.ne n).queue.length).trans (s.clear_tiles (F.NE_CTL_EN n))
  have hn' : n < (neCount n .offDrop (s.ne n).queue.length (s.clear (F.NE_CTL_EN n))).tiles.length := by rwa [htiles]
  have hapart : 0x2000100 + n * 0x10000 ≠ 0x2000500 + n * 0x10000 + 8 * 0x4 := by omega
  rw [ht, State.ne_setNe_same hn', State.tile_mem_setNe hn']
  refine ⟨?_, rfl, rfl, ?_, by rw [State.tile_eq_of_tiles htiles]⟩
  · exact (neCount_flag .offDrop _ hapart).trans (State.flag_clear hs _ (neEn_ok n))
  · refine (get_neCount (State.clear_regsWf hs _) .offDrop _).trans ?_
    rw [State.clear, State.get_set_of_off_ne _ _ _ _ hapart.symm]
    rfl

end Enable

end Sys2Proof.Machine

/-!
PROOF. Control of a tile and its engine, as one statement (O41).
-/

namespace Sys2Proof.Machine

section TileCommands

variable {s : State} {n : Nat} {b : Bool}

theorem exec_tileGo_of_on (hon : s.tileOn n = true) : exec (.tileGo .bench n b) s = .next (tileGo n b s) := by
  rw [exec_tileGo, execTileGo, State.guardTile_bench hon]

theorem exec_tileStop_of_on (hon : s.tileOn n = true) : exec (.tileStop .bench n) s = .next (tileStop n s) := by
  rw [exec_tileStop, execTileStop, State.guardTile_bench hon]

theorem exec_softirq_of_on (hon : s.tileOn n = true) :
    exec (.softirq .bench n) s = .next (s.setSeq n { s.seq n with ipSoft := true }) := by
  rw [exec_softirq, execSoftirq, State.guardTile_bench hon]

theorem exec_drain_of_on (hon : s.tileOn n = true) :
    exec (.drain .bench n b) s = .next (s.set (F.TILE_SEQ_CTL_DRAIN n) (b2n b)) := by
  rw [exec_drain, execDrain, State.guardTile_bench hon]

end TileCommands

/-- Settles O41: each command of Bench has its effect lemma. The order of GO, ARMED and Quench is log entry 54, what a RESET keeps
is entry 57. -/
theorem tileControl : Obligations.TileControl := by
  unfold Obligations.TileControl
  refine ⟨⟨fun s n b hs hlt hon => ⟨fun hhalt hreason => ?_, fun hdiscard => ?_, fun hrun => ?_, fun hzero => ?_, fun hrun => ?_,
      fun hhalt => ?_, exec_softirq_of_on hon, exec_drain_of_on hon⟩,
    fun s n i k v hlt hon hi hk => ⟨fun hhalt => ⟨?_, ?_⟩, fun hrun => ⟨?_, ?_⟩⟩,
    fun s n k v hs hlt hon hhalt hk => ⟨?_, ?_⟩⟩,
    fun s n hs hlt hon => ⟨?_, fun hhold => ?_, fun hheld b => ?_, exec_fenceLate_of_due hon, fun hoff hinit r rest hregions => ?_,
      fun hen => ⟨?_, ?_⟩⟩⟩
  · exact ⟨_, exec_tileGo_of_on hon, tileGo_effect hhalt hreason hs.regs (hs.tile_lt hlt)⟩
  · rw [exec_tileGo_of_on hon, tileGo_of_discarded hdiscard]
    rfl
  · exact ⟨_, exec_tileStop_of_on hon, tileStop_effect hs.regs hrun⟩
  · rw [exec_tileStop_of_on hon, tileStop_of_halted hzero]
  · rw [exec_tileReset_of_on hon, tileResetWrite_of_running hrun]
  · rw [exec_tileReset_of_on hon, tileResetWrite_of_halted hhalt]
    exact ⟨_, rfl, tileReset_effect hs.regs hlt (hs.tile_lt hlt)⟩
  · rw [exec_veWindowAccess_of_on hon (veWin_treg hi hk), veAccess_read hhalt, veRead]
  · rw [exec_veWindowAccess_of_on hon (veWin_treg hi hk), veAccess_write hhalt]
    rfl
  · rw [exec_veWindowAccess_of_on hon (veWin_treg hi hk), veAccess_read_refused hrun]
  · rw [exec_veWindowAccess_of_on hon (veWin_treg hi hk), veAccess_write_refused hrun]
  · rw [exec_veWindowAccess_of_on hon (veWin_acc hk), veAccess_read hhalt, veRead]
  · rw [exec_veWindowAccess_of_on hon (veWin_acc hk), veAccess_write hhalt]
    exact ⟨_, rfl, veWrite_acc_effect hs hlt k v⟩
  · exact ⟨_, exec_tileHold_of_on hon, hold_effect hs.regs⟩
  · exact ⟨_, exec_tileQuiesce_of_on hon, quiesce_effect hs.regs hlt hhold⟩
  · exact ⟨_, exec_tileResume_of_held hs.regs hon hheld, resume_effect hs.regs (hs.tile_lt hlt) b⟩
  · exact ⟨_, exec_neEnable_of_on hon, neEnable_effect hs.regs (hs.tile_lt hlt) hoff hinit hregions⟩
  · rw [exec_neEnable_of_on hon, neEnable_of_on hen]
  · exact ⟨_, exec_neDisable_of_on hon, neDisable_effect hs.regs (hs.tile_lt hlt) hen⟩

end Sys2Proof.Machine

/-!
PROOF. The arrays of a tile (12): an array and its banks after an update, and the program slots (R497): what uses one, which row takes one,
and what the row then holds.
-/

namespace Sys2Proof.Machine

/-! ### An array after an update -/

/-- The state has an array `a` in a tile `n`. -/
structure State.HasArr (s : State) (n a : Nat) : Prop where
  tile : n < s.tiles.length
  array : a < (s.tile n).cim.arrays.length

section Arrays

variable {s t : State} {n a : Nat}

theorem State.Sized.tile_arrays (hz : s.Sized) (hn : n < 192) : (s.tile n).cim.arrays.length = 4 := by
  have hlen : n < s.tiles.length := hz.tiles ▸ hn
  have hmem : s.tile n ∈ s.tiles := by
    rw [State.tile, List.getD_eq_getElem _ _ hlen]
    exact List.getElem_mem _
  exact (hz.tile _ hmem).2.2

theorem State.Sized.hasArr (hz : s.Sized) (hn : n < 192) (ha : a < 4) : s.HasArr n a :=
  ⟨hz.tiles ▸ hn, hz.tile_arrays hn ▸ ha⟩

theorem State.HasArr.of_tiles (h : s.HasArr n a) (ht : t.tiles = s.tiles) : t.HasArr n a :=
  ⟨ht ▸ h.tile, State.tile_eq_of_tiles ht n ▸ h.array⟩

theorem State.arr_eq_of_tiles (h : t.tiles = s.tiles) (n a : Nat) : t.arr n a = s.arr n a := by
  rw [State.arr, State.tile_eq_of_tiles h, State.arr]

@[simp] theorem State.set_arr (s : State) (f : Fld) (v n a : Nat) : (s.set f v).arr n a = s.arr n a :=
  State.arr_eq_of_tiles (State.set_tiles s f v) n a

@[simp] theorem State.raise_arr (s : State) (f : Fld) (n a : Nat) : (s.raise f).arr n a = s.arr n a := s.set_arr f 1 n a

@[simp] theorem State.clear_arr (s : State) (f : Fld) (n a : Nat) : (s.clear f).arr n a = s.arr n a := s.set_arr f 0 n a

@[simp] theorem State.setCimq_arr (s : State) (q : List (Nat × Nat)) (n a : Nat) : (s.setCimq q).arr n a = s.arr n a :=
  State.arr_eq_of_tiles (State.setCimq_tiles s q) n a

@[simp] theorem State.bench_arr (s : State) (k : Notice) (i n a : Nat) : (s.bench k i).arr n a = s.arr n a :=
  State.arr_eq_of_tiles (State.bench_tiles s k i) n a

theorem State.setArr_tile (h : n < s.tiles.length) (a : Nat) (x : CimArray) : (s.setArr n a x).tile n =
    { s.tile n with cim := { (s.tile n).cim with arrays := (s.tile n).cim.arrays.set a x } } :=
  State.tile_setCim_same h _

theorem State.arr_setArr_same (h : s.HasArr n a) (x : CimArray) : (s.setArr n a x).arr n a = x := by
  rw [State.arr, State.setArr_tile h.tile, getD_set_same _ _ _ _ h.array]

theorem State.arr_setArr_ne (h : s.HasArr n a) {b : Nat} (hb : b ≠ a) (x : CimArray) : (s.setArr n a x).arr n b = s.arr n b := by
  rw [State.arr, State.setArr_tile h.tile, getD_set_ne _ _ _ _ _ hb.symm, State.arr]

theorem State.HasArr.setArr (h : s.HasArr n a) (x : CimArray) : (s.setArr n a x).HasArr n a :=
  ⟨(State.CimOnly.setArr n a s x).length ▸ h.tile, by rw [State.setArr_tile h.tile, List.length_set]; exact h.array⟩

theorem State.setArr_regsWf (hs : s.regsWf) (n a : Nat) (x : CimArray) : (s.setArr n a x).regsWf := by
  rw [State.regsWf, State.setArr_regs]
  exact hs

end Arrays

/-! ### The banks of an array -/

section Banks

variable (x : CimArray) (k : Bool) (b : Bank)

theorem CimArray.bank_setBank_same : (x.setBank k b).bank k = b := by cases k <;> rfl

theorem CimArray.bank_setBank_other : (x.setBank (!k) b).bank k = x.bank k := by cases k <;> rfl

end Banks

/-! ### The fields of the program register -/

theorem pgmBank_ok (n a : Nat) : (F.CIM_A_PGM_BANK n a).ok := fld_ok _ (by decide)
theorem pgmBuf_ok (n a : Nat) : (F.CIM_A_PGM_BUF n a).ok := fld_ok _ (by decide)
theorem pgmRow_ok (n a : Nat) : (F.CIM_A_PGM_ROW n a).ok := fld_ok _ (by decide)
theorem pgmBusy_ok (n a : Nat) : (F.CIM_A_PGM_BUSY n a).ok := fld_ok _ (by decide)
theorem pgmQueued_ok (n a : Nat) : (F.CIM_A_PGM_QUEUED n a).ok := fld_ok _ (by decide)
theorem pgmRefused_ok (n a : Nat) : (F.CIM_A_PGM_REFUSED n a).ok := fld_ok _ (by decide)
theorem pgmFailrow_ok (n a : Nat) : (F.CIM_A_PGM_FAILROW n a).ok := fld_ok _ (by decide)
theorem pgmLoops_ok (n a : Nat) : (F.CIM_A_PGM_LOOPS n a).ok := fld_ok _ (by decide)

/-! ### Program slots (R495, R497) -/

/-- An element replaced by one with the same image leaves the images. -/
theorem map_set_same {α β : Type} {f : α → β} {l : List α} {n : Nat} {x d : α} (h : f x = f (l.getD n d)) :
    (l.set n x).map f = l.map f := by
  by_cases hn : n < l.length
  · rw [List.map_set, h, List.getD_eq_getElem _ _ hn, ← List.getElem_map f (h := by rwa [List.length_map]), List.set_getElem_self]
  · rw [List.set_eq_of_length_le (Nat.le_of_not_lt hn)]

section Slots

variable {s t : State} {n a row buf : Nat} {rest : List (Nat × Nat)}

theorem slotsUsed_of_tiles (h : t.tiles = s.tiles) : slotsUsed t = slotsUsed s := by rw [slotsUsed, h, slotsUsed]

/-- What uses a slot is the row in program and the spare in program. -/
theorem slotsUsed_setArr {x : CimArray} (hbusy : x.busy = (s.arr n a).busy) (hspare : x.spare = (s.arr n a).spare) :
    slotsUsed (s.setArr n a x) = slotsUsed s := by
  have harrays : (((s.tile n).cim.arrays.set a x).map fun y => b2n y.busy.isSome + b2n y.spare.isSome) =
      (s.tile n).cim.arrays.map fun y => b2n y.busy.isSome + b2n y.spare.isSome :=
    map_set_same (d := {}) (by rw [hbusy, hspare, State.arr])
  exact congrArg List.sum (map_set_same (d := {}) (congrArg List.sum harrays))

/-- The row buffers lie beside the program register. -/
theorem rowImage_of_writes (h : s.Writes [(F.CIM_A_PGM_BUSY n a).off] t) (buf : Nat) : rowImage t n a buf = rowImage s n a buf :=
  List.flatMap_congr fun i _ => congrArg (leBytes 4) (h.get (by
    simp only [F.CIM_ROWBUF, F.CIM_A_PGM_BUSY, List.mem_singleton]
    omega))

theorem grantSlot_of_full (h : s.get F.GLB_CIM_PGM ≤ slotsUsed s) : grantSlot s = s := by
  rw [grantSlot, if_pos h]

theorem grantSlot_of_empty (h : s.cimq = []) : grantSlot s = s := by
  rw [grantSlot, h]
  exact ite_self s

/-- The one row that waits does not start while the row before it in its array is in program. -/
theorem grantSlot_of_busy (hq : s.cimq = [(n, a)]) (h : (s.arr n a).busy ≠ none) : grantSlot s = s := by
  have hfind : s.cimq.find? (fun k => (s.arr k.1 k.2).busy.isNone) = none := by simp [hq, h]
  rw [grantSlot, hfind]
  exact ite_self s

/-- Row `row` of array `a` has taken a slot and latched buffer `buf`. -/
def rowGranted (n a row buf : Nat) (s : State) : State :=
  (((s.setCimq (s.cimq.erase (n, a))).setArr n a { s.arr n a with queued := none, busy := some ⟨row, rowImage s n a buf⟩ }).clear
    (F.CIM_A_PGM_QUEUED n a)).raise (F.CIM_A_PGM_BUSY n a)

theorem grantSlot_of_waiting (hfree : slotsUsed s < s.get F.GLB_CIM_PGM) (hq : s.cimq = (n, a) :: rest)
    (hbusy : (s.arr n a).busy = none) (hqueued : (s.arr n a).queued = some (row, buf)) : grantSlot s = rowGranted n a row buf s := by
  have hfind : s.cimq.find? (fun k => (s.arr k.1 k.2).busy.isNone) = some (n, a) := by simp [hq, hbusy]
  simp only [grantSlot, if_neg (Nat.not_le.2 hfree), hfind, hqueued, rowGranted]

theorem rowGranted_effect (hs : s.regsWf) (h : s.HasArr n a) (hq : s.cimq = (n, a) :: rest) : let t := rowGranted n a row buf s
    t.arr n a = { s.arr n a with queued := none, busy := some ⟨row, rowImage s n a buf⟩ } ∧ t.cimq = rest ∧
      t.flag (F.CIM_A_PGM_BUSY n a) = true ∧ t.flag (F.CIM_A_PGM_QUEUED n a) = false := by
  have hwf (x : CimArray) : ((s.setCimq (s.cimq.erase (n, a))).setArr n a x).regsWf :=
    State.setArr_regsWf (s := s.setCimq (s.cimq.erase (n, a))) hs n a x
  refine ⟨?_, ?_, State.flag_raise (State.clear_regsWf (hwf _) _) _ (pgmBusy_ok n a), ?_⟩
  · rw [rowGranted, State.raise_arr, State.clear_arr, State.arr_setArr_same (h.of_tiles (State.setCimq_tiles _ _))]
  · rw [rowGranted, State.raise_cimq, State.clear_cimq, State.setArr_cimq, State.setCimq_cimq, hq, List.erase_cons_head]
  · rw [rowGranted, State.raise, State.flag_set_ne (State.clear_regsWf (hwf _) _) _ _ _ (pgmBusy_ok n a)
      (by simp [Fld.apart, F.CIM_A_PGM_BUSY, F.CIM_A_PGM_QUEUED]), State.flag_clear (hwf _) _ (pgmQueued_ok n a)]

end Slots

end Sys2Proof.Machine

/-!
PROOF. Rows of a bank (12 R494 to R496, 13 R539): the cells that a row writes, its failed pairs, and what ROW_DONE leaves.
-/

namespace Sys2Proof.Machine

/-! ### Sets of numbers -/

theorem mem_setIns {l : List Nat} {k p : Nat} : p ∈ setIns l k ↔ p = k ∨ p ∈ l := by
  induction l with
  | nil => rw [setIns, List.mem_singleton, or_iff_left List.not_mem_nil]
  | cons a l ih =>
    rw [setIns]
    split
    · rw [List.mem_cons]
    · next hle =>
      split
      · next heq => rw [heq, List.mem_cons, or_self_left]
      · rw [List.mem_cons, ih, List.mem_cons, or_left_comm]

theorem mem_foldl_setIns {ks l : List Nat} {p : Nat} : p ∈ ks.foldl setIns l ↔ p ∈ l ∨ p ∈ ks := by
  induction ks generalizing l with
  | nil => rw [List.foldl_nil, or_iff_left List.not_mem_nil]
  | cons k ks ih => rw [List.foldl_cons, ih, mem_setIns, List.mem_cons, or_comm (a := p = k), or_assoc]

/-! ### The cells that a row writes (R494, R539) -/

theorem clampI_eq {lo hi : Int} (h : lo ≤ hi) (x : Int) : clampI lo hi x = max lo (min hi x) := by
  rw [clampI]
  split
  · omega
  · split <;> omega

/-- The cells after pairs `ps` of row `r` take their values. -/
def putRow (r : Nat) (v : Nat → Int) (cells : List (Nat × Int)) (ps : List Nat) : List (Nat × Int) :=
  ps.foldl (fun c p => sparsePut (fun _ => 0) c (r * 268 + p) (clampI (-15) 15 (v p))) cells

theorem foldl_put_eq (r : Nat) (v : Nat → Int) (b : Bank) (ps : List Nat) :
    ps.foldl (fun b p => b.put r p (v p)) b = { b with cells := putRow r v b.cells ps } := by
  induction ps generalizing b with
  | nil => rfl
  | cons p ps ih => exact ih (b.put r p (v p))

theorem sparseGet_putRow {row r p : Nat} {v : Nat → Int} {ps : List Nat} (hp : p < 268) (hps : ∀ q ∈ ps, q < 268) :
    ∀ {cells : List (Nat × Int)}, sparseWf (fun _ => (0 : Int)) cells = true →
      sparseGet (fun _ => 0) (putRow row v cells ps) (r * 268 + p) =
        if r = row ∧ p ∈ ps then clampI (-15) 15 (v p) else sparseGet (fun _ => 0) cells (r * 268 + p) := by
  induction ps with
  | nil => exact fun _ => (if_neg fun h => List.not_mem_nil h.2).symm
  | cons q ps ih =>
    intro cells hwf
    have hq : q < 268 := hps q (.head _)
    have hkey : r * 268 + p = row * 268 + q ↔ r = row ∧ p = q := by omega
    have hrest : sparseGet (fun _ => 0) (putRow row v cells (q :: ps)) (r * 268 + p) = _ :=
      ih (fun k hk => hps k (.tail _ hk)) (sparsePut_wf (row * 268 + q) (clampI (-15) 15 (v q)) hwf)
    rw [hrest, sparseGet_put hwf]
    simp only [hkey, List.mem_cons]
    by_cases hpq : p = q
    · subst hpq
      by_cases hr : r = row <;> simp [hr]
    · simp [hpq]

/-- The pairs of a row that a program writes: the data pairs, and the spares that substitute. -/
def writtenPairs (b : Bank) : List Nat :=
  List.range 256 ++ ((List.range 8).filter (fun i => (b.subst.getD i (0, 0)).2 == 2)).map (· + 256)

theorem mem_writtenPairs {b : Bank} {p : Nat} :
    p ∈ writtenPairs b ↔ p < 256 ∨ (256 ≤ p ∧ p < 264 ∧ (b.subst.getD (p - 256) (0, 0)).2 = 2) := by
  have hspare : (∃ i, (i < 8 ∧ (b.subst.getD i (0, 0)).2 = 2) ∧ i + 256 = p) ↔
      256 ≤ p ∧ p < 264 ∧ (b.subst.getD (p - 256) (0, 0)).2 = 2 := by
    constructor
    · rintro ⟨i, ⟨hi, hst⟩, rfl⟩
      exact ⟨by omega, by omega, by rwa [Nat.add_sub_cancel]⟩
    · rintro ⟨hle, hlt, hst⟩
      exact ⟨p - 256, ⟨by omega, hst⟩, by omega⟩
  simp only [writtenPairs, List.mem_append, List.mem_range, List.mem_map, List.mem_filter, beq_iff_eq, hspare]

theorem programRow_eq (b : Bank) (j : RowJob) : programRow b j =
    { b with unspec := b.unspec.filter (fun u => u.1 ≠ j.row),
             cells := putRow j.row (fun p => (j.image.getD p 0).toInt) b.cells (writtenPairs b) } :=
  foldl_put_eq _ _ { b with unspec := b.unspec.filter (fun u => u.1 ≠ j.row) } _

/-- A program writes the slices of its row in the pairs it serves, and no other cell. -/
theorem sparseGet_programRow {b : Bank} (hwf : sparseWf (fun _ => (0 : Int)) b.cells = true) (j : RowJob) (r : Nat) {p : Nat}
    (hp : p < 268) : sparseGet (fun _ => 0) (programRow b j).cells (r * 268 + p) =
      if r = j.row ∧ (p < 256 ∨ (p < 264 ∧ (b.subst.getD (p - 256) (0, 0)).2 = 2)) then
        max (-15) (min 15 (j.image.getD p 0).toInt) else sparseGet (fun _ => 0) b.cells (r * 268 + p) := by
  have hwritten : p ∈ writtenPairs b ↔ p < 256 ∨ (p < 264 ∧ (b.subst.getD (p - 256) (0, 0)).2 = 2) := by
    rw [mem_writtenPairs]
    omega
  have hlt : ∀ q ∈ writtenPairs b, q < 268 := fun q hq => by
    have := mem_writtenPairs.1 hq
    omega
  rw [programRow_eq, sparseGet_putRow hp hlt hwf, clampI_eq (by decide)]
  simp only [hwritten]

/-! ### A row ends (R495, R496) -/

section RowDone

variable {s : State} {n a loops : Nat} {failed : List Nat} {j : RowJob}

/-- The bank after a row, with its failed pairs. -/
def rowBank (b : Bank) (j : RowJob) (failed : List Nat) : Bank :=
  { programRow b j with failed := (failed.filter (fun p => decide (p < 268))).foldl setIns (programRow b j).failed }

theorem mem_rowBank_failed {b : Bank} {p : Nat} : p ∈ (rowBank b j failed).failed ↔ p ∈ b.failed ∨ (p ∈ failed ∧ p < 268) := by
  rw [rowBank, mem_foldl_setIns, programRow_eq, List.mem_filter, decide_eq_true_eq]

/-- The array after a row. -/
def rowArr (x : CimArray) (j : RowJob) (failed : List Nat) : CimArray :=
  { x.setBank (!x.cb) (rowBank (x.bank (!x.cb)) j failed) with busy := none }

/-- A row has ended, its failed pairs not yet shown. -/
def rowEnded (n a loops : Nat) (failed : List Nat) (j : RowJob) (s : State) : State :=
  ((s.setArr n a (rowArr (s.arr n a) j failed)).clear (F.CIM_A_PGM_BUSY n a)).set (F.CIM_A_PGM_LOOPS n a) (min loops 34)

/-- The failed pairs of the row are shown. -/
def failShown (n a : Nat) (failed : List Nat) (s : State) : State :=
  if (failed.filter (fun p => decide (p < 268))).isEmpty then s else s.raise (F.CIM_A_PGM_FAILROW n a)

theorem rowDone_of_busy (h : (s.arr n a).busy = some j) :
    rowDone n a loops failed s = grantSlot (failShown n a failed (rowEnded n a loops failed j s)) := by
  simp only [rowDone, h]
  rfl

theorem failShown_tiles : (failShown n a failed s).tiles = s.tiles := by
  rw [failShown, apply_ite State.tiles, State.raise_tiles, ite_self]

theorem failShown_cimq : (failShown n a failed s).cimq = s.cimq := by
  rw [failShown, apply_ite State.cimq, State.raise_cimq, ite_self]

theorem failShown_fw : (failShown n a failed s).fw = s.fw := by
  rw [failShown, apply_ite State.fw, State.raise_fw, ite_self]

theorem failShown_get (hs : s.regsWf) {f : Fld} (hf : (F.CIM_A_PGM_FAILROW n a).apart f) :
    (failShown n a failed s).get f = s.get f := by
  rw [failShown]
  split
  · rfl
  · exact State.get_set_ne hs _ _ _ (pgmFailrow_ok n a) hf

theorem failShown_flag (hs : s.regsWf) (h : ∃ p ∈ failed, p < 268) :
    (failShown n a failed s).flag (F.CIM_A_PGM_FAILROW n a) = true := by
  obtain ⟨p, hp, hlt⟩ := h
  have hmem : p ∈ failed.filter (fun p => decide (p < 268)) := List.mem_filter.2 ⟨hp, decide_eq_true hlt⟩
  rw [failShown, if_neg (mt List.isEmpty_iff.1 (List.ne_nil_of_mem hmem)), State.flag_raise hs _ (pgmFailrow_ok n a)]

theorem rowEnded_regsWf (hs : s.regsWf) : (rowEnded n a loops failed j s).regsWf :=
  State.set_regsWf (State.clear_regsWf (State.setArr_regsWf hs _ _ _) _) _ _

theorem rowEnded_loops (hs : s.regsWf) : (rowEnded n a loops failed j s).get (F.CIM_A_PGM_LOOPS n a) = min loops 34 :=
  State.get_set_fits (State.clear_regsWf (State.setArr_regsWf hs _ _ _) _) _ (pgmLoops_ok n a)
    (Nat.lt_of_le_of_lt (Nat.min_le_right _ _) (by decide : 34 < 2 ^ 6))

theorem rowEnded_busy (hs : s.regsWf) : (rowEnded n a loops failed j s).get (F.CIM_A_PGM_BUSY n a) = 0 := by
  have hwf : (s.setArr n a (rowArr (s.arr n a) j failed)).regsWf := State.setArr_regsWf hs _ _ _
  rw [rowEnded, State.get_set_ne (State.clear_regsWf hwf _) _ _ _ (pgmLoops_ok n a)
    (by simp [Fld.apart, F.CIM_A_PGM_BUSY, F.CIM_A_PGM_LOOPS]), State.get_clear_same hwf _ (pgmBusy_ok n a)]

theorem feedTask_of_no_tasks (h : s.fw.tasks = []) (n a k : Nat) : feedTask n a k s = s := by
  cases k with
  | zero => rfl
  | succ k => simp only [feedTask, h, List.find?_nil]

theorem exec_cimRowDone (n a loops : Nat) (failed : List Nat) (s : State) :
    exec (.cimRowDone n a loops failed) s = execCimRowDone n a loops failed s := rfl

/-- A row ends that no other waits behind, in a bank that Bench does not program from an image. -/
theorem exec_cimRowDone_of_busy (hon : s.tileOn n = true) (ha : a < 4) (hbusy : (s.arr n a).busy = some j) (hq : s.cimq = [])
    (htasks : s.fw.tasks = []) :
    exec (.cimRowDone n a loops failed) s = .next (failShown n a failed (rowEnded n a loops failed j s)) := by
  have hdone : rowDone n a loops failed s = failShown n a failed (rowEnded n a loops failed j s) := by
    rw [rowDone_of_busy hbusy, grantSlot_of_empty]
    rw [failShown_cimq, rowEnded, State.set_cimq, State.clear_cimq, State.setArr_cimq, hq]
  have htasks' : (failShown n a failed (rowEnded n a loops failed j s)).fw.tasks = [] := by
    rw [failShown_fw, rowEnded, State.set_fw, State.clear_fw, State.setArr_fw, htasks]
  have harr : arrOn s n a = true := by rw [arrOn, hon, decide_eq_true ha, Bool.and_self]
  rw [exec_cimRowDone, execCimRowDone, if_pos harr, hdone, feedTask_of_no_tasks htasks']

theorem rowDone_effect (hs : s.regsWf) (h : s.HasArr n a) : let x := s.arr n a
    let t := failShown n a failed (rowEnded n a loops failed j s); let bk := (t.arr n a).bank (!x.cb)
    (t.arr n a).busy = none ∧ (t.arr n a).bank x.cb = x.bank x.cb ∧ t.flag (F.CIM_A_PGM_BUSY n a) = false ∧
      t.get (F.CIM_A_PGM_LOOPS n a) = min loops 34 ∧
      (∀ p, p ∈ bk.failed ↔ p ∈ (x.bank (!x.cb)).failed ∨ (p ∈ failed ∧ p < 268)) ∧ ((∃ p ∈ failed, p < 268) → t.flag (F.CIM_A_PGM_FAILROW n a) = true) := by
  intro x t bk
  have hwf : (rowEnded n a loops failed j s).regsWf := rowEnded_regsWf hs
  have harr : t.arr n a = rowArr x j failed := by
    rw [State.arr_eq_of_tiles failShown_tiles, rowEnded, State.set_arr, State.clear_arr, State.arr_setArr_same h]
  have hbank : bk = rowBank (x.bank (!x.cb)) j failed :=
    (congrArg (CimArray.bank · (!x.cb)) harr).trans (CimArray.bank_setBank_same _ _ _)
  refine ⟨by rw [harr]; rfl, ?_, ?_, ?_, fun p => hbank ▸ mem_rowBank_failed, failShown_flag hwf⟩
  · rw [harr]
    exact CimArray.bank_setBank_other _ _ _
  · rw [State.flag, failShown_get hwf (by simp [Fld.apart, F.CIM_A_PGM_BUSY, F.CIM_A_PGM_FAILROW]), rowEnded_busy hs]
    rfl
  · rw [failShown_get hwf (by simp [Fld.apart, F.CIM_A_PGM_LOOPS, F.CIM_A_PGM_FAILROW]), rowEnded_loops hs]

end RowDone

end Sys2Proof.Machine

/-!
PROOF. Program sessions (12 R491, R494, R497, R498, R503, R505): START, GO, FINISH and ABORT of an array; `CimPrograms`.
-/

namespace Sys2Proof.Machine

theorem exec_cimPgmStart (g : Agent) (n a : Nat) (isB : Bool) (s : State) :
    exec (.cimPgmStart g n a isB) s = execCimPgmStart g n a isB s := rfl
theorem exec_cimPgmGo (g : Agent) (n a : Nat) (buf : Bool) (row : BitVec 9) (s : State) :
    exec (.cimPgmGo g n a buf row) s = execCimPgmGo g n a buf row s := rfl
theorem exec_cimPgmFinish (g : Agent) (n a : Nat) (s : State) : exec (.cimPgmFinish g n a) s = execCimPgmFinish g n a s := rfl
theorem exec_cimPgmAbort (g : Agent) (n a : Nat) (s : State) : exec (.cimPgmAbort g n a) s = execCimPgmAbort g n a s := rfl
theorem exec_cimRowSlotGrant (s : State) : exec .cimRowSlotGrant s = .next (grantSlot s) := rfl

section Commands

variable {s : State} {n a : Nat}

theorem exec_cimPgmStart_of_on (hon : s.tileOn n = true) (ha : a < 4) (isB : Bool) :
    exec (.cimPgmStart .bench n a isB) s = .next (pgmStart n a isB s) := by
  rw [exec_cimPgmStart, execCimPgmStart, if_pos ha, State.guardTile_bench hon]

theorem exec_cimPgmGo_of_on (hon : s.tileOn n = true) (ha : a < 4) (buf : Bool) (row : BitVec 9) :
    exec (.cimPgmGo .bench n a buf row) s = .next (pgmGo n a (b2n buf) row.toNat s) := by
  rw [exec_cimPgmGo, execCimPgmGo, if_pos ha, State.guardTile_bench hon]

theorem exec_cimPgmFinish_of_on (hon : s.tileOn n = true) (ha : a < 4) :
    exec (.cimPgmFinish .bench n a) s = .next (pgmFinish n a s) := by
  rw [exec_cimPgmFinish, execCimPgmFinish, if_pos ha, State.guardTile_bench hon]

theorem exec_cimPgmAbort_of_on (hon : s.tileOn n = true) (ha : a < 4) :
    exec (.cimPgmAbort .bench n a) s = .next (endSession n a s) := by
  rw [exec_cimPgmAbort, execCimPgmAbort, if_pos ha, State.guardTile_bench hon]

end Commands

/-! ### A refusal -/

section Refusal

variable {s : State} {n a : Nat}

theorem pgmRefuse_flag (hs : s.regsWf) : (pgmRefuse n a s).flag (F.CIM_A_PGM_REFUSED n a) = true :=
  State.flag_raise hs _ (pgmRefused_ok n a)

theorem pgmRefuse_tiles : (pgmRefuse n a s).tiles = s.tiles := State.raise_tiles s _

theorem pgmRefuse_cimq : (pgmRefuse n a s).cimq = s.cimq := State.raise_cimq s _

end Refusal

/-! ### START (R491, R494) -/

section Start

variable {s : State} {n a : Nat} {isB : Bool}

/-- Bank `isB` of the array is being programmed. -/
def CimArray.opened (x : CimArray) (isB : Bool) : CimArray :=
  { x.setBank isB { x.bank isB with state := .programming, tag := none } with session := true }

theorem pgmStart_of_twin (hcb : (s.arr n a).cb ≠ isB) (hspare : (s.arr n a).spare = none) :
    pgmStart n a isB s = (s.set (F.CIM_A_PGM_BANK n a) (b2n isB)).setArr n a ((s.arr n a).opened isB) := by
  simp [pgmStart, hspare, hcb, CimArray.opened]

theorem pgmStart_of_cbank (hcb : (s.arr n a).cb = isB) :
    pgmStart n a isB s = pgmRefuse n a (s.set (F.CIM_A_PGM_BANK n a) (b2n isB)) := by
  simp [pgmStart, hcb]

theorem pgmStart_effect (hs : s.regsWf) (h : s.HasArr n a) (hcb : (s.arr n a).cb ≠ isB) (hspare : (s.arr n a).spare = none) :
    let t := pgmStart n a isB s
    t.arr n a = (s.arr n a).opened isB ∧ t.flag (F.CIM_A_PGM_BANK n a) = isB ∧
      (∀ b, b < 4 → b ≠ a → t.arr n b = s.arr n b) ∧ t.seq n = s.seq n := by
  have h' : (s.set (F.CIM_A_PGM_BANK n a) (b2n isB)).HasArr n a := h.of_tiles (State.set_tiles _ _ _)
  rw [pgmStart_of_twin hcb hspare]
  refine ⟨State.arr_setArr_same h' _, ?_, fun b _ hb => ?_, ?_⟩
  · rw [State.setArr_flag, State.flag_set_b2n hs _ _ (pgmBank_ok n a)]
  · rw [State.arr_setArr_ne h' hb, State.set_arr]
  · rw [(State.CimOnly.setArr n a _ _).seq, State.set_seq]

end Start

/-! ### GO (R495, R497, R503; log entry 62) -/

section Go

variable {s : State} {n a buf row : Nat}

/-- The buffer and the row of a GO stand in the register. -/
def goShown (n a buf row : Nat) (s : State) : State := (s.set (F.CIM_A_PGM_BUF n a) buf).set (F.CIM_A_PGM_ROW n a) row

/-- The row of a GO waits for a slot, behind those before it. -/
def rowQueued (n a buf row : Nat) (s : State) : State :=
  ((s.setArr n a { s.arr n a with queued := some (row, buf) }).raise (F.CIM_A_PGM_QUEUED n a)).setCimq (s.cimq ++ [(n, a)])

theorem goShown_tiles : (goShown n a buf row s).tiles = s.tiles := by rw [goShown, State.set_tiles, State.set_tiles]

theorem goShown_arr : (goShown n a buf row s).arr n a = s.arr n a := State.arr_eq_of_tiles goShown_tiles n a

theorem goShown_cimq : (goShown n a buf row s).cimq = s.cimq := by rw [goShown, State.set_cimq, State.set_cimq]

theorem goShown_writes : s.Writes [(F.CIM_A_PGM_BUSY n a).off] (goShown n a buf row s) :=
  ((State.Writes.refl s _).set (f := F.CIM_A_PGM_BUF n a) (.head _) buf).set (f := F.CIM_A_PGM_ROW n a) (.head _) row

theorem goShown_bank (hs : s.regsWf) : (goShown n a buf row s).flag (F.CIM_A_PGM_BANK n a) = s.flag (F.CIM_A_PGM_BANK n a) := by
  rw [goShown, State.flag_set_ne (State.set_regsWf hs _ _) _ _ _ (pgmRow_ok n a) (by simp [Fld.apart, F.CIM_A_PGM_ROW, F.CIM_A_PGM_BANK]),
    State.flag_set_ne hs _ _ _ (pgmBuf_ok n a) (by simp [Fld.apart, F.CIM_A_PGM_BUF, F.CIM_A_PGM_BANK])]

theorem pgmGo_refused (h : (s.arr n a).session = false ∨ (s.arr n a).queued.isSome = true) :
    pgmGo n a buf row s = pgmRefuse n a (goShown n a buf row s) := by
  have harr : (goShown n a buf row s).arr n a = s.arr n a := goShown_arr
  rw [pgmGo, ← goShown]
  simp only [harr]
  rw [if_pos (by rcases h with h | h <;> simp [h])]

theorem pgmGo_accepted (hs : s.regsWf) (hsession : (s.arr n a).session = true) (hqueued : (s.arr n a).queued = none)
    (hcb : (s.arr n a).cb ≠ s.flag (F.CIM_A_PGM_BANK n a)) :
    pgmGo n a buf row s = grantSlot (rowQueued n a buf row (goShown n a buf row s)) := by
  have harr : (goShown n a buf row s).arr n a = s.arr n a := goShown_arr
  rw [pgmGo, ← goShown]
  simp only [harr, goShown_bank hs, State.raise_cimq, State.setArr_cimq]
  rw [if_neg (by simp [hsession, hqueued, hcb]), rowQueued, harr]

theorem rowQueued_arr (h : s.HasArr n a) : (rowQueued n a buf row s).arr n a = { s.arr n a with queued := some (row, buf) } := by
  rw [rowQueued, State.setCimq_arr, State.raise_arr, State.arr_setArr_same h]

theorem rowQueued_hasArr (h : s.HasArr n a) : (rowQueued n a buf row s).HasArr n a := (h.setArr _).of_tiles rfl

theorem rowQueued_cimq : (rowQueued n a buf row s).cimq = s.cimq ++ [(n, a)] := by rw [rowQueued, State.setCimq_cimq]

theorem rowQueued_writes : s.Writes [(F.CIM_A_PGM_BUSY n a).off] (rowQueued n a buf row s) :=
  (((State.Writes.refl s _).of_regs (State.setArr_regs _ _ _ _)).set (f := F.CIM_A_PGM_QUEUED n a) (.head _) 1).of_regs
    (State.setCimq_regs _ _)

theorem rowQueued_flag (hs : s.regsWf) : (rowQueued n a buf row s).flag (F.CIM_A_PGM_QUEUED n a) = true := by
  rw [rowQueued, State.setCimq_flag, State.flag_raise (State.setArr_regsWf hs _ _ _) _ (pgmQueued_ok n a)]

theorem rowQueued_slotsUsed : slotsUsed (rowQueued n a buf row s) = slotsUsed s := by
  rw [rowQueued, slotsUsed_of_tiles (State.setCimq_tiles _ _), slotsUsed_of_tiles (State.raise_tiles _ _)]
  exact slotsUsed_setArr rfl rfl

/-- The part's number of slots lies beside the program registers. -/
theorem pgmSlots_of_writes {t : State} (h : s.Writes [(F.CIM_A_PGM_BUSY n a).off] t) : t.get F.GLB_CIM_PGM = s.get F.GLB_CIM_PGM :=
  h.get (by
    simp only [F.GLB_CIM_PGM, F.CIM_A_PGM_BUSY, List.mem_singleton]
    omega)

theorem pgmGo_effect (hs : s.regsWf) (h : s.HasArr n a) (hsession : (s.arr n a).session = true) (hqueued : (s.arr n a).queued = none)
    (hcb : (s.arr n a).cb ≠ s.flag (F.CIM_A_PGM_BANK n a)) (hq : s.cimq = []) : let t := pgmGo n a buf row s
    if (s.arr n a).busy = none ∧ slotsUsed s < s.get F.GLB_CIM_PGM then
      t.arr n a = { s.arr n a with busy := some ⟨row, rowImage s n a buf⟩ } ∧ t.cimq = [] ∧
        t.flag (F.CIM_A_PGM_BUSY n a) = true ∧ t.flag (F.CIM_A_PGM_QUEUED n a) = false
    else t.arr n a = { s.arr n a with queued := some (row, buf) } ∧ t.cimq = [(n, a)] ∧ t.flag (F.CIM_A_PGM_QUEUED n a) = true := by
  intro t
  obtain ⟨u, hu⟩ : ∃ u, u = rowQueued n a buf row (goShown n a buf row s) := ⟨_, rfl⟩
  have hshown : (goShown n a buf row s).HasArr n a := h.of_tiles goShown_tiles
  have hwrites : s.Writes [(F.CIM_A_PGM_BUSY n a).off] u := hu ▸ goShown_writes.trans rowQueued_writes
  have ht : t = grantSlot u := hu ▸ pgmGo_accepted hs hsession hqueued hcb
  have harr : u.arr n a = { s.arr n a with queued := some (row, buf) } := by rw [hu, rowQueued_arr hshown, goShown_arr]
  have hcimq : u.cimq = [(n, a)] := by rw [hu, rowQueued_cimq, goShown_cimq, hq, List.nil_append]
  have hslots : slotsUsed u = slotsUsed s := by rw [hu, rowQueued_slotsUsed, slotsUsed_of_tiles goShown_tiles]
  have hnum : u.get F.GLB_CIM_PGM = s.get F.GLB_CIM_PGM := pgmSlots_of_writes hwrites
  by_cases hgrant : (s.arr n a).busy = none ∧ slotsUsed s < s.get F.GLB_CIM_PGM
  · obtain ⟨hbusy, hfree⟩ := hgrant
    have hgranted : t = rowGranted n a row buf u := by
      rw [ht, grantSlot_of_waiting (by rwa [hslots, hnum]) hcimq (by rw [harr]; exact hbusy) (by rw [harr])]
    rw [if_pos ⟨hbusy, hfree⟩, hgranted]
    obtain ⟨hgarr, hgq, hgbusy, hgqueued⟩ :=
      rowGranted_effect (row := row) (buf := buf) (hwrites.wf hs) (hu ▸ rowQueued_hasArr hshown) hcimq
    refine ⟨?_, hgq, hgbusy, hgqueued⟩
    rw [hgarr, harr, rowImage_of_writes hwrites, ← hqueued]
  · have hwaits : t = u := by
      rw [ht]
      rcases Classical.not_and_iff_not_or_not.1 hgrant with hbusy | hfull
      · exact grantSlot_of_busy hcimq (by rw [harr]; exact hbusy)
      · exact grantSlot_of_full (by rw [hslots, hnum]; exact Nat.le_of_not_lt hfull)
    rw [if_neg hgrant, hwaits]
    exact ⟨harr, hcimq, hu ▸ rowQueued_flag (goShown_writes.wf hs)⟩

end Go

/-! ### FINISH (R494, R498, R503; log entry 62) -/

section Finish

variable {s : State} {n a : Nat}

/-- Every failed pair is served by a spare. -/
theorem unserved_eq_nil_iff {b : Bank} : unserved b = [] ↔ ∀ p ∈ b.failed, p < 256 → b.via p ≠ p := by
  simp [unserved, List.filter_eq_nil_iff]

/-- The bank of a session that ends has been programmed once more. -/
def Bank.counted (b : Bank) : Bank := { b with count := min 65535 (b.count + 1) }

/-- The session of an array ends with `b` in its other bank. -/
def CimArray.closed (x : CimArray) (b : Bank) : CimArray := { x.setBank (!x.cb) b with session := false }

theorem CimArray.closed_bank (x : CimArray) (b : Bank) : (x.closed b).bank (!x.cb) = b := CimArray.bank_setBank_same _ _ _

theorem CimArray.closed_cbank (x : CimArray) (b : Bank) : (x.closed b).bank x.cb = x.bank x.cb := CimArray.bank_setBank_other _ _ _

theorem pgmFinish_refused
    (h : (s.arr n a).session = false ∨ (s.arr n a).busy.isSome = true ∨ (s.arr n a).queued.isSome = true) :
    pgmFinish n a s = s.raise (F.CIM_A_PGM_REFUSED n a) := by
  rw [pgmFinish]
  exact if_pos (by rcases h with h | h | h <;> simp [h])

/-- What is left of an accepted FINISH: bank VALID with its seal, or INVALID. -/
theorem pgmFinish_accepted (hsession : (s.arr n a).session = true) (hbusy : (s.arr n a).busy = none)
    (hqueued : (s.arr n a).queued = none) (hcb : (s.arr n a).cb ≠ s.flag (F.CIM_A_PGM_BANK n a)) : let x := s.arr n a
    let b := (x.bank (!x.cb)).counted
    (unserved b = [] → pgmFinish n a s = s.setArr n a (x.closed (sealBank n a b s))) ∧
      (unserved b ≠ [] → (pgmFinish n a s).tiles = (s.setArr n a (x.closed { b with state := .invalid })).tiles) := by
  intro x b
  have hnot : ¬((!x.session) = true ∨ x.busy.isSome = true ∨ x.queued.isSome = true ∨ x.cb = s.flag (F.CIM_A_PGM_BANK n a)) := by
    simp [x, hsession, hbusy, hqueued, hcb]
  constructor
  · intro hserved
    rw [pgmFinish, if_neg hnot]
    exact if_pos (List.isEmpty_iff.2 hserved)
  · intro hunserved
    rw [pgmFinish, if_neg hnot]
    refine (congrArg State.tiles (if_neg (mt List.isEmpty_iff.1 hunserved))).trans ?_
    dsimp only
    split
    · exact State.bench_tiles _ _ _
    · rfl

theorem pgmFinish_effect (h : s.HasArr n a) (hsession : (s.arr n a).session = true) (hbusy : (s.arr n a).busy = none)
    (hqueued : (s.arr n a).queued = none) (hcb : (s.arr n a).cb ≠ s.flag (F.CIM_A_PGM_BANK n a)) : let x := s.arr n a
    let b := x.bank (!x.cb); let t := pgmFinish n a s; let b' := (t.arr n a).bank (!x.cb)
    (t.arr n a).session = false ∧ b'.count = min 65535 (b.count + 1) ∧ b'.cells = b.cells ∧
      ((∀ p ∈ b.failed, p < 256 → b.via p ≠ p) → b'.state = .valid ∧ b'.tag = some (s.get (F.CIM_A_SEAL_IN n a)) ∧
        b'.gamma = x.gamma ∧ b'.beta = x.beta ∧ b'.stamp = s.tb.sec) ∧
      ((∃ p ∈ b.failed, p < 256 ∧ b.via p = p) → b'.state = .invalid) := by
  intro x b t b'
  obtain ⟨hvalid, hinvalid⟩ := pgmFinish_accepted hsession hbusy hqueued hcb
  by_cases hserved : unserved b.counted = []
  · have harr : t.arr n a = x.closed (sealBank n a b.counted s) :=
      (congrArg (State.arr · n a) (hvalid hserved)).trans (State.arr_setArr_same h _)
    have hb : b' = sealBank n a b.counted s := (congrArg (CimArray.bank · (!x.cb)) harr).trans (CimArray.closed_bank _ _)
    rw [harr, hb]
    exact ⟨rfl, rfl, rfl, fun _ => ⟨rfl, rfl, rfl, rfl, rfl⟩,
      fun ⟨p, hp, hlt, hvia⟩ => absurd hvia (unserved_eq_nil_iff.1 hserved p hp hlt)⟩
  · have harr : t.arr n a = x.closed { b.counted with state := .invalid } :=
      (State.arr_eq_of_tiles (hinvalid hserved) n a).trans (State.arr_setArr_same h _)
    have hb : b' = { b.counted with state := .invalid } := (congrArg (CimArray.bank · (!x.cb)) harr).trans (CimArray.closed_bank _ _)
    rw [harr, hb]
    exact ⟨rfl, rfl, rfl, fun hall => absurd (unserved_eq_nil_iff.2 hall) hserved, fun _ => rfl⟩

end Finish

/-! ### ABORT (R505) -/

section Abort

variable {s : State} {n a : Nat}

theorem stopRow_of_idle (h : (s.arr n a).busy = none) : stopRow n a s = s := by
  simp only [stopRow, h]

theorem dropQueued_arr (h : s.HasArr n a) : (dropQueued n a s).arr n a = { s.arr n a with queued := none } := by
  rw [dropQueued, State.clear_arr, State.arr_setArr_same (h.of_tiles (State.setCimq_tiles _ _)), State.setCimq_arr]

theorem not_mem_dropQueued_cimq : (n, a) ∉ (dropQueued n a s).cimq := by
  rw [dropQueued, State.clear_cimq, State.setArr_cimq, State.setCimq_cimq]
  simp

theorem endSession_of_idle (hsession : (s.arr n a).session = true) (hbusy : (s.arr n a).busy = none) (h : s.HasArr n a) :
    let x := (dropQueued n a s).arr n a
    endSession n a s = (dropQueued n a s).setArr n a (x.closed { x.bank (!x.cb) with state := .invalid }) := by
  intro x
  have hsession' : x.session = true := by
    rw [show x = _ from dropQueued_arr h]
    exact hsession
  rw [endSession, stopRow_of_idle hbusy]
  exact if_pos hsession'

theorem endSession_effect (h : s.HasArr n a) (hsession : (s.arr n a).session = true) (hbusy : (s.arr n a).busy = none) :
    let x := s.arr n a; let t := endSession n a s
    (t.arr n a).session = false ∧ ((t.arr n a).bank (!x.cb)).state = .invalid ∧ (t.arr n a).queued = none ∧
      ((t.arr n a).bank x.cb) = x.bank x.cb ∧ (∀ k ∈ t.cimq, k ≠ (n, a)) := by
  intro x t
  have hdropped : (dropQueued n a s).HasArr n a := ((h.of_tiles (State.setCimq_tiles _ _)).setArr _).of_tiles (State.clear_tiles _ _)
  have ht := endSession_of_idle hsession hbusy h
  rw [dropQueued_arr h] at ht
  have harr : t.arr n a = CimArray.closed { x with queued := none } { x.bank (!x.cb) with state := .invalid } :=
    (congrArg (State.arr · n a) ht).trans (State.arr_setArr_same hdropped _)
  have hcimq : t.cimq = (dropQueued n a s).cimq := (congrArg State.cimq ht).trans (State.setArr_cimq _ _ _ _)
  rw [harr, hcimq]
  refine ⟨rfl, congrArg Bank.state (CimArray.closed_bank { x with queued := none } _), ?_,
    CimArray.closed_cbank { x with queued := none } _, fun k hk => ne_of_mem_of_not_mem hk not_mem_dropQueued_cimq⟩
  rw [CimArray.closed]
  cases (!x.cb) <;> rfl

end Abort

/-- Settles O43: each command of a session has its effect lemma. One row queued per array, and GO outside a session refused, are the
model's choice (log entry 62). -/
theorem cimPrograms : Obligations.CimPrograms := by
  unfold Obligations.CimPrograms
  refine ⟨fun s n a isB hs hz hn ha hon => ⟨fun hcb hspare => ?_, fun hcb => ?_⟩,
    fun s n a buf row hs hz hn ha hon => ⟨fun hsession hqueued hcb hq => ?_, fun hrefused => ?_⟩,
    fun s hidle => ?_, fun s n a row buf rest hs hz hn ha hfree hq hbusy hqueued => ?_,
    fun s n a loops failed j hs hz hn ha hon hbusy hq htasks hrow => ?_,
    fun b j r p hwf hp => sparseGet_programRow hwf j r hp,
    fun s n a hs hz hn ha hon => ⟨fun hsession hbusy hqueued hcb => ?_, fun hrefused => ?_, fun hsession hbusy => ?_⟩⟩
  · exact ⟨_, exec_cimPgmStart_of_on hon ha isB, pgmStart_effect hs.regs (hz.hasArr hn ha) hcb hspare⟩
  · rw [exec_cimPgmStart_of_on hon ha isB, pgmStart_of_cbank hcb]
    exact ⟨_, rfl, pgmRefuse_flag (State.set_regsWf hs.regs _ _), pgmRefuse_tiles.trans (State.set_tiles _ _ _)⟩
  · exact ⟨_, exec_cimPgmGo_of_on hon ha buf row, pgmGo_effect hs.regs (hz.hasArr hn ha) hsession hqueued hcb hq⟩
  · rw [exec_cimPgmGo_of_on hon ha buf row, pgmGo_refused hrefused]
    exact ⟨_, rfl, pgmRefuse_flag (goShown_writes.wf hs.regs), pgmRefuse_tiles.trans goShown_tiles, pgmRefuse_cimq.trans goShown_cimq⟩
  · rw [exec_cimRowSlotGrant, hidle.elim grantSlot_of_full grantSlot_of_empty]
  · rw [exec_cimRowSlotGrant, grantSlot_of_waiting hfree hq hbusy hqueued]
    exact ⟨_, rfl, rowGranted_effect hs.regs (hz.hasArr hn ha) hq⟩
  · exact ⟨_, exec_cimRowDone_of_busy hon ha hbusy hq htasks, rowDone_effect hs.regs (hz.hasArr hn ha)⟩
  · exact ⟨_, exec_cimPgmFinish_of_on hon ha, pgmFinish_effect (hz.hasArr hn ha) hsession hbusy hqueued hcb⟩
  · rw [exec_cimPgmFinish_of_on hon ha, pgmFinish_refused hrefused]
  · exact ⟨_, exec_cimPgmAbort_of_on hon ha, endSession_effect (hz.hasArr hn ha) hsession hbusy⟩

end Sys2Proof.Machine
